-- ==== Sys2Proof/Word.lean ====
section
/-! DEFINITION. The plain data types the whole model uses: words, the sparse map that every file of registers, every memory and every table is held in, and the names of registers, masks and identifiers that instructions carry. -/

namespace Sys2Proof

/-- A byte of memory (00 R3). -/
abbrev Byte := BitVec 8
/-- A 32-bit slot word (06 R116). -/
abbrev SlotWord := BitVec 32
/-- A 64-bit doubleword: scalar registers, record and descriptor words. -/
abbrev DWord := BitVec 64

/-- A sparse map from numbers to values: pairs with strictly rising keys, none holding the value
that an unlisted key reads as.  Equal maps are then equal data. -/
abbrev FMap (α : Type) := List (Nat × α)

/-- One 32-bit lane of a vector register (03 R66). -/
abbrev Lane := BitVec 32
/-- A vector register: lane j = 16c + l of cluster c at bits [32j+31:32j] (03 R66, 08 R181). -/
abbrev VReg := BitVec 4096
/-- A mask register: 4 bits for lane j at bits [4j+3:4j] (08 R187). -/
abbrev Mask := BitVec 512
/-- An address register (00 R9). -/
abbrev AReg := BitVec 48
/-- An engine descriptor: word n at bits [64n+63:64n] (06 R127). -/
abbrev Desc := BitVec 256
/-- A format tag of 04 R81. -/
abbrev Tag := BitVec 4

/-- What an atomic does at its home (10 R230). -/
inductive AtomOp where
  | add | addf | min | max | and | or | xor | xch | cas
deriving DecidableEq, Repr

/-- What a Phicolane flit that arrives intact carries into the device (20 R392, 01 R22, R29).
The contents come from outside the device. -/
inductive Flit where
  /-- A response from the device with this fabric ID to the request with this tag, holding this data. -/
  | response (fid : BitVec 12) (tag : Nat) (data : Nat)
  /-- An abort response to the request with this tag. -/
  | abort (fid : BitVec 12) (tag : Nat)
  /-- A read request of `n` bytes at a physical address, from the master with this fabric ID. -/
  | read (fid : BitVec 12) (pa : BitVec 39) (n : Nat)
  /-- A write request of `n` bytes at a physical address, from the master with this fabric ID. -/
  | write (fid : BitVec 12) (pa : BitVec 39) (n : Nat) (data : Nat) (poisoned : Bool)
  /-- An atomic at a physical address, from the master with this fabric ID: what it does (10 R230), its SZ code, and its operands. -/
  | atomic (fid : BitVec 12) (pa : BitVec 39) (op : AtomOp) (sz : BitVec 3) (x : BitVec 64) (x2 : BitVec 64)
  /-- Any other flit, which only shows that its sender is alive. -/
  | other (fid : BitVec 12)
deriving DecidableEq, Repr

end Sys2Proof
end

