-- ==== Sys2Proof/Syntax.lean ====
section
/-! DEFINITION. Instr: one constructor for each row of the opcode table; and the header that a slot word carries beside its instruction. -/

namespace Sys2Proof

/-- The instructions and events of the machine, one constructor for each row of the opcode table.

* A slot instruction (06 R116-R126) carries its operand fields by the names the table gives them: `r` is PAIR, `c` is CC, SCOPE or
  CNT, `k` is KP, `x y z` are KC0-KC2, `e` is E, `q` the selecting predicate of SEL and `m` the selecting mask of VSEL.  The STOP,
  PORT and GUARD fields are the header of the slot that holds it (`SlotHeader`).
* A bank micro-op (13 R286) carries its fields likewise, but for T, the jump target of LOOPC and ROWEND, which is part of the
  micro-op slot that holds it (`UopSlot`).
* An event has no encoding and no operand: which unit it happens at, and what comes from outside the device, is the input record
  that the machine's state holds for the step (`Machine.Input`). -/
inductive Instr where
  /-- ADD, R140. -/
  | add (d : BitVec 6) (a : BitVec 6) (b : BitVec 6)
  /-- SUB, R140. -/
  | sub (d : BitVec 6) (a : BitVec 6) (b : BitVec 6)
  /-- MUL, R140. -/
  | mul (d : BitVec 6) (a : BitVec 6) (b : BitVec 6)
  /-- MULH, R140. -/
  | mulh (d : BitVec 6) (a : BitVec 6) (b : BitVec 6)
  /-- MULHU, R140. -/
  | mulhu (d : BitVec 6) (a : BitVec 6) (b : BitVec 6)
  /-- DIV, R140. -/
  | div (d : BitVec 6) (a : BitVec 6) (b : BitVec 6)
  /-- DIVU, R140. -/
  | divu (d : BitVec 6) (a : BitVec 6) (b : BitVec 6)
  /-- REM, R140. -/
  | rem (d : BitVec 6) (a : BitVec 6) (b : BitVec 6)
  /-- REMU, R140. -/
  | remu (d : BitVec 6) (a : BitVec 6) (b : BitVec 6)
  /-- AND, R140. -/
  | and (d : BitVec 6) (a : BitVec 6) (b : BitVec 6)
  /-- OR, R140. -/
  | or (d : BitVec 6) (a : BitVec 6) (b : BitVec 6)
  /-- XOR, R140. -/
  | xor (d : BitVec 6) (a : BitVec 6) (b : BitVec 6)
  /-- ANDN, R140. -/
  | andn (d : BitVec 6) (a : BitVec 6) (b : BitVec 6)
  /-- SHL, R140. -/
  | shl (d : BitVec 6) (a : BitVec 6) (b : BitVec 6)
  /-- SHR, R140. -/
  | shr (d : BitVec 6) (a : BitVec 6) (b : BitVec 6)
  /-- SRA, R140. -/
  | sra (d : BitVec 6) (a : BitVec 6) (b : BitVec 6)
  /-- ROTL, R140. -/
  | rotl (d : BitVec 6) (a : BitVec 6) (b : BitVec 6)
  /-- MIN, R140. -/
  | min (d : BitVec 6) (a : BitVec 6) (b : BitVec 6)
  /-- MAX, R140. -/
  | max (d : BitVec 6) (a : BitVec 6) (b : BitVec 6)
  /-- MINU, R140. -/
  | minu (d : BitVec 6) (a : BitVec 6) (b : BitVec 6)
  /-- MAXU, R140. -/
  | maxu (d : BitVec 6) (a : BitVec 6) (b : BitVec 6)
  /-- CLZ, R140. -/
  | clz (d : BitVec 6) (a : BitVec 6)
  /-- CTZ, R140. -/
  | ctz (d : BitVec 6) (a : BitVec 6)
  /-- POPC, R140. -/
  | popc (d : BitVec 6) (a : BitVec 6)
  /-- SEXT, R141. -/
  | sext (d : BitVec 6) (a : BitVec 6) (n : BitVec 6)
  /-- ZEXT, R141. -/
  | zext (d : BitVec 6) (a : BitVec 6) (n : BitVec 6)
  /-- ADDI, R141. -/
  | addi (d : BitVec 6) (a : BitVec 6) (i : BitVec 6)
  /-- ANDI, R141. -/
  | andi (d : BitVec 6) (a : BitVec 6) (i : BitVec 6)
  /-- ORI, R141. -/
  | ori (d : BitVec 6) (a : BitVec 6) (i : BitVec 6)
  /-- SHLI, R141. -/
  | shli (d : BitVec 6) (a : BitVec 6) (i : BitVec 6)
  /-- SHRI, R141. -/
  | shri (d : BitVec 6) (a : BitVec 6) (i : BitVec 6)
  /-- SRAI, R141. -/
  | srai (d : BitVec 6) (a : BitVec 6) (i : BitVec 6)
  /-- MOVI, R142. -/
  | movi (d : BitVec 6) (i : BitVec 12)
  /-- MOVHI, R142. -/
  | movhi (d : BitVec 6) (i : BitVec 12)
  /-- SEL, R143. -/
  | sel (q : BitVec 4) (d : BitVec 6) (a : BitVec 6) (b : BitVec 6)
  /-- CMP, R144. -/
  | cmp (r : BitVec 3) (c : BitVec 3) (a : BitVec 6) (b : BitVec 6)
  /-- CMPI, R144. -/
  | cmpi (r : BitVec 3) (c : BitVec 3) (a : BitVec 6) (i : BitVec 6)
  /-- LDS, R145. -/
  | lds (d : BitVec 6) (a : BitVec 6) (i : BitVec 6)
  /-- STS, R145. -/
  | sts (d : BitVec 6) (a : BitVec 6) (i : BitVec 6)
  /-- BR, R147. -/
  | br (i : BitVec 18)
  /-- BRI, R147. -/
  | bri (a : BitVec 6)
  /-- CALL, R147. -/
  | call (i : BitVec 18)
  /-- LAUNCH, R149. -/
  | launch (a : BitVec 6)
  /-- PARK, R151. -/
  | park (a : BitVec 6) (b : BitVec 6)
  /-- TRAP, R152. -/
  | trap (i : BitVec 12)
  /-- CSRR, R153. -/
  | csrr (d : BitVec 6) (i : BitVec 12)
  /-- CSRW, R153. -/
  | csrw (d : BitVec 6) (i : BitVec 12)
  /-- CSRS, R153. -/
  | csrs (d : BitVec 6) (i : BitVec 12)
  /-- EDW, R146. -/
  | edw (d : BitVec 6) (a : BitVec 6) (w : BitVec 2)
  /-- EDLD, R146. -/
  | edld (d : BitVec 6) (a : BitVec 6) (i : BitVec 6)
  /-- SEG, R157. -/
  | seg (i : BitVec 18)
  /-- RDV, R157. -/
  | rdv (i : BitVec 18)
  /-- FADD_V0, R169. -/
  | faddV0 (d : BitVec 6) (a : BitVec 6) (b : BitVec 6)
  /-- FADD_V1, R169. -/
  | faddV1 (d : BitVec 6) (a : BitVec 6) (b : BitVec 6)
  /-- FSUB_V0, R169. -/
  | fsubV0 (d : BitVec 6) (a : BitVec 6) (b : BitVec 6)
  /-- FSUB_V1, R169. -/
  | fsubV1 (d : BitVec 6) (a : BitVec 6) (b : BitVec 6)
  /-- FMUL_V0, R169. -/
  | fmulV0 (d : BitVec 6) (a : BitVec 6) (b : BitVec 6)
  /-- FMUL_V1, R169. -/
  | fmulV1 (d : BitVec 6) (a : BitVec 6) (b : BitVec 6)
  /-- FMA_V0, R169. -/
  | fmaV0 (d : BitVec 6) (a : BitVec 6) (b : BitVec 6)
  /-- FMA_V1, R169. -/
  | fmaV1 (d : BitVec 6) (a : BitVec 6) (b : BitVec 6)
  /-- FMS_V0, R169. -/
  | fmsV0 (d : BitVec 6) (a : BitVec 6) (b : BitVec 6)
  /-- FMS_V1, R169. -/
  | fmsV1 (d : BitVec 6) (a : BitVec 6) (b : BitVec 6)
  /-- FMIN_V0, R170. -/
  | fminV0 (d : BitVec 6) (a : BitVec 6) (b : BitVec 6)
  /-- FMIN_V1, R170. -/
  | fminV1 (d : BitVec 6) (a : BitVec 6) (b : BitVec 6)
  /-- FMAX_V0, R170. -/
  | fmaxV0 (d : BitVec 6) (a : BitVec 6) (b : BitVec 6)
  /-- FMAX_V1, R170. -/
  | fmaxV1 (d : BitVec 6) (a : BitVec 6) (b : BitVec 6)
  /-- FABS_V0, R171. -/
  | fabsV0 (d : BitVec 6) (a : BitVec 6)
  /-- FABS_V1, R171. -/
  | fabsV1 (d : BitVec 6) (a : BitVec 6)
  /-- FNEG_V0, R171. -/
  | fnegV0 (d : BitVec 6) (a : BitVec 6)
  /-- FNEG_V1, R171. -/
  | fnegV1 (d : BitVec 6) (a : BitVec 6)
  /-- FCPYS_V0, R171. -/
  | fcpysV0 (d : BitVec 6) (a : BitVec 6) (b : BitVec 6)
  /-- FCPYS_V1, R171. -/
  | fcpysV1 (d : BitVec 6) (a : BitVec 6) (b : BitVec 6)
  /-- FCMP_V0, R172. -/
  | fcmpV0 (m : BitVec 3) (c : BitVec 3) (a : BitVec 6) (b : BitVec 6)
  /-- FCMP_V1, R172. -/
  | fcmpV1 (m : BitVec 3) (c : BitVec 3) (a : BitVec 6) (b : BitVec 6)
  /-- IADD_V0, R174. -/
  | iaddV0 (d : BitVec 6) (a : BitVec 6) (b : BitVec 6)
  /-- IADD_V1, R174. -/
  | iaddV1 (d : BitVec 6) (a : BitVec 6) (b : BitVec 6)
  /-- ISUB_V0, R174. -/
  | isubV0 (d : BitVec 6) (a : BitVec 6) (b : BitVec 6)
  /-- ISUB_V1, R174. -/
  | isubV1 (d : BitVec 6) (a : BitVec 6) (b : BitVec 6)
  /-- IMUL_V0, R174. -/
  | imulV0 (d : BitVec 6) (a : BitVec 6) (b : BitVec 6)
  /-- IMUL_V1, R174. -/
  | imulV1 (d : BitVec 6) (a : BitVec 6) (b : BitVec 6)
  /-- IMAD_V0, R174. -/
  | imadV0 (d : BitVec 6) (a : BitVec 6) (b : BitVec 6)
  /-- IMAD_V1, R174. -/
  | imadV1 (d : BitVec 6) (a : BitVec 6) (b : BitVec 6)
  /-- IADDW_V0, R175. -/
  | iaddwV0 (d : BitVec 6) (a : BitVec 6) (b : BitVec 6)
  /-- IADDW_V1, R175. -/
  | iaddwV1 (d : BitVec 6) (a : BitVec 6) (b : BitVec 6)
  /-- IMADW_V0, R175. -/
  | imadwV0 (d : BitVec 6) (a : BitVec 6) (b : BitVec 6)
  /-- IMADW_V1, R175. -/
  | imadwV1 (d : BitVec 6) (a : BitVec 6) (b : BitVec 6)
  /-- IMIN_V0, R174. -/
  | iminV0 (d : BitVec 6) (a : BitVec 6) (b : BitVec 6)
  /-- IMIN_V1, R174. -/
  | iminV1 (d : BitVec 6) (a : BitVec 6) (b : BitVec 6)
  /-- IMAX_V0, R174. -/
  | imaxV0 (d : BitVec 6) (a : BitVec 6) (b : BitVec 6)
  /-- IMAX_V1, R174. -/
  | imaxV1 (d : BitVec 6) (a : BitVec 6) (b : BitVec 6)
  /-- IABS_V0, R174. -/
  | iabsV0 (d : BitVec 6) (a : BitVec 6)
  /-- IABS_V1, R174. -/
  | iabsV1 (d : BitVec 6) (a : BitVec 6)
  /-- AND_V0, R176. -/
  | andV0 (d : BitVec 6) (a : BitVec 6) (b : BitVec 6)
  /-- AND_V1, R176. -/
  | andV1 (d : BitVec 6) (a : BitVec 6) (b : BitVec 6)
  /-- OR_V0, R176. -/
  | orV0 (d : BitVec 6) (a : BitVec 6) (b : BitVec 6)
  /-- OR_V1, R176. -/
  | orV1 (d : BitVec 6) (a : BitVec 6) (b : BitVec 6)
  /-- XOR_V0, R176. -/
  | xorV0 (d : BitVec 6) (a : BitVec 6) (b : BitVec 6)
  /-- XOR_V1, R176. -/
  | xorV1 (d : BitVec 6) (a : BitVec 6) (b : BitVec 6)
  /-- SHL_V0, R174. -/
  | shlV0 (d : BitVec 6) (a : BitVec 6) (b : BitVec 6)
  /-- SHL_V1, R174. -/
  | shlV1 (d : BitVec 6) (a : BitVec 6) (b : BitVec 6)
  /-- SHR_V0, R174. -/
  | shrV0 (d : BitVec 6) (a : BitVec 6) (b : BitVec 6)
  /-- SHR_V1, R174. -/
  | shrV1 (d : BitVec 6) (a : BitVec 6) (b : BitVec 6)
  /-- SRA_V0, R174. -/
  | sraV0 (d : BitVec 6) (a : BitVec 6) (b : BitVec 6)
  /-- SRA_V1, R174. -/
  | sraV1 (d : BitVec 6) (a : BitVec 6) (b : BitVec 6)
  /-- ICMP_V0, R176. -/
  | icmpV0 (m : BitVec 3) (c : BitVec 3) (a : BitVec 6) (b : BitVec 6)
  /-- ICMP_V1, R176. -/
  | icmpV1 (m : BitVec 3) (c : BitVec 3) (a : BitVec 6) (b : BitVec 6)
  /-- CVT_V0, R177. -/
  | cvtV0 (d : BitVec 6) (a : BitVec 6) (f : BitVec 4) (n : BitVec 2)
  /-- CVT_V1, R177. -/
  | cvtV1 (d : BitVec 6) (a : BitVec 6) (f : BitVec 4) (n : BitVec 2)
  /-- CVTN_V0, R177. -/
  | cvtnV0 (d : BitVec 6) (a : BitVec 6) (f : BitVec 4) (n : BitVec 2)
  /-- CVTN_V1, R177. -/
  | cvtnV1 (d : BitVec 6) (a : BitVec 6) (f : BitVec 4) (n : BitVec 2)
  /-- UNPKL_V0, R178. -/
  | unpklV0 (d : BitVec 6) (a : BitVec 6) (b : BitVec 6)
  /-- UNPKL_V1, R178. -/
  | unpklV1 (d : BitVec 6) (a : BitVec 6) (b : BitVec 6)
  /-- UNPKH_V0, R178. -/
  | unpkhV0 (d : BitVec 6) (a : BitVec 6) (b : BitVec 6)
  /-- UNPKH_V1, R178. -/
  | unpkhV1 (d : BitVec 6) (a : BitVec 6) (b : BitVec 6)
  /-- PACK_V0, R178. -/
  | packV0 (d : BitVec 6) (a : BitVec 6) (b : BitVec 6)
  /-- PACK_V1, R178. -/
  | packV1 (d : BitVec 6) (a : BitVec 6) (b : BitVec 6)
  /-- SETFMT_V0, R179. -/
  | setfmtV0 (d : BitVec 6) (a : BitVec 6) (f : BitVec 4)
  /-- SETFMT_V1, R179. -/
  | setfmtV1 (d : BitVec 6) (a : BitVec 6) (f : BitVec 4)
  /-- VMOV_V0, R180. -/
  | vmovV0 (d : BitVec 6) (a : BitVec 6)
  /-- VMOV_V1, R180. -/
  | vmovV1 (d : BitVec 6) (a : BitVec 6)
  /-- VMOVI_V0, R180. -/
  | vmoviV0 (d : BitVec 6) (i : BitVec 12)
  /-- VMOVI_V1, R180. -/
  | vmoviV1 (d : BitVec 6) (i : BitVec 12)
  /-- VBCST_V0, R181. -/
  | vbcstV0 (d : BitVec 6) (a : BitVec 6) (b : BitVec 6)
  /-- VBCST_V1, R181. -/
  | vbcstV1 (d : BitVec 6) (a : BitVec 6) (b : BitVec 6)
  /-- VEXT_V0, R181. -/
  | vextV0 (d : BitVec 6) (a : BitVec 6) (b : BitVec 6)
  /-- VEXT_V1, R181. -/
  | vextV1 (d : BitVec 6) (a : BitVec 6) (b : BitVec 6)
  /-- VSEL_V0, R182. -/
  | vselV0 (m : BitVec 3) (d : BitVec 6) (a : BitVec 6) (b : BitVec 6)
  /-- VSEL_V1, R182. -/
  | vselV1 (m : BitVec 3) (d : BitVec 6) (a : BitVec 6) (b : BitVec 6)
  /-- VPERM_V0, R182. -/
  | vpermV0 (d : BitVec 6) (a : BitVec 6) (b : BitVec 6)
  /-- VPERM_V1, R182. -/
  | vpermV1 (d : BitVec 6) (a : BitVec 6) (b : BitVec 6)
  /-- VROT_V0, R182. -/
  | vrotV0 (d : BitVec 6) (a : BitVec 6) (n : BitVec 4)
  /-- VROT_V1, R182. -/
  | vrotV1 (d : BitVec 6) (a : BitVec 6) (n : BitVec 4)
  /-- XCL_V0, R183. -/
  | xclV0 (d : BitVec 6) (a : BitVec 6) (n : BitVec 3)
  /-- XCL_V1, R183. -/
  | xclV1 (d : BitVec 6) (a : BitVec 6) (n : BitVec 3)
  /-- XCLB_V0, R183. -/
  | xclbV0 (d : BitVec 6) (a : BitVec 6) (n : BitVec 3)
  /-- XCLB_V1, R183. -/
  | xclbV1 (d : BitVec 6) (a : BitVec 6) (n : BitVec 3)
  /-- VSCAN_V0, R186. -/
  | vscanV0 (d : BitVec 6) (a : BitVec 6) (x : BitVec 1) (e : BitVec 1) (o : BitVec 2)
  /-- VSCAN_V1, R186. -/
  | vscanV1 (d : BitVec 6) (a : BitVec 6) (x : BitVec 1) (e : BitVec 1) (o : BitVec 2)
  /-- VRED_V0, R186. -/
  | vredV0 (d : BitVec 6) (a : BitVec 6) (e : BitVec 1) (o : BitVec 2)
  /-- VRED_V1, R186. -/
  | vredV1 (d : BitVec 6) (a : BitVec 6) (e : BitVec 1) (o : BitVec 2)
  /-- VST, R184. -/
  | vst (d : BitVec 6) (a : BitVec 4) (i : BitVec 8)
  /-- VSTS, R184. -/
  | vsts (d : BitVec 6) (a : BitVec 4) (x : BitVec 4)
  /-- VSTX, R184. -/
  | vstx (d : BitVec 6) (a : BitVec 4) (x : BitVec 4)
  /-- VLDS, R184. -/
  | vlds (d : BitVec 6) (a : BitVec 4) (x : BitVec 4) (f : BitVec 4)
  /-- VLDX, R184. -/
  | vldx (d : BitVec 6) (a : BitVec 4) (x : BitVec 4) (f : BitVec 4)
  /-- VLDB, R184. -/
  | vldb (d : BitVec 6) (a : BitVec 4) (x : BitVec 4) (f : BitVec 4)
  /-- VLD_INT32, R184. -/
  | vldInt32 (d : BitVec 6) (a : BitVec 4) (i : BitVec 8)
  /-- VLD_UINT32, R184. -/
  | vldUint32 (d : BitVec 6) (a : BitVec 4) (i : BitVec 8)
  /-- VLD_FP32, R184. -/
  | vldFp32 (d : BitVec 6) (a : BitVec 4) (i : BitVec 8)
  /-- VLD_INT16, R184. -/
  | vldInt16 (d : BitVec 6) (a : BitVec 4) (i : BitVec 8)
  /-- VLD_UINT16, R184. -/
  | vldUint16 (d : BitVec 6) (a : BitVec 4) (i : BitVec 8)
  /-- VLD_FP16, R184. -/
  | vldFp16 (d : BitVec 6) (a : BitVec 4) (i : BitVec 8)
  /-- VLD_BF16, R184. -/
  | vldBf16 (d : BitVec 6) (a : BitVec 4) (i : BitVec 8)
  /-- VLD_INT8, R184. -/
  | vldInt8 (d : BitVec 6) (a : BitVec 4) (i : BitVec 8)
  /-- VLD_UINT8, R184. -/
  | vldUint8 (d : BitVec 6) (a : BitVec 4) (i : BitVec 8)
  /-- VLD_E4M3, R184. -/
  | vldE4m3 (d : BitVec 6) (a : BitVec 4) (i : BitVec 8)
  /-- VLD_E5M2, R184. -/
  | vldE5m2 (d : BitVec 6) (a : BitVec 4) (i : BitVec 8)
  /-- VLD_E8M0, R184. -/
  | vldE8m0 (d : BitVec 6) (a : BitVec 4) (i : BitVec 8)
  /-- MKAND, R187. -/
  | mkand (d : BitVec 3) (a : BitVec 3) (b : BitVec 3)
  /-- MKOR, R187. -/
  | mkor (d : BitVec 3) (a : BitVec 3) (b : BitVec 3)
  /-- MKNOT, R187. -/
  | mknot (d : BitVec 3) (a : BitVec 3)
  /-- FRCP, R173. -/
  | frcp (d : BitVec 6) (a : BitVec 6)
  /-- FRSQ, R173. -/
  | frsq (d : BitVec 6) (a : BitVec 6)
  /-- FSQRT, R173. -/
  | fsqrt (d : BitVec 6) (a : BitVec 6)
  /-- FEXP2, R173. -/
  | fexp2 (d : BitVec 6) (a : BitVec 6)
  /-- FLOG2, R173. -/
  | flog2 (d : BitVec 6) (a : BitVec 6)
  /-- FTANH, R173. -/
  | ftanh (d : BitVec 6) (a : BitVec 6)
  /-- MLDW, R198. -/
  | mldw (k : BitVec 3) (x : BitVec 3) (y : BitVec 3) (z : BitVec 3) (e : BitVec 6)
  /-- MSWAP, R200. -/
  | mswap (k : BitVec 3) (x : BitVec 3) (y : BitVec 3) (z : BitVec 3)
  /-- MMUL, R202. -/
  | mmul (k : BitVec 3) (x : BitVec 3) (y : BitVec 3) (z : BitVec 3) (e : BitVec 6)
  /-- MMULS, R203. -/
  | mmuls (k : BitVec 3) (x : BitVec 3) (y : BitVec 3) (z : BitVec 3) (e : BitVec 6)
  /-- MBAG_ACC, R205. -/
  | mbagAcc (k : BitVec 3) (x : BitVec 3) (y : BitVec 3) (z : BitVec 3) (e : BitVec 6)
  /-- MBAG_STEER, R206. -/
  | mbagSteer (k : BitVec 3) (x : BitVec 3) (y : BitVec 3) (z : BitVec 3) (e : BitVec 6)
  /-- MZERO, R208. -/
  | mzero (k : BitVec 3) (x : BitVec 3) (y : BitVec 3) (z : BitVec 3) (e : BitVec 6)
  /-- MANCH, R208. -/
  | manch (k : BitVec 3) (x : BitVec 3) (y : BitVec 3) (z : BitVec 3) (e : BitVec 6)
  /-- MRD, R210. -/
  | mrd (k : BitVec 3) (x : BitVec 3) (y : BitVec 3) (z : BitVec 3) (e : BitVec 6)
  /-- MST, R211. -/
  | mst (k : BitVec 3) (x : BitVec 3) (y : BitVec 3) (z : BitVec 3) (e : BitVec 6)
  /-- MADDV, R209. -/
  | maddv (k : BitVec 3) (x : BitVec 3) (y : BitVec 3) (z : BitVec 3) (e : BitVec 6)
  /-- MSTAT, R212. -/
  | mstat (k : BitVec 3) (x : BitVec 3) (y : BitVec 3) (z : BitVec 3) (e : BitVec 6)
  /-- MTRL, R213. -/
  | mtrl (k : BitVec 3) (x : BitVec 3) (y : BitVec 3) (z : BitVec 3) (e : BitVec 6)
  /-- MLDT, R213. -/
  | mldt (k : BitVec 3) (x : BitVec 3) (y : BitVec 3) (z : BitVec 3) (e : BitVec 6)
  /-- MSTT, R213. -/
  | mstt (k : BitVec 3) (x : BitVec 3) (y : BitVec 3) (z : BitVec 3) (e : BitVec 6)
  /-- MCODE, R199. -/
  | mcode (k : BitVec 3) (x : BitVec 3) (y : BitVec 3) (z : BitVec 3) (e : BitVec 6)
  /-- CPY, R218. -/
  | cpy (k : BitVec 3) (x : BitVec 3) (y : BitVec 3) (z : BitVec 3) (e : BitVec 6)
  /-- CPYM, R218. -/
  | cpym (k : BitVec 3) (x : BitVec 3) (y : BitVec 3) (z : BitVec 3) (e : BitVec 6)
  /-- GATH, R220. -/
  | gath (k : BitVec 3) (x : BitVec 3) (y : BitVec 3) (z : BitVec 3) (e : BitVec 6)
  /-- SCAT, R221. -/
  | scat (k : BitVec 3) (x : BitVec 3) (y : BitVec 3) (z : BitVec 3) (e : BitVec 6)
  /-- FILL, R218. -/
  | fill (k : BitVec 3) (x : BitVec 3) (y : BitVec 3) (z : BitVec 3) (e : BitVec 6)
  /-- BULK, R218. -/
  | bulk (k : BitVec 3) (x : BitVec 3) (y : BitVec 3) (z : BitVec 3) (e : BitVec 6)
  /-- AU, R159. -/
  | au (d : BitVec 4) (a : BitVec 4) (b : BitVec 6)
  /-- AUI, R159. -/
  | aui (d : BitVec 4) (i : BitVec 12)
  /-- AMOV, R159. -/
  | amov (d : BitVec 4) (a : BitVec 6)
  /-- AGET, R159. -/
  | aget (d : BitVec 6) (a : BitVec 4)
  /-- LOOP, R161. -/
  | loop (l : BitVec 3) (c : BitVec 6) (b : BitVec 6) (n : BitVec 3)
  /-- LSTEP, R160. -/
  | lstep (a : BitVec 4) (l : BitVec 3) (s : BitVec 6)
  /-- PAND, R164. -/
  | pand (d : BitVec 4) (a : BitVec 4) (b : BitVec 4)
  /-- POR, R164. -/
  | por (d : BitVec 4) (a : BitVec 4) (b : BitVec 4)
  /-- PXOR, R164. -/
  | pxor (d : BitVec 4) (a : BitVec 4) (b : BitVec 4)
  /-- PNOT, R164. -/
  | pnot (d : BitVec 4) (a : BitVec 4)
  /-- PMOV, R164. -/
  | pmov (d : BitVec 4) (a : BitVec 4)
  /-- PSET, R164. -/
  | pset (d : BitVec 4) (v : BitVec 1)
  /-- STAGE, R163. -/
  | stage (l : BitVec 3) (i : BitVec 12)
  /-- KCLR, R165. -/
  | kclr (k : BitVec 3)
  /-- PROBE, R224. -/
  | probe (r : BitVec 3) (d : BitVec 6) (a : BitVec 4)
  /-- PROBEI, R224. -/
  | probei (r : BitVec 3) (d : BitVec 6) (a : BitVec 4)
  /-- PWB, R225. -/
  | pwb (a : BitVec 4)
  /-- PINV, R225. -/
  | pinv (a : BitVec 4)
  /-- PPIN, R225. -/
  | ppin (a : BitVec 4) (n : BitVec 1)
  /-- LDG, R227. -/
  | ldg (l : BitVec 2) (d : BitVec 6) (a : BitVec 4) (o : BitVec 5) (z : BitVec 3)
  /-- LDGI, R229. -/
  | ldgi (d : BitVec 6) (a : BitVec 4) (o : BitVec 5) (z : BitVec 3)
  /-- LDGV, R227. -/
  | ldgv (d : BitVec 6) (a : BitVec 4) (o : BitVec 5) (z : BitVec 3)
  /-- STG, R227. -/
  | stg (l : BitVec 2) (d : BitVec 6) (a : BitVec 4) (o : BitVec 5) (z : BitVec 3)
  /-- STGV, R227. -/
  | stgv (d : BitVec 6) (a : BitVec 4) (o : BitVec 5) (z : BitVec 3)
  /-- LDA, R227. -/
  | lda (d : BitVec 6) (a : BitVec 4) (z : BitVec 3)
  /-- STL, R227. -/
  | stl (d : BitVec 6) (a : BitVec 4) (o : BitVec 5) (z : BitVec 3)
  /-- AADD, R230. -/
  | aadd (d : BitVec 6) (a : BitVec 4) (w : BitVec 2) (c : BitVec 3) (z : BitVec 3)
  /-- AADDF, R230. -/
  | aaddf (d : BitVec 6) (a : BitVec 4) (w : BitVec 2) (c : BitVec 3) (z : BitVec 3)
  /-- AADDQ_FP32, R231. -/
  | aaddqFp32 (d : BitVec 6) (a : BitVec 4) (w : BitVec 2) (c : BitVec 3) (q : BitVec 3)
  /-- AADDQ_BF16, R231. -/
  | aaddqBf16 (d : BitVec 6) (a : BitVec 4) (w : BitVec 2) (c : BitVec 3) (q : BitVec 3)
  /-- AADDQ_FP16, R231. -/
  | aaddqFp16 (d : BitVec 6) (a : BitVec 4) (w : BitVec 2) (c : BitVec 3) (q : BitVec 3)
  /-- AMIN, R230. -/
  | amin (d : BitVec 6) (a : BitVec 4) (w : BitVec 2) (c : BitVec 3) (z : BitVec 3)
  /-- AMAX, R230. -/
  | amax (d : BitVec 6) (a : BitVec 4) (w : BitVec 2) (c : BitVec 3) (z : BitVec 3)
  /-- AAND, R230. -/
  | aand (d : BitVec 6) (a : BitVec 4) (w : BitVec 2) (c : BitVec 3) (z : BitVec 3)
  /-- AOR, R230. -/
  | aor (d : BitVec 6) (a : BitVec 4) (w : BitVec 2) (c : BitVec 3) (z : BitVec 3)
  /-- AXOR, R230. -/
  | axor (d : BitVec 6) (a : BitVec 4) (w : BitVec 2) (c : BitVec 3) (z : BitVec 3)
  /-- AXCH, R230. -/
  | axch (d : BitVec 6) (a : BitVec 4) (w : BitVec 2) (c : BitVec 3) (z : BitVec 3)
  /-- ACAS, R230. -/
  | acas (d : BitVec 6) (a : BitVec 4) (w : BitVec 2) (c : BitVec 3) (z : BitVec 3)
  /-- DRAIN, R233. -/
  | drain (c : BitVec 3)
  /-- BFENCE, R234. -/
  | bfence (a : BitVec 4) (s : BitVec 6)
  /-- TWAIT, R235. -/
  | twait (x : BitVec 3) (y : BitVec 3) (z : BitVec 3)
  /-- BWAIT, R236. -/
  | bwait (a : BitVec 4) (p : BitVec 1) (s : BitVec 6)
  /-- BADD, R237. -/
  | badd (c : BitVec 3) (a : BitVec 4) (p : BitVec 1) (s : BitVec 6)
  /-- PHASE, R241. -/
  | phase (a : BitVec 6)
  /-- RPK_X, R245. -/
  | rpkX (k : BitVec 3) (x : BitVec 3) (y : BitVec 3) (z : BitVec 3) (e : BitVec 6)
  /-- RPK_F, R245. -/
  | rpkF (k : BitVec 3) (x : BitVec 3) (y : BitVec 3) (z : BitVec 3) (e : BitVec 6)
  /-- BANKLD, R246. -/
  | bankld (k : BitVec 3) (x : BitVec 3) (y : BitVec 3) (z : BitVec 3) (e : BitVec 6)
  /-- BANKGO, R247. -/
  | bankgo (k : BitVec 3) (x : BitVec 3) (y : BitVec 3) (z : BitVec 3) (e : BitVec 6)
  /-- UOP_RDC, R287. -/
  | uopRdc (a : BitVec 2) (o : BitVec 5) (f : BitVec 2)
  /-- UOP_WRC, R287. -/
  | uopWrc (a : BitVec 2) (o : BitVec 5) (f : BitVec 2)
  /-- UOP_MAC, R287. -/
  | uopMac (d : BitVec 2) (a : BitVec 2) (k : BitVec 3)
  /-- UOP_ADD, R287. -/
  | uopAdd (d : BitVec 2) (a : BitVec 2)
  /-- UOP_SCL, R287. -/
  | uopScl (d : BitVec 2) (a : BitVec 2) (k : BitVec 3)
  /-- UOP_NCOL, R287. -/
  | uopNcol (n : BitVec 5)
  /-- UOP_LOOPC, R287. -/
  | uopLoopc (n : BitVec 7)
  /-- NOP, R158. -/
  | nop
  /-- RET, R147. -/
  | ret
  /-- HALT, R150. -/
  | halt
  /-- ERET, R152. -/
  | eret
  /-- PHWAIT, R242. -/
  | phwait
  /-- UOP_END, R287. -/
  | uopEnd
  /-- UOP_ACT, R287. -/
  | uopAct
  /-- UOP_ROWEND, R287. -/
  | uopRowend
  /-- UOP_WAITS, R287. -/
  | uopWaits
  /-- OWN_COMPARE_AND_SWAP, R32. -/
  | ownCompareAndSwap
  /-- HANDOFF_WRITE, R32. -/
  | handoffWrite
  /-- PTAB_WRITE, R21. -/
  | ptabWrite
  /-- PARTITION_CHANGE_STEP, R21. -/
  | partitionChangeStep
  /-- PCEIL_WRITE, R25. -/
  | pceilWrite
  /-- WINDOW_ENTRY_WRITE, R24. -/
  | windowEntryWrite
  /-- STREAM_WRITE, R302. -/
  | streamWrite
  /-- CONTROL_WINDOW_WRITE, R30. -/
  | controlWindowWrite
  /-- RECORD_CLEAR, R331. -/
  | recordClear
  /-- PACKAGE_POWER_ON, R33. -/
  | packagePowerOn
  /-- BRING_UP_STEP_DONE, R33. -/
  | bringUpStepDone
  /-- EPOCH_BOUNDARY, R26. -/
  | epochBoundary
  /-- BUDGET_INTERVAL, R28. -/
  | budgetInterval
  /-- SENSOR_READ, R340. -/
  | sensorRead
  /-- COOLANT_LOSS, R340. -/
  | coolantLoss
  /-- RAIL_OUT_OF_RANGE, R340. -/
  | railOutOfRange
  /-- READINESS_REQUEST, R53. -/
  | readinessRequest
  /-- WAIT_NODE_READ, R305. -/
  | waitNodeRead
  /-- BULK_NODE_COMPLETE, R52. -/
  | bulkNodeComplete
  /-- SIGNAL_NODE_COMPLETE, R52. -/
  | signalNodeComplete
  /-- SUBMISSION_START, R304. -/
  | submissionStart
  /-- SUBMISSION_END, R304. -/
  | submissionEnd
  /-- LAUNCH_REQUEST_SEND, R149. -/
  | launchRequestSend
  /-- SLOT_RECORD_WRITE, R307. -/
  | slotRecordWrite
  /-- DISPATCH_BIND, R308. -/
  | dispatchBind
  /-- DISPLACE, R309. -/
  | displace
  /-- AGE_ALARM, R310. -/
  | ageAlarm
  /-- SLICE_EXPIRY, R40. -/
  | sliceExpiry
  /-- PREEMPTION, R312. -/
  | preemption
  /-- CONTEXT_SAVE_COMPLETE, R312. -/
  | contextSaveComplete
  /-- TASK_PARKED, R46. -/
  | taskParked
  /-- PARK_BEACON_MET, R151. -/
  | parkBeaconMet
  /-- TASK_RETIRE, R49. -/
  | taskRetire
  /-- CP_WATCHDOG, R339. -/
  | cpWatchdog
  /-- SCH_WATCHDOG, R339. -/
  | schWatchdog
  /-- FIRMWARE_RESTART_DONE, R339. -/
  | firmwareRestartDone
  /-- PIPELINE_WRITEBACK, R69. -/
  | pipelineWriteback
  /-- LANDING_ARRIVAL, R70. -/
  | landingArrival
  /-- LANDING_WRITE, R70. -/
  | landingWrite
  /-- FREEZE_TIMEOUT, R353. -/
  | freezeTimeout
  /-- WAIT_PARK, R238. -/
  | waitPark
  /-- BEACON_POLL, R236. -/
  | beaconPoll
  /-- ENGINE_COMPLETE, R216. -/
  | engineComplete
  /-- M_OPERATION_COMPLETE, R193. -/
  | mOperationComplete
  /-- GATHER_ROW_LAND, R220. -/
  | gatherRowLand
  /-- BAG_ROW_STREAM, R204. -/
  | bagRowStream
  /-- CACHE_FILL_COMPLETE, R224. -/
  | cacheFillComplete
  /-- ATOMIC_HOME_APPLY, R230. -/
  | atomicHomeApply
  /-- BANKGO_BEQ_RELEASE, R39. -/
  | bankgoBeqRelease
  /-- RPK_ROUND_COMBINE, R245. -/
  | rpkRoundCombine
  /-- ROUND_TIMEOUT, R406. -/
  | roundTimeout
  /-- ORDINARY_REQUEST, R281. -/
  | ordinaryRequest
  /-- CONTROLLER_CYCLE, R282. -/
  | controllerCycle
  /-- REQUEST_AGED, R282. -/
  | requestAged
  /-- REFRESH_DUE, R284. -/
  | refreshDue
  /-- BDC_HEARTBEAT, R284. -/
  | bdcHeartbeat
  /-- REFRESH_TAKEOVER, R379. -/
  | refreshTakeover
  /-- REFRESH_HANDBACK, R379. -/
  | refreshHandback
  /-- BANK_HOLD_TIMEOUT, R380. -/
  | bankHoldTimeout
  /-- BANKLD_APPLY, R246. -/
  | bankldApply
  /-- BANK_PROGRAM_START, R290. -/
  | bankProgramStart
  /-- ACT_ADMIT, R289. -/
  | actAdmit
  /-- ARBITRATION_WINDOW, R292. -/
  | arbitrationWindow
  /-- WAITS_RELEASE, R287. -/
  | waitsRelease
  /-- BANK_PROGRAM_STOP, R390. -/
  | bankProgramStop
  /-- PAGE_RETIREMENT, R381. -/
  | pageRetirement
  /-- PAGE_MOVE_LINE, R383. -/
  | pageMoveLine
  /-- PAGE_MOVE_SWITCH, R383. -/
  | pageMoveSwitch
  /-- FLIT_RECEIVE, R392. -/
  | flitReceive
  /-- PORT_RETRAIN, R392. -/
  | portRetrain
  /-- FABRIC_REQUEST_TIMEOUT, R393. -/
  | fabricRequestTimeout
  /-- VC_STOP_GO, R29. -/
  | vcStopGo
  /-- OWNER_TIMEOUT, R395. -/
  | ownerTimeout
  /-- BULKHEAD_RESET, R336. -/
  | bulkheadReset
  /-- SEGMENT_COMMIT, R368. -/
  | segmentCommit
  /-- REWIND, R369. -/
  | rewind
  /-- RERUN_START, R369. -/
  | rerunStart
  /-- WALK_COMPLETE, R254. -/
  | walkComplete
  /-- SCOREBOARD_ENTRY_RETIRE, R75. -/
  | scoreboardEntryRetire
  /-- BFENCE_MARKER, R294. -/
  | bfenceMarker
deriving DecidableEq, Repr

/-- The fields of a slot word beside the instruction (06 R116): STOP ends the bundle, PORT names the unit, GUARD the guarding predicate. -/
structure SlotHeader where
  stop : Bool
  port : BitVec 3
  guard : BitVec 4
deriving DecidableEq, Repr

/-- A slot: one word of a bundle. -/
structure Slot where
  hdr : SlotHeader
  instr : Instr
deriving DecidableEq, Repr

/-- A micro-op of a bank program: its jump target T (13 R286, bits [11:7]; 0 where the micro-op has none) and its instruction. -/
structure UopSlot where
  target : BitVec 5
  instr : Instr
deriving DecidableEq, Repr

end Sys2Proof
end

