-- ==== Sys2Proof/WellFormed.lean ====
section
/-! DEFINITION. Well-formed instructions: no field holds a value the spec reserves (06 R121, 18 R347 code 0x1005; 13 R286 for micro-ops). Reserved BITS are the decoder's business (Decode.lean). -/

namespace Sys2Proof

/-- The CSR numbers of 07 R154. -/
def csrAssigned (i : BitVec 12) : Bool :=
  let n := i.toNat
  n ≤ 0x002 || (0x010 ≤ n && n ≤ 0x01C) || n = 0x020 || n = 0x021 || n = 0x030 ||
    (0x040 ≤ n && n ≤ 0x043) || (0x050 ≤ n && n ≤ 0x05F)

/-- No field of the instruction holds a reserved value. -/
def Instr.WellFormed : Instr → Prop
  | .add _ _ _ => True
  | .sub _ _ _ => True
  | .mul _ _ _ => True
  | .mulh _ _ _ => True
  | .mulhu _ _ _ => True
  | .div _ _ _ => True
  | .divu _ _ _ => True
  | .rem _ _ _ => True
  | .remu _ _ _ => True
  | .and _ _ _ => True
  | .or _ _ _ => True
  | .xor _ _ _ => True
  | .andn _ _ _ => True
  | .shl _ _ _ => True
  | .shr _ _ _ => True
  | .sra _ _ _ => True
  | .rotl _ _ _ => True
  | .min _ _ _ => True
  | .max _ _ _ => True
  | .minu _ _ _ => True
  | .maxu _ _ _ => True
  | .clz _ _ => True
  | .ctz _ _ => True
  | .popc _ _ => True
  | .sext _ _ _ => True
  | .zext _ _ _ => True
  | .addi _ _ _ => True
  | .andi _ _ _ => True
  | .ori _ _ _ => True
  | .shli _ _ _ => True
  | .shri _ _ _ => True
  | .srai _ _ _ => True
  | .movi _ _ => True
  | .movhi _ _ => True
  | .sel _ _ _ _ => True
  | .cmp r c _ _ => r ≠ 0 ∧ c.toNat ≤ 5
  | .cmpi r c _ _ => r ≠ 0 ∧ c.toNat ≤ 5
  | .lds _ _ _ => True
  | .sts _ _ _ => True
  | .br _ => True
  | .bri _ => True
  | .call _ => True
  | .launch _ => True
  | .park _ _ => True
  | .trap _ => True
  | .csrr _ i => csrAssigned i = true
  | .csrw _ i => csrAssigned i = true
  | .csrs _ i => csrAssigned i = true
  | .edw _ _ _ => True
  | .edld _ _ _ => True
  | .seg i => 1 ≤ i.toNat ∧ i.toNat ≤ 4096
  | .rdv _ => True
  | .faddV0 _ _ _ => True
  | .faddV1 _ _ _ => True
  | .fsubV0 _ _ _ => True
  | .fsubV1 _ _ _ => True
  | .fmulV0 _ _ _ => True
  | .fmulV1 _ _ _ => True
  | .fmaV0 _ _ _ => True
  | .fmaV1 _ _ _ => True
  | .fmsV0 _ _ _ => True
  | .fmsV1 _ _ _ => True
  | .fminV0 _ _ _ => True
  | .fminV1 _ _ _ => True
  | .fmaxV0 _ _ _ => True
  | .fmaxV1 _ _ _ => True
  | .fabsV0 _ _ => True
  | .fabsV1 _ _ => True
  | .fnegV0 _ _ => True
  | .fnegV1 _ _ => True
  | .fcpysV0 _ _ _ => True
  | .fcpysV1 _ _ _ => True
  | .fcmpV0 _ c _ _ => c.toNat ≤ 6
  | .fcmpV1 _ c _ _ => c.toNat ≤ 6
  | .iaddV0 _ _ _ => True
  | .iaddV1 _ _ _ => True
  | .isubV0 _ _ _ => True
  | .isubV1 _ _ _ => True
  | .imulV0 _ _ _ => True
  | .imulV1 _ _ _ => True
  | .imadV0 _ _ _ => True
  | .imadV1 _ _ _ => True
  | .iaddwV0 _ _ _ => True
  | .iaddwV1 _ _ _ => True
  | .imadwV0 _ _ _ => True
  | .imadwV1 _ _ _ => True
  | .iminV0 _ _ _ => True
  | .iminV1 _ _ _ => True
  | .imaxV0 _ _ _ => True
  | .imaxV1 _ _ _ => True
  | .iabsV0 _ _ => True
  | .iabsV1 _ _ => True
  | .andV0 _ _ _ => True
  | .andV1 _ _ _ => True
  | .orV0 _ _ _ => True
  | .orV1 _ _ _ => True
  | .xorV0 _ _ _ => True
  | .xorV1 _ _ _ => True
  | .shlV0 _ _ _ => True
  | .shlV1 _ _ _ => True
  | .shrV0 _ _ _ => True
  | .shrV1 _ _ _ => True
  | .sraV0 _ _ _ => True
  | .sraV1 _ _ _ => True
  | .icmpV0 _ c _ _ => c.toNat ≤ 5
  | .icmpV1 _ c _ _ => c.toNat ≤ 5
  | .cvtV0 _ _ f _ => f.toNat < 12
  | .cvtV1 _ _ f _ => f.toNat < 12
  | .cvtnV0 _ _ f _ => f.toNat < 12
  | .cvtnV1 _ _ f _ => f.toNat < 12
  | .unpklV0 _ _ _ => True
  | .unpklV1 _ _ _ => True
  | .unpkhV0 _ _ _ => True
  | .unpkhV1 _ _ _ => True
  | .packV0 _ _ _ => True
  | .packV1 _ _ _ => True
  | .setfmtV0 _ _ f => f.toNat < 12
  | .setfmtV1 _ _ f => f.toNat < 12
  | .vmovV0 _ _ => True
  | .vmovV1 _ _ => True
  | .vmoviV0 _ _ => True
  | .vmoviV1 _ _ => True
  | .vbcstV0 _ _ _ => True
  | .vbcstV1 _ _ _ => True
  | .vextV0 _ _ _ => True
  | .vextV1 _ _ _ => True
  | .vselV0 _ _ _ _ => True
  | .vselV1 _ _ _ _ => True
  | .vpermV0 _ _ _ => True
  | .vpermV1 _ _ _ => True
  | .vrotV0 _ _ _ => True
  | .vrotV1 _ _ _ => True
  | .xclV0 _ _ _ => True
  | .xclV1 _ _ _ => True
  | .xclbV0 _ _ _ => True
  | .xclbV1 _ _ _ => True
  | .vscanV0 _ _ _ _ o => o ≠ 3
  | .vscanV1 _ _ _ _ o => o ≠ 3
  | .vredV0 _ _ _ o => o ≠ 3
  | .vredV1 _ _ _ o => o ≠ 3
  | .vst _ _ _ => True
  | .vsts _ _ _ => True
  | .vstx _ _ _ => True
  | .vlds _ _ _ f => f.toNat < 12
  | .vldx _ _ _ f => f.toNat < 12
  | .vldb _ _ _ f => f.toNat < 12
  | .vldInt32 _ _ _ => True
  | .vldUint32 _ _ _ => True
  | .vldFp32 _ _ _ => True
  | .vldInt16 _ _ _ => True
  | .vldUint16 _ _ _ => True
  | .vldFp16 _ _ _ => True
  | .vldBf16 _ _ _ => True
  | .vldInt8 _ _ _ => True
  | .vldUint8 _ _ _ => True
  | .vldE4m3 _ _ _ => True
  | .vldE5m2 _ _ _ => True
  | .vldE8m0 _ _ _ => True
  | .mkand _ _ _ => True
  | .mkor _ _ _ => True
  | .mknot _ _ => True
  | .frcp _ _ => True
  | .frsq _ _ => True
  | .fsqrt _ _ => True
  | .fexp2 _ _ => True
  | .flog2 _ _ => True
  | .ftanh _ _ => True
  | .mldw _ _ _ _ _ => True
  | .mswap _ _ _ _ => True
  | .mmul _ _ _ _ _ => True
  | .mmuls _ _ _ _ _ => True
  | .mbagAcc _ _ _ _ _ => True
  | .mbagSteer _ _ _ _ _ => True
  | .mzero _ _ _ _ _ => True
  | .manch _ _ _ _ _ => True
  | .mrd _ _ _ _ _ => True
  | .mst _ _ _ _ _ => True
  | .maddv _ _ _ _ _ => True
  | .mstat _ _ _ _ _ => True
  | .mtrl _ _ _ _ _ => True
  | .mldt _ _ _ _ _ => True
  | .mstt _ _ _ _ _ => True
  | .mcode _ _ _ _ _ => True
  | .cpy _ _ _ _ _ => True
  | .cpym _ _ _ _ _ => True
  | .gath _ _ _ _ _ => True
  | .scat _ _ _ _ _ => True
  | .fill _ _ _ _ _ => True
  | .bulk _ _ _ _ _ => True
  | .au _ _ _ => True
  | .aui _ _ => True
  | .amov _ _ => True
  | .aget _ _ => True
  | .loop l _ _ _ => l.toNat < 6
  | .lstep _ l _ => l.toNat < 6
  | .pand _ _ _ => True
  | .por _ _ _ => True
  | .pxor _ _ _ => True
  | .pnot _ _ => True
  | .pmov _ _ => True
  | .pset _ _ => True
  | .stage l _ => l.toNat < 6
  | .kclr _ => True
  | .probe r _ _ => r ≠ 0
  | .probei r _ _ => r ≠ 0
  | .pwb _ => True
  | .pinv _ => True
  | .ppin _ _ => True
  | .ldg _ _ _ _ z => z.toNat < 4
  | .ldgi _ _ _ z => z.toNat < 4
  | .ldgv _ _ _ z => z.toNat < 4
  | .stg _ _ _ _ z => z.toNat < 4
  | .stgv _ _ _ z => z.toNat < 4
  | .lda _ _ z => z.toNat ≤ 5
  | .stl _ _ _ z => z.toNat ≤ 5
  | .aadd _ _ _ c z => c.toNat ≤ 5 ∧ (z = 2 ∨ z = 3)
  | .aaddf _ _ _ c z => c.toNat ≤ 5 ∧ (z = 4 ∨ z = 5 ∨ z = 6)
  | .aaddqFp32 _ _ _ c _ => c.toNat ≤ 5
  | .aaddqBf16 _ _ _ c _ => c.toNat ≤ 5
  | .aaddqFp16 _ _ _ c _ => c.toNat ≤ 5
  | .amin _ _ _ c z => c.toNat ≤ 5 ∧ 2 ≤ z.toNat ∧ z.toNat ≤ 6
  | .amax _ _ _ c z => c.toNat ≤ 5 ∧ 2 ≤ z.toNat ∧ z.toNat ≤ 6
  | .aand _ _ _ c z => c.toNat ≤ 5 ∧ (z = 2 ∨ z = 3)
  | .aor _ _ _ c z => c.toNat ≤ 5 ∧ (z = 2 ∨ z = 3)
  | .axor _ _ _ c z => c.toNat ≤ 5 ∧ (z = 2 ∨ z = 3)
  | .axch _ _ _ c z => c.toNat ≤ 5 ∧ (z = 2 ∨ z = 3)
  | .acas _ _ _ c z => c.toNat ≤ 5 ∧ (z = 2 ∨ z = 3)
  | .drain c => c.toNat ≤ 5
  | .bfence _ _ => True
  | .twait _ _ _ => True
  | .bwait _ _ _ => True
  | .badd c _ _ _ => c.toNat ≤ 5
  | .phase _ => True
  | .rpkX _ _ _ _ _ => True
  | .rpkF _ _ _ _ _ => True
  | .bankld _ _ _ _ _ => True
  | .bankgo _ _ _ _ _ => True
  | .uopRdc _ _ f => f ≠ 1
  | .uopWrc _ _ f => f ≠ 1
  | .uopMac _ _ _ => True
  | .uopAdd _ _ => True
  | .uopScl _ _ _ => True
  | .uopNcol _ => True
  | .uopLoopc _ => True
  | .nop => True
  | .ret => True
  | .halt => True
  | .eret => True
  | .phwait => True
  | .uopEnd => True
  | .uopAct => True
  | .uopRowend => True
  | .uopWaits => True
  | .ownCompareAndSwap => True
  | .handoffWrite => True
  | .ptabWrite => True
  | .partitionChangeStep => True
  | .pceilWrite => True
  | .windowEntryWrite => True
  | .streamWrite => True
  | .controlWindowWrite => True
  | .recordClear => True
  | .packagePowerOn => True
  | .bringUpStepDone => True
  | .epochBoundary => True
  | .budgetInterval => True
  | .sensorRead => True
  | .coolantLoss => True
  | .railOutOfRange => True
  | .readinessRequest => True
  | .waitNodeRead => True
  | .bulkNodeComplete => True
  | .signalNodeComplete => True
  | .submissionStart => True
  | .submissionEnd => True
  | .launchRequestSend => True
  | .slotRecordWrite => True
  | .dispatchBind => True
  | .displace => True
  | .ageAlarm => True
  | .sliceExpiry => True
  | .preemption => True
  | .contextSaveComplete => True
  | .taskParked => True
  | .parkBeaconMet => True
  | .taskRetire => True
  | .cpWatchdog => True
  | .schWatchdog => True
  | .firmwareRestartDone => True
  | .pipelineWriteback => True
  | .landingArrival => True
  | .landingWrite => True
  | .freezeTimeout => True
  | .waitPark => True
  | .beaconPoll => True
  | .engineComplete => True
  | .mOperationComplete => True
  | .gatherRowLand => True
  | .bagRowStream => True
  | .cacheFillComplete => True
  | .atomicHomeApply => True
  | .bankgoBeqRelease => True
  | .rpkRoundCombine => True
  | .roundTimeout => True
  | .ordinaryRequest => True
  | .controllerCycle => True
  | .requestAged => True
  | .refreshDue => True
  | .bdcHeartbeat => True
  | .refreshTakeover => True
  | .refreshHandback => True
  | .bankHoldTimeout => True
  | .bankldApply => True
  | .bankProgramStart => True
  | .actAdmit => True
  | .arbitrationWindow => True
  | .waitsRelease => True
  | .bankProgramStop => True
  | .pageRetirement => True
  | .pageMoveLine => True
  | .pageMoveSwitch => True
  | .flitReceive => True
  | .portRetrain => True
  | .fabricRequestTimeout => True
  | .vcStopGo => True
  | .ownerTimeout => True
  | .bulkheadReset => True
  | .segmentCommit => True
  | .rewind => True
  | .rerunStart => True
  | .walkComplete => True
  | .scoreboardEntryRetire => True
  | .bfenceMarker => True

/-- Well-formedness can be decided. -/
def Instr.wellFormed : Instr → Bool
  | .add _ _ _ => true
  | .sub _ _ _ => true
  | .mul _ _ _ => true
  | .mulh _ _ _ => true
  | .mulhu _ _ _ => true
  | .div _ _ _ => true
  | .divu _ _ _ => true
  | .rem _ _ _ => true
  | .remu _ _ _ => true
  | .and _ _ _ => true
  | .or _ _ _ => true
  | .xor _ _ _ => true
  | .andn _ _ _ => true
  | .shl _ _ _ => true
  | .shr _ _ _ => true
  | .sra _ _ _ => true
  | .rotl _ _ _ => true
  | .min _ _ _ => true
  | .max _ _ _ => true
  | .minu _ _ _ => true
  | .maxu _ _ _ => true
  | .clz _ _ => true
  | .ctz _ _ => true
  | .popc _ _ => true
  | .sext _ _ _ => true
  | .zext _ _ _ => true
  | .addi _ _ _ => true
  | .andi _ _ _ => true
  | .ori _ _ _ => true
  | .shli _ _ _ => true
  | .shri _ _ _ => true
  | .srai _ _ _ => true
  | .movi _ _ => true
  | .movhi _ _ => true
  | .sel _ _ _ _ => true
  | .cmp r c _ _ => decide (r ≠ 0 ∧ c.toNat ≤ 5)
  | .cmpi r c _ _ => decide (r ≠ 0 ∧ c.toNat ≤ 5)
  | .lds _ _ _ => true
  | .sts _ _ _ => true
  | .br _ => true
  | .bri _ => true
  | .call _ => true
  | .launch _ => true
  | .park _ _ => true
  | .trap _ => true
  | .csrr _ i => decide (csrAssigned i = true)
  | .csrw _ i => decide (csrAssigned i = true)
  | .csrs _ i => decide (csrAssigned i = true)
  | .edw _ _ _ => true
  | .edld _ _ _ => true
  | .seg i => decide (1 ≤ i.toNat ∧ i.toNat ≤ 4096)
  | .rdv _ => true
  | .faddV0 _ _ _ => true
  | .faddV1 _ _ _ => true
  | .fsubV0 _ _ _ => true
  | .fsubV1 _ _ _ => true
  | .fmulV0 _ _ _ => true
  | .fmulV1 _ _ _ => true
  | .fmaV0 _ _ _ => true
  | .fmaV1 _ _ _ => true
  | .fmsV0 _ _ _ => true
  | .fmsV1 _ _ _ => true
  | .fminV0 _ _ _ => true
  | .fminV1 _ _ _ => true
  | .fmaxV0 _ _ _ => true
  | .fmaxV1 _ _ _ => true
  | .fabsV0 _ _ => true
  | .fabsV1 _ _ => true
  | .fnegV0 _ _ => true
  | .fnegV1 _ _ => true
  | .fcpysV0 _ _ _ => true
  | .fcpysV1 _ _ _ => true
  | .fcmpV0 _ c _ _ => decide (c.toNat ≤ 6)
  | .fcmpV1 _ c _ _ => decide (c.toNat ≤ 6)
  | .iaddV0 _ _ _ => true
  | .iaddV1 _ _ _ => true
  | .isubV0 _ _ _ => true
  | .isubV1 _ _ _ => true
  | .imulV0 _ _ _ => true
  | .imulV1 _ _ _ => true
  | .imadV0 _ _ _ => true
  | .imadV1 _ _ _ => true
  | .iaddwV0 _ _ _ => true
  | .iaddwV1 _ _ _ => true
  | .imadwV0 _ _ _ => true
  | .imadwV1 _ _ _ => true
  | .iminV0 _ _ _ => true
  | .iminV1 _ _ _ => true
  | .imaxV0 _ _ _ => true
  | .imaxV1 _ _ _ => true
  | .iabsV0 _ _ => true
  | .iabsV1 _ _ => true
  | .andV0 _ _ _ => true
  | .andV1 _ _ _ => true
  | .orV0 _ _ _ => true
  | .orV1 _ _ _ => true
  | .xorV0 _ _ _ => true
  | .xorV1 _ _ _ => true
  | .shlV0 _ _ _ => true
  | .shlV1 _ _ _ => true
  | .shrV0 _ _ _ => true
  | .shrV1 _ _ _ => true
  | .sraV0 _ _ _ => true
  | .sraV1 _ _ _ => true
  | .icmpV0 _ c _ _ => decide (c.toNat ≤ 5)
  | .icmpV1 _ c _ _ => decide (c.toNat ≤ 5)
  | .cvtV0 _ _ f _ => decide (f.toNat < 12)
  | .cvtV1 _ _ f _ => decide (f.toNat < 12)
  | .cvtnV0 _ _ f _ => decide (f.toNat < 12)
  | .cvtnV1 _ _ f _ => decide (f.toNat < 12)
  | .unpklV0 _ _ _ => true
  | .unpklV1 _ _ _ => true
  | .unpkhV0 _ _ _ => true
  | .unpkhV1 _ _ _ => true
  | .packV0 _ _ _ => true
  | .packV1 _ _ _ => true
  | .setfmtV0 _ _ f => decide (f.toNat < 12)
  | .setfmtV1 _ _ f => decide (f.toNat < 12)
  | .vmovV0 _ _ => true
  | .vmovV1 _ _ => true
  | .vmoviV0 _ _ => true
  | .vmoviV1 _ _ => true
  | .vbcstV0 _ _ _ => true
  | .vbcstV1 _ _ _ => true
  | .vextV0 _ _ _ => true
  | .vextV1 _ _ _ => true
  | .vselV0 _ _ _ _ => true
  | .vselV1 _ _ _ _ => true
  | .vpermV0 _ _ _ => true
  | .vpermV1 _ _ _ => true
  | .vrotV0 _ _ _ => true
  | .vrotV1 _ _ _ => true
  | .xclV0 _ _ _ => true
  | .xclV1 _ _ _ => true
  | .xclbV0 _ _ _ => true
  | .xclbV1 _ _ _ => true
  | .vscanV0 _ _ _ _ o => decide (o ≠ 3)
  | .vscanV1 _ _ _ _ o => decide (o ≠ 3)
  | .vredV0 _ _ _ o => decide (o ≠ 3)
  | .vredV1 _ _ _ o => decide (o ≠ 3)
  | .vst _ _ _ => true
  | .vsts _ _ _ => true
  | .vstx _ _ _ => true
  | .vlds _ _ _ f => decide (f.toNat < 12)
  | .vldx _ _ _ f => decide (f.toNat < 12)
  | .vldb _ _ _ f => decide (f.toNat < 12)
  | .vldInt32 _ _ _ => true
  | .vldUint32 _ _ _ => true
  | .vldFp32 _ _ _ => true
  | .vldInt16 _ _ _ => true
  | .vldUint16 _ _ _ => true
  | .vldFp16 _ _ _ => true
  | .vldBf16 _ _ _ => true
  | .vldInt8 _ _ _ => true
  | .vldUint8 _ _ _ => true
  | .vldE4m3 _ _ _ => true
  | .vldE5m2 _ _ _ => true
  | .vldE8m0 _ _ _ => true
  | .mkand _ _ _ => true
  | .mkor _ _ _ => true
  | .mknot _ _ => true
  | .frcp _ _ => true
  | .frsq _ _ => true
  | .fsqrt _ _ => true
  | .fexp2 _ _ => true
  | .flog2 _ _ => true
  | .ftanh _ _ => true
  | .mldw _ _ _ _ _ => true
  | .mswap _ _ _ _ => true
  | .mmul _ _ _ _ _ => true
  | .mmuls _ _ _ _ _ => true
  | .mbagAcc _ _ _ _ _ => true
  | .mbagSteer _ _ _ _ _ => true
  | .mzero _ _ _ _ _ => true
  | .manch _ _ _ _ _ => true
  | .mrd _ _ _ _ _ => true
  | .mst _ _ _ _ _ => true
  | .maddv _ _ _ _ _ => true
  | .mstat _ _ _ _ _ => true
  | .mtrl _ _ _ _ _ => true
  | .mldt _ _ _ _ _ => true
  | .mstt _ _ _ _ _ => true
  | .mcode _ _ _ _ _ => true
  | .cpy _ _ _ _ _ => true
  | .cpym _ _ _ _ _ => true
  | .gath _ _ _ _ _ => true
  | .scat _ _ _ _ _ => true
  | .fill _ _ _ _ _ => true
  | .bulk _ _ _ _ _ => true
  | .au _ _ _ => true
  | .aui _ _ => true
  | .amov _ _ => true
  | .aget _ _ => true
  | .loop l _ _ _ => decide (l.toNat < 6)
  | .lstep _ l _ => decide (l.toNat < 6)
  | .pand _ _ _ => true
  | .por _ _ _ => true
  | .pxor _ _ _ => true
  | .pnot _ _ => true
  | .pmov _ _ => true
  | .pset _ _ => true
  | .stage l _ => decide (l.toNat < 6)
  | .kclr _ => true
  | .probe r _ _ => decide (r ≠ 0)
  | .probei r _ _ => decide (r ≠ 0)
  | .pwb _ => true
  | .pinv _ => true
  | .ppin _ _ => true
  | .ldg _ _ _ _ z => decide (z.toNat < 4)
  | .ldgi _ _ _ z => decide (z.toNat < 4)
  | .ldgv _ _ _ z => decide (z.toNat < 4)
  | .stg _ _ _ _ z => decide (z.toNat < 4)
  | .stgv _ _ _ z => decide (z.toNat < 4)
  | .lda _ _ z => decide (z.toNat ≤ 5)
  | .stl _ _ _ z => decide (z.toNat ≤ 5)
  | .aadd _ _ _ c z => decide (c.toNat ≤ 5 ∧ (z = 2 ∨ z = 3))
  | .aaddf _ _ _ c z => decide (c.toNat ≤ 5 ∧ (z = 4 ∨ z = 5 ∨ z = 6))
  | .aaddqFp32 _ _ _ c _ => decide (c.toNat ≤ 5)
  | .aaddqBf16 _ _ _ c _ => decide (c.toNat ≤ 5)
  | .aaddqFp16 _ _ _ c _ => decide (c.toNat ≤ 5)
  | .amin _ _ _ c z => decide (c.toNat ≤ 5 ∧ 2 ≤ z.toNat ∧ z.toNat ≤ 6)
  | .amax _ _ _ c z => decide (c.toNat ≤ 5 ∧ 2 ≤ z.toNat ∧ z.toNat ≤ 6)
  | .aand _ _ _ c z => decide (c.toNat ≤ 5 ∧ (z = 2 ∨ z = 3))
  | .aor _ _ _ c z => decide (c.toNat ≤ 5 ∧ (z = 2 ∨ z = 3))
  | .axor _ _ _ c z => decide (c.toNat ≤ 5 ∧ (z = 2 ∨ z = 3))
  | .axch _ _ _ c z => decide (c.toNat ≤ 5 ∧ (z = 2 ∨ z = 3))
  | .acas _ _ _ c z => decide (c.toNat ≤ 5 ∧ (z = 2 ∨ z = 3))
  | .drain c => decide (c.toNat ≤ 5)
  | .bfence _ _ => true
  | .twait _ _ _ => true
  | .bwait _ _ _ => true
  | .badd c _ _ _ => decide (c.toNat ≤ 5)
  | .phase _ => true
  | .rpkX _ _ _ _ _ => true
  | .rpkF _ _ _ _ _ => true
  | .bankld _ _ _ _ _ => true
  | .bankgo _ _ _ _ _ => true
  | .uopRdc _ _ f => decide (f ≠ 1)
  | .uopWrc _ _ f => decide (f ≠ 1)
  | .uopMac _ _ _ => true
  | .uopAdd _ _ => true
  | .uopScl _ _ _ => true
  | .uopNcol _ => true
  | .uopLoopc _ => true
  | .nop => true
  | .ret => true
  | .halt => true
  | .eret => true
  | .phwait => true
  | .uopEnd => true
  | .uopAct => true
  | .uopRowend => true
  | .uopWaits => true
  | .ownCompareAndSwap => true
  | .handoffWrite => true
  | .ptabWrite => true
  | .partitionChangeStep => true
  | .pceilWrite => true
  | .windowEntryWrite => true
  | .streamWrite => true
  | .controlWindowWrite => true
  | .recordClear => true
  | .packagePowerOn => true
  | .bringUpStepDone => true
  | .epochBoundary => true
  | .budgetInterval => true
  | .sensorRead => true
  | .coolantLoss => true
  | .railOutOfRange => true
  | .readinessRequest => true
  | .waitNodeRead => true
  | .bulkNodeComplete => true
  | .signalNodeComplete => true
  | .submissionStart => true
  | .submissionEnd => true
  | .launchRequestSend => true
  | .slotRecordWrite => true
  | .dispatchBind => true
  | .displace => true
  | .ageAlarm => true
  | .sliceExpiry => true
  | .preemption => true
  | .contextSaveComplete => true
  | .taskParked => true
  | .parkBeaconMet => true
  | .taskRetire => true
  | .cpWatchdog => true
  | .schWatchdog => true
  | .firmwareRestartDone => true
  | .pipelineWriteback => true
  | .landingArrival => true
  | .landingWrite => true
  | .freezeTimeout => true
  | .waitPark => true
  | .beaconPoll => true
  | .engineComplete => true
  | .mOperationComplete => true
  | .gatherRowLand => true
  | .bagRowStream => true
  | .cacheFillComplete => true
  | .atomicHomeApply => true
  | .bankgoBeqRelease => true
  | .rpkRoundCombine => true
  | .roundTimeout => true
  | .ordinaryRequest => true
  | .controllerCycle => true
  | .requestAged => true
  | .refreshDue => true
  | .bdcHeartbeat => true
  | .refreshTakeover => true
  | .refreshHandback => true
  | .bankHoldTimeout => true
  | .bankldApply => true
  | .bankProgramStart => true
  | .actAdmit => true
  | .arbitrationWindow => true
  | .waitsRelease => true
  | .bankProgramStop => true
  | .pageRetirement => true
  | .pageMoveLine => true
  | .pageMoveSwitch => true
  | .flitReceive => true
  | .portRetrain => true
  | .fabricRequestTimeout => true
  | .vcStopGo => true
  | .ownerTimeout => true
  | .bulkheadReset => true
  | .segmentCommit => true
  | .rewind => true
  | .rerunStart => true
  | .walkComplete => true
  | .scoreboardEntryRetire => true
  | .bfenceMarker => true

end Sys2Proof
end

