-- ==== Sys2Proof/Decode.lean ====
section
/-! DEFINITION. The decoder of slot words and bank micro-ops, and after it the encoder. Both follow the opcode maps and operand layouts of 06 R116-R126 and 13 R286. -/

namespace Sys2Proof

/-- Why a word is no instruction (18 R347): its opcode is not assigned (0x1002), or a reserved operand bit is nonzero (0x1003). -/
inductive DecodeError where
  | unassigned
  | reserved
deriving DecidableEq, Repr

namespace Decode

/-- Bits [lo+n-1:lo] of the operand field. -/
def fld (ops : BitVec 18) (lo n : Nat) : BitVec n := ops.extractLsb' lo n

/-- The instruction, when no reserved operand bit is set. -/
def clear (mask ops : BitVec 18) (i : Instr) : Except DecodeError Instr :=
  if ops &&& mask = 0 then .ok i else .error .reserved

/-- The STOP bit (06 R116). -/
def stop (w : SlotWord) : Bool := w.extractLsb' 31 1 = 1#1
/-- The PORT field. -/
def port (w : SlotWord) : BitVec 3 := w.extractLsb' 28 3
/-- The GUARD field. -/
def guard (w : SlotWord) : BitVec 4 := w.extractLsb' 24 4
/-- The OPC field. -/
def opc (w : SlotWord) : BitVec 6 := w.extractLsb' 18 6
/-- The operand field. -/
def operands (w : SlotWord) : BitVec 18 := w.extractLsb' 0 18

/-- The opcode map of port S, 06 R123; opcode 0 is NOP on every port. GUARD is read by SEL and VSEL, which use it as a selector. -/
def decodeS (g : BitVec 4) (op : Nat) (w : BitVec 18) : Except DecodeError Instr :=
  match op with
  | 0x00 => clear 0x3FFFF w .nop
  | 0x01 => .ok (.add (fld w 12 6) (fld w 6 6) (fld w 0 6))
  | 0x02 => .ok (.sub (fld w 12 6) (fld w 6 6) (fld w 0 6))
  | 0x03 => .ok (.mul (fld w 12 6) (fld w 6 6) (fld w 0 6))
  | 0x04 => .ok (.mulh (fld w 12 6) (fld w 6 6) (fld w 0 6))
  | 0x05 => .ok (.mulhu (fld w 12 6) (fld w 6 6) (fld w 0 6))
  | 0x06 => .ok (.div (fld w 12 6) (fld w 6 6) (fld w 0 6))
  | 0x07 => .ok (.divu (fld w 12 6) (fld w 6 6) (fld w 0 6))
  | 0x08 => .ok (.rem (fld w 12 6) (fld w 6 6) (fld w 0 6))
  | 0x09 => .ok (.remu (fld w 12 6) (fld w 6 6) (fld w 0 6))
  | 0x0A => .ok (.and (fld w 12 6) (fld w 6 6) (fld w 0 6))
  | 0x0B => .ok (.or (fld w 12 6) (fld w 6 6) (fld w 0 6))
  | 0x0C => .ok (.xor (fld w 12 6) (fld w 6 6) (fld w 0 6))
  | 0x0D => .ok (.andn (fld w 12 6) (fld w 6 6) (fld w 0 6))
  | 0x0E => .ok (.shl (fld w 12 6) (fld w 6 6) (fld w 0 6))
  | 0x0F => .ok (.shr (fld w 12 6) (fld w 6 6) (fld w 0 6))
  | 0x10 => .ok (.sra (fld w 12 6) (fld w 6 6) (fld w 0 6))
  | 0x11 => .ok (.rotl (fld w 12 6) (fld w 6 6) (fld w 0 6))
  | 0x12 => .ok (.min (fld w 12 6) (fld w 6 6) (fld w 0 6))
  | 0x13 => .ok (.max (fld w 12 6) (fld w 6 6) (fld w 0 6))
  | 0x14 => .ok (.minu (fld w 12 6) (fld w 6 6) (fld w 0 6))
  | 0x15 => .ok (.maxu (fld w 12 6) (fld w 6 6) (fld w 0 6))
  | 0x16 => clear 0x3F w (.clz (fld w 12 6) (fld w 6 6))
  | 0x17 => clear 0x3F w (.ctz (fld w 12 6) (fld w 6 6))
  | 0x18 => clear 0x3F w (.popc (fld w 12 6) (fld w 6 6))
  | 0x19 => .ok (.sext (fld w 12 6) (fld w 6 6) (fld w 0 6))
  | 0x1A => .ok (.zext (fld w 12 6) (fld w 6 6) (fld w 0 6))
  | 0x1B => .ok (.addi (fld w 12 6) (fld w 6 6) (fld w 0 6))
  | 0x1C => .ok (.andi (fld w 12 6) (fld w 6 6) (fld w 0 6))
  | 0x1D => .ok (.ori (fld w 12 6) (fld w 6 6) (fld w 0 6))
  | 0x1E => .ok (.shli (fld w 12 6) (fld w 6 6) (fld w 0 6))
  | 0x1F => .ok (.shri (fld w 12 6) (fld w 6 6) (fld w 0 6))
  | 0x20 => .ok (.srai (fld w 12 6) (fld w 6 6) (fld w 0 6))
  | 0x21 => .ok (.movi (fld w 12 6) (fld w 0 12))
  | 0x22 => .ok (.movhi (fld w 12 6) (fld w 0 12))
  | 0x23 => .ok (.sel g (fld w 12 6) (fld w 6 6) (fld w 0 6))
  | 0x24 => .ok (.cmp (fld w 15 3) (fld w 12 3) (fld w 6 6) (fld w 0 6))
  | 0x25 => .ok (.cmpi (fld w 15 3) (fld w 12 3) (fld w 6 6) (fld w 0 6))
  | 0x26 => .ok (.lds (fld w 12 6) (fld w 6 6) (fld w 0 6))
  | 0x27 => .ok (.sts (fld w 12 6) (fld w 6 6) (fld w 0 6))
  | 0x28 => .ok (.br (fld w 0 18))
  | 0x29 => clear 0x3F03F w (.bri (fld w 6 6))
  | 0x2A => .ok (.call (fld w 0 18))
  | 0x2C => clear 0x3F03F w (.launch (fld w 6 6))
  | 0x2E => clear 0x3F000 w (.park (fld w 6 6) (fld w 0 6))
  | 0x2F => clear 0x3F000 w (.trap (fld w 0 12))
  | 0x31 => .ok (.csrr (fld w 12 6) (fld w 0 12))
  | 0x32 => .ok (.csrw (fld w 12 6) (fld w 0 12))
  | 0x33 => .ok (.csrs (fld w 12 6) (fld w 0 12))
  | 0x34 => clear 0x3C w (.edw (fld w 12 6) (fld w 6 6) (fld w 0 2))
  | 0x35 => .ok (.edld (fld w 12 6) (fld w 6 6) (fld w 0 6))
  | 0x36 => .ok (.seg (fld w 0 18))
  | 0x37 => .ok (.rdv (fld w 0 18))
  | 0x2B => clear 0x3FFFF w .ret
  | 0x2D => clear 0x3FFFF w .halt
  | 0x30 => clear 0x3FFFF w .eret
  | _ => .error .unassigned

/-- The opcode map of port V0, 06 R124; opcode 0 is NOP on every port. GUARD is read by SEL and VSEL, which use it as a selector. -/
def decodeV0 (g : BitVec 4) (op : Nat) (w : BitVec 18) : Except DecodeError Instr :=
  match op with
  | 0x00 => clear 0x3FFFF w .nop
  | 0x01 => .ok (.faddV0 (fld w 12 6) (fld w 6 6) (fld w 0 6))
  | 0x02 => .ok (.fsubV0 (fld w 12 6) (fld w 6 6) (fld w 0 6))
  | 0x03 => .ok (.fmulV0 (fld w 12 6) (fld w 6 6) (fld w 0 6))
  | 0x04 => .ok (.fmaV0 (fld w 12 6) (fld w 6 6) (fld w 0 6))
  | 0x05 => .ok (.fmsV0 (fld w 12 6) (fld w 6 6) (fld w 0 6))
  | 0x06 => .ok (.fminV0 (fld w 12 6) (fld w 6 6) (fld w 0 6))
  | 0x07 => .ok (.fmaxV0 (fld w 12 6) (fld w 6 6) (fld w 0 6))
  | 0x08 => clear 0x3F w (.fabsV0 (fld w 12 6) (fld w 6 6))
  | 0x09 => clear 0x3F w (.fnegV0 (fld w 12 6) (fld w 6 6))
  | 0x0A => .ok (.fcpysV0 (fld w 12 6) (fld w 6 6) (fld w 0 6))
  | 0x0B => .ok (.fcmpV0 (fld w 15 3) (fld w 12 3) (fld w 6 6) (fld w 0 6))
  | 0x0C => .ok (.iaddV0 (fld w 12 6) (fld w 6 6) (fld w 0 6))
  | 0x0D => .ok (.isubV0 (fld w 12 6) (fld w 6 6) (fld w 0 6))
  | 0x0E => .ok (.imulV0 (fld w 12 6) (fld w 6 6) (fld w 0 6))
  | 0x0F => .ok (.imadV0 (fld w 12 6) (fld w 6 6) (fld w 0 6))
  | 0x10 => .ok (.iaddwV0 (fld w 12 6) (fld w 6 6) (fld w 0 6))
  | 0x11 => .ok (.imadwV0 (fld w 12 6) (fld w 6 6) (fld w 0 6))
  | 0x12 => .ok (.iminV0 (fld w 12 6) (fld w 6 6) (fld w 0 6))
  | 0x13 => .ok (.imaxV0 (fld w 12 6) (fld w 6 6) (fld w 0 6))
  | 0x14 => clear 0x3F w (.iabsV0 (fld w 12 6) (fld w 6 6))
  | 0x15 => .ok (.andV0 (fld w 12 6) (fld w 6 6) (fld w 0 6))
  | 0x16 => .ok (.orV0 (fld w 12 6) (fld w 6 6) (fld w 0 6))
  | 0x17 => .ok (.xorV0 (fld w 12 6) (fld w 6 6) (fld w 0 6))
  | 0x18 => .ok (.shlV0 (fld w 12 6) (fld w 6 6) (fld w 0 6))
  | 0x19 => .ok (.shrV0 (fld w 12 6) (fld w 6 6) (fld w 0 6))
  | 0x1A => .ok (.sraV0 (fld w 12 6) (fld w 6 6) (fld w 0 6))
  | 0x1B => .ok (.icmpV0 (fld w 15 3) (fld w 12 3) (fld w 6 6) (fld w 0 6))
  | 0x1C => .ok (.cvtV0 (fld w 12 6) (fld w 6 6) (fld w 2 4) (fld w 0 2))
  | 0x1D => .ok (.cvtnV0 (fld w 12 6) (fld w 6 6) (fld w 2 4) (fld w 0 2))
  | 0x1E => .ok (.unpklV0 (fld w 12 6) (fld w 6 6) (fld w 0 6))
  | 0x1F => .ok (.unpkhV0 (fld w 12 6) (fld w 6 6) (fld w 0 6))
  | 0x20 => .ok (.packV0 (fld w 12 6) (fld w 6 6) (fld w 0 6))
  | 0x21 => clear 0x3 w (.setfmtV0 (fld w 12 6) (fld w 6 6) (fld w 2 4))
  | 0x22 => clear 0x3F w (.vmovV0 (fld w 12 6) (fld w 6 6))
  | 0x23 => .ok (.vmoviV0 (fld w 12 6) (fld w 0 12))
  | 0x24 => .ok (.vbcstV0 (fld w 12 6) (fld w 6 6) (fld w 0 6))
  | 0x25 => .ok (.vextV0 (fld w 12 6) (fld w 6 6) (fld w 0 6))
  | 0x26 => if g.extractLsb' 3 1 = 1#1 then .error .reserved else .ok (.vselV0 (g.extractLsb' 0 3) (fld w 12 6) (fld w 6 6) (fld w 0 6))
  | 0x27 => .ok (.vpermV0 (fld w 12 6) (fld w 6 6) (fld w 0 6))
  | 0x28 => clear 0x30 w (.vrotV0 (fld w 12 6) (fld w 6 6) (fld w 0 4))
  | 0x29 => clear 0x38 w (.xclV0 (fld w 12 6) (fld w 6 6) (fld w 0 3))
  | 0x2A => clear 0x38 w (.xclbV0 (fld w 12 6) (fld w 6 6) (fld w 0 3))
  | 0x2B => clear 0x30 w (.vscanV0 (fld w 12 6) (fld w 6 6) (fld w 3 1) (fld w 2 1) (fld w 0 2))
  | 0x2C => clear 0x38 w (.vredV0 (fld w 12 6) (fld w 6 6) (fld w 2 1) (fld w 0 2))
  | 0x2D => .ok (.vst (fld w 12 6) (fld w 8 4) (fld w 0 8))
  | 0x2E => clear 0xF w (.vsts (fld w 12 6) (fld w 8 4) (fld w 4 4))
  | 0x2F => clear 0xF w (.vstx (fld w 12 6) (fld w 8 4) (fld w 4 4))
  | 0x30 => .ok (.vlds (fld w 12 6) (fld w 8 4) (fld w 4 4) (fld w 0 4))
  | 0x31 => .ok (.vldx (fld w 12 6) (fld w 8 4) (fld w 4 4) (fld w 0 4))
  | 0x32 => .ok (.vldb (fld w 12 6) (fld w 8 4) (fld w 4 4) (fld w 0 4))
  | 0x34 => .ok (.vldInt32 (fld w 12 6) (fld w 8 4) (fld w 0 8))
  | 0x35 => .ok (.vldUint32 (fld w 12 6) (fld w 8 4) (fld w 0 8))
  | 0x36 => .ok (.vldFp32 (fld w 12 6) (fld w 8 4) (fld w 0 8))
  | 0x37 => .ok (.vldInt16 (fld w 12 6) (fld w 8 4) (fld w 0 8))
  | 0x38 => .ok (.vldUint16 (fld w 12 6) (fld w 8 4) (fld w 0 8))
  | 0x39 => .ok (.vldFp16 (fld w 12 6) (fld w 8 4) (fld w 0 8))
  | 0x3A => .ok (.vldBf16 (fld w 12 6) (fld w 8 4) (fld w 0 8))
  | 0x3B => .ok (.vldInt8 (fld w 12 6) (fld w 8 4) (fld w 0 8))
  | 0x3C => .ok (.vldUint8 (fld w 12 6) (fld w 8 4) (fld w 0 8))
  | 0x3D => .ok (.vldE4m3 (fld w 12 6) (fld w 8 4) (fld w 0 8))
  | 0x3E => .ok (.vldE5m2 (fld w 12 6) (fld w 8 4) (fld w 0 8))
  | 0x3F => .ok (.vldE8m0 (fld w 12 6) (fld w 8 4) (fld w 0 8))
  | _ => .error .unassigned

/-- The opcode map of port V1, 06 R124; opcode 0 is NOP on every port. GUARD is read by SEL and VSEL, which use it as a selector. -/
def decodeV1 (g : BitVec 4) (op : Nat) (w : BitVec 18) : Except DecodeError Instr :=
  match op with
  | 0x00 => clear 0x3FFFF w .nop
  | 0x01 => .ok (.faddV1 (fld w 12 6) (fld w 6 6) (fld w 0 6))
  | 0x02 => .ok (.fsubV1 (fld w 12 6) (fld w 6 6) (fld w 0 6))
  | 0x03 => .ok (.fmulV1 (fld w 12 6) (fld w 6 6) (fld w 0 6))
  | 0x04 => .ok (.fmaV1 (fld w 12 6) (fld w 6 6) (fld w 0 6))
  | 0x05 => .ok (.fmsV1 (fld w 12 6) (fld w 6 6) (fld w 0 6))
  | 0x06 => .ok (.fminV1 (fld w 12 6) (fld w 6 6) (fld w 0 6))
  | 0x07 => .ok (.fmaxV1 (fld w 12 6) (fld w 6 6) (fld w 0 6))
  | 0x08 => clear 0x3F w (.fabsV1 (fld w 12 6) (fld w 6 6))
  | 0x09 => clear 0x3F w (.fnegV1 (fld w 12 6) (fld w 6 6))
  | 0x0A => .ok (.fcpysV1 (fld w 12 6) (fld w 6 6) (fld w 0 6))
  | 0x0B => .ok (.fcmpV1 (fld w 15 3) (fld w 12 3) (fld w 6 6) (fld w 0 6))
  | 0x0C => .ok (.iaddV1 (fld w 12 6) (fld w 6 6) (fld w 0 6))
  | 0x0D => .ok (.isubV1 (fld w 12 6) (fld w 6 6) (fld w 0 6))
  | 0x0E => .ok (.imulV1 (fld w 12 6) (fld w 6 6) (fld w 0 6))
  | 0x0F => .ok (.imadV1 (fld w 12 6) (fld w 6 6) (fld w 0 6))
  | 0x10 => .ok (.iaddwV1 (fld w 12 6) (fld w 6 6) (fld w 0 6))
  | 0x11 => .ok (.imadwV1 (fld w 12 6) (fld w 6 6) (fld w 0 6))
  | 0x12 => .ok (.iminV1 (fld w 12 6) (fld w 6 6) (fld w 0 6))
  | 0x13 => .ok (.imaxV1 (fld w 12 6) (fld w 6 6) (fld w 0 6))
  | 0x14 => clear 0x3F w (.iabsV1 (fld w 12 6) (fld w 6 6))
  | 0x15 => .ok (.andV1 (fld w 12 6) (fld w 6 6) (fld w 0 6))
  | 0x16 => .ok (.orV1 (fld w 12 6) (fld w 6 6) (fld w 0 6))
  | 0x17 => .ok (.xorV1 (fld w 12 6) (fld w 6 6) (fld w 0 6))
  | 0x18 => .ok (.shlV1 (fld w 12 6) (fld w 6 6) (fld w 0 6))
  | 0x19 => .ok (.shrV1 (fld w 12 6) (fld w 6 6) (fld w 0 6))
  | 0x1A => .ok (.sraV1 (fld w 12 6) (fld w 6 6) (fld w 0 6))
  | 0x1B => .ok (.icmpV1 (fld w 15 3) (fld w 12 3) (fld w 6 6) (fld w 0 6))
  | 0x1C => .ok (.cvtV1 (fld w 12 6) (fld w 6 6) (fld w 2 4) (fld w 0 2))
  | 0x1D => .ok (.cvtnV1 (fld w 12 6) (fld w 6 6) (fld w 2 4) (fld w 0 2))
  | 0x1E => .ok (.unpklV1 (fld w 12 6) (fld w 6 6) (fld w 0 6))
  | 0x1F => .ok (.unpkhV1 (fld w 12 6) (fld w 6 6) (fld w 0 6))
  | 0x20 => .ok (.packV1 (fld w 12 6) (fld w 6 6) (fld w 0 6))
  | 0x21 => clear 0x3 w (.setfmtV1 (fld w 12 6) (fld w 6 6) (fld w 2 4))
  | 0x22 => clear 0x3F w (.vmovV1 (fld w 12 6) (fld w 6 6))
  | 0x23 => .ok (.vmoviV1 (fld w 12 6) (fld w 0 12))
  | 0x24 => .ok (.vbcstV1 (fld w 12 6) (fld w 6 6) (fld w 0 6))
  | 0x25 => .ok (.vextV1 (fld w 12 6) (fld w 6 6) (fld w 0 6))
  | 0x26 => if g.extractLsb' 3 1 = 1#1 then .error .reserved else .ok (.vselV1 (g.extractLsb' 0 3) (fld w 12 6) (fld w 6 6) (fld w 0 6))
  | 0x27 => .ok (.vpermV1 (fld w 12 6) (fld w 6 6) (fld w 0 6))
  | 0x28 => clear 0x30 w (.vrotV1 (fld w 12 6) (fld w 6 6) (fld w 0 4))
  | 0x29 => clear 0x38 w (.xclV1 (fld w 12 6) (fld w 6 6) (fld w 0 3))
  | 0x2A => clear 0x38 w (.xclbV1 (fld w 12 6) (fld w 6 6) (fld w 0 3))
  | 0x2B => clear 0x30 w (.vscanV1 (fld w 12 6) (fld w 6 6) (fld w 3 1) (fld w 2 1) (fld w 0 2))
  | 0x2C => clear 0x38 w (.vredV1 (fld w 12 6) (fld w 6 6) (fld w 2 1) (fld w 0 2))
  | 0x2D => clear 0x38E38 w (.mkand (fld w 12 3) (fld w 6 3) (fld w 0 3))
  | 0x2E => clear 0x38E38 w (.mkor (fld w 12 3) (fld w 6 3) (fld w 0 3))
  | 0x2F => clear 0x38E3F w (.mknot (fld w 12 3) (fld w 6 3))
  | 0x30 => clear 0x3F w (.frcp (fld w 12 6) (fld w 6 6))
  | 0x31 => clear 0x3F w (.frsq (fld w 12 6) (fld w 6 6))
  | 0x32 => clear 0x3F w (.fsqrt (fld w 12 6) (fld w 6 6))
  | 0x33 => clear 0x3F w (.fexp2 (fld w 12 6) (fld w 6 6))
  | 0x34 => clear 0x3F w (.flog2 (fld w 12 6) (fld w 6 6))
  | 0x35 => clear 0x3F w (.ftanh (fld w 12 6) (fld w 6 6))
  | _ => .error .unassigned

/-- The opcode map of port M, 06 R125; opcode 0 is NOP on every port. -/
def decodeM (op : Nat) (w : BitVec 18) : Except DecodeError Instr :=
  match op with
  | 0x00 => clear 0x3FFFF w .nop
  | 0x01 => .ok (.mldw (fld w 15 3) (fld w 12 3) (fld w 9 3) (fld w 6 3) (fld w 0 6))
  | 0x02 => clear 0x3F w (.mswap (fld w 15 3) (fld w 12 3) (fld w 9 3) (fld w 6 3))
  | 0x03 => .ok (.mmul (fld w 15 3) (fld w 12 3) (fld w 9 3) (fld w 6 3) (fld w 0 6))
  | 0x04 => .ok (.mmuls (fld w 15 3) (fld w 12 3) (fld w 9 3) (fld w 6 3) (fld w 0 6))
  | 0x05 => .ok (.mbagAcc (fld w 15 3) (fld w 12 3) (fld w 9 3) (fld w 6 3) (fld w 0 6))
  | 0x06 => .ok (.mbagSteer (fld w 15 3) (fld w 12 3) (fld w 9 3) (fld w 6 3) (fld w 0 6))
  | 0x07 => .ok (.mzero (fld w 15 3) (fld w 12 3) (fld w 9 3) (fld w 6 3) (fld w 0 6))
  | 0x08 => .ok (.manch (fld w 15 3) (fld w 12 3) (fld w 9 3) (fld w 6 3) (fld w 0 6))
  | 0x09 => .ok (.mrd (fld w 15 3) (fld w 12 3) (fld w 9 3) (fld w 6 3) (fld w 0 6))
  | 0x0A => .ok (.mst (fld w 15 3) (fld w 12 3) (fld w 9 3) (fld w 6 3) (fld w 0 6))
  | 0x0B => .ok (.maddv (fld w 15 3) (fld w 12 3) (fld w 9 3) (fld w 6 3) (fld w 0 6))
  | 0x0C => .ok (.mstat (fld w 15 3) (fld w 12 3) (fld w 9 3) (fld w 6 3) (fld w 0 6))
  | 0x0D => .ok (.mtrl (fld w 15 3) (fld w 12 3) (fld w 9 3) (fld w 6 3) (fld w 0 6))
  | 0x0E => .ok (.mldt (fld w 15 3) (fld w 12 3) (fld w 9 3) (fld w 6 3) (fld w 0 6))
  | 0x0F => .ok (.mstt (fld w 15 3) (fld w 12 3) (fld w 9 3) (fld w 6 3) (fld w 0 6))
  | 0x10 => .ok (.mcode (fld w 15 3) (fld w 12 3) (fld w 9 3) (fld w 6 3) (fld w 0 6))
  | _ => .error .unassigned

/-- The opcode map of port C0 and C1, 06 R125; opcode 0 is NOP on every port. -/
def decodeC (op : Nat) (w : BitVec 18) : Except DecodeError Instr :=
  match op with
  | 0x00 => clear 0x3FFFF w .nop
  | 0x01 => .ok (.cpy (fld w 15 3) (fld w 12 3) (fld w 9 3) (fld w 6 3) (fld w 0 6))
  | 0x02 => .ok (.cpym (fld w 15 3) (fld w 12 3) (fld w 9 3) (fld w 6 3) (fld w 0 6))
  | 0x03 => .ok (.gath (fld w 15 3) (fld w 12 3) (fld w 9 3) (fld w 6 3) (fld w 0 6))
  | 0x04 => .ok (.scat (fld w 15 3) (fld w 12 3) (fld w 9 3) (fld w 6 3) (fld w 0 6))
  | 0x05 => .ok (.fill (fld w 15 3) (fld w 12 3) (fld w 9 3) (fld w 6 3) (fld w 0 6))
  | 0x06 => .ok (.bulk (fld w 15 3) (fld w 12 3) (fld w 9 3) (fld w 6 3) (fld w 0 6))
  | _ => .error .unassigned

/-- The opcode map of port A, 06 R125; opcode 0 is NOP on every port. -/
def decodeA (op : Nat) (w : BitVec 18) : Except DecodeError Instr :=
  match op with
  | 0x00 => clear 0x3FFFF w .nop
  | 0x01 => clear 0x30C00 w (.au (fld w 12 4) (fld w 6 4) (fld w 0 6))
  | 0x02 => clear 0x30000 w (.aui (fld w 12 4) (fld w 0 12))
  | 0x03 => clear 0x3003F w (.amov (fld w 12 4) (fld w 6 6))
  | 0x04 => clear 0xC3F w (.aget (fld w 12 6) (fld w 6 4))
  | 0x05 => .ok (.loop (fld w 15 3) (fld w 9 6) (fld w 3 6) (fld w 0 3))
  | 0x06 => clear 0x1F w (.lstep (fld w 14 4) (fld w 11 3) (fld w 5 6))
  | 0x07 => clear 0x30C30 w (.pand (fld w 12 4) (fld w 6 4) (fld w 0 4))
  | 0x08 => clear 0x30C30 w (.por (fld w 12 4) (fld w 6 4) (fld w 0 4))
  | 0x09 => clear 0x30C30 w (.pxor (fld w 12 4) (fld w 6 4) (fld w 0 4))
  | 0x0A => clear 0x30C3F w (.pnot (fld w 12 4) (fld w 6 4))
  | 0x0B => clear 0x30C3F w (.pmov (fld w 12 4) (fld w 6 4))
  | 0x0C => clear 0x30FFE w (.pset (fld w 12 4) (fld w 0 1))
  | 0x0D => clear 0x38000 w (.stage (fld w 12 3) (fld w 0 12))
  | 0x0E => clear 0x7FFF w (.kclr (fld w 15 3))
  | _ => .error .unassigned

/-- The opcode map of port P, 06 R126; opcode 0 is NOP on every port. -/
def decodeP (op : Nat) (w : BitVec 18) : Except DecodeError Instr :=
  match op with
  | 0x00 => clear 0x3FFFF w .nop
  | 0x01 => clear 0x1F w (.probe (fld w 15 3) (fld w 9 6) (fld w 5 4))
  | 0x02 => clear 0x1F w (.probei (fld w 15 3) (fld w 9 6) (fld w 5 4))
  | 0x03 => clear 0x3F0FF w (.pwb (fld w 8 4))
  | 0x04 => clear 0x3F0FF w (.pinv (fld w 8 4))
  | 0x05 => clear 0x3F0FE w (.ppin (fld w 8 4) (fld w 0 1))
  | 0x08 => .ok (.ldg 0#2 (fld w 12 6) (fld w 8 4) (fld w 3 5) (fld w 0 3))
  | 0x09 => .ok (.ldg 1#2 (fld w 12 6) (fld w 8 4) (fld w 3 5) (fld w 0 3))
  | 0x0A => .ok (.ldg 2#2 (fld w 12 6) (fld w 8 4) (fld w 3 5) (fld w 0 3))
  | 0x0B => .ok (.ldg 3#2 (fld w 12 6) (fld w 8 4) (fld w 3 5) (fld w 0 3))
  | 0x0C => .ok (.ldgi (fld w 12 6) (fld w 8 4) (fld w 3 5) (fld w 0 3))
  | 0x0D => .ok (.ldgv (fld w 12 6) (fld w 8 4) (fld w 3 5) (fld w 0 3))
  | 0x10 => .ok (.stg 0#2 (fld w 12 6) (fld w 8 4) (fld w 3 5) (fld w 0 3))
  | 0x11 => .ok (.stg 1#2 (fld w 12 6) (fld w 8 4) (fld w 3 5) (fld w 0 3))
  | 0x12 => .ok (.stg 2#2 (fld w 12 6) (fld w 8 4) (fld w 3 5) (fld w 0 3))
  | 0x13 => .ok (.stg 3#2 (fld w 12 6) (fld w 8 4) (fld w 3 5) (fld w 0 3))
  | 0x14 => .ok (.stgv (fld w 12 6) (fld w 8 4) (fld w 3 5) (fld w 0 3))
  | 0x15 => clear 0xF8 w (.lda (fld w 12 6) (fld w 8 4) (fld w 0 3))
  | 0x16 => .ok (.stl (fld w 12 6) (fld w 8 4) (fld w 3 5) (fld w 0 3))
  | 0x18 => .ok (.aadd (fld w 12 6) (fld w 8 4) (fld w 6 2) (fld w 3 3) (fld w 0 3))
  | 0x19 => .ok (.aaddf (fld w 12 6) (fld w 8 4) (fld w 6 2) (fld w 3 3) (fld w 0 3))
  | 0x1A => .ok (.aaddqFp32 (fld w 12 6) (fld w 8 4) (fld w 6 2) (fld w 3 3) (fld w 0 3))
  | 0x1B => .ok (.aaddqBf16 (fld w 12 6) (fld w 8 4) (fld w 6 2) (fld w 3 3) (fld w 0 3))
  | 0x1C => .ok (.aaddqFp16 (fld w 12 6) (fld w 8 4) (fld w 6 2) (fld w 3 3) (fld w 0 3))
  | 0x1D => .ok (.amin (fld w 12 6) (fld w 8 4) (fld w 6 2) (fld w 3 3) (fld w 0 3))
  | 0x1E => .ok (.amax (fld w 12 6) (fld w 8 4) (fld w 6 2) (fld w 3 3) (fld w 0 3))
  | 0x1F => .ok (.aand (fld w 12 6) (fld w 8 4) (fld w 6 2) (fld w 3 3) (fld w 0 3))
  | 0x20 => .ok (.aor (fld w 12 6) (fld w 8 4) (fld w 6 2) (fld w 3 3) (fld w 0 3))
  | 0x21 => .ok (.axor (fld w 12 6) (fld w 8 4) (fld w 6 2) (fld w 3 3) (fld w 0 3))
  | 0x22 => .ok (.axch (fld w 12 6) (fld w 8 4) (fld w 6 2) (fld w 3 3) (fld w 0 3))
  | 0x23 => .ok (.acas (fld w 12 6) (fld w 8 4) (fld w 6 2) (fld w 3 3) (fld w 0 3))
  | 0x28 => clear 0x3FFF8 w (.drain (fld w 0 3))
  | 0x29 => clear 0x3F003 w (.bfence (fld w 8 4) (fld w 2 6))
  | 0x2A => clear 0x3803F w (.twait (fld w 12 3) (fld w 9 3) (fld w 6 3))
  | 0x2B => clear 0x3F040 w (.bwait (fld w 8 4) (fld w 7 1) (fld w 0 6))
  | 0x2C => clear 0x38040 w (.badd (fld w 12 3) (fld w 8 4) (fld w 7 1) (fld w 0 6))
  | 0x2D => clear 0x3F03F w (.phase (fld w 6 6))
  | 0x30 => .ok (.rpkX (fld w 15 3) (fld w 12 3) (fld w 9 3) (fld w 6 3) (fld w 0 6))
  | 0x31 => .ok (.rpkF (fld w 15 3) (fld w 12 3) (fld w 9 3) (fld w 6 3) (fld w 0 6))
  | 0x32 => .ok (.bankld (fld w 15 3) (fld w 12 3) (fld w 9 3) (fld w 6 3) (fld w 0 6))
  | 0x33 => .ok (.bankgo (fld w 15 3) (fld w 12 3) (fld w 9 3) (fld w 6 3) (fld w 0 6))
  | 0x2E => clear 0x3FFFF w .phwait
  | _ => .error .unassigned

end Decode

/-- The header of a slot word. -/
def Decode.header (w : SlotWord) : SlotHeader := ⟨Decode.stop w, Decode.port w, Decode.guard w⟩

/-- The instruction of a slot word, or why it is none.  Total on every word. -/
def decodeInstr (w : SlotWord) : Except DecodeError Instr :=
  let g := Decode.guard w; let op := (Decode.opc w).toNat; let ops := Decode.operands w
  match (Decode.port w).toNat with
  | 0 => Decode.decodeS g op ops
  | 1 => Decode.decodeV0 g op ops
  | 2 => Decode.decodeV1 g op ops
  | 3 => Decode.decodeM op ops
  | 4 => Decode.decodeC op ops
  | 5 => Decode.decodeC op ops
  | 6 => Decode.decodeA op ops
  | _ => Decode.decodeP op ops

/-- The slot that a slot word encodes, or why it is none. -/
def decodeSlot (w : SlotWord) : Except DecodeError Slot :=
  (decodeInstr w).map fun i => ⟨Decode.header w, i⟩

/-- A micro-op with reserved bits: the micro-op when they are clear. -/
def Decode.clearUop (mask w : BitVec 16) (t : BitVec 5) (i : Instr) : Except DecodeError UopSlot :=
  if w &&& mask = 0 then .ok ⟨t, i⟩ else .error .reserved

/-- The micro-op of a 16-bit code (13 R286), or why it is none. -/
def decodeUop (w : BitVec 16) : Except DecodeError UopSlot :=
  match (w.extractLsb' 12 4).toNat with
  | 0 => Decode.clearUop 0xFFF w 0 .uopEnd
  | 1 => Decode.clearUop 0xFFF w 0 .uopAct
  | 2 => Decode.clearUop 0x7 w 0 (.uopRdc (w.extractLsb' 10 2) (w.extractLsb' 5 5) (w.extractLsb' 3 2))
  | 3 => Decode.clearUop 0x7 w 0 (.uopWrc (w.extractLsb' 10 2) (w.extractLsb' 5 5) (w.extractLsb' 3 2))
  | 4 => Decode.clearUop 0x1F w 0 (.uopMac (w.extractLsb' 10 2) (w.extractLsb' 8 2) (w.extractLsb' 5 3))
  | 5 => Decode.clearUop 0xFF w 0 (.uopAdd (w.extractLsb' 10 2) (w.extractLsb' 8 2))
  | 6 => Decode.clearUop 0x1F w 0 (.uopScl (w.extractLsb' 10 2) (w.extractLsb' 8 2) (w.extractLsb' 5 3))
  | 7 => Decode.clearUop 0xFE0 w 0 (.uopNcol (w.extractLsb' 0 5))
  | 8 => Decode.clearUop 0x0 w (w.extractLsb' 7 5) (.uopLoopc (w.extractLsb' 0 7))
  | 9 => Decode.clearUop 0x7F w (w.extractLsb' 7 5) .uopRowend
  | 10 => Decode.clearUop 0xFFF w 0 .uopWaits
  | _ => .error .unassigned

/-- What the decoder reads from the first `nbits` bits of an instruction numbered as the opcode table numbers them: 32 bits are a slot
word, 16 bits a bank micro-op.  No row has another width. -/
def decodeTableWord (nbits w : Nat) : Option Instr :=
  if nbits = 32 then (decodeInstr (BitVec.ofNat 32 w)).toOption
  else if nbits = 16 then ((decodeUop (BitVec.ofNat 16 w)).map UopSlot.instr).toOption
  else none

/-- The fields of an instruction's slot word that the instruction itself fixes: whether a port takes it, the GUARD field when it is a selector
(SEL and VSEL), OPC and the operand field (06 R116-R126).  None for a micro-op or an event. -/
structure SlotParts where
  /-- The ports that accept the opcode. -/
  ports : List (BitVec 3)
  /-- The selector in GUARD of SEL and VSEL. -/
  selector : Option (BitVec 4)
  opc : BitVec 6
  operands : BitVec 18
deriving DecidableEq, Repr

/-- The parts of an instruction's slot word, from the opcode maps and layouts (06 R120, R123-R126). -/
def Instr.slotParts : Instr → Option SlotParts
  | .nop => some ⟨[0, 1, 2, 3, 4, 5, 6, 7], none, 0, 0⟩
  | .add d a b => some ⟨[0], none, 0x01, d ++ a ++ b⟩
  | .sub d a b => some ⟨[0], none, 0x02, d ++ a ++ b⟩
  | .mul d a b => some ⟨[0], none, 0x03, d ++ a ++ b⟩
  | .mulh d a b => some ⟨[0], none, 0x04, d ++ a ++ b⟩
  | .mulhu d a b => some ⟨[0], none, 0x05, d ++ a ++ b⟩
  | .div d a b => some ⟨[0], none, 0x06, d ++ a ++ b⟩
  | .divu d a b => some ⟨[0], none, 0x07, d ++ a ++ b⟩
  | .rem d a b => some ⟨[0], none, 0x08, d ++ a ++ b⟩
  | .remu d a b => some ⟨[0], none, 0x09, d ++ a ++ b⟩
  | .and d a b => some ⟨[0], none, 0x0A, d ++ a ++ b⟩
  | .or d a b => some ⟨[0], none, 0x0B, d ++ a ++ b⟩
  | .xor d a b => some ⟨[0], none, 0x0C, d ++ a ++ b⟩
  | .andn d a b => some ⟨[0], none, 0x0D, d ++ a ++ b⟩
  | .shl d a b => some ⟨[0], none, 0x0E, d ++ a ++ b⟩
  | .shr d a b => some ⟨[0], none, 0x0F, d ++ a ++ b⟩
  | .sra d a b => some ⟨[0], none, 0x10, d ++ a ++ b⟩
  | .rotl d a b => some ⟨[0], none, 0x11, d ++ a ++ b⟩
  | .min d a b => some ⟨[0], none, 0x12, d ++ a ++ b⟩
  | .max d a b => some ⟨[0], none, 0x13, d ++ a ++ b⟩
  | .minu d a b => some ⟨[0], none, 0x14, d ++ a ++ b⟩
  | .maxu d a b => some ⟨[0], none, 0x15, d ++ a ++ b⟩
  | .clz d a => some ⟨[0], none, 0x16, d ++ a ++ 0#6⟩
  | .ctz d a => some ⟨[0], none, 0x17, d ++ a ++ 0#6⟩
  | .popc d a => some ⟨[0], none, 0x18, d ++ a ++ 0#6⟩
  | .sext d a n => some ⟨[0], none, 0x19, d ++ a ++ n⟩
  | .zext d a n => some ⟨[0], none, 0x1A, d ++ a ++ n⟩
  | .addi d a i => some ⟨[0], none, 0x1B, d ++ a ++ i⟩
  | .andi d a i => some ⟨[0], none, 0x1C, d ++ a ++ i⟩
  | .ori d a i => some ⟨[0], none, 0x1D, d ++ a ++ i⟩
  | .shli d a i => some ⟨[0], none, 0x1E, d ++ a ++ i⟩
  | .shri d a i => some ⟨[0], none, 0x1F, d ++ a ++ i⟩
  | .srai d a i => some ⟨[0], none, 0x20, d ++ a ++ i⟩
  | .movi d i => some ⟨[0], none, 0x21, d ++ i⟩
  | .movhi d i => some ⟨[0], none, 0x22, d ++ i⟩
  | .sel q d a b => some ⟨[0], (some q), 0x23, d ++ a ++ b⟩
  | .cmp r c a b => some ⟨[0], none, 0x24, r ++ c ++ a ++ b⟩
  | .cmpi r c a i => some ⟨[0], none, 0x25, r ++ c ++ a ++ i⟩
  | .lds d a i => some ⟨[0], none, 0x26, d ++ a ++ i⟩
  | .sts d a i => some ⟨[0], none, 0x27, d ++ a ++ i⟩
  | .br i => some ⟨[0], none, 0x28, i⟩
  | .bri a => some ⟨[0], none, 0x29, 0#6 ++ a ++ 0#6⟩
  | .call i => some ⟨[0], none, 0x2A, i⟩
  | .launch a => some ⟨[0], none, 0x2C, 0#6 ++ a ++ 0#6⟩
  | .park a b => some ⟨[0], none, 0x2E, 0#6 ++ a ++ b⟩
  | .trap i => some ⟨[0], none, 0x2F, 0#6 ++ i⟩
  | .csrr d i => some ⟨[0], none, 0x31, d ++ i⟩
  | .csrw d i => some ⟨[0], none, 0x32, d ++ i⟩
  | .csrs d i => some ⟨[0], none, 0x33, d ++ i⟩
  | .edw d a w => some ⟨[0], none, 0x34, d ++ a ++ 0#4 ++ w⟩
  | .edld d a i => some ⟨[0], none, 0x35, d ++ a ++ i⟩
  | .seg i => some ⟨[0], none, 0x36, i⟩
  | .rdv i => some ⟨[0], none, 0x37, i⟩
  | .ret => some ⟨[0], none, 0x2B, 0⟩
  | .halt => some ⟨[0], none, 0x2D, 0⟩
  | .eret => some ⟨[0], none, 0x30, 0⟩
  | .faddV0 d a b => some ⟨[1], none, 0x01, d ++ a ++ b⟩
  | .fsubV0 d a b => some ⟨[1], none, 0x02, d ++ a ++ b⟩
  | .fmulV0 d a b => some ⟨[1], none, 0x03, d ++ a ++ b⟩
  | .fmaV0 d a b => some ⟨[1], none, 0x04, d ++ a ++ b⟩
  | .fmsV0 d a b => some ⟨[1], none, 0x05, d ++ a ++ b⟩
  | .fminV0 d a b => some ⟨[1], none, 0x06, d ++ a ++ b⟩
  | .fmaxV0 d a b => some ⟨[1], none, 0x07, d ++ a ++ b⟩
  | .fabsV0 d a => some ⟨[1], none, 0x08, d ++ a ++ 0#6⟩
  | .fnegV0 d a => some ⟨[1], none, 0x09, d ++ a ++ 0#6⟩
  | .fcpysV0 d a b => some ⟨[1], none, 0x0A, d ++ a ++ b⟩
  | .fcmpV0 m c a b => some ⟨[1], none, 0x0B, m ++ c ++ a ++ b⟩
  | .iaddV0 d a b => some ⟨[1], none, 0x0C, d ++ a ++ b⟩
  | .isubV0 d a b => some ⟨[1], none, 0x0D, d ++ a ++ b⟩
  | .imulV0 d a b => some ⟨[1], none, 0x0E, d ++ a ++ b⟩
  | .imadV0 d a b => some ⟨[1], none, 0x0F, d ++ a ++ b⟩
  | .iaddwV0 d a b => some ⟨[1], none, 0x10, d ++ a ++ b⟩
  | .imadwV0 d a b => some ⟨[1], none, 0x11, d ++ a ++ b⟩
  | .iminV0 d a b => some ⟨[1], none, 0x12, d ++ a ++ b⟩
  | .imaxV0 d a b => some ⟨[1], none, 0x13, d ++ a ++ b⟩
  | .iabsV0 d a => some ⟨[1], none, 0x14, d ++ a ++ 0#6⟩
  | .andV0 d a b => some ⟨[1], none, 0x15, d ++ a ++ b⟩
  | .orV0 d a b => some ⟨[1], none, 0x16, d ++ a ++ b⟩
  | .xorV0 d a b => some ⟨[1], none, 0x17, d ++ a ++ b⟩
  | .shlV0 d a b => some ⟨[1], none, 0x18, d ++ a ++ b⟩
  | .shrV0 d a b => some ⟨[1], none, 0x19, d ++ a ++ b⟩
  | .sraV0 d a b => some ⟨[1], none, 0x1A, d ++ a ++ b⟩
  | .icmpV0 m c a b => some ⟨[1], none, 0x1B, m ++ c ++ a ++ b⟩
  | .cvtV0 d a f n => some ⟨[1], none, 0x1C, d ++ a ++ f ++ n⟩
  | .cvtnV0 d a f n => some ⟨[1], none, 0x1D, d ++ a ++ f ++ n⟩
  | .unpklV0 d a b => some ⟨[1], none, 0x1E, d ++ a ++ b⟩
  | .unpkhV0 d a b => some ⟨[1], none, 0x1F, d ++ a ++ b⟩
  | .packV0 d a b => some ⟨[1], none, 0x20, d ++ a ++ b⟩
  | .setfmtV0 d a f => some ⟨[1], none, 0x21, d ++ a ++ f ++ 0#2⟩
  | .vmovV0 d a => some ⟨[1], none, 0x22, d ++ a ++ 0#6⟩
  | .vmoviV0 d i => some ⟨[1], none, 0x23, d ++ i⟩
  | .vbcstV0 d a b => some ⟨[1], none, 0x24, d ++ a ++ b⟩
  | .vextV0 d a b => some ⟨[1], none, 0x25, d ++ a ++ b⟩
  | .vselV0 m d a b => some ⟨[1], (some (0#1 ++ m)), 0x26, d ++ a ++ b⟩
  | .vpermV0 d a b => some ⟨[1], none, 0x27, d ++ a ++ b⟩
  | .vrotV0 d a n => some ⟨[1], none, 0x28, d ++ a ++ 0#2 ++ n⟩
  | .xclV0 d a n => some ⟨[1], none, 0x29, d ++ a ++ 0#3 ++ n⟩
  | .xclbV0 d a n => some ⟨[1], none, 0x2A, d ++ a ++ 0#3 ++ n⟩
  | .vscanV0 d a x e o => some ⟨[1], none, 0x2B, d ++ a ++ 0#2 ++ x ++ e ++ o⟩
  | .vredV0 d a e o => some ⟨[1], none, 0x2C, d ++ a ++ 0#3 ++ e ++ o⟩
  | .vst d a i => some ⟨[1], none, 0x2D, d ++ a ++ i⟩
  | .vsts d a x => some ⟨[1], none, 0x2E, d ++ a ++ x ++ 0#4⟩
  | .vstx d a x => some ⟨[1], none, 0x2F, d ++ a ++ x ++ 0#4⟩
  | .vlds d a x f => some ⟨[1], none, 0x30, d ++ a ++ x ++ f⟩
  | .vldx d a x f => some ⟨[1], none, 0x31, d ++ a ++ x ++ f⟩
  | .vldb d a x f => some ⟨[1], none, 0x32, d ++ a ++ x ++ f⟩
  | .vldInt32 d a i => some ⟨[1], none, 0x34, d ++ a ++ i⟩
  | .vldUint32 d a i => some ⟨[1], none, 0x35, d ++ a ++ i⟩
  | .vldFp32 d a i => some ⟨[1], none, 0x36, d ++ a ++ i⟩
  | .vldInt16 d a i => some ⟨[1], none, 0x37, d ++ a ++ i⟩
  | .vldUint16 d a i => some ⟨[1], none, 0x38, d ++ a ++ i⟩
  | .vldFp16 d a i => some ⟨[1], none, 0x39, d ++ a ++ i⟩
  | .vldBf16 d a i => some ⟨[1], none, 0x3A, d ++ a ++ i⟩
  | .vldInt8 d a i => some ⟨[1], none, 0x3B, d ++ a ++ i⟩
  | .vldUint8 d a i => some ⟨[1], none, 0x3C, d ++ a ++ i⟩
  | .vldE4m3 d a i => some ⟨[1], none, 0x3D, d ++ a ++ i⟩
  | .vldE5m2 d a i => some ⟨[1], none, 0x3E, d ++ a ++ i⟩
  | .vldE8m0 d a i => some ⟨[1], none, 0x3F, d ++ a ++ i⟩
  | .faddV1 d a b => some ⟨[2], none, 0x01, d ++ a ++ b⟩
  | .fsubV1 d a b => some ⟨[2], none, 0x02, d ++ a ++ b⟩
  | .fmulV1 d a b => some ⟨[2], none, 0x03, d ++ a ++ b⟩
  | .fmaV1 d a b => some ⟨[2], none, 0x04, d ++ a ++ b⟩
  | .fmsV1 d a b => some ⟨[2], none, 0x05, d ++ a ++ b⟩
  | .fminV1 d a b => some ⟨[2], none, 0x06, d ++ a ++ b⟩
  | .fmaxV1 d a b => some ⟨[2], none, 0x07, d ++ a ++ b⟩
  | .fabsV1 d a => some ⟨[2], none, 0x08, d ++ a ++ 0#6⟩
  | .fnegV1 d a => some ⟨[2], none, 0x09, d ++ a ++ 0#6⟩
  | .fcpysV1 d a b => some ⟨[2], none, 0x0A, d ++ a ++ b⟩
  | .fcmpV1 m c a b => some ⟨[2], none, 0x0B, m ++ c ++ a ++ b⟩
  | .iaddV1 d a b => some ⟨[2], none, 0x0C, d ++ a ++ b⟩
  | .isubV1 d a b => some ⟨[2], none, 0x0D, d ++ a ++ b⟩
  | .imulV1 d a b => some ⟨[2], none, 0x0E, d ++ a ++ b⟩
  | .imadV1 d a b => some ⟨[2], none, 0x0F, d ++ a ++ b⟩
  | .iaddwV1 d a b => some ⟨[2], none, 0x10, d ++ a ++ b⟩
  | .imadwV1 d a b => some ⟨[2], none, 0x11, d ++ a ++ b⟩
  | .iminV1 d a b => some ⟨[2], none, 0x12, d ++ a ++ b⟩
  | .imaxV1 d a b => some ⟨[2], none, 0x13, d ++ a ++ b⟩
  | .iabsV1 d a => some ⟨[2], none, 0x14, d ++ a ++ 0#6⟩
  | .andV1 d a b => some ⟨[2], none, 0x15, d ++ a ++ b⟩
  | .orV1 d a b => some ⟨[2], none, 0x16, d ++ a ++ b⟩
  | .xorV1 d a b => some ⟨[2], none, 0x17, d ++ a ++ b⟩
  | .shlV1 d a b => some ⟨[2], none, 0x18, d ++ a ++ b⟩
  | .shrV1 d a b => some ⟨[2], none, 0x19, d ++ a ++ b⟩
  | .sraV1 d a b => some ⟨[2], none, 0x1A, d ++ a ++ b⟩
  | .icmpV1 m c a b => some ⟨[2], none, 0x1B, m ++ c ++ a ++ b⟩
  | .cvtV1 d a f n => some ⟨[2], none, 0x1C, d ++ a ++ f ++ n⟩
  | .cvtnV1 d a f n => some ⟨[2], none, 0x1D, d ++ a ++ f ++ n⟩
  | .unpklV1 d a b => some ⟨[2], none, 0x1E, d ++ a ++ b⟩
  | .unpkhV1 d a b => some ⟨[2], none, 0x1F, d ++ a ++ b⟩
  | .packV1 d a b => some ⟨[2], none, 0x20, d ++ a ++ b⟩
  | .setfmtV1 d a f => some ⟨[2], none, 0x21, d ++ a ++ f ++ 0#2⟩
  | .vmovV1 d a => some ⟨[2], none, 0x22, d ++ a ++ 0#6⟩
  | .vmoviV1 d i => some ⟨[2], none, 0x23, d ++ i⟩
  | .vbcstV1 d a b => some ⟨[2], none, 0x24, d ++ a ++ b⟩
  | .vextV1 d a b => some ⟨[2], none, 0x25, d ++ a ++ b⟩
  | .vselV1 m d a b => some ⟨[2], (some (0#1 ++ m)), 0x26, d ++ a ++ b⟩
  | .vpermV1 d a b => some ⟨[2], none, 0x27, d ++ a ++ b⟩
  | .vrotV1 d a n => some ⟨[2], none, 0x28, d ++ a ++ 0#2 ++ n⟩
  | .xclV1 d a n => some ⟨[2], none, 0x29, d ++ a ++ 0#3 ++ n⟩
  | .xclbV1 d a n => some ⟨[2], none, 0x2A, d ++ a ++ 0#3 ++ n⟩
  | .vscanV1 d a x e o => some ⟨[2], none, 0x2B, d ++ a ++ 0#2 ++ x ++ e ++ o⟩
  | .vredV1 d a e o => some ⟨[2], none, 0x2C, d ++ a ++ 0#3 ++ e ++ o⟩
  | .mkand d a b => some ⟨[2], none, 0x2D, 0#3 ++ d ++ 0#3 ++ a ++ 0#3 ++ b⟩
  | .mkor d a b => some ⟨[2], none, 0x2E, 0#3 ++ d ++ 0#3 ++ a ++ 0#3 ++ b⟩
  | .mknot d a => some ⟨[2], none, 0x2F, 0#3 ++ d ++ 0#3 ++ a ++ 0#6⟩
  | .frcp d a => some ⟨[2], none, 0x30, d ++ a ++ 0#6⟩
  | .frsq d a => some ⟨[2], none, 0x31, d ++ a ++ 0#6⟩
  | .fsqrt d a => some ⟨[2], none, 0x32, d ++ a ++ 0#6⟩
  | .fexp2 d a => some ⟨[2], none, 0x33, d ++ a ++ 0#6⟩
  | .flog2 d a => some ⟨[2], none, 0x34, d ++ a ++ 0#6⟩
  | .ftanh d a => some ⟨[2], none, 0x35, d ++ a ++ 0#6⟩
  | .mldw k x y z e => some ⟨[3], none, 0x01, k ++ x ++ y ++ z ++ e⟩
  | .mswap k x y z => some ⟨[3], none, 0x02, k ++ x ++ y ++ z ++ 0#6⟩
  | .mmul k x y z e => some ⟨[3], none, 0x03, k ++ x ++ y ++ z ++ e⟩
  | .mmuls k x y z e => some ⟨[3], none, 0x04, k ++ x ++ y ++ z ++ e⟩
  | .mbagAcc k x y z e => some ⟨[3], none, 0x05, k ++ x ++ y ++ z ++ e⟩
  | .mbagSteer k x y z e => some ⟨[3], none, 0x06, k ++ x ++ y ++ z ++ e⟩
  | .mzero k x y z e => some ⟨[3], none, 0x07, k ++ x ++ y ++ z ++ e⟩
  | .manch k x y z e => some ⟨[3], none, 0x08, k ++ x ++ y ++ z ++ e⟩
  | .mrd k x y z e => some ⟨[3], none, 0x09, k ++ x ++ y ++ z ++ e⟩
  | .mst k x y z e => some ⟨[3], none, 0x0A, k ++ x ++ y ++ z ++ e⟩
  | .maddv k x y z e => some ⟨[3], none, 0x0B, k ++ x ++ y ++ z ++ e⟩
  | .mstat k x y z e => some ⟨[3], none, 0x0C, k ++ x ++ y ++ z ++ e⟩
  | .mtrl k x y z e => some ⟨[3], none, 0x0D, k ++ x ++ y ++ z ++ e⟩
  | .mldt k x y z e => some ⟨[3], none, 0x0E, k ++ x ++ y ++ z ++ e⟩
  | .mstt k x y z e => some ⟨[3], none, 0x0F, k ++ x ++ y ++ z ++ e⟩
  | .mcode k x y z e => some ⟨[3], none, 0x10, k ++ x ++ y ++ z ++ e⟩
  | .cpy k x y z e => some ⟨[4, 5], none, 0x01, k ++ x ++ y ++ z ++ e⟩
  | .cpym k x y z e => some ⟨[4, 5], none, 0x02, k ++ x ++ y ++ z ++ e⟩
  | .gath k x y z e => some ⟨[4, 5], none, 0x03, k ++ x ++ y ++ z ++ e⟩
  | .scat k x y z e => some ⟨[4, 5], none, 0x04, k ++ x ++ y ++ z ++ e⟩
  | .fill k x y z e => some ⟨[4, 5], none, 0x05, k ++ x ++ y ++ z ++ e⟩
  | .bulk k x y z e => some ⟨[4, 5], none, 0x06, k ++ x ++ y ++ z ++ e⟩
  | .au d a b => some ⟨[6], none, 0x01, 0#2 ++ d ++ 0#2 ++ a ++ b⟩
  | .aui d i => some ⟨[6], none, 0x02, 0#2 ++ d ++ i⟩
  | .amov d a => some ⟨[6], none, 0x03, 0#2 ++ d ++ a ++ 0#6⟩
  | .aget d a => some ⟨[6], none, 0x04, d ++ 0#2 ++ a ++ 0#6⟩
  | .loop l c b n => some ⟨[6], none, 0x05, l ++ c ++ b ++ n⟩
  | .lstep a l s => some ⟨[6], none, 0x06, a ++ l ++ s ++ 0#5⟩
  | .pand d a b => some ⟨[6], none, 0x07, 0#2 ++ d ++ 0#2 ++ a ++ 0#2 ++ b⟩
  | .por d a b => some ⟨[6], none, 0x08, 0#2 ++ d ++ 0#2 ++ a ++ 0#2 ++ b⟩
  | .pxor d a b => some ⟨[6], none, 0x09, 0#2 ++ d ++ 0#2 ++ a ++ 0#2 ++ b⟩
  | .pnot d a => some ⟨[6], none, 0x0A, 0#2 ++ d ++ 0#2 ++ a ++ 0#6⟩
  | .pmov d a => some ⟨[6], none, 0x0B, 0#2 ++ d ++ 0#2 ++ a ++ 0#6⟩
  | .pset d v => some ⟨[6], none, 0x0C, 0#2 ++ d ++ 0#11 ++ v⟩
  | .stage l i => some ⟨[6], none, 0x0D, 0#3 ++ l ++ i⟩
  | .kclr k => some ⟨[6], none, 0x0E, k ++ 0#15⟩
  | .probe r d a => some ⟨[7], none, 0x01, r ++ d ++ a ++ 0#5⟩
  | .probei r d a => some ⟨[7], none, 0x02, r ++ d ++ a ++ 0#5⟩
  | .pwb a => some ⟨[7], none, 0x03, 0#6 ++ a ++ 0#8⟩
  | .pinv a => some ⟨[7], none, 0x04, 0#6 ++ a ++ 0#8⟩
  | .ppin a n => some ⟨[7], none, 0x05, 0#6 ++ a ++ 0#7 ++ n⟩
  | .ldg l d a o z => some ⟨[7], none, (0x2#4 ++ l), d ++ a ++ o ++ z⟩
  | .ldgi d a o z => some ⟨[7], none, 0x0C, d ++ a ++ o ++ z⟩
  | .ldgv d a o z => some ⟨[7], none, 0x0D, d ++ a ++ o ++ z⟩
  | .stg l d a o z => some ⟨[7], none, (0x4#4 ++ l), d ++ a ++ o ++ z⟩
  | .stgv d a o z => some ⟨[7], none, 0x14, d ++ a ++ o ++ z⟩
  | .lda d a z => some ⟨[7], none, 0x15, d ++ a ++ 0#5 ++ z⟩
  | .stl d a o z => some ⟨[7], none, 0x16, d ++ a ++ o ++ z⟩
  | .aadd d a w c z => some ⟨[7], none, 0x18, d ++ a ++ w ++ c ++ z⟩
  | .aaddf d a w c z => some ⟨[7], none, 0x19, d ++ a ++ w ++ c ++ z⟩
  | .aaddqFp32 d a w c q => some ⟨[7], none, 0x1A, d ++ a ++ w ++ c ++ q⟩
  | .aaddqBf16 d a w c q => some ⟨[7], none, 0x1B, d ++ a ++ w ++ c ++ q⟩
  | .aaddqFp16 d a w c q => some ⟨[7], none, 0x1C, d ++ a ++ w ++ c ++ q⟩
  | .amin d a w c z => some ⟨[7], none, 0x1D, d ++ a ++ w ++ c ++ z⟩
  | .amax d a w c z => some ⟨[7], none, 0x1E, d ++ a ++ w ++ c ++ z⟩
  | .aand d a w c z => some ⟨[7], none, 0x1F, d ++ a ++ w ++ c ++ z⟩
  | .aor d a w c z => some ⟨[7], none, 0x20, d ++ a ++ w ++ c ++ z⟩
  | .axor d a w c z => some ⟨[7], none, 0x21, d ++ a ++ w ++ c ++ z⟩
  | .axch d a w c z => some ⟨[7], none, 0x22, d ++ a ++ w ++ c ++ z⟩
  | .acas d a w c z => some ⟨[7], none, 0x23, d ++ a ++ w ++ c ++ z⟩
  | .drain c => some ⟨[7], none, 0x28, 0#15 ++ c⟩
  | .bfence a s => some ⟨[7], none, 0x29, 0#6 ++ a ++ s ++ 0#2⟩
  | .twait x y z => some ⟨[7], none, 0x2A, 0#3 ++ x ++ y ++ z ++ 0#6⟩
  | .bwait a p s => some ⟨[7], none, 0x2B, 0#6 ++ a ++ p ++ 0#1 ++ s⟩
  | .badd c a p s => some ⟨[7], none, 0x2C, 0#3 ++ c ++ a ++ p ++ 0#1 ++ s⟩
  | .phase a => some ⟨[7], none, 0x2D, 0#6 ++ a ++ 0#6⟩
  | .rpkX k x y z e => some ⟨[7], none, 0x30, k ++ x ++ y ++ z ++ e⟩
  | .rpkF k x y z e => some ⟨[7], none, 0x31, k ++ x ++ y ++ z ++ e⟩
  | .bankld k x y z e => some ⟨[7], none, 0x32, k ++ x ++ y ++ z ++ e⟩
  | .bankgo k x y z e => some ⟨[7], none, 0x33, k ++ x ++ y ++ z ++ e⟩
  | .phwait => some ⟨[7], none, 0x2E, 0⟩
  | _ => none

/-- The slot word of a slot: STOP, PORT, GUARD (the selector of SEL and VSEL), OPC, operands; none for a micro-op, an event, or a port
that does not take the instruction. -/
def encode (s : Slot) : Option SlotWord :=
  s.instr.slotParts.bind fun q =>
    if s.hdr.port ∈ q.ports then
      some (BitVec.ofBool s.hdr.stop ++ s.hdr.port ++ q.selector.getD s.hdr.guard ++ q.opc ++ q.operands)
    else none

/-- The 16-bit code of a micro-op (13 R286); none for any other instruction. -/
def encodeUop (u : UopSlot) : Option (BitVec 16) :=
  match u.instr with
  | .uopRdc a o f => some (2#4 ++ a ++ o ++ f ++ 0#3)
  | .uopWrc a o f => some (3#4 ++ a ++ o ++ f ++ 0#3)
  | .uopMac d a k => some (4#4 ++ d ++ a ++ k ++ 0#5)
  | .uopAdd d a => some (5#4 ++ d ++ a ++ 0#8)
  | .uopScl d a k => some (6#4 ++ d ++ a ++ k ++ 0#5)
  | .uopNcol n => some (7#4 ++ 0#7 ++ n)
  | .uopLoopc n => some (8#4 ++ u.target ++ n)
  | .uopEnd => some (0#4 ++ 0#12)
  | .uopAct => some (1#4 ++ 0#12)
  | .uopRowend => some (9#4 ++ u.target ++ 0#7)
  | .uopWaits => some (10#4 ++ 0#12)
  | _ => none

end Sys2Proof
end

