-- ==== Sys2Proof/Config.lean ====
section
/-! DEFINITION. What the spec leaves to the implementation or to no stated value: constants without a body, so that nothing can be proved of what they are. -/

namespace Sys2Proof.Config

/-- UNVERIFIED (log 5): the CODE that a record of consumed poison carries; 17 R332, R335 name none.  Applied to `State.nfree`. -/
opaque consumeCode : Nat → BitVec 16

/-- DESIGN CHOICE (log 5): the watts that an island needs at frequency point 0-10 (01 R26 step 4 gives no power model). -/
opaque pointWatts (island point : Nat) : Nat

/-- DESIGN CHOICE (log 5): the byte budget that a stack's watts give (01 R26 step 5 gives no power model). -/
opaque budgetOf (watts : Nat) : Nat

/-- DESIGN CHOICE (log 5): bits [15:0] of the xor of the two commit signatures where the operands of an atomic already sent differ (19 R369, R374).
Applied to `State.nfree`. -/
opaque sigXor : Nat → BitVec 16

/-- DESIGN CHOICE (log 5): the SYND detail of an error whose entry the spec leaves to the hardware, as the byte index of 20 R376.
Applied to `State.nfree`. -/
opaque syndrome : Nat → BitVec 48

/-- DESIGN CHOICE (log 5): a column that no offset reaches and no program has written, as a bank program reads it (13 R278 says only that no
agent can observe it).  Applied to `State.nfree`. -/
opaque freeColumn : Nat → BitVec 256

/-- DESIGN CHOICE (log 5): a byte of a data image that cannot be read at a first bind (06 R132 states nothing for it).  Applied to
`State.nfree` + the byte's offset. -/
opaque freeByte : Nat → BitVec 8

/-- DESIGN CHOICE (log 5): whether VLDX and VSTX read their indices as signed under a tag that is neither INT32 nor UINT32 (08 R184 states
no reading; the bundle traps). -/
opaque indexSigned (tag : BitVec 4) : Bool

/-- DESIGN CHOICE (log 5): how many nanoseconds the clock domain of an island freezes at a change of its frequency point, of the 1 µs at most that
01 R16 allows.  Applied to `State.nfree` and the island. -/
opaque domainFreeze : Nat → Nat → Nat

end Sys2Proof.Config
end

