-- ==== Sys2Proof/Machine/Maps.lean ====
section
/-! DEFINITION. Sparse maps and byte memories: reading, writing, ranges of bytes in little-endian order, and the canonical form that every write keeps. -/

namespace Sys2Proof.Machine

/-- The value at key `k`; an unlisted key reads as `d`. -/
def mapGet {α : Type} (d : α) : FMap α → Nat → α
  | [], _ => d
  | (j, x) :: m, k => if j = k then x else mapGet d m k

/-- The map with `v` put at key `k`, before the first greater key. -/
def mapPut {α : Type} : FMap α → Nat → α → FMap α
  | [], k, v => [(k, v)]
  | (j, x) :: m, k, v => if k < j then (k, v) :: (j, x) :: m else (j, x) :: mapPut m k v

/-- The map with `v` at key `k`, keys kept strictly rising; writing the default removes the entry. -/
def mapSet {α : Type} [DecidableEq α] (d : α) (m : FMap α) (k : Nat) (v : α) : FMap α :=
  let m := m.filter fun x => decide (x.1 ≠ k)
  if v = d then m else mapPut m k v

/-- The canonical form from key `lo` on: keys rise strictly and no entry holds the default. -/
def mapWfFrom {α : Type} [DecidableEq α] (d : α) : Nat → FMap α → Bool
  | _, [] => true
  | lo, (j, x) :: m => decide (lo ≤ j) && decide (x ≠ d) && mapWfFrom d (j + 1) m

/-- The canonical form of a map. -/
def mapWf {α : Type} [DecidableEq α] (d : α) (m : FMap α) : Bool := mapWfFrom d 0 m

/-- The entry at key `k` changed by `f`. -/
def mapUpd {α : Type} [DecidableEq α] (d : α) (m : FMap α) (k : Nat) (f : α → α) : FMap α := mapSet d m k (f (mapGet d m k))

/-- Every key of `ks` set to `v`. -/
def mapSetAll {α : Type} [DecidableEq α] (d : α) (m : FMap α) (ks : List Nat) (v : α) : FMap α :=
  ks.foldl (fun m k => mapSet d m k v) m

/-- The map without the keys from `lo` to below `hi`. -/
def mapDrop {α : Type} (m : FMap α) (lo hi : Nat) : FMap α := m.filter fun x => !(decide (lo ≤ x.1) && decide (x.1 < hi))

/-- The entries with keys from `lo` to below `hi`, renumbered from 0. -/
def mapSlice {α : Type} (m : FMap α) (lo hi : Nat) : FMap α :=
  (m.filter fun x => decide (lo ≤ x.1) && decide (x.1 < hi)).map fun x => (x.1 - lo, x.2)

/-- The numbers from `lo`, `n` of them. -/
def upFrom (lo n : Nat) : List Nat := (List.range n).map (lo + ·)

/-! ## Bytes -/

/-- The byte at address `a`; an address never written reads as 0 (01 R33 step 4: every stack is zeroed; 06 R132 for a pool). -/
def byteAt (m : FMap Byte) (a : Nat) : Byte := mapGet 0 m a

/-- The `n` bytes from address `a` as one little-endian number (00 R3). -/
def readBytes (m : FMap Byte) : Nat → Nat → Nat
  | _, 0 => 0
  | a, n + 1 => (byteAt m a).toNat + 256 * readBytes m (a + 1) n

/-- `n` bytes of the little-endian number `x` written from address `a`. -/
def writeBytes (m : FMap Byte) : Nat → Nat → Nat → FMap Byte
  | _, 0, _ => m
  | a, n + 1, x => writeBytes (mapSet 0 m a (BitVec.ofNat 8 x)) (a + 1) n (x / 256)

/-- Bytes `lo` on of the number `x`. -/
def bytesOf (x lo n : Nat) : Nat := (x >>> (8 * lo)) % 256 ^ n

/-- A list of bytes written from address `a`. -/
def putList (m : FMap Byte) : Nat → List Byte → FMap Byte
  | _, [] => m
  | a, b :: bs => putList (mapSet 0 m a b) (a + 1) bs

/-- A block of bytes laid over memory at address `a`: every byte of the `n` is written. -/
def putBlock (m : FMap Byte) (a n : Nat) (src : FMap Byte) : FMap Byte :=
  (src.filter fun x => decide (x.1 < n)).foldl (fun m x => mapSet 0 m (a + x.1) x.2) (mapDrop m a (a + n))

/-- Bits `hi` down to `lo` of a number. -/
def fieldOf (x hi lo : Nat) : Nat := (x >>> lo) % 2 ^ (hi + 1 - lo)

/-- The number `x` with bits `hi` down to `lo` holding `v`. -/
def withField (x hi lo v : Nat) : Nat :=
  (x >>> (hi + 1)) <<< (hi + 1) + (v % 2 ^ (hi + 1 - lo)) <<< lo + x % 2 ^ lo

/-- `x` read as an `n`-bit two's-complement number. -/
def signedOf (n x : Nat) : Int := if x % 2 ^ n < 2 ^ (n - 1) then (x % 2 ^ n : Int) else (x % 2 ^ n : Int) - 2 ^ n

/-- An integer modulo 2^n. -/
def wrapTo (n : Nat) (x : Int) : Nat := (x % (2 ^ n : Nat)).toNat

/-- Whether [a, a+n) and [b, b+m) share an address. -/
def overlaps (a n b m : Nat) : Bool := decide (a < b + m) && decide (b < a + n)

end Sys2Proof.Machine
end

