-- ==== Sys2Proof/Machine/State.lean ====
section
/-! DEFINITION. The state of the machine: plain data holding every piece of state the spec gives the package, the faults and refusals of the model, and the state right after reset. -/

namespace Sys2Proof.Machine

/-- Why the machine stops with a fault.  No instruction stops this way. -/
inductive Fault where
  /-- Raised by a micro-op turn that names a pseudo-channel number of 192 or more, which no stack has (13 R277).
  Safe: no such unit exists. -/
  | noSuchChannel
deriving DecidableEq, Repr

/-- Why the model gives no meaning. -/
inductive Refusal where
  /-- Raised only by the dispatcher's arm of an instruction that has no meaning yet.  Safe: nothing can be proved of it. -/
  | notModelled (mnemonic : String)
deriving DecidableEq, Repr

/-! ## Inputs and turns -/

/-- Where a translated address leads (11 R253, R256): a byte of a stack, or of a page held by a fabric device. -/
inductive PAddr where
  | stack (pa : BitVec 39)
  | fabric (fid : BitVec 12) (raddr : BitVec 52)
deriving DecidableEq, Repr

/-- The input of an event: which unit it happens at, and what comes from outside the device.  Each event reads the fields its
docstring names. -/
structure Input where
  /-- A core (00 R10). -/
  c : BitVec 8 := 0
  /-- A stack. -/
  k : BitVec 3 := 0
  /-- A pseudo-channel of stack `k`. -/
  pc : BitVec 8 := 0
  /-- A bank of pseudo-channel `pc`. -/
  bank : BitVec 5 := 0
  /-- A bulkhead or record bank: 0-15 CB, 16-23 MB, 24-31 LB, 32 the spine (01 R15). -/
  b : BitVec 6 := 0
  /-- A combining tree. -/
  tree : BitVec 4 := 0
  /-- A local core, an octant or a window entry. -/
  j : BitVec 4 := 0
  /-- An operation, request, landing or record number. -/
  id : Nat := 0
  /-- A position, round or count. -/
  p : Nat := 0
  /-- The fabric ID of a master. -/
  fid : BitVec 12 := 0
  /-- A control-window offset. -/
  off : BitVec 16 := 0
  /-- A 64-bit value. -/
  v : BitVec 64 := 0
  /-- A second 64-bit value. -/
  v2 : BitVec 64 := 0
  /-- A bind record: words 0-3 of a slot (15 R307). -/
  w : BitVec 256 := 0
  /-- A graph node. -/
  node : BitVec 64 := 0
  /-- A task index. -/
  tidx : BitVec 24 := 0
  /-- An address space. -/
  asid : BitVec 14 := 0
  /-- A virtual address. -/
  va : BitVec 52 := 0
  /-- A yes or no that the event's docstring explains. -/
  flag : Bool := false
  /-- A second one. -/
  flag2 : Bool := false
  /-- A hardware error met by the step: 0 none. -/
  err : BitVec 2 := 0
  /-- A Phicolane port. -/
  port : BitVec 5 := 0
  /-- A virtual channel. -/
  vc : BitVec 2 := 0
  /-- The flit received. -/
  flit : Flit := .other 0
  /-- A reading for each island. -/
  temps : List Nat := []
  /-- Watts attributed to regions: address of the RCB and watts. -/
  watts : List (Nat × Nat) := []
  /-- The memory configuration records of the signed image, one a stack. -/
  cfg : List (BitVec 128) := []
  /-- A 16 KiB page of stack `k`. -/
  page : BitVec 22 := 0
  /-- Ordinary reads of the step return the copies of columns that the controller holds staged (13 R294). -/
  stale : Bool := false
  /-- What fabric devices and hosts answer to the reads of this step: the byte at key 2^52 FID + remote address. -/
  ext : FMap Byte := []
  /-- Their answers carry poison, or so does data that an engine reads from a stack, a flit check having failed on it (17 R337); or they are aborts
  (20 R393). -/
  extPsn : Bool := false
  extAbort : Bool := false
  /-- Places and lengths of the requests to fabric pages that end in an abort, when others of the same access do not (20 R393). -/
  aborts : List (PAddr × Nat) := []
deriving DecidableEq, Repr

/-- A hardware error that the surroundings bring about (17 R335, 20 R376-R391). -/
inductive HwError where
  /-- A bit error in the scratchpad of core `c` at offset `off`: corrected, or (double) left poisoned (0x0101, 0x0102). -/
  | sram (c : BitVec 8) (off : Nat) (double : Bool)
  /-- A bit error in another array of core `c`, of unit 0 (its register files and tables) or 1 (its bag array): corrected, or (double) left as poison in
  8 bytes of a register (`file` 0-9 and its physical number, as Ctx.bad numbers them), in a landing entry (`file` 10 and its number) or in an item of the
  pool (`file` 16 and on, as Pool.bad numbers them); elsewhere it is consumed. -/
  | array (c : BitVec 8) (unit : BitVec 1) (double : Bool) (file idx gran : Nat)
  /-- A flit check failed at a mesh router, or (`gate`) at the fabric gate, of bulkhead `b`: on the data of request `id` of core `c`, on flit `flit` of
  the data that operation `id` moves, or on the packet that it has sent (0x0201); or on a header (0x0202). -/
  | mesh (b : BitVec 5) (gate header : Bool) (c : BitVec 8) (id flit : Nat)
  /-- A bad bit in a translation cache or walker of compute bulkhead `b` (0x0501). -/
  | walker (b : BitVec 4)
  /-- A column read by any agent meets an error (0x0401, 0x0402) or its command a parity failure (0x0406): physical address and `err` as
  CONTROLLER_CYCLE has it. -/
  | column (pa : BitVec 39) (err : BitVec 2)
  /-- A row's counter has gone bad: its check fails at the row's next precharge (0x0403). -/
  | counter (k : BitVec 3) (pc : BitVec 8) (bank : BitVec 5) (row : Nat)
  /-- A bank engine's memory error: 0 corrected, 1 an accumulator lane lost, 2 the micro-op store or a scalar lost (0x0701-0x0703). -/
  | engine (k : BitVec 3) (pc : BitVec 8) (bank : BitVec 5) (acc lane kind : Nat)
  /-- The operands of an atomic already sent by a mirror pair differed (0x0804). -/
  | atomicOperands (c : BitVec 8)
  /-- A bit of a window accumulator's VAL is upset (19 R372): window row, column, bit. -/
  | window (c : BitVec 8) (row col bit : Nat)
  /-- The map is lost: an uncorrected error of a unit of bulkhead `b` that no task can be held to. -/
  | unit (b : BitVec 5) (unit : Nat) (code : BitVec 16)
deriving DecidableEq, Repr

/-- Whose move the next step is. -/
inductive Turn where
  /-- One issue cycle of the sequencer of core `c` (03 R56). -/
  | issue (c : BitVec 8)
  /-- One micro-op of a bank that runs a program (13 R287). -/
  | uop (k : BitVec 3) (pc : BitVec 8) (bank : BitVec 5)
  /-- An event, with its input. -/
  | event (i : Instr) (inp : Input)
  /-- A hardware error. -/
  | error (e : HwError)
  /-- Nothing happens for `n` nanoseconds. -/
  | time (n : Nat)
  /-- A column of a stack, or a line of a fabric page, is asked for by an agent that walks, fetches or reads and writes records: the agent's key, the
  place, whether it is written, and whether it holds code (log 44). -/
  | traffic (key : Nat) (a : PAddr) (write code : Bool)
deriving DecidableEq, Repr

/-! ## Addresses and requests -/

/-- What a table walk finds (11 R251-R254, 20 R385). -/
inductive Walk where
  | leaf (e : BitVec 64) (lvl : Nat)
  | none
  | malformed
  | poisoned (pa : Nat)
  /-- A table lies behind a gate that does not pass the walk, or in a stack held in reset. -/
  | gated
  /-- Another partition's gate stopped a poisoned entry: the walk is aborted (17 R333). -/
  | stopped (pa : Nat)
  /-- A column of a table has still to be served. -/
  | held
deriving DecidableEq, Repr

/-- What a request of the memory port does. -/
inductive ReqKind where
  /-- A load for landing entry `l`. -/
  | load (l : Nat)
  | store
  /-- An atomic: its operation, its SZ code (06 R121), its second operand, and the landing that takes the old value. -/
  | atomic (op : AtomOp) (sz : BitVec 3) (x2 : BitVec 64) (l : Option Nat)
deriving DecidableEq, Repr

/-- One line of an access: where it lies, its first byte within the access, and its bytes. -/
structure Piece where
  target : PAddr
  off : Nat
  n : Nat
deriving DecidableEq, Repr

/-- A request of a core's memory port, in program order (10 R227-R232): one line of an access. -/
structure MemReq where
  id : Nat
  /-- Its place in program order: its own number, but for a write-back's stores the number of the PWB. -/
  po : Nat
  kind : ReqKind
  /-- 0-3 an alias class; 4 ordered against every class (LDA, STL, atomics); 5 an invariant load (10 R228). -/
  cls : Nat
  piece : Piece
  /-- The bytes stored, the operand, or the bytes read so far. -/
  data : Nat
  scope : BitVec 3
  /-- A relaxed atomic that may still merge; and the request whose entry of the queue it shares, itself at first (10 R232). -/
  merges : Bool
  entry : Nat
  /-- Acquire: later accesses wait for it.  Release: it waits for earlier ones (11 R263). -/
  acq : Bool
  rel : Bool
  /-- It has reached its pseudo-channel's queue, or has left on the fabric. -/
  sent : Bool
  /-- Columns of it that its pseudo-channel has still to serve; and when its data is out of the bank. -/
  left : Nat
  readyAt : Nat
  /-- Poison among the bytes read. -/
  psn : Bool
deriving DecidableEq, Repr

/-- A landing-buffer entry (03 R70, 15 R416). -/
structure Landing where
  id : Nat
  /-- 0 a scalar register, 1 a vector register. -/
  file : Nat
  /-- Physical register number. -/
  dest : Nat
  /-- Bundles still to end before the write falls due; 0 when it is due at the end of the bundle last issued. -/
  left : Nat
  /-- True once the bundle named by the distance has ended. -/
  due : Bool
  /-- Size or row code (15 R416). -/
  sz : BitVec 3
  /-- The data, once it has arrived: `need` lines are still to come, `part` holds those that have. -/
  data : Option Nat
  need : Nat
  part : Nat
  /-- The data is poisoned (17 R333). -/
  psn : Bool
deriving DecidableEq, Repr

/-! ## Pending results and effects of an issue cycle -/

/-- A register write.  Register numbers are physical, after rotation (03 R68). -/
inductive RegWrite where
  | s (n : Nat) (x : BitVec 64)
  /-- A vector register with its new tag. -/
  | v (n : Nat) (x : VReg) (tag : Tag)
  | p (n : Nat) (x : Bool)
  | a (n : Nat) (x : AReg)
  | mk (n : Nat) (x : Mask)
  /-- A whole descriptor (EDLD). -/
  | e (n : Nat) (x : Desc)
  /-- One word of a descriptor (EDW). -/
  | ew (n : Nat) (w : BitVec 2) (x : BitVec 64)
  /-- The level step of an address register (LSTEP). -/
  | step (lvl n : Nat) (x : AReg)
deriving DecidableEq, Repr

/-- A fixed-latency result in flight (03 R69): at the end of the issue cycle in which `left` falls to 0 it is written and its flags
are ORed. -/
structure Pending where
  left : Nat
  write : RegWrite
  flags : BitVec 5
deriving DecidableEq, Repr

/-- A precise trap: its code, the PORT of the slot (0 for none) and TVAL (18 R343, R347). -/
structure Trap where
  code : BitVec 16
  port : BitVec 3
  tval : BitVec 64
deriving DecidableEq, Repr

/-- Why a bundle does not issue in this cycle (03 R60). -/
inductive Freeze where
  | landing | token
  /-- An access of `n` bytes that overlaps a scoreboard range. -/
  | scoreboard (n : Nat)
  | sbFull | landFull | portHeld | engineFull
  /-- A BWAIT, PHWAIT or TWAIT whose condition is unmet. -/
  | wait
  /-- A BFENCE whose markers are still to be placed, with its range. -/
  | fence (va n : Nat)
  /-- A DRAIN or BFENCE whose condition is unmet. -/
  | drain
  | bankConflict
  /-- A protected member held at an RDV, or at a segment boundary (19 R368, R370). -/
  | segment
  /-- A cycle of the duty under PWRW, or of a change of frequency (01 R16, 02 R39). -/
  | duty
  /-- A scratchpad access or a BWAIT behind an acquiring atomic that has not been applied (11 R263; log 43). -/
  | acquire
deriving DecidableEq, Repr

/-- A column, or a line of a fabric page, that an agent has been served for its next access (13 R281, 20 R392): whether it is written, whether it holds
code, and whether its request ended in an abort. -/
structure GotCol where
  place : PAddr
  write : Bool
  code : Bool
  lost : Bool
deriving DecidableEq, Repr

/-- Which operation an engine runs. -/
inductive OpName where
  | cpy | cpym | fill | bulk | gath | scat
  | mldw | mswap | mmul | mmuls | mbagAcc | mbagSteer | mzero | manch | mrd | mst | maddv | mstat | mtrl | mldt | mstt | mcode
  | rpkX | rpkF | bankld | bankgo
deriving DecidableEq, Repr

/-- The first 128-byte line of a scratchpad operand, read in the issue cycle (09 R195): its offset, its bytes, and its poisoned granules by bit. -/
structure FirstLine where
  off : Nat
  x : Nat
  psn : Nat
deriving DecidableEq, Repr

/-- The snapshot an engine operation works from (03 R76): its descriptor and the values, at issue, of the registers it names. -/
structure Snap where
  d : Desc
  /-- Beacon address: s(BCNS). -/
  bcn : BitVec 64 := 0
  /-- Scalar registers in the order in which the instruction's entry names them. -/
  s1 : BitVec 64 := 0
  s2 : BitVec 64 := 0
  s3 : BitVec 64 := 0
  s4 : BitVec 64 := 0
  /-- The scale register MZERO names. -/
  qs : BitVec 16 := 0
  /-- The bias vector MADDV names, with its tag. -/
  v : VReg := 0
  vtag : Tag := 0
  /-- The first line of an own-scratchpad operand. -/
  line : Option FirstLine := none
deriving DecidableEq, Repr

/-- An entry of a gather's or scatter's index list once it has been read (10 R220, 20 R387): the entry, or why it could not be read and its
address. -/
inductive ListEntry where
  | row (e : BitVec 64)
  | lost (reason : Nat) (addr : Nat)
deriving DecidableEq, Repr

/-- An engine operation issued and not complete (03 R74, R76; 10 R215). -/
structure EngineOp where
  id : Nat
  name : OpName
  /-- PORT of the slot. -/
  port : BitVec 3
  snap : Snap
  /-- Physical token it produces; 0 for none. -/
  tok : Nat
  /-- The own scratchpad and its poison as they stood when a source range was first read. -/
  cap : Option (FMap Byte × FMap Bool)
  /-- The index list, once it has been read whole. -/
  list : Option (List ListEntry)
  /-- Pages the gather has walked, by number: the leaf and its level, or how the walk failed (20 R386). -/
  walked : List (Nat × Walk)
  /-- Rows of a gather settled so far, or rows of a bag streamed so far, by position. -/
  rows : List Nat
  /-- STEER: window row and position of its winner so far (09 R206). -/
  winners : List (Nat × Nat)
  /-- Window rows that a bag has touched (19 R372). -/
  touched : List Nat
  /-- Flits of the data it moves, by number, that a check on their way has found bad (17 R337). -/
  psn : List Nat
  /-- A fault met: code and TVAL. -/
  fault : Option (BitVec 16 × BitVec 64)
  /-- Held until a segment commits (19 R367), by BEQ (02 R39), or a packet or launch already sent on. -/
  held : Bool
  sent : Bool
  /-- RPK: its round; BANKGO: its program's number on the channel. -/
  m : Nat
  /-- Flags and vector results that reach the core when the token completes (09 R194, R212; 10 R245). -/
  flags : BitVec 5
  late : List RegWrite
  /-- The work is done and only the completion remains (packets, bank operations, M operations that have begun). -/
  done : Bool
  /-- An M operation: cycles since its issue; cycles of its occupancy still to come, or until the stream takes its next row; cycles until its
  token completes (09 R193). -/
  age : Nat
  occ : Nat
  wait : Nat
deriving DecidableEq, Repr

/-- A scoreboard entry (03 R75): the range of an operation (or, for a fill or a write-back, of a slot). -/
structure SbEntry where
  /-- The operation; for a cache fill or write-back, a number of its own. -/
  op : Nat
  /-- The cache slot's offset, when it is a fill or write-back. -/
  slot : Option Nat
  lo : Nat
  hi : Nat
  dest : Bool
  /-- Where a write-back goes. -/
  home : Option PAddr
deriving DecidableEq, Repr

/-- A pending deferred fault (18 R350-R352). -/
structure Deferred where
  code : BitVec 16
  port : BitVec 3
  tval : BitVec 64
  /-- Order of issue. -/
  seq : Nat
  /-- Physical token its operation produced; 0 for none, or once the token is cleared or produced again. -/
  tok : Nat
  /-- Its operation. -/
  op : Nat
deriving DecidableEq, Repr

/-- An effect of a slot, applied at the end of its bundle's issue cycle. -/
inductive Effect where
  /-- A fixed-latency result. -/
  | result (lat : Nat) (w : RegWrite) (flags : BitVec 5)
  /-- A scratchpad store of `n` bytes (07 R145, 08 R185), with the 8-byte granules of the data, by bit, that are poison. -/
  | spStore (off n : Nat) (x psn : Nat)
  /-- FFLAGS ORed at the end of the issue cycle (10 R231). -/
  | orFlags (f : BitVec 5)
  | csrWrite (n : BitVec 12) (x : BitVec 64)
  /-- Every generator of the masked lanes advanced: the new generators (04 R93). -/
  | rng (g : List (Nat × BitVec 32))
  /-- A taken transfer to a target (07 R147, R148). -/
  | jump (target : BitVec 64)
  | eret
  /-- Set up a loop level (07 R161): level, body, stages, count. -/
  | loop (lvl body n count : Nat) (first last after : BitVec 64)
  /-- A tile's tag, set when the writing operation issues (09 R213). -/
  | ttag (t : Nat) (tag : Tag)
  | stage (lvl n : Nat)
  | kclr (tok : Nat)
  /-- Issue an engine operation: name, snapshot, produced token (physical), and its scoreboard ranges (lo, hi, destination). -/
  | engine (name : OpName) (port : BitVec 3) (snap : Snap) (tok : Nat) (ranges : List (Nat × Nat × Bool))
  /-- A load with its landing (file, physical register, distance, size code). -/
  | load (ps : List Piece) (cls : Nat) (file dest dist : Nat) (sz : BitVec 3) (scope : BitVec 3)
  /-- A store, with the poisoned granules of its data. -/
  | store (ps : List Piece) (cls data psn : Nat) (scope : BitVec 3)
  /-- An atomic, with the physical register its old value lands in, if any, and its ORD (06 R121). -/
  | atomic (op : AtomOp) (sz : BitVec 3) (p : Piece) (data : Nat) (x2 : BitVec 64) (dest : Option Nat) (scope : BitVec 3) (ord : BitVec 2)
  /-- A scratchpad beacon add (10 R237). -/
  | spAdd (off : Nat) (x : BitVec 64)
  /-- PROBE touches way `way` of a set, and queues a fill of a block into it when `fill` is some block's place. -/
  | probe (set way : Nat) (fill : Option PAddr) (blk : BitVec 34) (inv : Bool)
  | pwb (set way : Nat) (home : PAddr)
  | pinv (set way : Nat)
  | ppin (set way : Nat) (pin : Bool)
  | launch (node : BitVec 64)
  | halt
  | park (beacon : BitVec 64) (target : BitVec 64)
  | trap (imm : BitVec 12)
  | seg (n : Nat)
  | rdv (n : Nat)
  | phase (hdr : BitVec 256)
  | phwait
  /-- A wait slot whose condition held or was marked satisfied. -/
  | waited
  /-- Poison consumed by unit `unit` of the core at a scratchpad offset (17 R332). -/
  | poison (unit addr : Nat)
  /-- A poisoned register of core `c` is consumed. -/
  | badReg (c : BitVec 8)
  /-- A walk met a poisoned table entry (20 R385), or one that another partition's gate stopped (17 R333). -/
  | walkPoison (pa : Nat)
  | gateStop (pa : Nat)
deriving DecidableEq, Repr

/-- The bundle in issue: what its slots have contributed so far (model's own; log 2). -/
structure Issue where
  /-- Slots of the bundle still to come after the one being executed. -/
  rest : Nat
  /-- Bytes of the bundle (06 R117). -/
  size : Nat
  /-- GUARD and PORT of the slot being executed. -/
  guard : BitVec 4
  port : BitVec 3
  effects : List Effect
  /-- The trap found that comes first in the order of 18 R346, with its rank: 2 encoding, 4 deferred, 5 schedule, 6 issue. -/
  fault : Option (Nat × Trap)
  /-- The guards its slots have read. -/
  guards : List Bool
  /-- The pool banks the sequencer's accesses of the bundle touch (03 R61). -/
  banks : List Nat
  /-- Why it freezes, with the TVAL a timeout would give (18 R353). -/
  freezes : List (Freeze × BitVec 64)
  /-- Operations on whose scoreboard entries the bundle freezes now. -/
  sbOps : List Nat
  /-- Predicates (physical) that the bundle's slots write, and that those whose guard reads true write (03 R72). -/
  predS : BitVec 16
  predD : BitVec 16
  /-- The bundle holds a slot before which a protected segment ends (19 R365), or an RDV. -/
  boundary : Bool
  rdv : Bool
  /-- The bank conflict of this bundle has been paid for. -/
  paid : Bool
  /-- This cycle is one of the duty under PWRW, or of a change of frequency. -/
  duty : Bool
deriving DecidableEq, Repr

/-! ## A core -/

/-- A loop level (03 R78, 15 R315). -/
structure Level where
  active : Bool
  /-- Count C, trips T, stages N, body length in bundles. -/
  c : Nat
  t : Nat
  n : Nat
  body : Nat
  trips : Nat
  /-- Addresses of the body's first and last bundle. -/
  first : BitVec 64
  last : BitVec 64
deriving DecidableEq, Repr

/-- The phase counts and headers of one colour (10 R239-R242). -/
structure Colour where
  copies : BitVec 32
  packets : BitVec 32
  banks : BitVec 32
  stores : BitVec 32
  hdr : BitVec 256
  posted : Bool
  gen : Bool
  held : Bool
deriving DecidableEq, Repr

/-- Identity of the task a core runs, read through control registers (02 R45, 07 R154). -/
structure Ident where
  tidx : Nat
  vsx : Nat
  vsy : Nat
  vsz : Nat
  tmemb : Nat
  tgran : Nat
  karg : BitVec 64
  rcba : BitVec 64
  partw : BitVec 32
deriving DecidableEq, Repr

/-- The context of a member outside the pool (03 R66, 15 R315). -/
structure Ctx where
  id : Ident
  /-- Address of the next bundle (03 R56). -/
  pc : BitVec 64
  s : FMap (BitVec 64)
  v : FMap VReg
  /-- The tags of each v register, cluster c's in bits 4c + 3 to 4c (03 R81). -/
  vtag : FMap (BitVec 32)
  p : BitVec 16
  mks : FMap Mask
  a : FMap AReg
  /-- Step of level L, register n, at 16 L + n. -/
  step : FMap AReg
  lc : FMap Level
  sB : BitVec 5
  vB : BitVec 4
  pB : BitVec 3
  kB : BitVec 2
  /-- Physical tokens: the operation that produces a pending one. -/
  k : FMap (Option Nat)
  e : FMap Desc
  qs : FMap (BitVec 16)
  frm : BitVec 2
  fflags : BitVec 5
  srseed : BitVec 32
  rng : FMap (BitVec 32)
  waitcap : BitVec 32
  tvec : BitVec 64
  tpc : BitVec 64
  tcause : BitVec 19
  tval : BitVec 64
  cycle : BitVec 64
  light : Colour
  dark : Colour
  /-- Current colour: 0 none, 2 light, 3 dark. -/
  cur : BitVec 2
  deferred : List Deferred
  /-- Bundles left in the open segment; the wait-satisfied mark (15 R315). -/
  segLeft : BitVec 13
  waitOk : Bool
  /-- RPKs of this member so far, by tree (10 R245). -/
  rounds : FMap Nat
  /-- Registers that hold poison: file and physical number as RegWrite.target gives them (7 tokens, 8 scale registers, 9 loop levels), and the 8 bytes
  within it (17 R332, R337; log 38). -/
  bad : List (Nat × Nat × Nat)
deriving DecidableEq, Repr

/-- A window accumulator (04 R102). -/
structure Window where
  val : BitVec 184
  nan : Bool
  pinf : Bool
  ninf : Bool
  any : Bool
  negz : Bool
  lost : Bool
  clip : Bool
deriving DecidableEq, Repr

/-- A landing row (10 R219); `ord` numbers the landings in the order they happen (09 R204). -/
structure LandRow where
  data : FMap Byte
  tag : BitVec 16
  pos : BitVec 16
  /-- 0 empty, 1 landed, 2 padding, 3 accounted. -/
  state : BitVec 2
  seen : Bool
  ord : Nat
  /-- An accounted row's policy was POISON; its list entry could not be read. -/
  psn : Bool
  lst : Bool
deriving DecidableEq, Repr

/-- A tag-table entry (10 R223). -/
structure TagEntry where
  /-- 0 invalid, 1 filling, 2 valid, 3 writing back. -/
  st : BitVec 2
  dirty : Bool
  pin : Bool
  blk : BitVec 34
  /-- A PINV met the fill in flight (10 R225). -/
  drop : Bool
  /-- The fill was queued by PROBEI. -/
  inv : Bool
  /-- Where the fill or write-back in flight goes, as translated when it issued. -/
  home : PAddr
deriving DecidableEq, Repr

/-- The SRAM pool (03 R62-R65, R412). -/
structure Pool where
  /-- Scratchpad offset space: plain region, then cache region. -/
  sp : FMap Byte
  /-- Poisoned 8-byte granules of the scratchpad (17 R332). -/
  psn : FMap Bool
  /-- Tile n, element [j][m] at 16384 n + 128 j + m. -/
  tile : FMap (BitVec 16)
  ttag : FMap Tag
  /-- Codebook table b, entry j at 256 b + j. -/
  code : FMap (BitVec 32)
  /-- W[k][n] at 128 k + n, as R412 holds a decoded weight. -/
  active : FMap (BitVec 16)
  shadow : FMap (BitVec 16)
  afmt : Tag
  sfmt : Tag
  /-- Window row w, column n at 128 w + n. -/
  win : FMap Window
  anchor : FMap Int
  /-- Residue modulo 255 of each accumulator (19 R372). -/
  resid : FMap Nat
  land : FMap LandRow
  /-- Set s, way w at 64 w + s. -/
  tagt : FMap TagEntry
  /-- Node bits of the pseudo-LRU tree of each set (03 R64). -/
  plru : FMap (BitVec 8)
  /-- Items that hold poison, by their 8 bytes (17 R332, R337): 0 windows, part i of 3 of row w's column n at 384 w + 3 n + i; 1 tiles, four elements
  each, and 2 planes, the shadow from 4,096 on, at a quarter of the element's key; 3 codebooks, two entries each; 4 landing rows, whole. -/
  bad : List (Nat × Nat)
deriving DecidableEq, Repr

/-- The task a core is bound to, with its region's latched values. -/
structure Binding where
  part : Nat
  node : BitVec 64
  memb : Nat
  /-- The cores of its members, in member order; members that had halted before the task last left its cores are bound no longer (02 R46). -/
  cores : List (BitVec 8)
  bindseq : BitVec 30
  asid : BitVec 14
  /-- The region's RCB and the address space it lies in. -/
  rcb : BitVec 64
  rasid : BitVec 14
  prio : BitVec 8
  pcls : BitVec 2
  prot : Bool
  save : Bool
  kill : BitVec 2
  slice : Nat
  savebase : BitVec 64
  /-- Trees the task's image names (06 R132). -/
  trees : BitVec 16
  boundAt : Nat
  /-- Dispatch bound it itself, by the rotation of 15 R311. -/
  own : Bool
  /-- It has run SLICE microseconds (02 R40). -/
  sliceOver : Bool
  /-- A pre-emption is pending. -/
  preempt : Bool
deriving DecidableEq, Repr

/-- What a member is doing. -/
inductive Run where
  | running
  | halted
  /-- Parked: a beacon and target for PARK; the wait of the bundle at the pc when `none` (02 R46, 10 R238). -/
  | parked (beacon : Option (BitVec 64 × BitVec 64))
  /-- Pre-empted: draining before its save (15 R312). -/
  | draining
  /-- Killed, with the code its event carries: it ends once its operations and writes have completed (17 R334). -/
  | killed (code : BitVec 16)
deriving DecidableEq, Repr

/-- An item the leading core of a pair holds until its segment commits (19 R367). -/
inductive Held where
  /-- A line of a store or atomic; `first` for the first line of its access, which is its entry. -/
  | request (id : Nat) (first : Bool)
  | engine (op : Nat)
  /-- The beacon add of an operation that has done its work. -/
  | beacon (op : Nat) (pa : PAddr) (x : BitVec 64)
deriving DecidableEq, Repr

/-- What an operation whose completion a bundle has seen has written: its name and snapshot, its token, its flags and late results, and its writes to its
own pool, by place and value (19 R364). -/
structure Wrote where
  name : OpName
  snap : Snap
  tok : Nat
  flags : BitVec 5
  late : List RegWrite
  data : List (Nat × Nat)
deriving DecidableEq, Repr

/-- The segment state of a core of a protected member (19 R365-R369). -/
structure Segment where
  openSeg : Bool
  /-- Checkpoint at segment entry: the context, the tag table and its pseudo-LRU bits. -/
  ck : Option (Ctx × FMap TagEntry × FMap (BitVec 8))
  /-- The undo log: each line of the pool written in the segment, with the pool as its first write found it. -/
  log : List (Nat × Pool)
  hold : List Held
  /-- Bundles issued in the segment, and their commit signatures in this core (19 R364), the first first. -/
  issued : Nat
  sigs : List (BitVec 64)
  /-- The issue cycle of each in the leading core, as CYCLE counts: the trailing core issues it two cycles later (19 R362, R364). -/
  sigAt : List Nat
  /-- Operations that have completed since the last bundle: their writes to the pool and their token are of the next signature (19 R364). -/
  done : List Wrote
  /-- First number of the segment's requests and operations. -/
  first : Nat
  /-- The bundle at hand ends the segment (19 R365). -/
  ending : Bool
  /-- Atomics of the segment that are sent once (19 R367), in order of issue: request and old value once it has performed; and how many of them
  the run at hand has issued. -/
  atoms : List (Nat × Option Nat)
  atomNext : Nat
  /-- SYND of the mismatch that a rerun follows (19 R374). -/
  synd : Nat
  /-- The segment is being run again. -/
  rerun : Bool
  /-- Both cores have stopped and are restoring. -/
  restoring : Bool
  /-- A mismatch found in the segment (19 R364): 0 none, 1 signatures, 2 residue, 3 poison; the bundles issued before it; and the low bits of the
  signatures' xor (19 R374). -/
  bad : BitVec 2
  badAt : Nat
  sigx : BitVec 16
deriving DecidableEq, Repr

/-- One core. -/
structure Core where
  /-- CSTATE of 15 R307: 0 idle, 1 binding, 2 bound, 3 saving, 4 waiting for peers. -/
  cstate : BitVec 3
  task : Option Binding
  run : Run
  ctx : Ctx
  pool : Pool
  pipe : List Pending
  land : List Landing
  sb : List SbEntry
  ops : List EngineOp
  /-- Requests of the memory port, oldest first. -/
  mq : List MemReq
  /-- Launches not yet sent: node and the requests and operations they wait for. -/
  launches : List (BitVec 64 × Nat)
  eclipse : List Pending
  seg : Segment
  iss : Issue
  /-- A trap met while landings were outstanding: it is delivered once they have arrived (18 R343); with the TPC it records. -/
  trap : Option (Trap × BitVec 64)
  /-- Continuous freeze cycles of the next bundle on a landing, on a token, and on the scoreboard or a full buffer (18 R353). -/
  frozeLand : Nat
  frozeTok : Nat
  frozeSb : Nat
  /-- TVAL that each of these three would give. -/
  frozeTv : BitVec 64 × BitVec 64 × BitVec 64
  /-- What the third counts: accesses that overlap the scoreboard (address, bytes), the entries in use when it is full (0 when it is not), and
  whether the landing buffer is full. -/
  frozeSbAt : List (Nat × Nat) × Nat × Bool
  /-- Cycles for which the next bundle's wait has frozen, and the limit it read when it began (07 R155, R156). -/
  waited : Nat
  waitLimit : Nat
  /-- Operations on whose scoreboard entries the next bundle has frozen (18 R350 case 2). -/
  frozeOn : List Nat
  /-- The bundle that a trap has put off, and those operations of it (18 R352). -/
  frozePast : Option (BitVec 64 × List Nat)
  /-- Freeze cycles owed under PWRW, in fractions of a cycle (02 R39). -/
  duty : Nat
  /-- The BFENCE at which the next bundle freezes: its range, and whether its markers have been placed (13 R294). -/
  fence : Option (Nat × Nat × Bool)
  /-- What the next bundle's BWAIT has read of a global beacon (10 R236). -/
  poll : Option (BitVec 64)
  /-- Bundles fetched since the last taken transfer, up to 2 (03 R72). -/
  sinceJump : Nat
  /-- Predicates (physical) that the last bundle's slots name as destinations; that the last bundle issued wrote; that the one before it
  wrote; and whether the last bundle, and the one before it, were removed (03 R72). -/
  predS : BitVec 16
  predD : BitVec 16
  predP : BitVec 16
  removed : Bool
  removedP : Bool
  /-- Next number for operations and requests. -/
  nid : Nat
  /-- Cycles that have passed while rows could land or M operations run: the order of landings (model's own; log 42). -/
  clock : Nat
  /-- Columns served for its walks and its fetches (log 44). -/
  got : List GotCol
deriving DecidableEq, Repr

/-! ## Stacks -/

/-- A readiness request (02 R53) with the submission it comes from. -/
structure Request where
  node : BitVec 64
  launch : Bool
  stream : BitVec 6
  /-- Physical address of the submission's record. -/
  recd : Nat
  /-- The submission's partition and address space. -/
  part : Nat
  asid : BitVec 14
  /-- Where the node lies, once a walk has said so (02 R53). -/
  place : Option PAddr := none
deriving DecidableEq, Repr

/-- A window-table entry: its two words as written and the entry in force (01 R23, R24). -/
structure WindowEntry where
  w0 : BitVec 64
  w1 : BitVec 64
  force0 : BitVec 64
  force1 : BitVec 64
deriving DecidableEq, Repr

/-- Whose column request it is. -/
inductive Requester where
  /-- A request of a core's memory port. -/
  | port (core : BitVec 8) (req : Nat)
  /-- Work of a core's operation or cache fill: its number, and which part of it (1 + the entry of a gather's row; 0 the whole). -/
  | work (core : BitVec 8) (op part : Nat)
  /-- A BULK node, copied by the bulk engines of a bulkhead. -/
  | node (req : Request) (engine : Nat)
  /-- A request that has arrived over Phicolane, by its number. -/
  | flit (n : Nat)
  /-- A column or line of an agent's walk, fetch or record, by the agent's key (log 44). -/
  | direct (key : Nat) (a : PAddr) (write code : Bool)
  /-- What a member's save writes, or what a bind of tasks to a core reads: its areas, images and tree records. -/
  | save (core : BitVec 8)
  | restore (core : BitVec 8)
  /-- A write of a core that has been reset, which had passed the gate whole (17 R336). -/
  | past (r : MemReq)
deriving DecidableEq, Repr

/-- A request of an access to a fabric page: its place and length, the link bulkhead that it leaves by, the port on which it left (none when there was none that
works), and whether it writes (11 R256, 20 R392, R393). -/
structure FarReq where
  place : PAddr
  n : Nat
  lb : Nat
  port : Option Nat
  write : Bool
deriving DecidableEq, Repr

/-- An access split into its columns (13 R281): those that have not been admitted, by physical address, how many are in queues, and when the last
of the data is out of its bank. -/
structure Ask where
  who : Requester
  /-- The virtual channel they come on (01 R29). -/
  vc : Nat
  /-- Each with whether it is written. -/
  todo : List (Nat × Bool)
  out : Nat
  readyAt : Nat
  /-- The stacks its columns lie in; and the windows in force when it passed the gates, whose permission it keeps (01 R24). -/
  spots : List Nat
  win : FMap WindowEntry
  /-- Its requests to fabric pages that have no response, when they left, and its writes there that leave after what it reads has come (20 R393). -/
  far : List FarReq := []
  sentAt : Nat := 0
  next : List FarReq := []
deriving DecidableEq, Repr

/-- A column request in a pseudo-channel's queue (13 R281). -/
structure ColReq where
  who : Requester
  bank : Nat
  row : Nat
  /-- Physical address of the column, and whether it is written. -/
  pa : Nat
  write : Bool
  /-- Controller cycle in which it entered. -/
  at_ : Nat
  aged : Bool
  /-- It was in the queue when its bank's arbitration window opened (13 R292). -/
  win : Bool
deriving DecidableEq, Repr

/-- An entry of a bank's command queue (13 R294): a column write not yet in the array, or the marker of a core's BFENCE. -/
inductive CmdEntry where
  | write (row col data : Nat) (psn : Bool)
  | mark (core : BitVec 8)
deriving DecidableEq, Repr

/-- A bank with its engine (13 R285, R294). -/
structure Bank where
  acc : FMap (BitVec 256)
  /-- Marked accumulator lanes (20 R391), lane j of acc a at 8 a + j. -/
  bad : FMap Bool
  mpc : BitVec 5
  colp : BitVec 5
  lcnt : Nat
  rowi : Nat
  /-- Row open for the program. -/
  row : Option Nat
  /-- Slots of the open row used, and micro-ops of the group being filled (13 R288). -/
  slots : Nat
  group : Nat
  /-- When the slot at hand ends, or the first may begin (13 R288). -/
  slotEnd : Nat
  ended : Bool
  atWaits : Bool
  /-- Suspended in an arbitration window or by the byte budget. -/
  susp : Bool
  /-- An arbitration window is marked, and the bank has run a row since the last one (13 R292). -/
  window : Bool
  ranRow : Bool
  /-- Requests that the open window has still to serve. -/
  winLeft : Nat
  /-- The command queue, oldest first. -/
  cmdq : List CmdEntry
  /-- A ready ACT waits at the 24-row limit, since this time (13 R289). -/
  actWait : Option Nat
  /-- A fault has stopped it, and its open row is still to be precharged (20 R390). -/
  faulted : Bool
deriving DecidableEq, Repr

/-- A launch that has reached a channel: a BANKLD or a BANKGO, of which core and operation. -/
structure BankLaunch where
  core : BitVec 8
  op : Nat
  go : Bool
  /-- The region of the issuing member: its partition, address space and RCB. -/
  part : Nat
  rasid : BitVec 14
  rcb : BitVec 64
  /-- BANKLD: the micro-ops and scalars to store; BANKGO: ROW0, NROW, ENTRY and whether the leaf has WR. -/
  uops : List (BitVec 16)
  scal : List (BitVec 32)
  row0 : Nat
  nrow : Nat
  entry : BitVec 5
  wr : Bool
  chs : BitVec 64
  /-- The issuing member: its node, task index and number. -/
  node : BitVec 64
  tidx : Nat
  memb : Nat
  /-- The issuing member once its context has been saved: partition, node, task index and member; `none` while it is bound. -/
  away : Option (Nat × BitVec 64 × Nat × Nat)
deriving DecidableEq, Repr

/-- A bank program running on a channel. -/
structure Program where
  launch : BankLaunch
  /-- Its number in the channel's sequence, modulo 32 (15 R416). -/
  num : Nat
  /-- A fault has been met: the banks stop at their row boundaries (20 R390). -/
  stopping : Bool
deriving DecidableEq, Repr

/-- A pseudo-channel (13 R277-R294, 20 R377). -/
structure PChan where
  queue : List ColReq
  /-- Row open for ordinary traffic, by bank: row + 1; 0 none. -/
  rows : FMap Nat
  /-- 1 + the time in ns of the last activation, precharge and column command of each bank; 0 none. -/
  actAt : FMap Nat
  preAt : FMap Nat
  colAt : FMap Nat
  /-- Activation counts: bank b, row r at 16384 b + r (20 R377). -/
  count : FMap Nat
  /-- Rows whose activation is held, until when (20 R377). -/
  actHold : FMap Nat
  /-- Refreshes due and postponed, by bank, and the next row that a refresh of it renews (13 R284). -/
  refDue : FMap Nat
  refRow : FMap Nat
  uops : FMap (BitVec 16)
  scal : FMap (BitVec 32)
  prog : Option Program
  banks : FMap Bank
  waiting : List BankLaunch
  /-- Programs started so far. -/
  progs : Nat
  /-- The micro-op store or a scalar is lost (0x0703). -/
  lost : Bool
  /-- Columns that no offset reaches (13 R278), as the running program has written them: column c of row r of bank b at 32 (16384 b + r) + c. -/
  far : FMap (Option (BitVec 256 × Bool))
  /-- Columns as they stood before a bank program's write, where the controller may still hold a staged copy, by the same key (13 R294). -/
  staged : FMap (Option (BitVec 256 × Bool))
  /-- Banks occupied by refreshes, until when (13 R284). -/
  busy : FMap Nat
  /-- Refresh intervals of each bank that have been counted. -/
  refAt : FMap Nat
  /-- Rows whose counter's 4-bit check does not hold (20 R377, R378). -/
  chkBad : FMap Bool
  /-- When the precharges of closed program rows complete (13 R289). -/
  freed : List Nat
  /-- Programs that have ended and whose rows no retirement or LAUNCH has fenced since (02 R49, 07 R149). -/
  ran : List BankLaunch
  /-- 1 + the time of the last command of the controller (13 R282). -/
  lastCmd : Nat
deriving DecidableEq, Repr

/-- A page on its way to a reserve page (20 R383). -/
structure Move where
  old : Nat
  new : Nat
  /-- Next line of the pass, lines marked dirty, lines the pass still has to copy, passes run. -/
  line : Nat
  dirty : List Nat
  todo : List Nat
  passes : Nat
deriving DecidableEq, Repr

/-- A memory bulkhead's state (13, 20). -/
structure Stack where
  /-- Byte budget and remaining count (01 R27, R28). -/
  budget : Nat
  count : Int
  /-- The memory configuration record in force (13 R280). -/
  cfg : BitVec 128
  chans : FMap PChan
  /-- Time of the last BDC heartbeat, and since when beats have come without a gap (13 R284, 20 R379). -/
  beat : Nat
  beatsFrom : Nat
  /-- Time of a refresh takeover in force. -/
  takeover : Option Nat
  /-- The 5 ms of a takeover have run out (20 R380). -/
  holdOver : Bool
  /-- Retirement map: old page, new page (20 R382). -/
  retire : List (Nat × Nat)
  move : Option Move
  /-- Pages with 0x0402, and times of 0x0401 by page (20 R381). -/
  badPages : List Nat
  eccAt : List (Nat × Nat)
deriving DecidableEq, Repr

/-! ## The spine -/

/-- The control window and the package state behind it (01 R19-R34, 15 R302). -/
structure Ctl where
  own : BitVec 64
  bootst : BitVec 64
  ptab : BitVec 64
  pcfgst : BitVec 64
  /-- The arrangement a partition change is moving to, and the step it is at. -/
  pnew : BitVec 8
  pstep : Nat
  pceil : BitVec 64
  pshare : FMap (BitVec 64)
  win : FMap WindowEntry
  /-- REC, QLEN and DROP of each stream as read (15 R302). -/
  stream : FMap (BitVec 64)
  /-- Time of the last flit from the owner (20 R395). -/
  ownerAt : Nat
  /-- 1 + the time of the last epoch boundary, and of the last reading of the sensors; 0 none (01 R26, 17 R340). -/
  epochAt : Nat
  sensedAt : Nat
  /-- The answer to the last control-window access: the value returned, or a refusal. -/
  answer : Option (BitVec 64)
deriving DecidableEq, Repr

/-- A posted event (15 R316). -/
inductive EventKind where
  /-- From a walk, or from a LAUNCH of a core. -/
  | readiness (node : BitVec 64) (launch : Option (BitVec 8))
  /-- Of a task, with the leading core of member 0. -/
  | bound (core : BitVec 8) (node : BitVec 64) (tidx : Nat) (bindseq : BitVec 30)
  | parked (core : BitVec 8) (node : BitVec 64) (tidx : Nat) (bindseq : BitVec 30)
  | preempted (core : BitVec 8) (node : BitVec 64) (tidx : Nat) (bindseq : BitVec 30)
  | retired (core : BitVec 8) (node : BitVec 64) (tidx : Nat) (bindseq : BitVec 30)
  /-- With no core for a task that is not bound. -/
  | killed (core : Option (BitVec 8)) (node : BitVec 64) (tidx : Nat) (bindseq : BitVec 30) (code : BitVec 16)
  | bindRefused (core : BitVec 8) (res : BitVec 2)
  | ageAlarm (node : BitVec 64) (tidx : Nat)
  | graphEnd (node : BitVec 64)
  | submissionEnded (stream : BitVec 6)
  | nodeRefused (node : BitVec 64) (code : BitVec 16)
  | controlWindow (fid : BitVec 12)
  | partitionChange (ptab : BitVec 64)
  | error (bank rec cls : Nat) (overflow : Bool)
  | bulkheadReset (b : Nat)
deriving DecidableEq, Repr

/-- The source of an event, in the order of 15 R317: cores by number, then the CP, the SCH, dispatch, the SMC and the control window. The kill of a
task that is not bound is posted by dispatch (log 46). -/
def EventKind.source : EventKind → Nat
  | .readiness _ c => (c.map BitVec.toNat).getD 256
  | .bound c _ _ _ => c.toNat
  | .parked c _ _ _ => c.toNat
  | .preempted c _ _ _ => c.toNat
  | .retired c _ _ _ => c.toNat
  | .killed c _ _ _ _ => (c.map BitVec.toNat).getD 258
  | .bindRefused _ _ => 258
  | .ageAlarm _ _ => 258
  | .graphEnd _ => 256
  | .submissionEnded _ => 256
  | .nodeRefused _ _ => 256
  | .controlWindow _ => 260
  | .partitionChange _ => 259
  | .error _ _ _ _ => 259
  | .bulkheadReset _ => 259

/-- A node that is ready or active: the request it works for, its region, and the node as read when it became ready. -/
structure Active where
  req : Request
  /-- Its region's RCB and the address space that it lies in. -/
  rcb : BitVec 64
  rasid : BitVec 14
  w : BitVec 512
deriving DecidableEq, Repr

/-- A readiness held by a node that has fallen due: the node is ready (02 R53); its region as the node named it when it last ran. -/
structure Due where
  req : Request
  rcb : BitVec 64
  rasid : BitVec 14
deriving DecidableEq, Repr

/-- A running submission (15 R304). -/
structure Submission where
  recd : Nat
  part : Nat
  root : BitVec 64
  asid : BitVec 14
  done : BitVec 64
  doneinc : BitVec 64
  /-- Its requests are no longer counted (17 R334, 18 R354). -/
  stopped : Bool
  /-- It ends with STATUS 3. -/
  failed : Bool
deriving DecidableEq, Repr

/-- An open region's latched effective values and its hardware fields (02 R36-R38). -/
structure Region where
  /-- Its partition, and where its RCB lies: address space, address and place. -/
  part : Nat
  rasid : BitVec 14
  va : BitVec 64
  place : PAddr
  asid : BitVec 14
  /-- Its parent's RCB, and the address space that the parent was opened under. -/
  parent : BitVec 64
  pasid : BitVec 14
  depth : Nat
  bmask : BitVec 32
  cquota : Nat
  beq : Nat
  mempg : Nat
  pwrw : Nat
  prio : BitVec 8
  prot : Bool
  kill : BitVec 2
  pcls : BitVec 2
  save : Bool
  agecap : Nat
  slice : Nat
  vx : Nat
  vy : Nat
  vz : Nat
  savebase : BitVec 64
  bound : Nat
  bankact : Nat
  live : Nat
  children : Nat
  epochw : Nat
deriving DecidableEq, Repr

/-- A wave (02 R42, R43) with what its KERNEL node fixes. -/
structure Wave where
  req : Request
  /-- The region's RCB and the address space of the submission. -/
  rcb : BitVec 64
  rasid : BitVec 14
  prio : Nat
  vx : Nat
  vy : Nat
  vz : Nat
  entry : BitVec 64
  partw : BitVec 32
  gran : Nat
  karg : BitVec 64
  dataVa : BitVec 64
  dataLen : Nat
  treeVa : BitVec 64
  trees : BitVec 16
  /-- The region's effective address space. -/
  asid : BitVec 14
  /-- Next task index to bind; tasks retired or killed so far. -/
  next : Nat
  done : Nat
  /-- Its node has completed already, by a kill (17 R334): the end of its tasks completes no node. -/
  ended : Bool
deriving DecidableEq, Repr

/-- What a parked member waits for (02 R46, 07 R151, 10 R238, R415). -/
inductive ParkCond where
  /-- A global beacon: PARK's, or that of a BWAIT. -/
  | beacon (va target : BitVec 64)
  /-- A scratchpad beacon, with its value when the context was saved. -/
  | spBeacon (off x target : Nat)
  /-- The tokens of these bank operations. -/
  | tokens (ops : List Nat)
  /-- A phase, judged from the core the member parked on: the current colour and its state. -/
  | phase (c : BitVec 8) (cur : BitVec 2) (p : Colour)
deriving DecidableEq, Repr

/-- An unbound task that has run before (02 R46). -/
structure TaskRec where
  part : Nat
  node : BitVec 64
  tidx : Nat
  ready : Bool
  /-- What a parked task's members wait for, by member; and the members parked at a wait, whose wait slots are marked satisfied on resume. -/
  conds : List (Nat × ParkCond)
  /-- Members that have halted (02 R46). -/
  halted : List Nat
  /-- Row fields that the save area has no place for, and bank operations whose programs have not ended (13 R291), by member. -/
  lands : List (Nat × FMap LandRow)
  progs : List (Nat × List EngineOp)
  /-- Members of a pre-empted task that had parked before their peers; packets each member has sent so far, by tree (10 R245). -/
  parked : List (Nat × Run)
  rounds : List (Nat × FMap Nat)
  /-- Physical tokens that the operations of pending deferred faults produced, in the order saved, by member (18 R350, R352). -/
  links : List (Nat × List Nat)
  /-- Killed, with the code of its event, while its bank programs still run (17 R334). -/
  dying : Option (BitVec 16)
deriving DecidableEq, Repr

/-- The eligible head of a partition (15 R310) and the time since which it has been that. -/
structure AgeHead where
  part : Nat
  node : BitVec 64
  tidx : Nat
  since : Nat
deriving DecidableEq, Repr

/-- A binding by dispatch itself that waits for its cores (15 R310, R311). -/
structure OwnBind where
  part : Nat
  node : BitVec 64
  tidx : Nat
  cores : List (BitVec 8)
deriving DecidableEq, Repr

/-- An entry of a ready pool (15 R306): a wave, or a task that became ready again. -/
inductive PoolEntry where
  | wave (node : BitVec 64)
  | task (node : BitVec 64) (tidx : Nat)
deriving DecidableEq, Repr

/-- The CP (02, 15). -/
structure Cp where
  reqs : List Request
  /-- Readiness already counted that has become due (02 R53). -/
  due : List Due
  /-- Readiness held by nodes in PEND, or by the CP while PEND is 255, in order. -/
  pend : List Request
  /-- Nodes whose KERNEL requests are held because the pools are full (15 R306). -/
  full : List Request
  /-- Queued records of each stream. -/
  queue : List (BitVec 6 × Nat)
  subs : List (BitVec 6 × Submission)
  regions : List Region
  active : List Active
  waves : List Wave
deriving DecidableEq, Repr

/-- An island (01 R15, R16; 17 R340). -/
structure Island where
  /-- Frequency point 0-10: 0.85 GHz + 85 MHz each; and until when a change of it freezes the island's clock domain. -/
  point : Nat
  frozen : Nat
  /-- Thousandths of the clock's cycles up to the last change of the point. -/
  cycles : Nat
  watts : Nat
  tripped : Bool
  /-- Held in reset by a thermal shutdown. -/
  down : Bool
  /-- Times since which it has been below 100 °C and below 95 °C. -/
  cool100 : Option Nat
  cool95 : Option Nat
deriving DecidableEq, Repr

/-- A reduction packet sent into a tree: local core, its operation, exact mode, the 32 elements, its address s(DSTS). -/
structure Packet where
  core : BitVec 4
  op : Nat
  exactMode : Bool
  elems : List (BitVec 32)
  destVa : BitVec 64
  /-- A check on its way has found it bad: it is combined as poison (17 R332, R337). -/
  psn : Bool
deriving DecidableEq, Repr

/-- A round of a combining tree (10 R245, 22 R406). -/
structure Round where
  b : BitVec 4
  tree : BitVec 4
  m : Nat
  sent : List Packet
  /-- When its first packet entered (22 R406), in thousandths of the bulkhead's cycles. -/
  at_ : Nat
  /-- Routers that have combined, exact windows or FP32 values. -/
  exact : List (BitVec 4 × List Window)
  rounded : List (BitVec 4 × List (BitVec 32))
  /-- Rounding flags so far. -/
  flags : BitVec 5
  /-- 0 running, 1 written by the root, else the code that every packet of it completes with, and its TVAL. -/
  ended : BitVec 16
  tval : BitVec 64
  /-- The wave whose tasks sent its first packet. -/
  part : Nat
  node : BitVec 64
deriving DecidableEq, Repr

/-- An outstanding request to a fabric or host page (11 R256, 20 R393). -/
structure FabReq where
  tag : Nat
  core : BitVec 8
  req : Nat
  fid : BitVec 12
  raddr : BitVec 52
  n : Nat
  write : Bool
  data : Nat
  sentAt : Nat
  /-- The port it left on. -/
  port : Nat
deriving DecidableEq, Repr

/-- A Phicolane port (20 R392). -/
structure Port where
  down : Bool
  training : Bool
  /-- Retrainings failed in a row; replays of one flit in a row; times of replays. -/
  fails : Nat
  replays : Nat
  replayAt : List Nat
  /-- Sequence numbers of the next flit to send and to receive, and the replay buffer: the tags of the last 256 flits sent. -/
  txSeq : Nat
  rxSeq : Nat
  buf : List Nat
deriving DecidableEq, Repr

/-- A cached translation result (11 R254): address space, first page address, log2 of the page size, the leaf. -/
structure Cached where
  asid : BitVec 14
  base : Nat
  size : Nat
  leaf : BitVec 64
deriving DecidableEq, Repr

/-- The firmware's health (17 R339). -/
structure Firmware where
  cpDown : Bool
  schDown : Bool
  alarms : List Nat
deriving DecidableEq, Repr

/-- The machine. -/
structure State where
  /-- Turns still to come, first first; model's own (log 3). -/
  turns : List Turn
  /-- The input of the event at hand. -/
  inp : Input
  /-- The core whose slot is executed; the bank whose micro-op is executed, and that micro-op's jump target. -/
  cur : BitVec 8
  curBank : BitVec 3 × BitVec 8 × BitVec 5
  uopT : BitVec 5
  /-- Next free value (model's own; log 5). -/
  nfree : Nat
  /-- Nanoseconds since package power-on (07 R154). -/
  ns : Nat
  powered : Bool
  /-- Stack memory by physical address (01 R14). -/
  mem : List Host.Cell
  /-- Poisoned 32-byte columns by physical address / 32 (17 R332). -/
  poison : FMap Bool
  cores : FMap Core
  stk : FMap Stack
  ctl : Ctl
  seq : Nat
  events : List (Nat × Nat × EventKind)
  cp : Cp
  /-- Ready pools: partition j, priority p at 256 j + p (15 R306). -/
  pools : FMap (List PoolEntry)
  tasks : List TaskRec
  /-- Bytes 0-31 and 32-63 of each slot (15 R307). -/
  slots : FMap (BitVec 256)
  slotHi : FMap (BitVec 256)
  rptr : FMap Nat
  /-- The eligible heads whose waiting age is counted. -/
  age : List AgeHead
  /-- Bindings by the rotation whose cores are still being freed. -/
  owns : List OwnBind
  islands : FMap Island
  /-- Tree records of each compute bulkhead: bulkhead b, tree t at 16 b + t (10 R243). -/
  trees : FMap (BitVec 256)
  rounds : List Round
  /-- Error records: bank, record at 256 bank + record (17 R326-R328). -/
  recs : FMap (BitVec 256)
  ports : FMap Port
  /-- Virtual channels stopped: bulkhead b, channel v at 4 b + v (01 R29). -/
  vcstop : FMap Bool
  fab : List FabReq
  /-- The last response that a request arriving over Phicolane was given: data and poison, or an abort. -/
  reply : Option (Nat × Bool)
  /-- Column accesses under way, and requests from outside that wait for theirs: number, link bulkhead, flit. -/
  asks : List Ask
  inbound : List (Nat × Nat × Flit)
  /-- A direct write of the step at hand must wait, and the event with it (model's own; log 44). -/
  blocked : Bool
  /-- Columns served for the walks and records of the bulkheads, by number, and of the spine, at 64 (log 44). -/
  got : FMap (List GotCol)
  /-- The step at hand looks ahead at code and tables: it asks for no columns (model's own; log 44). -/
  peek : Bool
  /-- Trailing cores, by their leading cores (19 R362). -/
  twins : FMap (Option Core)
  /-- Cached translations of each bulkhead, and of core c at 256 + c (11 R254). -/
  tlb : FMap (List Cached)
  fw : Firmware
deriving DecidableEq, Repr

/-! ## Values at reset and at a first bind -/

namespace Init

/-- No bundle in issue. -/
def issue : Issue :=
  { rest := 0, size := 16, guard := 0, port := 0, effects := [], fault := none, guards := [], banks := [], freezes := [], sbOps := []
    predS := 0, predD := 0, boundary := false, rdv := false, paid := false, duty := false }

/-- An idle loop level. -/
def level : Level := { active := false, c := 0, t := 0, n := 0, body := 0, trips := 0, first := 0, last := 0 }

/-- A colour with no phase and no arrival (10 R240, R242). -/
def colour : Colour :=
  { copies := 0, packets := 0, banks := 0, stores := 0, hdr := 0, posted := false, gen := false, held := false }

/-- The identity of no task (log 10). -/
def ident : Ident :=
  { tidx := 0, vsx := 0, vsy := 0, vsz := 0, tmemb := 0, tgran := 0, karg := 0, rcba := 0, partw := 0 }

/-- The register values of a task's first bind (03 R66), but for the generators, which depend on the task (04 R93). -/
def ctx : Ctx :=
  { id := ident, pc := 0, s := [], v := [], vtag := [], p := 1, mks := [], a := [], step := [], lc := [], sB := 0, vB := 0, pB := 0, kB := 0
    k := [], e := [], qs := [], frm := 0, fflags := 0, srseed := 0, rng := [], waitcap := 0x10000, tvec := 0, tpc := 0, tcause := 0, tval := 0
    cycle := 0, light := colour, dark := colour, cur := 0, deferred := [], segLeft := 0, waitOk := false, rounds := [], bad := [] }

/-- An all-zero window accumulator, as at a first bind (09 R189). -/
def window : Window :=
  { val := 0, nan := false, pinf := false, ninf := false, any := false, negz := false, lost := false, clip := false }

/-- An empty landing row (10 R219). -/
def landRow : LandRow := { data := [], tag := 0, pos := 0, state := 0, seen := false, ord := 0, psn := false, lst := false }

/-- An invalid tag-table entry. -/
def tagEntry : TagEntry := { st := 0, dirty := false, pin := false, blk := 0, drop := false, inv := false, home := .stack 0 }

/-- The pool at a first bind, before the data image is placed (06 R132, 09 R189): planes of +0 in INT8 (tag 7). -/
def pool : Pool :=
  { sp := [], psn := [], tile := [], ttag := [], code := [], active := [], shadow := [], afmt := 7, sfmt := 7, win := [], anchor := [], resid := []
    land := [], tagt := [], plru := [], bad := [] }

/-- No open segment. -/
def segment : Segment :=
  { openSeg := false, ck := none, log := [], hold := [], issued := 0, sigs := [], sigAt := [], done := [], first := 0, ending := false, atoms := [], atomNext := 0
    synd := 0, rerun := false, restoring := false, bad := 0, badAt := 0, sigx := 0 }

/-- An idle core. -/
def core : Core :=
  { cstate := 0, task := none, run := .running, ctx := ctx, pool := pool, pipe := [], land := [], sb := [], ops := [], mq := [], launches := []
    eclipse := [], seg := segment, iss := issue, trap := none, frozeLand := 0, frozeTok := 0, frozeSb := 0, frozeTv := (0, 0, 0)
    frozeSbAt := ([], 0, false), waited := 0, waitLimit := 0, frozeOn := [], frozePast := none, duty := 0, fence := none, poll := none
    sinceJump := 0, predS := 0, predD := 0, predP := 0, removed := false, removedP := false, nid := 1, clock := 0, got := [] }

/-- A bank with no program. -/
def bank : Bank :=
  { acc := [], bad := [], mpc := 0, colp := 0, lcnt := 0, rowi := 0, row := none, slots := 0, group := 0, slotEnd := 0, ended := true, atWaits := false
    susp := false, window := false, ranRow := true, winLeft := 0, cmdq := [], actWait := none, faulted := false }

/-- A pseudo-channel after stack reset (13 R285). -/
def pchan : PChan :=
  { queue := [], rows := [], actAt := [], preAt := [], colAt := [], count := [], actHold := [], refDue := [], refRow := [], uops := [], scal := [], prog := none
    banks := [], waiting := [], progs := 0, lost := false, far := [], staged := [], busy := [], refAt := [], chkBad := [], freed := [], ran := []
    lastCmd := 0 }

/-- The memory configuration record's reset values (13 R280): AGECAP 2,048, WINREQ 8, tRCD 14, tRP 14, tRAS 28, tRC 42, tCL 14, tCCD_L 2. -/
def memCfg : BitVec 128 := 0x20E_2A1C_0E0E_0008_0800

/-- A stack after reset (log 10 for the budget). -/
def stack : Stack :=
  { budget := 46080000, count := 46080000, cfg := memCfg, chans := [], beat := 0, beatsFrom := 0, takeover := none, holdOver := false, retire := []
    move := none, badPages := [], eccAt := [] }

/-- A window-table entry at reset. -/
def windowEntry : WindowEntry := { w0 := 0, w1 := 0, force0 := 0, force1 := 0 }

/-- The control window at reset (01 R19, R20, R25, R31, R34; 15 R302). -/
def ctl : Ctl :=
  { own := 0, bootst := 0, ptab := 1, pcfgst := 0, pnew := 1, pstep := 0, pceil := 2400, pshare := [], win := [], stream := [], ownerAt := 0
    epochAt := 0, sensedAt := 0, answer := none }

/-- The CP with nothing to do. -/
def cp : Cp := { reqs := [], due := [], pend := [], full := [], queue := [], subs := [], regions := [], active := [], waves := [] }

/-- An island at its lowest point (01 R33 step 3). -/
def island : Island := { point := 0, frozen := 0, cycles := 0, watts := 0, tripped := false, down := false, cool100 := none, cool95 := none }

/-- A working port. -/
def port : Port := { down := false, training := false, fails := 0, replays := 0, replayAt := [], txSeq := 0, rxSeq := 0, buf := [] }

/-- Firmware that runs. -/
def firmware : Firmware := { cpDown := false, schDown := false, alarms := [] }

end Init

/-- The machine right after reset: before bring-up, every register at the value the spec gives or the log names. -/
def State.reset : State :=
  { turns := [], inp := {}, cur := 0, curBank := (0, 0, 0), uopT := 0, nfree := 0, ns := 0, powered := false, mem := [], poison := [], cores := []
    stk := [], ctl := Init.ctl, seq := 0, events := [], cp := Init.cp, pools := [], tasks := [], slots := [], slotHi := [], rptr := [], age := [], owns := []
    islands := [], trees := [], rounds := [], recs := [], ports := [], vcstop := [], fab := [], reply := none, asks := [], inbound := []
    blocked := false, got := [], peek := false, twins := [], tlb := [], fw := Init.firmware }

end Sys2Proof.Machine
end

