-- ==== Sys2Proof/Machine/Access.lean ====
section
/-! DEFINITION. Reading and changing one unit of the machine: a core, a stack, a pseudo-channel, a bank, a bulkhead; which bulkhead, stack and partition a unit belongs to. -/

namespace Sys2Proof.Machine

/-! ## Cores -/

/-- Core number `c`. -/
def State.core (s : State) (c : BitVec 8) : Core := mapGet Init.core s.cores c.toNat

def State.setCore (s : State) (c : BitVec 8) (x : Core) : State := { s with cores := mapSet Init.core s.cores c.toNat x }

def State.updCore (s : State) (c : BitVec 8) (f : Core → Core) : State := s.setCore c (f (s.core c))

/-- The compute bulkhead of a core, and its number there (00 R10). -/
def cbOf (c : BitVec 8) : Nat := c.toNat / 16
def localOf (c : BitVec 8) : Nat := c.toNat % 16
/-- The quad of a core, and its position there. -/
def quadOf (c : BitVec 8) : Nat := c.toNat / 4
def posOf (c : BitVec 8) : Nat := c.toNat % 4

/-- Every core that is not idle as at reset. -/
def State.liveCores (s : State) : List (BitVec 8) := s.cores.map fun x => BitVec.ofNat 8 x.1

/-- A change of every listed core. -/
def State.updCores (s : State) (cs : List (BitVec 8)) (f : Core → Core) : State := cs.foldl (fun s c => s.updCore c f) s

/-! ## Stacks -/

def State.stack (s : State) (k : Nat) : Stack := mapGet Init.stack s.stk k

def State.setStack (s : State) (k : Nat) (x : Stack) : State := { s with stk := mapSet Init.stack s.stk k x }

def State.updStack (s : State) (k : Nat) (f : Stack → Stack) : State := s.setStack k (f (s.stack k))

def State.chan (s : State) (k pc : Nat) : PChan := mapGet Init.pchan (s.stack k).chans pc

def State.setChan (s : State) (k pc : Nat) (x : PChan) : State :=
  s.updStack k fun t => { t with chans := mapSet Init.pchan t.chans pc x }

def State.updChan (s : State) (k pc : Nat) (f : PChan → PChan) : State := s.setChan k pc (f (s.chan k pc))

def PChan.bank (p : PChan) (b : Nat) : Bank := mapGet Init.bank p.banks b

def PChan.setBank (p : PChan) (b : Nat) (x : Bank) : PChan := { p with banks := mapSet Init.bank p.banks b x }

def PChan.updBank (p : PChan) (b : Nat) (f : Bank → Bank) : PChan := p.setBank b (f (p.bank b))

/-! ## Partitions (01 R18, R19) -/

/-- The first octant of the partition of octant `k` under a START pattern. -/
def firstOctant (start : Nat) : Nat → Nat
  | 0 => 0
  | k + 1 => if start.testBit (k + 1) then k + 1 else firstOctant start k

/-- The first octant after `k` that begins a partition. -/
def endOctant (start k : Nat) : Nat := ((List.range 8).filter fun j => decide (k < j) && start.testBit j).headD 8

/-- START in force at the gates. -/
def State.start (s : State) : Nat := s.ctl.ptab.toNat % 256

/-- The partition, named by its first octant, of an octant; of a core. -/
def State.partOf (s : State) (octant : Nat) : Nat := firstOctant s.start octant
def State.partOfCore (s : State) (c : BitVec 8) : Nat := s.partOf (cbOf c / 2)

/-- The octants of a partition. -/
def State.octants (s : State) (p : Nat) : List Nat := (List.range 8).filter fun k => decide (s.partOf k = p)

/-- The partitions. -/
def State.parts (s : State) : List Nat := (List.range 8).filter fun k => decide (s.partOf k = k)

/-- The octant of bulkhead `b` (01 R12): CB 0-15, MB 16-23, LB 24-31. -/
def octantOf (b : Nat) : Nat := if b < 16 then b / 2 else if b < 24 then b - 16 else b - 24

/-- The cores of a compute bulkhead. -/
def coresOfCb (b : Nat) : List (BitVec 8) := (List.range 16).map fun i => BitVec.ofNat 8 (16 * b + i)

/-- The cores of a partition. -/
def State.coresOf (s : State) (p : Nat) : List (BitVec 8) :=
  (s.octants p).flatMap fun k => coresOfCb (2 * k) ++ coresOfCb (2 * k + 1)

end Sys2Proof.Machine
end

