-- ==== Sys2Proof/Machine/Memory.lean ====
section
/-! DEFINITION. Stack memory and its poison, page retirement, error records with their mirror in the error pages, posted events, translation walks and gates, and virtual access by the spine's agents. -/

namespace Sys2Proof.Machine

/-- The canonical form of a byte memory: addresses rise strictly, and no entry holds 0, which an unlisted address reads as. -/
def Memory.wf (m : List Host.Cell) : Bool := mapWf 0 m

/-- The machine's stack memory and its file of cores are in their canonical forms, so that equal contents are equal data. -/
def State.Canonical (s : State) : Prop := Memory.wf s.mem = true ∧ mapWf Init.core s.cores = true

/-! ## Retired and moving pages (20 R382, R383) -/

/-- Where an access to physical address `pa` goes under the retirement map (20 R382). -/
def State.redirect (s : State) (pa : Nat) : Nat :=
  let k := pa / 2 ^ 36
  let page := pa % 2 ^ 36 / 2 ^ 14
  match (s.stack k).retire.find? fun x => x.1 = page with
  | some (_, new) => k * 2 ^ 36 + new * 2 ^ 14 + pa % 2 ^ 14
  | none => pa

/-- The page move of a stack marks the lines written (20 R383). -/
def State.markDirty (s : State) (pa n : Nat) : State :=
  let k := pa / 2 ^ 36
  match (s.stack k).move with
  | some mv =>
    if pa % 2 ^ 36 / 2 ^ 14 = mv.old then
      let l := pa % 2 ^ 14 / 64
      let ls := upFrom l ((pa % 2 ^ 14 + n + 63) / 64 - l)
      s.updStack k fun t => { t with move := some { mv with dirty := mv.dirty ++ ls.filter fun i => !mv.dirty.contains i } }
    else s
  | none => s

/-! ## Events and error records (15 R316, 17 R326-R331) -/

/-- Whether an event of a higher source has been numbered in this spine cycle, which lasts a nanosecond (01 R15). -/
def State.presentsLate (s : State) (e : EventKind) : Bool := match s.events.getLast? with
  | some x => decide (x.2.1 = s.ns ∧ e.source < x.2.2.source)
  | none => false

/-- An event is numbered and delivered.  Within one spine cycle sources come in ascending order, so an event that comes behind one of a higher
source is presented in the next cycle (15 R317; log 46). -/
def State.post (s : State) (e : EventKind) : State :=
  let t := if s.presentsLate e then s.ns + 1 else s.ns
  { s with ns := t, seq := s.seq + 1, events := s.events ++ [(s.seq + 1, t, e)] }

/-- Bank number of the spine. -/
def spineBank : Nat := 32

/-- The places of bank `b`'s records in the error pages, as physical addresses (17 R327). -/
def errorPlaces (b : Nat) : List Nat :=
  if b < 16 then [b / 2 * 2 ^ 36 + 0x20000 + b % 2 * 0x1000]
  else if b < 24 then [(b - 16) * 2 ^ 36 + 0x22000]
  else if b < 32 then [(b - 24) * 2 ^ 36 + 0x24000]
  else (List.range 8).map fun k => k * 2 ^ 36 + 0x25000

/-- The SMC's copy of a record into the error pages. -/
def State.mirrorRecord (s : State) (b n : Nat) (r : BitVec 256) : State :=
  (errorPlaces b).foldl
    (fun s a =>
      let at_ := s.redirect (a + 32 * n)
      let t : State := { s with mem := writeBytes s.mem at_ 32 r.toNat, poison := mapSet false s.poison (at_ / 32) false }
      t.markDirty (a + 32 * n) 32) s

/-- Records of a bank (17 R326). -/
def recordCount (b : Nat) : Nat := if b < 16 then 68 else if b < 24 then 195 else 6

def State.record (s : State) (b n : Nat) : BitVec 256 := mapGet 0 s.recs (256 * b + n)

def State.setRecord (s : State) (b n : Nat) (r : BitVec 256) : State :=
  { s with recs := mapSet 0 s.recs (256 * b + n) r }.mirrorRecord b n r

/-- What an error reports (17 R328). -/
structure ErrInfo where
  cls : Nat
  code : Nat
  atype : Nat := 0
  addr : Nat := 0
  synd : Nat := 0
  asid : Nat := 0
deriving DecidableEq, Repr

/-- An error is ranked against its record, the record updated and mirrored, and an error event posted (17 R329). -/
def State.logError (s : State) (b n : Nat) (e : ErrInfo) : State :=
  let r := (s.record b n).toNat
  let cls := fieldOf r 2 1
  if r % 2 = 0 ∨ cls < e.cls then
    let seq := s.seq + 1
    let w0 := 1 + 2 * e.cls + 16 * e.atype + 2 ^ 16 * e.code + 2 ^ 32
    let w2 := e.synd % 2 ^ 48 + 2 ^ 48 * (e.asid % 2 ^ 14)
    let r' := BitVec.ofNat 256 (w0 + 2 ^ 64 * (e.addr % 2 ^ 64) + 2 ^ 128 * w2 + 2 ^ 192 * seq)
    (s.setRecord b n r').post (.error b n e.cls false)
  else
    let r1 := withField r 3 3 1
    let r2 := if e.cls = cls then withField r1 47 32 (min (fieldOf r 47 32 + 1) 65535) else r1
    (s.setRecord b n (BitVec.ofNat 256 r2)).post (.error b n e.cls true)

/-- The record of a unit of a core (17 R326): 0 pool and sequencer, 1 bag array, 2 copy units, 3 memory port, 4 the bulk engines of its bulkhead.
In protected mode the leading core's. -/
def State.coreError (s : State) (c : BitVec 8) (unit : Nat) (e : ErrInfo) : State :=
  let c := match (s.core c).task with
    | some b => if b.prot then BitVec.ofNat 8 (c.toNat / 2 * 2) else c
    | none => c
  s.logError (cbOf c) (if unit < 4 then 4 * localOf c + unit else 66) e

/-! ## Places (13 R278) -/

/-- The offset of byte 0 of a column. -/
def colOffset (pc bank row col : Nat) : Nat := 256 * (((4 * row + col / 8) * 32 + bank) * 192 + pc) + 32 * (col % 8)

/-- Pseudo-channel, bank, row and column of a stack offset. -/
def chanOf (o : Nat) : Nat := o / 256 % 192
def dramBankOf (o : Nat) : Nat := o / 256 / 192 % 32
def rowOf (o : Nat) : Nat := o / 256 / 192 / 32 / 4
def colOf (o : Nat) : Nat := o / 256 / 192 / 32 % 4 * 8 + o / 32 % 8

/-- Key of a row, and of a column, of a pseudo-channel. -/
def rowKey (bank row : Nat) : Nat := 16384 * bank + row
def colKey (bank row col : Nat) : Nat := 32 * rowKey bank row + col

/-! ## Stack memory (01 R14, 20 R382) -/

/-- `n` bytes at a physical address, within one page. -/
def State.physRead (s : State) (pa n : Nat) : Nat := readBytes s.mem (s.redirect pa) n

/-- Whether a column that the bytes touch is poisoned (17 R332). -/
def State.physPoisoned (s : State) (pa n : Nat) : Bool :=
  let a := s.redirect pa
  (upFrom (a / 32) ((a + n + 31) / 32 - a / 32)).any fun i => mapGet false s.poison i

/-- Whether an address lies in an error page, whose bytes only the SMC writes (17 R327). -/
def inErrorPage (pa : Nat) : Bool := decide (0x20000 ≤ pa % 2 ^ 36) && decide (pa % 2 ^ 36 < 0x28000)

/-- Poison marks after a write of `n` bytes from `a`: every column touched is marked by poisoned data, and cleared when good data
covers it whole (17 R332). -/
def markPoison (m : FMap Bool) (a n : Nat) (psn : Bool) : FMap Bool :=
  (upFrom (a / 32) ((a + n + 31) / 32 - a / 32)).foldl
    (fun m i => if psn then mapSet false m i true else if a ≤ 32 * i ∧ 32 * i + 32 ≤ a + n then mapSet false m i false else m) m

/-- A write to directory entries drops every cached translation of those address spaces in the partition (11 R255). -/
def State.dropAsids (s : State) (pa n : Nat) : State :=
  let k := pa / 2 ^ 36
  let off := pa % 2 ^ 36
  if s.partOf k = k ∧ off < 2 ^ 17 then
    let lo := off / 8
    let hi := (off + n + 7) / 8
    { s with
      tlb := s.tlb.filterMap fun x =>
        if s.partOf (if x.1 < 256 then octantOf x.1 else (x.1 - 256) / 32) = k then
          match x.2.filter fun e => !(decide (lo ≤ e.asid.toNat) && decide (e.asid.toNat < hi)) with
          | [] => none
          | l => some (x.1, l)
        else some x }
  else s

/-- The pseudo-channel's staged copy of the column that holds an address after redirection (13 R294). -/
def State.stagedCopy (s : State) (a : Nat) : Option (BitVec 256 × Bool) :=
  let o := a % 2 ^ 36
  mapGet none (s.chan (a / 2 ^ 36) (chanOf o)).staged (colKey (dramBankOf o) (rowOf o) (colOf o))

/-- The staged copy of that column is dropped. -/
def State.unstage (s : State) (a : Nat) : State :=
  if (s.stagedCopy a).isNone then s
  else
    let o := a % 2 ^ 36
    s.updChan (a / 2 ^ 36) (chanOf o) fun p => { p with staged := mapSet none p.staged (colKey (dramBankOf o) (rowOf o) (colOf o)) none }

/-- The columns that the bytes touch after redirection. -/
def State.columnsAt (s : State) (pa n : Nat) : List Nat :=
  let a := s.redirect pa
  upFrom (a / 32) ((a + n + 31) / 32 - a / 32)

/-- `n` bytes as an ordinary read finds them: where the step's input says so, columns come whole from copies that the controller holds staged. -/
def State.ordRead (s : State) (pa n : Nat) : Nat :=
  let x := s.physRead pa n
  if !s.inp.stale then x
  else
    let a := s.redirect pa
    (s.columnsAt pa n).foldl
      (fun x i => match s.stagedCopy (32 * i) with
        | some (y, _) =>
          let lo := max a (32 * i)
          let hi := min (a + n) (32 * i + 32)
          withField x (8 * (hi - a) - 1) (8 * (lo - a)) (bytesOf y.toNat (lo - 32 * i) (hi - lo))
        | none => x) x

/-- Whether a column that an ordinary read finds is poisoned. -/
def State.ordPoisoned (s : State) (pa n : Nat) : Bool :=
  if !s.inp.stale then s.physPoisoned pa n
  else (s.columnsAt pa n).any fun i => match s.stagedCopy (32 * i) with
    | some (_, psn) => psn
    | none => mapGet false s.poison i

/-- An ordinary read that has found the array leaves no staged copy of its columns. -/
def State.sawArray (s : State) (pa n : Nat) : State := if s.inp.stale then s else (s.columnsAt pa n).foldl (fun s i => s.unstage (32 * i)) s

/-- `n` bytes of `x` written at a physical address, within one page; writes to an error page are discarded.  Staged copies of the columns go. -/
def State.physWrite (s : State) (pa n x : Nat) (psn : Bool) : State :=
  if inErrorPage pa then s
  else
    let s := (s.columnsAt pa n).foldl (fun s i => s.unstage (32 * i)) s
    let a := s.redirect pa
    (({ s with mem := writeBytes s.mem a n x, poison := markPoison s.poison a n psn } : State).markDirty pa n).dropAsids pa n

/-! ## Gates, links and stop/go (01 R17, R22, R23, R29, 11 R256) -/

/-- Whether the gates pass a core's or engine's access of partition `p` to a physical address (01 R22, R23). -/
def State.gatePasses (s : State) (p : Nat) (pa : Nat) (rd wr : Bool) : Bool :=
  let k := pa / 2 ^ 36
  let page := pa % 2 ^ 36 / 2 ^ 14
  decide (s.partOf k = p) ||
    s.ctl.win.any fun x =>
      let w0 := x.2.force0.toNat
      let w1 := x.2.force1.toNat
      let size := if fieldOf w1 53 32 = 0 then 2 ^ 22 else fieldOf w1 53 32
      w0.testBit 63 && decide (w0 % 8 = k) && (fieldOf w0 15 8).testBit p && decide (fieldOf w1 21 0 ≤ page)
        && decide (page < fieldOf w1 21 0 + size) && (!rd || w0.testBit 16) && (!wr || w0.testBit 17)

/-- Thousandths of the cycles that an island's clock has run: 0.85 GHz + 85 MHz a point, and none while a change freezes it (01 R16). -/
def Island.milli (x : Island) (ns : Nat) : Nat := x.cycles + (ns - x.frozen) * (850 + 85 * x.point)

/-- Whether the memory bulkhead of stack `k` is held in reset (17 R336, R340). -/
def State.stackDown (s : State) (k : Nat) : Bool := (mapGet Init.island s.islands (16 + k)).down

/-- Whether virtual channel `v` of a bulkhead is stopped. -/
def State.stopped (s : State) (b v : Nat) : Bool := mapGet false s.vcstop (4 * b + v)

/-- The link bulkhead through which a partition reaches a fabric page: by the fabric ID and the 64 GiB that hold the page, so that all of a page,
whatever its size, has one (11 R256 asks for one for each agent and page; which one is the model's choice: log 44). -/
def State.linkOf (s : State) (p : Nat) (fid : BitVec 12) (raddr : BitVec 52) : Nat :=
  let ks := s.octants p
  24 + ks.getD ((fid.toNat + raddr.toNat / 2 ^ 36) % ks.length) p

/-- Port `i` of the 32. -/
def State.port (s : State) (i : Nat) : Port := mapGet Init.port s.ports i

/-- The port that a link bulkhead's traffic takes: the lowest-numbered one that works (20 R392). -/
def State.portOf (s : State) (b : Nat) : Option Nat :=
  if (mapGet Init.island s.islands b).down then none
  else ((List.range 4).map (4 * (b - 24) + ·)).find? fun i => !(s.port i).down

/-- Whether a link bulkhead is not held in reset and has a working port. -/
def State.linkWorks (s : State) (b : Nat) : Bool := (s.portOf b).isSome

/-- Whether a link bulkhead holds traffic of a channel: it is stopped, or its port is training (01 R29, 20 R392). -/
def State.linkHolds (s : State) (b v : Nat) : Bool := s.stopped b v || match s.portOf b with
  | some i => (s.port i).training
  | none => false

/-- Whether poisoned data between partition `p` and a place meets a gate that stops it: one to or from another partition (17 R333). -/
def State.crosses (s : State) (p : Nat) (pa : Nat) : Bool := decide (s.partOf (pa / 2 ^ 36) ≠ p)

/-- The record of a poisoned flit stopped at the gate of a stack. -/
def State.gateStops (s : State) (pa : Nat) : State :=
  s.logError (16 + pa / 2 ^ 36) 194 { cls := 2, code := 0x0601, atype := 2, addr := pa }

/-! ## Columns served for an access (01 R27-R29, 13 R281; log 44) -/

/-- The 32-byte columns that `n` bytes at an address touch, by the address of their first byte. -/
def columnsOf (pa n : Nat) : List Nat := (upFrom (pa / 32) ((pa + n + 31) / 32 - pa / 32)).map (32 * ·)

/-- The bulkhead number under which the spine's own walks run: none caches for it. -/
def spineCb : Nat := 64

/-- The key of a core's walks, fetches and records. -/
def coreKey (c : BitVec 8) : Nat := 256 + c.toNat

/-- What an agent has been served. -/
def State.gotBy (s : State) (key : Nat) : List GotCol := if 256 ≤ key then (s.core (BitVec.ofNat 8 (key - 256))).got else mapGet [] s.got key

/-- Whether every column, or line, of `n` bytes at a place has been served to an agent. -/
def State.hasCols (s : State) (key : Nat) (a : PAddr) (n : Nat) (write code : Bool) : Bool :=
  s.peek || match a with
  | .stack pa => (columnsOf pa.toNat n).all fun i =>
      (s.gotBy key).any fun g => decide (g.place = .stack (BitVec.ofNat 39 i)) && decide (g.write = write) && decide (g.code = code)
  | .fabric fid ra => (upFrom (ra.toNat / 64) ((ra.toNat + n + 63) / 64 - ra.toNat / 64)).all fun i =>
      (s.gotBy key).any fun g => decide (g.place = .fabric fid (BitVec.ofNat 52 (64 * i))) && decide (g.write = write) && decide (g.code = code)

/-- Whether a request for a line among them ended in an abort. -/
def State.lostCols (s : State) (key : Nat) (a : PAddr) (n : Nat) : Bool := match a with
  | .stack _ => false
  | .fabric fid ra => (s.gotBy key).any fun g => g.lost && match g.place with
    | .fabric f r => decide (f = fid) && decide (ra.toNat / 64 ≤ r.toNat / 64) && decide (r.toNat < ra.toNat + n)
    | .stack _ => false

/-- What has been served to an agent is used up, but for code (log 44). -/
def State.spend (s : State) (key : Nat) : State :=
  if 256 ≤ key then s.updCore (BitVec.ofNat 8 (key - 256)) fun k => { k with got := k.got.filter (·.code) }
  else { s with got := mapSet [] s.got key [] }

/-! ## Translation (11 R251-R254) -/

/-- Level, then the lowest bit of the address bits it indexes. -/
def levelBit : Nat → Nat
  | 0 => 47
  | 1 => 36
  | 2 => 25
  | _ => 14

/-- The leaf or failure of a table entry already known VALID: what the walk makes of it, or the next table. -/
def entryStep (e : Nat) (lvl : Nat) : Walk ⊕ Nat :=
  let leaf := lvl = 3 ∨ e.testBit 1 = true
  let fab := e.testBit 5
  let low := levelBit lvl
  if lvl = 0 ∧ e.testBit 1 = true then .inl .malformed
  else if ¬ leaf then
    if fab ∨ fieldOf e 13 6 ≠ 0 ∨ fieldOf e 63 39 ≠ 0 then .inl .malformed else .inr (fieldOf e 38 14 * 2 ^ 14)
  else if fab then
    if fieldOf e 13 6 ≠ 0 ∨ (low ≠ 14 ∧ fieldOf e (low - 1) 14 ≠ 0) then .inl .malformed else .inl (.leaf (BitVec.ofNat 64 e) lvl)
  else if fieldOf e 13 6 ≠ 0 ∨ fieldOf e 63 39 ≠ 0 ∨ (low ≠ 14 ∧ fieldOf e (low - 1) 14 ≠ 0) then .inl .malformed
  else .inl (.leaf (BitVec.ofNat 64 e) lvl)

/-- A walk of partition `p` for an agent, from a table at level `lvl`, with `fuel` levels left: each entry is a read that the gates judge (01 R22), and
that waits for its column.  Poison from another partition passes only to the spine (17 R333). -/
def State.walkFrom (s : State) (key p va : Nat) : Nat → Nat → Nat → Walk
  | 0, _, _ => .none
  | fuel + 1, lvl, table =>
    let n := if lvl = 0 then 32 else 2048
    let a := table + 8 * (va / 2 ^ levelBit lvl % n)
    if !s.gatePasses p a true false || s.stackDown (a / 2 ^ 36) then .gated
    else if !s.hasCols key (.stack (BitVec.ofNat 39 a)) 8 false false then .held
    else if s.physPoisoned a 8 then (if s.crosses p a && decide (key ≠ spineCb) then .stopped a else .poisoned a)
    else
      let e := s.physRead a 8
      if e % 2 = 0 then .none
      else
        match entryStep e lvl with
        | .inl w => w
        | .inr t => s.walkFrom key p va fuel (lvl + 1) t

/-- The walk of a virtual address under an ASID in the partition `p` (11 R251-R253).  An address at or above 2^52 has no leaf (log 16). -/
def State.walk (s : State) (key p : Nat) (asid : BitVec 14) (va : Nat) : Walk :=
  if 2 ^ 52 ≤ va then .none
  else
    let a := p * 2 ^ 36 + 8 * asid.toNat
    if s.stackDown p then .gated
    else if !s.hasCols key (.stack (BitVec.ofNat 39 a)) 8 false false then .held
    else if s.physPoisoned a 8 then .poisoned a
    else
      let e := s.physRead a 8
      if e % 2 = 0 then .none
      else if fieldOf e 13 1 ≠ 0 ∨ fieldOf e 63 39 ≠ 0 then .malformed
      else s.walkFrom key p va 4 0 (fieldOf e 38 14 * 2 ^ 14)

/-- Log2 of the page that a leaf of level `lvl` maps. -/
def pageBits (lvl : Nat) : Nat := levelBit lvl

/-- The caches that an agent's walks meet, by their keys in `State.tlb`: for core c (256 + c) its own, then its bulkhead's. -/
def cachesOf (key : Nat) : List Nat := if key < 256 then [key] else [key, (key - 256) / 16]

/-- The walk's result, from the agent's caches when they hold it (11 R254). -/
def State.lookup (s : State) (key p : Nat) (asid : BitVec 14) (va : Nat) : Walk :=
  match ((cachesOf key).flatMap (mapGet [] s.tlb)).find? fun e => decide (e.asid = asid) && decide (va / 2 ^ e.size = e.base) with
  | some e => .leaf e.leaf (if e.size = 36 then 1 else if e.size = 25 then 2 else 3)
  | none => s.walk key p asid va

/-- What an access wants (11 R254). -/
inductive Want where
  | read | write | exec | readWrite
  /-- A bank launch: a stack page (11 R254). -/
  | bank
deriving DecidableEq, Repr

/-- The outcome of translating an access: a place, a fault 1-4 (0x1401-0x1404, 0x1801-0x1804), a poisoned table entry, one that a gate stopped,
whose walk is aborted, or a walk that waits for a column. -/
inductive Xlat where
  | ok (a : PAddr)
  | fault (n : Nat)
  | poison (pa : Nat)
  | stopped (pa : Nat)
  | held
deriving DecidableEq, Repr

/-- The place a leaf gives an address, with its permissions checked and the gates asked (11 R253, R254, 20 R394).  A bank launch asks its window for
RD alone, beside the leaf's rights (10 R246, R247), whatever its program writes (DESIGN CHOICE, log 48). -/
def State.place (s : State) (p : Nat) (want : Want) (va : Nat) : Walk → Xlat
  | .none => .fault 1
  | .malformed => .fault 3
  | .poisoned pa => .poison pa
  | .gated => .fault 4
  | .stopped pa => .stopped pa
  | .held => .held
  | .leaf e lvl =>
    let e := e.toNat
    let rd := e.testBit 2
    let wr := e.testBit 3
    let permitted := match want with
      | .read => rd
      | .write => wr
      | .exec => e.testBit 4
      | .readWrite => rd && wr
      | .bank => true
    let off := va % 2 ^ pageBits lvl
    if !permitted then .fault 2
    else if e.testBit 5 then
      .ok (.fabric (BitVec.ofNat 12 (fieldOf e 63 52)) (BitVec.ofNat 52 (fieldOf e 51 14 * 2 ^ 14 + off)))
    else
      let pa := fieldOf e 38 14 * 2 ^ 14 + off
      let (r, w) := match want with
        | .read => (true, false)
        | .exec => (true, false)
        | .write => (false, true)
        | .readWrite => (true, true)
        | .bank => (true, false)
      if s.gatePasses p pa r w then .ok (.stack (BitVec.ofNat 39 pa)) else .fault 4

/-- Translation of an access by an agent of partition `p`, whose caches `key` names. -/
def State.xlate (s : State) (key p : Nat) (asid : BitVec 14) (want : Want) (va : Nat) : Xlat :=
  s.place p want va (s.lookup key p asid va)

/-- Translation for a core. -/
def State.xlateCore (s : State) (c : BitVec 8) (want : Want) (va : Nat) : Xlat :=
  let asid := match (s.core c).task with
    | some b => b.asid
    | none => 0
  s.xlate (coreKey c) (s.partOfCore c) asid want va

/-- Whether a request writes. -/
def MemReq.writes (r : MemReq) : Bool := match r.kind with
  | .load _ => false
  | _ => true

/-- The wave of a node. -/
def State.wave (s : State) (p : Nat) (node : BitVec 64) : Option Wave :=
  s.cp.waves.find? fun w => decide (w.req.part = p) && decide (w.req.node = node)

/-! ## Writes to a directory (11 R255) -/

/-- Whether a place lies in the directory of a partition's first stack. -/
def State.inDirectory (s : State) (a : PAddr) : Bool := match a with
  | .stack pa => decide (s.partOf (pa.toNat / 2 ^ 36) = pa.toNat / 2 ^ 36 ∧ pa.toNat % 2 ^ 36 < 2 ^ 17)
  | .fabric _ _ => false

/-- Whether a request that its port still holds has performed: a load that has been read. -/
def MemReq.performed (r : MemReq) : Bool := !r.writes && r.sent && decide (r.left = 0)

/-- Whether a request has still to perform, writes to a directory left aside. -/
def State.outstanding (s : State) (r : MemReq) : Bool := if r.writes then !s.inDirectory r.piece.target else !r.performed

/-- Whether an operation holds accesses translated and not performed: a gather's batch, or a bank operation's launch. -/
def EngineOp.translated (o : EngineOp) : Bool := !o.walked.isEmpty || (decide (o.name = .bankld ∨ o.name = .bankgo) && !o.done)

/-- Whether accesses already translated under some address spaces are still to perform in a partition: requests, fills and write-backs, gathers,
launches and columns under way; but for the writer's own later ones, which `mine` names by core and number. -/
def State.asidBusy (s : State) (p lo hi : Nat) (mine : BitVec 8 → Nat → Bool) : Bool :=
  s.cores.any fun x =>
    let b := BitVec.ofNat 8 x.1
    let later (i : Nat) : Bool := mine b i
    decide (s.partOfCore b = p) && (match x.2.task with
      | some t => decide (lo ≤ t.asid.toNat) && decide (t.asid.toNat < hi)
      | none => false)
      && ((x.2.mq.any fun r => s.outstanding r && !later r.po)
        || (x.2.ops.any fun o => o.translated && !later o.id)
        || (x.2.sb.any fun e => e.slot.isSome && !later e.op)
        || s.asks.any fun a => match a.who with
          | .work b' i _ => decide (b' = b) && !later i && (!a.todo.isEmpty || decide (a.out ≠ 0) || !a.far.isEmpty || !a.next.isEmpty)
              && (decide (i = 0) || (x.2.ops.any fun o => decide (o.id = i)) || x.2.sb.any fun e => decide (e.op = i))
          | _ => false)

/-- Whether a bank operation that an unbound task issued under some address spaces has still to end. -/
def State.awayBusy (s : State) (p lo hi : Nat) : Bool :=
  s.tasks.any fun t => decide (t.part = p) && (t.progs.any fun x => x.2.any EngineOp.translated) && match s.wave p t.node with
    | some w => decide (lo ≤ w.asid.toNat) && decide (w.asid.toNat < hi)
    | none => false

/-- Whether a write of `n` bytes at a place waits because it would change directory entries in use. -/
def State.dirBusy (s : State) (mine : BitVec 8 → Nat → Bool) (a : PAddr) (n : Nat) : Bool := match a with
  | .stack pa =>
    let off := pa.toNat % 2 ^ 36
    s.inDirectory a && (s.asidBusy (pa.toNat / 2 ^ 36) (off / 8) ((off + n + 7) / 8) mine
      || s.awayBusy (pa.toNat / 2 ^ 36) (off / 8) ((off + n + 7) / 8))
  | .fabric _ _ => false

/-- The same for work of core `c` numbered `id`, whose own later accesses it does not wait for. -/
def State.dirWaits (s : State) (c : BitVec 8) (id : Nat) (a : PAddr) (n : Nat) : Bool := s.dirBusy (fun b i => decide (b = c) && decide (id ≤ i)) a n

/-! ## Virtual access by the spine's agents, the engines and the save (02 R51, 15 R304, R413) -/

/-- `va` to `va + n` cut at multiples of `g`: start and length of each piece. -/
def pieces (g : Nat) : Nat → Nat → Nat → List (Nat × Nat)
  | 0, _, _ => []
  | fuel + 1, a, n => if n = 0 then [] else
    let l := min n (g - a % g)
    (a, l) :: pieces g fuel (a + l) (n - l)

/-- What a read finds: data, a failure 1-4 as `Xlat.fault`, data that is poisoned, a poisoned table entry, or poison that a gate stops. -/
inductive Got where
  | val (x : Nat)
  | fail (n : Nat)
  | psn (x pa : Nat)
  | table (pa : Nat)
  /-- Poison from another partition, which its gate stops: the access is aborted (17 R333). -/
  | stopped (pa : Nat)
  /-- It waits for a column, or a line of a fabric page. -/
  | held
deriving DecidableEq, Repr

/-- Key of a byte of a fabric device in the step's input. -/
def extKey (fid : BitVec 12) (ra : BitVec 52) : Nat := fid.toNat * 2 ^ 52 + ra.toNat

/-- Whether an access to a fabric page is aborted: the device has answered so, or the request to that place has ended so (20 R393). -/
def State.fabricAborts (s : State) (fid : BitVec 12) (ra : BitVec 52) : Bool :=
  s.inp.extAbort || s.inp.aborts.any fun x => match x.1 with
    | .fabric f r => decide (f = fid) && decide (r.toNat ≤ ra.toNat) && decide (ra.toNat < r.toNat + x.2)
    | .stack _ => false

/-- Whether a stack holds writes to an address, whose page is being switched (20 R383 step 3). -/
def Stack.holdsPage (t : Stack) (pa : Nat) : Bool := match t.move with
  | some m => m.todo.isEmpty && decide (pa % 2 ^ 36 / 2 ^ 14 = m.old)
  | none => false

/-- Whether a link holds what partition `p` sends to a place, which leaves on VC 0 (11 R256). -/
def State.placeHeld (s : State) (p : Nat) (a : PAddr) : Bool := match a with
  | .stack _ => false
  | .fabric fid ra => s.linkHolds (s.linkOf p fid ra) 0

/-- The event at hand does not act: an access that it makes must wait (log 44). -/
def State.waits (s : State) : State := { s with blocked := true }

/-- A write waits while its page is being switched (20 R383), or while translations that it changes are in use (11 R255). -/
def State.awaits (s : State) (mine : BitVec 8 → Nat → Bool) (a : PAddr) (n : Nat) : State :=
  if s.dirBusy mine a n || (match a with
    | .stack pa => (s.stack (pa.toNat / 2 ^ 36)).holdsPage pa.toNat
    | .fabric _ _ => false) then s.waits else s

/-- The same for a write by no core. -/
def State.awaitsAll (s : State) (a : PAddr) (n : Nat) : State := s.awaits (fun _ _ => false) a n

/-- A write that the step at hand makes for an agent waits for its columns too. -/
def State.awaitsCols (s : State) (key : Nat) (a : PAddr) (n : Nat) : State :=
  let down := match a with
    | .stack pa => s.stackDown (pa.toNat / 2 ^ 36)
    | .fabric _ _ => false
  if !down && !s.hasCols key a n true false then s.waits else s.awaitsAll a n

/-- A read of `n` bytes at a place by an agent of partition `p`: a stack answers from its memory, unless it is held in reset or the answer is poison
that a gate stops, and a fabric device as the step's input says (11 R256, 17 R333, R336, log 17). -/
def State.readAt (s : State) (p : Nat) (a : PAddr) (n : Nat) : Got :=
  match a with
  | .stack pa =>
    if s.stackDown (pa.toNat / 2 ^ 36) then .fail 4
    else if s.physPoisoned pa.toNat n then
      (if s.crosses p pa.toNat then .stopped pa.toNat else .psn (s.physRead pa.toNat n) pa.toNat)
    else .val (s.physRead pa.toNat n)
  | .fabric fid ra =>
    if s.fabricAborts fid ra then .fail 4
    else if s.inp.extPsn then .psn (readBytes s.inp.ext (extKey fid ra) n) 0
    else .val (readBytes s.inp.ext (extKey fid ra) n)

/-- A write of `n` bytes at a place, and whether it was made: one to a fabric device leaves the package, unless it is aborted. -/
def State.writeAt (s : State) (a : PAddr) (n x : Nat) (psn : Bool) : State × Bool :=
  match a with
  | .stack pa => if s.stackDown (pa.toNat / 2 ^ 36) then (s, false) else (s.physWrite pa.toNat n x psn, true)
  | .fabric fid ra => (s, !s.fabricAborts fid ra)

/-- A 64-bit beacon add at a place (10 R216): poisoned memory is combined, and stays poisoned. -/
def State.addAt (s : State) (a : PAddr) (x : Nat) : State × Bool :=
  match a with
  | .stack pa => if s.stackDown (pa.toNat / 2 ^ 36) then (s, false)
    else (s.physWrite pa.toNat 8 ((s.physRead pa.toNat 8 + x) % 2 ^ 64) (s.physPoisoned pa.toNat 8), true)
  | .fabric fid ra => (s, !s.fabricAborts fid ra)

/-- A read made by the step at hand, whose columns have been served. -/
def State.direct (s : State) (key p : Nat) (a : PAddr) (n : Nat) (code : Bool := false) : Got :=
  match a with
  | .stack pa => if s.stackDown (pa.toNat / 2 ^ 36) then .fail 4 else if !s.hasCols key a n false code then .held else s.readAt p a n
  | .fabric _ _ => if !s.hasCols key a n false code then .held else if s.lostCols key a n then .fail 4 else s.readAt p a n

/-- What a failed walk makes of a read. -/
def Xlat.got : Xlat → Got
  | .ok _ => .fail 4
  | .fault n => .fail n
  | .poison pa => .table pa
  | .stopped pa => .stopped pa
  | .held => .held

/-- A virtual read of `n` bytes within one page. -/
def State.vread (s : State) (cb p : Nat) (asid : BitVec 14) (va n : Nat) : Got :=
  match s.xlate cb p asid .read va with
  | .ok a => s.direct cb p a n
  | x => x.got

/-- An aligned read by the CP or dispatch, to which every gate passes poison (17 R333). -/
def State.cpRead (s : State) (p : Nat) (asid : BitVec 14) (va n : Nat) : Got := match s.vread spineCb p asid va n with
  | .stopped pa => .psn (s.physRead pa n) pa
  | g => g

/-- The next free value's number is taken. -/
def State.takeFree (s : State) : State := { s with nfree := s.nfree + 1 }

/-- A walk of the spine's met a poisoned entry (20 R385). -/
def State.spineWalkPoison (s : State) (pa : Nat) : State := s.logError spineBank 0 { cls := 3, code := 0x0502, atype := 2, addr := pa }

/-- Poison consumed by record unit `n` of bank `b` (17 R332). -/
def State.unitConsumes (s : State) (b n pa : Nat) : State :=
  (s.logError b n { cls := 3, code := (Config.consumeCode s.nfree).toNat, atype := 2, addr := pa }).takeFree

/-- Poison consumed by a unit of the spine. -/
def State.spineConsumes (s : State) (pa : Nat) : State := s.unitConsumes spineBank 0 pa

/-- A write that the step at hand makes at a place for an agent, and whether it was made. -/
def State.put (s : State) (key : Nat) (a : PAddr) (n x : Nat) (psn : Bool) : State × Bool :=
  if s.lostCols key a n then (s, false) else (s.awaitsCols key a n).writeAt a n x psn

/-- An aligned write by the CP or dispatch, and whether it was made. -/
def State.cpWrite (s : State) (p : Nat) (asid : BitVec 14) (va n x : Nat) : State × Bool :=
  match s.xlate spineCb p asid .write va with
  | .ok a => s.put spineCb a n x false
  | .poison pa => (s.spineWalkPoison pa, false)
  | .held => (s.waits, true)
  | .stopped _ => (s, false)
  | .fault _ => (s, false)

/-- A write that is skipped where it fails. -/
def State.cpPut (s : State) (p : Nat) (asid : BitVec 14) (va n x : Nat) : State := (s.cpWrite p asid va n x).1

/-- A beacon add of the step at hand at a place, by unit `u` of bank `b` with an agent's key; and whether it was made.  Poison that it combines is
consumed. -/
def State.unitAddAt (s : State) (key b u : Nat) (a : PAddr) (x : Nat) : State × Bool :=
  if s.lostCols key a 8 then (s, false)
  else
    let r := (s.awaitsCols key a 8).addAt a x
    if !r.2 then r
    else (match a with
      | .stack pa => if s.physPoisoned pa.toNat 8 then r.1.unitConsumes b u pa.toNat else r.1
      | .fabric _ _ => r.1, true)

/-- The CP's 64-bit add at system scope: an aligned beacon on a page with WR; and whether it was made. -/
def State.cpAdd (s : State) (p : Nat) (asid : BitVec 14) (va : Nat) (x : Nat) : State × Bool :=
  if va % 8 ≠ 0 then (s, false)
  else
    match s.xlate spineCb p asid .write va with
    | .ok a => s.unitAddAt spineCb spineBank 0 a x
    | .poison pa => (s.spineWalkPoison pa, false)
    | .held => (s.waits, true)
    | .stopped _ => (s, false)
    | .fault _ => (s, false)

/-! ## Fences (10 R234, 13 R294) -/

/-- The rows of the ended programs of a task, or of one member of it, are fenced as BFENCE does: no staged copy of them is left (02 R49, 07 R149). -/
def PChan.fenceRan (p : PChan) (mine : BankLaunch → Bool) : PChan :=
  let ls := p.ran.filter mine
  { p with
    ran := p.ran.filter fun l => !mine l
    staged := p.staged.filter fun x => !ls.any fun l => let r := x.1 / 32 % 16384; decide (l.row0 ≤ r ∧ r < l.row0 + l.nrow) }

/-- The same at every channel. -/
def State.fenceRan (s : State) (mine : BankLaunch → Bool) : State :=
  { s with stk := s.stk.map fun k => (k.1, { k.2 with chans := k.2.chans.map fun p => (p.1, p.2.fenceRan mine) }) }

/-- The value of a read, `d` where it finds none. -/
def Got.getD (g : Got) (d : Nat) : Nat :=
  match g with
  | .val x => x
  | .psn x _ => x
  | .fail _ => d
  | .table _ => d
  | .stopped _ => d
  | .held => d

end Sys2Proof.Machine
end

