-- ==== Sys2Proof/Machine/Graph.lean ====
section
/-! DEFINITION. The CP: regions, readiness requests, the actions and completion of graph nodes, waves and submissions. -/

namespace Sys2Proof.Machine

/-- The CP's read of `n` bytes in aligned 8-byte pieces: consumed poison is recorded and used as it stands (log 18); `none` where a piece
cannot be read. -/
def State.cpBlock (s : State) (p : Nat) (asid : BitVec 14) (va n : Nat) : State × Option Nat :=
  (pieces 8 (n / 8 + 2) va n).foldl
    (fun acc x =>
      match acc.2 with
      | none => acc
      | some v =>
        match acc.1.cpRead p asid x.1 x.2 with
        | .val y => (acc.1, some (v + y <<< (8 * (x.1 - va))))
        | .psn y pa => (acc.1.spineConsumes pa, some (v + y <<< (8 * (x.1 - va))))
        | .fail _ => (acc.1, none)
        | .stopped _ => (acc.1, none)
        | .held => (acc.1.waits, none)
        | .table pa => (acc.1.spineWalkPoison pa, none))
    (s, some 0)

/-- Doubleword `i` of a block. -/
def wordOf (x i : Nat) : Nat := (x >>> (64 * i)) % 2 ^ 64

/-! ## Regions (02 R35-R39) -/

/-- The open region whose RCB lies at `va` in address space `rasid` of partition `part`. -/
def State.region (s : State) (part : Nat) (rasid : BitVec 14) (va : BitVec 64) : Option Region :=
  s.cp.regions.find? fun r => decide (r.part = part) && decide (r.rasid = rasid) && decide (r.va = va)

/-- Words 8 and 9 of the RCB, as the CP keeps them (02 R36); and whether they were written. -/
def State.putRegion (s : State) (r : Region) (isOpen : Bool) : State × Bool :=
  let w8 := r.bound % 2 ^ 9 + (r.bankact % 2 ^ 11) <<< 16 + (r.live % 2 ^ 32) <<< 32
  let w9 := isOpen.toNat + (r.children % 2 ^ 16) <<< 1 + (r.epochw % 2 ^ 12) <<< 32
  let a := s.cpWrite r.part r.rasid (r.va.toNat + 64) 8 w8
  let b := a.1.cpWrite r.part r.rasid (r.va.toNat + 72) 8 w9
  (b.1, a.2 && b.2)

/-- The same where a failure has nobody to report to. -/
def State.storeRegion (s : State) (r : Region) (isOpen : Bool) : State := (s.putRegion r isOpen).1

/-- A change of an open region, stored in its RCB; and whether it was stored. -/
def State.changeRegion (s : State) (part : Nat) (rasid : BitVec 14) (va : BitVec 64) (f : Region → Region) : State × Bool :=
  match s.region part rasid va with
  | none => (s, true)
  | some r =>
    ({ s with cp := { s.cp with regions := s.cp.regions.map fun x => if x = r then f r else x } } : State).putRegion (f r) true

/-- The same where a failure has nobody to report to. -/
def State.updRegion (s : State) (part : Nat) (rasid : BitVec 14) (va : BitVec 64) (f : Region → Region) : State := (s.changeRegion part rasid va f).1

/-- A change of a region and of every open ancestor, at most 16 levels. -/
def State.updUp (s : State) (part : Nat) (rasid : BitVec 14) (f : Region → Region) : Nat → BitVec 64 → State
  | 0, _ => s
  | n + 1, va =>
    match s.region part rasid va with
    | none => s
    | some r =>
      let s := s.updRegion part rasid va f
      if r.parent = 0 then s else s.updUp part r.pasid f n r.parent

/-- The region and its open ancestors. -/
def State.ancestry (s : State) (part : Nat) (rasid : BitVec 14) : Nat → BitVec 64 → List Region
  | 0, _ => []
  | n + 1, va =>
    match s.region part rasid va with
    | none => []
    | some r => r :: if r.parent = 0 then [] else s.ancestry part r.pasid n r.parent

/-- Whether a region is, or descends from, the one at `top`. -/
def State.under (s : State) (r : Region) (top : BitVec 64) : Bool := (s.ancestry r.part r.rasid 16 r.va).any fun x => decide (x.va = top)

/-- Whether a ready or active node names the region at `va`. -/
def State.named (s : State) (part : Nat) (rasid : BitVec 14) (va : BitVec 64) : Bool :=
  (s.cp.active.any fun a => decide (a.req.part = part) && decide (a.rasid = rasid) && decide (a.rcb = va))
    || s.cp.due.any fun d => decide (d.req.part = part) && decide (d.rasid = rasid) && decide (d.rcb = va)

/-- A region closes when it has no live task, no ready or active node and no open child; then its parent may (02 R38). -/
def State.tryClose (s : State) (part : Nat) (rasid : BitVec 14) : Nat → BitVec 64 → State
  | 0, _ => s
  | n + 1, va =>
    match s.region part rasid va with
    | none => s
    | some r =>
      if r.live ≠ 0 ∨ r.children ≠ 0 ∨ s.named part rasid va = true then s
      else
        let s := { s with cp := { s.cp with regions := s.cp.regions.filter fun x => decide (x ≠ r) } }.storeRegion r false
        if r.parent = 0 then s
        else (s.updRegion part r.pasid r.parent fun p => { p with children := p.children - 1 }).tryClose part r.pasid n r.parent

/-- BMASK bits of a partition's bulkheads (02 R37). -/
def State.partMask (s : State) (p : Nat) : Nat :=
  (s.octants p).foldl (fun m k => m + 3 <<< (2 * k) + 1 <<< (16 + k) + 1 <<< (24 + k)) 0

/-- Whether a reserved bit of RCB words 0-11 is nonzero (02 R36). -/
def rcbReserved (x : Nat) : Bool :=
  let w := wordOf x
  decide (fieldOf (w 0) 7 1 ≠ 0 ∨ fieldOf (w 0) 15 12 ≠ 0 ∨ fieldOf (w 0) 31 31 ≠ 0 ∨ fieldOf (w 0) 63 46 ≠ 0 ∨ fieldOf (w 1) 7 0 ≠ 0
    ∨ fieldOf (w 2) 47 41 ≠ 0 ∨ fieldOf (w 2) 63 59 ≠ 0 ∨ fieldOf (w 3) 31 26 ≠ 0 ∨ fieldOf (w 3) 63 44 ≠ 0 ∨ fieldOf (w 4) 9 9 ≠ 0
    ∨ fieldOf (w 4) 15 15 ≠ 0 ∨ fieldOf (w 4) 63 48 ≠ 0 ∨ fieldOf (w 5) 63 48 ≠ 0 ∨ fieldOf (w 6) 11 0 ≠ 0 ∨ fieldOf (w 7) 63 26 ≠ 0
    ∨ fieldOf (w 8) 15 9 ≠ 0 ∨ fieldOf (w 8) 31 27 ≠ 0 ∨ fieldOf (w 9) 31 17 ≠ 0 ∨ fieldOf (w 9) 63 44 ≠ 0 ∨ w 10 ≠ 0 ∨ w 11 ≠ 0)

/-- The region an RCB describes under its parent's effective values (02 R36, R37). -/
def State.resolve (s : State) (part : Nat) (rasid : BitVec 14) (va : BitVec 64) (place : PAddr) (x : Nat) (par : Option Region) : Region :=
  let w := wordOf x
  let ovr := fieldOf (w 0) 31 16
  let own (i : Nat) : Bool := par.isNone || ovr.testBit i
  let pick {α : Type} (i : Nat) (a : α) (f : Region → α) : α := if own i then a else match par with
    | some p => f p
    | none => a
  let cap (v : Nat) : Nat := if v = 0 then 65536 else v
  { part := part, rasid := rasid, va := va, place := place
    asid := pick 0 (BitVec.ofNat 14 (fieldOf (w 0) 45 32)) (·.asid)
    parent := (par.map (·.va)).getD 0
    pasid := (par.map (·.rasid)).getD rasid
    depth := fieldOf (w 0) 11 8
    bmask := pick 1 (BitVec.ofNat 32 (fieldOf (w 2) 31 0)) (·.bmask) &&& BitVec.ofNat 32 (s.partMask part)
    cquota := pick 2 (fieldOf (w 2) 40 32) (·.cquota)
    beq := pick 5 (fieldOf (w 2) 58 48) (·.beq)
    mempg := pick 3 (fieldOf (w 3) 25 0) (·.mempg)
    pwrw := pick 4 (fieldOf (w 3) 43 32) (·.pwrw)
    prio := pick 6 (BitVec.ofNat 8 (fieldOf (w 4) 7 0)) (·.prio)
    prot := pick 7 ((w 4).testBit 8) (·.prot)
    kill := pick 8 (BitVec.ofNat 2 (fieldOf (w 4) 11 10)) (·.kill)
    pcls := pick 10 (BitVec.ofNat 2 (fieldOf (w 4) 13 12)) (·.pcls)
    save := pick 11 ((w 4).testBit 14) (·.save)
    agecap := pick 12 (cap (fieldOf (w 4) 31 16)) (·.agecap)
    slice := pick 13 (cap (fieldOf (w 4) 47 32)) (·.slice)
    vx := pick 9 (fieldOf (w 5) 15 0) (·.vx)
    vy := pick 9 (fieldOf (w 5) 31 16) (·.vy)
    vz := pick 9 (fieldOf (w 5) 47 32) (·.vz)
    savebase := pick 14 (BitVec.ofNat 64 (w 6)) (·.savebase)
    bound := 0, bankact := 0, live := 0, children := 0, epochw := 0 }

/-- The open region whose RCB lies at a place: one RCB has one region, whatever address and address space name it (02 R38). -/
def State.regionAt (s : State) (part : Nat) (a : PAddr) : Option Region :=
  s.cp.regions.find? fun r => decide (r.part = part) && decide (r.place = a)

/-- What the hardware fields of an RCB that is open say (02 R36). -/
def Region.resume (r : Region) (x : Nat) : Region :=
  let w := wordOf x
  { r with bound := fieldOf (w 8) 8 0, bankact := fieldOf (w 8) 26 16, live := fieldOf (w 8) 63 32, children := fieldOf (w 9) 16 1, epochw := fieldOf (w 9) 43 32 }

/-- A region whose RCB has been read joins the open ones: its hardware fields are reset and its parent counts it, unless OPEN is set already; `false`
where they cannot be written. -/
def State.joinRegion (s : State) (r : Region) (x : Nat) (par : Option Region) : State × Region × Bool :=
  if (wordOf x 9).testBit 0 then
    let r := r.resume x
    ({ s with cp := { s.cp with regions := s.cp.regions ++ [r] } }, r, true)
  else
    let a := ({ s with cp := { s.cp with regions := s.cp.regions ++ [r] } } : State).putRegion r true
    let b := a.1.cpWrite r.part r.rasid (r.va.toNat + 80) 16 0
    let s := match par with
      | some p => b.1.updRegion r.part p.rasid p.va fun p => { p with children := p.children + 1 }
      | none => b.1
    (s, r, a.2 && b.2)

/-- A region opens, its ancestors first (02 R38); `none` is the refusal 0x1605 of 18 R354.  `n` levels are left of the 16. -/
def State.openRegion (s : State) (part : Nat) (rasid : BitVec 14) : Nat → BitVec 64 → State × Option Region
  | 0, _ => (s, none)
  | n + 1, va =>
    match s.region part rasid va with
    | some r => (s, some r)
    | none =>
      if va.toNat % 256 ≠ 0 then (s, none)
      else
        let (s, x) := s.cpBlock part rasid va.toNat 96
        match x, s.xlate spineCb part rasid .write va.toNat with
        | some x, .ok a =>
          match s.regionAt part a with
          | some r => (s, some r)
          | none =>
            let w := wordOf x
            let parentVa : BitVec 64 := BitVec.ofNat 64 (w 1)
            let bad := w 0 % 2 = 0 ∨ fieldOf (w 4) 11 10 = 3 ∨ fieldOf (w 4) 13 12 = 3 ∨ rcbReserved x = true
            if bad then (s, none)
            else
              let (s, par) := if parentVa = 0 then (s, none) else s.openRegion part rasid n parentVa
              let depthOk := match par with
                | some p => decide (fieldOf (w 0) 11 8 = p.depth + 1)
                | none => decide (parentVa = 0) && decide (fieldOf (w 0) 11 8 = 0)
              let shut (s : State) : State := match par with
                | some p => s.tryClose part p.rasid 16 p.va
                | none => s
              if !depthOk then (shut s, none)
              else
                let (s, r, ok) := s.joinRegion (s.resolve part rasid va a x par) x par
                if ok then (s, some r) else (s.tryClose part r.rasid 16 r.va, none)
        | _, .held => (s.waits, none)
        | _, _ => (s, none)

/-! ## Requests (02 R53, 15 R305) -/

/-- The running submission a request comes from. -/
def State.sub (s : State) (r : Request) : Option Submission :=
  (s.cp.subs.find? fun x => decide (x.1 = r.stream) && decide (x.2.recd = r.recd)).map (·.2)

def State.updSub (s : State) (stream : BitVec 6) (recd : Nat) (f : Submission → Submission) : State :=
  { s with cp := { s.cp with subs := s.cp.subs.map fun x => if x.1 = stream ∧ x.2.recd = recd then (x.1, f x.2) else x } }

/-- A readiness request, from a walk or from a LAUNCH of core `by_`, reaches the CP in event order. -/
def State.request (s : State) (r : Request) (by_ : Option (BitVec 8) := none) : State :=
  let s := s.post (.readiness r.node by_)
  { s with cp := { s.cp with reqs := s.cp.reqs ++ [r] } }

/-- A node's successor is requested from a walk, when it is nonzero. -/
def State.requestSucc (s : State) (r : Request) (va : Nat) : State :=
  if va = 0 then s else s.request { r with node := BitVec.ofNat 64 va, launch := false }

/-- Word 0 of a node with STATE and PEND rewritten; and whether it could be. -/
def State.putNodeState (s : State) (r : Request) (asid : BitVec 14) (st pend : Nat) : State × Bool :=
  let va := r.node.toNat
  let (s, x) := s.cpBlock r.part asid va 8
  match x with
  | none => (s, false)
  | some w0 => s.cpWrite r.part asid va 8 (withField (withField w0 33 32 st) 63 56 pend)

/-- Whether two requests name one node: the place where it lies, where both have been walked, else its address in one address space. -/
def Request.sameNode (r x : Request) : Bool := decide (x.part = r.part) && match x.place, r.place with
  | some a, some b => decide (a = b)
  | _, _ => decide (x.asid = r.asid ∧ x.node = r.node)

/-- Readiness held for a request's node. -/
def State.heldFor (s : State) (r : Request) : List Request := s.cp.pend.filter r.sameNode

/-- The active node of a request's node. -/
def State.activeNode (s : State) (r : Request) : Option Active := s.cp.active.find? fun a => r.sameNode a.req

/-- A node is refused (18 R354): no successor, the submission's requests are counted no more and it ends with STATUS 3. -/
def State.refuseNode (s : State) (r : Request) (code : Nat) : State :=
  (s.post (.nodeRefused r.node (BitVec.ofNat 16 code))).updSub r.stream r.recd fun x => { x with stopped := true, failed := true }

/-- The CP writes the STATE and PEND of a node that has completed; where it cannot, the node is refused, unless it or its submission has been so
already. -/
def State.closeNode (s : State) (r : Request) (asid : BitVec 14) (st pend : Nat) : State :=
  let x := s.putNodeState r asid st pend
  if x.2 || (match s.sub r with
    | some sub => sub.stopped
    | none => true) then x.1 else x.1.refuseNode r 0x1604

/-- A node that has completed is idle, or ready again by the next readiness it holds (02 R53). -/
def State.settleNode (s : State) (r : Request) (asid : BitVec 14) (rcb : BitVec 64) : State :=
  match s.heldFor r with
  | [] => s.closeNode r r.asid 0 0
  | h :: rest =>
    let s := s.closeNode r r.asid 1 (min 255 rest.length)
    { s with cp := { s.cp with pend := s.cp.pend.erase h, due := s.cp.due ++ [{ req := h, rcb := rcb, rasid := asid }] } }

/-- A node completes (02 R53): its STATE is written, readiness held in PEND falls due, its successors are requested in order, and its
region may close; a wave of it that waited for room is entered no more (15 R306). -/
def State.completeNode (s : State) (a : Active) (succ : List Nat) : State :=
  let r := a.req
  let s := { s with cp := { s.cp with active := s.cp.active.filter fun x => decide (x ≠ a), full := s.cp.full.filter fun x => !r.sameNode x } }
  let s := succ.foldl (fun s va => s.requestSucc r va) s
  (s.settleNode r a.rasid a.rcb).tryClose r.part a.rasid 16 a.rcb

/-- A node that was counted is refused: it is active no longer. -/
def State.refuseActive (s : State) (a : Active) (code : Nat) : State := (s.refuseNode a.req code).completeNode a []

/-! ## Node actions (02 R52) -/

/-- The words of a node. -/
def nodeWord (w : BitVec 512) (i : Nat) : Nat := wordOf w.toNat i

/-- Whether a node breaks a rule of 0x1604 (02 R51, R52, 18 R354). -/
def nodeBad (x : Nat) : Bool :=
  let w := wordOf x
  let ty := fieldOf (w 0) 3 0
  decide (ty = 0 ∨ 9 ≤ ty ∨ fieldOf (w 0) 33 32 = 3 ∨ fieldOf (w 0) 7 5 ≠ 0 ∨ fieldOf (w 0) 31 24 ≠ 0 ∨ fieldOf (w 0) 55 34 ≠ 0
    ∨ (ty ≠ 7 ∧ fieldOf (w 0) 15 8 ≠ 0)
    ∨ (ty = 1 ∧ (fieldOf (w 5) 63 35 ≠ 0 ∨ fieldOf (w 6) 63 48 ≠ 0))
    ∨ (ty = 2 ∧ fieldOf (w 6) 63 48 ≠ 0)
    ∨ (ty = 3 ∧ (6 ≤ fieldOf (w 6) 2 0 ∨ fieldOf (w 6) 63 3 ≠ 0 ∨ w 7 ≠ 0))
    ∨ ((ty = 4 ∨ ty = 5 ∨ ty = 6 ∨ ty = 8) ∧ (w 6 ≠ 0 ∨ w 7 ≠ 0))
    ∨ (ty = 7 ∧ (w 4 ≠ 0 ∨ w 5 ≠ 0 ∨ w 6 ≠ 0 ∨ w 7 ≠ 0)))

/-- Plain scratchpad banks of a partition word, as an integer (03 R62). -/
def plainBanks (pw : Nat) : Int := 48 - (fieldOf pw 5 0 : Int) - fieldOf pw 11 6 - fieldOf pw 17 12 - fieldOf pw 23 18

/-- Whether a partition word keeps the limits of 03 R62 and, for a protected task, of 19 R363. -/
def partwOk (pw : Nat) (prot : Bool) : Bool :=
  let nreg := fieldOf pw 5 0
  let nc := fieldOf pw 23 18
  decide (4 ≤ nreg ∧ nreg ≤ 8 ∧ fieldOf pw 11 6 ≤ 36 ∧ fieldOf pw 17 12 ≤ 36 ∧ (nc = 0 ∨ (3 ≤ nc ∧ nc ≤ 21)) ∧ fieldOf pw 31 24 = 0
    ∧ 8 ≤ plainBanks pw) && (!prot || decide (5 ≤ nreg))

/-- Whether a tree record may be used: no reserved bit, its ROOT a member (10 R243, 18 R354). -/
def treeRecordOk (x : Nat) : Bool :=
  let w := wordOf x
  decide (fieldOf (w 0) 11 11 = 0 ∧ fieldOf (w 0) 63 32 = 0 ∧ w 3 = 0) && (fieldOf (w 0) 31 16).testBit (fieldOf (w 0) 15 12)

/-- An image header as the CP finds it (06 R132). -/
structure ImageInfo where
  dataVa : Nat
  dataLen : Nat
  treeVa : Nat
  trees : Nat
deriving DecidableEq, Repr

/-- Address of a kernel image's header: the 64 bytes before its entry (06 R132). -/
def headerOf (entry : Nat) : Nat := (entry + 2 ^ 64 - 64) % 2 ^ 64

/-- What a header says, or none where a reserved field is not 0, the data image does not fit, or the tree records are misplaced. -/
def imageInfo (x pw : Nat) : Option ImageInfo :=
  let w := wordOf x
  let info : ImageInfo := { dataVa := w 1, dataLen := fieldOf (w 2) 23 0, treeVa := w 4, trees := fieldOf (w 5) 15 0 }
  let reserved := fieldOf (w 0) 63 32 ≠ 0 ∨ fieldOf (w 2) 63 24 ≠ 0 ∨ fieldOf (w 3) 63 32 ≠ 0 ∨ fieldOf (w 5) 63 16 ≠ 0 ∨ w 6 ≠ 0 ∨ w 7 ≠ 0
  let room := (info.dataLen : Int) ≤ plainBanks pw * 98304
  if reserved ∨ ¬ room ∨ info.treeVa % 64 ≠ 0 ∨ (info.treeVa = 0 ∧ info.trees ≠ 0) then none else some info

/-- Whether every tree record that an image names reads, and is a legal one. -/
def State.treesOk (s : State) (part : Nat) (asid : BitVec 14) (info : ImageInfo) : State × Bool :=
  ((List.range 16).filter fun n => info.trees.testBit n).foldl
    (fun (acc : State × Bool) n =>
      let r := acc.1.cpBlock part asid (info.treeVa + 32 * n) 32
      (r.1, acc.2 && match r.2 with
        | some t => treeRecordOk t
        | none => false))
    (s, true)

/-- An image whose header reads, once its tree records have been checked. -/
def State.imageTrees (s : State) (part : Nat) (asid : BitVec 14) : Option ImageInfo → State × Option ImageInfo
  | none => (s, none)
  | some info =>
    let q := s.treesOk part asid info
    (q.1, if q.2 then some info else none)

/-- The image header at ENTRY − 64 with the records of its tree table checked; `none` is the refusal 0x1603. -/
def State.readImage (s : State) (part : Nat) (asid : BitVec 14) (entry : Nat) (pw : Nat) : State × Option ImageInfo :=
  let r := s.cpBlock part asid (headerOf entry) 64
  r.1.imageTrees part asid (r.2.bind fun x => imageInfo x pw)

/-- Wave entries in a partition's pools (15 R306). -/
def State.waveEntries (s : State) (p : Nat) : Nat :=
  (s.pools.flatMap fun x => if x.1 / 256 = p then x.2 else []).countP fun e => match e with
    | .wave _ => true
    | .task _ _ => false

/-- An entry at the tail of a ready pool. -/
def State.addEntry (s : State) (p prio : Nat) (e : PoolEntry) : State :=
  { s with pools := mapUpd [] s.pools (256 * p + prio) fun l => l ++ [e] }

def State.updWave (s : State) (p : Nat) (node : BitVec 64) (f : Wave → Wave) : State :=
  { s with cp := { s.cp with waves := s.cp.waves.map fun w => if w.req.part = p ∧ w.req.node = node then f w else w } }

/-- Tasks of a wave. -/
def Wave.tasks (w : Wave) : Nat := w.vx * w.vy * w.vz

/-- A change of a node in the active list. -/
def State.setActive (s : State) (a b : Active) : State :=
  { s with cp := { s.cp with active := s.cp.active.map fun x => if x = a then b else x } }

/-- A KERNEL node's action (02 R42, R52), held in order behind requests that wait for room in the pools (15 R306), or behind a live wave at the same
address of another address space, since NODE and TIDX name a task in its partition (R306; log 18); of several
grounds of refusal the lowest code is given, and a shape that is empty does not spare a node its refusal (DESIGN CHOICE, log 18). -/
def State.actKernel (s : State) (a : Active) (sub : Submission) (reg : Region) (held : Bool) : State :=
  let w := nodeWord a.w
  let pw := fieldOf (w 5) 31 0
  let gran := fieldOf (w 5) 33 32
  let own := (w 5).testBit 34
  let vx := if own then fieldOf (w 6) 15 0 else reg.vx
  let vy := if own then fieldOf (w 6) 31 16 else reg.vy
  let vz := if own then fieldOf (w 6) 47 32 else reg.vz
  let n := vx * vy * vz
  if 16777216 < n then s.refuseActive a 0x1601
  else if !partwOk pw reg.prot then s.refuseActive a 0x1602
  else
    let (s, img) := s.readImage a.req.part sub.asid (w 4) pw
    match img with
    | none => s.refuseActive a 0x1603
    | some img =>
      if gran = 3 then s.refuseActive a 0x1606
      else if n = 0 then s.completeNode a [w 2, w 3]
      else if 4096 ≤ s.waveEntries a.req.part ∨ held = true ∨ (s.wave a.req.part a.req.node).isSome = true then
        { s with cp := { s.cp with full := s.cp.full ++ [a.req] } }
      else
        let wave : Wave :=
          { req := a.req, rcb := a.rcb, rasid := a.rasid, prio := reg.prio.toNat, vx := vx, vy := vy, vz := vz, entry := BitVec.ofNat 64 (w 4)
            partw := BitVec.ofNat 32 pw, gran := gran, karg := BitVec.ofNat 64 (w 7), dataVa := BitVec.ofNat 64 img.dataVa, dataLen := img.dataLen
            treeVa := BitVec.ofNat 64 img.treeVa, trees := BitVec.ofNat 16 img.trees, asid := reg.asid, next := 0, done := 0, ended := false }
        let lower (s : State) : State := s.updRegion a.req.part a.rasid a.rcb fun r => { r with live := r.live - n }
        let r := s.changeRegion a.req.part a.rasid a.rcb fun r => { r with live := r.live + n }
        if !r.2 then (lower r.1).refuseActive a 0x1605
        else
          let x := r.1.putNodeState a.req sub.asid 2 (min 255 (s.heldFor a.req).length)
          if !x.2 then (lower x.1).refuseActive a 0x1604
          else ({ x.1 with cp := { x.1.cp with waves := x.1.cp.waves ++ [wave] } } : State).addEntry a.req.part reg.prio.toNat (.wave a.req.node)

/-- A comparison of COND (02 R52). -/
def condHolds (cc x y : Nat) : Bool :=
  let sx := signedOf 64 x
  let sy := signedOf 64 y
  if cc = 0 then decide (x = y)
  else if cc = 1 then decide (x ≠ y)
  else if cc = 2 then decide (sx < sy)
  else if cc = 3 then decide (sy ≤ sx)
  else if cc = 4 then decide (x < y)
  else decide (y ≤ x)

/-- The action of a node that has become ready (02 R52, 15 R305): KERNEL, COND, LOOP, END and JOIN act here, and SIGNAL makes its add; BULK,
WAIT and SIGNAL become active and complete by their own events. -/
def State.nodeAct (s : State) (a : Active) (sub : Submission) (held : Bool) : State :=
  let w := nodeWord a.w
  let p := a.req.part
  let succ := [w 2, w 3]
  let (s, reg) := s.openRegion p a.rasid 16 a.rcb
  match reg with
  | none => s.refuseActive a 0x1605
  | some reg =>
    let b : Active := { a with rcb := reg.va, rasid := reg.rasid }
    let s := s.setActive a b
    let a := b
    let active (s : State) : State :=
      let x := s.putNodeState a.req sub.asid 2 (min 255 (s.heldFor a.req).length)
      if x.2 then x.1 else x.1.refuseActive a 0x1604
    let ty := fieldOf (w 0) 3 0
    if ty = 1 then s.actKernel a sub reg held
    else if ty = 3 then
      let (s, x) := s.cpBlock p sub.asid (w 4) 8
      match x with
      | none => s.refuseActive a 0x1604
      | some x => s.completeNode a [if condHolds (fieldOf (w 6) 2 0) x (w 5) then w 2 else w 3]
    else if ty = 4 then
      let iter := fieldOf (w 5) 31 0
      let (s, lim) := if iter = 0 then
          let (s, x) := s.cpBlock p sub.asid (w 4) 8
          (s, x.map fun x => min x 0xFFFFFFFF)
        else (s, some (fieldOf (w 5) 63 32))
      match lim with
      | none => s.refuseActive a 0x1604
      | some lim =>
        let go := iter < lim
        let r := s.cpWrite p sub.asid (a.req.node.toNat + 40) 8 ((if go then iter + 1 else 0) + lim <<< 32)
        if r.2 then r.1.completeNode a [if go then w 2 else w 3] else r.1.refuseActive a 0x1604
    else if ty = 8 then
      let r := if w 4 = 0 then (s, true) else s.cpAdd p sub.asid (w 4) (w 5)
      if r.2 then (r.1.post (.graphEnd a.req.node)).completeNode a [] else r.1.refuseActive a 0x1604
    else if ty = 7 then s.completeNode a succ
    else if ty = 6 then
      let r := s.cpAdd p sub.asid (w 4) (w 5)
      if r.2 then active r.1 else r.1.refuseActive a 0x1604
    else active s

/-- A counted readiness takes effect on an idle node, or one that falls due again: the node acts. -/
def State.startNode (s : State) (r : Request) (x : Nat) : State :=
  match s.sub r with
  | none => s
  | some sub =>
    let rcb := if wordOf x 1 = 0 then sub.root else BitVec.ofNat 64 (wordOf x 1)
    let a : Active := { req := r, rcb := rcb, rasid := sub.asid, w := BitVec.ofNat 512 x }
    let y := { s with cp := { s.cp with active := s.cp.active ++ [a] } }.putNodeState r sub.asid 1 (fieldOf (wordOf x 0) 63 56)
    if y.2 then y.1.nodeAct a sub (s.cp.full.any fun f => decide (f.part = r.part)) else y.1.refuseActive a 0x1604

/-- One readiness request is handled (02 R53, 18 R354). -/
def State.handleRequest (s : State) (r : Request) : State :=
  match s.sub r with
  | none => s
  | some sub =>
    if sub.stopped then s
    else
      let va := r.node.toNat
      let (s, x) := if va % 64 ≠ 0 then (s, none) else s.cpBlock r.part sub.asid va 64
      match x, s.xlate spineCb r.part sub.asid .write va with
      | some x, .ok place =>
        let r := { r with place := some place }
        let w0 := wordOf x 0
        let counts (w : Nat) : State × Bool := s.cpWrite r.part sub.asid va 8 w
        if nodeBad x then s.refuseNode r 0x1604
        else if w0.testBit 4 && !r.launch then s
        else if fieldOf w0 3 0 = 7 then
          let need := max 1 (fieldOf w0 15 8)
          let n := fieldOf w0 23 16 + 1
          let y := counts (withField w0 23 16 (if need ≤ n then 0 else n))
          if !y.2 then y.1.refuseNode r 0x1604
          else if need ≤ n then y.1.startNode r (withField x 23 16 0)
          else y.1
        else if fieldOf w0 33 32 ≠ 0 ∨ (s.activeNode r).isSome ∨ (s.cp.due.any fun d => r.sameNode d.req) = true then
          let y := counts (withField w0 63 56 (min 255 ((s.heldFor r).length + 1)))
          if y.2 then { y.1 with cp := { y.1.cp with pend := y.1.cp.pend ++ [r] } } else y.1.refuseNode r 0x1604
        else s.startNode r x
      | _, .held => s.waits
      | _, _ => s.refuseNode r 0x1604

/-- Readiness that has fallen due is carried out: the node is read again; when its submission is stopped it completes at once with no action
(02 R53). -/
def State.handleDue (s : State) (d : Due) : State :=
  let r := d.req
  let refuse (s : State) : State := ((s.refuseNode r 0x1604).settleNode r d.rasid d.rcb).tryClose r.part d.rasid 16 d.rcb
  match s.sub r with
  | none => (s.settleNode r d.rasid d.rcb).tryClose r.part d.rasid 16 d.rcb
  | some sub =>
    if sub.stopped then (s.settleNode r d.rasid d.rcb).tryClose r.part d.rasid 16 d.rcb
    else
    let (s, x) := s.cpBlock r.part sub.asid r.node.toNat 64
    match x with
    | none => refuse s
    | some x => if nodeBad x then refuse s else (s.startNode r x).tryClose r.part d.rasid 16 d.rcb

/-- While the first of them has room, held KERNEL requests are entered in order (15 R306); `n` of them at most. -/
def State.admitHeld (s : State) (p : Nat) : Nat → State
  | 0 => s
  | n + 1 =>
    match s.cp.full.find? fun r => decide (r.part = p) with
    | none => s
    | some r =>
      if 4096 ≤ s.waveEntries p ∨ (s.wave p r.node).isSome = true then s
      else
        let t : State := { s with cp := { s.cp with full := s.cp.full.erase r } }
        let u := match t.activeNode r, t.sub r with
          | some a, some sub => t.nodeAct a sub false
          | _, _ => t
        u.admitHeld p n

/-- Room in a partition goes to the KERNEL requests that are held. -/
def State.admitFull (s : State) (p : Nat) : State := s.admitHeld p s.cp.full.length

/-! ## The end of tasks (02 R49, 17 R334) -/

/-- Whether a bound task whose image names tree `t` runs on a core of bulkhead `b` (10 R244). -/
def State.treeHeld (s : State) (b t : Nat) : Bool :=
  s.cores.any fun x => decide (x.1 / 16 = b) && match x.2.task with
    | some y => y.trees.getLsbD t
    | none => false

/-- Whether a task of the bulkhead's partition that has left its cores, and will be bound again, names tree `t`. -/
def State.treeAwaited (s : State) (b t : Nat) : Bool :=
  s.tasks.any fun x => decide (x.part = s.partOf (octantOf b)) && match s.wave x.part x.node with
    | some w => w.trees.getLsbD t
    | none => false

/-- Ended rounds are forgotten once the wave that began them is over and no task names their trees, bound there or to be bound again (22 R406;
log 40). -/
def State.dropRounds (s : State) : State :=
  { s with rounds := s.rounds.filter fun r =>
      decide (r.ended = 0) || (s.wave r.part r.node).isSome || s.treeHeld r.b.toNat r.tree.toNat || s.treeAwaited r.b.toNat r.tree.toNat }

/-- `n` tasks of a wave are gone: LIVE falls, and when the last one has gone the node completes. -/
def State.tasksGone (s : State) (p : Nat) (node : BitVec 64) (n : Nat) : State :=
  match s.wave p node with
  | none => s
  | some w =>
    let s := s.updRegion p w.rasid w.rcb fun r => { r with live := r.live - n }
    let s := s.updWave p node fun w => { w with done := w.done + n }
    if w.tasks ≤ w.done + n then
      let s := { s with cp := { s.cp with waves := s.cp.waves.filter fun x => !(decide (x.req.part = p) && decide (x.req.node = node)) } }
      let s := s.dropRounds
      (match (s.activeNode w.req).filter fun _ => !w.ended with
      | some a => s.completeNode a [nodeWord a.w 2, nodeWord a.w 3]
      | none => s.tryClose p w.rasid 16 w.rcb).admitFull p
    else s

/-! ## Submissions (15 R302-R304) -/

/-- A write by the CP at a physical address; one to a stack held in reset is lost. -/
def State.spinePut (s : State) (pa n x : Nat) : State := (s.put spineCb (.stack (BitVec.ofNat 39 pa)) n x false).1

/-- Whether a submission record has a nonzero reserved field (15 R303). -/
def submissionReserved (x : Nat) : Bool := decide (wordOf x 2 / 2 ^ 14 ≠ 0 ∨ wordOf x 5 ≠ 0 ∨ wordOf x 6 / 4 ≠ 0)

/-- The CP starts the next record of a stream, once its stack is not held in reset.  A nonzero reserved field is detected (00 R7): the first node is
refused with 0x1604, and the submission ends with STATUS 3 (log 18). -/
def State.startSubmission (s : State) (stream : BitVec 6) : State :=
  if (s.cp.subs.any fun x => decide (x.1 = stream)) = true ∨ s.fw.cpDown = true then s
  else
    match (s.cp.queue.find? fun x => decide (x.1 = stream)).filter fun x => !s.stackDown (x.2 / 2 ^ 36) with
    | none => s
    | some q =>
      let recd := q.2
      if !s.hasCols spineCb (.stack (BitVec.ofNat 39 recd)) 64 false false then s.waits
      else
      let x := s.physRead recd 64
      let s := if s.physPoisoned recd 64 then s.spineConsumes recd else s
      let s := { s with cp := { s.cp with queue := s.cp.queue.erase q } }
      let s := s.spinePut (recd + 48) 8 1
      let part := s.partOf (recd / 2 ^ 36)
      let sub : Submission :=
        { recd := recd, part := part, root := BitVec.ofNat 64 (wordOf x 1), asid := BitVec.ofNat 14 (wordOf x 2), done := BitVec.ofNat 64 (wordOf x 3)
          doneinc := BitVec.ofNat 64 (wordOf x 4), stopped := false, failed := false }
      let s := { s with cp := { s.cp with subs := s.cp.subs ++ [(stream, sub)] } }
      let r : Request := { node := BitVec.ofNat 64 (wordOf x 0), launch := false, stream := stream, recd := recd, part := part, asid := sub.asid }
      if submissionReserved x then s.refuseNode r 0x1604 else s.request r

/-- Whether no work of a submission is left (15 R304). -/
def State.submissionIdle (s : State) (stream : BitVec 6) (recd : Nat) : Bool :=
  let of_ (r : Request) : Bool := decide (r.stream = stream) && decide (r.recd = recd)
  !(s.cp.reqs.any of_) && !(s.cp.due.any fun d => of_ d.req) && !(s.cp.pend.any of_) && !(s.cp.full.any of_) && !(s.cp.active.any fun a => of_ a.req)
    && !(s.cp.waves.any fun w => of_ w.req)

/-- QLEN of a stream register falls by one. -/
def State.lowerQlen (s : State) (stream : BitVec 6) : State :=
  { s with
    ctl := { s.ctl with stream := mapUpd 0 s.ctl.stream stream.toNat fun w => BitVec.ofNat 64 (withField w.toNat 4 0 (fieldOf w.toNat 4 0 - 1)) } }

/-- A submission with no work left ends (15 R304). -/
def State.endSubmission (s : State) (stream : BitVec 6) : State :=
  match s.cp.subs.find? fun x => decide (x.1 = stream) with
  | none => s
  | some x =>
    let sub := x.2
    if !s.submissionIdle stream sub.recd then s
    else
      let r := if sub.done = 0 then (s, true) else s.cpAdd sub.part sub.asid sub.done.toNat sub.doneinc.toNat
      let s := r.1.post (.submissionEnded stream)
      let s := s.spinePut (sub.recd + 56) 8 s.seq
      let s := s.spinePut (sub.recd + 48) 8 (if sub.failed || !r.2 then 3 else 2)
      ({ s with cp := { s.cp with subs := s.cp.subs.filter fun y => decide (y.1 ≠ stream) } } : State).lowerQlen stream

end Sys2Proof.Machine
end

