-- ==== Sys2Proof/Machine/Kill.lean ====
section
/-! DEFINITION. Killing tasks: the kill scope of a region, what a member loses at once, and the errors that kill. -/

namespace Sys2Proof.Machine

/-- Whether the bytes of two places meet. -/
def PAddr.meets (a : PAddr) (n : Nat) (b : PAddr) (m : Nat) : Bool :=
  match a, b with
  | .stack x, .stack y => overlaps x.toNat n y.toNat m
  | .fabric f x, .fabric g y => decide (f = g) && overlaps x.toNat n y.toNat m
  | _, _ => false

/-- How far place `b` lies beyond place `a` of the same device. -/
def PAddr.within (a b : PAddr) : Option Int :=
  match a, b with
  | .stack x, .stack y => some ((y.toNat : Int) - x.toNat)
  | .fabric f x, .fabric g y => if f = g then some ((y.toNat : Int) - x.toNat) else none
  | _, _ => none

/-- ATYPE and ADDR of a place in an error record (17 R328). -/
def PAddr.report : PAddr → Nat × Nat
  | .stack pa => (2, pa.toNat)
  | .fabric fid ra => (4, fid.toNat + ra.toNat * 2 ^ 12 % 2 ^ 64)

/-- Whether a request of a protected member is held until its segment commits (19 R367). -/
def Core.heldReq (c : Core) (r : MemReq) : Bool := c.seg.hold.any fun h => match h with
  | .request i _ => decide (i = r.id)
  | _ => false

/-! ## The undo log (19 R366) -/

/-- The map with its entries from `lo` to below `hi` those of another. -/
def splice {α : Type} (m old : FMap α) (lo hi : Nat) : FMap α :=
  (m.filter fun x => decide (x.1 < lo)) ++ (old.filter fun x => decide (lo ≤ x.1) && decide (x.1 < hi)) ++ m.filter fun x => decide (hi ≤ x.1)

/-- Poison marks of one kind from `lo` to below `hi` as they were. -/
def spliceBad (l old : List (Nat × Nat)) (kind lo hi : Nat) : List (Nat × Nat) :=
  let mine (b : Nat × Nat) : Bool := decide (b.1 = kind) && decide (lo ≤ b.2) && decide (b.2 < hi)
  (l.filter fun b => !mine b) ++ old.filter mine

/-- A line of register banks 0-3, by its offset in their layout (03 R412), as it was. -/
def Pool.undoBank (p old : Pool) (o : Nat) : Pool :=
  let g := o / 8
  if o < 0x40000 then { p with tile := splice p.tile old.tile (o / 2) (o / 2 + 64), bad := spliceBad p.bad old.bad 1 g (g + 16) }
  else if o < 0x40800 then
    let i := o - 0x40000
    { p with code := splice p.code old.code (i / 4) (i / 4 + 32), bad := spliceBad p.bad old.bad 3 (i / 8) (i / 8 + 16) }
  else if o < 0x41000 then { p with ttag := old.ttag, afmt := old.afmt, sfmt := old.sfmt }
  else if o < 0x49000 then
    let i := o - 0x41000
    { p with active := splice p.active old.active (i / 2) (i / 2 + 64), bad := spliceBad p.bad old.bad 2 (i / 8) (i / 8 + 16) }
  else if o < 0x51000 then
    let i := o - 0x49000
    { p with shadow := splice p.shadow old.shadow (i / 2) (i / 2 + 64), bad := spliceBad p.bad old.bad 2 (4096 + i / 8) (4096 + i / 8 + 16) }
  else { p with anchor := splice p.anchor old.anchor ((o - 0x51000) / 2) ((o - 0x51000) / 2 + 64) }

/-- A line of a window row, its accumulators those that begin in it: the 24 lines of a row are logged together. -/
def Pool.undoRow (p old : Pool) (line : Nat) : Pool :=
  let lo := 128 * (line / 24) + (128 * (line % 24) + 23) / 24
  let hi := 128 * (line / 24) + (128 * (line % 24 + 1) + 23) / 24
  { p with win := splice p.win old.win lo hi, resid := splice p.resid old.resid lo hi, bad := spliceBad p.bad old.bad 0 (3 * lo) (3 * hi) }

/-- A line of a landing row; its fields come with its first. -/
def Pool.undoLand (p old : Pool) (line : Nat) : Pool :=
  let r := line / 4
  let i := 128 * (line % 4)
  let was := mapGet Init.landRow old.land r
  { p with
    land := mapUpd Init.landRow p.land r fun x =>
      let x := { x with data := splice x.data was.data i (i + 128) }
      if line % 4 = 0 then { was with data := x.data } else x
    bad := if line % 4 = 0 then spliceBad p.bad old.bad 4 r (r + 1) else p.bad }

/-- A line of the pool, by area and number, as an undo-log entry holds it. -/
def Pool.undoLine (p old : Pool) (id : Nat) : Pool :=
  let area := id / 2 ^ 32
  let line := id % 2 ^ 32
  if area = 0 then
    { p with sp := splice p.sp old.sp (128 * line) (128 * line + 128), psn := splice p.psn old.psn (16 * line) (16 * line + 16) }
  else if area = 1 then p.undoBank old (128 * line)
  else if area = 2 then p.undoRow old line
  else p.undoLand old line

/-- A core goes back to its checkpoint: the lines of its log, newest first, and the checkpoint (19 R369 step 2).  Lines that were not logged keep what has
happened to them. -/
def Core.rollback (c : Core) : Core := match c.seg.ck with
  | none => c
  | some (x, tags, plru) =>
    { c with ctx := x, pool := { c.seg.log.foldr (fun l p => p.undoLine l.2 l.1) c.pool with tagt := tags, plru := plru } }

/-- A member stops issuing, the first kill's code standing: pending results, landings and eclipse entries are discarded, and in protected mode its log
is restored and its held effects are discarded (17 R334, 19 R371). -/
def Core.stop (c : Core) (code : BitVec 16) : Core :=
  let c := if c.seg.ck.isNone then c else { c.rollback with mq := c.mq.filter fun r => !c.heldReq r, ops := c.ops.filter fun o => !o.held }
  let run : Run := match c.run with
    | .killed first => .killed first
    | _ => .killed code
  { c with run := run, pipe := [], land := [], eclipse := [], trap := none, seg := Init.segment, iss := Init.issue, launches := [] }

/-- The members of the task bound to a core stop. -/
def State.stopTask (s : State) (b : Binding) (code : BitVec 16) : State := s.updCores b.cores fun c => c.stop code

/-- The bindings now in force, one for each task (that of its first bound member). -/
def State.bindings (s : State) : List Binding :=
  s.cores.filterMap fun x => match x.2.task with
    | some b => if b.cores.head? = some (BitVec.ofNat 8 x.1) then some b else none
    | none => none

/-- The submission of a bound task's wave ends with STATUS 3; under KILL 1 and 2 its requests are counted no more (17 R334). -/
def State.failWave (s : State) (p : Nat) (node : BitVec 64) (stop : Bool) : State :=
  match s.wave p node with
  | some w => s.updSub w.req.stream w.req.recd fun x => { x with failed := true, stopped := x.stopped || stop }
  | none => s

/-- The pools of a partition without some entries. -/
def dropEntries (m : FMap (List PoolEntry)) (p : Nat) (gone : PoolEntry → Bool) : FMap (List PoolEntry) :=
  m.foldl (fun r x => if x.1 / 256 = p then mapSet [] r x.1 (x.2.filter fun e => !gone e) else r) m

/-- Whether bank programs of an unbound task still run. -/
def TaskRec.running (t : TaskRec) : Bool := t.progs.any fun x => x.2.any fun o => decide (o.name = .bankgo) && !o.done

/-- An unbound task comes to its end by a kill: the rows of its bank programs are fenced, and its event is posted, unless it is one that a reset has
retired already, under code 0 (02 R49, 11 R266, 17 R334, R341). -/
def State.endRec (s : State) (t : TaskRec) (code : BitVec 16) : State :=
  let s := ({ s with tasks := s.tasks.filter fun x => decide (x ≠ t) } : State).fenceRan fun l =>
    decide (l.part = t.part) && decide (l.node = t.node) && decide (l.tidx = t.tidx)
  if code = 0 then s else s.post (.killed none t.node t.tidx 0 code)

/-- Unbound tasks that have run before are killed; one whose bank programs still run ends with them (17 R334).  How many have ended. -/
def State.killRecs (s : State) (ts : List TaskRec) (code : BitVec 16) : State × Nat :=
  ts.foldl
    (fun acc t =>
      if t.dying.isSome then acc
      else if t.running then
        ({ acc.1 with tasks := acc.1.tasks.map fun x => if x = t then { x with dying := some code, ready := false } else x }, acc.2)
      else (acc.1.endRec t code, acc.2 + 1)) (s, 0)

/-- Unbound tasks of a wave, parked, ready again or never bound, are killed (17 R334). -/
def State.killUnbound (s : State) (w : Wave) (code : BitVec 16) : State :=
  let p := w.req.part
  let recs := s.tasks.filter fun t => decide (t.part = p) && decide (t.node = w.req.node)
  let fresh := upFrom w.next (w.tasks - w.next)
  let gone (e : PoolEntry) : Bool := match e with
    | .wave n => decide (n = w.req.node)
    | .task n _ => decide (n = w.req.node)
  let (s, n) := ({ s with pools := dropEntries s.pools p gone } : State).killRecs recs code
  let s := fresh.foldl (fun s i => s.post (.killed none w.req.node i 0 code)) s
  let s := s.updWave p w.req.node fun w => { w with next := w.tasks }
  let n := n + fresh.length
  if n = 0 then s else s.tasksGone p w.req.node n

/-- Whether a region lies in the scope of a bound task's KILL 1 or 2 (17 R334). -/
def State.inScope (s : State) (b : Binding) (rcb : BitVec 64) : Bool :=
  decide (rcb = b.rcb) || (decide (b.kill = 2) && match s.region b.part b.rasid rcb with
    | some r => s.under r b.rcb
    | none => false)

/-- The task of a binding is killed with a code under its region's KILL (17 R334).  Its release follows when its operations and writes have
completed (log 19). -/
def State.killTask (s : State) (b : Binding) (code : BitVec 16) : State :=
  let s := s.stopTask b code
  if b.kill = 0 then s.failWave b.part b.node false
  else
    let inScope := s.inScope b
    let bound := s.bindings.filter fun x => decide (x.part = b.part) && decide (x.rasid = b.rasid) && inScope x.rcb
    let waves := s.cp.waves.filter fun w => decide (w.req.part = b.part) && decide (w.rasid = b.rasid) && inScope w.rcb
    let nodes := s.cp.active.filter fun a => decide (a.req.part = b.part) && decide (a.rasid = b.rasid) && inScope a.rcb
    let s := bound.foldl (fun s x => (s.stopTask x code).failWave x.part x.node true) s
    let s := s.failWave b.part b.node true
    let s := waves.foldl (fun s w => s.failWave w.req.part w.req.node true) s
    let s := waves.foldl (fun s w => match s.wave w.req.part w.req.node with
      | some w => s.killUnbound w code
      | none => s) s
    let s := nodes.foldl (fun s a => match s.activeNode a.req with
      | some a => (s.updWave a.req.part a.req.node fun w => { w with ended := true }).completeNode a [nodeWord a.w 2, nodeWord a.w 3]
      | none => s) s
    s.admitFull b.part

/-- The task bound to a core is killed. -/
def State.killCore (s : State) (c : BitVec 8) (code : BitVec 16) : State :=
  match (s.core c).task with
  | some b => s.killTask b code
  | none => s

/-- An unbound task that has run before is killed under its region's KILL (17 R334). -/
def State.killAway (s : State) (p : Nat) (node : BitVec 64) (tidx : Nat) (code : BitVec 16) : State :=
  match s.wave p node with
  | none => s
  | some w =>
    match s.region p w.rasid w.rcb with
    | none => s
    | some r =>
      if r.kill = 0 then
        let gone (e : PoolEntry) : Bool := decide (e = .task node tidx)
        let (s, n) := ({ s with pools := dropEntries s.pools p gone } : State).killRecs
          (s.tasks.filter fun t => decide (t.part = p) && decide (t.node = node) && decide (t.tidx = tidx)) code
        let s := s.failWave p node false
        if n = 0 then s else s.tasksGone p node n
      else
        s.killTask
          { part := p, node := node, memb := 0, cores := [], bindseq := 0, asid := w.asid, rcb := w.rcb, rasid := w.rasid, prio := 0, pcls := 0
            prot := false, save := false, kill := r.kill, slice := 0, savebase := 0, trees := 0, boundAt := 0, own := false, sliceOver := false
            preempt := false } code

/-- A mismatch is found in the open segment; the first one stands (19 R364, R371). -/
def Core.mismatch (c : Core) (kind : BitVec 2) : Core :=
  if c.seg.bad ≠ 0 ∨ c.seg.restoring = true then c else { c with seg := { c.seg with bad := kind, badAt := c.seg.issued } }

/-- Poison consumed by a unit of a core (17 R332): an uncorrected error of that unit, which kills the task; during a protected segment it is a
mismatch instead (19 R364). -/
def State.consume (s : State) (c : BitVec 8) (unit atype addr : Nat) : State :=
  let code := Config.consumeCode s.nfree
  let s := s.takeFree
  let (prot, asid) := match (s.core c).task with
    | some b => (b.prot, if atype = 1 then b.asid.toNat else 0)
    | none => (false, 0)
  if prot && (s.core c).seg.openSeg then s.updCore c fun x => x.mismatch 3
  else (s.coreError c unit { cls := 3, code := code.toNat, atype := atype, addr := addr, asid := asid }).killCore c code

/-- A walk for a core's access met a poisoned table entry (20 R385). -/
def State.walkPoison (s : State) (c : BitVec 8) (pa : Nat) : State :=
  (s.logError (cbOf c) 65 { cls := 3, code := 0x0502, atype := 2, addr := pa }).killCore c 0x0502

end Sys2Proof.Machine
end

