-- ==== Sys2Proof/Machine/Bank.lean ====
section
/-! DEFINITION. Stack organisation and bank engines: the place of an offset, columns, command queues, rows and their activation counts, bank launches and their ends, and the micro-op a bank runs next (13 R277, R278, R285-R291, R294, 20 R377, R390). -/

namespace Sys2Proof.Machine

/-! ## Columns -/

/-- The bank of a memory bulkhead's records. -/
def stackBank (k : Nat) : Nat := 16 + k

/-! ## Columns as banks see them -/

/-- A column's bytes and whether it is poisoned; a column that no offset reaches and the running program has not written has a free value. -/
def State.colRead (s : State) (k pc bank row col : Nat) : State × Nat × Bool :=
  let o := colOffset pc bank row col
  if o < 2 ^ 36 then (s, readBytes s.mem (k * 2 ^ 36 + o) 32, mapGet false s.poison ((k * 2 ^ 36 + o) / 32))
  else
    match mapGet none (s.chan k pc).far (colKey bank row col) with
    | some (x, psn) => (s, x.toNat, psn)
    | none => (s.takeFree, (Config.freeColumn s.nfree).toNat, false)

/-- A column written whole by a bank program; of the column as it stood before the controller may hold a copy staged (13 R294). -/
def State.colWrite (s : State) (k pc bank row col x : Nat) (psn : Bool) : State :=
  let o := colOffset pc bank row col
  let pa := k * 2 ^ 36 + o
  let key := colKey bank row col
  if 2 ^ 36 ≤ o then s.updChan k pc fun p => { p with far := mapSet none p.far key (some (BitVec.ofNat 256 x, psn)) }
  else if inErrorPage pa then s
  else
    let old := (BitVec.ofNat 256 (readBytes s.mem pa 32), mapGet false s.poison (pa / 32))
    let s := s.updChan k pc fun p => { p with staged := mapSet none p.staged key (some ((mapGet none p.staged key).getD old)) }
    ({ s with mem := writeBytes s.mem pa 32 x, poison := mapSet false s.poison (pa / 32) psn } : State).dropAsids pa 32

/-! ## A bank in place -/

def State.bankAt (s : State) (k pc bank : Nat) : Bank := (s.chan k pc).bank bank

def State.setBankAt (s : State) (k pc bank : Nat) (b : Bank) : State := s.updChan k pc fun p => p.setBank bank b

def State.updBankAt (s : State) (k pc bank : Nat) (f : Bank → Bank) : State := s.setBankAt k pc bank (f (s.bankAt k pc bank))

/-- Whether a bank runs a program. -/
def PChan.runs (p : PChan) (bank : Nat) : Bool := p.prog.isSome && !(p.bank bank).ended

/-! ## Command queues (13 R294) -/

/-- A queue entry retires: a write goes into the array; after a marker the controller holds no copy of the bank's columns staged from before it. -/
def State.retireEntry' (s : State) (k pc bank : Nat) : CmdEntry → State
  | .write row col x psn => s.colWrite k pc bank row col x psn
  | .mark _ => s.updChan k pc fun p => { p with staged := p.staged.filter fun x => decide (x.1 / 32 / 16384 ≠ bank) }

/-- The queued writes, oldest first, go into the array and markers retire. -/
def State.flushQueue (s : State) (k pc bank : Nat) : State :=
  let b := s.bankAt k pc bank
  (b.cmdq.foldl (fun s e => s.retireEntry' k pc bank e) s).updBankAt k pc bank fun b => { b with cmdq := [] }

/-- The oldest entry of a queue retires. -/
def State.retireHead (s : State) (k pc bank : Nat) : State :=
  match (s.bankAt k pc bank).cmdq with
  | [] => s
  | e :: rest => (s.retireEntry' k pc bank e).updBankAt k pc bank fun b => { b with cmdq := rest }

/-- Whether a queued write must wait for translations in use (11 R255). -/
def State.entryWaits (s : State) (k pc bank : Nat) : CmdEntry → Bool
  | .mark _ => false
  | .write row col _ _ =>
    match (s.chan k pc).prog with
    | some g => s.dirWaits g.launch.core g.launch.op (.stack (BitVec.ofNat 39 (k * 2 ^ 36 + colOffset pc bank row col))) 32
    | none => false

/-- A write enters the queue of 16; one that finds it full waits until the oldest entry has gone. -/
def State.queueWrite (s : State) (k pc bank row col x : Nat) (psn : Bool) : State :=
  let s := if 16 ≤ (s.bankAt k pc bank).cmdq.length then s.retireHead k pc bank else s
  s.updBankAt k pc bank fun b => { b with cmdq := b.cmdq ++ [.write row col x psn] }

/-- A column as the bank's own program reads it: its latest queued write, else the array (13 R287). -/
def State.colLatest (s : State) (k pc bank row col : Nat) : State × Nat × Bool :=
  match ((s.bankAt k pc bank).cmdq.filterMap fun e => match e with
    | .write r c x psn => if r = row ∧ c = col then some (x, psn) else none
    | .mark _ => none).getLast? with
  | some x => (s, x.1, x.2)
  | none => s.colRead k pc bank row col

/-! ## Rows: activation, precharge, refresh (13 R279, R284, 20 R377) -/

/-- Whether at least `t` ns have passed since a time kept as 1 + ns. -/
def since (m : FMap Nat) (bank ns t : Nat) : Bool := mapGet 0 m bank = 0 || decide (mapGet 0 m bank + t ≤ ns + 1)

/-- Timing fields of the configuration record in force (13 R280). -/
def Stack.tRcd (t : Stack) : Nat := fieldOf t.cfg.toNat 39 32
def Stack.tRp (t : Stack) : Nat := fieldOf t.cfg.toNat 47 40
def Stack.tRas (t : Stack) : Nat := fieldOf t.cfg.toNat 55 48
def Stack.tRc (t : Stack) : Nat := fieldOf t.cfg.toNat 63 56
def Stack.tCl (t : Stack) : Nat := fieldOf t.cfg.toNat 71 64
def Stack.tCcd (t : Stack) : Nat := fieldOf t.cfg.toNat 75 72
def Stack.ageCap (t : Stack) : Nat := fieldOf t.cfg.toNat 15 0
def Stack.winReq (t : Stack) : Nat := if fieldOf t.cfg.toNat 20 16 = 0 then 32 else fieldOf t.cfg.toNat 20 16

/-- A bank is occupied by `n` refreshes of 90 ns, from time `t` on or from the end of those under way. -/
def PChan.occupy (p : PChan) (t bank n : Nat) : PChan := { p with busy := mapSet 0 p.busy bank (max t (mapGet 0 p.busy bank) + 90 * n) }

/-- One refresh: the next two rows of the bank's sequence are renewed (log 21). -/
def PChan.refresh (p : PChan) (t bank : Nat) : PChan :=
  let r := mapGet 0 p.refRow bank
  let next (r : Nat) : Nat := (r + 1) % 10923
  { p.occupy t bank 1 with
    count := mapSet 0 (mapSet 0 p.count (rowKey bank r) 0) (rowKey bank (next r)) 0
    chkBad := mapSet false (mapSet false p.chkBad (rowKey bank r) false) (rowKey bank (next r)) false
    refRow := mapSet 0 p.refRow bank (next (next r)) }

/-- `n` of the refreshes due at a bank are performed. -/
def PChan.refreshDue (p : PChan) (t bank n : Nat) : PChan :=
  let n := min n (mapGet 0 p.refDue bank)
  let p := (List.range n).foldl (fun p _ => p.refresh t bank) p
  { p with refDue := mapUpd 0 p.refDue bank (· - n) }

/-- A row's count saturates: its neighbours are refreshed by two commands, its count falls to 0, whose check holds, and its ACTs are held for 1 µs (20
R377). -/
def PChan.saturate (p : PChan) (ns t bank row : Nat) : PChan :=
  { p.occupy t bank 2 with
    count := mapSet 0 p.count (rowKey bank row) 0
    chkBad := mapSet false p.chkBad (rowKey bank row) false
    actHold := mapSet 0 p.actHold (rowKey bank row) (ns + 1000) }

/-- A row's precharge: its activation is counted; a count whose check fails counts as 4,095, with the record 0x0403 (20 R377, R378). -/
def State.precharge (s : State) (k pc bank row : Nat) : State :=
  let p := s.chan k pc
  let bad := mapGet false p.chkBad (rowKey bank row)
  let n := if bad then 4095 else mapGet 0 p.count (rowKey bank row) + 1
  let p := { p with count := mapSet 0 p.count (rowKey bank row) n, preAt := mapSet 0 p.preAt bank (s.ns + 1) }
  let s := s.setChan k pc (if 4095 ≤ n then p.saturate s.ns (s.ns + (s.stack k).tRp) bank row else p)
  if bad then
    s.logError (stackBank k) pc
      { cls := 1, code := 0x0403, atype := 2, addr := k * 2 ^ 36 + colOffset pc bank row 0, synd := row % 2 ^ 16 + bank <<< 16 }
  else s

/-- A bank's row open for ordinary traffic is precharged. -/
def State.closeRow (s : State) (k pc bank : Nat) : State :=
  match mapGet 0 (s.chan k pc).rows bank with
  | 0 => s
  | r + 1 => (s.precharge k pc bank r).updChan k pc fun p => { p with rows := mapSet 0 p.rows bank 0 }

/-- Whether a bank's open row may be precharged: tRAS from its activation is met (13 R279). -/
def State.rasMet (s : State) (k pc bank : Nat) : Bool := since (s.chan k pc).actAt bank s.ns (s.stack k).tRas

/-- Whether a program's open row may be precharged: its last slot has ended, tRAS is met, and no queued write waits (13 R288). -/
def State.mayClose (s : State) (k pc bank : Nat) : Bool :=
  let b := s.bankAt k pc bank
  decide (b.slotEnd ≤ s.ns) && s.rasMet k pc bank && !(b.cmdq.any (s.entryWaits k pc bank))

/-- The refreshes due at a bank with no row open are performed: all, or in a takeover one every 400 ns (13 R284, 20 R379). -/
def State.refreshBank (s : State) (k pc bank : Nat) : State :=
  let n := if (s.stack k).takeover.isSome then (if mapGet 0 (s.chan k pc).busy bank + 310 ≤ s.ns ∨ mapGet 0 (s.chan k pc).busy bank = 0 then 1 else 0) else 8
  let t := max s.ns (mapGet 0 (s.chan k pc).preAt bank - 1 + (s.stack k).tRp)
  s.updChan k pc fun p => p.refreshDue t bank n

/-- A program's open row is precharged: queued writes go into the array first, and refreshes due at the boundary are performed. -/
def State.closeProgramRow (s : State) (k pc bank : Nat) : State :=
  match (s.bankAt k pc bank).row with
  | none => s
  | some r =>
    let s := (s.flushQueue k pc bank).updBankAt k pc bank fun b => { b with row := none, slots := 0, group := 0, ranRow := true }
    let s := (s.precharge k pc bank r).updChan k pc fun p =>
      { p with freed := (p.freed.filter fun t => decide (s.ns < t)) ++ [s.ns + (s.stack k).tRp] }
    s.refreshBank k pc bank

/-- Places of the 24 taken in a pseudo-channel: program rows open, or whose precharges have not completed (13 R289). -/
def PChan.openRows (p : PChan) (ns : Nat) : Nat :=
  ((List.range 32).filter fun b => (p.bank b).row.isSome).length + (p.freed.filter fun t => decide (ns < t)).length

/-! ## Launches and programs -/

/-- A change of the operations that issued a launch: those of its core, or those kept with its unbound task (13 R291). -/
def State.updLaunchOps (s : State) (l : BankLaunch) (f : List EngineOp → List EngineOp) : State :=
  match l.away with
  | none => s.updCore l.core fun c => { c with ops := f c.ops }
  | some (p, node, tidx, memb) =>
    let change (t : TaskRec) : TaskRec :=
      if t.part = p ∧ t.node = node ∧ t.tidx = tidx then
        { t with progs := t.progs.map fun x => if x.1 = memb then (x.1, f x.2) else x }
      else t
    { s with tasks := s.tasks.map change }

/-- The operation of a launch has done its work. -/
def State.finishLaunch (s : State) (l : BankLaunch) (f : Option (BitVec 16 × BitVec 64)) : State :=
  s.updLaunchOps l fun os => os.map fun o => if o.id = l.op then { o with done := true, fault := f } else o

/-- The fault of a stopped program (18 R351). -/
def stopFault (l : BankLaunch) : Option (BitVec 16 × BitVec 64) := some (0x1806, l.chs)

/-- The task that issued a launch is killed. -/
def State.killLaunch (s : State) (l : BankLaunch) (code : BitVec 16) : State :=
  match l.away with
  | none => s.killCore l.core code
  | some (p, node, tidx, _) => s.killAway p node tidx code

/-- A program ends once every bank has ended: BANKACT falls and its launch is done (13 R291, 20 R390). -/
def State.endProgram (s : State) (k pc : Nat) : State :=
  let p := s.chan k pc
  match p.prog with
  | none => s
  | some g =>
    if (List.range 32).all fun b => (p.bank b).ended then
      let s := s.updChan k pc fun p => { p with prog := none, far := [], ran := p.ran ++ [g.launch] }
      let s := s.updUp g.launch.part g.launch.rasid (fun r => { r with bankact := r.bankact - 1 }) 16 g.launch.rcb
      s.finishLaunch g.launch (if g.stopping then stopFault g.launch else none)
    else s

/-- A bank ends its program: its open row is precharged first. -/
def State.endBank (s : State) (k pc bank : Nat) : State :=
  (s.closeProgramRow k pc bank).updBankAt k pc bank fun b =>
    { b with ended := true, atWaits := false, susp := false, actWait := none, winLeft := 0, faulted := false }

/-- A bank-engine fault (20 R390): the bank executes nothing more, and the program is stopping; the bank has ended once its open row has been
precharged, which 13 R279 may hold for a while. -/
def State.bankFault (s : State) (k pc bank : Nat) : State :=
  let s := s.updChan k pc fun p => { p with prog := p.prog.map fun g => { g with stopping := true } }
  if (s.bankAt k pc bank).row.isSome && !s.mayClose k pc bank then s.updBankAt k pc bank fun b => { b with faulted := true }
  else (s.endBank k pc bank).endProgram k pc

/-! ## Micro-ops -/

/-- Whether a stored micro-op has a reserved code or a nonzero reserved field. -/
def uopBad (w : BitVec 16) : Bool := match decodeUop w with
  | .ok u => !u.instr.wellFormed
  | .error _ => true

/-- Whether a program must suspend at a row boundary: the byte budget is used up, or refresh has been taken over (01 R28, 20 R380). -/
def Stack.suspends (t : Stack) : Bool := t.takeover.isSome || decide (t.count ≤ 0)

/-- Whether a bank's refresh, window, wait, suspension or fault, or an ACT issued in this very cycle, keeps it from its next micro-op. -/
def State.bankWaits (s : State) (k pc bank : Nat) : Bool :=
  let p := s.chan k pc
  let b := p.bank bank
  !p.runs bank || b.atWaits || b.susp || b.faulted || b.actWait.isSome || decide (b.winLeft ≠ 0) || decide (s.ns < mapGet 0 p.busy bank)
    || (b.row.isSome && decide (mapGet 0 p.actAt bank = s.ns + 1))

/-- The micro-op that a bank's MPC names, once the bank may execute it; the machine then acts on that bank.  A bank that stands at a row boundary
suspends there when its program must. -/
def State.beginUop (s : State) (k : BitVec 3) (pc : BitVec 8) (bank : BitVec 5) : State × Option UopSlot :=
  let p := s.chan k.toNat pc.toNat
  let b := p.bank bank.toNat
  if s.bankWaits k.toNat pc.toNat bank.toNat then (s, none)
  else if b.row.isNone ∧ (s.stack k.toNat).suspends = true ∧ (p.prog.any (·.stopping)) = false then
    (s.updBankAt k.toNat pc.toNat bank.toNat fun b => { b with susp := true }, none)
  else
    match decodeUop (mapGet 0 p.uops b.mpc.toNat) with
    | .ok u => ({ s with curBank := (k, pc, bank), uopT := u.target }, some u)
    | .error _ => (s.bankFault k.toNat pc.toNat bank.toNat, none)

end Sys2Proof.Machine
end

