-- ==== Sys2Proof/Machine/Formats.lean ====
section
/-! DEFINITION. Number formats: what a bit pattern stands for, exact arithmetic, rounding with its flags, stochastic rounding, conversions, the K8 codebook and the window accumulator. -/

namespace Sys2Proof.Machine

/-! ## Flags (04 R88) -/

abbrev FFlags := BitVec 5

namespace FFlag
def nx : FFlags := 1
def uf : FFlags := 2
def ovf : FFlags := 4
def dz : FFlags := 8
def nv : FFlags := 16
end FFlag

/-- A result with the flags it raises. -/
abbrev Flagged (α : Type) := α × FFlags

/-! ## Values -/

/-- What a bit pattern stands for: a NaN (signalling or not), an infinity, or (−1)^neg × m × 2^e. -/
inductive Num where
  | nan (sig : Bool)
  | inf (neg : Bool)
  | fin (neg : Bool) (m : Nat) (e : Int)
deriving DecidableEq, Repr

namespace Num

/-- An exact integer. -/
def ofInt (x : Int) : Num := .fin (decide (x < 0)) x.natAbs 0

def isNan : Num → Bool
  | .nan _ => true
  | _ => false

def isSig : Num → Bool
  | .nan s => s
  | _ => false

def isZero : Num → Bool
  | .fin _ 0 _ => true
  | _ => false

def isInf : Num → Bool
  | .inf _ => true
  | _ => false

def neg : Num → Num
  | .nan s => .nan s
  | .inf n => .inf (!n)
  | .fin n m e => .fin (!n) m e

def abs : Num → Num
  | .nan s => .nan s
  | .inf _ => .inf false
  | .fin _ m e => .fin false m e

/-- The sign of a number that is no NaN. -/
def sign : Num → Bool
  | .nan _ => false
  | .inf n => n
  | .fin n _ _ => n

/-- The number scaled by 2^k. -/
def scale (k : Int) : Num → Num
  | .nan s => .nan s
  | .inf n => .inf n
  | .fin n m e => .fin n m (e + k)

/-- (−1)^neg × m as an integer. -/
def signed (neg : Bool) (m : Nat) : Int := if neg then -(m : Int) else m

/-- The order of two numbers that are no NaNs: −1, 0 or 1; −0 equals +0. -/
def order : Num → Num → Int
  | .inf a, .inf b => if a = b then 0 else if a then -1 else 1
  | .inf a, _ => if a then -1 else 1
  | _, .inf b => if b then 1 else -1
  | .fin a m e, .fin b n f =>
    let lo := min e f
    let x := signed a (m <<< (e - lo).toNat)
    let y := signed b (n <<< (f - lo).toNat)
    if x < y then -1 else if x = y then 0 else 1
  | _, _ => 0

end Num

/-! ## Floating-point formats (04 R83, R84) -/

/-- A floating-point format. -/
inductive FFmt where
  | fp32 | fp16 | bf16 | e4m3 | e5m2
deriving DecidableEq, Repr

namespace FFmt

/-- Fraction bits. -/
def f : FFmt → Nat
  | .fp32 => 23
  | .fp16 => 10
  | .bf16 => 7
  | .e4m3 => 3
  | .e5m2 => 2

/-- Exponent bits. -/
def x : FFmt → Nat
  | .fp32 => 8
  | .fp16 => 5
  | .bf16 => 8
  | .e4m3 => 4
  | .e5m2 => 5

def bias : FFmt → Int
  | .fp32 => 127
  | .fp16 => 15
  | .bf16 => 127
  | .e4m3 => 7
  | .e5m2 => 15

def width (t : FFmt) : Nat := 1 + t.x + t.f

/-- The exponent of a subnormal's last bit. -/
def low (t : FFmt) : Int := 1 - t.bias - t.f

/-- Bits of the largest finite magnitude. -/
def maxBits : FFmt → Nat
  | .fp32 => 0x7F7FFFFF
  | .fp16 => 0x7BFF
  | .bf16 => 0x7F7F
  | .e4m3 => 0x7E
  | .e5m2 => 0x7B

/-- Bits of +infinity (E4M3 has none: its NaN). -/
def infBits : FFmt → Nat
  | .fp32 => 0x7F800000
  | .fp16 => 0x7C00
  | .bf16 => 0x7F80
  | .e4m3 => 0x7F
  | .e5m2 => 0x7C

/-- The canonical NaN (04 R84). -/
def nanBits : FFmt → Nat
  | .fp32 => 0x7FC00000
  | .fp16 => 0x7E00
  | .bf16 => 0x7FC0
  | .e4m3 => 0x7F
  | .e5m2 => 0x7E

/-- The sign bit's weight. -/
def signBit (t : FFmt) : Nat := 2 ^ (t.x + t.f)

/-- A magnitude's bits with a sign. -/
def withSign (t : FFmt) (neg : Bool) (b : Nat) : Nat := if neg then t.signBit + b else b

/-- What a bit pattern of the format stands for; a BF16 subnormal reads as a zero of its sign (04 R92). -/
def decode (t : FFmt) (b : Nat) : Num :=
  let neg := b / t.signBit % 2 = 1
  let mag := b % t.signBit
  let ex := mag / 2 ^ t.f
  let fr := mag % 2 ^ t.f
  if t = .e4m3 ∧ mag = 0x7F then .nan false
  else if t ≠ .e4m3 ∧ ex = 2 ^ t.x - 1 then
    if fr = 0 then .inf neg
    else .nan (decide ((t = .fp32 ∨ t = .fp16 ∨ t = .bf16) ∧ fr / 2 ^ (t.f - 1) = 0))
  else if ex = 0 then (if t = .bf16 then .fin neg 0 t.low else .fin neg fr t.low)
  else .fin neg (2 ^ t.f + fr) (t.low + (ex : Int) - 1)

end FFmt

/-! ## Rounding (04 R90, R92, R93) -/

/-- A rounding mode; SR with the advanced generator of its lane. -/
inductive Mode where
  | rne | rtz | rdn | rup
  | sr (x : BitVec 32)
deriving DecidableEq, Repr

/-- MODE of FRM, and the RND field of a scale register or a readout (04 R88, R97). -/
def Mode.ofFrm (m : BitVec 2) : Mode := if m = 0 then .rne else if m = 1 then .rtz else if m = 2 then .rdn else .rup

/-- m × 2^e in units of 2^q, rounded to a whole number, and whether it was inexact. -/
def roundUnits (mode : Mode) (neg : Bool) (m : Nat) (e q : Int) : Nat × Bool :=
  if q ≤ e then (m <<< (e - q).toNat, false)
  else
    let sh := (q - e).toNat
    let n := m >>> sh
    let r := m % 2 ^ sh
    if r = 0 then (n, false)
    else
      let up : Bool := match mode with
        | .rne => decide (2 ^ sh < 2 * r) || (decide (2 * r = 2 ^ sh) && decide (n % 2 = 1))
        | .rtz => false
        | .rdn => neg
        | .rup => !neg
        | .sr x =>
          let g := x.toNat >>> 8
          if neg then !(decide (g < ((2 ^ sh - r) <<< 24) >>> sh)) else decide (g < (r <<< 24) >>> sh)
      (if up then n + 1 else n, true)

/-- What an overflow gives (04 R90, R94): the IEEE rule, saturation to the largest finite magnitude, or a fixed pattern. -/
inductive OverRule where
  | ieee
  | saturate
  | fixed (bits : Nat)
deriving DecidableEq, Repr

/-- Bits of an overflow of the given sign. -/
def overflowBits (t : FFmt) (rule : OverRule) (mode : Mode) (neg : Bool) : Nat :=
  match rule with
  | .saturate => t.withSign neg t.maxBits
  | .fixed b => b
  | .ieee =>
    match mode with
    | .rne => t.withSign neg t.infBits
    | .sr _ => t.withSign neg t.infBits
    | .rtz => t.withSign neg t.maxBits
    | .rdn => if neg then t.withSign true t.infBits else t.maxBits
    | .rup => if neg then t.withSign true t.maxBits else t.infBits

/-- Magnitude bits of m × 2^e rounded to the format with the exponent unbounded above, and whether it was inexact. -/
def roundMag (t : FFmt) (mode : Mode) (neg : Bool) (m : Nat) (e : Int) : Nat × Bool :=
  let q := max (e + Nat.log2 m - t.f) t.low
  let (n, inex) := roundUnits mode neg m e q
  ((q - t.low).toNat * 2 ^ t.f + n, inex)

/-- Whether m × 2^e is tiny after rounding with an unbounded exponent range (04 R88). -/
def tinyAfter (t : FFmt) (mode : Mode) (neg : Bool) (m : Nat) (e : Int) : Bool :=
  let q := e + Nat.log2 m - t.f
  let (n, _) := roundUnits mode neg m e q
  decide (q + Nat.log2 n < 1 - t.bias)

/-- A finite nonzero m × 2^e rounded into the format, with its flags. -/
def roundFin (t : FFmt) (rule : OverRule) (mode : Mode) (neg : Bool) (m : Nat) (e : Int) : Flagged Nat :=
  let beyond := decide (t.maxBits < (roundMag t .rup false m e).1)
  let mode : Mode := match mode with
    | .sr x => if beyond then .rne else .sr x
    | md => md
  let (b, inex) := roundMag t mode neg m e
  if t.maxBits < b then (overflowBits t rule mode neg, FFlag.ovf ||| FFlag.nx)
  else if t = .bf16 ∧ b < 2 ^ t.f ∧ b ≠ 0 then (t.withSign neg 0, FFlag.uf ||| FFlag.nx)
  else
    (t.withSign neg b, (if inex then FFlag.nx else 0) ||| (if inex && tinyAfter t mode neg m e then FFlag.uf else 0))

/-- A number rounded into the format by R90 and R92: a NaN becomes the canonical one; the caller raises NV where an input signals. -/
def roundTo (t : FFmt) (rule : OverRule) (mode : Mode) : Num → Flagged Nat
  | .nan _ => (t.nanBits, 0)
  | .inf neg => (t.withSign neg t.infBits, 0)
  | .fin neg 0 _ => (t.withSign neg 0, 0)
  | .fin neg (m + 1) e => roundFin t rule mode neg (m + 1) e

/-- A number rounded to an integer, with whether it was inexact. -/
def roundInt (mode : Mode) (neg : Bool) (m : Nat) (e : Int) : Int × Bool :=
  let (n, inex) := roundUnits mode neg m e 0
  (Num.signed neg n, inex)

/-- Whether a number lies beyond the range [lo, hi]; a negative fraction lies beyond no unsigned range, for its magnitude is within it (04 R93, R94). -/
def outside (lo hi : Int) (neg : Bool) (m : Nat) (e : Int) : Bool :=
  let (n, inex) := roundInt .rtz neg m e
  decide (n < lo ∨ hi < n) || (inex && ((decide (n = hi) && !neg) || (decide (n = lo ∧ lo ≠ 0) && neg)))

/-- The integer row of R94: a number rounded into [lo, hi], saturating with NV; under SR one beyond the range is rounded as under RNE (04 R93). -/
def toIntRange (lo hi : Int) (mode : Mode) : Num → Flagged Int
  | .nan _ => (0, FFlag.nv)
  | .inf neg => (if neg then lo else hi, FFlag.nv)
  | .fin neg m e =>
    if (200 : Int) < e + Nat.log2 m ∧ m ≠ 0 then (if neg then lo else hi, FFlag.nv)
    else
      let mode : Mode := match mode with
        | .sr x => if outside lo hi neg m e then .rne else .sr x
        | md => md
      let (n, inex) := roundInt mode neg m e
      if n < lo then (lo, FFlag.nv)
      else if hi < n then (hi, FFlag.nv)
      else (n, if inex then FFlag.nx else 0)

/-- Conversion to E8M0 (04 R94, R95): the magnitude rounded onto the powers of two from 2^−127 to 2^127. -/
def toE8M0 (mode : Mode) : Num → Flagged Nat
  | .nan _ => (0xFF, 0)
  | .inf _ => (0xFF, 0)
  | .fin _ m e =>
    if m = 0 then (0, 0)
    else
      let k : Int := e + Nat.log2 m
      let fr := m - 2 ^ Nat.log2 m
      let one := 2 ^ Nat.log2 m
      let mode : Mode := match mode with
        | .sr x => if 127 < k ∨ (k = 127 ∧ fr ≠ 0) then .rne else .sr x
        | md => md
      let up : Bool :=
        if fr = 0 then false
        else match mode with
          | .rne => decide (one < 2 * fr) || (decide (2 * fr = one) && decide ((k + 127) % 2 = 1))
          | .rtz => false
          | .rdn => false
          | .rup => true
          | .sr x => decide (x.toNat >>> 8 < (fr <<< 24) / one)
      let k' := if up then k + 1 else k
      let nx : FFlags := if fr = 0 then 0 else FFlag.nx
      if 127 < k' then (0xFE, FFlag.ovf ||| FFlag.nx)
      else if k' < -127 then (0, FFlag.uf ||| FFlag.nx)
      else ((k' + 127).toNat, nx)

/-! ## Tags (04 R81, R82, R86) -/

namespace Fmt
def int32 : Tag := 0
def uint32 : Tag := 1
def fp32 : Tag := 2
def int16 : Tag := 3
def uint16 : Tag := 4
def fp16 : Tag := 5
def bf16 : Tag := 6
def int8 : Tag := 7
def uint8 : Tag := 8
def e4m3 : Tag := 9
def e5m2 : Tag := 10
def e8m0 : Tag := 11
def k8a : Tag := 12
def k8b : Tag := 13

/-- Element width in bits. -/
def width (t : Tag) : Nat := if t.toNat ≤ 2 then 32 else if t.toNat ≤ 6 then 16 else if t.toNat ≤ 11 then 8 else 16

/-- Elements of a 32-bit lane. -/
def perLane (t : Tag) : Nat := 32 / width t

def legalV (t : Tag) : Bool := decide (t.toNat ≤ 11)
def legalT (t : Tag) : Bool := decide (3 ≤ t.toNat) && decide (t.toNat ≤ 13)

def isSigned (t : Tag) : Bool := decide (t = 0 ∨ t = 3 ∨ t = 7)
def isInt (t : Tag) : Bool := decide (t = 0 ∨ t = 1 ∨ t = 3 ∨ t = 4 ∨ t = 7 ∨ t = 8)

/-- The floating-point format of a tag. -/
def ffmt (t : Tag) : Option FFmt :=
  if t = 2 then some .fp32
  else if t = 5 then some .fp16
  else if t = 6 then some .bf16
  else if t = 9 then some .e4m3
  else if t = 10 then some .e5m2
  else none

/-- What an element stands for. -/
def num (t : Tag) (b : Nat) : Num :=
  match ffmt t with
  | some f => f.decode b
  | none =>
    if t = 11 then (if b % 256 = 255 then .nan false else .fin false 1 ((b % 256 : Nat) - 127))
    else if isSigned t then Num.ofInt (signedOf (width t) b)
    else Num.ofInt (b % 2 ^ width t : Nat)

/-- The least and the greatest value of an integer format. -/
def range (t : Tag) : Int × Int :=
  if isSigned t then (-(2 ^ (width t - 1) : Nat), (2 ^ (width t - 1) : Nat) - 1) else (0, (2 ^ width t : Nat) - 1)

end Fmt

/-- A conversion into the format of a tag (04 R94, R95): `sat` is CVT's saturating rule, else CVTN's. -/
def convert (t : Tag) (sat : Bool) (mode : Mode) (x : Num) : Flagged Nat :=
  if Fmt.isInt t then
    let (n, fl) := toIntRange (Fmt.range t).1 (Fmt.range t).2 mode x
    (wrapTo (Fmt.width t) n, fl)
  else if t = Fmt.e8m0 then
    let (b, fl) := toE8M0 mode x
    (b, fl ||| (if x.isSig then FFlag.nv else 0))
  else
    match Fmt.ffmt t with
    | none => (0, 0)
    | some f =>
      let r : Flagged Nat :=
        match f, x with
        | .e4m3, .inf neg => if sat then (f.withSign neg f.maxBits, FFlag.ovf) else (0x7F, FFlag.nv)
        | .e4m3, x => roundTo f (if sat then .saturate else .fixed 0x7F) mode x
        | .e5m2, x => roundTo f (if sat then .saturate else .ieee) mode x
        | f, x => roundTo f .ieee mode x
      (r.1, r.2 ||| (if x.isSig then FFlag.nv else 0))

/-! ## Arithmetic (04 R87) -/

/-- An exact sum, or the special it gives, and NV where R87 says so.  An exact zero of two opposite numbers is −0 under RDN and +0 otherwise. -/
def addNum (mode : Mode) (a b : Num) : Flagged Num :=
  match a, b with
  | .nan s, .nan t => (.nan false, if s || t then FFlag.nv else 0)
  | .nan s, _ => (.nan false, if s then FFlag.nv else 0)
  | _, .nan t => (.nan false, if t then FFlag.nv else 0)
  | .inf x, .inf y => if x = y then (.inf x, 0) else (.nan false, FFlag.nv)
  | .inf x, _ => (.inf x, 0)
  | _, .inf y => (.inf y, 0)
  | .fin x m e, .fin y n f =>
    let lo := min e f
    let v := Num.signed x (m <<< (e - lo).toNat) + Num.signed y (n <<< (f - lo).toNat)
    if v = 0 then (.fin (if x = y ∧ m = 0 ∧ n = 0 then x else decide (mode = .rdn)) 0 lo, 0)
    else (.fin (decide (v < 0)) v.natAbs lo, 0)

/-- An exact product, or the special it gives. -/
def mulNum (a b : Num) : Flagged Num :=
  match a, b with
  | .nan s, .nan t => (.nan false, if s || t then FFlag.nv else 0)
  | .nan s, _ => (.nan false, if s then FFlag.nv else 0)
  | _, .nan t => (.nan false, if t then FFlag.nv else 0)
  | .inf x, y => if y.isZero then (.nan false, FFlag.nv) else (.inf (x != y.sign), 0)
  | x, .inf y => if x.isZero then (.nan false, FFlag.nv) else (.inf (x.sign != y), 0)
  | .fin x m e, .fin y n f => (.fin (x != y) (m * n) (e + f), 0)

/-- a × b + c, exact before its one rounding.  0 × ∞ sets NV also where the addend is a quiet NaN: 04 R87 lists the product among the invalid
cases and elsewhere gives a quiet NaN no flag (DESIGN CHOICE, log 41). -/
def fmaNum (mode : Mode) (a b c : Num) : Flagged Num :=
  let (p, f1) := mulNum a b
  let (r, f2) := addNum mode p c
  (r, f1 ||| f2)

/-- A quotient carried to 64 bits or more, its last bit set where it is inexact: it rounds to any format as the exact one does. -/
def divNum (a b : Num) : Flagged Num :=
  match a, b with
  | .nan s, .nan t => (.nan false, if s || t then FFlag.nv else 0)
  | .nan s, _ => (.nan false, if s then FFlag.nv else 0)
  | _, .nan t => (.nan false, if t then FFlag.nv else 0)
  | .inf x, y => if y.isInf then (.nan false, FFlag.nv) else (.inf (x != y.sign), 0)
  | x, .inf y => (.fin (x.sign != y) 0 0, 0)
  | .fin x m e, .fin y n f =>
    if n = 0 then (if m = 0 then (.nan false, FFlag.nv) else (.inf (x != y), FFlag.dz))
    else
      let k := 64 + Nat.log2 n
      let q := (m <<< k) / n
      let r := (m <<< k) % n
      (.fin (x != y) (if r = 0 then 2 * q else 2 * q + 1) (e - f - k - 1), 0)

/-- The integer square root of `n` below 2^(2k), bit by bit. -/
def isqrtBits (n : Nat) : Nat → Nat → Nat
  | 0, r => r
  | k + 1, r => if (r + 2 ^ k) * (r + 2 ^ k) ≤ n then isqrtBits n k (r + 2 ^ k) else isqrtBits n k r

/-- The greatest r with r² ≤ n. -/
def isqrt (n : Nat) : Nat := isqrtBits n (Nat.log2 n / 2 + 1) 0

/-- A square root carried to 64 bits or more, sticky in its last bit; −0 gives −0 (08 R174). -/
def sqrtNum (a : Num) : Flagged Num :=
  match a with
  | .nan s => (.nan false, if s then FFlag.nv else 0)
  | .inf neg => if neg then (.nan false, FFlag.nv) else (.inf false, 0)
  | .fin neg m e =>
    if m = 0 then (.fin neg 0 0, 0)
    else if neg then (.nan false, FFlag.nv)
    else
      let (m, e) := if e % 2 = 0 then (m, e) else (2 * m, e - 1)
      let n := m <<< 128
      let r := isqrt n
      (.fin false (if r * r = n then 2 * r else 2 * r + 1) (e / 2 - 64 - 1), 0)

/-- The exact number's flags joined to those of its rounding. -/
def rounded (t : FFmt) (mode : Mode) (x : Flagged Num) : Flagged Nat :=
  let (b, fl) := roundTo t .ieee mode x.1
  (b, x.2 ||| fl)

/-! ## Stochastic rounding (04 R93) -/

/-- One step of a lane's generator. -/
def rngStep (x : BitVec 32) : BitVec 32 :=
  let x := x ^^^ (x <<< 13)
  let x := x ^^^ (x >>> 17)
  x ^^^ (x <<< 5)

/-- A lane's generator at a first bind or a write of SRSEED; `lane` is 16 c + l. -/
def rngSeed (seed : BitVec 32) (tidx tmemb lane : Nat) : BitVec 32 :=
  let x := seed ^^^ (BitVec.ofNat 32 ((tidx * 4 + tmemb) * 0x9E3779B9)) ^^^ (BitVec.ofNat 32 ((lane + 1) * 0x85EBCA6B))
  if x = 0 then 1 else x

/-- The generators of the 128 lanes; a generator is never 0, so the map lists every lane. -/
def rngAll (seed : BitVec 32) (tidx tmemb : Nat) : FMap (BitVec 32) :=
  (List.range 128).map fun l => (l, rngSeed seed tidx tmemb l)

/-! ## K8 weights (04 R99, R100) -/

/-- The eight weights of a K8 code under a codebook entry and an E8M0 scale. -/
def k8Weight (code : BitVec 16) (entry : BitVec 32) (scale : Nat) (i : Nat) : Num :=
  let sgn := (code.toNat >>> 1) % 128
  let bit (j : Nat) : Bool := sgn.testBit j
  let s := if i < 7 then bit i else ((List.range 7).foldl (fun acc j => acc != bit j) false)
  let m := (entry.toNat >>> (4 * i)) % 16
  let half := code.toNat % 2
  let c : Int := Num.signed s m + half
  if scale = 0xFF then .nan false
  else if c = 0 then .fin (if half = 1 then false else s) 0 0
  else .fin (decide (c < 0)) c.natAbs ((scale : Int) - 127 - 1)

/-! ## Window accumulators (04 R102-R108) -/

/-- A zeroed accumulator (04 R102, 09 R208). -/
def Window.zeroed : Window := { Init.window with negz := true }

/-- The term of two operands (04 R105); a product with a NaN or of an infinity and a zero is a NaN. -/
def term (a b : Num) : Num := (mulNum a b).1

/-- window_add of 04 R105 under the row's anchor. -/
def Window.add (anchor : Int) (w : Window) (q : Num) : Window :=
  let w := { w with any := true }
  match q with
  | .nan _ => { w with nan := true, negz := false }
  | .inf false => { w with pinf := true, negz := false }
  | .inf true => { w with ninf := true, negz := false }
  | .fin neg m e =>
    let sh := e - anchor
    let n := if 0 ≤ sh then m <<< sh.toNat else m >>> (-sh).toNat
    let lost := decide (sh < 0) && decide (m % 2 ^ (-sh).toNat ≠ 0)
    let clip := decide (2 ^ 159 ≤ n)
    let n := if clip then 2 ^ 159 - 1 else n
    { w with
      lost := w.lost || lost
      clip := w.clip || clip
      negz := w.negz && decide (n = 0) && neg
      val := w.val + BitVec.ofInt 184 (Num.signed neg n) }

/-- window_merge of 04 R106. -/
def Window.merge (w u : Window) : Window :=
  { val := w.val + u.val, nan := w.nan || u.nan, pinf := w.pinf || u.pinf, ninf := w.ninf || u.ninf, any := w.any || u.any
    negz := w.negz && u.negz, lost := w.lost || u.lost, clip := w.clip || u.clip }

/-- The 24 bytes of an accumulator (04 R102). -/
def Window.bits (w : Window) : Nat :=
  w.val.toNat + (w.nan.toNat <<< 184) + (w.pinf.toNat <<< 185) + (w.ninf.toNat <<< 186) + (w.any.toNat <<< 187)
    + (w.negz.toNat <<< 188) + (w.lost.toNat <<< 189) + (w.clip.toNat <<< 190)

/-- The accumulator that 24 bytes hold. -/
def Window.ofBits (x : Nat) : Window :=
  { val := BitVec.ofNat 184 x, nan := x.testBit 184, pinf := x.testBit 185, ninf := x.testBit 186, any := x.testBit 187
    negz := x.testBit 188, lost := x.testBit 189, clip := x.testBit 190 }

/-- The readout of 04 R108 into the format of a tag: FP32, BF16, FP16 or INT32. -/
def Window.readout (anchor : Int) (w : Window) (t : Tag) (mode : Mode) : Flagged Nat :=
  let extra := (if w.clip then FFlag.ovf else 0) ||| (if w.lost then FFlag.nx else 0)
  let v := w.val.toInt
  let r : Flagged Nat :=
    if w.nan || (w.pinf && w.ninf) then ((convert t false mode (.nan false)).1, FFlag.nv)
    else if w.pinf then convert t false mode (.inf false)
    else if w.ninf then convert t false mode (.inf true)
    else if v = 0 then convert t false mode (.fin (w.any && w.negz) 0 0)
    else if v < -(2 ^ 159) ∨ 2 ^ 159 ≤ v then
      match Fmt.ffmt t with
      | some f => (overflowBits f .ieee mode (decide (v < 0)), FFlag.ovf ||| FFlag.nx)
      | none => let r := convert t false mode (.inf (decide (v < 0))); (r.1, r.2 ||| FFlag.ovf)
    else convert t false mode (.fin (decide (v < 0)) v.natAbs anchor)
  (r.1, r.2 ||| extra)

/-- Adef of 04 R104 for an activation and a weight format; BF16 × BF16 has none, a pair outside the table is reserved. -/
inductive Adef where
  | anchor (a : Int)
  | named
  | reserved
deriving DecidableEq, Repr

/-- The default anchor of an operand pair (04 R104). -/
def adef (act wgt : Tag) : Adef :=
  let i8 (t : Tag) : Bool := decide (t = 7 ∨ t = 8)
  let k8 (t : Tag) : Bool := decide (t = 12 ∨ t = 13)
  if act = 9 ∧ wgt = 9 then .anchor (-18)
  else if (act = 9 ∧ wgt = 10) ∨ (act = 10 ∧ wgt = 9) then .anchor (-25)
  else if act = 10 ∧ wgt = 10 then .anchor (-32)
  else if i8 act && i8 wgt then .anchor 0
  else if act = 5 ∧ wgt = 5 then .anchor (-48)
  else if act = 9 && k8 wgt then .anchor (-10)
  else if act = 10 && k8 wgt then .anchor (-17)
  else if i8 act && k8 wgt then .anchor (-1)
  else if act = 5 && k8 wgt then .anchor (-25)
  else if act = 6 ∧ wgt = 6 then .named
  else .reserved

end Sys2Proof.Machine
end

