-- ==== Sys2Proof/Machine/Flags.lean ====
section
/-! DEFINITION. Comparison conditions, the predicates that comparisons set, and the minimum and maximum of floating-point elements with their flags (07 R144, 08 R170). -/

namespace Sys2Proof.Machine

/-- The condition codes of CMP and CMPI over 64-bit operands (06 R121, 07 R144): EQ, NE, LT, GE, LTU, GEU. -/
def compareS (cc : BitVec 3) (a b : BitVec 64) : Bool :=
  if cc = 0 then decide (a = b)
  else if cc = 1 then decide (a ≠ b)
  else if cc = 2 then a.slt b
  else if cc = 3 then b.sle a
  else if cc = 4 then a.ult b
  else b.ule a

/-- The pair that a comparison sets: the outcome in p(2r), its negation in p(2r+1). -/
def pairWrites (physP : Nat → Nat) (r : BitVec 3) (x : Bool) : List RegWrite :=
  [.p (physP (2 * r.toNat)) x, .p (physP (2 * r.toNat + 1)) (!x)]

/-! ## Minimum and maximum of floating-point elements (08 R170) -/

/-- A number as it is returned bit for bit: a BF16 subnormal as the zero it was read as (08 R170). -/
def asRead (f : FFmt) (x : Nat) : Nat := if f = .bf16 ∧ (f.decode x).isZero = true then f.withSign (f.decode x).sign 0 else x

/-- The order of two numbers with −0 below +0 (08 R170). -/
def totalBefore (a b : Num) : Bool := decide (a.order b < 0) || (decide (a.order b = 0) && a.sign && !b.sign)

/-- FMIN and FMAX of elements. -/
def fpickElem (f : FFmt) (max : Bool) (x y : Nat) : Flagged Nat :=
  let a := f.decode x
  let b := f.decode y
  let nv : FFlags := if a.isSig || b.isSig then FFlag.nv else 0
  if a.isNan && b.isNan then (f.nanBits, nv)
  else if a.isNan then (asRead f y, nv)
  else if b.isNan then (asRead f x, nv)
  else (if totalBefore a b != max then asRead f x else asRead f y, nv)

end Sys2Proof.Machine
end

