-- ==== Sys2Proof/Machine/Atomics.lean ====
section
/-! DEFINITION. What an atomic does to the element at its home (10 R230). -/

namespace Sys2Proof.Machine

/-- Bytes of an element by its SZ code (06 R121): 2 word, 3 double, 4 FP32, 5 BF16, 6 FP16. -/
def atomBytes (sz : BitVec 3) : Nat := if sz = 3 then 8 else if sz = 2 ∨ sz = 4 then 4 else 2

/-- The floating-point format of an element, if it has one. -/
def atomFmt (sz : BitVec 3) : Option FFmt := if sz = 4 then some .fp32 else if sz = 5 then some .bf16 else if sz = 6 then some .fp16 else none

/-- The new element, from the old one `m`, the operand `x` and the second operand `x2`; memory-side rounding raises no flag. -/
def atomApply (op : AtomOp) (sz : BitVec 3) (m x : Nat) (x2 : BitVec 64) : Nat :=
  let w := 8 * atomBytes sz
  let m := m % 2 ^ w
  let x := x % 2 ^ w
  let pick (max : Bool) : Nat :=
    match atomFmt sz with
    | some f => (fpickElem f max m x).1
    | none => if decide (signedOf w m < signedOf w x) != max then m else x
  match op with
  | .add => (m + x) % 2 ^ w
  | .addf =>
    let f := (atomFmt sz).getD .fp32
    (rounded f .rne (addNum .rne (f.decode m) (f.decode x))).1
  | .min => pick false
  | .max => pick true
  | .and => m &&& x
  | .or => m ||| x
  | .xor => m ^^^ x
  | .xch => x
  | .cas => if m = x then x2.toNat % 2 ^ w else m

end Sys2Proof.Machine
end

