-- ==== Sys2Proof/Machine/Ops.lean ====
section
/-! DEFINITION. Named operations over a core: its register files with rotation, its scratchpad, pending results and landings, and taking a trap and returning from one. -/

namespace Sys2Proof.Machine

/-! ## Rotation (03 R68) -/

/-- physical(first + i) = first + ((i + B) mod size); registers below `first` do not rotate. -/
def rotated (first size base n : Nat) : Nat := if n < first then n else first + (n - first + base) % size

def Ctx.physS (c : Ctx) (n : Nat) : Nat := rotated 32 32 c.sB.toNat n
def Ctx.physV (c : Ctx) (n : Nat) : Nat := rotated 48 16 c.vB.toNat n
def Ctx.physP (c : Ctx) (n : Nat) : Nat := rotated 8 8 c.pB.toNat n
def Ctx.physK (c : Ctx) (n : Nat) : Nat := rotated 4 4 c.kB.toNat n

/-- Every rotating file rotates: its base falls by 1, modulo its size. -/
def Ctx.rotate (c : Ctx) : Ctx := { c with sB := c.sB - 1, vB := c.vB - 1, pB := c.pB - 1, kB := c.kB - 1 }

/-! ## Register files (03 R66); registers are named as a slot names them -/

def Ctx.getS (c : Ctx) (n : Nat) : BitVec 64 := if n = 0 then 0 else mapGet 0 c.s (c.physS n)
def Ctx.getV (c : Ctx) (n : Nat) : VReg := mapGet 0 c.v (c.physV n)
/-- A register's tag: that of cluster 0, every write setting those of all clusters alike (08 R183; log 4). -/
def Ctx.getVTag (c : Ctx) (n : Nat) : Tag := (mapGet 0 c.vtag (c.physV n)).truncate 4
def Ctx.getP (c : Ctx) (n : Nat) : Bool := if n = 0 then true else if n = 1 then false else c.p.getLsbD (c.physP n)
def Ctx.getA (c : Ctx) (n : Nat) : AReg := mapGet 0 c.a n
def Ctx.getMk (c : Ctx) (n : Nat) : Mask := mapGet (BitVec.allOnes 512) c.mks n
def Ctx.getE (c : Ctx) (n : Nat) : Desc := mapGet 0 c.e n
def Ctx.getQs (c : Ctx) (n : Nat) : BitVec 16 := mapGet 0 c.qs n
def Ctx.getStep (c : Ctx) (lvl n : Nat) : AReg := mapGet 0 c.step (16 * lvl + n)
def Ctx.getLevel (c : Ctx) (l : Nat) : Level := mapGet Init.level c.lc l

def Ctx.setLevel (c : Ctx) (l : Nat) (x : Level) : Ctx := { c with lc := mapSet Init.level c.lc l x }

/-- Bit `n` of the predicate file; p0 and p1 are fixed. -/
def Ctx.setPhysP (c : Ctx) (n : Nat) (x : Bool) : Ctx :=
  if n ≤ 1 then c else { c with p := if x then c.p ||| BitVec.twoPow 16 n else c.p &&& ~~~(BitVec.twoPow 16 n) }

/-- Word `w` of a descriptor replaced. -/
def setDescWord (d : Desc) (w : Nat) (x : BitVec 64) : Desc := BitVec.ofNat 256 (withField d.toNat (64 * w + 63) (64 * w) x.toNat)

/-- A register's value changes; register numbers are physical.  Writes to s0, p0 and p1 are discarded (03 R66). -/
def Ctx.put (c : Ctx) : RegWrite → Ctx
  | .s n x => if n = 0 then c else { c with s := mapSet 0 c.s n x }
  | .v n x tag => { c with v := mapSet 0 c.v n x, vtag := mapSet 0 c.vtag n (BitVec.replicate 8 tag) }
  | .p n x => c.setPhysP n x
  | .a n x => { c with a := mapSet 0 c.a n x }
  | .mk n x => { c with mks := mapSet (BitVec.allOnes 512) c.mks n x }
  | .e n x => { c with e := mapSet 0 c.e n x }
  | .ew n w x => { c with e := mapUpd 0 c.e n fun d => setDescWord d w.toNat x }
  | .step lvl n x => { c with step := mapSet 0 c.step (16 * lvl + n) x }

/-- File and number of a register written: 0 scalar, 1 vector, 2 predicate, 3 address (steps from 64), 4 mask, 6 descriptor. -/
def RegWrite.target : RegWrite → Nat × Nat
  | .s n _ => (0, n)
  | .v n _ _ => (1, n)
  | .p n _ => (2, n)
  | .a n _ => (3, n)
  | .mk n _ => (4, n)
  | .e n _ => (6, n)
  | .ew n _ _ => (6, n)
  | .step _ n _ => (3, 64 + n)

/-- Whether it writes 8 bytes of the register, by number: all of them, but for one word of a descriptor. -/
def RegWrite.covers : RegWrite → Nat → Bool
  | .ew _ w _, g => decide (g = w.toNat)
  | _, _ => true

/-- Poison that a register held is gone where it is written (17 R332). -/
def Ctx.heal (c : Ctx) (file n : Nat) (g : Nat → Bool) : Ctx :=
  { c with bad := c.bad.filter fun b => !(decide (b.1 = file) && decide (b.2.1 = n) && g b.2.2) }

/-- A register write takes effect. -/
def Ctx.write (c : Ctx) (w : RegWrite) : Ctx := (c.put w).heal w.target.1 w.target.2 w.covers

/-- The poisoned 8 bytes of a physical register, by bit. -/
def Ctx.badMask (c : Ctx) (file n : Nat) : Nat :=
  ((c.bad.filter fun b => decide (b.1 = file) && decide (b.2.1 = n)).map (·.2.2)).dedup.foldl (fun m g => m + 2 ^ g) 0

/-- Whether a physical register holds poison. -/
def Ctx.isBad (c : Ctx) (file n : Nat) : Bool := c.bad.any fun b => decide (b.1 = file) && decide (b.2.1 = n)

/-- Flags ORed into FFLAGS (04 R89). -/
def Ctx.orFlags (c : Ctx) (f : FFlags) : Ctx := { c with fflags := c.fflags ||| f }

/-! ## Tokens (03 R74) -/

/-- Whether physical token `k` is complete; k0 always is. -/
def Ctx.tokenDone (c : Ctx) (k : Nat) : Bool := k = 0 || (mapGet none c.k k).isNone

/-- Token `k` becomes pending, produced by operation `op`; complete when `none`. -/
def Ctx.setToken (c : Ctx) (k : Nat) (op : Option Nat) : Ctx := if k = 0 then c else { c with k := mapSet none c.k k op }

/-- The token that an operation still owns completes (07 R165). -/
def Ctx.completeToken (c : Ctx) (k op : Nat) : Ctx := if mapGet none c.k k = some op then c.setToken k none else c

/-! ## The pool (03 R62-R65) -/

def Ctx.pw (c : Ctx) : Nat := c.id.partw.toNat
def nReg (pw : Nat) : Nat := fieldOf pw 5 0
def nAcc (pw : Nat) : Nat := fieldOf pw 11 6
def nLand (pw : Nat) : Nat := fieldOf pw 17 12
def nCache (pw : Nat) : Nat := fieldOf pw 23 18
/-- Plain scratchpad banks. -/
def nPlain (pw : Nat) : Nat := 48 - nReg pw - nAcc pw - nLand pw - nCache pw
/-- Bytes of the plain region, and of the offset space (03 R64). -/
def plainSize (pw : Nat) : Nat := nPlain pw * 98304
def spSize (pw : Nat) : Nat := (nPlain pw + nCache pw) * 98304
/-- Window rows W, and landing rows. -/
def windowRows (pw : Nat) : Nat := nAcc pw * 32
def landRows (pw : Nat) : Nat := nLand pw * 192
/-- Enabled ways of the tag table. -/
def cacheWays (pw : Nat) : Nat := nCache pw * 24 / 64

/-- The pool bank that holds a scratchpad offset (03 R62, R64). -/
def bankOf (pw off : Nat) : Nat :=
  if off < plainSize pw then nReg pw + nAcc pw + nLand pw + nCache pw + off / 128 % nPlain pw
  else nReg pw + nAcc pw + nLand pw + (off - plainSize pw) / 128 % nCache pw

/-- The banks that `n` bytes from an offset touch. -/
def banksOf (pw off n : Nat) : List Nat := (upFrom (off / 128) ((off + n + 127) / 128 - off / 128)).map fun l => bankOf pw (128 * l)

/-- Whether the core runs a member in protected mode. -/
def Core.prot (c : Core) : Bool := match c.task with
  | some b => b.prot
  | none => false

/-- A line of the pool is written in an open segment: its first write takes an undo-log entry (19 R366).  Areas: 0 scratchpad, 1 tiles,
codebooks and planes, 2 window rows, 3 landing rows. -/
def Core.logLine (c : Core) (area line : Nat) : Core :=
  let id := area * 2 ^ 32 + line
  if c.prot && c.seg.openSeg && !(c.seg.log.any fun x => decide (x.1 = id)) then { c with seg := { c.seg with log := c.seg.log ++ [(id, c.pool)] } }
  else c

/-- `n` bytes of own scratchpad. -/
def Core.spRead (c : Core) (off n : Nat) : Nat := readBytes c.pool.sp off n

/-- Whether an 8-byte granule that the bytes touch is poisoned (17 R332). -/
def Core.spPoisoned (c : Core) (off n : Nat) : Bool :=
  !c.pool.psn.isEmpty && (upFrom (off / 8) ((off + n + 7) / 8 - off / 8)).any fun i => mapGet false c.pool.psn i

/-- Poison marks after a scratchpad write. -/
def markSpPoison (m : FMap Bool) (off n : Nat) (psn : Bool) : FMap Bool :=
  if psn then (upFrom (off / 8) ((off + n + 7) / 8 - off / 8)).foldl (fun m i => mapSet false m i true) m
  else m.filter fun x => !(decide (off ≤ 8 * x.1) && decide (8 * x.1 + 8 ≤ off + n))

/-- Tag-table keys (64 way + set) of the slots that the bytes touch (03 R64). -/
def slotsOf (pw off n : Nat) : List Nat :=
  if off + n ≤ plainSize pw then []
  else
    let lo := (max off (plainSize pw) - plainSize pw) / 4096
    (upFrom lo ((off + n - plainSize pw + 4095) / 4096 - lo)).filter fun i => decide (i < 64 * cacheWays pw)

/-- A write into a slot whose way is valid sets DIRTY (10 R226). -/
def Core.markSlots (c : Core) (off n : Nat) : Core :=
  (slotsOf c.ctx.pw off n).foldl
    (fun c i =>
      let e := mapGet Init.tagEntry c.pool.tagt i
      if e.st = 2 then { c with pool := { c.pool with tagt := mapSet Init.tagEntry c.pool.tagt i { e with dirty := true } } } else c) c

/-- `n` bytes of the number `x` written to own scratchpad. -/
def Core.spWrite (c : Core) (off n x : Nat) (psn : Bool) : Core :=
  let c := (upFrom (off / 128) ((off + n + 127) / 128 - off / 128)).foldl (fun c l => c.logLine 0 l) c
  let c := { c with pool := { c.pool with sp := writeBytes c.pool.sp off n x, psn := markSpPoison c.pool.psn off n psn } }
  c.markSlots off n

/-- A store of `n` bytes, the poison of its data going with it (17 R332). -/
def Core.spStore (c : Core) (off n x psn : Nat) : Core :=
  if psn = 0 then c.spWrite off n x false
  else (pieces 8 (n / 8 + 2) 0 n).foldl (fun c p => c.spWrite (off + p.1) p.2 (bytesOf x p.1 p.2) (psn.testBit (p.1 / 8))) c

/-- The first byte of [off, off + n) outside the offset space, if one lies outside (18 R347, 0x1202). -/
def spOutside (pw off n : Nat) : Option Nat := if off + n ≤ spSize pw then none else some (max off (spSize pw))

/-! ## Pending results and landings (03 R69-R71) -/

/-- Whether a register (file and physical number) is pending: a result in flight, a landing, or a destination of an MSTAT, whose operation
holds the three numbers (09 R212). -/
def Core.pending (c : Core) (file n : Nat) : Bool :=
  (c.pipe.any fun r => decide (r.write.target = (file, n))) || (c.land.any fun l => decide (l.file = file) && decide (l.dest = n))
    || (decide (file = 1) && c.ops.any fun o => decide (o.name = .mstat) && [o.snap.s1, o.snap.s2, o.snap.s3].any fun r => decide (r.toNat = n))

/-- Bytes a landing carries (15 R416). -/
def Landing.bytes (l : Landing) : Nat := if l.file = 0 then 2 ^ l.sz.toNat else 512 >>> l.sz.toNat

/-- The register a landing's data gives: a scalar zero-extended, or the first lanes of a vector register with the rest and the tag
unchanged (10 R227). -/
def Ctx.landWrite (c : Ctx) (l : Landing) (x : Nat) : Ctx :=
  let x := x % 256 ^ l.bytes
  if l.file = 0 then c.write (.s l.dest (BitVec.ofNat 64 x))
  else
    let old := mapGet 0 c.v l.dest
    ({ c with v := mapSet 0 c.v l.dest (BitVec.ofNat 4096 (old.toNat / 256 ^ l.bytes * 256 ^ l.bytes + x)) } : Ctx).heal 1 l.dest fun g =>
      decide (8 * g + 8 ≤ l.bytes)

/-- Landings that satisfy `f` and whose data has arrived are written, and their entries released. -/
def Core.writeLandings (c : Core) (f : Landing → Bool) : Core :=
  let go (l : Landing) : Bool := f l && l.data.isSome
  { c with
    ctx := (c.land.filter go).foldl (fun x l => x.landWrite l (l.data.getD 0)) c.ctx
    land := c.land.filter fun l => !go l }

/-- Whether a landing that `writeLandings` writes is poisoned: the register consumes it (17 R332). -/
def Core.landingPoison (c : Core) (f : Landing → Bool) : Bool := c.land.any fun l => f l && l.data.isSome && l.psn

/-- One issue cycle of the fixed-latency pipelines: results that fall due are written and their flags ORed (03 R69, 04 R89). -/
def Core.tickPipe (c : Core) : Core :=
  let due := c.pipe.filter fun r => decide (r.left ≤ 1)
  { c with
    ctx := due.foldl (fun x r => (x.write r.write).orFlags r.flags) c.ctx
    pipe := (c.pipe.filter fun r => decide (1 < r.left)).map fun r => { r with left := r.left - 1 } }

/-- Every pending result is written and its flags ORed (18 R343 step 1). -/
def Core.flushPipe (c : Core) : Core :=
  { c with ctx := c.pipe.foldl (fun x r => (x.write r.write).orFlags r.flags) c.ctx, pipe := [] }

/-- A bundle ends: every landing is one bundle nearer, and those whose bundle this is fall due (03 R70). -/
def Core.tickLand (c : Core) : Core :=
  { c with land := c.land.map fun l => if l.due then l else if l.left = 0 then { l with due := true } else { l with left := l.left - 1 } }

/-! ## Virtual access by a core (15 R413) -/

/-- A write of the core into its save area, under its task's address space, in pieces of at most 8 bytes: pieces that fail, or that do not lie in a
stack of the partition, are skipped (15 R413). -/
def State.corePut (s : State) (c : BitVec 8) (va n x : Nat) : State :=
  (pieces 8 (n / 8 + 2) va n).foldl
    (fun s p => match s.xlateCore c .readWrite p.1 with
      | .ok (.stack pa) => if s.crosses (s.partOfCore c) pa.toNat then s else (s.put (coreKey c) (.stack pa) p.2 (bytesOf x (p.1 - va) p.2) false).1
      | .held => s.waits
      | .stopped pa => s.gateStops pa
      | _ => s) s

/-- Bytes of one member's save area (15 R315). -/
def saveBytes (save : Bool) : Nat := if save then 4736 * 1024 else 896 * 1024

/-- Virtual address of a member's save area (02 R47, 15 R315). -/
def saveArea (base : BitVec 64) (save : Bool) (tidx tgran memb : Nat) : Nat :=
  base.toNat + tidx * (tgran * saveBytes save) + memb * saveBytes save

/-- The nine control registers of the save area's offset 0x620 as one number (15 R315). -/
def Ctx.csrBlock (x : Ctx) : Nat :=
  [x.frm.toNat, x.fflags.toNat, x.srseed.toNat, x.waitcap.toNat, x.tvec.toNat, x.tpc.toNat, x.tcause.toNat, x.tval.toNat, x.cycle.toNat].foldr
    (fun w acc => w + acc <<< 64) 0

/-! ## Traps (18 R343, R344) -/

/-- What a trap records: TPC, TCAUSE and TVAL. -/
def Ctx.recordTrap (x : Ctx) (t : Trap) (tpc : BitVec 64) : Ctx :=
  { x with tpc := tpc, tcause := t.port ++ t.code, tval := t.tval }

/-- Whether a trap is in its handler: TCAUSE.CODE ≠ 0. -/
def Ctx.inTrap (x : Ctx) : Bool := decide (x.tcause.truncate 16 ≠ (0 : BitVec 16))

/-- The handler takes over: the bundle at TVEC is the next to issue.  The nest stays as it is (18 R345).  A TVEC that is no multiple of 16 raises no
fault of its own: the words from that address are fetched and framed as they stand, and so for TPC and a node's ENTRY (DESIGN CHOICE, log 41). -/
def Core.enterHandler (c : Core) (t : Trap) (tpc : BitVec 64) : Core :=
  { c with ctx := { c.ctx.recordTrap t tpc with pc := c.ctx.tvec, waitOk := false }, trap := none, sinceJump := 0, predS := 0, predD := 0, predP := 0
           removed := false, removedP := false, frozeLand := 0, frozeTok := 0, frozeSb := 0, waited := 0, frozeOn := []
           frozePast := if c.frozeOn = [] then none else some (tpc, c.frozeOn), fence := none, poll := none
           iss := Init.issue, got := [] }

/-- The report of a trap that kills (18 R344): its registers are set, and the member's control registers written to its save area. -/
def State.reportTrap (s : State) (c : BitVec 8) (t : Trap) (tpc : BitVec 64) : State :=
  let core := s.core c
  let s := s.setCore c { core with ctx := core.ctx.recordTrap t tpc, trap := none, iss := Init.issue }
  match core.task with
  | none => s
  | some b =>
    let x := (s.core c).ctx
    s.corePut c (saveArea b.savebase b.save x.id.tidx x.id.tgran b.memb + 0x620) 72 x.csrBlock

/-- A trap that kills is reported, and the task killed. -/
def State.trapKill (s : State) (c : BitVec 8) (t : Trap) (tpc : BitVec 64) : State :=
  match (s.core c).task with
  | none => s.reportTrap c t tpc
  | some b => (s.reportTrap c t tpc).killTask b t.code

/-- The trap as it is delivered: inside a handler as the double fault 0x1502 (18 R344). -/
def Ctx.delivered (x : Ctx) (t : Trap) : Trap := if x.inTrap then { t with code := 0x1502, tval := t.code.zeroExtend 64 } else t

/-- Whether a trap enters a handler; else it kills. -/
def Ctx.handles (x : Ctx) : Bool := decide (x.tvec ≠ 0) && !x.inTrap

/-- Pending results, and landings that have arrived, are written (18 R343 step 1). -/
def Core.settle (c : Core) : Core := c.flushPipe.writeLandings fun _ => true

/-- A trap's delivery once every landing has arrived (18 R343, R344): pending results and landings are written, the registers of the trap are
set, and the handler issues next; with TVEC 0 or inside a handler the task is killed, its control registers saved first.  Poison that a landing
brings is consumed first, and then nothing is delivered (18 R361). -/
def State.finishTrap (s : State) (c : BitVec 8) (t : Trap) (tpc : BitVec 64) : State :=
  let core := (s.core c).settle
  if (s.core c).landingPoison fun _ => true then (s.setCore c { core with trap := none, iss := Init.issue }).consume c 3 0 0
  else if core.ctx.handles then s.setCore c (core.enterHandler t tpc)
  else (s.setCore c core).trapKill c (core.ctx.delivered t) tpc

/-- Taking a trap (18 R343): fetch freezes until every landing of earlier bundles has arrived, and then the trap is delivered.  The cycle in which it
is raised is neither an issue nor a freeze cycle, and adds nothing to CYCLE (DESIGN CHOICE, log 48). -/
def State.takeTrap (s : State) (c : BitVec 8) (t : Trap) (tpc : BitVec 64) : State :=
  let core := s.core c
  if core.land.all fun l => l.data.isSome then s.finishTrap c t tpc
  else s.setCore c { core with trap := some (t, tpc), iss := Init.issue }

/-- The return (07 R152): the bundle at TPC is the next to issue, and TCAUSE is 0; nothing else changes. -/
def Ctx.returnFromTrap (x : Ctx) : Ctx := { x with pc := x.tpc, tcause := 0 }

/-- The first pending fault to be delivered: the earliest issued (18 R352). -/
def firstDeferred : List Deferred → Option Deferred
  | [] => none
  | d :: ds => match firstDeferred ds with
    | none => some d
    | some e => if d.seq ≤ e.seq then some d else some e

/-- A deferred fault becomes pending (18 R350, R352): a fifteenth kills the task with 0x1503, recorded at the next bundle with TVAL 0. -/
def State.deferFault (s : State) (c : BitVec 8) (d : Deferred) : State :=
  let core := s.core c
  if 14 ≤ core.ctx.deferred.length then (s.setCore c core.settle).trapKill c { code := 0x1503, port := 0, tval := 0 } core.ctx.pc
  else s.setCore c { core with ctx := { core.ctx with deferred := core.ctx.deferred ++ [d] } }

end Sys2Proof.Machine
end

