-- ==== Sys2Proof/Machine/Cache.lean ====
section
/-! DEFINITION. The software cache: the tag table, its pseudo-LRU, and the table changes of PROBE, PROBEI, PWB, PINV and PPIN. -/

namespace Sys2Proof.Machine

/-- Levels of the pseudo-LRU tree over `e` ways: log2 of the least power of two not below `e` (03 R64). -/
def plruDepth (e : Nat) : Nat := if e ≤ 1 then 0 else Nat.log2 (e - 1) + 1

/-- Node bits after way `w` is used: every node on its path points away from it.  `node` is 1 at the root; its halves are 2n and 2n+1. -/
def plruTouch (w : Nat) : Nat → Nat → BitVec 8 → BitVec 8
  | 0, _, b => b
  | d + 1, node, b =>
    let hi := w.testBit d
    plruTouch w d (2 * node + hi.toNat) (if hi then b &&& ~~~(BitVec.twoPow 8 node) else b ||| BitVec.twoPow 8 node)

/-- The pseudo-LRU way: the node bits are followed from the root; a half without an enabled way is not taken.  `base` is the first leaf below
the node. -/
def plruFind (e : Nat) (b : BitVec 8) : Nat → Nat → Nat → Nat
  | 0, _, base => base
  | d + 1, node, base =>
    let hi := b.getLsbD node && decide (base + 2 ^ d < e)
    plruFind e b d (2 * node + hi.toNat) (if hi then base + 2 ^ d else base)

/-- Key of set `set`, way `way` in the tag table. -/
def tagKey (set way : Nat) : Nat := 64 * way + set

def Core.tag (c : Core) (set way : Nat) : TagEntry := mapGet Init.tagEntry c.pool.tagt (tagKey set way)

def Core.setTag (c : Core) (set way : Nat) (e : TagEntry) : Core :=
  { c with pool := { c.pool with tagt := mapSet Init.tagEntry c.pool.tagt (tagKey set way) e } }

/-- A way of a set is used. -/
def Core.touchWay (c : Core) (set way : Nat) : Core :=
  let d := plruDepth (cacheWays c.ctx.pw)
  { c with pool := { c.pool with plru := mapUpd 0 c.pool.plru set (plruTouch way d 1) } }

/-- The scratchpad offset of slot(set, way) (10 R224). -/
def slotOffset (pw set way : Nat) : Nat := plainSize pw + (way * 64 + set) * 4096

/-- The block that a(A) names: B[17:12] and B[51:18] (10 R223). -/
def blockSet (va : Nat) : Nat := va / 4096 % 64
def blockTag (va : Nat) : BitVec 34 := BitVec.ofNat 34 (va / 2 ^ 18)

/-- The enabled way that holds a block. -/
def Core.findBlock (c : Core) (va : Nat) : Option Nat :=
  (List.range (cacheWays c.ctx.pw)).find? fun w =>
    let e := c.tag (blockSet va) w
    decide (e.st ≠ 0) && decide (e.blk = blockTag va)

/-- The way that a miss fills: the lowest invalid one, else the pseudo-LRU way if eligible, else the lowest eligible one (10 R224). -/
def Core.victim (c : Core) (set : Nat) : Option Nat :=
  let n := cacheWays c.ctx.pw
  let ways := List.range n
  let eligible (w : Nat) : Bool := let e := c.tag set w
    decide (e.st = 2) && !e.dirty && !e.pin
  match ways.find? fun w => decide ((c.tag set w).st = 0) with
  | some w => some w
  | none =>
    if n = 0 then none
    else
      let p := plruFind n (mapGet 0 c.pool.plru set) (plruDepth n) 1 0
      if eligible p then some p else ways.find? eligible

/-- PROBE's change of the table: the way becomes used; on a miss it fills with the block, and its slot enters the scoreboard (10 R224). -/
def Core.applyProbe (c : Core) (set way : Nat) (fill : Option PAddr) (blk : BitVec 34) (inv : Bool) : Core :=
  let c := c.touchWay set way
  match fill with
  | none => c
  | some a =>
    let c := c.setTag set way { st := 1, dirty := false, pin := false, blk := blk, drop := false, inv := inv, home := a }
    let off := slotOffset c.ctx.pw set way
    { c with nid := c.nid + 1, sb := c.sb ++ [{ op := c.nid, slot := some (tagKey set way), lo := off, hi := off + 4095, dest := true, home := none }] }

/-- PWB's change: a valid dirty way is written back, its slot a scoreboard source (10 R225). -/
def Core.applyPwb (c : Core) (set way : Nat) (home : PAddr) : Core :=
  let e := c.tag set way
  if e.st = 2 ∧ e.dirty = true then
    let c := c.setTag set way { e with st := 3, dirty := false }
    let off := slotOffset c.ctx.pw set way
    { c with nid := c.nid + 1, sb := c.sb ++ [{ op := c.nid, slot := some (tagKey set way), lo := off, hi := off + 4095, dest := false, home := some home }] }
  else c

/-- PINV's change: the way becomes invalid, a filling one when its fill completes (10 R225). -/
def Core.applyPinv (c : Core) (set way : Nat) : Core :=
  let e := c.tag set way
  if e.st = 1 then c.setTag set way { e with drop := true, pin := false }
  else c.setTag set way Init.tagEntry

/-- PPIN's change. -/
def Core.applyPpin (c : Core) (set way : Nat) (pin : Bool) : Core := c.setTag set way { c.tag set way with pin := pin }

end Sys2Proof.Machine
end

