-- ==== Sys2Proof/Machine/Operands.lean ====
section
/-! DEFINITION. Operands: the registers each instruction names, the registers a descriptor names, and the operand forms they give. -/

namespace Sys2Proof.Machine

/-- A register that a slot reads or writes: its file by the codes of 18 R347 (0 s, 1 v, 2 p, 3 a, 4 mk, 5 t, 6 e, 7 k, 8 qs, 9 lc), its number as
the slot names it, and whether 06 R119 checks it. -/
structure Use where
  file : Nat
  num : Nat
  write : Bool
  named : Bool
deriving DecidableEq, Repr

/-- A register read, or written, by an operand field. -/
def rd {w : Nat} (file : Nat) (n : BitVec w) : Use := { file := file, num := n.toNat, write := false, named := true }
def wr {w : Nat} (file : Nat) (n : BitVec w) : Use := { file := file, num := n.toNat, write := true, named := true }
def wrN (file n : Nat) : Use := { file := file, num := n, write := true, named := true }

/-- The registers an instruction reads and writes (06 R119, 03 R71).  s(D+1) of ACAS and s31 of RET are read but not named by a field. -/
def instrUses : Instr → List Use
  | .add d a b => [wr 0 d, rd 0 a, rd 0 b]
  | .sub d a b => [wr 0 d, rd 0 a, rd 0 b]
  | .mul d a b => [wr 0 d, rd 0 a, rd 0 b]
  | .mulh d a b => [wr 0 d, rd 0 a, rd 0 b]
  | .mulhu d a b => [wr 0 d, rd 0 a, rd 0 b]
  | .div d a b => [wr 0 d, rd 0 a, rd 0 b]
  | .divu d a b => [wr 0 d, rd 0 a, rd 0 b]
  | .rem d a b => [wr 0 d, rd 0 a, rd 0 b]
  | .remu d a b => [wr 0 d, rd 0 a, rd 0 b]
  | .and d a b => [wr 0 d, rd 0 a, rd 0 b]
  | .or d a b => [wr 0 d, rd 0 a, rd 0 b]
  | .xor d a b => [wr 0 d, rd 0 a, rd 0 b]
  | .andn d a b => [wr 0 d, rd 0 a, rd 0 b]
  | .shl d a b => [wr 0 d, rd 0 a, rd 0 b]
  | .shr d a b => [wr 0 d, rd 0 a, rd 0 b]
  | .sra d a b => [wr 0 d, rd 0 a, rd 0 b]
  | .rotl d a b => [wr 0 d, rd 0 a, rd 0 b]
  | .min d a b => [wr 0 d, rd 0 a, rd 0 b]
  | .max d a b => [wr 0 d, rd 0 a, rd 0 b]
  | .minu d a b => [wr 0 d, rd 0 a, rd 0 b]
  | .maxu d a b => [wr 0 d, rd 0 a, rd 0 b]
  | .clz d a => [wr 0 d, rd 0 a]
  | .ctz d a => [wr 0 d, rd 0 a]
  | .popc d a => [wr 0 d, rd 0 a]
  | .sext d a _ => [wr 0 d, rd 0 a]
  | .zext d a _ => [wr 0 d, rd 0 a]
  | .addi d a _ => [wr 0 d, rd 0 a]
  | .andi d a _ => [wr 0 d, rd 0 a]
  | .ori d a _ => [wr 0 d, rd 0 a]
  | .shli d a _ => [wr 0 d, rd 0 a]
  | .shri d a _ => [wr 0 d, rd 0 a]
  | .srai d a _ => [wr 0 d, rd 0 a]
  | .movi d _ => [wr 0 d]
  | .movhi d _ => [wr 0 d, rd 0 d]
  | .sel q d a b => [rd 2 q, wr 0 d, rd 0 a, rd 0 b]
  | .cmp r _ a b => [wrN 2 (2 * r.toNat), wrN 2 (2 * r.toNat + 1), rd 0 a, rd 0 b]
  | .cmpi r _ a _ => [wrN 2 (2 * r.toNat), wrN 2 (2 * r.toNat + 1), rd 0 a]
  | .lds d a _ => [wr 0 d, rd 0 a]
  | .sts d a _ => [rd 0 d, rd 0 a]
  | .br _ => []
  | .bri a => [rd 0 a]
  | .call _ => [wrN 0 31]
  | .launch a => [rd 0 a]
  | .park a b => [rd 0 a, rd 0 b]
  | .trap _ => []
  | .csrr d _ => [wr 0 d]
  | .csrw d _ => [rd 0 d]
  | .csrs d _ => [rd 0 d]
  | .edw d a _ => [wr 6 d, rd 0 a]
  | .edld d a _ => [wr 6 d, rd 0 a]
  | .seg _ => []
  | .rdv _ => []
  | .faddV0 d a b => [wr 1 d, rd 1 a, rd 1 b]
  | .faddV1 d a b => [wr 1 d, rd 1 a, rd 1 b]
  | .fsubV0 d a b => [wr 1 d, rd 1 a, rd 1 b]
  | .fsubV1 d a b => [wr 1 d, rd 1 a, rd 1 b]
  | .fmulV0 d a b => [wr 1 d, rd 1 a, rd 1 b]
  | .fmulV1 d a b => [wr 1 d, rd 1 a, rd 1 b]
  | .fmaV0 d a b => [wr 1 d, rd 1 a, rd 1 b, rd 1 d]
  | .fmaV1 d a b => [wr 1 d, rd 1 a, rd 1 b, rd 1 d]
  | .fmsV0 d a b => [wr 1 d, rd 1 a, rd 1 b, rd 1 d]
  | .fmsV1 d a b => [wr 1 d, rd 1 a, rd 1 b, rd 1 d]
  | .fminV0 d a b => [wr 1 d, rd 1 a, rd 1 b]
  | .fminV1 d a b => [wr 1 d, rd 1 a, rd 1 b]
  | .fmaxV0 d a b => [wr 1 d, rd 1 a, rd 1 b]
  | .fmaxV1 d a b => [wr 1 d, rd 1 a, rd 1 b]
  | .fabsV0 d a => [wr 1 d, rd 1 a]
  | .fabsV1 d a => [wr 1 d, rd 1 a]
  | .fnegV0 d a => [wr 1 d, rd 1 a]
  | .fnegV1 d a => [wr 1 d, rd 1 a]
  | .fcpysV0 d a b => [wr 1 d, rd 1 a, rd 1 b]
  | .fcpysV1 d a b => [wr 1 d, rd 1 a, rd 1 b]
  | .fcmpV0 m _ a b => [wr 4 m, rd 1 a, rd 1 b]
  | .fcmpV1 m _ a b => [wr 4 m, rd 1 a, rd 1 b]
  | .iaddV0 d a b => [wr 1 d, rd 1 a, rd 1 b]
  | .iaddV1 d a b => [wr 1 d, rd 1 a, rd 1 b]
  | .isubV0 d a b => [wr 1 d, rd 1 a, rd 1 b]
  | .isubV1 d a b => [wr 1 d, rd 1 a, rd 1 b]
  | .imulV0 d a b => [wr 1 d, rd 1 a, rd 1 b]
  | .imulV1 d a b => [wr 1 d, rd 1 a, rd 1 b]
  | .imadV0 d a b => [wr 1 d, rd 1 a, rd 1 b, rd 1 d]
  | .imadV1 d a b => [wr 1 d, rd 1 a, rd 1 b, rd 1 d]
  | .iaddwV0 d a b => [wr 1 d, rd 1 a, rd 1 b]
  | .iaddwV1 d a b => [wr 1 d, rd 1 a, rd 1 b]
  | .imadwV0 d a b => [wr 1 d, rd 1 a, rd 1 b, rd 1 d]
  | .imadwV1 d a b => [wr 1 d, rd 1 a, rd 1 b, rd 1 d]
  | .iminV0 d a b => [wr 1 d, rd 1 a, rd 1 b]
  | .iminV1 d a b => [wr 1 d, rd 1 a, rd 1 b]
  | .imaxV0 d a b => [wr 1 d, rd 1 a, rd 1 b]
  | .imaxV1 d a b => [wr 1 d, rd 1 a, rd 1 b]
  | .iabsV0 d a => [wr 1 d, rd 1 a]
  | .iabsV1 d a => [wr 1 d, rd 1 a]
  | .andV0 d a b => [wr 1 d, rd 1 a, rd 1 b]
  | .andV1 d a b => [wr 1 d, rd 1 a, rd 1 b]
  | .orV0 d a b => [wr 1 d, rd 1 a, rd 1 b]
  | .orV1 d a b => [wr 1 d, rd 1 a, rd 1 b]
  | .xorV0 d a b => [wr 1 d, rd 1 a, rd 1 b]
  | .xorV1 d a b => [wr 1 d, rd 1 a, rd 1 b]
  | .shlV0 d a b => [wr 1 d, rd 1 a, rd 1 b]
  | .shlV1 d a b => [wr 1 d, rd 1 a, rd 1 b]
  | .shrV0 d a b => [wr 1 d, rd 1 a, rd 1 b]
  | .shrV1 d a b => [wr 1 d, rd 1 a, rd 1 b]
  | .sraV0 d a b => [wr 1 d, rd 1 a, rd 1 b]
  | .sraV1 d a b => [wr 1 d, rd 1 a, rd 1 b]
  | .icmpV0 m _ a b => [wr 4 m, rd 1 a, rd 1 b]
  | .icmpV1 m _ a b => [wr 4 m, rd 1 a, rd 1 b]
  | .cvtV0 d a _ _ => [wr 1 d, rd 1 a]
  | .cvtV1 d a _ _ => [wr 1 d, rd 1 a]
  | .cvtnV0 d a _ _ => [wr 1 d, rd 1 a]
  | .cvtnV1 d a _ _ => [wr 1 d, rd 1 a]
  | .unpklV0 d a b => [wr 1 d, rd 1 a, rd 1 b]
  | .unpklV1 d a b => [wr 1 d, rd 1 a, rd 1 b]
  | .unpkhV0 d a b => [wr 1 d, rd 1 a, rd 1 b]
  | .unpkhV1 d a b => [wr 1 d, rd 1 a, rd 1 b]
  | .packV0 d a b => [wr 1 d, rd 1 a, rd 1 b]
  | .packV1 d a b => [wr 1 d, rd 1 a, rd 1 b]
  | .setfmtV0 d a _ => [wr 1 d, rd 1 a]
  | .setfmtV1 d a _ => [wr 1 d, rd 1 a]
  | .vmovV0 d a => [wr 1 d, rd 1 a]
  | .vmovV1 d a => [wr 1 d, rd 1 a]
  | .vmoviV0 d _ => [wr 1 d]
  | .vmoviV1 d _ => [wr 1 d]
  | .vbcstV0 d a b => [wr 1 d, rd 1 a, rd 0 b]
  | .vbcstV1 d a b => [wr 1 d, rd 1 a, rd 0 b]
  | .vextV0 d a b => [wr 0 d, rd 1 a, rd 0 b]
  | .vextV1 d a b => [wr 0 d, rd 1 a, rd 0 b]
  | .vselV0 m d a b => [rd 4 m, wr 1 d, rd 1 a, rd 1 b]
  | .vselV1 m d a b => [rd 4 m, wr 1 d, rd 1 a, rd 1 b]
  | .vpermV0 d a b => [wr 1 d, rd 1 a, rd 1 b]
  | .vpermV1 d a b => [wr 1 d, rd 1 a, rd 1 b]
  | .vrotV0 d a _ => [wr 1 d, rd 1 a]
  | .vrotV1 d a _ => [wr 1 d, rd 1 a]
  | .xclV0 d a _ => [wr 1 d, rd 1 a]
  | .xclV1 d a _ => [wr 1 d, rd 1 a]
  | .xclbV0 d a _ => [wr 1 d, rd 1 a]
  | .xclbV1 d a _ => [wr 1 d, rd 1 a]
  | .vscanV0 d a _ _ _ => [wr 1 d, rd 1 a]
  | .vscanV1 d a _ _ _ => [wr 1 d, rd 1 a]
  | .vredV0 d a _ _ => [wr 1 d, rd 1 a]
  | .vredV1 d a _ _ => [wr 1 d, rd 1 a]
  | .vst d a _ => [rd 1 d, rd 3 a]
  | .vsts d a x => [rd 1 d, rd 3 a, rd 0 x]
  | .vstx d a x => [rd 1 d, rd 3 a, rd 1 x]
  | .vlds d a x _ => [wr 1 d, rd 3 a, rd 0 x]
  | .vldx d a x _ => [wr 1 d, rd 3 a, rd 1 x]
  | .vldb d a x _ => [wr 1 d, rd 3 a, rd 0 x]
  | .vldInt32 d a _ => [wr 1 d, rd 3 a]
  | .vldUint32 d a _ => [wr 1 d, rd 3 a]
  | .vldFp32 d a _ => [wr 1 d, rd 3 a]
  | .vldInt16 d a _ => [wr 1 d, rd 3 a]
  | .vldUint16 d a _ => [wr 1 d, rd 3 a]
  | .vldFp16 d a _ => [wr 1 d, rd 3 a]
  | .vldBf16 d a _ => [wr 1 d, rd 3 a]
  | .vldInt8 d a _ => [wr 1 d, rd 3 a]
  | .vldUint8 d a _ => [wr 1 d, rd 3 a]
  | .vldE4m3 d a _ => [wr 1 d, rd 3 a]
  | .vldE5m2 d a _ => [wr 1 d, rd 3 a]
  | .vldE8m0 d a _ => [wr 1 d, rd 3 a]
  | .mkand d a b => [wr 4 d, rd 4 a, rd 4 b]
  | .mkor d a b => [wr 4 d, rd 4 a, rd 4 b]
  | .mknot d a => [wr 4 d, rd 4 a]
  | .frcp d a => [wr 1 d, rd 1 a]
  | .frsq d a => [wr 1 d, rd 1 a]
  | .fsqrt d a => [wr 1 d, rd 1 a]
  | .fexp2 d a => [wr 1 d, rd 1 a]
  | .flog2 d a => [wr 1 d, rd 1 a]
  | .ftanh d a => [wr 1 d, rd 1 a]
  | .mldw k x y z e => [wr 7 k, rd 7 x, rd 7 y, rd 7 z, rd 6 e]
  | .mswap k x y z => [wr 7 k, rd 7 x, rd 7 y, rd 7 z]
  | .mmul k x y z e => [wr 7 k, rd 7 x, rd 7 y, rd 7 z, rd 6 e]
  | .mmuls k x y z e => [wr 7 k, rd 7 x, rd 7 y, rd 7 z, rd 6 e]
  | .mbagAcc k x y z e => [wr 7 k, rd 7 x, rd 7 y, rd 7 z, rd 6 e]
  | .mbagSteer k x y z e => [wr 7 k, rd 7 x, rd 7 y, rd 7 z, rd 6 e]
  | .mzero k x y z e => [wr 7 k, rd 7 x, rd 7 y, rd 7 z, rd 6 e]
  | .manch k x y z e => [wr 7 k, rd 7 x, rd 7 y, rd 7 z, rd 6 e]
  | .mrd k x y z e => [wr 7 k, rd 7 x, rd 7 y, rd 7 z, rd 6 e]
  | .mst k x y z e => [wr 7 k, rd 7 x, rd 7 y, rd 7 z, rd 6 e]
  | .maddv k x y z e => [wr 7 k, rd 7 x, rd 7 y, rd 7 z, rd 6 e]
  | .mstat k x y z e => [wr 7 k, rd 7 x, rd 7 y, rd 7 z, rd 6 e]
  | .mtrl k x y z e => [wr 7 k, rd 7 x, rd 7 y, rd 7 z, rd 6 e]
  | .mldt k x y z e => [wr 7 k, rd 7 x, rd 7 y, rd 7 z, rd 6 e]
  | .mstt k x y z e => [wr 7 k, rd 7 x, rd 7 y, rd 7 z, rd 6 e]
  | .mcode k x y z e => [wr 7 k, rd 7 x, rd 7 y, rd 7 z, rd 6 e]
  | .cpy k x y z e => [wr 7 k, rd 7 x, rd 7 y, rd 7 z, rd 6 e]
  | .cpym k x y z e => [wr 7 k, rd 7 x, rd 7 y, rd 7 z, rd 6 e]
  | .gath k x y z e => [wr 7 k, rd 7 x, rd 7 y, rd 7 z, rd 6 e]
  | .scat k x y z e => [wr 7 k, rd 7 x, rd 7 y, rd 7 z, rd 6 e]
  | .fill k x y z e => [wr 7 k, rd 7 x, rd 7 y, rd 7 z, rd 6 e]
  | .bulk k x y z e => [wr 7 k, rd 7 x, rd 7 y, rd 7 z, rd 6 e]
  | .au d a b => [wr 3 d, rd 3 a, rd 0 b]
  | .aui d _ => [wr 3 d, rd 3 d]
  | .amov d a => [wr 3 d, rd 0 a]
  | .aget d a => [wr 0 d, rd 3 a]
  | .loop l c _ _ => [wr 9 l, rd 0 c]
  | .lstep a l s => [rd 3 a, rd 9 l, rd 0 s]
  | .pand d a b => [wr 2 d, rd 2 a, rd 2 b]
  | .por d a b => [wr 2 d, rd 2 a, rd 2 b]
  | .pxor d a b => [wr 2 d, rd 2 a, rd 2 b]
  | .pnot d a => [wr 2 d, rd 2 a]
  | .pmov d a => [wr 2 d, rd 2 a]
  | .pset d _ => [wr 2 d]
  | .stage l _ => [wr 9 l]
  | .kclr k => [wr 7 k]
  | .probe r d a => [wrN 2 (2 * r.toNat), wrN 2 (2 * r.toNat + 1), wr 0 d, rd 3 a]
  | .probei r d a => [wrN 2 (2 * r.toNat), wrN 2 (2 * r.toNat + 1), wr 0 d, rd 3 a]
  | .pwb a => [rd 3 a]
  | .pinv a => [rd 3 a]
  | .ppin a _ => [rd 3 a]
  | .ldg _ d a _ _ => [wr 0 d, rd 3 a]
  | .ldgi d a _ _ => [wr 0 d, rd 3 a]
  | .ldgv d a _ _ => [wr 1 d, rd 3 a]
  | .stg _ d a _ _ => [rd 0 d, rd 3 a]
  | .stgv d a _ _ => [rd 1 d, rd 3 a]
  | .lda d a _ => [wr 0 d, rd 3 a]
  | .stl d a _ _ => [rd 0 d, rd 3 a]
  | .aadd d a _ _ _ => [rd 0 d, rd 3 a]
  | .aaddf d a _ _ _ => [rd 0 d, rd 3 a]
  | .aaddqFp32 d a _ _ q => [rd 0 d, rd 3 a, rd 8 q]
  | .aaddqBf16 d a _ _ q => [rd 0 d, rd 3 a, rd 8 q]
  | .aaddqFp16 d a _ _ q => [rd 0 d, rd 3 a, rd 8 q]
  | .amin d a _ _ _ => [rd 0 d, rd 3 a]
  | .amax d a _ _ _ => [rd 0 d, rd 3 a]
  | .aand d a _ _ _ => [rd 0 d, rd 3 a]
  | .aor d a _ _ _ => [rd 0 d, rd 3 a]
  | .axor d a _ _ _ => [rd 0 d, rd 3 a]
  | .axch d a _ _ _ => [rd 0 d, wr 0 d, rd 3 a]
  | .acas d a _ _ _ => [rd 0 d, { file := 0, num := d.toNat + 1, write := false, named := false }, wr 0 d, rd 3 a]
  | .drain _ => []
  | .bfence a s => [rd 3 a, rd 0 s]
  | .twait x y z => [rd 7 x, rd 7 y, rd 7 z]
  | .bwait a _ s => [rd 3 a, rd 0 s]
  | .badd _ a _ s => [rd 3 a, rd 0 s]
  | .phase a => [rd 0 a]
  | .rpkX k x y z e => [wr 7 k, rd 7 x, rd 7 y, rd 7 z, rd 6 e]
  | .rpkF k x y z e => [wr 7 k, rd 7 x, rd 7 y, rd 7 z, rd 6 e]
  | .bankld k x y z e => [wr 7 k, rd 7 x, rd 7 y, rd 7 z, rd 6 e]
  | .bankgo k x y z e => [wr 7 k, rd 7 x, rd 7 y, rd 7 z, rd 6 e]
  | .uopRdc _ _ _ => []
  | .uopWrc _ _ _ => []
  | .uopMac _ _ _ => []
  | .uopAdd _ _ => []
  | .uopScl _ _ _ => []
  | .uopNcol _ => []
  | .uopLoopc _ => []
  | .nop => []
  | .ret => [{ file := 0, num := 31, write := false, named := false }]
  | .halt => []
  | .eret => []
  | .phwait => []
  | .uopEnd => []
  | .uopAct => []
  | .uopRowend => []
  | .uopWaits => []
  | .ownCompareAndSwap => []
  | .handoffWrite => []
  | .ptabWrite => []
  | .partitionChangeStep => []
  | .pceilWrite => []
  | .windowEntryWrite => []
  | .streamWrite => []
  | .controlWindowWrite => []
  | .recordClear => []
  | .packagePowerOn => []
  | .bringUpStepDone => []
  | .epochBoundary => []
  | .budgetInterval => []
  | .sensorRead => []
  | .coolantLoss => []
  | .railOutOfRange => []
  | .readinessRequest => []
  | .waitNodeRead => []
  | .bulkNodeComplete => []
  | .signalNodeComplete => []
  | .submissionStart => []
  | .submissionEnd => []
  | .launchRequestSend => []
  | .slotRecordWrite => []
  | .dispatchBind => []
  | .displace => []
  | .ageAlarm => []
  | .sliceExpiry => []
  | .preemption => []
  | .contextSaveComplete => []
  | .taskParked => []
  | .parkBeaconMet => []
  | .taskRetire => []
  | .cpWatchdog => []
  | .schWatchdog => []
  | .firmwareRestartDone => []
  | .pipelineWriteback => []
  | .landingArrival => []
  | .landingWrite => []
  | .freezeTimeout => []
  | .waitPark => []
  | .beaconPoll => []
  | .engineComplete => []
  | .mOperationComplete => []
  | .gatherRowLand => []
  | .bagRowStream => []
  | .cacheFillComplete => []
  | .atomicHomeApply => []
  | .bankgoBeqRelease => []
  | .rpkRoundCombine => []
  | .roundTimeout => []
  | .ordinaryRequest => []
  | .controllerCycle => []
  | .requestAged => []
  | .refreshDue => []
  | .bdcHeartbeat => []
  | .refreshTakeover => []
  | .refreshHandback => []
  | .bankHoldTimeout => []
  | .bankldApply => []
  | .bankProgramStart => []
  | .actAdmit => []
  | .arbitrationWindow => []
  | .waitsRelease => []
  | .bankProgramStop => []
  | .pageRetirement => []
  | .pageMoveLine => []
  | .pageMoveSwitch => []
  | .flitReceive => []
  | .portRetrain => []
  | .fabricRequestTimeout => []
  | .vcStopGo => []
  | .ownerTimeout => []
  | .bulkheadReset => []
  | .segmentCommit => []
  | .rewind => []
  | .rerunStart => []
  | .walkComplete => []
  | .scoreboardEntryRetire => []
  | .bfenceMarker => []

/-- The physical identity of a use, as pending registers are kept. -/
def Ctx.physUse (c : Ctx) (u : Use) : Nat × Nat :=
  if u.file = 0 then (0, c.physS u.num)
  else if u.file = 1 then (1, c.physV u.num)
  else if u.file = 2 then (2, c.physP u.num)
  else if u.file = 7 then (7, c.physK u.num)
  else (u.file, u.num)

/-- TVAL of a register identity (18 R347). -/
def regIdentity (u : Use) : BitVec 64 := BitVec.ofNat 64 (u.file * 64 + u.num)

/-- Registers never checked by 06 R119: s0, p0, p1 and k0. -/
def Use.exempt (u : Use) : Bool := decide ((u.file = 0 ∧ u.num = 0) ∨ (u.file = 2 ∧ u.num ≤ 1) ∨ (u.file = 7 ∧ u.num = 0))

/-- The port of an instruction's map: the first port its words may name; none for micro-ops and events. -/
def instrPort (i : Instr) : Option (BitVec 3) := i.slotParts.bind fun q => q.ports.head?

/-- The named register in which two slots of a bundle conflict (06 R119), lowest identity first. -/
def conflict (earlier later : List Use) : Option Use :=
  let bad := later.filter fun u => u.named && !u.exempt && earlier.any fun e =>
    e.named && decide (e.file = u.file) && decide (e.num = u.num) && (e.write || u.write)
  bad.foldl (fun best u => match best with
    | none => some u
    | some b => if u.file * 64 + u.num < b.file * 64 + b.num then some u else some b) none

/-- The slot's uses with its guard; SEL and VSEL have none (06 R116). -/
def isSelector : Instr → Bool
  | .sel _ _ _ _ => true
  | .vselV0 _ _ _ _ => true
  | .vselV1 _ _ _ _ => true
  | _ => false

def slotUses (i : Instr) (guard : BitVec 4) : List Use :=
  if isSelector i then instrUses i else rd 2 guard :: instrUses i

end Sys2Proof.Machine
end

