-- ==== Sys2Proof/Machine/Signature.lean ====
section
/-! DEFINITION. The commit signature of a core of a protected pair: what it is formed from, and the function itself, which the spec leaves open (19 R364). -/

namespace Sys2Proof.Machine

/-- What a bundle's commit signature is formed from (19 R364): its effects hold its register writes, its writes to the pool, its snapshots and what it
holds; with them the guards it read, the pool lines that its adds left and the registers that landings, back-edges and the loop nest wrote at its end
(file, number and value), the operations whose completion it sees, and its trap. -/
structure Signed where
  effects : List Effect
  guards : List Bool
  lines : List (Nat × Nat)
  writes : List (Nat × Nat × Nat)
  done : List Wrote
  trap : Option Trap
deriving DecidableEq, Repr

end Sys2Proof.Machine

namespace Sys2Proof.Config

/-- DESIGN CHOICE (log 5): the signature function, the same in every core (19 R364); the spec does not give it. -/
opaque signature : Machine.Signed → BitVec 64

end Sys2Proof.Config
end

