-- ==== Sys2Proof/Machine/Issue.lean ====
section
/-! DEFINITION. One issue cycle: what a slot contributes, freezes, faults in their order, the effects of a bundle at the end of its cycle, back-edges, and the fetch and framing of bundles. -/

namespace Sys2Proof.Machine

/-- What a slot whose guard reads true contributes to its bundle. -/
structure SlotOut where
  effects : List Effect := []
  /-- Issue-time faults: code and TVAL (18 R346 step 6). -/
  faults : List (BitVec 16 × BitVec 64) := []
  freezes : List (Freeze × BitVec 64) := []
  /-- Pool banks of its sequencer access. -/
  banks : List Nat := []
  /-- Operations on whose scoreboard entries it freezes. -/
  sbOps : List Nat := []
  /-- Registers it reads through a descriptor (03 R76). -/
  reads : List Use := []
  /-- It holds a pending deferred fault back: DRAIN, LAUNCH, HALT, PARK (18 R350 case 3). -/
  qualifies : Bool := false
  /-- HALT or PARK, which a pending fault meets even in a handler. -/
  ends : Bool := false
  /-- A protected segment ends before it (19 R365). -/
  boundary : Bool := false
  rdv : Bool := false

/-! ## Freezes and faults of a slot -/

/-- Whether an instruction freezes on its tokens: KCLR completes one, and TWAIT waits as 10 R235 says. -/
def freezesOnTokens : Instr → Bool
  | .kclr _ => false
  | .twait _ _ _ => false
  | _ => true

/-- Token freezes: a consumed token that is pending, or a produced one (03 R60). -/
def tokenFreezes (x : Ctx) (i : Instr) (us : List Use) : List (Freeze × BitVec 64) :=
  if !freezesOnTokens i then [] else (us.filter fun u => decide (u.file = 7) && !x.tokenDone (x.physK u.num)).map fun u => (.token, BitVec.ofNat 64 u.num)

/-- The schedule fault of a slot (03 R71, 18 R347): reads before writes, the lowest identity first (log 8).  s0 is never pending, nor as the discarded
destination of a result on its way: 03 R66 discards the write, and no rule says whether R71 counts it until then (DESIGN CHOICE, log 49). -/
def scheduleFault (c : Core) (us : List Use) : Option (BitVec 16 × BitVec 64) :=
  let pend := us.filter fun u => decide (u.file ≠ 7) && !u.exempt && let (f, n) := c.ctx.physUse u; c.pending f n
  let least (l : List Use) : Option Use := l.foldl (fun b u => match b with
    | none => some u
    | some b => if u.file * 64 + u.num < b.file * 64 + b.num then some u else some b) none
  match least (pend.filter fun u => !u.write) with
  | some u => some (0x1101, regIdentity u)
  | none => (least (pend.filter fun u => u.write)).map fun u => (0x1102, regIdentity u)

/-- Of several faults of one slot, the one with the lowest code (18 R346). -/
def lowestFault (l : List (BitVec 16 × BitVec 64)) : Option (BitVec 16 × BitVec 64) :=
  l.foldl (fun b f => match b with
    | none => some f
    | some g => if f.1.toNat < g.1.toNat then some f else some g) none

/-- The fault that stands: the lower rank, and the earlier slot among equals (18 R346). -/
def firstFault (a b : Option (Nat × Trap)) : Option (Nat × Trap) :=
  match a, b with
  | none, b => b
  | a, none => a
  | some x, some y => if y.1 < x.1 then some y else some x

/-- The pending deferred fault that a bundle delivers (18 R350, R352): the earliest issued of all, when one of them qualifies. -/
def deferredFault (c : Core) (consumed : List Nat) (out : SlotOut) : Option (Nat × Trap) :=
  let qual := out.qualifies || c.ctx.deferred.any fun d => (decide (d.tok ≠ 0) && consumed.contains d.tok) || c.frozeOn.contains d.op
  if qual && (!c.ctx.inTrap || out.ends) then (firstDeferred c.ctx.deferred).map fun d => (4, { code := d.code, port := d.port, tval := d.tval })
  else none

/-- Physical predicates that an instruction writes: those it names as destinations, and p8-p15 for a staged LOOP (07 R161). -/
def predDests (x : Ctx) (i : Instr) : BitVec 16 :=
  let staged : BitVec 16 := match i with
    | .loop _ _ _ n => if n = 0 then 0 else 0xFF00
    | _ => 0
  (instrUses i).foldl (fun m u => if u.file = 2 ∧ u.write = true ∧ 2 ≤ u.num then m ||| BitVec.twoPow 16 (x.physP u.num) else m) staged

/-- The port a slot executes on: the one its header names when the instruction's map has it (06 R116). -/
def slotPort (i : Instr) (p : BitVec 3) : BitVec 3 :=
  match i.slotParts with
  | some q => if q.ports.contains p then p else q.ports.headD p
  | none => p

/-- The slot word an instruction stands for in the bundle at hand. -/
def slotWord (i : Instr) (iss : Issue) : BitVec 64 :=
  ((encode { hdr := { stop := decide (iss.rest = 0), port := slotPort i iss.port, guard := iss.guard }, instr := i }).getD 0).zeroExtend 64

/-- Whether an acquire of the member has still to perform: later accesses of its sequencer wait for it (11 R263 case 4). -/
def Core.acquiring (c : Core) : Bool := c.mq.any (·.acq)

/-- The freeze of a scratchpad access or BWAIT behind an acquire (11 R263; log 43). -/
def acquireFreeze (c : Core) : List (Freeze × BitVec 64) := if c.acquiring then [(.acquire, 0)] else []

/-- The registers whose contents a store carries to memory: their poison goes with them, and is not consumed (17 R332). -/
def carriedUses : Instr → List Use
  | .sts d _ _ => [rd 0 d]
  | .vst d _ _ => [rd 1 d]
  | .vsts d _ _ => [rd 1 d]
  | .vstx d _ _ => [rd 1 d]
  | .stg _ d _ _ _ => [rd 0 d]
  | .stgv d _ _ _ => [rd 1 d]
  | .stl d _ _ _ => [rd 0 d]
  | _ => []

/-- The contribution of a slot to the bundle in issue (18 R348: a guard that reads false leaves only encoding faults and a pending guard).  A slot
counts as a writer of the predicates it names, for the bundle after it, whatever its guard reads, and a staged LOOP with count 0 too: 03 R72 does not
say (DESIGN CHOICE, log 39). -/
def contribute (i : Instr) (body : State → Core → SlotOut) (s : State) : State :=
  let c := s.core s.cur
  let iss := c.iss
  let port := slotPort i iss.port
  let mk (rank : Nat) (f : BitVec 16 × BitVec 64) : Nat × Trap := (rank, { code := f.1, port := port, tval := f.2 })
  let enc : Option (Nat × Trap) := if i.wellFormed then none else some (mk 2 (0x1005, slotWord i iss))
  let guarded := !isSelector i
  let gUse : Use := rd 2 iss.guard
  let gPending := guarded && !gUse.exempt && c.pending 2 (c.ctx.physP iss.guard.toNat)
  let gFault : Option (Nat × Trap) := if gPending then some (mk 5 (0x1101, regIdentity gUse)) else none
  let bad (us : List Use) : List Effect := if us.any fun u => !u.write && c.ctx.isBad (c.ctx.physUse u).1 (c.ctx.physUse u).2 then [.badReg s.cur] else []
  let iss := { iss with
    effects := iss.effects ++ (if guarded then bad [gUse] else [])
    fault := firstFault iss.fault (firstFault enc gFault)
    guards := iss.guards ++ [c.ctx.getP iss.guard.toNat]
    predS := iss.predS ||| predDests c.ctx i }
  if guarded && !c.ctx.getP iss.guard.toNat then s.setCore s.cur { c with iss := iss }
  else
    let out := body s c
    let us := instrUses i ++ out.reads
    let consumed := (us.filter fun u => decide (u.file = 7) && !u.write).map fun u => c.ctx.physK u.num
    let fault := firstFault (deferredFault c consumed out)
      (firstFault ((scheduleFault c us).map (mk 5)) ((lowestFault out.faults).map (mk 6)))
    let clash := out.banks.any fun b => iss.banks.contains b
    let iss := { iss with
      effects := iss.effects ++ out.effects ++ bad (us.diff (carriedUses i))
      fault := firstFault iss.fault fault
      banks := iss.banks ++ out.banks
      freezes := iss.freezes ++ tokenFreezes c.ctx i us ++ out.freezes ++ (if out.banks.isEmpty then [] else acquireFreeze c)
        ++ (if clash && !iss.paid then [(.bankConflict, 0)] else [])
      sbOps := iss.sbOps ++ out.sbOps
      predD := iss.predD ||| predDests c.ctx i
      boundary := iss.boundary || out.boundary
      rdv := iss.rdv || out.rdv }
    s.setCore s.cur { c with iss := iss }

/-! ## The loop nest (03 R78-R80, 07 R148, R161-R163) -/

/-- Stage predicates at the setting up of a staged level: p8 true, p9-p15 false, through the current rotation. -/
def Ctx.stageInit (x : Ctx) : Ctx :=
  (List.range 7).foldl (fun x j => x.setPhysP (x.physP (9 + j)) false) (x.setPhysP (x.physP 8) true)

/-- Every address register adds its step of a level. -/
def Ctx.addSteps (x : Ctx) (lvl : Nat) : Ctx :=
  (List.range 16).foldl (fun x n =>
    let d := x.getStep lvl n
    if d = 0 then x else { x with a := mapUpd 0 x.a n (· + d) }) x

/-- One back-edge of a level, and whether its next trip begins (07 R162 steps 2-5). -/
def Ctx.backEdge (x : Ctx) (lvl : Nat) : Ctx × Bool :=
  let l := x.getLevel lvl
  let x := x.addSteps lvl
  let x := if 1 ≤ l.n then
      let x := x.rotate
      x.setPhysP (x.physP 8) (decide (l.trips + 1 < l.c))
    else x
  let l := { l with trips := l.trips + 1 }
  if l.trips < l.t then (x.setLevel lvl l, true) else (x.setLevel lvl { l with active := false }, false)

/-- The back-edges at the bundle at `pc`, from the innermost level outward; the address at which execution goes on (07 R162). -/
def Ctx.backEdges (x : Ctx) (pc next : BitVec 64) : List Nat → Ctx × BitVec 64
  | [] => (x, next)
  | lvl :: rest =>
    let l := x.getLevel lvl
    if l.active = true ∧ l.last = pc then
      let (y, again) := x.backEdge lvl
      if again then (y, l.first) else y.backEdges pc next rest
    else x.backEdges pc next rest

/-- A taken transfer: levels whose bodies do not hold the target become idle (07 R148).  A body reaches to the address of its last bundle: a target in
the second half of a last bundle of 32 bytes lies outside it (DESIGN CHOICE, log 41). -/
def Ctx.leaveLevels (x : Ctx) (target : BitVec 64) : Ctx :=
  (List.range 6).foldl (fun x lvl =>
    let l := x.getLevel lvl
    if l.active = true ∧ (target.toNat < l.first.toNat ∨ l.last.toNat < target.toNat) then x.setLevel lvl { l with active := false } else x) x

/-- STAGE (07 R163). -/
def Ctx.stage (x : Ctx) (lvl n : Nat) : Ctx :=
  let l := x.getLevel lvl
  if l.active then
    let c := min l.c (l.trips + 1 + n)
    x.setLevel lvl { l with c := c, t := if 1 ≤ l.n then c + l.n - 1 else c }
  else x

/-! ## Control registers (07 R153-R156) -/

/-- A write to a control register; reserved bits and read-only registers are ignored. -/
def Ctx.csrWrite (x : Ctx) (n : BitVec 12) (v : BitVec 64) : Ctx :=
  if n = 0x000 then { x with frm := v.truncate 2 }
  else if n = 0x001 then { x with fflags := v.truncate 5 }
  else if n = 0x002 then { x with srseed := v.truncate 32, rng := rngAll (v.truncate 32) x.id.tidx x.id.tmemb }
  else if n = 0x030 then { x with waitcap := v.truncate 32 }
  else if n = 0x040 then { x with tvec := v }
  else if n = 0x041 then { x with tpc := v }
  else if n = 0x042 then { x with tcause := v.truncate 19 }
  else if n = 0x043 then { x with tval := v }
  else if 0x050 ≤ n.toNat ∧ n.toNat ≤ 0x05F then
    ({ x with qs := mapSet 0 x.qs (n.toNat - 0x050) (v.truncate 16 &&& 0x3FFF) } : Ctx).heal 8 (n.toNat - 0x050) fun _ => true
  else x

/-! ## Phases (10 R239-R242) -/

def Ctx.colour (x : Ctx) (col : BitVec 2) : Colour := if col = 2 then x.light else x.dark

def Ctx.setColour (x : Ctx) (col : BitVec 2) (p : Colour) : Ctx := if col = 2 then { x with light := p } else { x with dark := p }

/-- Expected counts of a header: copies, packets, banks, stores. -/
def hdrCounts (h : BitVec 256) : BitVec 32 × BitVec 32 × BitVec 32 × BitVec 32 :=
  (h.extractLsb' 64 32, h.extractLsb' 96 32, h.extractLsb' 128 32, h.extractLsb' 160 32)

/-- PHASE: the header becomes the posted phase of its colour, and its generation inverts unless one was posted. -/
def Ctx.phase (x : Ctx) (h : BitVec 256) : Ctx :=
  let col : BitVec 2 := h.truncate 2
  let p := x.colour col
  { x.setColour col { p with hdr := h, posted := true, gen := if p.posted then p.gen else !p.gen, held := false } with cur := col }

/-- Every count of a colour is at or above its expectation. -/
def Colour.met (p : Colour) : Bool :=
  let (a, b, c, d) := hdrCounts p.hdr
  decide (a.toNat ≤ p.copies.toNat) && decide (b.toNat ≤ p.packets.toNat) && decide (c.toNat ≤ p.banks.toNat) && decide (d.toNat ≤ p.stores.toNat)

/-- A core's umbra line for a colour (10 R242). -/
def Colour.line (p : Colour) : Bool := if p.posted then p.met else p.held

/-- The completion of a PHWAIT on the current colour. -/
def Ctx.phwait (x : Ctx) : Ctx :=
  let p := x.colour x.cur
  if x.cur ≠ 0 ∧ p.posted = true then
    let (a, b, c, d) := hdrCounts p.hdr
    x.setColour x.cur
      { p with copies := p.copies - a, packets := p.packets - b, banks := p.banks - c, stores := p.stores - d, posted := false, held := true }
  else x

/-! ## Effects at the end of an issue cycle -/

/-- Whether an operation's start is held in protected mode until its segment commits (19 R367): its destination is global memory or a peer's
scratchpad; of a CPYM, whose snapshot says so, when it names a peer. -/
def holdsStart (name : OpName) (snap : Snap) : Bool :=
  match name with
  | .cpy => decide (fieldOf snap.d.toNat (64 + 19) (64 + 16) ≠ 0)
  | .fill => decide (fieldOf snap.d.toNat (64 + 19) (64 + 16) ≠ 0)
  | .cpym => decide (snap.s3 ≠ 0)
  | .scat => decide (fieldOf snap.d.toNat (64 + 3) 64 ≠ 0)
  | .bulk => true
  | .rpkX => true
  | .rpkF => true
  | .bankld => true
  | .bankgo => true
  | _ => false

/-- Whether a protected member sends an atomic once instead of holding it: AXCH, ACAS and the ordered ones (19 R365, R367). -/
def sentOnce (kind : ReqKind) (ord : BitVec 2) : Bool :=
  match kind with
  | .atomic _ _ _ l => l.isSome || decide (ord ≠ 0)
  | _ => false

/-- A request of the memory port as it enters it. -/
def freshReq (id : Nat) (kind : ReqKind) (cls : Nat) (p : Piece) (data : Nat) (scope : BitVec 3) (ord : BitVec 2) : MemReq :=
  let atom := match kind with
    | .atomic _ _ _ _ => true
    | _ => false
  { id := id, po := id, kind := kind, cls := cls, piece := p, data := data, scope := scope, merges := atom && decide (ord = 0), entry := id
    acq := ord.getLsbD 0, rel := ord.getLsbD 1, sent := false, left := 0, readyAt := 0, psn := false }

/-- The line of a place. -/
def lineOf : PAddr → Nat ⊕ (BitVec 12 × Nat)
  | .stack pa => .inl (pa.toNat / 64)
  | .fabric f ra => .inr (f, ra.toNat / 64)

/-- Whether a request is a relaxed atomic without a result, of a kind, size and scope. -/
def MemReq.sameAtomic (r : MemReq) (kind : ReqKind) (scope : BitVec 3) : Bool := r.merges && decide (r.kind = kind) && decide (r.scope = scope)

/-- An access to a line closes the entries there that it does not merge with, and an ordered atomic all: later atomics open new ones (10 R232). -/
def Core.closeLine (c : Core) (p : Piece) (kind : ReqKind) (scope : BitVec 3) (ord : BitVec 2) : Core :=
  { c with
    mq := c.mq.map fun r =>
      if lineOf r.piece.target = lineOf p.target ∧ (r.sameAtomic kind scope && decide (ord = 0)) = false then { r with merges := false } else r }

/-- A fill or a write-back of a block closes the entries of its lines: it lies between what comes before and after it (10 R232, 11 R263). -/
def Core.closeBlock (c : Core) (a : PAddr) : Core :=
  { c with mq := c.mq.map fun r => if r.piece.target.meets r.piece.n a 4096 then { r with merges := false } else r }

/-- A request enters the memory port; in protected mode a write is held until its segment commits (19 R367). -/
def Core.enqueue (c : Core) (r : MemReq) (hold : Bool) : Core :=
  { c with
    nid := c.nid + 1, mq := c.mq ++ [r]
    seg := if hold then { c.seg with hold := c.seg.hold ++ [.request c.nid (decide (r.piece.off = 0))] } else c.seg }

/-- The old value of an atomic reaches its landing. -/
def Core.fillLanding (c : Core) (l x : Nat) (psn : Bool) : Core :=
  { c with land := c.land.map fun e => if e.id = l then { e with data := some x, need := 0, psn := e.psn || psn } else e }

/-- A rerun issues an atomic that has been sent once already: its old value lands, or the request sent is the one it waits for. -/
def Core.resumeAtomic (c : Core) (kind : ReqKind) (sent : Nat × Option Nat) : Core :=
  let c := { c with seg := { c.seg with atomNext := c.seg.atomNext + 1 } }
  match kind, sent.2 with
  | .atomic _ _ _ (some l), some x => c.fillLanding l x false
  | k, none => { c with mq := c.mq.map fun r => if r.id = sent.1 then { r with kind := k } else r }
  | _, _ => c

/-- A request is issued. -/
def Core.pushReq (c : Core) (kind : ReqKind) (cls : Nat) (p : Piece) (data : Nat) (scope : BitVec 3) (ord : BitVec 2) : Core :=
  let c := c.closeLine p kind scope ord
  let r := freshReq c.nid kind cls p data scope ord
  if !c.prot then c.enqueue r false
  else if sentOnce kind ord then
    match c.seg.atoms[c.seg.atomNext]? with
    | some sent => c.resumeAtomic kind sent
    | none =>
      (({ c with seg := { c.seg with atoms := c.seg.atoms ++ [(c.nid, none)], atomNext := c.seg.atomNext + 1 } } : Core)).enqueue r false
  else c.enqueue r (match kind with
    | .load _ => false
    | _ => true)

/-- Whether bytes of an access, `n` of them from offset `off`, are poison, which its data holds by granule. -/
def poisonIn (psn off n : Nat) : Bool := decide ((psn >>> (off / 8)) % 2 ^ ((off % 8 + n + 7) / 8) ≠ 0)

/-- A line of a store is issued. -/
def Core.pushStore (c : Core) (cls : Nat) (p : Piece) (data psn : Nat) (scope : BitVec 3) (ord : BitVec 2) : Core :=
  let d := c.pushReq .store cls p (bytesOf data p.off p.n) scope ord
  if poisonIn psn p.off p.n then { d with mq := d.mq.map fun r => if r.id = c.nid then { r with psn := true } else r } else d

/-- A landing-buffer entry is taken at issue (03 R70). -/
def Core.pushLanding (c : Core) (file dest dist : Nat) (sz : BitVec 3) (need : Nat) : Core :=
  { c with
    nid := c.nid + 1
    land := c.land ++ [{ id := c.nid, file := file, dest := dest, left := dist, due := false, sz := sz, data := none, need := need, part := 0
                         psn := false }] }

/-- The operand of two relaxed atomics of one kind to one element, applied as one (10 R232). -/
def mergeOperands (op : AtomOp) (sz : BitVec 3) (x y : Nat) : Nat := atomApply op sz x y 0

/-- The relaxed atomics that one to a place may merge with: in the open entry of its line in the write queue, of the same kind, size and scope, not yet
sent, with no acquire outstanding after them that it must wait for (11 R263).  What is held stands in no queue (19 R367). -/
def Core.lineEntry (c : Core) (op : AtomOp) (sz : BitVec 3) (p : Piece) (scope : BitVec 3) : List MemReq :=
  c.mq.filter fun r =>
    r.sameAtomic (.atomic op sz 0 none) scope && !r.sent && decide (lineOf r.piece.target = lineOf p.target)
      && !c.heldReq r && c.mq.all fun q => !q.acq || decide (q.id < r.id)

/-- A relaxed atomic joins the entry of its line that it may merge with, as one operand with an earlier one of its element; or it makes an entry
(10 R232).  In protected mode it is held as it is (19 R367). -/
def Core.pushAtomic (c : Core) (op : AtomOp) (sz : BitVec 3) (p : Piece) (data : Nat) (scope : BitVec 3) : Core :=
  let l := if c.prot then [] else c.lineEntry op sz p scope
  match l.find? fun r => decide (r.piece = p) with
  | some q =>
    let c := c.closeLine p (.atomic op sz 0 none) scope 0
    { c with mq := c.mq.map fun r => if r.id = q.id then { r with data := mergeOperands op sz r.data data } else r }
  | none =>
    let d := c.pushReq (.atomic op sz 0 none) 4 p data scope 0
    match l with
    | [] => d
    | q :: _ => { d with mq := d.mq.map fun r => if r.id = c.nid then { r with entry := q.entry } else r }

/-- A held relaxed atomic that has been released joins the write queue: it merges as one issued now would (10 R232, 19 R368). -/
def Core.joinQueue (c : Core) (id : Nat) : Core :=
  match c.mq.find? fun r => decide (r.id = id) with
  | none => c
  | some r =>
    match r.kind, r.merges with
    | .atomic op sz _ none, true =>
      let l := (c.lineEntry op sz r.piece r.scope).filter fun q => decide (q.id < id)
      match l.find? fun q => decide (q.piece = r.piece) with
      | some q =>
        { c with
          mq := (c.mq.filter fun x => decide (x.id ≠ id)).map fun x => if x.id = q.id then { x with data := mergeOperands op sz x.data r.data } else x }
      | none => match l with
        | [] => c
        | q :: _ => { c with mq := c.mq.map fun x => if x.id = id then { x with entry := q.entry } else x }
    | _, _ => c

/-- The landing rows of a gather become empty at its issue (10 R220). -/
def Core.clearRows (c : Core) (first n : Nat) : Core :=
  (upFrom first n).foldl
    (fun c r =>
      let c := (List.range 4).foldl (fun c i => c.logLine 3 (4 * r + i)) c
      let row := mapGet Init.landRow c.pool.land r
      { c with
        pool := { c.pool with
          land := mapSet Init.landRow c.pool.land r { row with data := [], state := 0, seen := false, psn := false, lst := false } } }) c

/-- The combining tree of a packet descriptor. -/
def packetTree (d : Desc) : Nat := fieldOf d.toNat 73 70

/-- An engine operation is issued: its token becomes pending, its ranges enter the scoreboard, and a packet takes the next round of its tree
(03 R74-R76, 10 R215, R245). -/
def Core.enterEngine (c : Core) (name : OpName) (port : BitVec 3) (snap : Snap) (tok : Nat) (ranges : List (Nat × Nat × Bool)) : Core :=
  let packet := decide (name = .rpkX ∨ name = .rpkF)
  let tree := packetTree snap.d
  let m := if packet then mapGet 0 c.ctx.rounds tree + 1 else 0
  let o : EngineOp :=
    { id := c.nid, name := name, port := port, snap := snap, tok := tok, cap := none, list := none, walked := [], rows := [], winners := []
      fault := none, held := c.prot && holdsStart name snap, sent := false, m := m, flags := 0, late := [], touched := [], psn := []
      done := false, age := 0, occ := 0, wait := 0 }
  let x := (c.ctx.setToken tok (some c.nid)).heal 7 tok fun _ => true
  let x := { x with
    rounds := if packet then mapSet 0 x.rounds tree m else x.rounds
    deferred := x.deferred.map fun d => if tok ≠ 0 ∧ d.tok = tok then { d with tok := 0 } else d }
  { c with
    nid := c.nid + 1
    ops := c.ops ++ [o]
    ctx := x
    sb := c.sb ++ ranges.map fun r => { op := c.nid, slot := none, lo := r.1, hi := r.2.1, dest := r.2.2, home := none }
    seg := if c.prot && holdsStart name snap then { c.seg with hold := c.seg.hold ++ [.engine c.nid] } else c.seg }

/-- An engine operation is issued; a gather empties its rows (10 R220). -/
def Core.startEngine (c : Core) (name : OpName) (port : BitVec 3) (snap : Snap) (tok : Nat) (ranges : List (Nat × Nat × Bool)) : Core :=
  let n := fieldOf snap.d.toNat 143 128
  let c := c.enterEngine name port snap tok ranges
  if name = .gath then c.clearRows (fieldOf snap.d.toNat 175 160) (if n = 0 then 65536 else n) else c

/-- Scoreboard entries in use, those of the slots already executed in the bundle included (03 R60). -/
def Core.sbUsed (c : Core) : Nat :=
  c.sb.length + (c.iss.effects.map fun e => match e with
    | .engine _ _ _ _ rs => rs.length
    | .probe _ _ (some _) _ _ => 1
    | _ => 0).sum

/-- One effect. -/
def Core.apply (c : Core) : Effect → Core
  | .result lat w flags => { c with pipe := c.pipe ++ [{ left := lat, write := w, flags := flags }] }
  | .spStore off n x psn => c.spStore off n x psn
  | .orFlags f => { c with ctx := c.ctx.orFlags f }
  | .csrWrite n x => { c with ctx := c.ctx.csrWrite n x }
  | .rng g => { c with ctx := { c.ctx with rng := g.foldl (fun m x => mapSet 0 m x.1 x.2) c.ctx.rng } }
  | .jump _ => c
  | .eret => { c with ctx := { c.ctx with tcause := 0 } }
  | .loop lvl body n count first last _ =>
    if count = 0 then c
    else
      { c with
        ctx := (c.ctx.setLevel lvl
          { active := true, c := count, t := if 1 ≤ n then count + n - 1 else count, n := n, body := body, trips := 0, first := first, last := last }).heal 9
          lvl fun _ => true }
  | .ttag t tag =>
    let c := c.logLine 1 (0x40800 / 128)
    { c with pool := { c.pool with ttag := mapSet Fmt.int16 c.pool.ttag t tag } }
  | .stage lvl n => { c with ctx := c.ctx.stage lvl n }
  | .kclr tok =>
    { c with
      ctx := { (c.ctx.setToken tok none).heal 7 tok fun _ => true with
        deferred := c.ctx.deferred.map fun d => if d.tok = tok then { d with tok := 0 } else d } }
  | .engine name port snap tok ranges => c.startEngine name port snap tok ranges
  | .load ps cls file dest dist sz scope =>
    let l := c.nid
    let ord : BitVec 2 := if cls = 4 then 1 else 0
    ps.foldl (fun c p => c.pushReq (.load l) cls p 0 scope ord) (c.pushLanding file dest dist sz ps.length)
  | .store ps cls data psn scope =>
    let ord : BitVec 2 := if cls = 4 then 2 else 0
    ps.foldl (fun c p => c.pushStore cls p data psn scope ord) c
  | .atomic op sz p data x2 dest scope ord =>
    match dest with
    | none => if ord = 0 then c.pushAtomic op sz p data scope else c.pushReq (.atomic op sz x2 none) 4 p data scope ord
    | some d =>
      let l := c.nid
      (c.pushLanding 0 d 31 (if p.n = 4 then 2 else 3) 1).pushReq (.atomic op sz x2 (some l)) 4 p data scope ord
  | .spAdd off x => c.spWrite off 8 ((c.spRead off 8 + x.toNat) % 2 ^ 64) (c.spPoisoned off 8)
  | .probe set way fill blk inv => (match fill with
      | some a => c.closeBlock a
      | none => c).applyProbe set way fill blk inv
  | .pwb set way home => (c.closeBlock home).applyPwb set way home
  | .pinv set way => c.applyPinv set way
  | .ppin set way pin => c.applyPpin set way pin
  | .launch node => { c with launches := c.launches ++ [(node, c.nid)], nid := c.nid + 1 }
  | .halt => { c with run := .halted }
  | .park b t => { c with run := .parked (some (b, t)) }
  | .trap _ => c
  | .seg n => if c.prot then { c with ctx := { c.ctx with segLeft := BitVec.ofNat 13 n } } else c
  | .rdv _ => c
  | .phase h => { c with ctx := c.ctx.phase h }
  | .phwait => { c with ctx := c.ctx.phwait }
  | .waited => c
  | .poison _ _ => c
  | .badReg _ => c
  | .walkPoison _ => c
  | .gateStop _ => c

/-- Generators advance before SRSEED is written, and control registers are written before flags are ORed (07 R156, 04 R89). -/
def effectOrder : Effect → Nat
  | .rng _ => 0
  | .csrWrite _ _ => 1
  | _ => 2

def inOrder (es : List Effect) : List Effect :=
  (es.filter fun e => decide (effectOrder e = 0)) ++ (es.filter fun e => decide (effectOrder e = 1)) ++ (es.filter fun e => decide (effectOrder e = 2))

/-- The target of a bundle's taken transfer, and the TPC an ERET returns to. -/
def jumpOf (es : List Effect) : Option (BitVec 64) :=
  es.findSome? fun e => match e with
    | .jump t => some t
    | _ => none

def hasEret (es : List Effect) : Bool := es.any fun e => match e with
  | .eret => true
  | _ => false

/-- The poisoned table entry that a walk of the bundle met, and the poison its slots consume: unit, kind of address and address. -/
def walkPoisonOf (es : List Effect) : Option Nat :=
  es.findSome? fun e => match e with
    | .walkPoison pa => some pa
    | _ => none

def poisonOf (es : List Effect) : Option (Nat × Nat × Nat) :=
  es.findSome? fun e => match e with
    | .poison u a => some (u, 3, a)
    | .badReg c => some (0, 5, c.toNat)
    | _ => none

/-- The end of a body that a LOOP with count 0 skips: last bundle, and the bundle after it. -/
def skipOf (es : List Effect) : Option (BitVec 64 × BitVec 64) :=
  es.findSome? fun e => match e with
    | .loop _ _ _ 0 _ last after => some (last, after)
    | _ => none

/-- Whether a bundle sets up a staged level. -/
def setsStaged (es : List Effect) : Bool := es.any fun e => match e with
  | .loop _ _ n count _ _ _ => decide (1 ≤ n ∧ count ≠ 0)
  | _ => false

/-- The poisoned table entries that gates stopped on the bundle's walks (17 R333). -/
def gateStopsOf (es : List Effect) : List Nat :=
  es.filterMap fun e => match e with
    | .gateStop pa => some pa
    | _ => none

/-- TRAP's immediate. -/
def trapOf (es : List Effect) : Option (BitVec 12) :=
  es.findSome? fun e => match e with
    | .trap i => some i
    | _ => none

/-- Where execution goes after a bundle at `pc` of `size` bytes, with the back-edges there (07 R148, R152, R161, R162).  A transfer or ERET that
stands beside a LOOP with count 0 wins, and the skip makes no back-edge (DESIGN CHOICE, log 48). -/
def Ctx.advance (x : Ctx) (es : List Effect) (size : Nat) : Ctx :=
  let next := x.pc + BitVec.ofNat 64 size
  let levels := [0, 1, 2, 3, 4, 5]
  if hasEret es then { x with pc := x.tpc }
  else
    match jumpOf es with
    | some t => { x.leaveLevels t with pc := t }
    | none =>
      match skipOf es with
      | some (last, after) =>
        -- the skipped body's last bundle is passed as if removed; the LOOP's own bundle may end no body, since the skipped one lies inside
        let (y, pc) := x.backEdges last after levels
        { y with pc := pc }
      | none =>
        let (y, pc) := x.backEdges x.pc next levels
        { y with pc := pc }

/-- The counters of freezes start anew. -/
def Core.thaw (c : Core) : Core :=
  { c with frozeLand := 0, frozeTok := 0, frozeSb := 0, frozeTv := (0, 0, 0), frozeSbAt := ([], 0, false), waited := 0, waitLimit := 0
           frozeOn := [], fence := none, poll := none }

/-- Whether a bundle halts or parks its member, or traps (19 R365). -/
def endsMember (es : List Effect) : Bool := es.any fun e => match e with
  | .halt => true
  | .trap _ => true
  | .park _ _ => true
  | _ => false

/-- A segment opens at the bundle in issue, with a checkpoint (19 R366). -/
def Core.checkpoint (c : Core) (alone : Bool) : Core :=
  { c with
    ctx := { c.ctx with segLeft := 4096 }
    seg := { Init.segment with done := c.seg.done, openSeg := true, ck := some (c.ctx, c.pool.tagt, c.pool.plru), first := c.nid, ending := alone } }

/-- A protected member's bundle opens a segment when none is open (19 R365).  The bundles that R365 leaves between two segments, an RDV's, a HALT's, a
PARK's and a TRAP's, are checked too (R364): the model gives each a segment of its own, which ends with it (DESIGN CHOICE, log 21). -/
def Core.openSegment (c : Core) : Core := if c.prot && !c.seg.openSeg then c.checkpoint (c.iss.rdv || endsMember c.iss.effects) else c

/-- The pool line that an add of the bundle leaves. -/
def Core.addLines (c : Core) (es : List Effect) : List (Nat × Nat) :=
  es.filterMap fun e => match e with
    | .spAdd off _ => some (off, c.spRead off 8)
    | _ => none

/-- The registers that landings of a bundle's end write, and those predicates and address registers that differ after it. -/
def Core.endWrites (c : Core) (after : Ctx) : List (Nat × Nat × Nat) :=
  ((c.land.filter fun l => l.due && l.data.isSome).map fun l => (l.file, l.dest, l.data.getD 0))
    ++ ((List.range 16).filter fun n => after.p.getLsbD n != c.ctx.p.getLsbD n).map (fun n => (2, n, (after.p.getLsbD n).toNat))
    ++ ((List.range 16).filter fun n => decide (mapGet 0 after.a n ≠ mapGet 0 c.ctx.a n)).map fun n => (3, n, (mapGet 0 after.a n).toNat)

/-- What the commit signature of a bundle is formed from, whose effects have been applied, and whose end leaves a context. -/
def Core.signed (c : Core) (iss : Issue) (after : Ctx) (t : Option Trap) : Signed :=
  { effects := iss.effects, guards := iss.guards, lines := c.addLines iss.effects, writes := c.endWrites after, done := c.seg.done, trap := t }

/-- The commit signature of a bundle joins those of the open segment. -/
def Core.sign (c : Core) (x : Signed) : Core :=
  { c with
    seg := { c.seg with
      issued := c.seg.issued + 1, done := [], sigs := c.seg.sigs ++ [Config.signature x], sigAt := c.seg.sigAt ++ [c.ctx.cycle.toNat] } }

/-- The end of the issue cycle of a bundle whose effects have been applied (03 R69, R70, R73): due results and landings are written, the
stage predicates of a LOOP are set, back-edges at the bundle occur, and the next bundle's address is known.  A bundle that an ERET returns to still
qualifies by what it froze on before its trap (18 R352).  The bundle after a body that a LOOP with count 0 has skipped is the next in fetch order: the
nullifier has examined it at the bundle before the LOOP (DESIGN CHOICE, log 39). -/
def Core.endBundle (c : Core) (iss : Issue) : Core :=
  let before := c.tickPipe.tickLand
  let c := before.writeLandings fun l => l.due
  let c := if setsStaged iss.effects then { c with ctx := c.ctx.stageInit } else c
  let x := { c.ctx.advance iss.effects iss.size with cycle := c.ctx.cycle + 1, waitOk := false }
  let x := if c.prot then { x with segLeft := x.segLeft - 1 } else x
  let c := { c with seg := if c.prot && c.seg.openSeg then (c.sign (before.signed iss x none)).seg else c.seg }
  let jumped := (jumpOf iss.effects).isSome || hasEret iss.effects
  let again := match c.frozePast with
    | some (pc, ops) => if hasEret iss.effects ∧ x.pc = pc then ops else []
    | none => []
  { c.thaw with
    ctx := x
    frozeOn := again
    frozePast := if hasEret iss.effects then none else c.frozePast
    iss := Init.issue
    got := c.got.filter (·.code)
    sinceJump := if jumped then 0 else min 2 (c.sinceJump + 1)
    predP := if c.removed then c.predP else c.predD
    predD := iss.predD
    predS := iss.predS
    removed := false
    removedP := c.removed }

/-- The bundle in issue takes effect and its issue cycle ends. -/
def Core.commit (c : Core) : Core := ((inOrder c.iss.effects).foldl Core.apply c.openSegment).endBundle c.iss

/-- Whether a freeze counts toward 0x1703. -/
def Freeze.countsSb : Freeze → Bool
  | .scoreboard _ => true
  | .sbFull => true
  | .landFull => true
  | _ => false

/-- A freeze cycle of the bundle in issue: it counts toward the timeouts of 18 R353 and toward a wait's limit (10 R238). -/
def Core.freezeCycle (c : Core) (fz : List (Freeze × BitVec 64)) : Core :=
  let find (p : Freeze → Bool) : Option (BitVec 64) := (fz.find? fun f => p f.1).map (·.2)
  let land := find fun f => decide (f = .landing)
  let tok := find fun f => decide (f = .token)
  let sb := find fun f => f.countsSb
  let wait := (find fun f => decide (f = .wait)).isSome
  { c with
    ctx := { c.ctx with cycle := c.ctx.cycle + 1 }
    frozeLand := if land.isSome then c.frozeLand + 1 else 0
    frozeTok := if tok.isSome then c.frozeTok + 1 else 0
    frozeSb := if sb.isSome then c.frozeSb + 1 else 0
    frozeTv := (land.getD 0, tok.getD 0, sb.getD 0)
    frozeSbAt :=
      (fz.filterMap fun f => match f.1 with
        | .scoreboard n => some (f.2.toNat, n)
        | _ => none,
        if fz.any fun f => decide (f.1 = .sbFull) then c.sb.length else 0, fz.any fun f => decide (f.1 = .landFull))
    waited := if wait then c.waited + 1 else c.waited
    waitLimit := if wait && decide (c.waited = 0) then c.ctx.waitcap.toNat else c.waitLimit
    fence := match fz.findSome? (fun f => match f.1 with
        | .fence va n => some (va, n)
        | _ => none) with
      | some (va, n) => if c.fence.isNone then some (va, n, false) else c.fence
      | none => c.fence
    frozeOn := c.frozeOn ++ c.iss.sbOps.filter fun o => !c.frozeOn.contains o
    seg := if fz.any fun f => decide (f.1 = .segment) then { c.seg with ending := true } else c.seg
    iss := { Init.issue with paid := c.iss.paid || fz.any fun f => decide (f.1 = .bankConflict) } }

/-- Cycles after which a freeze times out (18 R353). -/
def freezeLimit : Nat := 16777216

/-- The trap of a freeze that has lasted its limit and still stands: `fz` holds the freezes of this cycle. -/
def Core.timeout (c : Core) (fz : List Freeze) : Option Trap :=
  if freezeLimit ≤ c.frozeLand ∧ fz.contains .landing = true ∧ (c.land.any fun l => l.due && l.data.isNone) = true then
    some { code := 0x1701, port := 0, tval := c.frozeTv.1 }
  else if freezeLimit ≤ c.frozeTok ∧ fz.contains .token = true then some { code := 0x1702, port := 0, tval := c.frozeTv.2.1 }
  else if freezeLimit ≤ c.frozeSb ∧ fz.any Freeze.countsSb = true then some { code := 0x1703, port := 0, tval := c.frozeTv.2.2 }
  else none

/-- A wait that has frozen for its limit parks the member at the wait (10 R238). -/
def Core.waitExpired (c : Core) : Bool := decide (c.waitLimit ≠ 0) && decide (c.waitLimit ≤ c.waited)

/-- Undo-log entries and hold-buffer entries a pair has (19 R366, R367). -/
def logRoom (pw : Nat) : Nat := (nReg pw - 4) * 768
def holdRoom : Nat := 256

/-- Entries of the hold buffer in use. -/
def Segment.held (g : Segment) : Nat := (g.hold.filter fun h => match h with
  | .request _ first => first
  | _ => true).length

/-- Whether the open segment of a protected member ends before the bundle in issue (19 R365): for want of an undo-log or hold entry, before the bundle
that needs it, or before the next one where an engine's writes have needed more. The bundle that a rerun begins with opened the segment, and ends
none. -/
def Core.segmentEnds (c : Core) : Bool :=
  c.prot && c.seg.openSeg && (c.seg.ending ||
    (decide (c.seg.issued ≠ 0) &&
      (c.iss.boundary || decide (c.ctx.segLeft = 0)
        || (let g := c.commit.seg
            decide (logRoom c.ctx.pw < g.log.length) || decide (holdRoom < g.held)))))

/-- A cycle in which the sequencer fetches nothing (18 R343 step 1). -/
def Core.stall (c : Core) : Core := { c with ctx := { c.ctx with cycle := c.ctx.cycle + 1 } }

/-- A precise trap of a protected member is part of its bundle's signature: it waits until the open segment, or one that opens for it alone, has compared
and committed (19 R364, R365, R371). -/
def Core.holdTrap (c : Core) (t : Trap) : Core :=
  let c := if c.seg.openSeg then c else c.checkpoint true
  let c := c.sign (c.signed c.iss c.ctx (some t))
  { c.stall with trap := some (t, c.ctx.pc), iss := Init.issue, seg := { c.seg with ending := true, issued := c.seg.issued - 1 } }

/-- Poison consumed by the bundle that has just been issued: a mismatch counts the bundles before it (19 R374). -/
def State.bundleConsumes (s : State) (c : BitVec 8) (unit atype addr : Nat) : State :=
  if (s.core c).seg.bad ≠ 0 then s.consume c unit atype addr
  else (s.consume c unit atype addr).updCore c fun k => if k.seg.bad ≠ 0 then { k with seg := { k.seg with badAt := k.seg.badAt - 1 } } else k

/-- Whether some pair of the member's region in its partition is restoring or rerunning (19 R370). -/
def State.regionRerunning (s : State) (b : Binding) : Bool :=
  s.cores.any fun x => (x.2.seg.rerun || x.2.seg.restoring) && match x.2.task with
    | some y => decide (y.part = b.part) && decide (y.rcb = b.rcb) && decide (y.rasid = b.rasid)
    | none => false

/-- The number by which a slot names a physical register under the rotation at hand (18 R347). -/
def Ctx.logical (x : Ctx) (file n : Nat) : Nat :=
  let (first, size, base) := if file = 0 then (32, 32, x.sB.toNat) else (48, 16, x.vB.toNat)
  if n < first then n else first + (n - first + size - base) % size

/-- Freezes of the whole bundle: a landing that is due and not yet written, a cycle of the duty under PWRW or of a change of frequency (03 R60), a
segment that must commit first, a rendezvous. -/
def State.bundleFreezes (s : State) (c : Core) : List (Freeze × BitVec 64) :=
  (match c.land.find? fun l => l.due with
    | some l => [(.landing, BitVec.ofNat 64 (l.file * 64 + c.ctx.logical l.file l.dest))]
    | none => [])
  ++ (if c.iss.duty then [(.duty, 0)] else [])
  ++ (if c.segmentEnds then [(.segment, 0)] else [])
  ++ (match c.task with
    | some b => if c.prot && c.iss.rdv && s.regionRerunning b then [(.segment, 0)] else []
    | none => [])

/-! ## Fetch and framing (06 R117, R118, 18 R349) -/

/-- One code word: data, or a fetch fault 1-4, a poisoned table entry, or a wait for a column. -/
def State.codeWord (s : State) (c : BitVec 8) (va : BitVec 64) : Got :=
  match s.xlateCore c .exec va.toNat with
  | .ok a => s.direct (coreKey c) (s.partOfCore c) a 4 true
  | x => x.got

/-- The words of the bundle at `pc`, at most 8 and up to the first STOP, with the fault that ended the fetch early. -/
def State.fetchWords (s : State) (c : BitVec 8) (pc : BitVec 64) : Nat → Nat → List (BitVec 32) × Option (Got × BitVec 64)
  | 0, _ => ([], none)
  | fuel + 1, i =>
    let va := pc + BitVec.ofNat 64 (4 * i)
    match s.codeWord c va with
    | .val x =>
      let w := BitVec.ofNat 32 x
      if w.msb then ([w], none)
      else
        let (ws, e) := s.fetchWords c pc fuel (i + 1)
        (w :: ws, e)
    | g => ([], some (g, va))

/-- Bytes of a bundle whose STOP stands in word `n − 1`. -/
def bundleBytes (n : Nat) : Nat := if n ≤ 4 then 16 else 32

/-- The lowest word at fault in a bundle's framing (06 R118, 18 R347). -/
def framingFault (ws : List (BitVec 32)) (complete : Bool) : Option Nat :=
  let stopped := (ws.getLast?.map BitVec.msb).getD false
  if complete && !stopped then some 8
  else
    let early := if stopped && decide (ws.length ≤ 3) then [ws.length - 1] else []
    let ports := (List.range ws.length).filter fun i =>
      decide (1 ≤ i) && decide ((ws.getD i 0).extractLsb' 28 3 ≤ (ws.getD (i - 1) 0).extractLsb' 28 3)
    (ports ++ early).foldl (fun b i => match b with
      | none => some i
      | some j => some (min i j)) none

/-- The encoding fault of a slot after the slots before it: the lowest of 0x1002-0x1005 (18 R346). -/
def encodingFault (earlier : List Slot) (w : BitVec 32) : Option Trap :=
  let port := w.extractLsb' 28 3
  match decodeSlot w with
  | .error .unassigned => some { code := 0x1002, port := port, tval := w.zeroExtend 64 }
  | .error .reserved => some { code := 0x1003, port := port, tval := w.zeroExtend 64 }
  | .ok sl =>
    match conflict (earlier.flatMap fun e => slotUses e.instr e.hdr.guard) (slotUses sl.instr sl.hdr.guard) with
    | some u => some { code := 0x1004, port := port, tval := regIdentity u }
    | none => if sl.instr.wellFormed then none else some { code := 0x1005, port := port, tval := w.zeroExtend 64 }

/-- The slots of a bundle, or the first encoding fault in ascending PORT order. -/
def decodeBundle : List Slot → List (BitVec 32) → Except Trap (List Slot)
  | acc, [] => .ok acc
  | acc, w :: ws =>
    match encodingFault acc w, decodeSlot w with
    | some t, _ => .error t
    | none, .ok sl => decodeBundle (acc ++ [sl]) ws
    | none, .error _ => .ok acc

/-- The address of the bundle after the one at `pc`, as its words frame it; a bundle that cannot be read counts 16 bytes (log 9). -/
def State.nextBundle (s : State) (c : BitVec 8) (pc : BitVec 64) : BitVec 64 :=
  pc + BitVec.ofNat 64 (bundleBytes (s.fetchWords c pc 8 0).1.length)

/-- The address of the `n`-th bundle after the one at `pc`, and of the one after that (07 R161: a body's last bundle, and the bundle after it). -/
def State.bundlesOn (s : State) (c : BitVec 8) : Nat → BitVec 64 → BitVec 64 × BitVec 64
  | 0, pc => (pc, s.nextBundle c pc)
  | n + 1, pc => s.bundlesOn c n (s.nextBundle c pc)

/-! ## The nullifier (03 R72) -/

/-- Whether the bundle at hand is removed: two bundles have passed since the last transfer and the one two before it issued, every guard of its
non-NOP slots reads false, no guard was written where the nullifier could not yet see it, and no result or landing is pending that falls due at it or
later.  Results that the bundle between issues count among these, as in R72's worked case; Idiom 3 of 05_idioms.md counts otherwise (DESIGN CHOICE,
log 39). -/
def Core.removable (c : Core) (slots : List Slot) : Bool :=
  let slots := slots.filter fun sl => decide (sl.instr ≠ .nop)
  decide (2 ≤ c.sinceJump) && !c.removedP && c.pipe.isEmpty && (c.land.all fun l => l.due)
    && slots.all fun sl =>
      !isSelector sl.instr && !c.ctx.getP sl.hdr.guard.toNat
        && !((c.predS ||| c.predP).getLsbD (c.ctx.physP sl.hdr.guard.toNat))

/-- A bundle is removed: it takes no cycle and no effect, and back-edges at it occur (03 R72, 07 R162). -/
def Core.remove (c : Core) (slots : List Slot) (size : Nat) : Core :=
  let x := c.ctx.advance [] size
  { c with
    ctx := x
    predS := slots.foldl (fun m sl => m ||| predDests c.ctx sl.instr) 0
    predP := if c.removed then c.predP else c.predD
    removed := true
    removedP := c.removed
    sinceJump := min 2 (c.sinceJump + 1) }

/-- Whether the next bundle is frozen at a wait that may park, with no landing to come: a park point (02 R40, log 22). -/
def Core.atParkPoint (c : Core) : Bool := decide (0 < c.waited) && decide (c.waitLimit ≠ 0) && c.land.isEmpty

/-- The point at which a pending pre-emption takes effect: under SAVE = 1 at once, or between segments in a protected region; under SAVE = 0 at a
park point (02 R40, 18 R361). -/
def Core.mayPreempt (c : Core) : Bool := match c.task with
  | some b =>
    b.preempt && (b.save || c.atParkPoint) && decide (c.run = .running) && c.trap.isNone && !c.seg.openSeg && !c.seg.restoring
  | none => false

/-- Whether a member can issue: bound, running, and not stopped for a protected pair's restore. -/
def Core.issues (c : Core) : Bool := decide (c.cstate = 2) && c.task.isSome && decide (c.run = .running) && !c.seg.restoring
    && decide (c.seg.bad = 0)

/-- Core `c`'s next bundle, with its size, when the nullifier removes it: its turn then takes no cycle (03 R72). -/
def State.removedNext (s : State) (c : BitVec 8) : Option (List Slot × Nat) :=
  let core := s.core c
  let (ws, failed) := s.fetchWords c core.ctx.pc 8 0
  if core.issues && core.trap.isNone && failed.isNone && (framingFault ws true).isNone then
    match decodeBundle [] ws with
    | .ok slots => if core.removable slots then some (slots, bundleBytes ws.length) else none
    | .error _ => none
  else none

/-- Bundles that the nullifier removes before the next one that issues, at most `n` of them. -/
def State.skipRemoved (s : State) (c : BitVec 8) : Nat → State
  | 0 => s
  | n + 1 => match s.removedNext c with
    | some (slots, size) => (s.updCore c fun k => k.remove slots size).skipRemoved c n
    | none => s

/-! ## The end of an issue cycle -/

/-- The trap that a running member is about to take: one that waits only for its turn, or the pending fault of a token that its next bundle consumes
(18 R350). -/
def State.dueTrap (s : State) (c : BitVec 8) : Option (Trap × BitVec 64) :=
  let k := s.core c
  if !k.issues || (k.prot && k.seg.openSeg) || !(k.land.all fun l => l.data.isSome) || k.landingPoison (fun _ => true) then none
  else
    match k.trap, decodeBundle [] (({ s with peek := true } : State).fetchWords c k.ctx.pc 8 0).1 with
    | some x, _ => some x
    | none, .error _ => none
    | none, .ok slots =>
      let toks := (slots.filter fun sl => k.ctx.getP sl.hdr.guard.toNat).flatMap fun sl =>
        ((instrUses sl.instr).filter fun u => decide (u.file = 7)).map fun u => (k.ctx.physK u.num, u.write)
      if toks.all fun t => k.ctx.tokenDone t.1 then
        (deferredFault k ((toks.filter fun t => !t.2).map (·.1)) {}).map fun x => (x.2, k.ctx.pc)
      else none

/-- The traps that the other members in the scope of core `c`'s kill are about to take, and that would kill too. -/
def State.peerTraps (s : State) (c : BitVec 8) : List (BitVec 8 × Trap × BitVec 64) :=
  match (s.core c).task with
  | none => []
  | some b =>
    if b.kill = 0 then []
    else
      ((s.bindings.filter fun x => decide (x.part = b.part ∧ x.rasid = b.rasid) && s.inScope b x.rcb).flatMap (·.cores)).filterMap fun d =>
        if d = c ∨ (s.core d).ctx.handles = true then none else (s.dueTrap d).map fun x => (d, (s.core d).ctx.delivered x.1, x.2)

/-- Whether a member has been killed. -/
def Core.killed (c : Core) : Bool := match c.run with
  | .killed _ => true
  | _ => false

/-- The delivery of a trap of core `c`.  Where it kills, the members that are about to take traps of their own take them at the same moment: these
kill too, and are reported (22 R407; log 40). -/
def State.withPeers (s : State) (c : BitVec 8) (f : State → State) : State :=
  let t := f s
  if (t.core c).killed && !(s.core c).killed then
    f ((s.peerTraps c).foldl (fun s x => (s.updCore x.1 Core.settle).reportTrap x.1 x.2.1 x.2.2) s)
  else t

/-- A precise trap of the bundle at hand. -/
def State.raiseTrap (s : State) (c : BitVec 8) (t : Trap) : State :=
  let k := s.core c
  if k.prot then s.setCore c (k.holdTrap t) else s.withPeers c fun s => s.takeTrap c t k.ctx.pc

/-- TRAP's trap, raised by a bundle that has taken effect: in protected mode it waits for its segment as well. -/
def State.raiseAfter (s : State) (c : BitVec 8) (t : Trap) : State :=
  let k := s.core c
  if k.prot && k.seg.openSeg then s.setCore c { k with trap := some (t, k.ctx.pc), seg := { k.seg with ending := true } }
  else s.withPeers c fun s => s.takeTrap c t k.ctx.pc

/-- Whether a loop level that the bundle's end reads holds poison: its counts, and the steps of a level whose last bundle this is. -/
def Ctx.nestBad (x : Ctx) : Bool :=
  !x.bad.isEmpty && (List.range 6).any fun lvl =>
    (x.getLevel lvl).active && (x.isBad 9 lvl
      || (decide ((x.getLevel lvl).last = x.pc) && (List.range 16).any fun n => x.isBad 3 (64 + n)))

/-- The bundle in issue is complete: it traps, freezes for a cycle, or takes effect (03 R60, 18 R346, R348). -/
def finishIssue (s : State) : State :=
  let c := s.core s.cur
  match c.iss.fault with
  | some (2, t) => s.raiseTrap s.cur t
  | _ =>
    let fz := c.iss.freezes ++ s.bundleFreezes c
    let g := gateStopsOf c.iss.effects
    let s := if fz ≠ [] then s else g.foldl State.gateStops s
    if fz ≠ [] then
      if c.waitExpired && fz.any fun f => decide (f.1 = .wait) then
        s.setCore s.cur (if c.prot && c.seg.openSeg then c.freezeCycle (fz ++ [(.segment, 0)]) else { c with run := .parked none, iss := Init.issue })
      else
        match c.timeout (fz.map (·.1)) with
        | some t => s.raiseTrap s.cur t
        | none => s.setCore s.cur (c.freezeCycle fz)
    else
      match c.iss.fault with
      | some (rank, t) =>
        let c := if rank = 4 then
            match firstDeferred c.ctx.deferred with
            | some d => { c with ctx := { c.ctx with deferred := c.ctx.deferred.erase d } }
            | none => c
          else c
        (s.setCore s.cur c).raiseTrap s.cur t
      | none =>
        match walkPoisonOf c.iss.effects with
        | some pa => s.walkPoison s.cur pa
        | none =>
          let psn := c.tickLand.landingPoison fun l => l.due
          let es := c.iss.effects ++ if c.ctx.nestBad then [.badReg s.cur] else []
          let c := c.commit
          let s := s.setCore s.cur c
          let s := if psn then s.bundleConsumes s.cur 3 0 0 else s
          let s := match poisonOf es with
            | some (u, t, a) => s.bundleConsumes s.cur u t a
            | none => s
          match trapOf es with
          | some imm =>
            let n := State.skipRemoved { s with peek := true } s.cur 2
            let s := s.setCore s.cur (n.core s.cur)
            if (s.core s.cur).run = .running then s.raiseAfter s.cur { code := 0x1501, port := 0, tval := imm.zeroExtend 64 } else s
          | none => s

/-- The meaning of a slot instruction: it contributes to the bundle in issue, and the last slot of the bundle ends the issue cycle. -/
def issueSlot (i : Instr) (body : State → Core → SlotOut) (s : State) : Host.Outcome State Fault Refusal :=
  let t := contribute i body s
  let c := t.core t.cur
  if c.iss.rest = 0 then .next (finishIssue t)
  else .next (t.setCore t.cur { c with iss := { c.iss with rest := c.iss.rest - 1 } })


end Sys2Proof.Machine
end

