-- ==== Sys2Proof/Machine/Scalar.lean ====
section
/-! DEFINITION. Scalar arithmetic, logic, moves, comparisons and selection of the S port (07 R139-R144). -/

namespace Sys2Proof.Machine

/-- A result for a scalar register, `lat` issue cycles after issue. -/
def resultS (c : Core) (lat : Nat) (d : BitVec 6) (x : BitVec 64) : SlotOut :=
  { effects := [.result lat (.s (c.ctx.physS d.toNat) x) 0] }

/-- The forms with two sources, with one, and with an immediate. -/
def scalar2 (lat : Nat) (d a b : BitVec 6) (f : BitVec 64 → BitVec 64 → BitVec 64) (_ : State) (c : Core) : SlotOut :=
  resultS c lat d (f (c.ctx.getS a.toNat) (c.ctx.getS b.toNat))

def scalar1 (lat : Nat) (d a : BitVec 6) (f : BitVec 64 → BitVec 64) (_ : State) (c : Core) : SlotOut :=
  resultS c lat d (f (c.ctx.getS a.toNat))

/-! ## Values (07 R140, R141) -/

/-- The high half of a signed product. -/
def mulHigh (x y : BitVec 64) : BitVec 64 := BitVec.ofInt 64 (x.toInt * y.toInt / 2 ^ 64)

/-- The high half of an unsigned product. -/
def mulHighU (x y : BitVec 64) : BitVec 64 := BitVec.ofNat 64 (x.toNat * y.toNat / 2 ^ 64)

/-- Signed division, truncated toward zero; all ones for a zero divisor; −2^63 / −1 wraps to −2^63. -/
def divS (x y : BitVec 64) : BitVec 64 := if y = 0 then BitVec.allOnes 64 else BitVec.ofInt 64 (x.toInt.tdiv y.toInt)

def divU (x y : BitVec 64) : BitVec 64 := if y = 0 then BitVec.allOnes 64 else BitVec.ofNat 64 (x.toNat / y.toNat)

/-- The signed remainder, with the sign of x; x for a zero divisor. -/
def remS (x y : BitVec 64) : BitVec 64 := if y = 0 then x else BitVec.ofInt 64 (x.toInt.tmod y.toInt)

def remU (x y : BitVec 64) : BitVec 64 := if y = 0 then x else BitVec.ofNat 64 (x.toNat % y.toNat)

/-- The low 6 bits of an amount. -/
def amount (y : BitVec 64) : Nat := y.toNat % 64

/-- Leading zero bits. -/
def clz64 (x : BitVec 64) : BitVec 64 := if x = 0 then 64 else BitVec.ofNat 64 (63 - Nat.log2 x.toNat)

/-- Trailing zero bits. -/
def ctz64 (x : BitVec 64) : BitVec 64 :=
  BitVec.ofNat 64 (((List.range 64).find? fun i => x.getLsbD i).getD 64)

/-- One bits. -/
def popc64 (x : BitVec 64) : BitVec 64 := BitVec.ofNat 64 ((List.range 64).filter fun i => x.getLsbD i).length

/-- Bits n to 0, sign-extended; zero-extended. -/
def sextLow (x : BitVec 64) (n : BitVec 6) : BitVec 64 := BitVec.ofInt 64 (signedOf (n.toNat + 1) x.toNat)

def zextLow (x : BitVec 64) (n : BitVec 6) : BitVec 64 := BitVec.ofNat 64 (x.toNat % 2 ^ (n.toNat + 1))

/-! ## Meanings -/

/-- ADD (07 R140). -/
def execAdd (d a b : BitVec 6) (s : State) : Host.Outcome State Fault Refusal :=
  issueSlot (.add d a b) (scalar2 1 d a b fun x y => x + y) s

/-- SUB (07 R140). -/
def execSub (d a b : BitVec 6) (s : State) : Host.Outcome State Fault Refusal :=
  issueSlot (.sub d a b) (scalar2 1 d a b fun x y => x - y) s

/-- MUL (07 R140). -/
def execMul (d a b : BitVec 6) (s : State) : Host.Outcome State Fault Refusal :=
  issueSlot (.mul d a b) (scalar2 3 d a b fun x y => x * y) s

/-- MULH (07 R140). -/
def execMulh (d a b : BitVec 6) (s : State) : Host.Outcome State Fault Refusal :=
  issueSlot (.mulh d a b) (scalar2 3 d a b fun x y => mulHigh x y) s

/-- MULHU (07 R140). -/
def execMulhu (d a b : BitVec 6) (s : State) : Host.Outcome State Fault Refusal :=
  issueSlot (.mulhu d a b) (scalar2 3 d a b fun x y => mulHighU x y) s

/-- DIV (07 R140). -/
def execDiv (d a b : BitVec 6) (s : State) : Host.Outcome State Fault Refusal :=
  issueSlot (.div d a b) (scalar2 20 d a b fun x y => divS x y) s

/-- DIVU (07 R140). -/
def execDivu (d a b : BitVec 6) (s : State) : Host.Outcome State Fault Refusal :=
  issueSlot (.divu d a b) (scalar2 20 d a b fun x y => divU x y) s

/-- REM (07 R140). -/
def execRem (d a b : BitVec 6) (s : State) : Host.Outcome State Fault Refusal :=
  issueSlot (.rem d a b) (scalar2 20 d a b fun x y => remS x y) s

/-- REMU (07 R140). -/
def execRemu (d a b : BitVec 6) (s : State) : Host.Outcome State Fault Refusal :=
  issueSlot (.remu d a b) (scalar2 20 d a b fun x y => remU x y) s

/-- AND (07 R140). -/
def execAnd (d a b : BitVec 6) (s : State) : Host.Outcome State Fault Refusal :=
  issueSlot (.and d a b) (scalar2 1 d a b fun x y => x &&& y) s

/-- OR (07 R140). -/
def execOr (d a b : BitVec 6) (s : State) : Host.Outcome State Fault Refusal :=
  issueSlot (.or d a b) (scalar2 1 d a b fun x y => x ||| y) s

/-- XOR (07 R140). -/
def execXor (d a b : BitVec 6) (s : State) : Host.Outcome State Fault Refusal :=
  issueSlot (.xor d a b) (scalar2 1 d a b fun x y => x ^^^ y) s

/-- ANDN (07 R140). -/
def execAndn (d a b : BitVec 6) (s : State) : Host.Outcome State Fault Refusal :=
  issueSlot (.andn d a b) (scalar2 1 d a b fun x y => x &&& ~~~y) s

/-- SHL (07 R140). -/
def execShl (d a b : BitVec 6) (s : State) : Host.Outcome State Fault Refusal :=
  issueSlot (.shl d a b) (scalar2 1 d a b fun x y => x <<< amount y) s

/-- SHR (07 R140). -/
def execShr (d a b : BitVec 6) (s : State) : Host.Outcome State Fault Refusal :=
  issueSlot (.shr d a b) (scalar2 1 d a b fun x y => x >>> amount y) s

/-- SRA (07 R140). -/
def execSra (d a b : BitVec 6) (s : State) : Host.Outcome State Fault Refusal :=
  issueSlot (.sra d a b) (scalar2 1 d a b fun x y => x.sshiftRight (amount y)) s

/-- ROTL (07 R140). -/
def execRotl (d a b : BitVec 6) (s : State) : Host.Outcome State Fault Refusal :=
  issueSlot (.rotl d a b) (scalar2 1 d a b fun x y => x.rotateLeft (amount y)) s

/-- MIN (07 R140). -/
def execMin (d a b : BitVec 6) (s : State) : Host.Outcome State Fault Refusal :=
  issueSlot (.min d a b) (scalar2 1 d a b fun x y => if x.slt y then x else y) s

/-- MAX (07 R140). -/
def execMax (d a b : BitVec 6) (s : State) : Host.Outcome State Fault Refusal :=
  issueSlot (.max d a b) (scalar2 1 d a b fun x y => if x.slt y then y else x) s

/-- MINU (07 R140). -/
def execMinu (d a b : BitVec 6) (s : State) : Host.Outcome State Fault Refusal :=
  issueSlot (.minu d a b) (scalar2 1 d a b fun x y => if x.ult y then x else y) s

/-- MAXU (07 R140). -/
def execMaxu (d a b : BitVec 6) (s : State) : Host.Outcome State Fault Refusal :=
  issueSlot (.maxu d a b) (scalar2 1 d a b fun x y => if x.ult y then y else x) s

/-- CLZ (07 R140). -/
def execClz (d a : BitVec 6) (s : State) : Host.Outcome State Fault Refusal :=
  issueSlot (.clz d a) (scalar1 1 d a fun x => clz64 x) s

/-- CTZ (07 R140). -/
def execCtz (d a : BitVec 6) (s : State) : Host.Outcome State Fault Refusal :=
  issueSlot (.ctz d a) (scalar1 1 d a fun x => ctz64 x) s

/-- POPC (07 R140). -/
def execPopc (d a : BitVec 6) (s : State) : Host.Outcome State Fault Refusal :=
  issueSlot (.popc d a) (scalar1 1 d a fun x => popc64 x) s

/-- SEXT (07 R141). -/
def execSext (d a n : BitVec 6) (s : State) : Host.Outcome State Fault Refusal :=
  issueSlot (.sext d a n) (scalar1 1 d a fun x => sextLow x n) s

/-- ZEXT (07 R141). -/
def execZext (d a n : BitVec 6) (s : State) : Host.Outcome State Fault Refusal :=
  issueSlot (.zext d a n) (scalar1 1 d a fun x => zextLow x n) s

/-- ADDI (07 R141). -/
def execAddi (d a i : BitVec 6) (s : State) : Host.Outcome State Fault Refusal :=
  issueSlot (.addi d a i) (scalar1 1 d a fun x => x + i.signExtend 64) s

/-- ANDI (07 R141). -/
def execAndi (d a i : BitVec 6) (s : State) : Host.Outcome State Fault Refusal :=
  issueSlot (.andi d a i) (scalar1 1 d a fun x => x &&& i.signExtend 64) s

/-- ORI (07 R141). -/
def execOri (d a i : BitVec 6) (s : State) : Host.Outcome State Fault Refusal :=
  issueSlot (.ori d a i) (scalar1 1 d a fun x => x ||| i.signExtend 64) s

/-- SHLI (07 R141). -/
def execShli (d a i : BitVec 6) (s : State) : Host.Outcome State Fault Refusal :=
  issueSlot (.shli d a i) (scalar1 1 d a fun x => x <<< i.toNat) s

/-- SHRI (07 R141). -/
def execShri (d a i : BitVec 6) (s : State) : Host.Outcome State Fault Refusal :=
  issueSlot (.shri d a i) (scalar1 1 d a fun x => x >>> i.toNat) s

/-- SRAI (07 R141). -/
def execSrai (d a i : BitVec 6) (s : State) : Host.Outcome State Fault Refusal :=
  issueSlot (.srai d a i) (scalar1 1 d a fun x => x.sshiftRight i.toNat) s

/-- MOVI (07 R142). -/
def execMovi (d : BitVec 6) (i : BitVec 12) (s : State) : Host.Outcome State Fault Refusal :=
  issueSlot (.movi d i) (fun _ c => resultS c 1 d (i.signExtend 64)) s

/-- MOVHI (07 R142). -/
def execMovhi (d : BitVec 6) (i : BitVec 12) (s : State) : Host.Outcome State Fault Refusal :=
  issueSlot (.movhi d i) (scalar1 1 d d fun x => x <<< 12 ||| i.zeroExtend 64) s

/-- SEL (07 R143): the predicate is a source, and no guard. -/
def execSel (q : BitVec 4) (d a b : BitVec 6) (s : State) : Host.Outcome State Fault Refusal :=
  issueSlot (.sel q d a b) (fun _ c => resultS c 1 d (if c.ctx.getP q.toNat then c.ctx.getS a.toNat else c.ctx.getS b.toNat)) s

/-- A pair of predicates set by a comparison. -/
def comparePair (c : Core) (r : BitVec 3) (x : Bool) : SlotOut :=
  { effects := (pairWrites c.ctx.physP r x).map fun w => .result 1 w 0 }

/-- CMP (07 R144). -/
def execCmp (r cc : BitVec 3) (a b : BitVec 6) (s : State) : Host.Outcome State Fault Refusal :=
  issueSlot (.cmp r cc a b) (fun _ c => comparePair c r (compareS cc (c.ctx.getS a.toNat) (c.ctx.getS b.toNat))) s

/-- CMPI (07 R144). -/
def execCmpi (r cc : BitVec 3) (a i : BitVec 6) (s : State) : Host.Outcome State Fault Refusal :=
  issueSlot (.cmpi r cc a i) (fun _ c => comparePair c r (compareS cc (c.ctx.getS a.toNat) (i.signExtend 64))) s

/-- NOP (07 R158). -/
def execNop (s : State) : Host.Outcome State Fault Refusal := issueSlot .nop (fun _ _ => {}) s

end Sys2Proof.Machine
end

