-- ==== Sys2Proof/Machine/ScalarMem.lean ====
section
/-! DEFINITION. Scratchpad loads and stores of the S port and the writes of descriptors (07 R145, R146), with the checks that every sequencer access to the scratchpad makes. -/

namespace Sys2Proof.Machine

/-- Operations, and whether there is an entry, whose live scoreboard range the bytes overlap (03 R75). -/
def Core.sbOverlap (c : Core) (off n : Nat) : List Nat :=
  (c.sb.filter fun e => overlaps off n e.lo (e.hi + 1 - e.lo)).map (·.op)

/-- The alignment fault of an address, and the range fault of `n` bytes at it (18 R347). -/
def spFaults (pw align ea n : Nat) : List (BitVec 16 × BitVec 64) :=
  (if ea % align = 0 then [] else [((0x1201 : BitVec 16), BitVec.ofNat 64 ea)])
    ++ (match spOutside pw ea n with
      | some x => [((0x1202 : BitVec 16), BitVec.ofNat 64 x)]
      | none => [])

/-- One sequencer access to `n` bytes of the own scratchpad: its faults, scoreboard freezes and banks (03 R60, R61, R75).  An access that faults takes
part in no bank conflict (DESIGN CHOICE, log 48). -/
def spAccess (c : Core) (align ea n : Nat) : SlotOut :=
  let ops := c.sbOverlap ea n
  { faults := spFaults c.ctx.pw align ea n
    freezes := if ops.isEmpty then [] else [(.scoreboard n, BitVec.ofNat 64 ea)]
    sbOps := ops
    banks := if (spFaults c.ctx.pw align ea n).isEmpty then banksOf c.ctx.pw ea n else [] }

/-- Faults of a scratchpad range, given by its lowest and highest byte, which may lie below 0 (18 R347). -/
def rangeFault (pw : Nat) (lo hi : Int) : List (BitVec 16 × BitVec 64) :=
  if 0 ≤ lo ∧ hi < spSize pw then []
  else if lo < 0 then [((0x1202 : BitVec 16), BitVec.ofInt 64 lo)]
  else [((0x1202 : BitVec 16), BitVec.ofInt 64 (max lo (spSize pw)))]

/-- Poison met by a register load from scratchpad (17 R332). -/
def spPoison (c : Core) (off n : Nat) : List Effect := if c.spPoisoned off n then [.poison 0 off] else []

/-- s(a) + sext(imm6) × k, modulo 2^64. -/
def offsetAddr (c : Core) (a i : BitVec 6) (k : BitVec 64) : Nat := (c.ctx.getS a.toNat + i.signExtend 64 * k).toNat

/-- LDS (07 R145). -/
def execLds (d a i : BitVec 6) (s : State) : Host.Outcome State Fault Refusal :=
  issueSlot (.lds d a i) (fun _ c =>
    let ea := offsetAddr c a i 8
    let out := spAccess c 8 ea 8
    if !out.faults.isEmpty then out
    else { out with effects := .result 3 (.s (c.ctx.physS d.toNat) (BitVec.ofNat 64 (c.spRead ea 8))) 0 :: spPoison c ea 8 }) s

/-- STS (07 R145). -/
def execSts (d a i : BitVec 6) (s : State) : Host.Outcome State Fault Refusal :=
  issueSlot (.sts d a i) (fun _ c =>
    let ea := offsetAddr c a i 8
    { spAccess c 8 ea 8 with effects := [.spStore ea 8 (c.ctx.getS d.toNat).toNat (c.ctx.badMask 0 (c.ctx.physS d.toNat))] }) s

/-- EDW (07 R146). -/
def execEdw (d a : BitVec 6) (w : BitVec 2) (s : State) : Host.Outcome State Fault Refusal :=
  issueSlot (.edw d a w) (fun _ c => { effects := [.result 1 (.ew d.toNat w (c.ctx.getS a.toNat)) 0] }) s

/-- s(a) + sext(imm6) × 32, which EDLD takes without a modulus (07 R146, 00 R8). -/
def descEa (c : Core) (a i : BitVec 6) : Int := ((c.ctx.getS a.toNat).toNat : Int) + i.toInt * 32

/-- EDLD (07 R146). -/
def execEdld (d a i : BitVec 6) (s : State) : Host.Outcome State Fault Refusal :=
  issueSlot (.edld d a i) (fun _ c =>
    let ea := descEa c a i
    let faults := (if ea % 32 = 0 then [] else [((0x1201 : BitVec 16), BitVec.ofInt 64 ea)]) ++ rangeFault c.ctx.pw ea (ea + 31)
    let lo := (max ea 0).toNat
    let out := spAccess c 1 lo ((ea + 32).toNat - lo)
    if !faults.isEmpty then { out with faults := faults, banks := [] }
    else
      { out with effects := .result 3 (.e d.toNat (BitVec.ofNat 256 (c.spRead lo 32))) 0 :: spPoison c lo 32 }) s

end Sys2Proof.Machine
end

