-- ==== Sys2Proof/Machine/Control.lean ====
section
/-! DEFINITION. Control flow, task control, control registers and segment marks of the S port (07 R147-R157). -/

namespace Sys2Proof.Machine

/-- The target of a relative transfer: the bundle's address + 16 × sext(imm18). -/
def relative (c : Core) (i : BitVec 18) : BitVec 64 := c.ctx.pc + i.signExtend 64 * 16

/-- The alignment fault of an indirect target. -/
def targetFault (t : BitVec 64) : List (BitVec 16 × BitVec 64) := if t.toNat % 16 = 0 then [] else [(0x1201, t)]

/-- BR (07 R147). -/
def execBr (i : BitVec 18) (s : State) : Host.Outcome State Fault Refusal :=
  issueSlot (.br i) (fun _ c => { effects := [.jump (relative c i)] }) s

/-- BRI (07 R147). -/
def execBri (a : BitVec 6) (s : State) : Host.Outcome State Fault Refusal :=
  issueSlot (.bri a) (fun _ c => { effects := [.jump (c.ctx.getS a.toNat)], faults := targetFault (c.ctx.getS a.toNat) }) s

/-- CALL (07 R147): s31 receives the address of the bundle after this one. -/
def execCall (i : BitVec 18) (s : State) : Host.Outcome State Fault Refusal :=
  issueSlot (.call i) (fun _ c =>
    { effects := [.jump (relative c i), .result 1 (.s 31 (c.ctx.pc + BitVec.ofNat 64 c.iss.size)) 0] }) s

/-- RET (07 R147). -/
def execRet (s : State) : Host.Outcome State Fault Refusal :=
  issueSlot .ret (fun _ c => { effects := [.jump (c.ctx.getS 31)], faults := targetFault (c.ctx.getS 31) }) s

/-- LAUNCH (07 R149): the request is sent by LAUNCH_REQUEST_SEND once what it waits for has performed. -/
def execLaunch (a : BitVec 6) (s : State) : Host.Outcome State Fault Refusal :=
  issueSlot (.launch a) (fun _ c =>
    let n := c.ctx.getS a.toNat
    { effects := [.launch n], faults := if n.toNat % 64 = 0 then [] else [(0x1201, n)], qualifies := true, boundary := true }) s

/-- HALT (07 R150). -/
def execHalt (s : State) : Host.Outcome State Fault Refusal :=
  issueSlot .halt (fun _ _ => { effects := [.halt], qualifies := true, ends := true, boundary := true }) s

/-- The outcome of translating a core's access at issue: the place, a precise fault with TVAL the address, or the poisoned table entry; a walk that
waits for a column holds the bundle (18 R349). -/
def translated (s : State) (c : BitVec 8) (want : Want) (va : Nat) : Option PAddr × SlotOut :=
  match s.xlateCore c want va with
  | .ok a => (some a, {})
  | .fault n => (none, { faults := [(BitVec.ofNat 16 (0x1400 + n), BitVec.ofNat 64 va)] })
  | .poison pa => (none, { effects := [.walkPoison pa] })
  | .stopped pa => (none, { effects := [.gateStop pa], faults := [(0x1404, BitVec.ofNat 64 va)] })
  | .held => (none, { freezes := [(.portHeld, 0)] })

/-- PARK (07 R151): the beacon is translated at issue and read after the save. -/
def execPark (a b : BitVec 6) (s : State) : Host.Outcome State Fault Refusal :=
  issueSlot (.park a b) (fun s c =>
    let va := c.ctx.getS a.toNat
    let out : SlotOut := if va = 0 then {} else if va.toNat % 8 ≠ 0 then { faults := [(0x1201, va)] } else (translated s s.cur .read va.toNat).2
    { out with effects := .park va (c.ctx.getS b.toNat) :: out.effects, qualifies := true, ends := true, boundary := true }) s

/-- TRAP (07 R152): delivered when the bundle takes effect. -/
def execTrap (i : BitVec 12) (s : State) : Host.Outcome State Fault Refusal :=
  issueSlot (.trap i) (fun _ _ => { effects := [.trap i], boundary := true }) s

/-- ERET (07 R152). -/
def execEret (s : State) : Host.Outcome State Fault Refusal :=
  issueSlot .eret (fun _ _ => { effects := [.eret] }) s

/-! ## Control registers -/

/-- The value of a control register (07 R154), as core number `cid` reads it at time `ns`.  CYCLE reads as it stood before the issue cycle of the read:
the spec does not say whether that cycle counts already (DESIGN CHOICE, log 49). -/
def Ctx.csrRead (x : Ctx) (cid : BitVec 8) (ns : Nat) (n : BitVec 12) : BitVec 64 :=
  let w (v : Nat) : BitVec 64 := BitVec.ofNat 64 v
  if n = 0x000 then x.frm.zeroExtend 64
  else if n = 0x001 then x.fflags.zeroExtend 64
  else if n = 0x002 then x.srseed.zeroExtend 64
  else if n = 0x010 then w x.id.tidx
  else if n = 0x011 then w (x.id.tidx % x.id.vsx)
  else if n = 0x012 then w (x.id.tidx / x.id.vsx % x.id.vsy)
  else if n = 0x013 then w (x.id.tidx / (x.id.vsx * x.id.vsy))
  else if n = 0x014 then w x.id.vsx
  else if n = 0x015 then w x.id.vsy
  else if n = 0x016 then w x.id.vsz
  else if n = 0x017 then w x.id.tmemb
  else if n = 0x018 then w x.id.tgran
  else if n = 0x019 then x.id.karg
  else if n = 0x01A then x.id.rcba
  else if n = 0x01B then cid.zeroExtend 64
  else if n = 0x01C then x.id.partw.zeroExtend 64
  else if n = 0x020 then x.cycle
  else if n = 0x021 then w ns
  else if n = 0x030 then x.waitcap.zeroExtend 64
  else if n = 0x040 then x.tvec
  else if n = 0x041 then x.tpc
  else if n = 0x042 then x.tcause.zeroExtend 64
  else if n = 0x043 then x.tval
  else if 0x050 ≤ n.toNat ∧ n.toNat ≤ 0x05F then (x.getQs (n.toNat - 0x050)).zeroExtend 64
  else 0

/-- The scale register that a control register number names. -/
def scaleUses (n : BitVec 12) : List Use :=
  if 0x050 ≤ n.toNat ∧ n.toNat ≤ 0x05F then [{ file := 8, num := n.toNat - 0x050, write := false, named := false }] else []

/-- CSRR (07 R153). -/
def execCsrr (d : BitVec 6) (i : BitVec 12) (s : State) : Host.Outcome State Fault Refusal :=
  issueSlot (.csrr d i) (fun s c => { resultS c 1 d (c.ctx.csrRead s.cur s.ns i) with reads := scaleUses i }) s

/-- CSRW (07 R153): d names the source. -/
def execCsrw (d : BitVec 6) (i : BitVec 12) (s : State) : Host.Outcome State Fault Refusal :=
  issueSlot (.csrw d i) (fun _ c => { effects := [.csrWrite i (c.ctx.getS d.toNat)] }) s

/-- CSRS (07 R153). -/
def execCsrs (d : BitVec 6) (i : BitVec 12) (s : State) : Host.Outcome State Fault Refusal :=
  issueSlot (.csrs d i) (fun s c =>
    { effects := [.csrWrite i (c.ctx.csrRead s.cur s.ns i ||| c.ctx.getS d.toNat)], reads := scaleUses i }) s

/-! ## Segments (07 R157) -/

/-- SEG. -/
def execSeg (i : BitVec 18) (s : State) : Host.Outcome State Fault Refusal :=
  issueSlot (.seg i) (fun _ _ => { effects := [.seg i.toNat], boundary := true }) s

/-- RDV. -/
def execRdv (i : BitVec 18) (s : State) : Host.Outcome State Fault Refusal :=
  issueSlot (.rdv i) (fun _ _ => { effects := [.rdv i.toNat], boundary := true, rdv := true }) s

end Sys2Proof.Machine
end

