-- ==== Sys2Proof/Machine/AddrPort.lean ====
section
/-! DEFINITION. The A port: address registers, the loop nest, predicates and KCLR (07 R159-R165). -/

namespace Sys2Proof.Machine

/-- A result for an address register. -/
def resultA (d : BitVec 4) (x : AReg) : SlotOut := { effects := [.result 1 (.a d.toNat x) 0] }

/-- AU (07 R159). -/
def execAu (d a : BitVec 4) (b : BitVec 6) (s : State) : Host.Outcome State Fault Refusal :=
  issueSlot (.au d a b) (fun _ c => resultA d (c.ctx.getA a.toNat + (c.ctx.getS b.toNat).truncate 48)) s

/-- AUI (07 R159). -/
def execAui (d : BitVec 4) (i : BitVec 12) (s : State) : Host.Outcome State Fault Refusal :=
  issueSlot (.aui d i) (fun _ c => resultA d (c.ctx.getA d.toNat + i.signExtend 48)) s

/-- AMOV (07 R159). -/
def execAmov (d : BitVec 4) (a : BitVec 6) (s : State) : Host.Outcome State Fault Refusal :=
  issueSlot (.amov d a) (fun _ c => resultA d ((c.ctx.getS a.toNat).truncate 48)) s

/-- AGET (07 R159). -/
def execAget (d : BitVec 6) (a : BitVec 4) (s : State) : Host.Outcome State Fault Refusal :=
  issueSlot (.aget d a) (fun _ c => resultS c 1 d ((c.ctx.getA a.toNat).zeroExtend 64)) s

/-- LSTEP (07 R160). -/
def execLstep (a : BitVec 4) (l : BitVec 3) (m : BitVec 6) (s : State) : Host.Outcome State Fault Refusal :=
  issueSlot (.lstep a l m) (fun _ c => { effects := [.result 1 (.step l.toNat a.toNat ((c.ctx.getS m.toNat).truncate 48)) 0] }) s

/-- Bundles of a LOOP's body: 64 is encoded as 0. -/
def bodyLen (b : BitVec 6) : Nat := if b = 0 then 64 else b.toNat

/-- Whether a new body of level `lvl` from `first` to `last` obeys the nest (03 R78, 07 R161). -/
def Ctx.nestOk (x : Ctx) (lvl : Nat) (first last : BitVec 64) : Bool :=
  (List.range 6).all fun k =>
    let l := x.getLevel k
    !l.active || (decide (lvl < k) && decide (l.first.toNat ≤ first.toNat) && decide (last.toNat ≤ l.last.toNat))

/-- LOOP (07 R161): the nest rules are checked whatever the count. -/
def execLoop (l : BitVec 3) (cnt b : BitVec 6) (n : BitVec 3) (s : State) : Host.Outcome State Fault Refusal :=
  issueSlot (.loop l cnt b n) (fun s c =>
    let first := c.ctx.pc + BitVec.ofNat 64 c.iss.size
    let (last, after) := ({ s with peek := true } : State).bundlesOn s.cur (bodyLen b - 1) first
    { effects := [.loop l.toNat (bodyLen b) n.toNat ((c.ctx.getS cnt.toNat).toNat % 2 ^ 32) first last after]
      faults := if c.ctx.nestOk l.toNat first last then [] else [(0x1205, slotWord (.loop l cnt b n) c.iss)] }) s

/-- STAGE (07 R163). -/
def execStage (l : BitVec 3) (i : BitVec 12) (s : State) : Host.Outcome State Fault Refusal :=
  issueSlot (.stage l i) (fun _ _ => { effects := [.stage l.toNat i.toNat] }) s

/-- A result for a predicate, through the current rotation. -/
def resultP (c : Core) (d : BitVec 4) (x : Bool) : SlotOut := { effects := [.result 1 (.p (c.ctx.physP d.toNat) x) 0] }

/-- PAND (07 R164). -/
def execPand (d a b : BitVec 4) (s : State) : Host.Outcome State Fault Refusal :=
  issueSlot (.pand d a b) (fun _ c => resultP c d (c.ctx.getP a.toNat && c.ctx.getP b.toNat)) s

/-- POR (07 R164). -/
def execPor (d a b : BitVec 4) (s : State) : Host.Outcome State Fault Refusal :=
  issueSlot (.por d a b) (fun _ c => resultP c d (c.ctx.getP a.toNat || c.ctx.getP b.toNat)) s

/-- PXOR (07 R164). -/
def execPxor (d a b : BitVec 4) (s : State) : Host.Outcome State Fault Refusal :=
  issueSlot (.pxor d a b) (fun _ c => resultP c d (c.ctx.getP a.toNat != c.ctx.getP b.toNat)) s

/-- PNOT (07 R164). -/
def execPnot (d a : BitVec 4) (s : State) : Host.Outcome State Fault Refusal :=
  issueSlot (.pnot d a) (fun _ c => resultP c d (!c.ctx.getP a.toNat)) s

/-- PMOV (07 R164). -/
def execPmov (d a : BitVec 4) (s : State) : Host.Outcome State Fault Refusal :=
  issueSlot (.pmov d a) (fun _ c => resultP c d (c.ctx.getP a.toNat)) s

/-- PSET (07 R164). -/
def execPset (d : BitVec 4) (v : BitVec 1) (s : State) : Host.Outcome State Fault Refusal :=
  issueSlot (.pset d v) (fun _ c => resultP c d (decide (v = 1))) s

/-- KCLR (07 R165). -/
def execKclr (k : BitVec 3) (s : State) : Host.Outcome State Fault Refusal :=
  issueSlot (.kclr k) (fun _ c => { effects := [.kclr (c.ctx.physK k.toNat)] }) s

end Sys2Proof.Machine
end

