-- ==== Sys2Proof/Machine/Vec.lean ====
section
/-! DEFINITION. Vector operands: the elements of a register, results with their flags, the tag checks of each class, and masks (08 R166-R168, R187). -/

namespace Sys2Proof.Machine

/-- Element `k` of width `w`: element i of lane j is element j × n + i of the whole register (04 R82, 08 R167). -/
def elem (w : Nat) (v : VReg) (k : Nat) : Nat := (v.toNat >>> (w * k)) % 2 ^ w

/-- The elements of a register, lane 0 of cluster 0 first. -/
def elems (w : Nat) (v : VReg) : List Nat := (List.range (4096 / w)).map (elem w v)

/-- The register that holds the elements. -/
def ofElems (w : Nat) (l : List Nat) : VReg := BitVec.ofNat 4096 (l.foldr (fun x acc => x % 2 ^ w + acc <<< w) 0)

/-- The 32-bit lanes (03 R66), and the register of such lanes. -/
def lanes (v : VReg) : List Nat := elems 32 v
def ofLanes (l : List Nat) : VReg := ofElems 32 l

/-- The results of all elements, and every lane's flags ORed (04 R89). -/
def gatherFlags (l : List (Flagged Nat)) : List Nat × FFlags := (l.map (·.1), l.foldl (fun f x => f ||| x.2) 0)

/-- A vector result, `lat` cycles after issue. -/
def resultV (c : Core) (lat : Nat) (d : BitVec 6) (x : VReg) (tag : Tag) (flags : FFlags) : SlotOut :=
  { effects := [.result lat (.v (c.ctx.physV d.toNat) x tag) flags] }

/-- The rounding mode of FRM (04 R88). -/
def Ctx.mode (x : Ctx) : Mode := Mode.ofFrm x.frm

/-! ## Tags (08 R167) -/

/-- The 0x1203 fault of the first source whose tag is not accepted, or is not that of the first source (log 7). -/
def tagFaults (c : Core) (ok : Tag → Bool) (srcs : List (BitVec 6)) : List (BitVec 16 × BitVec 64) :=
  let t0 := (srcs.head?.map fun a => c.ctx.getVTag a.toNat).getD 0
  match srcs.find? fun a => !(ok (c.ctx.getVTag a.toNat) && decide (c.ctx.getVTag a.toNat = t0)) with
  | some a => [(0x1203, regIdentity (rd 1 a))]
  | none => []

def fpTag (t : Tag) : Bool := decide (t = 2 ∨ t = 5 ∨ t = 6)
def repackTag (t : Tag) : Bool := decide (Fmt.width t ≤ 16)

/-- The floating-point format of a tag that `fpTag` accepts. -/
def fpFmt (t : Tag) : FFmt := if t = 5 then .fp16 else if t = 6 then .bf16 else .fp32

/-! ## Masks (08 R187) -/

/-- The mask that a comparison of `w`-bit elements writes. -/
def maskOf (w : Nat) (l : List Bool) : Mask :=
  BitVec.ofNat 512 (l.foldr (fun b acc => (if b then 2 ^ (w / 8) - 1 else 0) + acc <<< (w / 8)) 0)

/-- A mask result. -/
def resultMk (lat : Nat) (m : BitVec 3) (x : Mask) (flags : FFlags) : SlotOut := { effects := [.result lat (.mk m.toNat x) flags] }

end Sys2Proof.Machine
end

