-- ==== Sys2Proof/Machine/VecFloat.lean ====
section
/-! DEFINITION. Floating-point vector arithmetic, minimum and maximum, sign operations and comparison (08 R168-R172). -/

namespace Sys2Proof.Machine

/-! ## Elements -/

/-- FADD, FSUB, FMUL, FMA and FMS of elements of format `f` (08 R169): x, y and the old element z. -/
def faddElem (f : FFmt) (m : Mode) (x y : Nat) : Flagged Nat := rounded f m (addNum m (f.decode x) (f.decode y))
def fsubElem (f : FFmt) (m : Mode) (x y : Nat) : Flagged Nat := rounded f m (addNum m (f.decode x) (f.decode y).neg)
def fmulElem (f : FFmt) (m : Mode) (x y : Nat) : Flagged Nat := rounded f m (mulNum (f.decode x) (f.decode y))
def fmaElem (f : FFmt) (m : Mode) (x y z : Nat) : Flagged Nat := rounded f m (fmaNum m (f.decode x) (f.decode y) (f.decode z))
def fmsElem (f : FFmt) (m : Mode) (x y z : Nat) : Flagged Nat := rounded f m (fmaNum m (f.decode x) (f.decode y) (f.decode z).neg)

/-- FABS, FNEG and FCPYS of elements (08 R171): only the sign bit changes, and a NaN becomes the canonical one. -/
def fsignElem (f : FFmt) (x : Nat) (neg : Bool) : Nat := if (f.decode x).isNan then f.nanBits else f.withSign neg (x % f.signBit)

/-- Whether the sign bit of an element is set. -/
def signOf (f : FFmt) (x : Nat) : Bool := decide (x / f.signBit % 2 = 1)

/-- FCMP of elements (08 R172), by the codes of 06 R121. -/
def fcmpElem (f : FFmt) (cc : BitVec 3) (x y : Nat) : Bool × FFlags :=
  let a := f.decode x
  let b := f.decode y
  if a.isNan || b.isNan then
    let quiet := cc = 0 ∨ cc = 1 ∨ cc = 6
    (decide (cc = 1 ∨ cc = 6), if ¬ quiet ∨ a.isSig = true ∨ b.isSig = true then FFlag.nv else 0)
  else
    let o := a.order b
    (if cc = 0 then decide (o = 0)
     else if cc = 1 then decide (o ≠ 0)
     else if cc = 2 then decide (o < 0)
     else if cc = 3 then decide (0 ≤ o)
     else if cc = 4 then decide (o ≤ 0)
     else if cc = 5 then decide (0 < o)
     else false, 0)

/-! ## Forms -/

/-- An element-wise form of two sources. -/
def vf2 (lat : Nat) (d a b : BitVec 6) (f : FFmt → Mode → Nat → Nat → Flagged Nat) (_ : State) (c : Core) : SlotOut :=
  let t := c.ctx.getVTag a.toNat
  let w := Fmt.width t
  let r := gatherFlags (List.zipWith (f (fpFmt t) c.ctx.mode) (elems w (c.ctx.getV a.toNat)) (elems w (c.ctx.getV b.toNat)))
  { resultV c lat d (ofElems w r.1) t r.2 with faults := tagFaults c fpTag [a, b] }

/-- An element-wise form that also reads its destination. -/
def vf3 (lat : Nat) (d a b : BitVec 6) (f : FFmt → Mode → Nat → Nat → Nat → Flagged Nat) (_ : State) (c : Core) : SlotOut :=
  let t := c.ctx.getVTag a.toNat
  let w := Fmt.width t
  let xs := elems w (c.ctx.getV a.toNat)
  let ys := elems w (c.ctx.getV b.toNat)
  let zs := elems w (c.ctx.getV d.toNat)
  let r := gatherFlags ((xs.zip (ys.zip zs)).map fun e => f (fpFmt t) c.ctx.mode e.1 e.2.1 e.2.2)
  { resultV c lat d (ofElems w r.1) t r.2 with faults := tagFaults c fpTag [a, b, d] }

/-- An element-wise form of one source. -/
def vf1 (lat : Nat) (d a : BitVec 6) (f : FFmt → Mode → Nat → Flagged Nat) (_ : State) (c : Core) : SlotOut :=
  let t := c.ctx.getVTag a.toNat
  let w := Fmt.width t
  let r := gatherFlags ((elems w (c.ctx.getV a.toNat)).map (f (fpFmt t) c.ctx.mode))
  { resultV c lat d (ofElems w r.1) t r.2 with faults := tagFaults c fpTag [a] }

/-- A comparison. -/
def vfcmp (m cc : BitVec 3) (a b : BitVec 6) (_ : State) (c : Core) : SlotOut :=
  let t := c.ctx.getVTag a.toNat
  let w := Fmt.width t
  let r := List.zipWith (fcmpElem (fpFmt t) cc) (elems w (c.ctx.getV a.toNat)) (elems w (c.ctx.getV b.toNat))
  { resultMk 2 m (maskOf w (r.map (·.1))) (r.foldl (fun f x => f ||| x.2) 0) with faults := tagFaults c fpTag [a, b] }

/-! ## Meanings -/

/-- FADD_V0 (08 R169). -/
def execFaddV0 (d a b : BitVec 6) (s : State) : Host.Outcome State Fault Refusal :=
  issueSlot (.faddV0 d a b) (vf2 4 d a b faddElem) s

/-- FADD_V1 (08 R169). -/
def execFaddV1 (d a b : BitVec 6) (s : State) : Host.Outcome State Fault Refusal :=
  issueSlot (.faddV1 d a b) (vf2 4 d a b faddElem) s

/-- FSUB_V0 (08 R169). -/
def execFsubV0 (d a b : BitVec 6) (s : State) : Host.Outcome State Fault Refusal :=
  issueSlot (.fsubV0 d a b) (vf2 4 d a b fsubElem) s

/-- FSUB_V1 (08 R169). -/
def execFsubV1 (d a b : BitVec 6) (s : State) : Host.Outcome State Fault Refusal :=
  issueSlot (.fsubV1 d a b) (vf2 4 d a b fsubElem) s

/-- FMUL_V0 (08 R169). -/
def execFmulV0 (d a b : BitVec 6) (s : State) : Host.Outcome State Fault Refusal :=
  issueSlot (.fmulV0 d a b) (vf2 4 d a b fmulElem) s

/-- FMUL_V1 (08 R169). -/
def execFmulV1 (d a b : BitVec 6) (s : State) : Host.Outcome State Fault Refusal :=
  issueSlot (.fmulV1 d a b) (vf2 4 d a b fmulElem) s

/-- FMA_V0 (08 R169). -/
def execFmaV0 (d a b : BitVec 6) (s : State) : Host.Outcome State Fault Refusal :=
  issueSlot (.fmaV0 d a b) (vf3 4 d a b fmaElem) s

/-- FMA_V1 (08 R169). -/
def execFmaV1 (d a b : BitVec 6) (s : State) : Host.Outcome State Fault Refusal :=
  issueSlot (.fmaV1 d a b) (vf3 4 d a b fmaElem) s

/-- FMS_V0 (08 R169). -/
def execFmsV0 (d a b : BitVec 6) (s : State) : Host.Outcome State Fault Refusal :=
  issueSlot (.fmsV0 d a b) (vf3 4 d a b fmsElem) s

/-- FMS_V1 (08 R169). -/
def execFmsV1 (d a b : BitVec 6) (s : State) : Host.Outcome State Fault Refusal :=
  issueSlot (.fmsV1 d a b) (vf3 4 d a b fmsElem) s

/-- FMIN_V0 (08 R170). -/
def execFminV0 (d a b : BitVec 6) (s : State) : Host.Outcome State Fault Refusal :=
  issueSlot (.fminV0 d a b) (vf2 2 d a b fun f _ => fpickElem f false) s

/-- FMIN_V1 (08 R170). -/
def execFminV1 (d a b : BitVec 6) (s : State) : Host.Outcome State Fault Refusal :=
  issueSlot (.fminV1 d a b) (vf2 2 d a b fun f _ => fpickElem f false) s

/-- FMAX_V0 (08 R170). -/
def execFmaxV0 (d a b : BitVec 6) (s : State) : Host.Outcome State Fault Refusal :=
  issueSlot (.fmaxV0 d a b) (vf2 2 d a b fun f _ => fpickElem f true) s

/-- FMAX_V1 (08 R170). -/
def execFmaxV1 (d a b : BitVec 6) (s : State) : Host.Outcome State Fault Refusal :=
  issueSlot (.fmaxV1 d a b) (vf2 2 d a b fun f _ => fpickElem f true) s

/-- FABS_V0 (08 R171). -/
def execFabsV0 (d a : BitVec 6) (s : State) : Host.Outcome State Fault Refusal :=
  issueSlot (.fabsV0 d a) (vf1 2 d a fun f _ x => (fsignElem f x false, 0)) s

/-- FABS_V1 (08 R171). -/
def execFabsV1 (d a : BitVec 6) (s : State) : Host.Outcome State Fault Refusal :=
  issueSlot (.fabsV1 d a) (vf1 2 d a fun f _ x => (fsignElem f x false, 0)) s

/-- FNEG_V0 (08 R171). -/
def execFnegV0 (d a : BitVec 6) (s : State) : Host.Outcome State Fault Refusal :=
  issueSlot (.fnegV0 d a) (vf1 2 d a fun f _ x => (fsignElem f x (!signOf f x), 0)) s

/-- FNEG_V1 (08 R171). -/
def execFnegV1 (d a : BitVec 6) (s : State) : Host.Outcome State Fault Refusal :=
  issueSlot (.fnegV1 d a) (vf1 2 d a fun f _ x => (fsignElem f x (!signOf f x), 0)) s

/-- FCPYS_V0 (08 R171). -/
def execFcpysV0 (d a b : BitVec 6) (s : State) : Host.Outcome State Fault Refusal :=
  issueSlot (.fcpysV0 d a b) (vf2 2 d a b fun f _ x y => (fsignElem f x (signOf f y), 0)) s

/-- FCPYS_V1 (08 R171). -/
def execFcpysV1 (d a b : BitVec 6) (s : State) : Host.Outcome State Fault Refusal :=
  issueSlot (.fcpysV1 d a b) (vf2 2 d a b fun f _ x y => (fsignElem f x (signOf f y), 0)) s

/-- FCMP_V0 (08 R172). -/
def execFcmpV0 (m cc : BitVec 3) (a b : BitVec 6) (s : State) : Host.Outcome State Fault Refusal :=
  issueSlot (.fcmpV0 m cc a b) (vfcmp m cc a b) s

/-- FCMP_V1 (08 R172). -/
def execFcmpV1 (m cc : BitVec 3) (a b : BitVec 6) (s : State) : Host.Outcome State Fault Refusal :=
  issueSlot (.fcmpV1 m cc a b) (vfcmp m cc a b) s

end Sys2Proof.Machine
end

