-- ==== Sys2Proof/Machine/BankOps.lean ====
section
/-! DEFINITION. The bank micro-ops (13 R286-R289). -/

namespace Sys2Proof.Machine

/-- What a micro-op does in the bank at hand, whose pseudo-channel runs a program: stack, channel, bank, program, and the bank's state. -/
def bankUop (f : State → Nat → Nat → Nat → Program → Bank → State) (s : State) : Host.Outcome State Fault Refusal :=
  let k := s.curBank.1.toNat
  let pc := s.curBank.2.1.toNat
  let bank := s.curBank.2.2.toNat
  let p := s.chan k pc
  .next (match p.prog with
    | none => s
    | some g => if (p.bank bank).ended then s else f s k pc bank g (p.bank bank))

/-- MPC advances by one modulo 32. -/
def Bank.advance (b : Bank) : Bank := { b with mpc := b.mpc + 1 }

/-- What a micro-op meets as it joins the group being filled (13 R288). -/
inductive Joined where
  /-- Its slot has not begun. -/
  | wait
  /-- It would begin a 33rd slot. -/
  | fault
  | ok (b : Bank)

/-- A micro-op joins the group being filled; a group that ends with a column command or its fourth micro-op takes a slot, which begins when the one
before it ends, or for the first when the activation completes (13 R288). -/
def Bank.join (b : Bank) (column : Bool) (ns tCcd : Nat) : Joined :=
  if b.row.isNone then .ok b
  else if column || decide (b.group = 3) then
    (if ns < b.slotEnd then .wait else if 32 ≤ b.slots then .fault else .ok { b with group := 0, slots := b.slots + 1, slotEnd := ns + tCcd })
  else .ok { b with group := b.group + 1 }

/-- A micro-op that, once it has joined its group, does `f`. -/
def joined (column : Bool) (f : State → Nat → Nat → Nat → Program → Bank → State) : State → Host.Outcome State Fault Refusal :=
  bankUop fun s k pc bank g b => match b.join column s.ns (s.stack k).tCcd with
    | .wait => s
    | .fault => s.bankFault k pc bank
    | .ok b => f s k pc bank g b

/-- A micro-op that changes the bank alone. -/
def bankStep (f : Bank → Bank) : State → Host.Outcome State Fault Refusal := joined false fun s k pc bank _ b => s.setBankAt k pc bank (f b).advance

/-! ## Lanes -/

/-- Lane `j` of accumulator `a`, and whether it is marked (20 R391). -/
def Bank.lane (b : Bank) (a : BitVec 2) (j : Nat) : Nat := fieldOf (mapGet 0 b.acc a.toNat).toNat (32 * j + 31) (32 * j)
def Bank.lost (b : Bank) (a : BitVec 2) (j : Nat) : Bool := mapGet false b.bad (8 * a.toNat + j)

/-- An accumulator written lane by lane: value and mark. -/
def Bank.setAcc (b : Bank) (d : BitVec 2) (f : Nat → Nat × Bool) : Bank :=
  let ls := (List.range 8).map f
  { b with
    acc := mapSet 0 b.acc d.toNat (BitVec.ofNat 256 (ls.foldr (fun l x => l.1 % 2 ^ 32 + x <<< 32) 0))
    bad := (List.range 8).foldl (fun m j => mapSet false m (8 * d.toNat + j) ((ls.getD j (0, false)).2)) b.bad }

/-- An arithmetic micro-op: lane by lane, rounded once to FP32; a result of a marked lane is marked. -/
def laneOp (d : BitVec 2) (reads : List (BitVec 2)) (f : List (BitVec 32) → Bank → Nat → Nat) : State → Host.Outcome State Fault Refusal :=
  joined false fun s k pc bank _ b =>
    let scal := (List.range 8).map fun i => mapGet 0 (s.chan k pc).scal i
    s.setBankAt k pc bank (b.setAcc d fun j => (f scal b j, reads.any fun a => b.lost a j)).advance

/-- MAC. -/
def execUopMac (d a : BitVec 2) (k : BitVec 3) (s : State) : Host.Outcome State Fault Refusal :=
  laneOp d [d, a] (fun f b j => (fmaElem .fp32 .rne (b.lane a j) (f.getD k.toNat 0).toNat (b.lane d j)).1) s

/-- ADD. -/
def execUopAdd (d a : BitVec 2) (s : State) : Host.Outcome State Fault Refusal :=
  laneOp d [d, a] (fun _ b j => (faddElem .fp32 .rne (b.lane d j) (b.lane a j)).1) s

/-- SCL. -/
def execUopScl (d a : BitVec 2) (k : BitVec 3) (s : State) : Host.Outcome State Fault Refusal :=
  laneOp d [a] (fun f b j => (fmulElem .fp32 .rne (b.lane a j) (f.getD k.toNat 0).toNat).1) s

/-! ## Columns -/

/-- The column that an offset names. -/
def Bank.column (b : Bank) (o : BitVec 5) : Nat := (b.colp + o).toNat

/-- An engine's column command: the byte budget is charged 2 units, and the bank's column time noted (13 R279, R283). -/
def State.chargeEngine (s : State) (k pc bank : Nat) : State :=
  (s.updStack k fun t => { t with count := t.count - 2 }).updChan k pc fun p => { p with colAt := mapSet 0 p.colAt bank (s.ns + 1) }

/-- Poison read by RDC is consumed (17 R332, 20 R376): an uncorrected error of the pseudo-channel, for which the issuing task is killed. -/
def State.bankConsumes (s : State) (k pc bank row col : Nat) (l : BankLaunch) : State :=
  let code := Config.consumeCode s.nfree
  ((s.takeFree).logError (stackBank k) pc
    { cls := 3, code := code.toNat, atype := 2, addr := k * 2 ^ 36 + colOffset pc bank row col }).killLaunch l code

/-- The accumulator an RDC loads: FP32 elements as they stand, or the BF16 elements of a half as FP32. -/
def rdcLane (f : BitVec 2) (x j : Nat) : Nat :=
  if f = 0 then fieldOf x (32 * j + 31) (32 * j)
  else
    let lo := 128 * (f.toNat - 2) + 16 * j
    (rounded .fp32 .rne (FFmt.decode .bf16 (fieldOf x (lo + 15) lo), 0)).1

/-- RDC. -/
def execUopRdc (a : BitVec 2) (o : BitVec 5) (f : BitVec 2) (s : State) : Host.Outcome State Fault Refusal :=
  joined true (fun s k pc bank g b =>
    match b.row with
    | some row =>
      let c := b.column o
      let (s, x, psn) := (s.chargeEngine k pc bank).colLatest k pc bank row c
      let s := s.setBankAt k pc bank (b.setAcc a fun j => (rdcLane f x j, psn)).advance
      if psn then s.bankConsumes k pc bank row c g.launch else s
    | none => s.bankFault k pc bank) s

/-- The column a WRC leaves: the accumulator's lanes, or their BF16 values in one half of the column as it stood. -/
def wrcColumn (f : BitVec 2) (b : Bank) (a : BitVec 2) (old : Nat) : Nat :=
  if f = 0 then (List.range 8).foldl (fun x j => withField x (32 * j + 31) (32 * j) (b.lane a j)) old
  else
    (List.range 8).foldl
      (fun x j =>
        let lo := 128 * (f.toNat - 2) + 16 * j
        withField x (lo + 15) lo (rounded .bf16 .rne (FFmt.decode .fp32 (b.lane a j), 0)).1) old

/-- Whether a WRC waits: the queue of 16 is full, and its oldest write waits for translations in use (11 R255, 13 R294). -/
def State.wrcWaits (s : State) (k pc bank : Nat) (b : Bank) : Bool :=
  decide (16 ≤ b.cmdq.length) && (b.cmdq.head?.map (s.entryWaits k pc bank)).getD false

/-- WRC: a marked lane writes its column as poison, and a column already poisoned stays so under a half. -/
def execUopWrc (a : BitVec 2) (o : BitVec 5) (f : BitVec 2) (s : State) : Host.Outcome State Fault Refusal :=
  joined true (fun s k pc bank _ b =>
    match b.row with
    | some row =>
      if s.wrcWaits k pc bank b then s
      else
        let c := b.column o
        let (s, x, psn) := (s.chargeEngine k pc bank).colLatest k pc bank row c
        let bad := ((List.range 8).any fun j => b.lost a j) || (psn && decide (f ≠ 0))
        (s.setBankAt k pc bank b.advance).queueWrite k pc bank row c (wrcColumn f b a x) bad
    | none => s.bankFault k pc bank) s

/-! ## Pointers and loops -/

/-- NCOL. -/
def execUopNcol (n : BitVec 5) (s : State) : Host.Outcome State Fault Refusal := bankStep (fun b => { b with colp := b.colp + n }) s

/-- LOOPC: n is 1 to 128, with 128 encoded as 0; a jump goes to T. -/
def execUopLoopc (n : BitVec 7) (s : State) : Host.Outcome State Fault Refusal :=
  joined false (fun s k pc bank _ b =>
    let lim := if n = 0 then 128 else n.toNat
    s.setBankAt k pc bank
      (if b.lcnt + 1 < lim then { b with lcnt := b.lcnt + 1, mpc := s.uopT } else ({ b with lcnt := 0 } : Bank).advance)) s

/-! ## Rows -/

/-- A row ends: it is precharged, and the next one is at hand. -/
def State.endRow (s : State) (k pc bank : Nat) (g : Program) : State :=
  (s.closeProgramRow k pc bank).updBankAt k pc bank fun b =>
    let b := { b with rowi := (b.rowi + 1) % 2 ^ 16, colp := 0, lcnt := 0 }
    if b.rowi < g.launch.nrow then { b with mpc := s.uopT } else b.advance

/-- ROWEND: as a group's fourth micro-op it takes a slot first; a group that ends here otherwise takes none.  The precharge issues at the end of the
last slot, or tRAS after the activation if that is later (13 R288). -/
def execUopRowend (s : State) : Host.Outcome State Fault Refusal :=
  bankUop (fun s k pc bank g b =>
    if b.row.isNone then s.endRow k pc bank g
    else if b.group = 3 then
      match b.join false s.ns (s.stack k).tCcd with
      | .wait => s
      | .fault => s.bankFault k pc bank
      | .ok b => s.setBankAt k pc bank { b with group := 4 }
    else if s.mayClose k pc bank then s.endRow k pc bank g
    else s) s

/-- An activation issues: the row opens for the program, and its slots and groups begin anew.  Micro-ops between a row's ACT and its ROWEND are grouped;
an ACT or END reached with a row open, which 13 R288 does not speak of, joins no group and takes no slot (DESIGN CHOICE, log 48). -/
def State.activate (s : State) (k pc bank : Nat) (g : Program) : State :=
  let end_ := s.ns + (s.stack k).tRcd
  let s := s.updChan k pc fun p => { p with actAt := mapSet 0 p.actAt bank (s.ns + 1) }
  s.updBankAt k pc bank fun b =>
    ({ b with row := some (g.launch.row0 + b.rowi), slots := 0, group := 0, slotEnd := end_, actWait := none } : Bank).advance

/-- What stands at the row boundary before an ACT: the program stops, the bank suspends, a window is served first, a precharge, tRC or a hold is
waited for, or the ACT is ready (13 R283, R288, R289, 20 R377, R380, R390). -/
inductive Boundary where
  | stop | suspend | window | wait | ready
deriving DecidableEq, Repr

def State.boundary (s : State) (k pc bank : Nat) (g : Program) : Boundary :=
  let t := s.stack k
  let p := s.chan k pc
  let b := p.bank bank
  if g.stopping then .stop
  else if t.suspends then .suspend
  else if b.window ∧ b.ranRow = true then .window
  else if s.ns < mapGet 0 p.actHold (rowKey bank (g.launch.row0 + b.rowi)) ∨ since p.actAt bank s.ns t.tRc = false ∨ since p.preAt bank s.ns t.tRp = false
      ∨ s.ns < mapGet 0 p.busy bank then .wait
  else .ready

/-- Whether some ACT of a pseudo-channel waits at the 24-row limit (13 R289). -/
def PChan.actsWait (p : PChan) : Bool := (List.range 32).any fun b => (p.bank b).actWait.isSome

/-- Whether a bank stands at an ACT that is ready. -/
def State.actReady (s : State) (k pc bank : Nat) (g : Program) : Bool :=
  let p := s.chan k pc
  let b := p.bank bank
  !s.bankWaits k pc bank && b.row.isNone && decide (mapGet 0 p.rows bank = 0) && decide (b.rowi < g.launch.nrow)
    && decide (s.boundary k pc bank g = .ready) && match decodeUop (mapGet 0 p.uops b.mpc.toNat) with
      | .ok u => decide (u.instr = .uopAct)
      | .error _ => false

/-- Banks below `bank` whose ACTs are ready in the same cycle: they are admitted first (13 R289). -/
def State.readyBelow (s : State) (k pc bank : Nat) (g : Program) : Nat := ((List.range bank).filter fun b => s.actReady k pc b g).length

/-- An ACT at the row boundary: the bank stops, suspends or waits, or its row is activated. -/
def State.tryAct (s : State) (k pc bank : Nat) (g : Program) : State :=
  match s.boundary k pc bank g with
  | .stop => (s.endBank k pc bank).endProgram k pc
  | .suspend => s.updBankAt k pc bank fun b => { b with susp := true }
  | .window => s
  | .wait => s
  | .ready =>
    if 24 ≤ (s.chan k pc).openRows s.ns + s.readyBelow k pc bank g ∨ (s.chan k pc).actsWait = true then
      s.updBankAt k pc bank fun b => { b with actWait := some s.ns }
    else s.activate k pc bank g

/-- ACT: a row that is open, or that a window has left open, is precharged once it may be; then the ACT is tried. -/
def execUopAct (s : State) : Host.Outcome State Fault Refusal :=
  bankUop (fun s k pc bank g b =>
    if g.launch.nrow ≤ b.rowi then s.bankFault k pc bank
    else if b.row.isSome then (if s.mayClose k pc bank then s.closeProgramRow k pc bank else s)
    else if mapGet 0 (s.chan k pc).rows bank ≠ 0 then (if s.rasMet k pc bank then s.closeRow k pc bank else s)
    else s.tryAct k pc bank g) s

/-- WAITS: the bank waits for the others. -/
def execUopWaits (s : State) : Host.Outcome State Fault Refusal :=
  bankUop (fun s k pc bank _ b => if b.row.isSome then s.bankFault k pc bank else s.setBankAt k pc bank { b with atWaits := true }) s

/-- END: an open row is precharged once it may be. -/
def execUopEnd (s : State) : Host.Outcome State Fault Refusal :=
  bankUop (fun s k pc bank _ b =>
    if b.row.isSome ∧ s.mayClose k pc bank = false then s else (s.endBank k pc bank).endProgram k pc) s

end Sys2Proof.Machine
end

