-- ==== Sys2Proof/Machine/Columns.lean ====
section
/-! DEFINITION. Column accesses: an access split into its columns, and admitted to the queues of the pseudo-channels under the byte budget and stop/go (01 R27-R29, 13 R281-R283, R292). -/

namespace Sys2Proof.Machine

/-- The stack columns of a place. -/
def PAddr.columns (a : PAddr × Nat) : List Nat := match a.1 with
  | .stack pa => columnsOf pa.toNat a.2
  | .fabric _ _ => []

/-- Whether a bank's ACT has issued in the very cycle of the row boundary before it, and nothing since. -/
def PChan.actsAtBoundary (p : PChan) (ns tRp bank : Nat) : Bool :=
  let b := p.bank bank
  b.row.isSome && b.ranRow && decide (mapGet 0 p.actAt bank = ns + 1 ∧ mapGet 0 p.preAt bank + tRp = ns + 1)

/-- A mark that an ordinary request leaves at a bank that runs a program (13 R292): an ACT before which that window comes is no longer ready (13 R289),
and one that has issued in this very cycle, at the row boundary, gives way: the request is served in that boundary's window (13 R295). -/
def PChan.markWindow (p : PChan) (ns tRp bank : Nat) : PChan :=
  if p.runs bank then
    let p : PChan := if p.actsAtBoundary ns tRp bank then
        { p.updBank bank fun b => { b with row := none, mpc := b.mpc - 1 } with actAt := mapSet 0 p.actAt bank 0 }
      else p
    p.updBank bank fun b => { b with window := true, actWait := if b.ranRow then none else b.actWait }
  else p

/-- A column request enters a queue: beside the columns of the same access in the same row, else last (13 R281). -/
def enterCol (q : ColReq) (l : List ColReq) : List ColReq :=
  let same (x : ColReq) : Bool := decide (x.who = q.who ∧ x.bank = q.bank ∧ x.row = q.row)
  match (l.mapIdx fun i x => (i, x)).filter (fun x => same x.2) |>.getLast? with
  | some (i, _) => l.take (i + 1) ++ q :: l.drop (i + 1)
  | none => l ++ [q]

/-- Whether a column is admitted now: the count is positive, the queue of 64 has room, and its channel is not stopped (01 R28, R29, 13 R281). -/
def State.admitsCol (s : State) (vc pa : Nat) : Bool :=
  let k := pa / 2 ^ 36
  decide (0 < (s.stack k).count) && decide ((s.chan k (chanOf (s.redirect pa % 2 ^ 36))).queue.length < 64) && !s.stopped (16 + k) vc

/-- The column request of an address, with whether it writes. -/
def State.colReq (s : State) (who : Requester) (x : Nat × Bool) : ColReq :=
  let o := s.redirect x.1 % 2 ^ 36
  { who := who, bank := dramBankOf o, row := rowOf o, pa := x.1, write := x.2, at_ := s.ns, aged := false, win := false }

/-- A column enters its queue, charged 32 units (01 R27, 13 R283). -/
def State.enter (s : State) (who : Requester) (x : Nat × Bool) : State :=
  let k := x.1 / 2 ^ 36
  let q := s.colReq who x
  (s.updStack k fun t => { t with count := t.count - 32 }).updChan k (chanOf (s.redirect x.1 % 2 ^ 36)) fun p =>
    ({ p with queue := enterCol q p.queue } : PChan).markWindow s.ns (s.stack k).tRp q.bank

/-- Columns enter in order, each while it is admitted; those that are held are left. -/
def State.enterAll (s : State) (who : Requester) (vc : Nat) : List (Nat × Bool) → State × List (Nat × Bool)
  | [] => (s, [])
  | x :: rest => if s.admitsCol vc x.1 then (s.enter who x).enterAll who vc rest else (s, x :: rest)

/-- The columns under way for a requester. -/
def State.ask (s : State) (who : Requester) : Option Ask := s.asks.find? fun a => decide (a.who = who)

def State.dropAsk (s : State) (who : Requester) : State := { s with asks := s.asks.filter fun a => decide (a.who ≠ who) }

/-- Columns still held are tried again. -/
def State.retryAsk (s : State) (a : Ask) : State :=
  let (t, rest) := s.enterAll a.who a.vc a.todo
  { t with asks := t.asks.map fun x => if x.who = a.who then { x with todo := rest, out := x.out + (a.todo.length - rest.length) } else x }

/-! ## The owner (01 R30, 20 R395) -/

/-- The owner's fabric ID. -/
def State.owner (s : State) : Option (BitVec 12) := if s.ctl.own.getLsbD 16 then some (s.ctl.own.truncate 12) else none

/-- OWN changes; the new owner's timer starts. -/
def State.setOwn (s : State) (x : BitVec 64) : State := { s with ctl := { s.ctl with own := x &&& 0x10FFF, ownerAt := s.ns } }

/-- No flit from the owner has arrived for 1 s: ownership is released, with record 0x0307 (20 R395). -/
def State.releaseDue (s : State) : State :=
  match s.owner with
  | none => s
  | some fid =>
    if s.ns < s.ctl.ownerAt + 1000000000 then s
    else (s.setOwn 0).logError spineBank 4 { cls := 1, code := 0x0307, atype := 4, addr := fid.toNat }

/-- The owner has been heard from (20 R395); a release that is due comes first (20 R396). -/
def State.heardFrom (s : State) (fid : BitVec 12) : State :=
  let s := s.releaseDue
  if s.owner = some fid then { s with ctl := { s.ctl with ownerAt := s.ns } } else s

/-! ## Requests to fabric pages (11 R256, 20 R392, R393) -/

/-- Tag of a core's request on the fabric. -/
def fabTag (c : BitVec 8) (id : Nat) : Nat := c.toNat * 2 ^ 32 + id

/-- Tag of an access's requests on the fabric. -/
def Requester.tag : Requester → Nat
  | .port c id => fabTag c id
  | .work c id part => 2 ^ 64 * (part + 1) + fabTag c id
  | .node r e => 2 ^ 192 + r.node.toNat * 64 + e
  | .flit n => n
  | .direct key _ _ _ => 2 ^ 300 + key
  | .save c => 2 ^ 301 + c.toNat
  | .restore c => 2 ^ 302 + c.toNat
  | .past r => 2 ^ 303 + r.id

def State.updPort (s : State) (i : Nat) (f : Port → Port) : State := { s with ports := mapUpd Init.port s.ports i f }

/-- A flit leaves: it takes the next sequence number, and its tag stands in the replay buffer of 256. -/
def Port.send (p : Port) (tag : Nat) : Port := { p with txSeq := p.txSeq + 1, buf := p.buf.drop (p.buf.length + 1 - 256) ++ [tag] }

/-- The requests that an access of partition `p` makes to fabric pages. -/
def State.farReqs (s : State) (p : Nat) (write : Bool) (l : List (PAddr × Nat)) : List FarReq :=
  l.filterMap fun x => match x.1 with
    | .stack _ => none
    | .fabric fid ra => some { place := x.1, n := x.2, lb := s.linkOf p fid ra, port := none, write := write }

/-- The flits that carry `n` bytes: 64 bytes each (17 R332, R337), and one where there is no data. -/
def flitsOf (n : Nat) : Nat := max 1 ((n + 63) / 64)

/-- The flits of a request leave on a port: what is written goes with it. -/
def State.sendOn (s : State) (tag : Nat) (n : Nat) (i : Nat) : State := s.updPort i fun p => (List.range (flitsOf n)).foldl (fun p _ => p.send tag) p

/-- Bytes that a request carries. -/
def FarReq.carried (f : FarReq) : Nat := if f.write then f.n else 0

/-- Requests of an access leave, each on the port of its link bulkhead; `next` is left to leave after them. -/
def State.sendFar (s : State) (who : Requester) (l next : List FarReq) : State :=
  let l := l.map fun f => { f with port := s.portOf f.lb }
  let s := l.foldl (fun s f => match f.port with
    | some i => s.sendOn who.tag f.carried i
    | none => s) s
  { s with asks := s.asks.map fun x => if x.who = who then { x with far := l, next := next, sentAt := s.ns } else x }

/-- No port of a link bulkhead works that a request of the access needs. -/
def Ask.lost (a : Ask) : Bool := a.far.any fun f => f.port.isNone

/-- The 2 ms are over. -/
def Ask.over (a : Ask) (ns : Nat) : Bool := !a.far.isEmpty && decide (a.sentAt + 2000000 < ns)

/-- The access ends in an abort. -/
def Ask.fails (a : Ask) (ns : Nat) : Bool := a.lost || a.over ns

/-- Whether responses that come over links are held. -/
def State.farHeld (s : State) (a : Ask) : Bool := !a.fails s.ns && a.far.any fun f => s.linkHolds f.lb 1

/-- The responses to what an access has sent come from their devices, the owner among them (20 R395). -/
def State.farHeard (s : State) (a : Ask) : State :=
  if a.fails s.ns then s
  else a.far.foldl (fun s f => match f.place with
    | .fabric fid _ => s.heardFrom fid
    | .stack _ => s) s

/-- They are taken while its columns are under way. -/
def State.hearFar (s : State) (a : Ask) : State :=
  if a.fails s.ns || s.farHeld a || s.inp.extAbort then s
  else let s := s.farHeard a
    { s with asks := s.asks.map fun x => if x.who = a.who then { x with far := [] } else x }

/-- The answer to a request from outside leaves on a port of the bulkhead at which it came, its flits with the next sequence numbers (20 R392): `n` bytes of
data with their poison, or an abort. -/
def State.answerFlit (s : State) (lb : Nat) (x : Option (Nat × Bool)) (n : Nat := 0) : State :=
  { ((s.portOf lb).toList.foldl (fun s i => s.sendOn 0 n i) s : State) with reply := x }

/-! ## Accesses -/

/-- An access begins: what it reads is asked for, and what it writes to fabric pages leaves after that has come. -/
def State.newAsk (s : State) (who : Requester) (vc : Nat) (cols : List (Nat × Bool)) (reads writes : List FarReq := []) : State :=
  let a : Ask := { who := who, vc := vc, todo := cols, out := 0, readyAt := 0
                   spots := (List.range 8).filter fun k => cols.any fun x => decide (x.1 / 2 ^ 36 = k), win := s.ctl.win, next := writes }
  let s : State := { s with asks := s.asks ++ [a] }
  (if !reads.isEmpty then s.sendFar who reads writes else if cols.isEmpty then s.sendFar who writes [] else s).retryAsk a

/-- All columns still held are tried again. -/
def State.retryAsks (s : State) : State := s.asks.foldl (fun s a => if a.todo.isEmpty then s else s.retryAsk a) s

/-- A column of an access has been served, its data out of the bank at `t`. -/
def State.servedAsk (s : State) (who : Requester) (t : Nat) : State :=
  { s with asks := s.asks.map fun x => if x.who = who then { x with out := x.out - 1, readyAt := max x.readyAt t } else x }

/-- Whether every column of an access has been served. -/
def Ask.served (a : Ask) (ns : Nat) : Bool := a.todo.isEmpty && decide (a.out = 0) && decide (a.readyAt ≤ ns)

/-- The compute or link bulkhead that an access's responses go to. -/
def Requester.bulkhead : Requester → Option Nat
  | .port c _ => some (cbOf c)
  | .work c _ _ => some (cbOf c)
  | .node _ b => some b
  | .flit _ => none
  | .direct key _ _ _ => if 256 ≤ key then some (cbOf (BitVec.ofNat 8 (key - 256))) else if key < 32 then some key else none
  | .save c => some (cbOf c)
  | .restore c => some (cbOf c)
  | .past _ => none

/-- Whether the responses of an access are held (01 R17, R29): their channel, VC 1 or that of bulk copy data, is stopped at a stack they come from or
at the bulkhead they go to, or a link that they come over holds them. -/
def State.respHeld (s : State) (a : Ask) : Bool :=
  let v := if a.vc = 3 then 3 else 1
  s.farHeld a || (a.spots.any fun k => s.stopped (16 + k) v) || a.who.bulkhead.any fun b => s.stopped b v

/-- What is done under the windows in force when an access passed the gates (01 R24). -/
def State.underWindows (s : State) (w : FMap WindowEntry) (f : State → State) : State :=
  let t := f { s with ctl := { s.ctl with win := w } }
  { t with ctl := { t.ctl with win := s.ctl.win } }

/-- The columns of an access's reads and writes, each with whether it is written. -/
def colsOf (reads writes : List (PAddr × Nat)) : List (Nat × Bool) :=
  (reads.flatMap fun a => (PAddr.columns a).map fun x => (x, false)) ++ writes.flatMap fun a => (PAddr.columns a).map fun x => (x, true)

/-- The requests of an access that end in an abort: what no port could carry, and, once the 2 ms are over, what has had no response; writes that were to
leave after what is lost with them. -/
def Ask.aborts (a : Ask) (ns : Nat) : List (PAddr × Nat) :=
  ((a.far.filter fun f => f.port.isNone || a.over ns) ++ (if a.fails ns then a.next else [])).map fun f => (f.place, f.n)

/-- What an access does: under its windows; its requests to fabric pages that have had no response for 2 ms, or that no port could carry, end in aborts,
and no others (20 R393). -/
def State.underAsk (s : State) (a : Ask) (f : State → State) : State :=
  let i := s.inp
  let t := ({ s with inp := { i with aborts := a.aborts s.ns, flag2 := a.over s.ns && !a.lost } } : State).underWindows a.win f
  { t with inp := i }

/-- The writes of an access to fabric pages leave, unless a link holds them. -/
def State.sendNext (s : State) (a : Ask) : State := if a.next.any fun f => s.linkHolds f.lb 0 then s else s.sendFar a.who a.next []

/-- What an agent of partition `p` does once the columns of its access have been served and its responses have come: the access begins when it is first
tried. -/
def State.withColumns (s : State) (who : Requester) (vc p : Nat) (reads writes : List (PAddr × Nat)) (f : State → State) : State :=
  match s.ask who with
  | some a =>
    if !a.served s.ns || s.respHeld a then (s.hearFar a).retryAsk a
    else if !a.next.isEmpty && !a.fails s.ns && !s.inp.extAbort then s.sendNext a
    else ((s.farHeard a).dropAsk who).underAsk a f
  | none =>
    let cols := colsOf reads writes
    let fr := s.farReqs p false reads
    let fw := s.farReqs p true writes
    if cols.isEmpty && fr.isEmpty && fw.isEmpty then f s else s.newAsk who vc cols fr fw

/-- A place to be accessed with its length; `none` where its walk still waits for a column. -/
abbrev Spot := Option PAddr × Nat

/-- What translation says of a piece: pages that fail have no place. -/
def Xlat.spot (x : Xlat) (n : Nat) : Option Spot := match x with
  | .ok a => some (some a, n)
  | .held => some (none, n)
  | .fault _ => none
  | .poison _ => none
  | .stopped _ => none

/-- The places that `n` bytes of virtual memory lie at, as translated for core `c` now. -/
def State.rangePlaces (s : State) (c : BitVec 8) (want : Want) (va n : Nat) : List Spot :=
  (pieces (2 ^ 14) (n / 2 ^ 14 + 2) va n).filterMap fun p => (s.xlateCore c want p.1).spot p.2

/-- The same state, looking ahead: what it reads asks for no columns. -/
def State.ahead (s : State) : State := { s with peek := true }

/-- The places that are known. -/
def knownSpots (l : List Spot) : List (PAddr × Nat) := l.filterMap fun x => x.1.map fun a => (a, x.2)

/-- Record number of the bulk engines of a compute or a link bulkhead (17 R326). -/
def bulkRecord (b : Nat) : Nat := if b < 16 then 66 else 4

/-! ## Work that touches several places -/

/-- Whether an access begun by a requester is still under way. -/
def State.underWay (s : State) (who : Requester) : Bool := match s.ask who with
  | some a => !a.served s.ns || s.respHeld a
  | none => false

/-- Work of core `c`, numbered `id`, that reads and writes some places: while a walk of it waits, or a link or translations in use hold it, it waits; then
it waits for its columns and for the responses of fabric devices. -/
def State.withAccess (s : State) (c : BitVec 8) (id part vc : Nat) (reads writes : List Spot) (f : State → State) : State :=
  let who := Requester.work c id part
  let p := s.partOfCore c
  if s.underWay who then s.withColumns who vc p [] [] f
  else if (reads ++ writes).any fun x => x.1.isNone then s
  else
    let reads := knownSpots reads
    let writes := knownSpots writes
    if ((s.ask who).isNone && (reads ++ writes).any fun a => s.placeHeld p a.1) || writes.any (fun a => s.dirWaits c id a.1 a.2) then s
    else s.withColumns who vc p reads writes f

/-! ## Columns of walks, fetches and records (log 44) -/

/-- The partition whose agent a key names: a core's, a bulkhead's, or, for the spine, that of the place. -/
def State.partOfKey (s : State) (key : Nat) (a : PAddr) : Nat :=
  if 256 ≤ key then s.partOfCore (BitVec.ofNat 8 (key - 256))
  else if key < 32 then s.partOf (octantOf key)
  else match a with
    | .stack pa => s.partOf (pa.toNat / 2 ^ 36)
    | .fabric _ _ => 0

/-- A column or line has been served to an agent, or its request has ended in an abort. -/
def State.gain (s : State) (key : Nat) (g : GotCol) : State :=
  if 256 ≤ key then s.updCore (BitVec.ofNat 8 (key - 256)) fun k => { k with got := k.got ++ [g] }
  else { s with got := mapUpd [] s.got key (· ++ [g]) }

/-- The column of a stack, or the line of a fabric page, that holds a place. -/
def PAddr.unit : PAddr → PAddr × Nat
  | .stack pa => (.stack (BitVec.ofNat 39 (pa.toNat / 32 * 32)), 32)
  | .fabric fid ra => (.fabric fid (BitVec.ofNat 52 (ra.toNat / 64 * 64)), 64)

/-- TRAFFIC: an agent asks for a column or line, and has it once it has been served.  The lines of fabric pages that the spine reads leave by the links
of the whole package. -/
def State.traffic (s : State) (key : Nat) (a : PAddr) (write code : Bool) : State :=
  let u := a.unit
  let who := Requester.direct key u.1 write code
  let s := { s with inp := {} }
  if (s.ask who).isNone && s.placeHeld (s.partOfKey key a) u.1 then s
  else
    s.withColumns who 0 (s.partOfKey key a) (if write then [] else [u]) (if write then [u] else []) fun s =>
      s.gain key { place := u.1, write := write, code := code, lost := !s.inp.aborts.isEmpty }

end Sys2Proof.Machine
end

