-- ==== Sys2Proof/Machine/Engine.lean ====
section
/-! DEFINITION. Engine instructions at issue: descriptor fields, the addresses they form, the checks every descriptor meets, and the operation issued (06 R127-R131, 10 R215-R217, 18 R355). -/

namespace Sys2Proof.Machine

/-- Bits `hi` to `lo` of word `w` of a descriptor. -/
def descField (d : Desc) (w hi lo : Nat) : Nat := fieldOf d.toNat (64 * w + hi) (64 * w + lo)

/-- A count whose 0 stands for 65,536. -/
def count16 (n : Nat) : Nat := if n = 0 then 65536 else n

/-- A register read, or written, through a descriptor: not a field of the slot word. -/
def rdD (file n : Nat) : Use := { file := file, num := n, write := false, named := false }
def wrD (file n : Nat) : Use := { file := file, num := n, write := true, named := false }

/-- Reserved bits of each KIND, word 0 included (06 R127-R131). -/
def kindReserved (kind : Nat) (d : Desc) : Bool :=
  let f := descField d
  decide (f 0 7 4 ≠ 0 ∨ f 0 63 37 ≠ 0) ||
    (if kind = 1 then decide (f 1 15 15 ≠ 0 ∨ f 1 31 31 ≠ 0 ∨ f 1 63 38 ≠ 0)
    else if kind = 2 then decide (f 1 15 15 ≠ 0 ∨ f 1 63 31 ≠ 0 ∨ f 2 31 22 ≠ 0 ∨ f 3 63 48 ≠ 0)
    else if kind = 3 then decide (f 1 15 15 ≠ 0 ∨ f 1 31 31 ≠ 0 ∨ f 1 63 38 ≠ 0 ∨ f 2 63 48 ≠ 0 ∨ f 3 63 0 ≠ 0)
    else if kind = 4 then decide (f 1 19 19 ≠ 0 ∨ f 1 63 36 ≠ 0 ∨ f 2 63 54 ≠ 0 ∨ f 3 15 15 ≠ 0 ∨ f 3 63 28 ≠ 0)
    else if kind = 5 then decide (f 1 19 19 ≠ 0 ∨ f 1 63 36 ≠ 0 ∨ f 2 63 0 ≠ 0 ∨ f 3 63 0 ≠ 0)
    else if kind = 6 then decide (f 1 63 16 ≠ 0 ∨ f 2 63 0 ≠ 0 ∨ f 3 63 0 ≠ 0)
    else decide (f 1 63 20 ≠ 0 ∨ f 2 63 37 ≠ 0 ∨ f 3 63 0 ≠ 0))

/-- The scalar register a descriptor field names. -/
def descS (c : Core) (d : Desc) (w hi lo : Nat) : BitVec 64 := c.ctx.getS (descField d w hi lo)

/-- An address s(S-field) + a(A-field), where an A-field with bit 4 clear adds nothing (06 R128, 10 R217). -/
def descAddr (c : Core) (sReg aField : Nat) : BitVec 64 :=
  c.ctx.getS sReg + (if aField.testBit 4 then (c.ctx.getA (aField % 16)).zeroExtend 64 else 0)

/-- The registers that such an address names. -/
def addrUses (sReg aField : Nat) : List Use := rdD 0 sReg :: if aField.testBit 4 then [rdD 3 (aField % 16)] else []

/-- The part of an address that its space takes (10 R217). -/
def inSpace (sp : Nat) (x : BitVec 64) : Nat := if sp = 1 then x.toNat % 2 ^ 52 else x.toNat % 2 ^ 32

/-- The faults of word 0: reserved codes, and the beacon's limits (10 R216, 18 R355).  BSCOPE is not among them: no rule names a fault for its codes
5 to 7, and every add performs at system scope (DESIGN CHOICE, log 41). -/
def word0Faults (c : Core) (d : Desc) (e : BitVec 6) : List (BitVec 16 × BitVec 64) :=
  let bcns := descField d 0 13 8
  let bsp := descField d 0 15 14
  let b := (c.ctx.getS bcns).toNat
  (if 2 ≤ bsp ∨ descField d 0 36 35 = 1 then [((0x1303 : BitVec 16), e.zeroExtend 64)] else [])
    ++ (if bcns = 0 then []
      else (if b % 8 = 0 then [] else [((0x1201 : BitVec 16), BitVec.ofNat 64 b)])
        ++ (if bsp = 1 then rangeFault c.ctx.pw (b % 2 ^ 23 : Nat) ((b % 2 ^ 23 : Nat) + 7) else []))

/-- What an engine instruction adds to its common part. -/
structure EngPart where
  faults : List (BitVec 16 × BitVec 64) := []
  /-- Own scratchpad ranges: lowest byte, highest byte, and whether it is a destination. -/
  ranges : List (Nat × Nat × Bool) := []
  reads : List Use := []
  s1 : BitVec 64 := 0
  s2 : BitVec 64 := 0
  s3 : BitVec 64 := 0
  s4 : BitVec 64 := 0
  qs : BitVec 16 := 0
  v : VReg := 0
  vtag : Tag := 0
  effects : List Effect := []
  /-- Pool banks that an operand read at issue touches (03 R61). -/
  banks : List Nat := []
  /-- It reads global memory that a held write may cover (19 R365). -/
  boundary : Bool := false
  /-- A walk made at issue waits for a column. -/
  waits : List (Freeze × BitVec 64) := []
  /-- Where an operand in own scratchpad begins: its first line is read in the issue cycle (09 R195). -/
  first : Option Nat := none

/-- The 128-byte line that holds a scratchpad offset, as it stands. -/
def Core.readLine (c : Core) (off : Nat) : FirstLine :=
  let a := off / 128 * 128
  { off := a, x := c.spRead a 128, psn := (List.range 16).foldl (fun m i => if c.spPoisoned (a + 8 * i) 8 then m + 2 ^ i else m) 0 }

/-- What every engine slot that reads a descriptor adds, whatever its KIND: the faults of word 0 and the register its beacon names. -/
def beaconReads (d : Desc) : List Use := if descField d 0 13 8 = 0 then [] else [rdD 0 (descField d 0 13 8)]

/-- The contribution of an engine slot that reads e(e), accepts one KIND, and produces token k; `full`: its unit holds as many operations as it
may (10 R215, 09 R194). -/
def engineSlot (i : Instr) (name : OpName) (kind : Nat) (e : BitVec 6) (k : BitVec 3) (full : Core → BitVec 3 → Bool)
    (part : State → Core → Desc → EngPart) (s : State) (c : Core) : SlotOut :=
  let d := c.ctx.getE e.toNat
  let port := slotPort i c.iss.port
  let busy : List (Freeze × BitVec 64) := if full c port then [(.engineFull, 0)] else []
  if descField d 0 3 0 ≠ kind then { faults := (0x1301, e.zeroExtend 64) :: word0Faults c d e, freezes := busy, reads := beaconReads d }
  else
    let p := part s c d
    let snap : Snap :=
      { d := d, bcn := c.ctx.getS (descField d 0 13 8), s1 := p.s1, s2 := p.s2, s3 := p.s3, s4 := p.s4, qs := p.qs, v := p.v, vtag := p.vtag
        line := p.first.map c.readLine }
    { effects := .engine name port snap (c.ctx.physK k.toNat) p.ranges :: p.effects
      faults := word0Faults c d e ++ (if kindReserved kind d then [((0x1302 : BitVec 16), e.zeroExtend 64)] else []) ++ p.faults
      freezes := (if 32 < c.sbUsed + p.ranges.length then [(.sbFull, BitVec.ofNat 64 ((p.ranges.map (·.1)).headD 0))] else [])
        ++ busy ++ p.waits
      reads := beaconReads d ++ p.reads
      banks := p.banks
      boundary := p.boundary }

/-- Operations of a port that have been issued and have not completed. -/
def Core.portOps (c : Core) (port : BitVec 3) : Nat := (c.ops.filter fun o => decide (o.port = port)).length

/-- A copy unit holds 8 operations (10 R215). -/
def copyFull (c : Core) (port : BitVec 3) : Bool := decide (8 ≤ c.portOps port)

/-- The M unit holds 16 (09 R194). -/
def bagFull (c : Core) (port : BitVec 3) : Bool := decide (16 ≤ c.portOps port)

/-- No limit. -/
def neverFull (_ : Core) (_ : BitVec 3) : Bool := false

/-- Whether a held write covers bytes that an engine would read (19 R365). -/
def heldCovers (c : Core) (places : List Spot) : Bool :=
  c.prot && c.mq.any fun r => r.writes && c.heldReq r && (knownSpots places).any fun a => r.piece.target.meets r.piece.n a.1 a.2

/-- The core at a quad position of core `c`. -/
def peerCore (c : BitVec 8) (pos : Nat) : BitVec 8 := BitVec.ofNat 8 (4 * quadOf c + pos)

/-- Whether a quad position holds a member of the same task (02 R44, 10 R217). -/
def State.peerMember (s : State) (c : BitVec 8) (pos : Nat) : Bool :=
  match (s.core c).task with
  | some b => b.cores.contains (peerCore c pos)
  | none => false

/-- The fault of a quad position that holds none. -/
def peerFault (s : State) (pos : Nat) (e : BitVec 6) : List (BitVec 16 × BitVec 64) :=
  if s.peerMember s.cur pos then [] else [(0x1307, e.zeroExtend 64)]

end Sys2Proof.Machine
end

