-- ==== Sys2Proof/Machine/CopyPort.lean ====
section
/-! DEFINITION. The C port at issue: copies, fills, bulk moves, gathers and scatters (10 R217-R222, 18 R359). -/

namespace Sys2Proof.Machine

/-- The lowest and highest byte of `n` rows of `w` bytes, `pitch` apart, from `a`. -/
def blockRange (a : Nat) (pitch : Int) (n w : Nat) : Int × Int :=
  let last : Int := a + (n - 1 : Int) * pitch
  (min a last, max (a : Int) last + w - 1)

/-- The first row of a block that leaves the offset space gives the fault (18 R347). -/
def blockFault (pw a : Nat) (pitch : Int) (n w : Nat) : List (BitVec 16 × BitVec 64) :=
  let (lo, hi) := blockRange a pitch n w
  if 0 ≤ lo ∧ hi < spSize pw then []
  else
    match (List.range n).find? fun (i : Nat) => !(decide (0 ≤ (a : Int) + (i : Int) * pitch) && decide ((a : Int) + (i : Int) * pitch + w ≤ spSize pw)) with
    | some i => rangeFault pw ((a : Int) + (i : Int) * pitch) ((a : Int) + (i : Int) * pitch + w - 1)
    | none => []

/-- Fields of a COPY descriptor. -/
structure CopyDesc where
  fromSp : Nat
  toSp : Nat
  peer : Nat
  mcast : Nat
  rows : Nat
  width : Nat
  fromPitch : Int
  toPitch : Int
deriving DecidableEq, Repr

def copyDesc (d : Desc) : CopyDesc :=
  { fromSp := descField d 1 3 0, toSp := descField d 1 19 16, peer := descField d 1 33 32, mcast := descField d 1 37 34
    rows := count16 (descField d 2 15 0), width := count16 (descField d 2 31 16)
    fromPitch := signedOf 32 (descField d 3 31 0), toPitch := signedOf 32 (descField d 3 63 32) }

/-- The two addresses of a COPY or BULK descriptor, and the registers they name. -/
def copyFrom (c : Core) (d : Desc) : BitVec 64 := descAddr c (descField d 1 14 9) (descField d 1 8 4)
def copyTo (c : Core) (d : Desc) : BitVec 64 := descAddr c (descField d 1 30 25) (descField d 1 24 20)
def fromUses (d : Desc) : List Use := addrUses (descField d 1 14 9) (descField d 1 8 4)
def toUses (d : Desc) : List Use := addrUses (descField d 1 30 25) (descField d 1 24 20)

/-- A range for the scoreboard. -/
def sbRange (r : Int × Int) (dest : Bool) : Nat × Nat × Bool := (r.1.toNat, r.2.toNat, dest)

/-- One side of a copy: faults of its space code, of the peer and of its range, and its scoreboard range. -/
def copySide (s : State) (c : Core) (e : BitVec 6) (x : CopyDesc) (sp a : Nat) (pitch : Int) (dest : Bool) :
    List (BitVec 16 × BitVec 64) × List (Nat × Nat × Bool) :=
  if 3 ≤ sp then ([((0x1303 : BitVec 16), e.zeroExtend 64)], [])
  else if sp = 1 then ([], [])
  else
    ((if sp = 2 then peerFault s x.peer e else []) ++ blockFault c.ctx.pw a pitch x.rows x.width,
      if sp = 0 then [sbRange (blockRange a pitch x.rows x.width) dest] else [])

/-- CPY and CPYM; s3 says whether a CPYM names a peer. -/
def copyPart (multi : Bool) (e : BitVec 6) (s : State) (c : Core) (d : Desc) : EngPart :=
  let x := copyDesc d
  let a := copyFrom c d
  let b := copyTo c d
  let (f1, r1) := copySide s c e x x.fromSp (inSpace x.fromSp a) x.fromPitch false
  let (f2, r2) := copySide s c e x x.toSp (inSpace x.toSp b) x.toPitch true
  let own : List (BitVec 16 × BitVec 64) :=
    if multi then
      (if x.toSp ≠ 0 then [((0x1303 : BitVec 16), e.zeroExtend 64)] else [])
        ++ ((List.range 4).filter fun p => x.mcast.testBit p && decide (p ≠ posOf s.cur)).flatMap fun p => peerFault s p e
    else if x.mcast ≠ 0 then [(0x1302, e.zeroExtend 64)] else []
  { faults := f1 ++ f2 ++ own, ranges := r1 ++ r2, reads := fromUses d ++ toUses d, s1 := a, s2 := b
    s3 := if multi ∧ ((List.range 4).any fun p => x.mcast.testBit p && decide (p ≠ posOf s.cur)) = true then 1 else 0
    boundary := heldCovers c ((List.range (if x.fromSp = 1 then x.rows else 0)).flatMap fun i =>
      s.ahead.rangePlaces s.cur .read (wrapTo 64 ((inSpace 1 a : Int) + i * x.fromPitch)) x.width) }

/-- FILL: the fields of its source must be 0. -/
def fillPart (e : BitVec 6) (s : State) (c : Core) (d : Desc) : EngPart :=
  let x := copyDesc d
  let b := copyTo c d
  let (f, r) := copySide s c e x x.toSp (inSpace x.toSp b) x.toPitch true
  { faults := f ++ (if descField d 1 14 0 ≠ 0 then [((0x1302 : BitVec 16), e.zeroExtend 64)] else []), ranges := r, reads := toUses d, s2 := b }

/-- BULK: both spaces are global. -/
def bulkPart (e : BitVec 6) (s : State) (c : Core) (d : Desc) : EngPart :=
  { faults := if descField d 1 3 0 = 1 ∧ descField d 1 19 16 = 1 then [] else [((0x1303 : BitVec 16), e.zeroExtend 64)]
    reads := fromUses d ++ toUses d, s1 := copyFrom c d, s2 := copyTo c d
    boundary := heldCovers c (s.ahead.rangePlaces s.cur .read (inSpace 1 (copyFrom c d)) (descField d 2 47 0)) }

/-- Fields of a GATHER descriptor. -/
structure GatherDesc where
  tblSp : Nat
  lstSp : Nat
  nent : Nat
  rowBytes : Nat
  policy : Nat
  /-- GATH: first landing row; SCAT: offset of the first row read. -/
  row0 : Nat
  place : Nat
  tpitch : Nat
deriving DecidableEq, Repr

def gatherDesc (d : Desc) : GatherDesc :=
  { tblSp := descField d 1 3 0, lstSp := descField d 1 19 16, nent := count16 (descField d 2 15 0)
    rowBytes := 32 * (if descField d 2 19 16 = 0 then 16 else descField d 2 19 16), policy := descField d 2 21 20
    row0 := descField d 2 47 32, place := descField d 2 63 32, tpitch := descField d 3 47 0 }

/-- The global bytes that a gather, or a scatter's list, reads, as its list stands at issue (19 R365; log 21). -/
def gatherReads (scatter : Bool) (s : State) (c : Core) (g : GatherDesc) (t lst : Nat) : List Spot :=
  let entry (p : Nat) : Option Nat :=
    if g.lstSp = 0 then some (c.spRead (lst + 8 * p) 8)
    else match s.ahead.xlateCore s.cur .read (lst + 8 * p) with
      | .ok a => match s.readAt (s.partOfCore s.cur) a 8 with
        | .val x => some x
        | _ => none
      | _ => none
  (if g.lstSp = 1 then s.ahead.rangePlaces s.cur .read lst (8 * g.nent) else [])
    ++ (if scatter ∨ g.tblSp ≠ 1 then []
      else (List.range g.nent).flatMap fun p => match entry p with
        | some e => if e = 2 ^ 64 - 1 then [] else s.ahead.rangePlaces s.cur .read (t + fieldOf e 47 0 * g.tpitch) g.rowBytes
        | none => [])

/-- The part common to GATH and SCAT: list and table, whose entry reaches to the end of the offset space (10 R222). -/
def gatherPart (scatter : Bool) (e : BitVec 6) (s : State) (c : Core) (d : Desc) : EngPart :=
  let g := gatherDesc d
  let pw := c.ctx.pw
  let t := descAddr c (descField d 1 14 9) (descField d 1 8 4)
  let x := descAddr c (descField d 1 30 25) (descField d 1 24 20)
  let lst := inSpace 0 x
  let code (n : BitVec 16) : BitVec 16 × BitVec 64 := (n, e.zeroExtend 64)
  { faults := (if 2 ≤ g.tblSp ∨ 2 ≤ g.lstSp ∨ g.policy = 3 then [code 0x1303] else [])
      ++ (if g.lstSp = 0 then rangeFault pw lst (lst + 8 * g.nent - 1) else [])
      ++ (if scatter then rangeFault pw g.place (g.place + g.nent * g.rowBytes - 1)
        else (if landRows pw < g.row0 + g.nent then [code 0x1304] else []) ++ (if descField d 2 63 48 ≠ 0 then [code 0x1302] else []))
    ranges := (if g.lstSp = 0 then [(lst, lst + 8 * g.nent - 1, false)] else [])
      ++ (if g.tblSp = 0 then [(inSpace 0 t, spSize pw - 1, scatter)] else [])
      ++ (if scatter then [(g.place, g.place + g.nent * g.rowBytes - 1, false)] else [])
    reads := addrUses (descField d 1 14 9) (descField d 1 8 4) ++ addrUses (descField d 1 30 25) (descField d 1 24 20)
    s1 := t, s2 := x, boundary := heldCovers c (gatherReads scatter s c g (inSpace g.tblSp t) (inSpace g.lstSp x)) }

/-! ## Meanings -/

/-- CPY (10 R218). -/
def execCpy (k x y z : BitVec 3) (e : BitVec 6) (s : State) : Host.Outcome State Fault Refusal :=
  issueSlot (.cpy k x y z e) (engineSlot (.cpy k x y z e) .cpy 1 e k copyFull (copyPart false e)) s

/-- CPYM (10 R218). -/
def execCpym (k x y z : BitVec 3) (e : BitVec 6) (s : State) : Host.Outcome State Fault Refusal :=
  issueSlot (.cpym k x y z e) (engineSlot (.cpym k x y z e) .cpym 1 e k copyFull (copyPart true e)) s

/-- FILL (10 R218). -/
def execFill (k x y z : BitVec 3) (e : BitVec 6) (s : State) : Host.Outcome State Fault Refusal :=
  issueSlot (.fill k x y z e) (engineSlot (.fill k x y z e) .fill 1 e k copyFull (fillPart e)) s

/-- BULK (10 R218). -/
def execBulk (k x y z : BitVec 3) (e : BitVec 6) (s : State) : Host.Outcome State Fault Refusal :=
  issueSlot (.bulk k x y z e) (engineSlot (.bulk k x y z e) .bulk 3 e k copyFull (bulkPart e)) s

/-- GATH (10 R220). -/
def execGath (k x y z : BitVec 3) (e : BitVec 6) (s : State) : Host.Outcome State Fault Refusal :=
  issueSlot (.gath k x y z e) (engineSlot (.gath k x y z e) .gath 2 e k copyFull (gatherPart false e)) s

/-- SCAT (10 R221). -/
def execScat (k x y z : BitVec 3) (e : BitVec 6) (s : State) : Host.Outcome State Fault Refusal :=
  issueSlot (.scat k x y z e) (engineSlot (.scat k x y z e) .scat 2 e k copyFull (gatherPart true e)) s

end Sys2Proof.Machine
end

