-- ==== Sys2Proof/Machine/Matrix.lean ====
section
/-! DEFINITION. The M port at issue: operands, limits and formats of the bag array's instructions (09 R189-R213, 18 R358). -/

namespace Sys2Proof.Machine

/-- Fields of a MATRIX or WEIGHT descriptor (06 R130). -/
structure MatDesc where
  opt : Bool
  treg : Nat
  qwin : Bool
  peer : Nat
  afmt : Tag
  wfmt : Tag
  blk : Bool
  tbl : Nat
  arow : Nat
  nrow : Nat
  qs : Nat
  qsv : Bool
  anch : Int
  rnd : BitVec 2
  ofmt : Tag
  otreg : Nat
  vd : Nat
  vb : Nat
deriving DecidableEq, Repr

def matDesc (d : Desc) : MatDesc :=
  let f := descField d
  { opt := decide (f 1 0 0 = 1), treg := f 1 3 1, qwin := decide (f 1 16 16 = 1), peer := f 1 18 17, afmt := BitVec.ofNat 4 (f 1 23 20)
    wfmt := BitVec.ofNat 4 (f 1 27 24), blk := decide (f 1 28 28 = 1), tbl := f 1 35 35, arow := f 2 15 0, nrow := count16 (f 2 31 16)
    qs := f 2 35 32, qsv := decide (f 2 36 36 = 1), anch := signedOf 11 (f 2 47 37), rnd := BitVec.ofNat 2 (f 2 49 48)
    ofmt := BitVec.ofNat 4 (f 2 53 50), otreg := f 3 14 12, vd := f 3 21 16, vb := f 3 27 22 }

/-- Bytes of an element. -/
def elemBytes (t : Tag) : Nat := Fmt.width t / 8

def isK8 (t : Tag) : Bool := decide (t = Fmt.k8a ∨ t = Fmt.k8b)

/-- The address of row `j` of tile `i` of an operand named by two registers (03 R77). -/
def tileRow (s1 s2 : BitVec 64) (i j : Nat) : Nat :=
  fieldOf s1.toNat 31 0 + i * fieldOf s2.toNat 31 16 * 128 + j * fieldOf s2.toNat 15 0 + j % 8 * fieldOf s1.toNat 34 32 * 128

/-- The address of streamed row `j` (09 R196). -/
def streamRow (s1 s2 : BitVec 64) (j : Nat) : Nat := tileRow s1 s2 (j / 128) (j % 128)

/-- Start and length of the rows of a tile of a format: 17 for K8 (09 R197, R213). -/
def tileRows (t : Tag) (addr : Nat → Nat) : List (Nat × Nat) :=
  if isK8 t then (List.range 17).map fun j => (addr j, if j = 16 then 128 else 256) else (List.range 128).map fun j => (addr j, 128 * elemBytes t)

/-- The range of a list of rows. -/
def rowsRange (rows : List (Nat × Nat)) : Nat × Nat :=
  ((rows.map (·.1)).foldl min ((rows.headD (0, 1)).1), (rows.map fun r => r.1 + r.2 - 1).foldl max 0)

/-- The first row that leaves the offset space gives the fault. -/
def rowsFault (pw : Nat) (rows : List (Nat × Nat)) : List (BitVec 16 × BitVec 64) :=
  match rows.findSome? fun r => spOutside pw r.1 r.2 with
  | some x => [(0x1202, BitVec.ofNat 64 x)]
  | none => []

/-- A scratchpad source or destination: its fault and, when `own`, its scoreboard range. -/
def rowsPart (pw : Nat) (rows : List (Nat × Nat)) (own dest : Bool) : EngPart :=
  let r := rowsRange rows
  { faults := rowsFault pw rows, ranges := if own then [(r.1, r.2, dest)] else [] }

/-- Two contributions together. -/
def EngPart.join (a b : EngPart) : EngPart :=
  { a with faults := a.faults ++ b.faults, ranges := a.ranges ++ b.ranges, reads := a.reads ++ b.reads, effects := a.effects ++ b.effects
           banks := a.banks ++ b.banks, first := a.first <|> b.first }

/-- The scratchpad operand at s(OPS1), s(OPS2), read through the quad window when QWIN is set (09 R190, R195). -/
def operandPart (s : State) (c : Core) (e : BitVec 6) (d : Desc) (rows : List (Nat × Nat)) : EngPart :=
  let m := matDesc d
  let p := rowsPart c.ctx.pw rows (!m.qwin) false
  let first := (rows.headD (0, 1)).1
  { p with
    faults := p.faults ++ (if m.qwin then peerFault s m.peer e else [])
    reads := [rdD 0 (descField d 1 9 4), rdD 0 (descField d 1 15 10)]
    banks := if m.qwin ∨ spSize c.ctx.pw ≤ first then [] else [bankOf c.ctx.pw first]
    first := if m.qwin ∨ spSize c.ctx.pw ≤ first then none else some first }

/-- A fault that carries the descriptor's number. -/
def eFault (code : BitVec 16) (e : BitVec 6) (bad : Bool) : List (BitVec 16 × BitVec 64) := if bad then [(code, e.zeroExtend 64)] else []

/-- The fault of a tile register's tag. -/
def tileTagFault (c : Core) (t : Nat) (want : Tag) : List (BitVec 16 × BitVec 64) :=
  if mapGet Fmt.int16 c.pool.ttag t = want then [] else [((0x1203 : BitVec 16), regIdentity (rdD 5 t))]

/-- The window rows AROW to AROW + NROW − 1 lie within the window (09 R191). -/
def rowsLimit (c : Core) (d : Desc) (e : BitVec 6) : List (BitVec 16 × BitVec 64) :=
  eFault 0x1304 e (decide (windowRows c.ctx.pw < (matDesc d).arow + (matDesc d).nrow))

/-- OPS1 and OPS2 as read at issue. -/
def ops1 (c : Core) (d : Desc) : BitVec 64 := descS c d 1 9 4
def ops2 (c : Core) (d : Desc) : BitVec 64 := descS c d 1 15 10
/-- OUTS. -/
def outs (c : Core) (d : Desc) : BitVec 64 := descS c d 3 11 6

/-- PHC must be 0 on every M operation (09 R190). -/
def phcFault (d : Desc) (e : BitVec 6) : List (BitVec 16 × BitVec 64) := eFault 0x1308 e (decide (descField d 0 36 35 ≠ 0))

/-- The M slot of an instruction with a descriptor. -/
def bagSlot (i : Instr) (name : OpName) (kind : Nat) (e : BitVec 6) (k : BitVec 3) (part : State → Core → Desc → EngPart) (s : State)
    (c : Core) : SlotOut :=
  engineSlot i name kind e k bagFull (fun s c d => let p := part s c d; { p with faults := phcFault d e ++ p.faults }) s c

/-! ## Multiplies and bags -/

/-- The formats of the active and the shadow plane once the operations issued so far have swapped and loaded them, in their order (09 R192, R200). -/
def Core.planeFmts (c : Core) : Tag × Tag :=
  (c.ops.filter fun o => !o.done).foldl
    (fun f o => if o.name = .mswap then (f.2, f.1) else if o.name = .mldw then (f.1, (matDesc o.snap.d).wfmt) else f) (c.pool.afmt, c.pool.sfmt)

/-- A pair of R104: the activation's format with the descriptor's weight format, and with that of the plane it meets (09 R196). -/
def pairFault (c : Core) (m : MatDesc) (e : BitVec 6) : List (BitVec 16 × BitVec 64) :=
  eFault 0x1305 e (decide (adef m.afmt m.wfmt = .reserved) || decide (adef m.afmt c.planeFmts.1 = .reserved))

/-- MMUL and MMULS. -/
def mulPart (sparse : Bool) (e : BitVec 6) (s : State) (c : Core) (d : Desc) : EngPart :=
  let m := matDesc d
  let pw := c.ctx.pw
  let rows := (List.range m.nrow).map fun j => (streamRow (ops1 c d) (ops2 c d) j, 128 * elemBytes m.afmt)
  let operand : EngPart := if m.opt then { faults := tileTagFault c m.treg m.afmt ++ eFault 0x1304 e (decide (128 < m.nrow)) }
    else operandPart s c e d rows
  let scales : EngPart := if m.blk then
      { rowsPart pw [((descS c d 1 34 29).toNat, 4 * m.nrow)] true false with reads := [rdD 0 (descField d 1 34 29)] }
    else {}
  let bitmap : EngPart := if sparse then
      { rowsPart pw [((descS c d 3 5 0).toNat, 2 * ((m.nrow + 7) / 8))] true false with reads := [rdD 0 (descField d 3 5 0)] }
    else {}
  let own : EngPart :=
    { faults := rowsLimit c d e ++ pairFault c m e ++ eFault 0x1305 e (m.blk && decide (m.afmt ≠ Fmt.e4m3))
      s1 := ops1 c d, s2 := ops2 c d, s3 := descS c d 1 34 29, s4 := descS c d 3 5 0 }
  ((own.join operand).join scales).join bitmap

/-- MBAG: its landing rows, and the 160 bytes of its status record and report (09 R204, R207, 20 R389). -/
def bagPart (e : BitVec 6) (_ : State) (c : Core) (d : Desc) : EngPart :=
  let m := matDesc d
  let pw := c.ctx.pw
  let o := (outs c d).toNat
  let has := decide (descField d 3 11 6 ≠ 0)
  let rec_ : EngPart := if has then
      { rowsPart pw [(o, 160)] true true with reads := [rdD 0 (descField d 3 11 6)] }
    else {}
  let own : EngPart :=
    { faults := pairFault c m e
        ++ eFault 0x1304 e (decide (windowRows pw ≤ m.arow ∨ landRows pw < fieldOf (ops1 c d).toNat 15 0 + m.nrow))
        ++ (if has = true ∧ o % 32 ≠ 0 then [((0x1201 : BitVec 16), BitVec.ofNat 64 o)] else [])
      reads := [rdD 0 (descField d 1 9 4)], s1 := ops1 c d, s3 := outs c d }
  own.join rec_

/-- MMUL (09 R202). -/
def execMmul (k x y z : BitVec 3) (e : BitVec 6) (s : State) : Host.Outcome State Fault Refusal :=
  issueSlot (.mmul k x y z e) (bagSlot (.mmul k x y z e) .mmul 4 e k (mulPart false e)) s

/-- MMULS (09 R203). -/
def execMmuls (k x y z : BitVec 3) (e : BitVec 6) (s : State) : Host.Outcome State Fault Refusal :=
  issueSlot (.mmuls k x y z e) (bagSlot (.mmuls k x y z e) .mmuls 4 e k (mulPart true e)) s

/-- MBAG.acc (09 R205). -/
def execMbagAcc (k x y z : BitVec 3) (e : BitVec 6) (s : State) : Host.Outcome State Fault Refusal :=
  issueSlot (.mbagAcc k x y z e) (bagSlot (.mbagAcc k x y z e) .mbagAcc 4 e k (bagPart e)) s

/-- MBAG.steer (09 R206). -/
def execMbagSteer (k x y z : BitVec 3) (e : BitVec 6) (s : State) : Host.Outcome State Fault Refusal :=
  issueSlot (.mbagSteer k x y z e) (bagSlot (.mbagSteer k x y z e) .mbagSteer 4 e k (bagPart e)) s

/-! ## Weights -/

/-- Formats of a weight plane (09 R198). -/
def weightFmt (t : Tag) : Bool := decide (t = 9 ∨ t = 10 ∨ t = 7 ∨ t = 8 ∨ t = 5 ∨ t = 6 ∨ t = 12 ∨ t = 13)

/-- MLDW (09 R198). -/
def execMldw (k x y z : BitVec 3) (e : BitVec 6) (s : State) : Host.Outcome State Fault Refusal :=
  issueSlot (.mldw k x y z e) (bagSlot (.mldw k x y z e) .mldw 5 e k fun s c d =>
    let m := matDesc d
    let operand : EngPart := if m.opt then { faults := tileTagFault c m.treg m.wfmt }
      else operandPart s c e d (tileRows m.wfmt (tileRow (ops1 c d) (ops2 c d) 0))
    let own : EngPart := { faults := eFault 0x1305 e (!weightFmt m.wfmt), s1 := ops1 c d, s2 := ops2 c d }
    own.join operand) s

/-- MCODE (09 R199). -/
def execMcode (k x y z : BitVec 3) (e : BitVec 6) (s : State) : Host.Outcome State Fault Refusal :=
  issueSlot (.mcode k x y z e) (bagSlot (.mcode k x y z e) .mcode 5 e k fun _ c d =>
    let o := fieldOf (ops1 c d).toNat 31 0
    let p := rowsPart c.ctx.pw [(o, 1024)] true false
    { p with
      faults := p.faults ++ (if o % 1024 = 0 then [] else [((0x1201 : BitVec 16), BitVec.ofNat 64 o)])
      reads := [rdD 0 (descField d 1 9 4)], s1 := ops1 c d }) s

/-- MSWAP reads no descriptor (09 R200). -/
def execMswap (k x y z : BitVec 3) (s : State) : Host.Outcome State Fault Refusal :=
  issueSlot (.mswap k x y z) (fun _ c =>
    { effects := [.engine .mswap (slotPort (.mswap k x y z) c.iss.port) { d := 0 } (c.ctx.physK k.toNat) []]
      freezes := if bagFull c 3 then [(.engineFull, 0)] else [] }) s

/-! ## Preparing window rows -/

/-- The anchor MZERO gives (09 R208). -/
def zeroAnchor (m : MatDesc) (qs : BitVec 16) : Int :=
  let ex := if m.qsv then (qs.extractLsb' 0 12).toInt else 0
  match adef m.afmt m.wfmt with
  | .anchor a => a + ex
  | _ => ex

def anchorOk (a : Int) : Bool := decide (-1024 ≤ a) && decide (a ≤ 1023)

/-- MZERO (09 R208). -/
def execMzero (k x y z : BitVec 3) (e : BitVec 6) (s : State) : Host.Outcome State Fault Refusal :=
  issueSlot (.mzero k x y z e) (bagSlot (.mzero k x y z e) .mzero 4 e k fun _ c d =>
    let m := matDesc d
    let qs := c.ctx.getQs m.qs
    let a := adef m.afmt m.wfmt
    { faults := rowsLimit c d e ++ eFault 0x1305 e (decide (a = .reserved))
        ++ eFault 0x1306 e ((decide (a = .named) && !m.qsv) || (decide (a ≠ .reserved) && !anchorOk (zeroAnchor m qs)))
      reads := if m.qsv then [rdD 8 m.qs] else [], qs := qs }) s

/-- MANCH: its anchor always lies in range (09 R208). -/
def execManch (k x y z : BitVec 3) (e : BitVec 6) (s : State) : Host.Outcome State Fault Refusal :=
  issueSlot (.manch k x y z e) (bagSlot (.manch k x y z e) .manch 4 e k fun _ c d =>
    { faults := rowsLimit c d e ++ eFault 0x1306 e (!anchorOk (matDesc d).anch) }) s

/-- MADDV (09 R209). -/
def execMaddv (k x y z : BitVec 3) (e : BitVec 6) (s : State) : Host.Outcome State Fault Refusal :=
  issueSlot (.maddv k x y z e) (bagSlot (.maddv k x y z e) .maddv 4 e k fun _ c d =>
    let n := (matDesc d).vb
    let tag := c.ctx.getVTag n
    { faults := rowsLimit c d e ++ (if tag = Fmt.fp32 ∨ tag = Fmt.int32 then [] else [((0x1203 : BitVec 16), regIdentity (rdD 1 n))])
      reads := [rdD 1 n], v := c.ctx.getV n, vtag := tag }) s

/-! ## Readout -/

def is32 (t : Tag) : Bool := decide (t = Fmt.fp32 ∨ t = Fmt.int32)
/-- FP32, INT32, FP16 and BF16. -/
def readFmt (t : Tag) : Bool := is32 t || decide (t = Fmt.fp16 ∨ t = Fmt.bf16)

/-- MRD (09 R210); the tags follow issue order (09 R192). -/
def execMrd (k x y z : BitVec 3) (e : BitVec 6) (s : State) : Host.Outcome State Fault Refusal :=
  issueSlot (.mrd k x y z e) (bagSlot (.mrd k x y z e) .mrd 4 e k fun _ c d =>
    let m := matDesc d
    { faults := rowsLimit c d e ++ eFault 0x1304 e (decide (128 < m.nrow)) ++ eFault 0x1305 e (!readFmt m.ofmt)
        ++ (if is32 m.ofmt = true ∧ m.otreg % 2 = 1 then [((0x1204 : BitVec 16), slotWord (.mrd k x y z e) c.iss)] else [])
      effects := if is32 m.ofmt then [.ttag m.otreg Fmt.uint16, .ttag (m.otreg + 1) Fmt.uint16] else [.ttag m.otreg m.ofmt] }) s

/-- Rows of an output at s(OUTS), RPITCH apart. -/
def outRows (o : BitVec 64) (s2 : BitVec 64) (n len : Nat) : List (Nat × Nat) :=
  (List.range n).map fun j => (o.toNat + j * fieldOf s2.toNat 15 0, len)

/-- MST (09 R211). -/
def execMst (k x y z : BitVec 3) (e : BitVec 6) (s : State) : Host.Outcome State Fault Refusal :=
  issueSlot (.mst k x y z e) (bagSlot (.mst k x y z e) .mst 4 e k fun _ c d =>
    let m := matDesc d
    let al := if is32 m.ofmt then 4 else 2
    let o := outs c d
    let pitch := fieldOf (ops2 c d).toNat 15 0
    let p := rowsPart c.ctx.pw (outRows o (ops2 c d) m.nrow (128 * al)) true true
    { p with
      faults := p.faults ++ rowsLimit c d e ++ eFault 0x1305 e (!readFmt m.ofmt)
        ++ (if o.toNat % al ≠ 0 then [((0x1201 : BitVec 16), o)]
          else if pitch % al ≠ 0 then [((0x1201 : BitVec 16), BitVec.ofNat 64 pitch)] else [])
      reads := [rdD 0 (descField d 1 15 10), rdD 0 (descField d 3 11 6)], s2 := ops2 c d, s3 := o }) s

/-- MSTAT (09 R212): its three registers are pending until its token completes. -/
def execMstat (k x y z : BitVec 3) (e : BitVec 6) (s : State) : Host.Outcome State Fault Refusal :=
  issueSlot (.mstat k x y z e) (bagSlot (.mstat k x y z e) .mstat 4 e k fun _ c d =>
    let m := matDesc d
    let r (i : Nat) : BitVec 64 := BitVec.ofNat 64 (c.ctx.physV (m.vd + i))
    { faults := rowsLimit c d e ++ eFault 0x1304 e (decide (128 < m.nrow))
        ++ (if 61 < m.vd then [((0x1204 : BitVec 16), slotWord (.mstat k x y z e) c.iss)] else [])
      reads := [wrD 1 m.vd, wrD 1 (m.vd + 1), wrD 1 (m.vd + 2)], s1 := r 0, s2 := r 1, s3 := r 2 }) s

/-! ## Tile moves (09 R213) -/

/-- MLDT and MTRL. -/
def moveIn (transposed : Bool) (e : BitVec 6) (s : State) (c : Core) (d : Desc) : EngPart :=
  let m := matDesc d
  let p := operandPart s c e d (tileRows m.afmt (tileRow (ops1 c d) (ops2 c d) 0))
  { p with
    faults := p.faults ++ eFault 0x1305 e (!(Fmt.legalT m.afmt) || (transposed && isK8 m.afmt))
    s1 := ops1 c d, s2 := ops2 c d, effects := [.ttag m.otreg m.afmt] }

/-- MTRL. -/
def execMtrl (k x y z : BitVec 3) (e : BitVec 6) (s : State) : Host.Outcome State Fault Refusal :=
  issueSlot (.mtrl k x y z e) (bagSlot (.mtrl k x y z e) .mtrl 4 e k (moveIn true e)) s

/-- MLDT. -/
def execMldt (k x y z : BitVec 3) (e : BitVec 6) (s : State) : Host.Outcome State Fault Refusal :=
  issueSlot (.mldt k x y z e) (bagSlot (.mldt k x y z e) .mldt 4 e k (moveIn false e)) s

/-- Rows an MSTT writes: a tile pair's as 32-bit elements, else those of the tile's format. -/
def tileOut (m : MatDesc) (o s2 : BitVec 64) : List (Nat × Nat) :=
  if is32 m.ofmt then outRows o s2 128 512 else tileRows m.ofmt fun j => o.toNat + j * fieldOf s2.toNat 15 0

/-- MSTT. -/
def execMstt (k x y z : BitVec 3) (e : BitVec 6) (s : State) : Host.Outcome State Fault Refusal :=
  issueSlot (.mstt k x y z e) (bagSlot (.mstt k x y z e) .mstt 4 e k fun _ c d =>
    let m := matDesc d
    let tag (t : Nat) : Tag := mapGet Fmt.int16 c.pool.ttag t
    let odd := is32 m.ofmt && decide (m.treg % 2 = 1)
    let p := rowsPart c.ctx.pw (tileOut m (outs c d) (ops2 c d)) true true
    { p with
      faults := p.faults ++ (if odd then [((0x1204 : BitVec 16), slotWord (.mstt k x y z e) c.iss)] else [])
        ++ eFault 0x1305 e (if is32 m.ofmt then !odd && decide (tag m.treg ≠ Fmt.uint16 ∨ tag (m.treg + 1) ≠ Fmt.uint16)
          else decide (tag m.treg ≠ m.ofmt))
      reads := [rdD 0 (descField d 1 15 10), rdD 0 (descField d 3 11 6)], s2 := ops2 c d, s3 := outs c d }) s

/-! ## Items (09 R192) -/

/-- Whether an operation takes the array stream. -/
def OpName.streams : OpName → Bool
  | .mmul => true
  | .mmuls => true
  | .mbagAcc => true
  | .mbagSteer => true
  | .mswap => true
  | _ => false

/-- Items an operation touches: kind (0 window rows, 1 tiles, 2 planes: 0 active and 1 shadow, 3 codebooks), first, last, and whether it writes. -/
def opItems (pw : Nat) (o : EngineOp) : List (Nat × Nat × Nat × Bool) :=
  let m := matDesc o.snap.d
  let rows (w : Bool) : Nat × Nat × Nat × Bool := (0, m.arow, m.arow + m.nrow - 1, w)
  let src : List (Nat × Nat × Nat × Bool) := if m.opt then [(1, m.treg, m.treg, false)] else []
  match o.name with
  | .mldw => (2, 1, 1, true) :: (if isK8 m.wfmt then [(3, (m.wfmt.toNat - 12), (m.wfmt.toNat - 12), false)] else []) ++ src
  | .mswap => [(2, 0, 1, true)]
  | .mmul => (2, 0, 0, false) :: rows true :: src
  | .mmuls => (2, 0, 0, false) :: rows true :: src
  | .mbagAcc => [(2, 0, 0, false), (0, m.arow, windowRows pw - 1, true)]
  | .mbagSteer => [(2, 0, 0, false), (0, m.arow, windowRows pw - 1, true)]
  | .mzero => [rows true]
  | .manch => [rows true]
  | .maddv => [rows true]
  | .mrd => [rows false, (1, m.otreg, if is32 m.ofmt then m.otreg + 1 else m.otreg, true)]
  | .mst => [rows false]
  | .mstat => [rows false]
  | .mtrl => [(1, m.otreg, m.otreg, true)]
  | .mldt => [(1, m.otreg, m.otreg, true)]
  | .mstt => [(1, m.treg, if is32 m.ofmt then m.treg + 1 else m.treg, false)]
  | .mcode => [(3, m.tbl, m.tbl, true)]
  | _ => []

end Sys2Proof.Machine
end

