-- ==== Sys2Proof/Machine/Packet.lean ====
section
/-! DEFINITION. Reduction packets and bank launches of the P port at issue (10 R245-R247, 13 R290, 18 R360). -/

namespace Sys2Proof.Machine

/-- The tree record a compute bulkhead holds (10 R243). -/
def State.tree (s : State) (cb t : Nat) : BitVec 256 := mapGet 0 s.trees (16 * cb + t)

/-- Fields of a tree record. -/
def treeAnchor (r : BitVec 256) : Int := signedOf 11 (fieldOf r.toNat 10 0)
def treeRoot (r : BitVec 256) : Nat := fieldOf r.toNat 15 12
def treeMemb (r : BitVec 256) : Nat := fieldOf r.toNat 31 16
def treeParent (r : BitVec 256) (j : Nat) : Nat := fieldOf r.toNat (67 + 4 * j) (64 + 4 * j)
def treeOrd (r : BitVec 256) (j : Nat) : Nat := fieldOf r.toNat (131 + 4 * j) (128 + 4 * j)

/-- RPK: its elements, its tree's membership and the root's destination. -/
def packetPart (e : BitVec 6) (s : State) (c : Core) (d : Desc) : EngPart :=
  let o := descS c d 1 5 0
  { faults := spFaults c.ctx.pw 128 o.toNat 128
      ++ (if (treeMemb (s.tree (cbOf s.cur) (packetTree d))).testBit (localOf s.cur) then [] else [((0x1309 : BitVec 16), e.zeroExtend 64)])
    ranges := [(o.toNat, o.toNat + 127, false)]
    reads := [rdD 0 (descField d 1 5 0), rdD 0 (descField d 1 15 10)]
    s1 := o, s2 := descS c d 1 15 10 }

/-- What translates s(CHS) for a bank launch (13 R290): the physical address and whether the leaf has WR, when it is a level 1 leaf of a stack
with RD that the gates pass; and how translation ends. -/
def State.bankLeaf (s : State) (c : BitVec 8) (va : Nat) : Option (BitVec 39 × Bool) × Xlat :=
  match s.lookup (coreKey c) (s.partOfCore c) (match (s.core c).task with
    | some b => b.asid
    | none => 0) va, s.xlateCore c .read va with
  | .leaf e lvl, .ok (.stack pa) => (if lvl = 1 then some (pa, e.getLsbD 3) else none, .ok (.stack pa))
  | _, x => (none, x)

/-- The part common to bank launches: the leaf of s(CHS), kept as the physical address and WR it gives at issue. -/
def bankPart (e : BitVec 6) (s : State) (c : Core) (d : Desc) : EngPart :=
  let va := descS c d 1 5 0
  let (leaf, x) := s.bankLeaf s.cur va.toNat
  let bad : List (BitVec 16 × BitVec 64) := if leaf.isSome then [] else [((0x1309 : BitVec 16), e.zeroExtend 64)]
  { faults := match x with
      | .poison _ => []
      | .held => []
      | _ => bad
    effects := match x with
      | .poison pa => [.walkPoison pa]
      | .stopped pa => [.gateStop pa]
      | _ => []
    waits := if x = .held then [(.portHeld, 0)] else []
    reads := [rdD 0 (descField d 1 5 0)], s1 := va
    s3 := (match leaf with
      | some l => l.1
      | none => 0).zeroExtend 64
    s4 := if (leaf.map (·.2)).getD false then 1 else 0 }

/-- BANKLD: and its image of 96 bytes. -/
def bankldPart (e : BitVec 6) (s : State) (c : Core) (d : Desc) : EngPart :=
  let p := bankPart e s c d
  let o := descS c d 1 11 6
  { p with
    faults := p.faults ++ spFaults c.ctx.pw 64 o.toNat 96
    ranges := [(o.toNat, o.toNat + 95, false)], reads := p.reads ++ [rdD 0 (descField d 1 11 6)], s2 := o }

/-- BANKGO: and its rows. -/
def bankgoPart (e : BitVec 6) (s : State) (c : Core) (d : Desc) : EngPart :=
  let p := bankPart e s c d
  { p with
    faults := p.faults
      ++ if 10923 < descField d 2 15 0 + count16 (descField d 2 31 16) then [((0x1304 : BitVec 16), e.zeroExtend 64)] else [] }

/-- RPK.x (10 R245). -/
def execRpkX (k x y z : BitVec 3) (e : BitVec 6) (s : State) : Host.Outcome State Fault Refusal :=
  issueSlot (.rpkX k x y z e) (engineSlot (.rpkX k x y z e) .rpkX 6 e k neverFull (packetPart e)) s

/-- RPK.f (10 R245). -/
def execRpkF (k x y z : BitVec 3) (e : BitVec 6) (s : State) : Host.Outcome State Fault Refusal :=
  issueSlot (.rpkF k x y z e) (engineSlot (.rpkF k x y z e) .rpkF 6 e k neverFull (packetPart e)) s

/-- BANKLD (10 R246). -/
def execBankld (k x y z : BitVec 3) (e : BitVec 6) (s : State) : Host.Outcome State Fault Refusal :=
  issueSlot (.bankld k x y z e) (engineSlot (.bankld k x y z e) .bankld 7 e k neverFull (bankldPart e)) s

/-- BANKGO (10 R247). -/
def execBankgo (k x y z : BitVec 3) (e : BitVec 6) (s : State) : Host.Outcome State Fault Refusal :=
  issueSlot (.bankgo k x y z e) (engineSlot (.bankgo k x y z e) .bankgo 7 e k neverFull (bankgoPart e)) s

end Sys2Proof.Machine
end

