-- ==== Sys2Proof/Machine/Move.lean ====
section
/-! DEFINITION. How engines move bytes: reads and writes of scratchpad and global memory with poison and translation faults, and the completion of an operation (10 R216, R240, 17 R332, 18 R350). -/

namespace Sys2Proof.Machine

/-- Bytes on the move: the value, and the bytes (by bit) that are poisoned and that could not be read. -/
structure Blk where
  x : Nat
  psn : Nat
  bad : Nat
deriving DecidableEq, Repr

/-- Bytes some of which, by bit, a check has found bad on their way. -/
def Blk.struck (b : Blk) (m : Nat) : Blk := { b with psn := b.psn ||| m }

/-- A deferred fault: code and TVAL. -/
abbrev EngFault := Option (BitVec 16 × BitVec 64)

/-- `n` one bits from bit `i`. -/
def onesAt (i n : Nat) : Nat := (2 ^ n - 1) <<< i

/-- Bytes of row `i`, of `w` bytes, of an operation's data that lie in flits found bad (17 R337). -/
def EngineOp.badBytes (o : EngineOp) (i w : Nat) : Nat :=
  let q := (w + 63) / 64
  (o.psn.filter fun f => decide (f / q = i)).foldl (fun m f => m ||| onesAt (64 * (f % q)) (min 64 (w - 64 * (f % q)))) 0

/-- The first of two faults. -/
def EngFault.first (a b : EngFault) : EngFault := match a with
  | some _ => a
  | none => b

/-! ## Scratchpad -/

/-- The first line of an operand, as it stood in the issue cycle, laid over scratchpad contents (09 R195). -/
def FirstLine.over (l : FirstLine) (m : FMap Byte × FMap Bool) : FMap Byte × FMap Bool :=
  (writeBytes m.1 l.off 128 l.x, (List.range 16).foldl (fun p i => mapSet false p (l.off / 8 + i) (l.psn.testBit i)) m.2)

/-- The scratchpad contents that an operation reads: what it has captured, or the live contents, with the line it read at issue. -/
def Core.source (c : Core) (o : EngineOp) : FMap Byte × FMap Bool :=
  let m := o.cap.getD (c.pool.sp, c.pool.psn)
  match o.snap.line with
  | some l => l.over m
  | none => m

/-- `n` bytes of a scratchpad with the poison of their 8-byte granules. -/
def spBlk (sp : FMap Byte) (psn : FMap Bool) (off n : Nat) : Blk :=
  { x := readBytes sp off n
    psn := (pieces 8 (n / 8 + 2) off n).foldl
      (fun m p => if mapGet false psn (p.1 / 8) then m ||| onesAt (p.1 - off) p.2 else m) 0
    bad := 0 }

/-- Bytes written to a scratchpad, granule by granule; bytes that could not be read keep their values. -/
def Core.spPut (c : Core) (off n : Nat) (b : Blk) : Core :=
  (pieces 8 (n / 8 + 2) off n).foldl
    (fun c p =>
      let i := p.1 - off
      let bad := (b.bad >>> i) % 2 ^ p.2
      let psn := decide ((b.psn >>> i) % 2 ^ p.2 ≠ 0)
      if bad = 0 then c.spWrite p.1 p.2 (bytesOf b.x i p.2) psn
      else
        (List.range p.2).foldl
          (fun c j => if bad.testBit j then c else c.spWrite (p.1 + j) 1 (bytesOf b.x (i + j) 1) psn) c) c

/-- The same write upon captured contents. -/
def putBlk (m : FMap Byte × FMap Bool) (off n : Nat) (b : Blk) : FMap Byte × FMap Bool :=
  (pieces 8 (n / 8 + 2) off n).foldl
    (fun m p =>
      let i := p.1 - off
      let psn := decide ((b.psn >>> i) % 2 ^ p.2 ≠ 0)
      if (b.bad >>> i) % 2 ^ p.2 = 0 then (writeBytes m.1 p.1 p.2 (bytesOf b.x i p.2), markSpPoison m.2 p.1 p.2 psn)
      else
        (List.range p.2).foldl
          (fun m j => if b.bad.testBit (i + j) then m
            else (writeBytes m.1 (p.1 + j) 1 (bytesOf b.x (i + j) 1), markSpPoison m.2 (p.1 + j) 1 psn)) m) m

/-! ## Global memory -/

/-- A read of `n` bytes at a place within a page by an agent of partition `p`, with the poison of its 64-byte flits or of the fabric's answer; `none`
when it is aborted.  Poison that would come from another partition is stopped at the gate, and recorded there (17 R333). -/
def State.placeBlk (s : State) (p : Nat) (a : PAddr) (n : Nat) : State × Option Blk :=
  match a with
  | .stack pa =>
    let psn := (pieces 64 (n / 64 + 2) pa.toNat n).foldl
      (fun m p => if s.inp.extPsn || s.ordPoisoned p.1 p.2 then m ||| onesAt (p.1 - pa.toNat) p.2 else m) 0
    if s.stackDown (pa.toNat / 2 ^ 36) then (s, none)
    else if psn ≠ 0 ∧ s.crosses p pa.toNat = true then (s.gateStops pa.toNat, none)
    else (s.sawArray pa.toNat n, some { x := s.ordRead pa.toNat n, psn := psn, bad := 0 })
  | .fabric _ _ =>
    (s, match s.readAt p a n with
      | .val x => some { x := x, psn := 0, bad := 0 }
      | .psn x _ => some { x := x, psn := onesAt 0 n, bad := 0 }
      | _ => none)

/-- Bytes of a flit written at a physical address; those that could not be read are left alone. -/
def State.putFlit (s : State) (pa n x bad : Nat) (psn : Bool) : State :=
  if bad = 0 then s.physWrite pa n x psn
  else (List.range n).foldl (fun s j => if bad.testBit j then s else s.physWrite (pa + j) 1 (bytesOf x j 1) psn) s

/-- A write at a place within a page, flit by flit; `false` when it, or a poisoned flit of it that a gate stops, is aborted. -/
def State.putPlace (s : State) (p : Nat) (a : PAddr) (n : Nat) (b : Blk) : State × Bool :=
  match a with
  | .stack pa =>
    if s.stackDown (pa.toNat / 2 ^ 36) then (s, false)
    else
      (pieces 64 (n / 64 + 2) pa.toNat n).foldl
        (fun (acc : State × Bool) q =>
          let i := q.1 - pa.toNat
          let psn := decide ((b.psn >>> i) % 2 ^ q.2 ≠ 0)
          if psn && acc.1.crosses p q.1 then (acc.1.gateStops q.1, false)
          else (acc.1.putFlit q.1 q.2 (bytesOf b.x i q.2) ((b.bad >>> i) % 2 ^ q.2) psn, acc.2)) (s, true)
  | .fabric fid ra => (s, !s.fabricAborts fid ra)

/-- An engine access aborted by a bulkhead held in reset (17 R336): 0x0602 at the engine, and its task is killed. -/
def State.engineLost (s : State) (c : BitVec 8) (unit : Nat) (a : PAddr) : State := match a with
  | .stack pa =>
    if s.stackDown (pa.toNat / 2 ^ 36) then (s.coreError c unit { cls := 3, code := 0x0602, atype := 2, addr := pa.toNat }).killCore c 0x0602 else s
  | .fabric _ _ => s

/-- The deferred code of a translation failure (18 R351). -/
def deferredCode (n : Nat) : BitVec 16 := BitVec.ofNat 16 (0x1800 + n)

/-- A global read by unit `u` of core `c`, page by page: bytes of a page that fails are not read (18 R350). -/
def State.globalBlk (s : State) (c : BitVec 8) (u va n : Nat) : State × Blk × EngFault :=
  (pieces (2 ^ 14) (n / 2 ^ 14 + 2) va n).foldl
    (fun (acc : State × Blk × EngFault) p =>
      let (s, b, f) := acc
      let i := p.1 - va
      let fail (s : State) (n : Nat) : State × Blk × EngFault :=
        (s, { b with bad := b.bad ||| onesAt i p.2 }, f.first (some (deferredCode n, BitVec.ofNat 64 p.1)))
      match s.xlateCore c .read p.1 with
      | .ok a =>
        match s.placeBlk (s.partOfCore c) a p.2 with
        | (s, some q) => (s, { x := b.x + q.x <<< (8 * i), psn := b.psn ||| q.psn <<< i, bad := b.bad }, f)
        | (s, none) => fail (s.engineLost c u a) 4
      | .fault n => fail s n
      | .stopped pa => fail (s.gateStops pa) 4
      | .held => (s.waits, b, f)
      | .poison pa => (s.walkPoison c pa, { b with bad := b.bad ||| onesAt i p.2 }, f))
    (s, { x := 0, psn := 0, bad := 0 }, none)

/-- A global write by unit `u`. -/
def State.globalPut (s : State) (c : BitVec 8) (u va n : Nat) (b : Blk) : State × EngFault :=
  (pieces (2 ^ 14) (n / 2 ^ 14 + 2) va n).foldl
    (fun (acc : State × EngFault) p =>
      let (s, f) := acc
      let i := p.1 - va
      let part : Blk := { x := bytesOf b.x i p.2, psn := (b.psn >>> i) % 2 ^ p.2, bad := (b.bad >>> i) % 2 ^ p.2 }
      let fail (n : Nat) : EngFault := f.first (some (deferredCode n, BitVec.ofNat 64 p.1))
      if part.bad = 2 ^ p.2 - 1 then (s, f)
      else
        match s.xlateCore c .write p.1 with
        | .ok a =>
          let (s, done) := s.putPlace (s.partOfCore c) a p.2 part
          (if done then s else s.engineLost c u a, if done then f else fail 4)
        | .fault n => (s, fail n)
        | .stopped pa => (s.gateStops pa, fail 4)
        | .held => (s.waits, f)
        | .poison pa => (s.walkPoison c pa, f))
    (s, none)

/-- The first page of a global range that an access does not reach: how it fails, and where. -/
def State.unreached (s : State) (c : BitVec 8) (want : Want) (va n : Nat) : Option (Xlat × Nat) :=
  (pieces (2 ^ 14) (n / 2 ^ 14 + 2) va n).findSome? fun p => match s.xlateCore c want p.1 with
    | .ok _ => none
    | x => some (x, p.1)

/-- A row of a scatter written to global memory: all of it, or nothing (10 R221). -/
def State.globalRowPut (s : State) (c : BitVec 8) (va n : Nat) (b : Blk) : State × EngFault :=
  match s.unreached c .write va n with
  | some (.fault f, a) => (s, some (deferredCode f, BitVec.ofNat 64 a))
  | some (.poison pa, _) => (s.walkPoison c pa, none)
  | some (.stopped pa, a) => (s.gateStops pa, some (deferredCode 4, BitVec.ofNat 64 a))
  | some (.held, _) => (s.waits, none)
  | _ =>
    let r := s.globalPut c 2 va n b
    if r.2.isSome then (s, r.2) else r

/-! ## Spaces (06 R128, 10 R217) -/

/-- The core whose scratchpad space 0 or 2 names. -/
def spaceCore (c : BitVec 8) (sp peer : Nat) : BitVec 8 := if sp = 2 then peerCore c peer else c

/-- An address in a space, rows of a block apart: global addresses are counted modulo 2^64. -/
def rowAddr (a : Nat) (pitch : Int) (i : Nat) : Nat := wrapTo 64 ((a : Int) + i * pitch)

/-- A read by an operation. -/
def State.spaceBlk (s : State) (c : BitVec 8) (o : EngineOp) (sp peer a n : Nat) : State × Blk × EngFault :=
  if sp = 1 then s.globalBlk c 2 a n
  else
    let (m, p) := if sp = 0 then (s.core c).source o else ((s.core (peerCore c peer)).pool.sp, (s.core (peerCore c peer)).pool.psn)
    (s, spBlk m p a n, none)

/-- A write by an operation. -/
def State.spacePut (s : State) (c : BitVec 8) (sp peer a n : Nat) (b : Blk) : State × EngFault :=
  if sp = 1 then s.globalPut c 2 a n b else (s.updCore (spaceCore c sp peer) fun x => x.spPut a n b, none)

/-! ## Copies (10 R218) -/

/-- A row of a copy as it reaches a destination: what crosses the mesh may have been struck there. -/
def EngineOp.rowAt (o : EngineOp) (i n : Nat) (r : Blk) (sp : Nat) : Blk := if sp = 0 then r else r.struck (o.badBytes i n)

/-- Row `i` of a copy written to each of its destinations. -/
def State.putRow (s : State) (c : BitVec 8) (o : EngineOp) (i a n : Nat) (r : Blk) (dests : List (Nat × Nat)) (f : EngFault) : State × EngFault :=
  dests.foldl
    (fun (acc : State × EngFault) d =>
      let (s, f2) := acc.1.spacePut c d.1 d.2 a n (o.rowAt i n r d.1)
      (s, acc.2.first f2)) (s, f)

/-- Captured source contents once bytes have been written to a space: what is read later and overlaps them is read as written (10 R218, R221). -/
def EngineOp.rewritten (o : EngineOp) (c : BitVec 8) (sp peer a n : Nat) (r : Blk) : EngineOp :=
  if sp ≠ 1 ∧ spaceCore c sp peer = c then { o with cap := o.cap.map fun m => putBlk m a n r } else o

/-- The rows of a copy, moved one after another in ascending order; a row read goes to each of the listed destinations. -/
def State.moveRows (s : State) (c : BitVec 8) (o : EngineOp) (x : CopyDesc) (a b : Nat) (dests : List (Nat × Nat)) : State × EngFault :=
  ((List.range x.rows).foldl
    (fun (acc : (State × EngFault) × EngineOp) i =>
      let (s, r, f) := acc.1.1.spaceBlk c acc.2 x.fromSp x.peer (rowAddr a x.fromPitch i) x.width
      let r := o.rowAt i x.width r x.fromSp
      let at_ := rowAddr b x.toPitch i
      (s.putRow c o i at_ x.width r dests (acc.1.2.first f),
        dests.foldl (fun p d => p.rewritten c d.1 d.2 at_ x.width (o.rowAt i x.width r d.1)) acc.2))
    ((s, none), o)).1

/-- The bytes of a FILL's row: byte b is byte b mod 4 of the pattern. -/
def fillRow (pat w : Nat) : Nat := (List.range ((w + 3) / 4)).foldl (fun x i => x + pat <<< (32 * i)) 0 % 256 ^ w

/-- The global places that a copy, fill or bulk move reads, and those it writes, as translated now. -/
def State.copyPlaces (s : State) (c : BitVec 8) (o : EngineOp) : List Spot × List Spot :=
  let x := copyDesc o.snap.d
  let a := inSpace x.fromSp o.snap.s1
  let b := inSpace x.toSp o.snap.s2
  if o.name = .bulk then
    let n := descField o.snap.d 2 47 0
    (s.rangePlaces c .read a n, s.rangePlaces c .write b n)
  else
    ((List.range (if x.fromSp = 1 then x.rows else 0)).flatMap fun i => s.rangePlaces c .read (rowAddr a x.fromPitch i) x.width,
     (List.range (if x.toSp = 1 then x.rows else 0)).flatMap fun i => s.rangePlaces c .write (rowAddr b x.toPitch i) x.width)

/-- The place of an operation's global beacon. -/
def State.beaconPlaces (s : State) (c : BitVec 8) (o : EngineOp) : List Spot :=
  let d := o.snap.d
  if descField d 0 13 8 = 0 ∨ descField d 0 15 14 = 1 then [] else s.rangePlaces c .write o.snap.bcn.toNat 8

/-- The work of a copy, a fill or a bulk move. -/
def State.runCopy (s : State) (c : BitVec 8) (o : EngineOp) : State × EngFault :=
  let x := copyDesc o.snap.d
  let a := inSpace x.fromSp o.snap.s1
  let b := inSpace x.toSp o.snap.s2
  match o.name with
  | .fill =>
    let row : Blk := { x := fillRow (descField o.snap.d 2 63 32) x.width, psn := 0, bad := 0 }
    (List.range x.rows).foldl
      (fun (acc : State × EngFault) i =>
        let (s, f) := acc.1.spacePut c x.toSp x.peer (rowAddr b x.toPitch i) x.width (o.rowAt i x.width row x.toSp)
        (s, acc.2.first f))
      (s, none)
  | .bulk =>
    let n := descField o.snap.d 2 47 0
    let (s, r, f) := s.globalBlk c 4 a n
    let (s, g) := s.globalPut c 4 b n (r.struck (o.badBytes 0 n))
    (s, f.first g)
  | .cpym =>
    s.moveRows c o x a b ((0, 0) :: ((List.range 4).filter fun p => x.mcast.testBit p && decide (p ≠ posOf c)).map fun p => (2, p))
  | _ => s.moveRows c o x a b [(x.toSp, x.peer)]

/-! ## Completion (10 R216, R240, 18 R350) -/

/-- The class of an operation's phase arrivals: 0 copies, 1 packets, 2 bank operations. -/
def arrivalClass : OpName → Nat
  | .rpkX => 1
  | .rpkF => 1
  | .bankld => 2
  | .bankgo => 2
  | _ => 0

/-- One arrival: class 3 is STORES. -/
def Colour.arrive (p : Colour) (cls : Nat) : Colour :=
  if cls = 0 then { p with copies := p.copies + 1 }
  else if cls = 1 then { p with packets := p.packets + 1 }
  else if cls = 2 then { p with banks := p.banks + 1 }
  else { p with stores := p.stores + 1 }

def Ctx.arrive (x : Ctx) (col : BitVec 2) (cls : Nat) : Ctx := x.setColour col ((x.colour col).arrive cls)

/-- Whether an operation belongs to its member's open segment. -/
def Core.inSegment (k : Core) (o : EngineOp) : Bool := k.prot && k.seg.openSeg && decide (k.seg.first ≤ o.id)

/-- An arrival at a core: an operation from outside its open segment arrives in the checkpoint as well, since no rerun brings it again (19 R369). -/
def Core.arrive (k : Core) (col : BitVec 2) (cls : Nat) (own : Bool) : Core :=
  { k with
    ctx := k.ctx.arrive col cls
    seg := if own then k.seg else { k.seg with ck := k.seg.ck.map fun x => (x.1.arrive col cls, x.2) } }

/-- The arrivals of a completed operation: to the issuer's own count, and to the peers it wrote (10 R240). -/
def State.arrivals (s : State) (c : BitVec 8) (o : EngineOp) : State :=
  let col : BitVec 2 := BitVec.ofNat 2 (descField o.snap.d 0 36 35)
  let x := copyDesc o.snap.d
  let at_ (s : State) (d : BitVec 8) (cls : Nat) : State := s.updCore d fun k => k.arrive col cls (decide (d = c) && k.inSegment o)
  if col.toNat < 2 then s
  else if o.name = .cpy ∧ x.toSp = 2 then at_ s (peerCore c x.peer) 3
  else if o.name = .cpym then
    ((List.range 4).filter fun p => x.mcast.testBit p && decide (p ≠ posOf c)).foldl (fun s p => at_ s (peerCore c p) 3) (at_ s c 0)
  else at_ s c (arrivalClass o.name)

/-- The unit that runs an operation (17 R326): 1 bag array, 2 copy units, 3 memory port, 4 a bulk engine.  A BULK instruction uses one of the core's own
compute bulkhead, never one of a link bulkhead in BMASK: 10 R218 leaves it open (DESIGN CHOICE, log 49). -/
def OpName.unit : OpName → Nat
  | .cpy => 2
  | .cpym => 2
  | .fill => 2
  | .bulk => 4
  | .gath => 2
  | .scat => 2
  | .rpkX => 3
  | .rpkF => 3
  | .bankld => 3
  | .bankgo => 3
  | _ => 1

/-- A 64-bit add to a global beacon for an operation, poison that it combines being consumed; the fault to be deferred when it is aborted. -/
def State.beaconAdd (s : State) (c : BitVec 8) (o : EngineOp) (a : PAddr) (inc : Nat) : State × EngFault :=
  let (psn, addr) := match a with
    | .stack pa => (s.physPoisoned pa.toNat 8, pa.toNat)
    | .fabric _ _ => (false, 0)
  let (s, done) := s.addAt a inc
  if !done then (s.engineLost c o.name.unit a, some (deferredCode 4, o.snap.bcn))
  else (if psn then s.consume c o.name.unit 2 addr else s, none)

/-- The beacon add of a completed operation, with a fault that is to be deferred instead; in an open segment a global add is held until the segment
commits (19 R367). -/
def State.beacon (s : State) (c : BitVec 8) (o : EngineOp) : State × EngFault :=
  let d := o.snap.d
  let inc := descField d 0 31 16
  if descField d 0 13 8 = 0 then (s, none)
  else if descField d 0 15 14 = 1 then
    let off := o.snap.bcn.toNat % 2 ^ 23
    let k := s.core c
    let psn := k.spPoisoned off 8
    let s := s.setCore c (k.spWrite off 8 ((k.spRead off 8 + inc) % 2 ^ 64) psn)
    (if psn then s.consume c o.name.unit 3 off else s, none)
  else
    match s.xlateCore c .write o.snap.bcn.toNat with
    | .fault n => (s, some (deferredCode n, o.snap.bcn))
    | .stopped pa => (s.gateStops pa, some (deferredCode 4, o.snap.bcn))
    | .held => (s.waits, none)
    | .poison pa => (s.walkPoison c pa, none)
    | .ok a =>
      if (s.core c).inSegment o then
        (s.updCore c fun k => { k with seg := { k.seg with hold := k.seg.hold ++ [.beacon o.id a (BitVec.ofNat 64 inc)] } }, none)
      else s.beaconAdd c o a inc

/-- A change of an operation. -/
def Core.updOp (c : Core) (id : Nat) (f : EngineOp → EngineOp) : Core := { c with ops := c.ops.map fun o => if o.id = id then f o else o }

/-- The context once an operation's token completes: its flags and vector results arrive. -/
def Ctx.leaveOp (x : Ctx) (o : EngineOp) : Ctx := (o.late.foldl Ctx.write (x.orFlags o.flags)).completeToken o.tok o.id

/-- An item of the pool as one number, by kind as opItems names it: a window row, a tile, a plane or a codebook. -/
def Pool.itemBits (p : Pool) (kind i : Nat) : Nat :=
  let pack (n w : Nat) (f : Nat → Nat) : Nat := (List.range n).foldr (fun j x => f j + x <<< w) 0
  match kind with
  | 0 => pack 128 192 fun n => (mapGet Init.window p.win (128 * i + n)).bits
  | 1 => pack 16384 16 fun j => (mapGet 0 p.tile (16384 * i + j)).toNat
  | 2 => pack 16384 16 fun j => (mapGet 0 (if i = 0 then p.active else p.shadow) j).toNat
  | _ => pack 256 32 fun j => (mapGet 0 p.code (256 * i + j)).toNat

/-- A landing row as one number. -/
def LandRow.bits (l : LandRow) : Nat := readBytes l.data 0 512 + (l.state.toNat + 4 * l.tag.toNat + 2 ^ 18 * l.pos.toNat) * 256 ^ 512

/-- What an operation has written to its own pool, by place: scratchpad ranges by offset, then items, then landing rows (19 R364). -/
def Core.wroteData (c : Core) (o : EngineOp) : List (Nat × Nat) :=
  let items := if o.port = 3 then (opItems c.ctx.pw o).filter fun x => x.2.2.2 else []
  let n := if o.name = .gath then (gatherDesc o.snap.d).nent else 0
  ((c.sb.filter fun e => decide (e.op = o.id) && e.dest).map fun e => (e.lo, readBytes c.pool.sp e.lo (e.hi + 1 - e.lo)))
    ++ (items.flatMap fun x => (upFrom x.2.1 (x.2.2.1 + 1 - x.2.1)).map fun i => (2 ^ 32 * (x.1 + 1) + i, c.pool.itemBits x.1 i))
    ++ (upFrom (gatherDesc o.snap.d).row0 n).map fun r => (2 ^ 40 + r, (mapGet Init.landRow c.pool.land r).bits)

def Core.wrote (c : Core) (o : EngineOp) : Wrote :=
  { name := o.name, snap := o.snap, tok := o.tok, flags := o.flags, late := o.late, data := c.wroteData o }

/-- An operation leaves its core: its scoreboard entries retire, its flags and vector results arrive and its token completes, which in protected mode the
next signature sees (19 R364).  One from before the open segment leaves the checkpoint as well (19 R369). -/
def Core.leaveOp (c : Core) (o : EngineOp) : Core :=
  { c with
    ops := c.ops.filter fun p => decide (p.id ≠ o.id)
    sb := c.sb.filter fun e => decide (e.op ≠ o.id)
    ctx := c.ctx.leaveOp o
    seg := { c.seg with
      done := if c.prot then c.seg.done ++ [c.wrote o] else c.seg.done
      ck := if c.inSegment o then c.seg.ck else c.seg.ck.map fun x => (x.1.leaveOp o, x.2) } }

/-- An operation whose beacon add is held has done its work: its entries retire, and its token waits for the add (10 R216, 19 R367). -/
def Core.waitBeacon (c : Core) (o : EngineOp) : Core :=
  { c.updOp o.id fun o => { o with done := true, held := true } with sb := c.sb.filter fun e => decide (e.op ≠ o.id) }

/-- Whether an operation's beacon add is held. -/
def Core.beaconHeld (c : Core) (id : Nat) : Bool := c.seg.hold.any fun h => match h with
  | .beacon i _ _ => decide (i = id)
  | _ => false

/-- The end of an operation once its beacon add has performed: its arrivals and its token; with a fault, no arrival, and the fault becomes pending
(18 R350). -/
def State.leaveOp (s : State) (c : BitVec 8) (o : EngineOp) (f : EngFault) : State :=
  match f with
  | none => (s.arrivals c o).updCore c fun k => k.leaveOp o
  | some (code, tval) =>
    let tok := if mapGet none (s.core c).ctx.k o.tok = some o.id then o.tok else 0
    let d : Deferred := { code := code, port := o.port, tval := tval, seq := o.id, tok := tok, op := o.id }
    let keep (g : Segment) : Segment :=
      if (s.core c).inSegment o then g else { g with ck := g.ck.map fun x => ({ x.1 with deferred := x.1.deferred ++ [d] }, x.2) }
    (s.updCore c fun k => let k := k.leaveOp o; { k with seg := keep k.seg }).deferFault c d

/-- The completion of an operation: its beacon add, arrivals and token (10 R216); with a fault, no add and no arrival (18 R350). -/
def State.completeOp (s : State) (c : BitVec 8) (o : EngineOp) (f : EngFault) : State :=
  match f with
  | some _ => s.leaveOp c o f
  | none =>
    let (s, f) := s.beacon c o
    if (s.core c).beaconHeld o.id then s.updCore c fun k => k.waitBeacon o else s.leaveOp c o f

/-- The operation with a number. -/
def Core.op (c : Core) (id : Nat) : Option EngineOp := c.ops.find? fun o => decide (o.id = id)

/-- Whether an operation may start: it is not held.  No earlier access of the sequencer is in ppo with it (11 R263). -/
def Core.mayStart (_ : Core) (o : EngineOp) : Bool := !o.held

end Sys2Proof.Machine
end

