-- ==== Sys2Proof/Machine/Array.lean ====
section
/-! DEFINITION. The bag array at work: the items its operations touch and their order, planes, streamed rows, bags, window rows, readouts and tile moves (09 R189-R213, 19 R372). -/

namespace Sys2Proof.Machine

/-! ## Order (09 R192, 21 R398) -/

/-- Whether an item of one list is an item of the other. -/
def itemsMeet (a b : List (Nat × Nat × Nat × Bool)) : Bool :=
  a.any fun x => b.any fun y => decide (x.1 = y.1) && decide (x.2.1 ≤ y.2.2.1) && decide (y.2.1 ≤ x.2.2.1)

/-- An operation may access its items: every earlier operation that writes one of them has completed, every earlier one that reads an item it
writes has ended its occupancy, and on the stream every earlier one has streamed its rows.  The row after an MSWAP enters in the next beat (R200). -/
def Core.bagReady (c : Core) (o : EngineOp) : Bool :=
  let pw := c.ctx.pw
  let mine := opItems pw o
  c.mayStart o && c.ops.all fun p =>
    decide (o.id ≤ p.id) || decide (p.port ≠ 3) ||
      (let theirs := opItems pw p
       (!(itemsMeet (theirs.filter fun x => x.2.2.2) mine) || (decide (p.name = .mswap) && o.name.streams && p.done))
         && ((p.done && decide (p.occ = 0)) || (!(itemsMeet theirs (mine.filter fun x => x.2.2.2)) && !(p.name.streams && o.name.streams))))

/-! ## Poisoned items (17 R332) -/

/-- The granules of the first `n` rows of a tile, of window rows, and of the planes, as Pool.bad names them: kind, first and last. -/
def tileGranules (t n : Nat) : Nat × Nat × Nat := (1, 4096 * t, 4096 * t + 32 * n - 1)
def windowGranules (w n : Nat) : Nat × Nat × Nat := (0, 384 * w, 384 * (w + n) - 1)
def activeGranules : Nat × Nat × Nat := (2, 0, 4095)
def shadowGranules : Nat × Nat × Nat := (2, 4096, 8191)
def codeGranules (b : Nat) : Nat × Nat × Nat := (3, 128 * b, 128 * b + 127)

/-- Whether an item is one of a list. -/
def itemIn (b : Nat × Nat) (l : List (Nat × Nat × Nat)) : Bool := l.any fun x => decide (x.1 = b.1 ∧ x.2.1 ≤ b.2 ∧ b.2 ≤ x.2.2)

/-! ## Storage -/

/-- A span of register banks 0-3, by offset, is written (03 R412, 19 R366). -/
def Core.logSpan (c : Core) (off n : Nat) : Core := (upFrom (off / 128) ((off + n + 127) / 128 - off / 128)).foldl (fun c l => c.logLine 1 l) c

def Core.tileElem (c : Core) (t j m : Nat) : BitVec 16 := mapGet 0 c.pool.tile (16384 * t + 128 * j + m)

/-- Row `j` of a tile written, element m being `f m`. -/
def Core.setTileRow (c : Core) (t j : Nat) (f : Nat → BitVec 16) : Core :=
  let c := c.logSpan (0x8000 * t + 256 * j) 256
  { c with pool := { c.pool with tile := (List.range 128).foldl (fun x m => mapSet 0 x (16384 * t + 128 * j + m) (f m)) c.pool.tile } }

def Core.window (c : Core) (w n : Nat) : Window := mapGet Init.window c.pool.win (128 * w + n)
def Core.anchor (c : Core) (w : Nat) : Int := mapGet 0 c.pool.anchor w

/-- The residue of an accumulator after VAL has moved: each term adds its residue and each carry subtracts 1, which together add VAL's change
modulo 255, since 2^184 leaves 1 (19 R372). -/
def residueAfter (r : Nat) (old new : BitVec 184) : Nat := (r + new.toNat % 255 + 255 - old.toNat % 255) % 255

/-- A window row is to be written: its 24 lines. -/
def Core.logRow (c : Core) (w : Nat) : Core := (List.range 24).foldl (fun c i => c.logLine 2 (24 * w + i)) c

/-- Every accumulator of row `w` changed by additions. -/
def Core.updRow (c : Core) (w : Nat) (f : Nat → Window → Window) : Core :=
  (List.range 128).foldl
    (fun c n =>
      let old := c.window w n
      let new := f n old
      { c with
        pool := { c.pool with
          win := mapSet Init.window c.pool.win (128 * w + n) new
          resid := mapUpd 0 c.pool.resid (128 * w + n) fun r => residueAfter r old.val new.val } })
    (c.logRow w)

/-- Row `w` zeroed under an anchor (09 R208). -/
def Core.zeroRow (c : Core) (w : Nat) (a : Int) : Core :=
  let c := (c.logRow w).logSpan (0x51000 + 2 * w) 2
  (List.range 128).foldl
    (fun c n =>
      { c with
        pool := { c.pool with
          win := mapSet Init.window c.pool.win (128 * w + n) Window.zeroed, resid := mapSet 0 c.pool.resid (128 * w + n) 0 } })
    { c with pool := { c.pool with anchor := mapSet 0 c.pool.anchor w a } }

/-- Whether a residue of row `w` disagrees with VAL. -/
def Core.residueBad (c : Core) (w : Nat) : Bool :=
  (List.range 128).any fun n => decide (mapGet 0 c.pool.resid (128 * w + n) ≠ (c.window w n).val.toNat % 255)

/-! ## Operands (09 R190, R196, R201) -/

/-- The scratchpad an M operation reads: its own, or its peer's through the quad window. -/
def State.opSource (s : State) (c : BitVec 8) (o : EngineOp) : FMap Byte × FMap Bool :=
  let m := matDesc o.snap.d
  if m.qwin then
    let p := (s.core (peerCore c m.peer)).pool
    (p.sp, p.psn)
  else (s.core c).source o

/-- The first poisoned granule that rows touch. -/
def rowsPoison (psn : FMap Bool) (rows : List (Nat × Nat)) : Option Nat :=
  if psn.isEmpty then none
  else
    (rows.find? fun r => (upFrom (r.1 / 8) ((r.1 + r.2 + 7) / 8 - r.1 / 8)).any fun i => mapGet false psn i).map (·.1)

/-- Element `m` of a scratchpad row of a format. -/
def spElem (sp : FMap Byte) (a : Nat) (t : Tag) (m : Nat) : Nat := readBytes sp (a + m * elemBytes t) (elemBytes t)

/-- An activation under its block scale (09 R201). -/
def scaled (x : Num) (b : Nat) : Num := if b = 0xFF then .nan false else x.scale ((b : Int) - 127)

/-- A weight as a plane holds it (03 R412). -/
def planeWeight (t : Tag) (w : BitVec 16) : Num :=
  if isK8 t then
    let x := signedOf 6 (fieldOf w.toNat 5 0)
    let sc := fieldOf w.toNat 15 8
    if sc = 0xFF then .nan false
    else if x = 0 then .fin (w.getLsbD 6) 0 0
    else .fin (decide (x < 0)) x.natAbs ((sc : Int) - 128)
  else Fmt.num t (w.toNat % 2 ^ Fmt.width t)

/-- The entry that holds weight `i` of a K8 code (03 R412, 04 R100). -/
def k8Entry (code : BitVec 16) (entry : BitVec 32) (scale : Nat) (i : Nat) : BitVec 16 :=
  let sgn (j : Nat) : Bool := code.getLsbD (1 + j)
  let neg := if i < 7 then sgn i else (List.range 7).foldl (fun acc j => acc != sgn j) false
  let half := code.getLsbD 0
  let m := fieldOf entry.toNat (4 * i + 3) (4 * i)
  let x : Int := (if neg then -(m : Int) else m) + (if half then 1 else 0)
  BitVec.ofNat 16 (wrapTo 6 x + (if x = 0 ∧ half = false ∧ neg = true then 64 else 0) + scale % 256 * 256)

/-- The entry that holds a weight of another format: a BF16 subnormal is the zero of its sign (04 R92). -/
def plainEntry (t : Tag) (x : Nat) : BitVec 16 :=
  BitVec.ofNat 16 (if t = Fmt.bf16 ∧ x / 2 ^ 7 % 256 = 0 then x / 2 ^ 15 % 2 * 2 ^ 15 else x % 2 ^ Fmt.width t)

/-- Row `r` of the active plane's products with activations, added to a window of column `n`. -/
def addProducts (pool : Pool) (a : Int) (xs : List Num) (n : Nat) (w : Window) : Window :=
  (xs.foldl (fun (acc : Window × Nat) x =>
    (acc.1.add a (term x (planeWeight pool.afmt (mapGet 0 pool.active (128 * acc.2 + n)))), acc.2 + 1)) (w, 0)).1

/-- Streamed row `j` of a multiply: the 128 activations, scaled. -/
def State.streamed (s : State) (c : BitVec 8) (o : EngineOp) (j : Nat) : List Num :=
  let m := matDesc o.snap.d
  let sp := (s.opSource c o).1
  let own := ((s.core c).source o).1
  (List.range 128).map fun k =>
    let x := if m.opt then ((s.core c).tileElem m.treg j k).toNat % 2 ^ Fmt.width m.afmt
      else spElem sp (streamRow o.snap.s1 o.snap.s2 j) m.afmt k
    let v := Fmt.num m.afmt x
    if m.blk then scaled v (byteAt own (o.snap.s3.toNat + 4 * j + k / 32)).toNat else v

/-- The bitmap word of streamed row `j`. -/
def Core.bitmapWord (c : Core) (o : EngineOp) (j : Nat) : Nat := readBytes (c.source o).1 (o.snap.s4.toNat + 2 * (j / 8)) 2

/-- One streamed row of a multiply added to its window row; a marked element's term is +0 (09 R202, R203). -/
def State.mulRow (s : State) (c : BitVec 8) (o : EngineOp) (j : Nat) : State :=
  let m := matDesc o.snap.d
  let k := s.core c
  let xs := s.streamed c o j
  let r := m.arow + j
  let a := k.anchor r
  let word := if o.name = .mmuls then k.bitmapWord o j else 0
  let ks := List.range 128
  let live := ks.filter fun i => !word.testBit (i / 8)
  let marked := 128 - live.length
  let terms (n : Nat) : List Num := live.map fun i => term (xs.getD i (Num.fin false 0 0)) (planeWeight k.pool.afmt (mapGet 0 k.pool.active (128 * i + n)))
  s.setCore c (k.updRow r fun n w => ((terms n) ++ List.replicate marked (Num.fin false 0 0)).foldl (fun w q => w.add a q) w)

/-- The element blocks of streamed row `j` that are read as terms: those that no bitmap marks (09 R203). -/
def Core.termBlocks (c : Core) (o : EngineOp) (j : Nat) : List Nat :=
  if o.name = .mmuls then (List.range 16).filter fun b => !(c.bitmapWord o j).testBit b else List.range 16

/-- The scratchpad bytes a multiply reads as terms, for their poison. -/
def Core.mulReads (c : Core) (o : EngineOp) : List (Nat × Nat) :=
  let m := matDesc o.snap.d
  let n := 8 * elemBytes m.afmt
  if m.opt then [] else (List.range m.nrow).flatMap fun j => (c.termBlocks o j).map fun b => (streamRow o.snap.s1 o.snap.s2 j + b * n, n)

/-- The side bytes of a multiply: the block scales of its terms, and its bitmap. -/
def Core.mulSides (c : Core) (o : EngineOp) : List (Nat × Nat) :=
  let m := matDesc o.snap.d
  (if m.blk then (List.range m.nrow).flatMap fun j => ((c.termBlocks o j).map (· / 4)).dedup.map fun q => (o.snap.s3.toNat + 4 * j + q, 1) else [])
    ++ (if o.name = .mmuls then [(o.snap.s4.toNat, 2 * ((m.nrow + 7) / 8))] else [])

/-! ## Bags (09 R204-R207, 20 R388, R389) -/

def Core.landed (c : Core) (r : Nat) : LandRow := mapGet Init.landRow c.pool.land r

/-- First landing row of a bag. -/
def bagFirst (o : EngineOp) : Nat := fieldOf o.snap.s1.toNat 15 0

/-- Activations of a landing row. -/
def LandRow.acts (l : LandRow) (t : Tag) : List Num := (List.range 128).map fun k => Fmt.num t (spElem l.data 0 t k)

/-- Whether row `j` of a bag is the next to stream: landed, not yet streamed, and none landed before it is left. -/
def Core.bagNext (c : Core) (o : EngineOp) (j : Nat) : Bool :=
  let first := bagFirst o
  let l := c.landed (first + j)
  decide (j < (matDesc o.snap.d).nrow) && decide (l.state = 1) && !o.rows.contains j &&
    (List.range (matDesc o.snap.d).nrow).all fun i =>
      let k := c.landed (first + i)
      decide (k.state ≠ 1) || o.rows.contains i || decide (i = j) || decide (l.ord < k.ord)
        || (decide (l.ord = k.ord) && decide (l.pos.toNat ≤ k.pos.toNat))

/-- The winner of a window row so far. -/
def winnerOf (o : EngineOp) (r : Nat) : Option Nat := (o.winners.find? fun x => decide (x.1 = r)).map (·.2)

/-- A row of a bag replaces its window row, when it wins (09 R206). -/
def Core.steer (c : Core) (o : EngineOp) (r p : Nat) (f : Nat → Window) : Core :=
  let wins := match winnerOf o r with
    | some q => decide (p < q)
    | none => true
  if wins then
    let c := c.updRow r fun n _ => f n
    let c := { c with pool := { c.pool with bad := c.pool.bad.filter fun b => !itemIn b [windowGranules r 1] } }
    let resid := (List.range 128).foldl (fun x n => mapSet 0 x (128 * r + n) ((c.window r n).val.toNat % 255)) c.pool.resid
    let c := { c with pool := { c.pool with resid := resid } }
    c.updOp o.id fun o => { o with winners := (r, p) :: o.winners.filter fun x => decide (x.1 ≠ r) }
  else c

/-- Cycles between streamed rows (09 R196): one for 8-bit activations and two for 16-bit ones, doubled through the quad window. -/
def streamPeriod (o : EngineOp) : Nat :=
  let m := matDesc o.snap.d
  (if elemBytes m.afmt ≤ 1 then 1 else 2) * (if m.qwin = true ∧ m.opt = false ∧ (o.name = .mmul ∨ o.name = .mmuls) then 2 else 1)

/-- From a row's entry to its operation's token, the entry's own cycle counted (09 R193). -/
def rowTail : Nat := 137

/-- A landed row of tag t and position p is streamed; the next may follow a period later, and the token rowTail cycles later. -/
def Core.streamBag (c : Core) (o : EngineOp) (j : Nat) : Core :=
  let m := matDesc o.snap.d
  let l := c.landed (bagFirst o + j)
  let r := m.arow + l.tag.toNat
  let c := c.updOp o.id fun o => { o with rows := j :: o.rows, occ := streamPeriod o, wait := rowTail }
  let c := if windowRows c.ctx.pw ≤ r then c else c.updOp o.id fun o => { o with touched := r :: o.touched }
  if windowRows c.ctx.pw ≤ r then c
  else
    let a := c.anchor r
    let xs := l.acts m.afmt
    let pool := c.pool
    if o.name = .mbagSteer then c.steer ((c.op o.id).getD o) r l.pos.toNat fun n => addProducts pool a xs n Window.zeroed
    else c.updRow r fun n w => addProducts pool a xs n w

/-- Whether a bag is complete: every row landed and streamed, padding or accounted. -/
def Core.bagComplete (c : Core) (o : EngineOp) : Bool :=
  (List.range (matDesc o.snap.d).nrow).all fun j =>
    let l := c.landed (bagFirst o + j)
    decide (2 ≤ l.state.toNat) || (decide (l.state = 1) && o.rows.contains j)

/-- The rows a gather accounted under POISON, whose entries could be read, give NaNs (20 R388). -/
def Core.poisonRows (c : Core) (o : EngineOp) : Core :=
  let m := matDesc o.snap.d
  (List.range m.nrow).foldl
    (fun c j =>
      let l := c.landed (bagFirst o + j)
      let r := m.arow + l.tag.toNat
      if l.state = 3 ∧ l.psn = true ∧ l.lst = false ∧ r < windowRows c.ctx.pw then
        let c := c.updOp o.id fun o => { o with touched := r :: o.touched }
        if o.name = .mbagSteer then
          c.steer ((c.op o.id).getD o) r l.pos.toNat fun _ => Window.zeroed.add 0 (.nan false)
        else c.updRow r fun _ w => w.add 0 (.nan false)
      else c) c

/-- Rows by entry position, ties in row order. -/
def insertByPos (l : LandRow) : List LandRow → List LandRow
  | [] => [l]
  | k :: ks => if l.pos.toNat < k.pos.toNat then l :: k :: ks else k :: insertByPos l ks

/-- The status record and the report of a bag as one 160-byte number (09 R207, 20 R389). -/
def Core.bagRecord (c : Core) (o : EngineOp) : Nat :=
  let m := matDesc o.snap.d
  let rows := (List.range m.nrow).map fun j => c.landed (bagFirst o + j)
  let tags := (rows.filter fun l => decide (l.state = 1)).map fun l => l.tag.toNat
  let accounted := rows.filter fun l => decide (l.state = 3)
  let steer := decide (o.name = .mbagSteer)
  let coll := if steer then tags.length - tags.dedup.length else 0
  let colltag := if coll = 0 then 0xFFFF else (tags.filter fun t => decide (1 < tags.count t)).foldl min 0xFFFF
  let out := tags.countP fun t => decide (windowRows c.ctx.pw ≤ m.arow + t)
  let pad := rows.countP fun l => decide (l.state = 2)
  let w0 := tags.length + pad <<< 32
  let w1 := coll + colltag <<< 32
  let w2 := out + accounted.length <<< 32
  let report := ((accounted.foldr insertByPos []).take 8).map fun l => readBytes l.data 0 16
  w0 + w1 <<< 64 + w2 <<< 128 + (report.foldr (fun x acc => x + acc <<< 128) 0) <<< 256

/-! ## Readout (09 R210-R212) -/

/-- A readout of row `w`, column `n`. -/
def Core.readout (c : Core) (w n : Nat) (t : Tag) (rnd : BitVec 2) : Flagged Nat := (c.window w n).readout (c.anchor w) t (Mode.ofFrm rnd)

/-- The results of a row, with their flags. -/
def Core.readRow (c : Core) (w : Nat) (t : Tag) (rnd : BitVec 2) : List Nat × FFlags := gatherFlags ((List.range 128).map fun n => c.readout w n t rnd)

/-- MSTAT's three values of a row (09 R212). -/
def Core.rowStat (c : Core) (w : Nat) : Nat × Nat × Nat × FFlags :=
  let ws := (List.range 128).map fun n => c.window w n
  let (fs, f1) := c.readRow w Fmt.fp32 0
  let mx := fs.tail.foldl (fun a b => (fpickElem .fp32 true a b).1) (fs.headD 0)
  let u := ws.tail.foldl Window.merge (ws.headD Init.window)
  let (sm, f2) := u.readout (c.anchor w) Fmt.fp32 .rne
  let total := ws.foldl (fun (a : Nat) w => a + w.val.toInt.natAbs ^ 2) 0
  let (sq, f3) :=
    if ws.any fun w => w.nan || (w.pinf && w.ninf) then (FFmt.nanBits .fp32, (0 : FFlags))
    else if ws.any fun w => w.pinf || w.ninf then (FFmt.infBits .fp32, (0 : FFlags))
    else convert Fmt.fp32 false .rne (.fin false total (2 * c.anchor w))
  (mx, sm, sq, f1 ||| f2 ||| f3)

/-! ## The work of each operation -/

/-- A tile move into a tile register: element [j][m] from the operand's row and column, transposed for MTRL (09 R213). -/
def State.moveTile (s : State) (c : BitVec 8) (o : EngineOp) : State :=
  let m := matDesc o.snap.d
  let sp := (s.opSource c o).1
  let row (j : Nat) : Nat := tileRow o.snap.s1 o.snap.s2 0 j
  let at_ (j n : Nat) : Nat :=
    if isK8 m.afmt then (if j < 16 then readBytes sp (row j + 2 * n) 2 else if j = 16 then (byteAt sp (row 16 + n)).toNat else 0)
    else spElem sp (row j) m.afmt n
  s.updCore c fun k =>
    (List.range 128).foldl (fun k j => k.setTileRow m.otreg j fun n => BitVec.ofNat 16 (if o.name = .mtrl then at_ n j else at_ j n)) k

/-- MLDW's plane (09 R198). -/
def State.decodePlane (s : State) (c : BitVec 8) (o : EngineOp) : State :=
  let m := matDesc o.snap.d
  let sp := (s.opSource c o).1
  let k := s.core c
  let row (j : Nat) : Nat := tileRow o.snap.s1 o.snap.s2 0 j
  let raw (j n : Nat) : Nat := if m.opt then (k.tileElem m.treg j n).toNat
    else if isK8 m.wfmt then (if j = 16 then (byteAt sp (row 16 + n)).toNat else readBytes sp (row j + 2 * n) 2)
    else spElem sp (row j) m.wfmt n
  let tbl := 256 * (m.wfmt.toNat - 12)
  let entry (i n : Nat) : BitVec 16 :=
    if isK8 m.wfmt then
      let code := BitVec.ofNat 16 (raw (i / 8) n)
      k8Entry code (mapGet 0 k.pool.code (tbl + code.toNat / 256)) (raw 16 n % 256) (i % 8)
    else plainEntry m.wfmt (raw i n)
  let plane : FMap (BitVec 16) := (List.range 16384).foldl (fun x q => mapSet 0 x q (entry (q / 128) (q % 128))) []
  s.setCore c { (k.logSpan 0x49000 32768).logSpan 0x40804 1 with pool := { k.pool with shadow := plane, sfmt := m.wfmt } }

/-- Rows written to scratchpad, each with its bytes. -/
def Core.putRows (c : Core) (rows : List (Nat × Nat × Nat)) : Core := rows.foldl (fun c r => c.spWrite r.1 r.2.1 r.2.2 false) c

/-- Elements of `b` bytes packed in ascending order. -/
def packElems (b : Nat) (l : List Nat) : Nat := l.foldr (fun x acc => x % 256 ^ b + acc <<< (8 * b)) 0

/-- The scratchpad bytes an M operation reads: rows of the operand's scratchpad, and ranges of its own. -/
def Core.opReads (c : Core) (o : EngineOp) : List (Nat × Nat) × List (Nat × Nat) :=
  let m := matDesc o.snap.d
  match o.name with
  | .mmul => (c.mulReads o, c.mulSides o)
  | .mmuls => (c.mulReads o, c.mulSides o)
  | .mldw => (if m.opt then [] else tileRows m.wfmt (tileRow o.snap.s1 o.snap.s2 0), [])
  | .mldt => (tileRows m.afmt (tileRow o.snap.s1 o.snap.s2 0), [])
  | .mtrl => (tileRows m.afmt (tileRow o.snap.s1 o.snap.s2 0), [])
  | .mcode => ([], [(fieldOf o.snap.s1.toNat 31 0, 1024)])
  | _ => ([], [])

/-- Rows of a tile that hold a format: 17 of a K8 one (03 R412). -/
def tileRowCount (t : Tag) : Nat := if isK8 t then 17 else 128

/-- Granules of the pool that an operation reads as terms or reads out; of an MMULS those of its unmarked blocks alone (09 R203).  A bag's are judged
row by row.  An MLDW of a K8 format is taken to read its whole table (log 38). -/
def Core.opTerms (c : Core) (o : EngineOp) : List (Nat × Nat × Nat) :=
  let m := matDesc o.snap.d
  match o.name with
  | .mmul => activeGranules :: if m.opt then [tileGranules m.treg m.nrow] else []
  | .mmuls =>
    (List.range m.nrow).flatMap fun j => (c.termBlocks o j).flatMap fun b =>
      (2, 256 * b, 256 * b + 255) :: if m.opt then let g := 4096 * m.treg + 32 * j + 2 * b; [(1, g, g + 1)] else []
  | .mldw =>
    (if isK8 m.wfmt then [codeGranules (m.wfmt.toNat - 12)] else []) ++ if m.opt then [tileGranules m.treg (tileRowCount m.wfmt)] else []
  | .mrd => [windowGranules m.arow m.nrow]
  | .mst => [windowGranules m.arow m.nrow]
  | .mstat => [windowGranules m.arow m.nrow]
  | .mstt => tileGranules m.treg (tileRowCount m.ofmt) :: if is32 m.ofmt then [tileGranules (m.treg + 1) 128] else []
  | _ => []

/-- Granules that an operation overwrites whole. -/
def opFills (o : EngineOp) : List (Nat × Nat × Nat) :=
  let m := matDesc o.snap.d
  match o.name with
  | .mldw => [shadowGranules]
  | .mzero => [windowGranules m.arow m.nrow]
  | .manch => [windowGranules m.arow m.nrow]
  | .mrd => tileGranules m.otreg m.nrow :: if is32 m.ofmt then [tileGranules (m.otreg + 1) m.nrow] else []
  | .mtrl => [tileGranules m.otreg 128]
  | .mldt => [tileGranules m.otreg 128]
  | .mcode => [codeGranules m.tbl]
  | _ => []

/-- The items that hold poison after an operation's work: those it has filled no more, and an exchange takes it along. -/
def badAfter (o : EngineOp) (l : List (Nat × Nat)) : List (Nat × Nat) :=
  (l.filter fun b => !itemIn b (opFills o)).map fun b =>
    if o.name = .mswap ∧ b.1 = 2 then (2, (b.2 + 4096) % 8192) else b

/-- Poison an M operation consumes, at a scratchpad offset, 0 for an item of the pool (17 R332). -/
def State.opPoison (s : State) (c : BitVec 8) (o : EngineOp) : Option Nat :=
  let (a, b) := (s.core c).opReads o
  match rowsPoison (s.opSource c o).2 a with
  | some x => some x
  | none =>
    match rowsPoison ((s.core c).source o).2 b with
    | some x => some x
    | none => if (s.core c).pool.bad.any fun b => itemIn b ((s.core c).opTerms o) then some 0 else none

/-- The work of an M operation, its flags and late results kept with it.  A bag's rows have been streamed before. -/
def State.bagWork (s : State) (c : BitVec 8) (o : EngineOp) : State :=
  let m := matDesc o.snap.d
  let k := s.core c
  let rows := upFrom m.arow m.nrow
  match o.name with
  | .mmul => (List.range m.nrow).foldl (fun s j => s.mulRow c o j) s
  | .mmuls => (List.range m.nrow).foldl (fun s j => s.mulRow c o j) s
  | .mbagAcc =>
    s.setCore c
      (let k := k.poisonRows o
       if descField o.snap.d 3 11 6 = 0 then k else k.spWrite o.snap.s3.toNat 160 (k.bagRecord o) false)
  | .mbagSteer =>
    s.setCore c
      (let k := k.poisonRows o
       if descField o.snap.d 3 11 6 = 0 then k else k.spWrite o.snap.s3.toNat 160 (k.bagRecord o) false)
  | .mswap =>
    s.setCore c
      { (k.logSpan 0x41000 65536).logSpan 0x40804 1 with
        pool := { k.pool with active := k.pool.shadow, shadow := k.pool.active, afmt := k.pool.sfmt, sfmt := k.pool.afmt } }
  | .mldw => s.decodePlane c o
  | .mcode =>
    let off := fieldOf o.snap.s1.toNat 31 0
    let sp := (k.source o).1
    let k := k.logSpan (0x40000 + 0x400 * m.tbl) 1024
    s.setCore c
      { k with
        pool := { k.pool with
          code := (List.range 256).foldl (fun x j => mapSet 0 x (256 * m.tbl + j) (BitVec.ofNat 32 (readBytes sp (off + 4 * j) 4))) k.pool.code } }
  | .mzero => s.setCore c (rows.foldl (fun k w => k.zeroRow w (zeroAnchor m o.snap.qs)) k)
  | .manch => s.setCore c (rows.foldl (fun k w => k.zeroRow w m.anch) k)
  | .maddv =>
    let bias (n : Nat) : Num := Fmt.num o.snap.vtag (elem 32 o.snap.v n)
    s.setCore c (rows.foldl (fun k w => let a := k.anchor w; k.updRow w fun n x => x.add a (bias n)) k)
  | .mrd =>
    let (k, fl) := (List.range m.nrow).foldl
      (fun (acc : Core × FFlags) j =>
        let (ys, f) := acc.1.readRow (m.arow + j) m.ofmt m.rnd
        let lo (n : Nat) : BitVec 16 := BitVec.ofNat 16 (ys.getD n 0)
        let hi (n : Nat) : BitVec 16 := BitVec.ofNat 16 (ys.getD n 0 / 65536)
        let k := acc.1.setTileRow m.otreg j lo
        (if is32 m.ofmt then k.setTileRow (m.otreg + 1) j hi else k, acc.2 ||| f)) (k, 0)
    s.setCore c (k.updOp o.id fun o => { o with flags := o.flags ||| fl })
  | .mst =>
    let b := if is32 m.ofmt then 4 else 2
    let pitch := fieldOf o.snap.s2.toNat 15 0
    let (k, fl) := (List.range m.nrow).foldl
      (fun (acc : Core × FFlags) j =>
        let (ys, f) := acc.1.readRow (m.arow + j) m.ofmt m.rnd
        (acc.1.spWrite (o.snap.s3.toNat + j * pitch) (128 * b) (packElems b ys) false, acc.2 ||| f)) (k, 0)
    s.setCore c (k.updOp o.id fun o => { o with flags := o.flags ||| fl })
  | .mstat =>
    let st := (List.range m.nrow).map fun j => k.rowStat (m.arow + j)
    let fl := st.foldl (fun f x => f ||| x.2.2.2) (0 : FFlags)
    let reg (r : BitVec 64) (l : List Nat) : RegWrite := .v r.toNat (ofLanes (l ++ List.replicate (128 - l.length) 0)) Fmt.fp32
    let late := [reg o.snap.s1 (st.map (·.1)), reg o.snap.s2 (st.map (·.2.1)), reg o.snap.s3 (st.map (·.2.2.1))]
    s.setCore c (k.updOp o.id fun o => { o with flags := o.flags ||| fl, late := late })
  | .mtrl => s.moveTile c o
  | .mldt => s.moveTile c o
  | .mstt =>
    let e (t j n : Nat) : Nat := (k.tileElem t j n).toNat
    let len (j : Nat) : Nat := if isK8 m.ofmt then (if j = 16 then 1 else 2) else if is32 m.ofmt then 4 else elemBytes m.ofmt
    let val (j n : Nat) : Nat := if is32 m.ofmt then e m.treg j n + e (m.treg + 1) j n * 65536 else e m.treg j n
    s.setCore c (k.putRows ((tileOut m o.snap.s3 o.snap.s2).mapIdx fun j r => (r.1, r.2, packElems (len j) ((List.range 128).map (val j)))))
  | _ => s

/-! ## Occupancy and token cycle (09 R193) -/

/-- Rows of a multiply that enter the stream: those of a skipped group do not (09 R203). -/
def Core.enteringRows (c : Core) (o : EngineOp) : Nat :=
  if o.name = .mmuls then ((List.range (matDesc o.snap.d).nrow).filter fun j => decide (c.bitmapWord o j ≠ 0xFFFF)).length else (matDesc o.snap.d).nrow

/-- 128-byte lines of rows, each doubled through the quad window. -/
def lineCycles (qwin : Bool) (rows : List (Nat × Nat)) : Nat := (rows.map fun r => (r.2 + 127) / 128).sum * (if qwin then 2 else 1)

/-- Cycles of an operation's occupancy from its beginning; a bag's follow its rows. -/
def Core.occupancy (c : Core) (o : EngineOp) : Nat :=
  let m := matDesc o.snap.d
  match o.name with
  | .mmul => c.enteringRows o * streamPeriod o
  | .mmuls => c.enteringRows o * streamPeriod o
  | .mswap => 1
  | .mldw => if m.opt then (if isK8 m.wfmt then 17 else 128) else lineCycles m.qwin (tileRows m.wfmt fun _ => 0)
  | .mcode => 8
  | .mzero => (m.nrow + 3) / 4
  | .manch => (m.nrow + 3) / 4
  | .maddv => m.nrow
  | .mrd => m.nrow
  | .mstat => m.nrow
  | .mst => m.nrow * (if is32 m.ofmt then 4 else 2)
  | .mldt => lineCycles m.qwin (tileRows m.afmt fun _ => 0)
  | .mtrl => lineCycles m.qwin (tileRows m.afmt fun _ => 0)
  | .mstt => lineCycles false (tileOut m 0 0)
  | _ => 0

/-- Cycles from an operation's beginning to its token's completion; 1 for a bag, whose rows have counted their own. -/
def Core.tokenCycle (c : Core) (o : EngineOp) : Nat :=
  let occ := c.occupancy o
  match o.name with
  | .mmul => if occ = 0 then 1 else occ - streamPeriod o + 136
  | .mmuls => if occ = 0 then 1 else occ - streamPeriod o + 136
  | .mldw => occ + 4
  | .mcode => occ + 2
  | .mzero => occ + 1
  | .manch => occ + 1
  | .maddv => occ + 4
  | .mrd => occ + 6
  | .mst => occ + 6
  | .mstat => occ + 12
  | .mldt => occ + 4
  | .mtrl => occ + 4
  | .mstt => occ + 4
  | _ => 1

/-- Window rows that a readout reads, whose residues it checks (19 R372). -/
def readRows (o : EngineOp) : List Nat :=
  let m := matDesc o.snap.d
  match o.name with
  | .mrd => upFrom m.arow m.nrow
  | .mst => upFrom m.arow m.nrow
  | .mstat => upFrom m.arow m.nrow
  | _ => []

/-- Window rows whose residues an operation checks at its completion: those an array-stream operation touched (19 R372). -/
def checkedRows (o : EngineOp) : List Nat :=
  let m := matDesc o.snap.d
  match o.name with
  | .mmul => upFrom m.arow m.nrow
  | .mmuls => upFrom m.arow m.nrow
  | .mbagAcc => o.touched
  | .mbagSteer => o.touched
  | _ => []

end Sys2Proof.Machine
end

