-- ==== Sys2Proof/Machine/Gather.lean ====
section
/-! DEFINITION. Gathers and scatters at work: index-list entries, the settling of rows, landing rows and reports (10 R220-R222, 20 R386-R389). -/

namespace Sys2Proof.Machine

/-- The table and list addresses of an operation. -/
def tableAt (o : EngineOp) : Nat := inSpace (gatherDesc o.snap.d).tblSp o.snap.s1
def listAt (o : EngineOp) : Nat := inSpace (gatherDesc o.snap.d).lstSp o.snap.s2

/-- The reason of an access that is aborted at a place: no response in time, unless no port of its link works (20 R387, R393). -/
def State.abortReason (s : State) (c : BitVec 8) : PAddr → Nat
  | .stack _ => 4
  | .fabric fid ra => if s.linkWorks (s.linkOf (s.partOfCore c) fid ra) && s.inp.flag2 then 6 else 4

/-- The reason of a failed access at a virtual address. -/
def State.reasonOf (s : State) (c : BitVec 8) (va : Nat) (n : Nat) : Nat :=
  match ({ s with peek := true } : State).xlateCore c .read va with
  | .ok a => s.abortReason c a
  | _ => n

/-- Index-list entry `p` as it is read now; `none` when poison in it is consumed. -/
def State.readEntry (s : State) (c : BitVec 8) (o : EngineOp) (p : Nat) : State × Option ListEntry :=
  let a := listAt o + 8 * p
  let (s, b, f) := s.spaceBlk c o (gatherDesc o.snap.d).lstSp 0 a 8
  match f with
  | some (code, va) => (s, some (.lost (s.reasonOf c va.toNat (code.toNat - 0x1800)) a))
  | none =>
    if b.psn ≠ 0 then (s.consume c 2 (if (gatherDesc o.snap.d).lstSp = 0 then 3 else 1) a, none)
    else if b.bad ≠ 0 then (s, none)
    else (s, some (.row (BitVec.ofNat 64 b.x)))

/-- Entry `p`: from the list as read before, or read now. -/
def State.listEntry (s : State) (c : BitVec 8) (o : EngineOp) (p : Nat) : State × Option ListEntry :=
  match o.list with
  | some l => (s, l[p]?)
  | none => s.readEntry c o p

/-- The INVALID entry. -/
def invalidEntry : BitVec 64 := BitVec.allOnes 64

/-- Table row and tag of an entry. -/
def entryRow (e : BitVec 64) : Nat := fieldOf e.toNat 47 0
def entryTag (e : BitVec 64) : BitVec 16 := e.extractLsb' 48 16

/-- The address of an entry's table row, and whether it leaves the space (20 R387). -/
def rowPlace (pw : Nat) (o : EngineOp) (e : BitVec 64) : Nat × Bool :=
  let g := gatherDesc o.snap.d
  let a := tableAt o + entryRow e * g.tpitch
  (a, decide ((if g.tblSp = 1 then 2 ^ 52 else spSize pw) < a + g.rowBytes))

/-! ## Landing -/

/-- A landing row changes, in the cycle at hand of the order of landings. -/
def Core.stampRow (c : Core) (r : Nat) (f : LandRow → LandRow) : Core :=
  let c := (List.range 4).foldl (fun c i => c.logLine 3 (4 * r + i)) c
  { c with
    pool := { c.pool with
      land := mapUpd Init.landRow c.pool.land r fun l => { f l with ord := c.clock }, bad := c.pool.bad.filter fun b => decide (b ≠ (4, r)) } }

/-- Row `p` of a gather is settled. -/
def Core.markSettled (c : Core) (o : EngineOp) (p : Nat) : Core := c.updOp o.id fun o => { o with rows := p :: o.rows }

/-- An INVALID entry: padding. -/
def Core.padRow (c : Core) (o : EngineOp) (p : Nat) : Core :=
  (c.stampRow ((gatherDesc o.snap.d).row0 + p) fun l => { l with state := 2 }).markSettled o p

/-- An entry lands: its bytes, tag and position (10 R220). -/
def Core.landRow (c : Core) (o : EngineOp) (p : Nat) (tag : BitVec 16) (data : Nat) : Core :=
  let g := gatherDesc o.snap.d
  (c.stampRow (g.row0 + p) fun l =>
    { l with data := writeBytes [] 0 g.rowBytes data, tag := tag, pos := BitVec.ofNat 16 p, seen := true, state := 1 }).markSettled o p

/-- A report entry as 16 bytes (20 R389). -/
def reportEntry (p : Nat) (tag : BitVec 16) (reason : Nat) (psn lst : Bool) (addr : Nat) : Nat :=
  p % 2 ^ 16 + tag.toNat <<< 16 + (reason % 8) <<< 32 + psn.toNat <<< 35 + lst.toNat <<< 36 + (addr % 2 ^ 64) <<< 64

/-- An entry that faulted is settled by POLICY: an accounted row that holds its report entry; under TRAP the lowest position is kept for 0x1805
(20 R388). -/
def Core.accountRow (c : Core) (o : EngineOp) (p : Nat) (tag : BitVec 16) (reason addr : Nat) (lst : Bool) : Core :=
  let g := gatherDesc o.snap.d
  let psn := decide (g.policy = 1)
  let c := (c.stampRow (g.row0 + p) fun l =>
    { l with
      data := writeBytes [] 0 16 (reportEntry p tag reason psn lst addr), tag := tag, pos := BitVec.ofNat 16 p, state := 3, psn := psn
      lst := lst }).markSettled o p
  if g.policy = 2 then
    c.updOp o.id fun o => { o with
      fault := match o.fault with
        | some (code, t) => some (code, BitVec.ofNat 64 (min t.toNat p))
        | none => some (0x1805, BitVec.ofNat 64 p) }
  else c

/-! ## Table rows -/

/-- The walk of a page for a gather: one walk per page (10 R220, 20 R386). -/
def State.gatherWalk (s : State) (c : BitVec 8) (o : EngineOp) (va : Nat) : State × Walk :=
  let page := va / 2 ^ 14
  match ((s.core c).op o.id).bind fun o => (o.walked.find? fun w => decide (w.1 = page)).map (·.2) with
  | some w => (s, w)
  | none =>
    let asid := match (s.core c).task with
      | some b => b.asid
      | none => 0
    let w := s.lookup (coreKey c) (s.partOfCore c) asid va
    if w = .held then (s.waits, w) else
    (s.updCore c fun k => k.updOp o.id fun o => { o with walked := (page, w) :: o.walked }, w)

/-- The pages that the global rows of a read list lie in are walked, all before its first row is asked for (10 R220, 11 R254). -/
def State.walkList (s : State) (c : BitVec 8) (o : EngineOp) : State :=
  let g := gatherDesc o.snap.d
  if g.tblSp = 0 then s
  else
    (o.list.getD []).foldl
      (fun s e => match e with
        | .lost _ _ => s
        | .row e =>
          let (a, out) := rowPlace (s.core c).ctx.pw o e
          if e = invalidEntry ∨ out = true then s
          else (pieces (2 ^ 14) (g.rowBytes / 2 ^ 14 + 2) a g.rowBytes).foldl (fun s p => (s.gatherWalk c o p.1).1) s) s

/-- The whole list is read and kept with the operation (10 R222); a gather translates it (11 R254). -/
def State.readList (s : State) (c : BitVec 8) (o : EngineOp) : State :=
  let (s, l) := (List.range (gatherDesc o.snap.d).nent).foldl
    (fun (acc : State × List ListEntry) p =>
      let (s, e) := acc.1.readEntry c o p
      (s, acc.2 ++ [e.getD (.row (BitVec.allOnes 64))]))
    (s, [])
  let s := s.updCore c fun k => k.updOp o.id fun o => { o with list := some l }
  if o.name = .gath then s.walkList c { o with list := some l } else s

/-- The global places of an operation's index list. -/
def State.listPlaces (s : State) (c : BitVec 8) (o : EngineOp) : List Spot :=
  let g := gatherDesc o.snap.d
  if g.lstSp = 0 ∨ o.list.isSome = true then [] else s.rangePlaces c .read (listAt o) (8 * g.nent)

/-- The global place of row `p` of a gather's table, as its batch has translated it. -/
def State.gatherPlaces (s : State) (c : BitVec 8) (o : EngineOp) (p : Nat) : List Spot :=
  let g := gatherDesc o.snap.d
  match (o.list.getD [])[p]? with
  | some (.row e) =>
    let (a, out) := rowPlace (s.core c).ctx.pw o e
    if g.tblSp = 0 ∨ e = invalidEntry ∨ out = true then []
    else (pieces (2 ^ 14) (g.rowBytes / 2 ^ 14 + 2) a g.rowBytes).filterMap fun q =>
      (s.place (s.partOfCore c) .read q.1 (s.gatherWalk c o q.1).2).spot q.2
  | _ => []

/-- The global places that a scatter writes, as translated now. -/
def State.scatPlaces (s : State) (c : BitVec 8) (o : EngineOp) : List Spot :=
  let g := gatherDesc o.snap.d
  if g.tblSp = 0 then []
  else
    (o.list.getD []).flatMap fun e => match e with
      | .lost _ _ => []
      | .row e =>
        let (a, out) := rowPlace (s.core c).ctx.pw o e
        if e = invalidEntry ∨ out = true then [] else s.rangePlaces c .write a g.rowBytes

/-- What is known of a table row and what is found of a part of it: of two reasons the lower stands (20 R396). -/
def joinRow : Nat ⊕ Nat → Nat ⊕ Nat → Nat ⊕ Nat
  | .inl x, .inl y => .inl (x + y)
  | .inl _, .inr b => .inr b
  | .inr a, .inl _ => .inr a
  | .inr a, .inr b => .inr (min a b)

/-- The part of a table row that lies in one page, `i` bytes into the row: its bytes in their place, or the reason it could not be read. -/
def State.rowPart (s : State) (c : BitVec 8) (o : EngineOp) (va n i : Nat) : State × (Nat ⊕ Nat) :=
  let (s, w) := s.gatherWalk c o va
  match s.place (s.partOfCore c) .read va w with
  | .fault f => (s, .inr f)
  | .poison pa => (s.walkPoison c pa, .inr 3)
  | .stopped pa => (s.gateStops pa, .inr 4)
  | .held => (s.waits, .inr 4)
  | .ok a =>
    match s.placeBlk (s.partOfCore c) a n with
    | (s, none) => (s.engineLost c 2 a, .inr (s.abortReason c a))
    | (s, some b) => (s, if b.psn ≠ 0 then .inr 7 else .inl (b.x <<< (8 * i)))

/-- Row `p` of a global table: its bytes, or the reason it could not be read. -/
def State.globalRow (s : State) (c : BitVec 8) (o : EngineOp) (p va n : Nat) : State × (Nat ⊕ Nat) :=
  (pieces (2 ^ 14) (n / 2 ^ 14 + 2) va n).foldl
    (fun (acc : State × (Nat ⊕ Nat)) q =>
      let (s, r) := acc.1.rowPart c o q.1 q.2 (q.1 - va)
      (s, joinRow acc.2 r))
    (s, if o.badBytes p n = 0 then .inl 0 else .inr 7)

/-- One entry of a gather is settled: padding, landed, or accounted by POLICY (20 R387). -/
def State.gatherRow (s : State) (c : BitVec 8) (o : EngineOp) (p : Nat) : State :=
  let g := gatherDesc o.snap.d
  let (s, e) := s.listEntry c o p
  match e with
  | none => s.updCore c fun k => k.padRow o p
  | some (.lost reason addr) => s.updCore c fun k => k.accountRow o p 0 reason addr true
  | some (.row e) =>
    if e = invalidEntry then s.updCore c fun k => k.padRow o p
    else
      let (a, out) := rowPlace (s.core c).ctx.pw o e
      let tag := entryTag e
      if out then s.updCore c fun k => k.accountRow o p tag 5 (entryRow e) false
      else if g.tblSp = 0 then
        let (sp, psn) := (s.core c).source o
        let b := spBlk sp psn a g.rowBytes
        s.updCore c fun k => if b.psn ≠ 0 then k.accountRow o p tag 7 a false else k.landRow o p tag b.x
      else
        let (s, r) := s.globalRow c o p a g.rowBytes
        s.updCore c fun k => match r with
          | .inl x => k.landRow o p tag x
          | .inr reason => k.accountRow o p tag reason a false

/-- Whether every row of a gather is settled. -/
def EngineOp.settled (o : EngineOp) : Bool := decide ((gatherDesc o.snap.d).nent ≤ o.rows.length)

/-! ## Scatters (10 R221) -/

/-- The rows of a scatter written in ascending position; of several faults the one met first is kept. -/
def State.runScat (s : State) (c : BitVec 8) (o : EngineOp) : State × EngFault :=
  let g := gatherDesc o.snap.d
  ((List.range g.nent).foldl
    (fun (acc : (State × EngFault) × EngineOp) p =>
      let ((s, f), o) := acc
      let (s, e) := s.listEntry c o p
      match e with
      | none => ((s, f), o)
      | some (.lost reason addr) => ((s, f.first (some (deferredCode (min reason 4), BitVec.ofNat 64 addr))), o)
      | some (.row e) =>
        if e = invalidEntry then ((s, f), o)
        else
          let (a, out) := rowPlace (s.core c).ctx.pw o e
          if out then ((s, f.first (some (0x1809, BitVec.ofNat 64 p))), o)
          else
            let (sp, psn) := (s.core c).source o
            let b := o.rowAt p g.rowBytes (spBlk sp psn (g.place + p * g.rowBytes) g.rowBytes) g.tblSp
            let (s, f2) := if g.tblSp = 1 then s.globalRowPut c a g.rowBytes b else s.spacePut c 0 0 a g.rowBytes b
            ((s, f.first f2), o.rewritten c g.tblSp 0 a g.rowBytes b))
    ((s, none), o)).1

/-- The lowest and highest byte of the table rows that a read list names inside the offset space (10 R222). -/
def namedRows (pw : Nat) (o : EngineOp) (l : List ListEntry) : Option (Nat × Nat) :=
  let g := gatherDesc o.snap.d
  l.foldl (fun acc e => match e with
    | .lost _ _ => acc
    | .row e =>
      let (a, out) := rowPlace pw o e
      if e = invalidEntry ∨ out = true then acc
      else match acc with
        | none => some (a, a + g.rowBytes - 1)
        | some (lo, hi) => some (min lo a, max hi (a + g.rowBytes - 1))) none

end Sys2Proof.Machine
end

