-- ==== Sys2Proof/Machine/Rounds.lean ====
section
/-! DEFINITION. Reduction rounds: packets sent into a tree, what routers combine, the root's write and abandoned rounds (10 R245, 22 R406). -/

namespace Sys2Proof.Machine

/-- A round of a tree. -/
def State.round (s : State) (b t m : Nat) : Option Round := s.rounds.find? fun r => decide (r.b.toNat = b) && decide (r.tree.toNat = t) && decide (r.m = m)

def State.updRound (s : State) (b t m : Nat) (f : Round → Round) : State :=
  { s with rounds := s.rounds.map fun r => if r.b.toNat = b ∧ r.tree.toNat = t ∧ r.m = m then f r else r }

/-- A round with no packet, of a wave. -/
def freshRound (b t m part : Nat) (node : BitVec 64) : Round :=
  { part := part, node := node, b := BitVec.ofNat 4 b, tree := BitVec.ofNat 4 t, m := m, sent := [], at_ := 0, exact := [], rounded := [], flags := 0, ended := 0, tval := 0 }

/-- The members whose packets have entered. -/
def Round.sentMask (r : Round) : Nat := (r.sent.map fun p => p.core.toNat).dedup.foldl (fun m j => m + 2 ^ j) 0

/-- Whether every member of a record has sent. -/
def Round.full (r : Round) (memb : Nat) : Bool := (List.range 16).all fun j => !memb.testBit j || r.sentMask.testBit j

/-- Whether packets of both modes have entered. -/
def Round.mixed (r : Round) : Bool := (r.sent.any fun p => p.exactMode) && r.sent.any fun p => !p.exactMode

/-- The operations of a round's packets finish: with a fault, which they then complete with at once, in ascending core (22 R406); or without one, their
beacon adds still to come. -/
def State.finishPackets (s : State) (b : Nat) (ps : List Packet) (f : EngFault) : State :=
  (List.range 16).foldl
    (fun s j => (ps.filter fun p => decide (p.core.toNat = j)).foldl
      (fun s p =>
        let c := BitVec.ofNat 8 (16 * b + j)
        let s := s.updCore c fun k => k.updOp p.op fun o => { o with done := true, fault := f }
        match f, (s.core c).op p.op with
        | some _, some o => s.completeOp c o f
        | _, _ => s) s) s

/-- A round whose end all members have seen is forgotten. -/
def State.dropRound (s : State) (b t m memb : Nat) : State :=
  { s with rounds := s.rounds.filter fun r => !(decide (r.b.toNat = b) && decide (r.tree.toNat = t) && decide (r.m = m) && decide (r.ended ≠ 0) && r.full memb) }

/-- TVAL of 0x1807 and 0x1808: members, tree and round (10 R245, 22 R406). -/
def roundTval (members tree m : Nat) : BitVec 64 := BitVec.ofNat 64 (members % 2 ^ 16 + (tree % 16) <<< 16 + m <<< 32)

/-- Cycles of a round's timer, in thousandths (22 R406). -/
def roundTimer : Nat := 16777216 * 1000

/-- Whether a round's timer has run out. -/
def State.roundDue (s : State) (r : Round) : Bool :=
  decide (r.ended = 0) && !r.sent.isEmpty && decide (r.at_ + roundTimer ≤ (mapGet Init.island s.islands r.b.toNat).milli s.ns)

/-- Whether the cycle in which it ran out is over: a root's write in that cycle stands. -/
def State.roundLate (s : State) (r : Round) : Bool :=
  s.roundDue r && decide (r.at_ + roundTimer + 1000 ≤ (mapGet Init.island s.islands r.b.toNat).milli s.ns)

/-- A round is abandoned: the packets that have been sent complete with 0x1807, and so do those that come later. -/
def State.abandon (s : State) (r : Round) : State :=
  let memb := treeMemb (s.tree r.b.toNat r.tree.toNat)
  let tv := roundTval (memb - (memb &&& r.sentMask)) r.tree.toNat r.m
  (s.finishPackets r.b.toNat r.sent (some (0x1807, tv))).updRound r.b.toNat r.tree.toNat r.m fun r => { r with ended := 0x1807, tval := tv }

/-- A round whose timer has run out is abandoned before a packet enters it. -/
def State.abandonDue (s : State) (b t m : Nat) : State :=
  match s.round b t m with
  | some r => if s.roundDue r then s.abandon r else s
  | none => s

/-- The wave whose task is bound to a core of a bulkhead. -/
def State.waveAt (s : State) (c : BitVec 8) : Nat × BitVec 64 := match (s.core c).task with
  | some t => (t.part, t.node)
  | none => (0, 0)

/-- A packet enters its round, which it may be the first to enter; a round whose timer has run out is abandoned first. -/
def State.enterRound (s : State) (b t m : Nat) (p : Packet) : State :=
  let s := s.abandonDue b t m
  let (part, node) := s.waveAt (BitVec.ofNat 8 (16 * b + p.core.toNat))
  (if (s.round b t m).isSome then s
    else { s with rounds := s.rounds ++ [{ freshRound b t m part node with at_ := (mapGet Init.island s.islands b).milli s.ns }] }).updRound b t m
      fun r => { r with sent := r.sent ++ [p] }

/-- A round that packet `p` has entered: one that has ended completes it at once, and one that all members have now sent with both modes closes
(10 R245, 22 R406). -/
def State.closeRound (s : State) (b t m memb : Nat) (p : Packet) : State :=
  match s.round b t m with
  | none => s
  | some r =>
    if r.ended ≠ 0 then (s.finishPackets b [p] (if r.ended = 1 then none else some (r.ended, r.tval))).dropRound b t m memb
    else if r.mixed && r.full memb then
      let f := ((r.sent.filter fun p => !p.exactMode).map fun p => 2 ^ p.core.toNat).foldl (· + ·) 0
      let tv := roundTval f t m
      ((s.finishPackets b r.sent (some (0x1808, tv))).updRound b t m fun r => { r with ended := 0x1808, tval := tv }).dropRound b t m memb
    else s

/-- The packet of an operation, from the bytes it read. -/
def packetOf (c : BitVec 8) (o : EngineOp) (x : Nat) : Packet :=
  { core := BitVec.ofNat 4 (localOf c), op := o.id, exactMode := decide (o.name = .rpkX)
    elems := (List.range 32).map fun i => BitVec.ofNat 32 (bytesOf x (4 * i) 4), destVa := o.snap.s2, psn := false }

/-- The packet of an RPK is sent, poison in it being consumed. -/
def State.sendPacket (s : State) (c : BitVec 8) (o : EngineOp) : State :=
  let b := cbOf c
  let t := packetTree o.snap.d
  let (sp, psn) := (s.core c).source o
  let off := o.snap.s1.toNat
  let blk := spBlk sp psn off 128
  let p := packetOf c o blk.x
  let s := if blk.psn ≠ 0 ∨ o.badBytes 0 128 ≠ 0 then s.consume c 3 3 off else s
  ((s.updCore c fun k => k.updOp o.id fun o => { o with sent := true }).enterRound b t o.m p).closeRound b t o.m (treeMemb (s.tree b t)) p

/-- The children of member `j`, in ORD order; of two with one ORD the lower local index comes first, which 10 R245 leaves open (DESIGN CHOICE, log 49). -/
def childrenOf (rec_ : BitVec 256) (j : Nat) : List Nat :=
  let kids := (List.range 16).filter fun i => (treeMemb rec_).testBit i && decide (i ≠ treeRoot rec_) && decide (treeParent rec_ i = j)
  (List.range 16).flatMap fun o => kids.filter fun i => decide (treeOrd rec_ i = o)

/-- A leaf window of an element. -/
def leafWindow (anchor : Int) (x : BitVec 32) : Window := Window.zeroed.add anchor (FFmt.decode .fp32 x.toNat)

/-- One rounded addition of FP32 elements (04 R87, 08 R168). -/
def addFp32 (x y : BitVec 32) : BitVec 32 × FFlags :=
  let r := rounded .fp32 .rne (addNum .rne (FFmt.decode .fp32 x.toNat) (FFmt.decode .fp32 y.toNat))
  (BitVec.ofNat 32 r.1, r.2)

/-- Whether an access at a place would be aborted: its stack is held in reset, or its link does not answer. -/
def State.placeLost (s : State) (a : PAddr) : Bool := match a with
  | .stack pa => s.stackDown (pa.toNat / 2 ^ 36)
  | .fabric fid ra => s.fabricAborts fid ra

/-- The root's 128 bytes are written under its own address space, all of them or none, flits that a check has found bad as poison (17 R337); every packet's
operation finishes, with the write's fault if it has one. -/
def State.rootWrite (s : State) (b t : Nat) (r : Round) (root : Packet) (ys : List (BitVec 32)) (fl : FFlags) : State :=
  let c := BitVec.ofNat 8 (16 * b + root.core.toNat)
  let x := ys.foldr (fun y acc => y.toNat + acc <<< 32) 0
  let va := root.destVa
  let psn := match (s.core c).op root.op with
    | some o => if root.psn then o.badBytes 0 128 else 0
    | none => 0
  let (s, f) :=
    match s.unreached c .write va.toNat 128 with
    | some (.fault n, _) => (s, some (deferredCode n, va))
    | some (.poison pa, _) => (s.walkPoison c pa, none)
    | some (.stopped pa, _) => (s.gateStops pa, some (deferredCode 4, va))
    | some (.held, _) => (s.waits, none)
    | _ =>
      let (s, f) := match ((knownSpots (s.rangePlaces c .write va.toNat 128)).map fun (x : PAddr × Nat) => x.1).find? s.placeLost with
        | some a => (s.engineLost c 3 a, some (deferredCode 4, va))
        | none => s.globalPut c 3 va.toNat 128 { x := x, psn := psn, bad := 0 }
      (s, f.map fun (g : BitVec 16 × BitVec 64) => (g.1, va))
  let s := s.finishPackets b r.sent f
  let s := s.updCore c fun k => k.updOp root.op fun o => { o with flags := o.flags ||| fl }
  (s.updRound b t r.m fun r => { r with ended := 1 }).dropRound b t r.m (treeMemb (s.tree b t))

/-- The root's values, combined before, are written once the columns of its address have been served. -/
def State.finishRoot (s : State) (b t : Nat) (r : Round) (root : Packet) : State :=
  let c := BitVec.ofNat 8 (16 * b + root.core.toNat)
  let a := treeAnchor (s.tree b t)
  let (ys, fl) :=
    if root.exactMode then
      let ws := ((r.exact.find? fun x => decide (x.1 = root.core)).map (·.2)).getD []
      let zs := ws.map fun w => w.readout a Fmt.fp32 .rne
      (zs.map fun y => BitVec.ofNat 32 y.1, zs.foldl (fun f y => f ||| y.2) 0)
    else (((r.rounded.find? fun x => decide (x.1 = root.core)).map (·.2)).getD [], r.flags)
  s.withAccess c root.op 0 0 [] (s.rangePlaces c .write root.destVa.toNat 128) fun s => s.rootWrite b t r root ys fl

/-- The root writes what it has combined (10 R245). -/
def State.tryRoot (s : State) (b t m j : Nat) : State :=
  match s.round b t m with
  | none => s
  | some r =>
    match r.sent.find? fun p => decide (p.core.toNat = j) with
    | none => s
    | some own => if j = treeRoot (s.tree b t) ∧ r.ended = 0 then s.finishRoot b t r own else s

/-- Poison in a child's value that a router combines is consumed there (17 R332). -/
def State.combinePoison (s : State) (b j : Nat) (r : Round) (kids : List Nat) : State :=
  if kids.any fun i => r.sent.any fun p => p.psn && decide (p.core.toNat = i) then s.consume (BitVec.ofNat 8 (16 * b + j)) 3 0 0 else s

/-- Router `j` combines its own packet and its children's values once all of them have arrived in one mode; the root then writes (10 R245). -/
def State.combine (s : State) (b t m j : Nat) : State :=
  let rec_ := s.tree b t
  match s.round b t m with
  | none => s
  | some r =>
    match r.sent.find? fun p => decide (p.core.toNat = j) with
    | none => s
    | some own =>
      if r.ended ≠ 0 then s
      else if s.roundLate r then s.abandon r
      else if (r.exact.any fun x => decide (x.1.toNat = j)) || (r.rounded.any fun x => decide (x.1.toNat = j)) then s.tryRoot b t m j
      else
        let kids := childrenOf rec_ j
        if own.exactMode then
          let vals := kids.filterMap fun i => (r.exact.find? fun x => decide (x.1.toNat = i)).map (·.2)
          if vals.length ≠ kids.length then s
          else
            let a := treeAnchor rec_
            let ws := vals.foldl (fun (acc : List Window) v => List.zipWith Window.merge acc v) (own.elems.map (leafWindow a))
            ((s.combinePoison b j r kids).updRound b t m fun r => { r with exact := r.exact ++ [(BitVec.ofNat 4 j, ws)] }).tryRoot b t m j
        else
          let vals := kids.filterMap fun i => (r.rounded.find? fun x => decide (x.1.toNat = i)).map (·.2)
          if vals.length ≠ kids.length then s
          else
            let (ys, fl) := vals.foldl
              (fun (acc : List (BitVec 32) × FFlags) v =>
                let z := List.zipWith addFp32 acc.1 v
                (z.map (·.1), z.foldl (fun f y => f ||| y.2) acc.2))
              (own.elems, r.flags)
            ((s.combinePoison b j r kids).updRound b t m fun r => { r with rounded := r.rounded ++ [(BitVec.ofNat 4 j, ys)], flags := fl }).tryRoot b t m j

/-- RPK_ROUND_COMBINE: router `j` of tree `tree` in compute bulkhead `b`, round `p` (10 R245). -/
def execRpkRoundCombine (s : State) : Host.Outcome State Fault Refusal :=
  .next (s.combine (s.inp.b.toNat % 16) s.inp.tree.toNat s.inp.p s.inp.j.toNat)

/-- ROUND_TIMEOUT: round `p` of tree `tree` in compute bulkhead `b` is abandoned once its timer has run out (22 R406). -/
def execRoundTimeout (s : State) : Host.Outcome State Fault Refusal := .next (s.abandonDue (s.inp.b.toNat % 16) s.inp.tree.toNat s.inp.p)

end Sys2Proof.Machine
end

