-- ==== Sys2Proof/Machine/Sequencer.lean ====
section
/-! DEFINITION. What a core's sequencer does in its turn before its slots act: a trap that waits, the fetch of a bundle with its framing, encoding and fetch faults, and the nullifier. -/

namespace Sys2Proof.Machine

/-- The core whose slots act, with what the slot at hand needs of its header. -/
def State.atSlot (s : State) (hdr : SlotHeader) (rest : Nat) : State :=
  s.updCore s.cur fun c => { c with iss := { c.iss with rest := rest, guard := hdr.guard, port := hdr.port } }

/-- Whether a member that cannot issue is still bound: each cycle counts as a freeze cycle (03 R60, 07 R154). -/
def Core.waitsBound (c : Core) : Bool := decide (c.cstate = 2 ∨ c.cstate = 3) && c.task.isSome && match c.run with
  | .killed _ => false
  | _ => true

/-- The freeze cycles that PWRW asks of a core, as a fraction: the largest of its region's and its ancestors' duties 1 - PWRW/EPOCHW (02 R39;
log 45). -/
def State.dutyOf (s : State) (c : Core) : Nat × Nat := match c.task with
  | none => (0, 1)
  | some b =>
    ((s.ancestry b.part b.rasid 16 b.rcb).filter fun r => decide (0 < r.pwrw ∧ r.pwrw < r.epochw)).foldl
      (fun m r => if m.1 * r.epochw < (r.epochw - r.pwrw) * m.2 then (r.epochw - r.pwrw, r.epochw) else m) (0, 1)

/-- Whether a change of frequency still freezes core `c`'s clock domain (01 R16, 03 R60). -/
def State.domainFrozen (s : State) (c : BitVec 8) : Bool := decide (s.ns < (mapGet Init.island s.islands (cbOf c)).frozen)

/-- A cycle of core `c` in which a bundle stands at issue: what is owed afterwards, in parts of the fraction, and whether the cycle is a freeze cycle:
of a change of frequency, or of the duty, whose cycles are spread evenly. -/
def State.dutyStep (s : State) (c : BitVec 8) : Nat × Bool :=
  let (n, d) := s.dutyOf (s.core c)
  let acc := (s.core c).duty + n
  if s.domainFrozen c then ((s.core c).duty, true)
  else if n = 0 then (0, false) else if d ≤ acc then (acc - d, true) else (acc, false)

/-- A bundle's fetch failed: a precise trap, or poison (17 R332, 20 R385). -/
def State.fetchFault (s : State) (c : BitVec 8) (g : Got) (va : BitVec 64) : State :=
  match g with
  | .fail n => s.raiseTrap c { code := BitVec.ofNat 16 (0x1400 + n), port := 0, tval := va }
  | .table pa => s.walkPoison c pa
  | .psn _ _ => s.consume c 0 1 va.toNat
  | .stopped pa => (s.gateStops pa).raiseTrap c { code := 0x1404, port := 0, tval := va }
  | .held => s.waits
  | .val _ => s

/-- Whether a fetch waits for its link. -/
def fetchHeld (e : Option (Got × BitVec 64)) : Bool := (e.map (·.1)) = some .held

/-- The start of an issue cycle of core `c`: the slots that act, in ascending PORT order; none when the cycle is over without them. -/
def State.beginIssue (s : State) (c : BitVec 8) : State × List Slot :=
  let s := { s with cur := c }
  let core := s.core c
  if core.prot && !core.seg.openSeg && core.mayPreempt then (s.setCore c core.stall, [])
  else if !core.issues then (if core.waitsBound then s.setCore c core.stall else s, [])
  else
    match core.trap with
    | some (t, tpc) =>
      (if !core.seg.openSeg && core.land.all fun l => l.data.isSome then s.withPeers c (fun s => s.finishTrap c t tpc) else s.setCore c core.stall, [])
    | none =>
      let pc := core.ctx.pc
      let (ws, failed) := s.fetchWords c pc 8 0
      if fetchHeld failed then (s.waits, [])
      else match framingFault ws failed.isNone with
      | some i => (s.raiseTrap c { code := 0x1001, port := 0, tval := BitVec.ofNat 64 i }, [])
      | none =>
        match decodeBundle [] ws with
        | .error t => (s.raiseTrap c t, [])
        | .ok slots =>
          match failed with
          | some (g, va) => (s.fetchFault c g va, [])
          | none =>
            let size := bundleBytes ws.length
            if core.removable slots then (s.setCore c (core.remove slots size), [])
            else
              let (acc, hit) := s.dutyStep c
              (s.setCore c { core with duty := acc, iss := { core.iss with size := size, duty := hit } }, slots)

end Sys2Proof.Machine
end

