-- ==== Sys2Proof/Machine/EngineEvents.lean ====
section
/-! DEFINITION. The events of a core's engines: completions, rows that land and stream, scoreboard entries that retire early, cache fills (03 R75, 09 R193, R204, 10 R216, R220, R224). -/

namespace Sys2Proof.Machine

/-- The core and number an engine event names. -/
def State.eventOp (s : State) : Option EngineOp := (s.core s.inp.c).op s.inp.id

/-- An operation does the rest of its work and completes, once the columns of the places it touches, and of its beacon, have been served. -/
def State.finishOp (s : State) (c : BitVec 8) (o : EngineOp) (vc : Nat) (places : List Spot × List Spot)
    (work : State → State × EngFault) : State :=
  s.withAccess c o.id 0 vc places.1 (places.2 ++ s.beaconPlaces c o) fun s =>
    let (t, f) := work s
    t.completeOp c o f

/-- A copy, fill or bulk move moves its bytes and completes: bulk copy data (01 R29). -/
def State.copyDone (s : State) (c : BitVec 8) (o : EngineOp) : State := s.finishOp c o 3 (s.copyPlaces c o) fun s => s.runCopy c o

/-- An operation whose work is over completes; one that has faulted adds to no beacon (18 R350). -/
def State.overOp (s : State) (c : BitVec 8) (o : EngineOp) : State :=
  if o.fault.isSome then s.completeOp c o o.fault else s.finishOp c o 0 ([], []) fun s => (s, none)

/-- An operation that only its completion is left of. -/
def State.doneOp (s : State) (c : BitVec 8) (o : EngineOp) : State := if o.done then s.overOp c o else s

/-- A scatter writes its rows and completes; its list is read first. -/
def State.scatDone (s : State) (c : BitVec 8) (o : EngineOp) : State :=
  let s := if o.list.isNone then s.withAccess c o.id 0 0 (s.listPlaces c o) [] fun s => s.readList c o else s
  match (s.core c).op o.id with
  | some o => if o.list.isNone then s else s.finishOp c o 0 ([], s.scatPlaces c o) fun s => s.runScat c o
  | none => s

/-- ENGINE_COMPLETE: operation `id` of core `c` has done its work and completes (10 R216): a copy, fill, bulk move or scatter moves its bytes; a
gather when every row is settled; a packet or bank operation when it is done. -/
def execEngineComplete (s : State) : Host.Outcome State Fault Refusal :=
  let c := s.inp.c
  .next (match s.eventOp with
    | none => s
    | some o =>
      if !(s.core c).mayStart o then s
      else
        match o.name with
        | .cpy => s.copyDone c o
        | .cpym => s.copyDone c o
        | .fill => s.copyDone c o
        | .bulk => s.copyDone c o
        | .scat => s.scatDone c o
        | .gath => if o.settled then s.overOp c o else s
        | .rpkX => s.doneOp c o
        | .rpkF => s.doneOp c o
        | .bankld => s.doneOp c o
        | .bankgo => s.doneOp c o
        | _ => s)

/-- A gather's row: the list is read and translated whole first, and the row is settled once its columns have been served (10 R220, 11 R254). -/
def State.settleRow (s : State) (c : BitVec 8) (o : EngineOp) (p : Nat) : State :=
  let s := if o.list.isNone then s.withAccess c o.id 0 0 (s.listPlaces c o) [] fun s => s.readList c o else s
  match (s.core c).op o.id with
  | some o => if o.list.isNone then s else s.withAccess c o.id (p + 1) 0 (s.gatherPlaces c o p) [] fun s => s.gatherRow c o p
  | none => s

/-- GATHER_ROW_LAND: entry `p` of gather `id` of core `c` is settled; a second delivery is discarded (10 R220, 20 R387). -/
def execGatherRowLand (s : State) : Host.Outcome State Fault Refusal :=
  let c := s.inp.c
  .next (match s.eventOp with
    | none => s
    | some o =>
      if o.name = .gath ∧ (s.core c).mayStart o = true ∧ s.inp.p < (gatherDesc o.snap.d).nent ∧ o.rows.contains s.inp.p = false then
        s.settleRow c o s.inp.p
      else s)

/-! ## The M unit's cycles (09 R192, R193; log 42) -/

/-- Whether an operation is a bag. -/
def EngineOp.isBag (o : EngineOp) : Bool := decide (o.name = .mbagAcc ∨ o.name = .mbagSteer)

/-- Whether an operation may begin, or a bag go on: the first cycle after issue has come, or the second on the stream, and its items are free. -/
def Core.bagDue (c : Core) (o : EngineOp) : Bool := decide ((if o.name.streams then 2 else 1) ≤ o.age) && c.bagReady o

/-- Whether row `j` of a bag may enter the array now: it landed in an earlier cycle, so that every row of its own has landed beside it (09 R204). -/
def Core.rowDue (c : Core) (o : EngineOp) (j : Nat) : Bool :=
  o.isBag && c.bagDue o && decide (o.occ = 0) && c.bagNext o j && decide ((c.landed (bagFirst o + j)).ord < c.clock)

/-- Landed row `j` of a bag is streamed; poison that it or the plane holds is read as a term, where the row has terms (09 R205, 17 R332). -/
def State.streamRow (s : State) (c : BitVec 8) (o : EngineOp) (j : Nat) : State :=
  let k := s.core c
  let r := bagFirst o + j
  let inside := decide ((matDesc o.snap.d).arow + (k.landed r).tag.toNat < windowRows k.ctx.pw)
  let bad := inside && k.pool.bad.any fun b => itemIn b [(4, r, r), activeGranules]
  let s := s.updCore c fun k => k.streamBag o j
  if bad then s.consume c 1 5 c.toNat else s

/-- BAG_ROW_STREAM: landed row `p` of bag `id` of core `c` is streamed (09 R204). -/
def execBagRowStream (s : State) : Host.Outcome State Fault Refusal :=
  let c := s.inp.c
  .next (match s.eventOp with
    | none => s
    | some o => if (s.core c).rowDue o s.inp.p then s.streamRow c o s.inp.p else s)

/-- A residue that disagrees (19 R372, R374): a mismatch of the segment in protected mode, where no M operation outlives its segment, else the record
0x0803 and a kill. -/
def State.residueFault (s : State) (c : BitVec 8) : State :=
  if (s.core c).prot then (if (s.core c).seg.openSeg then s.updCore c fun k => k.mismatch 2 else s)
  else (s.coreError c 1 { cls := 3, code := 0x0803, atype := 5, addr := c.toNat, synd := 2 ^ 13 }).killCore c 0x0803

/-- Cycles for which an operation that begins holds its path: an MMULS with no streamed row holds the stream for the cycle of its beginning (09 R193).  A
bag that a padding or accounted row completes, with no row entering, frees the stream in that very cycle: 09 R192 does not say (DESIGN CHOICE, log 49). -/
def Core.holdsFor (c : Core) (o : EngineOp) : Nat := if o.isBag then o.occ else if o.name = .mmuls then max 1 (c.occupancy o) else c.occupancy o

/-- The work of an M operation that may begin, or of a bag that is complete: it makes its accesses, its occupancy and the cycles to its token begin
to count, and poison it reads is consumed; a readout checks the residues of its rows. -/
def State.startBag (s : State) (c : BitVec 8) (o : EngineOp) : State :=
  let k := s.core c
  if o.done ∨ o.port ≠ 3 ∨ k.bagDue o = false ∨ (o.isBag = true ∧ k.bagComplete o = false) then s
  else
    let psn := s.opPoison c o
    let bad := (readRows o).any fun w => k.residueBad w
    let s := (s.bagWork c o).updCore c fun x => { x with pool := { x.pool with bad := badAfter o x.pool.bad } }.updOp o.id fun o =>
      { o with done := true, occ := k.holdsFor o, wait := max o.wait (k.tokenCycle o + 1) }
    let s := if bad then s.residueFault c else s
    match psn with
    | some off => s.consume c 1 3 off
    | none => s

/-- The completion of an M operation whose token's cycle has come; an array-stream operation checks the residues of the rows it touched. -/
def State.endBag (s : State) (c : BitVec 8) (o : EngineOp) : State :=
  s.withAccess c o.id 0 0 [] (s.beaconPlaces c o) fun s =>
    let t := s.completeOp c o none
    if (checkedRows o).any fun w => (s.core c).residueBad w then t.residueFault c else t

/-- Whether an M operation completes in this cycle. -/
def EngineOp.ending (o : EngineOp) : Bool := decide (o.port = 3) && o.done && !o.held && decide (o.wait ≤ 1)

/-- M_OPERATION_COMPLETE: operation `id` of core `c` begins when it may.  It completes at the end of its token's cycle, or, where its beacon's column keeps
it, of a later one (09 R192-R194, 10 R216). -/
def execMOperationComplete (s : State) : Host.Outcome State Fault Refusal :=
  let c := s.inp.c
  .next (match s.eventOp with
    | none => s
    | some o => s.startBag c o)

/-- What an M operation does in a cycle before its counts fall: a bag takes the row that is next, and an operation that may begins.  Of two rows of a bag
that different gathers have landed in one cycle with equal entry positions the lower landing row goes first: 09 R204 orders them by position alone
(DESIGN CHOICE, log 49). -/
def State.bagBegin (s : State) (c : BitVec 8) (id : Nat) : State :=
  match (s.core c).op id with
  | none => s
  | some o =>
    let s := match (List.range (if o.isBag then (matDesc o.snap.d).nrow else 0)).find? ((s.core c).rowDue o) with
      | some j => s.streamRow c o j
      | none => s
    s.startBag c (((s.core c).op id).getD o)

/-- An M operation's counts fall by a cycle, and it completes when its token's cycle is this one. -/
def State.bagTick (s : State) (c : BitVec 8) (id : Nat) : State :=
  match (s.core c).op id with
  | none => s
  | some o =>
    if o.ending then (s.endBag c o).updCore c fun k => k.updOp id fun o => { o with wait := 0 }
    else s.updCore c fun k => k.updOp id fun o => { o with age := o.age + 1, occ := o.occ - 1, wait := o.wait - 1 }

/-- The end of a cycle of core `c`'s M unit: what may begin begins, and then counts fall; both in issue order. -/
def State.bagCycle (s : State) (c : BitVec 8) : State :=
  let ids := ((s.core c).ops.filter fun o => decide (o.port = 3)).map (·.id)
  if ids.isEmpty then s else ids.foldl (fun s i => s.bagTick c i) (ids.foldl (fun s i => s.bagBegin c i) s)

/-- What a core's M unit does between two issue cycles; and the cycle counts in the order of landings. -/
def State.coreCycle (s : State) (c : BitVec 8) : State :=
  let k := s.core c
  if (k.ops.any fun o => decide (o.port = 3)) || !k.pool.land.isEmpty then
    (if (s.removedNext c).isSome then s else (s.setCore c { k with clock := k.clock + 1 }).bagCycle c)
  else s

/-! ## Scoreboard entries (03 R75) -/

/-- The entry at position `i`. -/
def Core.dropEntry (c : Core) (i : Nat) : Core := { c with sb := c.sb.eraseIdx i }

/-- Source contents are captured. -/
def Core.capture (c : Core) (o : EngineOp) : Core := c.updOp o.id fun o => { o with cap := some (o.cap.getD (c.pool.sp, c.pool.psn)) }

/-- A write-back has read its slot: 64 line stores of class 0 leave, and the way is valid again (10 R225). -/
def Core.sendWriteBack (c : Core) (i : Nat) (key : Nat) (home : PAddr) (lo po : Nat) : Core :=
  let c := (List.range 64).foldl
    (fun c l =>
      let a : PAddr := match home with
        | .stack pa => .stack (pa + BitVec.ofNat 39 (64 * l))
        | .fabric f ra => .fabric f (ra + BitVec.ofNat 52 (64 * l))
      let off := lo + 64 * l
      let id := c.nid
      let psn := c.spPoisoned off 64
      let c := c.pushReq .store 0 { target := a, off := 64 * l, n := 64 } (c.spRead off 64) scopeOfBack 0
      { c with mq := c.mq.map fun r => if r.id = id then { r with psn := psn, po := po } else r }) c
  let e := mapGet Init.tagEntry c.pool.tagt key
  let e := if e.st = 3 then { e with st := 2 } else e
  { c.dropEntry i with pool := { c.pool with tagt := mapSet Init.tagEntry c.pool.tagt key e } }
where
  scopeOfBack : BitVec 3 := 4

/-- Whether a scoreboard entry is an operation's index list. -/
def isListEntry (o : EngineOp) (e : SbEntry) : Bool :=
  let g := gatherDesc o.snap.d
  !e.dest && decide (g.lstSp = 0) && decide (e.lo = listAt o) && decide (e.hi = listAt o + 8 * g.nent - 1)

/-- Whether it is its table's: a source of a gather, a destination of a scatter (10 R222). -/
def isTableEntry (o : EngineOp) (e : SbEntry) : Bool :=
  decide (o.name = .gath ∨ o.name = .scat) && decide ((gatherDesc o.snap.d).tblSp = 0) && decide (e.lo = tableAt o)
    && decide (e.dest = decide (o.name = .scat))

/-- A table's entry narrows to the rows that the list, now read whole, names; with none it retires (10 R222). -/
def State.narrow (s : State) (c : BitVec 8) (o : EngineOp) (i : Nat) (e : SbEntry) : State :=
  let s := if o.list.isNone then s.readList c o else s
  match (s.core c).op o.id with
  | some o =>
    match namedRows (s.core c).ctx.pw o (o.list.getD []) with
    | some (lo, hi) => s.updCore c fun k => { k with sb := k.sb.set i { e with lo := lo, hi := hi } }
    | none => s.updCore c fun k => k.dropEntry i
  | none => s

/-- An operation's scoreboard entry retires before its completion: a source that has been read, a list, or a table that narrows. -/
def State.retireEntry (s : State) (c : BitVec 8) (o : EngineOp) (i : Nat) (e : SbEntry) : State :=
  let drop (s : State) : State := s.updCore c fun k => k.dropEntry i
  let take : State := drop (s.updCore c fun k => k.capture o)
  let listed := decide (o.name = .gath ∨ o.name = .scat)
  let list := listed && isListEntry o e && decide (!isTableEntry o e ∨ ((s.core c).sb.filter fun x => decide (x = e)).length = 2)
  let table := isTableEntry o e && !list
  if (s.core c).mayStart o = false then s
  else if o.name = .rpkX ∨ o.name = .rpkF then
    if o.sent then s else drop ((s.updCore c fun k => k.capture o).sendPacket c (match ((s.core c).capture o).op o.id with
      | some o => o
      | none => o))
  else if list && o.list.isSome then drop s
  else if list then drop ((s.updCore c fun k => k.capture o).readList c (match ((s.core c).capture o).op o.id with
    | some o => o
    | none => o))
  else if s.inp.flag then (if table then s.narrow c o i e else s)
  else if e.dest then s
  else if table && decide (o.name = .gath) then (if o.settled then drop s else s)
  else if o.port = 3 ∧ (s.core c).bagReady o = false then s
  else take

/-- SCOREBOARD_ENTRY_RETIRE: the entry at position `p` of core `c`'s scoreboard; with `flag`, a table's entry narrows instead. -/
def execScoreboardEntryRetire (s : State) : Host.Outcome State Fault Refusal :=
  let c := s.inp.c
  .next (match (s.core c).sb[s.inp.p]? with
    | none => s
    | some e =>
      match e.slot, e.home with
      | some key, some home => s.updCore c fun k => k.sendWriteBack s.inp.p key home e.lo e.op
      | some _, none => s
      | none, _ =>
        match (s.core c).op e.op with
        | some o => s.retireEntry c o s.inp.p e
        | none => s)

/-! ## Cache fills (10 R224, R225, R228) -/

/-- Whether a write-back that an earlier PWB began has still to read its slot, with bytes of a place in its block (10 R225). -/
def Core.writingBack (c : Core) (po : Nat) (a : PAddr) (n : Nat) : Bool :=
  c.sb.any fun e => decide (e.op < po) && match e.home with
    | some h => h.meets 4096 a n
    | none => false

/-- Whether a fill may be read: earlier accesses of its class to the block have performed, write-backs among them, and no earlier acquire is
outstanding. -/
def Core.fillReady (c : Core) (id : Nat) (inv : Bool) (a : PAddr) : Bool :=
  (c.mq.all fun r =>
    !(decide (r.po < id) && (r.acq || (!inv && !r.performed && !c.heldReq r && decide (r.cls = 0 ∨ r.cls = 4)
      && r.piece.target.meets r.piece.n a 4096))))
    && (inv || !c.writingBack id a 4096)

/-- Whether a window that passed a fill's translation has been rewritten by the time it left (01 R24). -/
def State.fillRefused (s : State) (c : BitVec 8) : PAddr → Option Nat
  | .stack pa => if s.gatePasses (s.partOfCore c) pa.toNat true false then none else some pa.toNat
  | .fabric _ _ => none

/-- What a fill reads, as the gates meet it. -/
def State.fillRead (s : State) (c : BitVec 8) (home : PAddr) : State × Option Blk := match s.fillRefused c home with
  | some pa => (s.logError (16 + pa / 2 ^ 36) 194 { cls := 1, code := 0x0306, atype := 2, addr := pa }, none)
  | none => s.placeBlk (s.partOfCore c) home 4096

/-- A fill's block arrives; an aborted one is poison, with 0x0304 at the memory port (17 R333, 20 R393). -/
def State.fillBlock (s : State) (c : BitVec 8) (home : PAddr) : State × Blk :=
  match s.fillRead c home with
  | (s, some b) => (s, b)
  | (s, none) =>
    let (at_, addr) := home.report
    let s := s.engineLost c 3 home
    (s.coreError c 3 { cls := 2, code := 0x0304, atype := at_, addr := addr }, { x := 0, psn := onesAt 0 4096, bad := 0 })

/-- Held stores of the member overlay what an access of its own reads (19 R367): byte `i` of `n` at a place. -/
def Core.overlay (c : Core) (id cls : Nat) (a : PAddr) (n x : Nat) : Nat :=
  (c.mq.filter fun r => decide (r.po < id) && r.writes && c.heldReq r && decide (r.cls = cls ∨ r.cls = 4) && decide (r.kind = .store)).foldl
    (fun x r =>
      match a.within r.piece.target with
      | some d =>
        (List.range r.piece.n).foldl
          (fun x (i : Nat) => let at_ := d + (i : Int)
            if 0 ≤ at_ ∧ at_ < n then withField x (8 * at_.toNat + 7) (8 * at_.toNat) (bytesOf r.data i 1) else x) x
      | none => x) x

/-- CACHE_FILL_COMPLETE: the fill at position `p` of core `c`'s scoreboard: the slot holds the block, the way becomes valid (or invalid when a
PINV met it), and the entry retires.  A fabric device that aborts leaves the slot poisoned (17 R333). -/
def execCacheFillComplete (s : State) : Host.Outcome State Fault Refusal :=
  let c := s.inp.c
  .next (match (s.core c).sb[s.inp.p]? with
    | none => s
    | some e =>
      match e.slot, e.home with
      | some key, none =>
        let t := mapGet Init.tagEntry (s.core c).pool.tagt key
        if !(s.core c).fillReady e.op t.inv t.home then s
        else s.withAccess c e.op 0 0 [(some t.home, 4096)] [] fun s =>
          let (s, b) := s.fillBlock c t.home
          s.updCore c fun k =>
            let b := if t.inv then b else { b with x := k.overlay e.op 0 t.home 4096 b.x }
            let k := (k.spPut e.lo 4096 b).dropEntry s.inp.p
            let t' : TagEntry := if t.drop then Init.tagEntry else { t with st := 2, dirty := false }
            { k with pool := { k.pool with tagt := mapSet Init.tagEntry k.pool.tagt key t' } }
      | _, _ => s)

end Sys2Proof.Machine
end

