-- ==== Sys2Proof/Machine/Channel.lean ====
section
/-! DEFINITION. Ordinary requests: when one may leave its core, the controller's cycle, atomics at their home, the byte budget and refresh (01 R27, R28, 10 R227-R232, 11 R255, R263, 13 R279-R284, R292, 20 R376-R379). -/

namespace Sys2Proof.Machine

/-! ## When a request may leave its core (10 R225, R228, R230, R249, 11 R263) -/

/-- The operation of an engine that a release need not wait for: a bank operation, whose accesses are no events of its member, and a packet already
sent by a member that is not its tree's root, which writes nothing. -/
def EngineOp.freeOfRelease (o : EngineOp) (root : Bool) : Bool :=
  decide (o.name = .bankld ∨ o.name = .bankgo) || (decide (o.name = .rpkX ∨ o.name = .rpkF) && o.sent && !root)

/-- Whether a core is the root of the tree that a packet operation names. -/
def State.sendsAsRoot (s : State) (c : BitVec 8) (o : EngineOp) : Bool :=
  decide (treeRoot (s.tree (cbOf c) (packetTree o.snap.d)) = localOf c)

/-- Whether a request comes before another of its member in program order. -/
def MemReq.before (q r : MemReq) : Bool := decide (q.po < r.po ∨ (q.po = r.po ∧ q.id < r.id))

/-- Whether two requests of one member, `q` the earlier, take effect in program order: overlapping bytes of one alias class, or either of them an LDA,
STL or atomic; an atomic behind a store to its line as well (10 R249); LDGI is ordered against none. -/
def MemReq.ordered (q r : MemReq) : Bool :=
  decide (q.cls ≠ 5 ∧ r.cls ≠ 5) && decide (q.cls = r.cls ∨ q.cls = 4 ∨ r.cls = 4)
    && (q.piece.target.meets q.piece.n r.piece.target r.piece.n
      || (decide (q.kind = .store) && r.writes && decide (r.kind ≠ .store) && decide (lineOf q.piece.target = lineOf r.piece.target)))

/-- Whether a cache fill that an earlier PROBE queued is still to be read, and must come before a request: one to its block, of its class or ordered
against every class, or a release. -/
def Core.fillBefore (c : Core) (r : MemReq) : Bool :=
  c.sb.any fun e =>
    match e.slot, e.home with
    | some key, none =>
      let t := mapGet Init.tagEntry c.pool.tagt key
      decide (e.op < r.po) && (r.rel || (decide (r.cls = 0 ∨ r.cls = 4) && !t.inv && t.home.meets 4096 r.piece.target r.piece.n))
    | _, _ => false

/-- Whether a write-back that an earlier PWB began has still to read its slot, and must come before a request: one to its block, of class 0 or
ordered against every class, or a release. -/
def Core.backBefore (c : Core) (r : MemReq) : Bool :=
  (decide (r.cls = 0 ∨ r.cls = 4) && c.writingBack r.po r.piece.target r.piece.n)
    || (r.rel && c.sb.any fun e => e.home.isSome && decide (e.op < r.po))

/-- Bundles of the open segment that the trailing core has issued, two cycles after the leading core, and compared by now (19 R362, R364). -/
def Core.comparedTo (k : Core) : Nat := (k.seg.sigAt.filter fun t => decide (t + 3 ≤ k.ctx.cycle.toNat)).length

/-- Whether a protected member's request is one of its segment's atomics that are sent once, and the cores have still to compare it: its bundle opened
the segment (19 R365, R367). -/
def Core.uncompared (k : Core) (r : MemReq) : Bool :=
  k.prot && (k.seg.atoms.any fun a => decide (a.1 = r.id)) && (decide (k.comparedTo = 0) || decide (k.seg.bad ≠ 0) || k.seg.restoring)

/-- Whether a request may leave its core. -/
def State.reqReady (s : State) (c : BitVec 8) (r : MemReq) : Bool :=
  let k := s.core c
  !k.heldReq r && !r.sent && !k.uncompared r && !k.fillBefore r && !k.backBefore r
    && (k.mq.all fun q => !q.before r || (!q.acq && !(q.ordered r && !(k.heldReq q && !r.writes)) && !r.rel))
    && (!r.rel || k.ops.all fun o => !decide (o.id < r.po) || o.freeOfRelease (s.sendsAsRoot c o))

/-- The request with a number. -/
def Core.req (c : Core) (id : Nat) : Option MemReq := c.mq.find? fun r => decide (r.id = id)

def Core.updReq (c : Core) (id : Nat) (f : MemReq → MemReq) : Core := { c with mq := c.mq.map fun r => if r.id = id then f r else r }

def Core.dropReq (c : Core) (id : Nat) : Core := { c with mq := c.mq.filter fun r => decide (r.id ≠ id) }

/-! ## Requests that end in an abort -/

/-- A request is aborted by the reset of the bulkhead it has entered (17 R336): 0x0602 at the requester's memory port, which kills its task. -/
def State.resetAbort (s : State) (c : BitVec 8) (r : MemReq) : State :=
  let (at_, addr) := r.piece.target.report
  ((s.updCore c fun k => k.dropReq r.id).coreError c 3 { cls := 3, code := 0x0602, atype := at_, addr := addr }).killCore c 0x0602

/-- A request of a member ends in an abort (17 R333, 20 R393): a load's destination is poisoned with 0x0304; a write is lost, with 0x0305, and the task
is killed.  For one that a gate stops, the records at the requester are the model's choice (log 44). -/
def State.abortReq (s : State) (c : BitVec 8) (r : MemReq) : State :=
  let (at_, addr) := r.piece.target.report
  match r.kind with
  | .load _ =>
    (s.updCore c fun k => k.updReq r.id fun r => { r with sent := true, left := 0, data := 0, psn := true }).coreError c 3
      { cls := 2, code := 0x0304, atype := at_, addr := addr }
  | _ => ((s.updCore c fun k => k.dropReq r.id).coreError c 3 { cls := 3, code := 0x0305, atype := at_, addr := addr }).killCore c 0x0305

/-! ## Fabric requests (11 R256, 20 R392, R393) -/

/-- A request to a fabric page leaves on the port of its link bulkhead, unless that is held. -/
def State.sendFabric (s : State) (c : BitVec 8) (r : MemReq) (fid : BitVec 12) (raddr : BitVec 52) : State :=
  let lb := s.linkOf (s.partOfCore c) fid raddr
  if s.linkHolds lb 0 then s
  else
    match s.portOf lb with
    | none => s.abortReq c r
    | some i =>
      let q : FabReq :=
        { tag := fabTag c r.id, core := c, req := r.id, fid := fid, raddr := raddr, n := r.piece.n, write := r.writes, data := r.data, sentAt := s.ns
          port := i }
      { (s.sendOn q.tag (if r.writes then r.piece.n else 0) i).updCore c fun k => k.updReq r.id fun r => { r with sent := true, left := 1 } with fab := s.fab ++ [q] }

/-! ## A request to a stack leaves -/

/-- How the gates meet a core's request to a stack as it leaves (01 R22-R24, 17 R333, R336, 20 R394). -/
inductive Leaving where
  /-- The memory bulkhead is held in reset. -/
  | down
  /-- A window that passed its translation has been rewritten. -/
  | refused
  /-- Its data is poison, and it goes to another partition. -/
  | poison
  | passes
deriving DecidableEq, Repr

def State.leaving (s : State) (c : BitVec 8) (r : MemReq) (pa : Nat) : Leaving :=
  let p := s.partOfCore c
  if s.stackDown (pa / 2 ^ 36) then .down
  else if !s.gatePasses p pa (!r.writes) r.writes then .refused
  else if r.psn && r.writes && s.crosses p pa then .poison
  else .passes

/-- Its columns. -/
def MemReq.cols (r : MemReq) (pa : Nat) : List (Nat × Bool) := (columnsOf pa r.piece.n).map fun a => (a, r.writes)

/-- The request's columns begin to enter their queue. -/
def State.sendColumns (s : State) (c : BitVec 8) (r : MemReq) (pa : Nat) : State :=
  (s.updCore c fun k => k.updReq r.id fun x => { x with sent := true, left := (r.cols pa).length }).newAsk (.port c r.id) 0 (r.cols pa)

/-- A request to a stack leaves, as the gates meet it. -/
def State.sendStack (s : State) (c : BitVec 8) (r : MemReq) (pa : Nat) : State :=
  match s.leaving c r pa with
  | .down => s.resetAbort c r
  | .refused => (s.logError (16 + pa / 2 ^ 36) 194 { cls := 1, code := 0x0306, atype := 2, addr := pa }).abortReq c r
  | .poison => (s.gateStops pa).abortReq c r
  | .passes => s.sendColumns c r pa

/-- ORDINARY_REQUEST: request `id` of core `c` leaves, once it may: its columns reach their pseudo-channel's queue, each when nothing holds it, or it
leaves on the fabric. -/
def execOrdinaryRequest (s : State) : Host.Outcome State Fault Refusal :=
  let c := s.inp.c
  .next (match (s.core c).req s.inp.id with
    | none => s
    | some r =>
      if !s.reqReady c r then s
      else match r.piece.target with
        | .fabric fid ra => s.sendFabric c r fid ra
        | .stack pa => s.sendStack c r pa.toNat)

/-! ## A column command (13 R279-R282, 20 R376) -/

/-- The part of a request's bytes that one column holds: offset within the request, and length. -/
def partIn (pa n col : Nat) : Nat × Nat :=
  let lo := max pa col
  (lo - pa, min (pa + n) (col + 32) - lo)

/-- A column of a load is read; poison from another partition is stopped at the gate (17 R333). -/
def State.serveLoad (s : State) (c : BitVec 8) (r : MemReq) (i a n : Nat) : State :=
  let x := s.ordRead a n
  let psn := s.ordPoisoned a n
  let s := s.sawArray a n
  if psn && s.crosses (s.partOfCore c) a then (s.gateStops a).abortReq c r
  else
    let t := s.ns + (s.stack (a / 2 ^ 36)).tCl
    s.updCore c fun k => k.updReq r.id fun r =>
      { r with data := r.data ||| x <<< (8 * i), left := r.left - 1, psn := r.psn || psn, readyAt := max r.readyAt t }

/-- A column of a core's request is served: a load reads, a store writes, an atomic has reached its home. -/
def State.servePort (s : State) (c : BitVec 8) (r : MemReq) (pa col : Nat) : State :=
  let (i, n) := partIn pa r.piece.n col
  let a := pa + i
  match r.kind with
  | .load _ => if r.left = 0 then s else s.serveLoad c r i a n
  | .store =>
    (s.physWrite a n (bytesOf r.data i n) r.psn).updCore c fun k =>
      if r.left ≤ 1 then k.dropReq r.id else k.updReq r.id fun r => { r with left := r.left - 1 }
  | .atomic _ _ _ _ => s.updCore c fun k => k.updReq r.id fun r => { r with left := 0, readyAt := s.ns + (s.stack (a / 2 ^ 36)).tCl }

/-- A column of a write whose core has been reset is served: it is written as it would have been (17 R336). -/
def State.servePast (s : State) (r : MemReq) (pa col : Nat) : State :=
  let (i, n) := partIn pa r.piece.n col
  match r.kind with
  | .load _ => s
  | .store => s.physWrite (pa + i) n (bytesOf r.data i n) r.psn
  | .atomic op sz x2 _ =>
    let m := atomBytes sz
    s.physWrite pa m (atomApply op sz (s.physRead pa m) r.data x2) (s.physPoisoned pa m || r.psn)

/-- An access all of whose columns have been served is forgotten. -/
def State.endAsk (s : State) (who : Requester) : State :=
  { s with asks := s.asks.filter fun a => !(decide (a.who = who) && a.todo.isEmpty && decide (a.out = 0)) }

/-- A column command is performed. -/
def State.serve (s : State) (q : ColReq) : State :=
  let t := s.servedAsk q.who (s.ns + (s.stack (q.pa / 2 ^ 36)).tCl)
  match q.who with
  | .port c id =>
    let t := t.endAsk q.who
    match (t.core c).req id with
    | none => t
    | some r => match r.piece.target with
      | .stack pa => t.servePort c r pa.toNat q.pa
      | .fabric _ _ => t
  | .past r =>
    let t := t.endAsk q.who
    match r.piece.target with
    | .stack pa => t.servePast r pa.toNat q.pa
    | .fabric _ _ => t
  | _ => t

/-- Whether a column command of a core's request must wait for translations in use (11 R255). -/
def State.colHeld (s : State) (q : ColReq) : Bool := match q.who with
  | .port c id => match (s.core c).req id with
    | some r => r.writes && s.dirWaits c r.po r.piece.target r.piece.n
    | none => false
  | _ => false

/-- Whether a write is held because the page it goes to is being switched (20 R383 step 3). -/
def Stack.holdsWrite (t : Stack) (q : ColReq) : Bool := q.write && t.holdsPage q.pa

/-- The commands a request may need next. -/
inductive Command where
  | column | activate | precharge
deriving DecidableEq, Repr

/-- The next command of a request. -/
def PChan.commandFor (p : PChan) (q : ColReq) : Command :=
  if mapGet 0 p.rows q.bank = q.row + 1 then .column else if mapGet 0 p.rows q.bank = 0 then .activate else .precharge

/-- Whether a bank serves a request: no program holds it, or its arbitration window is open for the request; and no refresh occupies it. -/
def State.bankServes (s : State) (p : PChan) (q : ColReq) : Bool :=
  (!p.runs q.bank || (decide ((p.bank q.bank).winLeft ≠ 0) && q.win)) && decide (mapGet 0 p.busy q.bank ≤ s.ns)

/-- Whether that command is allowed (13 R279, 20 R377). -/
def State.allowed (s : State) (k : Nat) (p : PChan) (q : ColReq) : Bool :=
  let t := s.stack k
  s.bankServes p q &&
    match p.commandFor q with
    | .column => since p.actAt q.bank s.ns t.tRcd && since p.colAt q.bank s.ns t.tCcd && !s.colHeld q && !t.holdsWrite q
    | .activate =>
      since p.preAt q.bank s.ns t.tRp && since p.actAt q.bank s.ns t.tRc && decide (mapGet 0 p.actHold (rowKey q.bank q.row) ≤ s.ns)
    | .precharge => since p.actAt q.bank s.ns t.tRas

/-- Whether a request is aged. -/
def State.isAged (s : State) (k : Nat) (q : ColReq) : Bool := q.aged || decide (q.at_ + (s.stack k).ageCap ≤ s.ns)

/-- The oldest of some requests, with its position in the queue; the first of equals. -/
def oldest (l : List (Nat × ColReq)) : Option (Nat × ColReq) :=
  l.foldl (fun m x => match m with
    | some y => if x.2.at_ < y.2.at_ then some x else m
    | none => some x) none

/-- The request whose command issues in this cycle, by position in the queue; none when a command has issued in it (13 R282). -/
def State.choose (s : State) (k : Nat) (p : PChan) : Option Nat :=
  if p.lastCmd = s.ns + 1 then none
  else
    let l := p.queue.mapIdx fun i q => (i, q)
    let aged := oldest (l.filter fun x => s.isAged k x.2)
    let held (q : ColReq) : Bool := aged.any fun x => decide (x.2.at_ < q.at_)
    let ok := l.filter fun x => s.allowed k p x.2 && !(decide (p.commandFor x.2 = .column) && held x.2)
    match oldest (ok.filter fun x => decide (p.commandFor x.2 = .column)) with
    | some x => some x.1
    | none => (oldest ok).map (·.1)

/-- The times of 0x0401 in a page within the last second. -/
def Stack.recentEcc (t : Stack) (ns page : Nat) : List (Nat × Nat) := t.eccAt.filter fun x => decide (x.1 = page) && decide (ns < x.2 + 1000000000)

/-- A page that calls for its retirement is remembered. -/
def Stack.markBad (t : Stack) (page : Nat) : Stack := { t with badPages := if t.badPages.contains page then t.badPages else t.badPages ++ [page] }

/-- A column's error (20 R376, R381): 1 a byte corrected, the eighth of its page within a second being remembered; 2 uncorrectable: the column is
poison; 3 a parity failure. -/
def State.columnError (s : State) (k pc pa : Nat) (err : BitVec 2) : State :=
  let page := pa % 2 ^ 36 / 2 ^ 14
  let report (s : State) (cls code synd : Nat) : State :=
    s.logError (stackBank k) pc { cls := cls, code := code, atype := 2, addr := pa, synd := synd }
  if err = 1 then
    let x := (Config.syndrome s.nfree).toNat % 32
    (report s.takeFree 1 0x0401 x).updStack k fun t =>
      let t := { t with eccAt := t.eccAt ++ [(page, s.ns)] }
      if 8 ≤ (t.recentEcc s.ns page).length then t.markBad page else t
  else if err = 2 then
    let s := ({ s with poison := mapSet false s.poison (s.redirect pa / 32) true } : State).markDirty pa 32
    (report s 2 0x0402 0).updStack k fun t => t.markBad page
  else if err = 3 then report s.takeFree 1 0x0406 ((Config.syndrome s.nfree).toNat % 16)
  else s

/-! ## The arbitration window (13 R292) -/

/-- The requests to a bank that stand in its queue. -/
def PChan.requestsOf (p : PChan) (bank : Nat) : List ColReq := p.queue.filter fun q => decide (q.bank = bank)

/-- A window closes: requests left mark the next one, which opens after the bank has run a row. -/
def PChan.closeWindow (p : PChan) (bank : Nat) : PChan :=
  ({ p with queue := p.queue.map fun q => if q.bank = bank then { q with win := false } else q } : PChan).updBank bank fun b =>
    { b with winLeft := 0, window := !(p.requestsOf bank).isEmpty, ranRow := false }

/-- A window has served one request, which has left the queue. -/
def PChan.windowServed (p : PChan) (bank : Nat) : PChan :=
  if !p.runs bank then p
  else if (p.bank bank).winLeft ≤ 1 then p.closeWindow bank
  else p.updBank bank fun b => { b with winLeft := b.winLeft - 1 }

/-- A window opens: a refresh that is due comes first, and up to WINREQ of the requests in the queue may then be served. -/
def State.openWindow (s : State) (k pc bank : Nat) : State :=
  let s := s.refreshBank k pc bank
  let can (q : ColReq) : Bool := decide (q.bank = bank) && !s.colHeld q
  let n := min (s.stack k).winReq ((s.chan k pc).queue.filter can).length
  if n = 0 then s.updChan k pc fun p => p.closeWindow bank
  else
    s.updChan k pc fun p =>
      ({ p with queue := p.queue.map fun q => if can q then { q with win := true } else q } : PChan).updBank bank fun b => { b with winLeft := n }

/-- Whether a bank may open its window: it stands at a row boundary, and has run a row since its last one.  A bank that the byte budget or a takeover
suspends there, or that a takeover holds at a WAITS, runs none, and opens one window after another, since traffic is served meanwhile (13 R283, 20 R379;
13 R292 has a row between two windows: DESIGN CHOICE, log 48). -/
def State.windowDue (s : State) (k pc bank : Nat) : Bool :=
  let p := s.chan k pc
  let b := p.bank bank
  b.window && (b.ranRow || b.susp || (b.atWaits && (s.stack k).takeover.isSome)) && b.row.isNone
    && since p.preAt bank s.ns (s.stack k).tRp && decide (mapGet 0 p.busy bank ≤ s.ns)

/-- ARBITRATION_WINDOW: a bank with a window marked that stands at a row boundary suspends and its window opens; an ordinary row that the last window
left open is precharged before a refresh.  An open window none of whose requests can be served closes. -/
def execArbitrationWindow (s : State) : Host.Outcome State Fault Refusal :=
  let k := s.inp.k.toNat
  let pc := s.inp.pc.toNat
  let bank := s.inp.bank.toNat
  let p := s.chan k pc
  .next (if !p.runs bank then s
    else if (p.bank bank).winLeft ≠ 0 then
      if (p.queue.filter fun q => decide (q.bank = bank) && q.win).all s.colHeld then s.updChan k pc fun p => p.closeWindow bank else s
    else if !s.windowDue k pc bank then s
    else if mapGet 0 p.rows bank ≠ 0 ∧ mapGet 0 p.refDue bank ≠ 0 then (if s.rasMet k pc bank then s.closeRow k pc bank else s)
    else s.openWindow k pc bank)

/-! ## The controller's cycle -/

/-- A command issues. -/
def State.command (s : State) (k pc i : Nat) (err : BitVec 2) : State :=
  let s := s.updChan k pc fun p => { p with lastCmd := s.ns + 1 }
  let p := s.chan k pc
  match p.queue[i]? with
  | none => s
  | some q =>
    if err = 3 then s.columnError k pc q.pa 3
    else
      match p.commandFor q with
      | .activate =>
        s.setChan k pc { p with rows := mapSet 0 p.rows q.bank (q.row + 1), actAt := mapSet 0 p.actAt q.bank (s.ns + 1) }
      | .precharge => s.closeRow k pc q.bank
      | .column =>
        let p : PChan := { p with queue := p.queue.eraseIdx i, colAt := mapSet 0 p.colAt q.bank (s.ns + 1) }
        ((s.setChan k pc (p.windowServed q.bank)).columnError k pc q.pa err).serve q

/-- CONTROLLER_CYCLE: one cycle of pseudo-channel `pc` of stack `k`, with the error `err` that its command meets; columns that wait to enter a queue are
tried first.  With `stale`, a read returns a copy that the controller holds staged (13 R294). -/
def execControllerCycle (s : State) : Host.Outcome State Fault Refusal :=
  let k := s.inp.k.toNat
  let pc := s.inp.pc.toNat
  let t := s.retryAsks
  .next (if 192 ≤ pc then s
    else match t.choose k (t.chan k pc) with
    | none => t
    | some i => t.command k pc i s.inp.err)

/-- REQUEST_AGED: the request at position `p` of a queue has reached AGECAP. -/
def execRequestAged (s : State) : Host.Outcome State Fault Refusal :=
  let k := s.inp.k.toNat
  let pc := s.inp.pc.toNat
  .next (match (s.chan k pc).queue[s.inp.p]? with
    | none => s
    | some q =>
      if q.at_ + (s.stack k).ageCap ≤ s.ns then s.updChan k pc fun p => { p with queue := p.queue.set s.inp.p { q with aged := true } } else s)

/-! ## Atomics at their home (10 R230) -/

/-- An atomic is applied at its home: the old value reaches its landing, or, while responses are stopped (01 R29), waits as a load's data does; poison
it combines is consumed and stays (17 R332), and the answer with it is stopped at another partition's gate (R333). -/
def State.applyAtomic (s : State) (c : BitVec 8) (r : MemReq) : State :=
  match r.kind, r.piece.target with
  | .atomic op sz x2 l, .stack pa =>
    let n := atomBytes sz
    let old := s.physRead pa.toNat n
    let psn := s.physPoisoned pa.toNat n || r.psn
    let s := s.physWrite pa.toNat n (atomApply op sz old r.data x2) psn
    let gate := psn && s.crosses (s.partOfCore c) pa.toNat
    let back := if gate then 0 else old
    let held := s.stopped (cbOf c) 1 || s.stopped (16 + pa.toNat / 2 ^ 36) 1
    let s := s.updCore c fun k =>
      let k := { k with seg := { k.seg with atoms := k.seg.atoms.map fun (a : Nat × Option Nat) => if a.1 = r.id then (a.1, some back) else a } }
      match l with
      | some l => if held then k.updReq r.id fun r => { r with kind := .load l, cls := 5, data := back, psn := psn } else (k.dropReq r.id).fillLanding l back psn
      | none => k.dropReq r.id
    let s := if gate then s.gateStops pa.toNat else s
    if psn then s.consume c 3 2 pa.toNat else s
  | _, _ => s

/-- Whether an atomic's column command has issued, its data is out of the bank (13 R279), and nothing holds it. -/
def State.atomicReady (s : State) (c : BitVec 8) (r : MemReq) : Bool :=
  r.sent && decide (r.left = 0) && decide (r.readyAt ≤ s.ns) && match r.piece.target with
    | .stack _ => !s.dirWaits c r.po r.piece.target r.piece.n
    | .fabric _ _ => false

/-- ATOMIC_HOME_APPLY: atomic `id` of core `c`, whose column command has issued, is applied. -/
def execAtomicHomeApply (s : State) : Host.Outcome State Fault Refusal :=
  let c := s.inp.c
  .next (match (s.core c).req s.inp.id with
    | none => s
    | some r => if s.atomicReady c r then s.applyAtomic c r else s)

/-! ## Budget and refresh (01 R28, 13 R284, 20 R379) -/

/-- Suspended banks of a channel resume. -/
def PChan.resume (p : PChan) : PChan :=
  (List.range 32).foldl (fun p i => if (p.bank i).susp then p.updBank i fun b => { b with susp := false } else p) p

/-- Suspended banks of a stack resume, when nothing holds them. -/
def State.resumeBanks (s : State) (k : Nat) : State :=
  let t := s.stack k
  if t.count ≤ 0 ∨ t.takeover.isSome then s else (t.chans.map (·.1)).foldl (fun s pc => s.updChan k pc fun p => p.resume) s

/-- BUDGET_INTERVAL: the count of every stack is topped up by its budget, capped at it; banks suspended by it resume (01 R28). -/
def execBudgetInterval (s : State) : Host.Outcome State Fault Refusal :=
  .next ((List.range 8).foldl
    (fun s k =>
      let s := s.updStack k fun t => { t with count := min (t.count + t.budget) t.budget }
      s.resumeBanks k) s)

/-- Intervals of 3.9 µs that have begun since a bank's were last counted are counted as refreshes due, up to the allowance of eight (13 R284). -/
def PChan.countRefresh (p : PChan) (ns bank : Nat) : PChan :=
  let n := ns / 3900 + 1
  { p with refDue := mapUpd 0 p.refDue bank fun d => min 8 (d + (n - mapGet 0 p.refAt bank)), refAt := mapSet 0 p.refAt bank n }

/-- What is due at a bank is performed, when it stands at no program's row and in no window; an ordinary row is precharged first. -/
def State.refreshNow (s : State) (k pc bank : Nat) : State :=
  let p := s.chan k pc
  if (p.bank bank).row.isSome ∨ (p.bank bank).winLeft ≠ 0 then s
  else if mapGet 0 p.rows bank = 0 then s.refreshBank k pc bank
  else if s.rasMet k pc bank then (s.closeRow k pc bank).refreshBank k pc bank
  else s

/-- REFRESH_DUE: the refreshes due at a bank are counted, and performed; a bank with a program's row open postpones them to its row boundary. -/
def execRefreshDue (s : State) : Host.Outcome State Fault Refusal :=
  let k := s.inp.k.toNat
  let pc := s.inp.pc.toNat
  let bank := s.inp.bank.toNat
  .next (if 192 ≤ pc then s else (s.updChan k pc fun p => p.countRefresh s.ns bank).refreshNow k pc bank)

/-- Nanoseconds without a heartbeat after which the slices take refresh over; and of heartbeats after which they hand it back (20 R379). -/
def takeoverAfter : Nat := 4500
def handbackAfter : Nat := 10000

/-- BDC_HEARTBEAT: a heartbeat of the BDC reaches stack `k`'s slices. -/
def execBdcHeartbeat (s : State) : Host.Outcome State Fault Refusal :=
  .next (s.updStack s.inp.k.toNat fun t =>
    { t with beat := s.ns, beatsFrom := if t.beat + takeoverAfter ≤ s.ns then s.ns else t.beatsFrom })

/-- REFRESH_TAKEOVER: no heartbeat for 4.5 µs: the slices take refresh over; record 0x0404. -/
def execRefreshTakeover (s : State) : Host.Outcome State Fault Refusal :=
  let k := s.inp.k.toNat
  let t := s.stack k
  .next (if t.takeover.isSome ∨ s.ns < t.beat + takeoverAfter then s
    else
      (s.updStack k fun t => { t with takeover := some s.ns, beatsFrom := s.ns }).logError (stackBank k) 193 { cls := 1, code := 0x0404 })

/-- REFRESH_HANDBACK: heartbeats have come without a gap for 10 µs: at a boundary of the 3.9 µs intervals refresh is handed back, and what it held
resumes. -/
def execRefreshHandback (s : State) : Host.Outcome State Fault Refusal :=
  let k := s.inp.k.toNat
  let t := s.stack k
  .next (if t.takeover.isNone ∨ s.ns < t.beatsFrom + handbackAfter ∨ t.beat + takeoverAfter ≤ s.ns ∨ s.ns % 3900 ≠ 0 then s
    else (s.updStack k fun t => { t with takeover := none, holdOver := false }).resumeBanks k)

end Sys2Proof.Machine
end

