-- ==== Sys2Proof/Machine/MemPort.lean ====
section
/-! DEFINITION. Global loads, stores and atomics and the block instructions of the P port (10 R223-R232): what each does at issue. -/

namespace Sys2Proof.Machine

/-! ## Addresses -/

/-- zext(a(A), 52). -/
def gaddr (c : Core) (a : BitVec 4) : Nat := (c.ctx.getA a.toNat).toNat

/-- The lines of an access, each translated; the first that fails gives the fault (18 R349). -/
def translatePieces (s : State) (want : Want) (base : Nat) : List (Nat × Nat) → List Piece × SlotOut
  | [] => ([], {})
  | (va, n) :: rest =>
    match translated s s.cur want va with
    | (some a, _) =>
      let (ps, out) := translatePieces s want base rest
      ({ target := a, off := va - base, n := n } :: ps, out)
    | (none, out) => ([], out)

/-- An access of `n` bytes: aligned to `align`, cut into 64-byte lines and translated. -/
def gaccess (s : State) (want : Want) (align ea va n : Nat) : List Piece × SlotOut :=
  if ea % align ≠ 0 then ([], { faults := [(0x1201, BitVec.ofNat 64 ea)] })
  else translatePieces s want va (pieces 64 (n / 64 + 2) va n)

/-- Entries of the write queue in use: a line each (10 R227); the held writes of a protected member are in the hold buffer (19 R367). -/
def Core.queued (c : Core) : Nat := ((c.mq.filter fun r => r.writes && !c.heldReq r).map (·.entry)).dedup.length

/-- Whether a line's load would be held on its way: its channel is stopped, its stack's count is used up, or its queue is full (01 R28, R29, 03 R60). -/
def State.loadHeld (s : State) (p : Nat) : PAddr → Bool
  | .stack pa =>
    let k := pa.toNat / 2 ^ 36
    s.stopped (16 + k) 0 || decide ((s.stack k).count ≤ 0) || decide (64 ≤ (s.chan k (chanOf (s.redirect pa.toNat % 2 ^ 36))).queue.length)
  | .fabric fid ra => s.placeHeld p (.fabric fid ra)

/-- The freeze of a slot that needs `n` entries of the write queue; in protected mode a write that is held takes none yet, but one sent at once
(`now`) does (19 R367). -/
def queueFreeze (c : Core) (va n : Nat) (now : Bool) : List (Freeze × BitVec 64) :=
  if 64 < c.queued + n ∧ (c.prot = false ∨ now = true) then [(.portHeld, BitVec.ofNat 64 va)] else []

/-- The entries that an atomic needs: none when it joins one of the queue (10 R232). -/
def atomicEntries (c : Core) (op : AtomOp) (sz : BitVec 3) (ps : List Piece) (merges : Bool) (scope : BitVec 3) : Nat :=
  if merges && ps.any fun p => !(c.lineEntry op sz p scope).isEmpty then 0 else 1

/-- The freeze of a slot that needs a landing-buffer entry (03 R60). -/
def landFreeze (c : Core) (va : Nat) : List (Freeze × BitVec 64) := if 64 ≤ c.land.length then [(.landFull, BitVec.ofNat 64 va)] else []

/-- The SCOPE code of system scope. -/
def scopeS : BitVec 3 := 4
/-- The SCOPE code of bank scope. -/
def scopeBk : BitVec 3 := 5

/-- The 0x1206 fault of a bank scope, with the slot word. -/
def scopeFault (i : Instr) (c : Core) (scope : BitVec 3) : List (BitVec 16 × BitVec 64) :=
  if scope = scopeBk then [(0x1206, slotWord i c.iss)] else []

/-! ## Loads and stores (10 R227) -/

/-- A load of `n` bytes at a(A) into a register of a file. -/
def gload (a : BitVec 4) (align n cls file dest dist : Nat) (sz scope : BitVec 3) (s : State) (c : Core) : SlotOut :=
  let ea := gaddr c a
  let (ps, out) := gaccess s .read align ea ea n
  { out with
    effects := out.effects ++ [.load ps cls file dest dist sz scope]
    freezes := out.freezes ++ landFreeze c ea ++ if ps.any fun p => s.loadHeld (s.partOfCore s.cur) p.target then [(.portHeld, BitVec.ofNat 64 ea)] else [] }

/-- A store of `n` bytes of `data`, granules `psn` of it poison, at a(A) + off × unit.  A misaligned a(A) is reported without the offset: 0x1201's TVAL
is 'the address', and 18 R347 does not say which (DESIGN CHOICE, log 49). -/
def gstore (a : BitVec 4) (off unit align n cls data psn : Nat) (scope : BitVec 3) (s : State) (c : Core) : SlotOut :=
  let ea := gaddr c a
  let (ps, out) := gaccess s .write align ea (ea + off * unit) n
  { out with effects := out.effects ++ [.store ps cls data psn scope], freezes := out.freezes ++ queueFreeze c ea ps.length false }

/-- Bytes of the SZ code of a word access, and of a row access. -/
def szBytes (z : BitVec 3) : Nat := 2 ^ z.toNat
def rowBytes (z : BitVec 3) : Nat := 512 >>> z.toNat

/-- LDG of alias class `l`. -/
def execLdg (l : BitVec 2) (d : BitVec 6) (a : BitVec 4) (o : BitVec 5) (z : BitVec 3) (s : State) : Host.Outcome State Fault Refusal :=
  issueSlot (.ldg l d a o z) (fun s c =>
    gload a (szBytes z) (szBytes z) l.toNat 0 (c.ctx.physS d.toNat) o.toNat z scopeS s c) s

/-- LDGI: an invariant load. -/
def execLdgi (d : BitVec 6) (a : BitVec 4) (o : BitVec 5) (z : BitVec 3) (s : State) : Host.Outcome State Fault Refusal :=
  issueSlot (.ldgi d a o z) (fun s c => gload a (szBytes z) (szBytes z) 5 0 (c.ctx.physS d.toNat) o.toNat z scopeS s c) s

/-- LDGV: class 0. -/
def execLdgv (d : BitVec 6) (a : BitVec 4) (o : BitVec 5) (z : BitVec 3) (s : State) : Host.Outcome State Fault Refusal :=
  issueSlot (.ldgv d a o z) (fun s c => gload a 64 (rowBytes z) 0 1 (c.ctx.physV d.toNat) o.toNat z scopeS s c) s

/-- LDA: an acquire; its landing distance is 0, and SZ holds its scope. -/
def execLda (d : BitVec 6) (a : BitVec 4) (z : BitVec 3) (s : State) : Host.Outcome State Fault Refusal :=
  issueSlot (.lda d a z) (fun s c =>
    let out := gload a 8 8 4 0 (c.ctx.physS d.toNat) 0 3 z s c
    { out with faults := out.faults ++ scopeFault (.lda d a z) c z }) s

/-- STG of alias class `l`. -/
def execStg (l : BitVec 2) (d : BitVec 6) (a : BitVec 4) (o : BitVec 5) (z : BitVec 3) (s : State) : Host.Outcome State Fault Refusal :=
  issueSlot (.stg l d a o z) (fun s c =>
    gstore a o.toNat (szBytes z) (szBytes z) (szBytes z) l.toNat (c.ctx.getS d.toNat).toNat (c.ctx.badMask 0 (c.ctx.physS d.toNat)) scopeS s c) s

/-- STGV: class 0. -/
def execStgv (d : BitVec 6) (a : BitVec 4) (o : BitVec 5) (z : BitVec 3) (s : State) : Host.Outcome State Fault Refusal :=
  issueSlot (.stgv d a o z) (fun s c =>
    gstore a o.toNat (rowBytes z) 64 (rowBytes z) 0 (c.ctx.getV d.toNat).toNat (c.ctx.badMask 1 (c.ctx.physV d.toNat)) scopeS s c) s

/-- STL: a release; SZ holds its scope. -/
def execStl (d : BitVec 6) (a : BitVec 4) (o : BitVec 5) (z : BitVec 3) (s : State) : Host.Outcome State Fault Refusal :=
  issueSlot (.stl d a o z) (fun s c =>
    let out := gstore a o.toNat 8 8 8 4 (c.ctx.getS d.toNat).toNat (c.ctx.badMask 0 (c.ctx.physS d.toNat)) z s c
    { out with faults := out.faults ++ scopeFault (.stl d a o z) c z }) s

/-! ## Atomics (10 R230, R231) -/

/-- Whether an instruction ends a protected segment first: AXCH, ACAS and ordered atomics (19 R365). -/
def ordersSegment (ord : BitVec 2) (fetches : Bool) : Bool := fetches || decide (ord ≠ 0)

/-- An atomic at a(A) with operand `x`; `dest` takes the old value. -/
def gatomic (i : Instr) (op : AtomOp) (a : BitVec 4) (ord : BitVec 2) (scope sz : BitVec 3) (x : Nat) (x2 : BitVec 64) (dest : Option Nat)
    (s : State) (c : Core) : SlotOut :=
  let ea := gaddr c a
  let n := atomBytes sz
  let (ps, out) := gaccess s .write n ea ea n
  { out with
    effects := out.effects ++ ps.map fun p => .atomic op sz p x x2 dest scope ord
    faults := out.faults ++ scopeFault i c scope
    freezes := out.freezes ++ queueFreeze c ea (atomicEntries c op sz ps (decide (ord = 0) && dest.isNone) scope) (ordersSegment ord dest.isSome)
      ++ (if dest.isSome then landFreeze c ea else [])
    boundary := ordersSegment ord dest.isSome }

/-- The form without a result. -/
def gatomicS (i : Instr) (op : AtomOp) (d : BitVec 6) (a : BitVec 4) (ord : BitVec 2) (scope sz : BitVec 3) (s : State) (c : Core) : SlotOut :=
  gatomic i op a ord scope sz (c.ctx.getS d.toNat).toNat 0 none s c

/-- AADD. -/
def execAadd (d : BitVec 6) (a : BitVec 4) (w : BitVec 2) (k z : BitVec 3) (s : State) : Host.Outcome State Fault Refusal :=
  issueSlot (.aadd d a w k z) (gatomicS (.aadd d a w k z) .add d a w k z) s

/-- AADDF. -/
def execAaddf (d : BitVec 6) (a : BitVec 4) (w : BitVec 2) (k z : BitVec 3) (s : State) : Host.Outcome State Fault Refusal :=
  issueSlot (.aaddf d a w k z) (gatomicS (.aaddf d a w k z) .addf d a w k z) s

/-- AMIN. -/
def execAmin (d : BitVec 6) (a : BitVec 4) (w : BitVec 2) (k z : BitVec 3) (s : State) : Host.Outcome State Fault Refusal :=
  issueSlot (.amin d a w k z) (gatomicS (.amin d a w k z) .min d a w k z) s

/-- AMAX. -/
def execAmax (d : BitVec 6) (a : BitVec 4) (w : BitVec 2) (k z : BitVec 3) (s : State) : Host.Outcome State Fault Refusal :=
  issueSlot (.amax d a w k z) (gatomicS (.amax d a w k z) .max d a w k z) s

/-- AAND. -/
def execAand (d : BitVec 6) (a : BitVec 4) (w : BitVec 2) (k z : BitVec 3) (s : State) : Host.Outcome State Fault Refusal :=
  issueSlot (.aand d a w k z) (gatomicS (.aand d a w k z) .and d a w k z) s

/-- AOR. -/
def execAor (d : BitVec 6) (a : BitVec 4) (w : BitVec 2) (k z : BitVec 3) (s : State) : Host.Outcome State Fault Refusal :=
  issueSlot (.aor d a w k z) (gatomicS (.aor d a w k z) .or d a w k z) s

/-- AXOR. -/
def execAxor (d : BitVec 6) (a : BitVec 4) (w : BitVec 2) (k z : BitVec 3) (s : State) : Host.Outcome State Fault Refusal :=
  issueSlot (.axor d a w k z) (gatomicS (.axor d a w k z) .xor d a w k z) s

/-- AXCH: the old element lands at distance 31. -/
def execAxch (d : BitVec 6) (a : BitVec 4) (w : BitVec 2) (k z : BitVec 3) (s : State) : Host.Outcome State Fault Refusal :=
  issueSlot (.axch d a w k z) (fun s c =>
    gatomic (.axch d a w k z) .xch a w k z (c.ctx.getS d.toNat).toNat 0 (some (c.ctx.physS d.toNat)) s c) s

/-- ACAS: D is even, from 2 to 62, and s(D+1) is the new value. -/
def execAcas (d : BitVec 6) (a : BitVec 4) (w : BitVec 2) (k z : BitVec 3) (s : State) : Host.Outcome State Fault Refusal :=
  issueSlot (.acas d a w k z) (fun s c =>
    let out := gatomic (.acas d a w k z) .cas a w k z (c.ctx.getS d.toNat).toNat (c.ctx.getS (d.toNat + 1)) (some (c.ctx.physS d.toNat)) s c
    if d.toNat % 2 = 1 ∨ d = 0 then { out with faults := out.faults ++ [(0x1204, slotWord (.acas d a w k z) c.iss)] } else out) s

/-- The integer a value quantises to under a scale register (04 R97, R98): x × 2^(−EXP), rounded to INT64 under RND, with the conversion's
flags. -/
def quantise (qs : BitVec 16) (x : Num) : Flagged Int :=
  toIntRange (-(2 ^ 63)) (2 ^ 63 - 1) (Mode.ofFrm (qs.extractLsb' 12 2)) (x.scale (-(qs.extractLsb' 0 12).toInt))

/-- AADDQ of an element of format `f`. -/
def gquant (i : Instr) (f : FFmt) (d : BitVec 6) (a : BitVec 4) (ord : BitVec 2) (scope q : BitVec 3) (s : State) (c : Core) : SlotOut :=
  let qs := c.ctx.getQs q.toNat
  let (n, fl) := quantise qs (f.decode ((c.ctx.getS d.toNat).toNat % 2 ^ f.width))
  let out := gatomic i .add a ord scope 3 (wrapTo 64 n) 0 none s c
  { out with effects := out.effects ++ [.orFlags fl], reads := [{ file := 8, num := q.toNat, write := false, named := false }] }

/-- AADDQ.fp32. -/
def execAaddqFp32 (d : BitVec 6) (a : BitVec 4) (w : BitVec 2) (k q : BitVec 3) (s : State) : Host.Outcome State Fault Refusal :=
  issueSlot (.aaddqFp32 d a w k q) (gquant (.aaddqFp32 d a w k q) .fp32 d a w k q) s

/-- AADDQ.bf16. -/
def execAaddqBf16 (d : BitVec 6) (a : BitVec 4) (w : BitVec 2) (k q : BitVec 3) (s : State) : Host.Outcome State Fault Refusal :=
  issueSlot (.aaddqBf16 d a w k q) (gquant (.aaddqBf16 d a w k q) .bf16 d a w k q) s

/-- AADDQ.fp16. -/
def execAaddqFp16 (d : BitVec 6) (a : BitVec 4) (w : BitVec 2) (k q : BitVec 3) (s : State) : Host.Outcome State Fault Refusal :=
  issueSlot (.aaddqFp16 d a w k q) (gquant (.aaddqFp16 d a w k q) .fp16 d a w k q) s

/-! ## The software cache (10 R223-R225) -/

/-- B: the block's address. -/
def blockAddr (c : Core) (a : BitVec 4) : Nat := gaddr c a / 4096 * 4096

/-- PROBE and PROBEI. -/
def probe (r : BitVec 3) (d : BitVec 6) (a : BitVec 4) (inv : Bool) (s : State) (c : Core) : SlotOut :=
  let b := blockAddr c a
  let set := blockSet b
  let (at_, out) := translated s s.cur .read b
  let result (miss : Bool) (x : BitVec 64) : List Effect :=
    .result 1 (.s (c.ctx.physS d.toNat) x) 0 :: (pairWrites c.ctx.physP r miss).map fun w => .result 1 w 0
  let slot (w : Nat) : BitVec 64 := BitVec.ofNat 64 (slotOffset c.ctx.pw set w)
  match c.findBlock b with
  | some w => { out with effects := out.effects ++ .probe set w none (blockTag b) inv :: result false (slot w) }
  | none =>
    match c.victim set with
    | none => { out with effects := out.effects ++ result true (BitVec.allOnes 64) }
    | some w =>
      { out with
        effects := out.effects ++ .probe set w at_ (blockTag b) inv :: result true (slot w)
        freezes := out.freezes ++ if 32 ≤ c.sbUsed then [(.sbFull, BitVec.ofNat 64 b)] else [] }

/-- PROBE. -/
def execProbe (r : BitVec 3) (d : BitVec 6) (a : BitVec 4) (s : State) : Host.Outcome State Fault Refusal :=
  issueSlot (.probe r d a) (probe r d a false) s

/-- PROBEI. -/
def execProbei (r : BitVec 3) (d : BitVec 6) (a : BitVec 4) (s : State) : Host.Outcome State Fault Refusal :=
  issueSlot (.probei r d a) (probe r d a true) s

/-- PWB: a block whose way is valid and DIRTY needs WR, any other RD (11 R254). -/
def execPwb (a : BitVec 4) (s : State) : Host.Outcome State Fault Refusal :=
  issueSlot (.pwb a) (fun s c =>
    let b := blockAddr c a
    let set := blockSet b
    let way := c.findBlock b
    let dirty := match way with
      | some w => decide ((c.tag set w).st = 2) && (c.tag set w).dirty
      | none => false
    let (at_, out) := translated s s.cur (if dirty then .write else .read) b
    match way, at_ with
    | some w, some home =>
      { out with effects := [.pwb set w home], freezes := if dirty && decide (32 ≤ c.sbUsed) then [(.sbFull, BitVec.ofNat 64 b)] else [] }
    | _, _ => out) s

/-- A block instruction that changes the table alone. -/
def blockOp (a : BitVec 4) (e : Nat → Nat → Effect) (s : State) (c : Core) : SlotOut :=
  let b := blockAddr c a
  let set := blockSet b
  let (_, out) := translated s s.cur .read b
  match c.findBlock b with
  | some w => { out with effects := out.effects ++ [e set w] }
  | none => out

/-- PINV. -/
def execPinv (a : BitVec 4) (s : State) : Host.Outcome State Fault Refusal := issueSlot (.pinv a) (blockOp a .pinv) s

/-- PPIN. -/
def execPpin (a : BitVec 4) (n : BitVec 1) (s : State) : Host.Outcome State Fault Refusal :=
  issueSlot (.ppin a n) (blockOp a fun set w => .ppin set w (decide (n = 1))) s

end Sys2Proof.Machine
end

