-- ==== Sys2Proof/Machine/Umbra.lean ====
section
/-! DEFINITION. What a wait of a core sees of others: the umbra lines of its bulkhead, its markers in bank command queues, its address space. -/

namespace Sys2Proof.Machine

/-- The address space of the task on a core. -/
def State.asidOf (s : State) (c : BitVec 8) : BitVec 14 := match (s.core c).task with
  | some b => b.asid
  | none => 0

/-- The core whose context drives core `c`'s umbra lines: the leading core of a mirror pair, else itself (19 R362). -/
def State.umbraCore (s : State) (c : BitVec 8) : BitVec 8 :=
  let lead := BitVec.ofNat 8 (c.toNat / 2 * 2)
  if (s.core lead).prot then lead else c

/-- Core `c`'s line for a colour with its generation; an idle core shows low and 0 (10 R242, R415). -/
def State.umbraLine (s : State) (c : BitVec 8) (col : BitVec 2) : Bool × Bool :=
  let p := (s.core (s.umbraCore c)).ctx.colour col
  (p.line, p.gen)

/-- PHWAIT's condition for a context judged in bulkhead `cb` at local index `me`, whose own line is taken from the context itself. -/
def State.phaseMet (s : State) (cb : Nat) (x : Ctx) (me : Nat) : Bool :=
  let p := x.colour x.cur
  decide (x.cur = 0) || !p.posted ||
    (List.range 16).all fun j =>
      !(fieldOf p.hdr.toNat 31 16).testBit j ||
        let l := if j = me then (p.line, p.gen) else s.umbraLine (BitVec.ofNat 8 (16 * cb + j)) x.cur
        l.1 && decide (l.2 = p.gen)

/-- Whether a bank's command queue holds a marker of a core. -/
def Bank.marked (b : Bank) (c : BitVec 8) : Bool := b.cmdq.any fun e => decide (e = .mark c)

/-- Whether a marker of a core is still in some command queue (13 R294). -/
def State.markersOf (s : State) (c : BitVec 8) : Bool :=
  s.stk.any fun k => k.2.chans.any fun p => p.2.banks.any fun b => b.2.marked c

end Sys2Proof.Machine
end

