-- ==== Sys2Proof/Machine/Sync.lean ====
section
/-! DEFINITION. Drains, fences, waits, beacons and phases of the P port (10 R233-R242). -/

namespace Sys2Proof.Machine

/-! ## Drains and fences -/

/-- Whether an engine operation writes global memory: a copy, fill or scatter to it, a bulk move, a packet (10 R233). -/
def EngineOp.writesGlobal (o : EngineOp) : Bool :=
  match o.name with
  | .cpy => decide (fieldOf o.snap.d.toNat 83 80 = 1)
  | .fill => decide (fieldOf o.snap.d.toNat 83 80 = 1)
  | .scat => decide (fieldOf o.snap.d.toNat 67 64 = 1)
  | .bulk => true
  | .rpkX => true
  | .rpkF => true
  | _ => false

/-- Whether every global write the member has issued has performed: its stores and atomics, its write-backs, its engine operations' writes. -/
def Core.drained (c : Core) : Bool :=
  c.queued = 0 && (c.sb.all fun e => e.home.isNone) && c.ops.all fun o => !o.writesGlobal

/-- DRAIN (10 R233): writes are performed at every scope at once, so each scope waits for the same. -/
def execDrain (k : BitVec 3) (s : State) : Host.Outcome State Fault Refusal :=
  issueSlot (.drain k) (fun _ c => { freezes := if c.drained then [] else [(.drain, 0)], qualifies := true, boundary := true }) s

/-- The walk of a BFENCE's range, leaf by leaf: its first fault, or none; a fabric page is 0x1405. -/
def fenceWalk (s : State) : Nat → Nat → Nat → Option SlotOut
  | 0, _, _ => none
  | fuel + 1, va, n =>
    if n = 0 then none
    else
      match translated s s.cur .read va with
      | (some (.stack _), _) =>
        let size := match s.lookup (coreKey s.cur) (s.partOfCore s.cur) (s.asidOf s.cur) va with
          | .leaf _ lvl => 2 ^ pageBits lvl
          | _ => 2 ^ 14
        let l := min n (size - va % size)
        fenceWalk s fuel (va + l) (n - l)
      | (some (.fabric _ _), _) => some { faults := [(0x1405, BitVec.ofNat 64 va)] }
      | (none, out) => some out

/-- BFENCE (10 R234): it freezes until its markers have been placed and retired (13 R294). -/
def execBfence (a : BitVec 4) (sz : BitVec 6) (s : State) : Host.Outcome State Fault Refusal :=
  issueSlot (.bfence a sz) (fun s c =>
    let va := gaddr c a
    let n := (c.ctx.getS sz.toNat).toNat
    match fenceWalk s (n / 2 ^ 14 + 2) va n with
    | some out => out
    | none =>
      if n = 0 then {}
      else
        match c.fence with
        | some (_, _, true) => { freezes := if s.markersOf s.cur then [(.drain, 0)] else [] }
        | _ => { freezes := [(.fence va n, 0)] }) s

/-! ## Waits and beacons -/

/-- The freeze of a wait whose condition is unmet; a wait marked satisfied does not wait (10 R238). -/
def waitFreeze (c : Core) (met : Bool) : List (Freeze × BitVec 64) := if met || c.ctx.waitOk then [] else [(.wait, 0)]

/-- TWAIT (10 R235). -/
def execTwait (x y z : BitVec 3) (s : State) : Host.Outcome State Fault Refusal :=
  issueSlot (.twait x y z) (fun _ c =>
    { effects := [.waited], freezes := waitFreeze c ([x, y, z].all fun k => c.ctx.tokenDone (c.ctx.physK k.toNat)) }) s

/-- The faults of a scratchpad beacon at a(A)[22:0]: alignment is judged on a(A). -/
def spBeaconFaults (c : Core) (a : BitVec 4) : List (BitVec 16 × BitVec 64) :=
  (if gaddr c a % 8 = 0 then [] else [((0x1201 : BitVec 16), BitVec.ofNat 64 (gaddr c a))])
    ++ (spFaults c.ctx.pw 1 (gaddr c a % 2 ^ 23) 8)

/-- Whether an earlier write of the member to a beacon's bytes has still to perform: a BWAIT's read comes after it (11 R263 case 2). -/
def Core.ownWrite (c : Core) (a : PAddr) : Bool := c.mq.any fun r => r.writes && r.piece.target.meets r.piece.n a 8

/-- Whether the last read of a global beacon has found at least a target: BEACON_POLL reads it (10 R236). -/
def Core.polled (c : Core) (target : Nat) : Bool := match c.poll with
  | some x => decide (target ≤ x.toNat)
  | none => false

/-- BWAIT (10 R236). -/
def execBwait (a : BitVec 4) (p : BitVec 1) (t : BitVec 6) (s : State) : Host.Outcome State Fault Refusal :=
  issueSlot (.bwait a p t) (fun s c =>
    let target := (c.ctx.getS t.toNat).toNat
    if p = 1 then
      let fs := spBeaconFaults c a
      if !fs.isEmpty then { faults := fs }
      else { effects := [.waited], freezes := waitFreeze c (!c.acquiring && decide (target ≤ c.spRead (gaddr c a % 2 ^ 23) 8)) }
    else
      let (ps, out) := gaccess s .read 8 (gaddr c a) (gaddr c a) 8
      match ps with
      | q :: _ =>
        let met := !c.acquiring && !c.ownWrite q.target && c.polled target
        { out with effects := [.waited], freezes := waitFreeze c met }
      | [] => out) s

/-- BADD (10 R237): a relaxed atomic in global memory, or an add to own scratchpad at the end of the issue cycle. -/
def execBadd (k : BitVec 3) (a : BitVec 4) (p : BitVec 1) (x : BitVec 6) (s : State) : Host.Outcome State Fault Refusal :=
  issueSlot (.badd k a p x) (fun s c =>
    if p = 1 then
      let off := gaddr c a % 2 ^ 23
      let fs := spBeaconFaults c a
      { effects := .spAdd off (c.ctx.getS x.toNat) :: if fs.isEmpty then spPoison c off 8 else [], faults := fs, freezes := acquireFreeze c }
    else
      let (ps, out) := gaccess s .write 8 (gaddr c a) (gaddr c a) 8
      { out with
        effects := out.effects ++ ps.map fun q => .atomic .add 3 q (c.ctx.getS x.toNat).toNat 0 none k 0
        freezes := queueFreeze c (gaddr c a) (atomicEntries c .add 3 ps true k) false }) s

/-! ## Phases (10 R239-R242) -/

/-- The faults of a phase header at an offset: reserved codes and bits (0x1303), and a GROUP without the issuer's bit (0x1307), with the offset
as TVAL (18 R347, R360; log 7). -/
def headerFaults (h off : Nat) (core : BitVec 8) : List (BitVec 16 × BitVec 64) :=
  (if h % 4 < 2 ∨ fieldOf h 15 2 ≠ 0 ∨ fieldOf h 63 32 ≠ 0 ∨ fieldOf h 255 192 ≠ 0 then [((0x1303 : BitVec 16), BitVec.ofNat 64 off)] else [])
    ++ (if (fieldOf h 31 16).testBit (localOf core) then [] else [((0x1307 : BitVec 16), BitVec.ofNat 64 off)])

/-- PHASE (10 R241): the header is read as a sequencer load. -/
def execPhase (a : BitVec 6) (s : State) : Host.Outcome State Fault Refusal :=
  issueSlot (.phase a) (fun s c =>
    let off := (c.ctx.getS a.toNat).toNat
    let out := spAccess c 32 off 32
    if !out.faults.isEmpty then out
    else
      let h := c.spRead off 32
      { out with faults := headerFaults h off s.cur, effects := .phase (BitVec.ofNat 256 h) :: spPoison c off 32 }) s

/-- PHWAIT (10 R242). -/
def execPhwait (s : State) : Host.Outcome State Fault Refusal :=
  issueSlot .phwait (fun s c => { effects := [.phwait, .waited], freezes := waitFreeze c (s.phaseMet (cbOf s.cur) c.ctx (localOf s.cur)) }) s

end Sys2Proof.Machine
end

