-- ==== Sys2Proof/Machine/Programs.lean ====
section
/-! DEFINITION. Bank launches and programs: a launch sent, applied, started, admitted, released and stopped, and the markers of a BFENCE (02 R39, 10 R234, R246, R247, 13 R289-R291, R294, 20 R380, R382, R390). -/

namespace Sys2Proof.Machine

/-! ## Sending (02 R39, 10 R246, R247) -/

/-- The stack and pseudo-channel that a bank operation names, as translated at issue. -/
def EngineOp.bankPlace (o : EngineOp) : Nat × Nat :=
  let pa := o.snap.s3.toNat
  (pa / 2 ^ 36, chanOf (pa % 2 ^ 36))

/-- The launch of a bank operation of core `c`. -/
def State.launchOf (s : State) (c : BitVec 8) (o : EngineOp) (image : Nat) : BankLaunch :=
  let d := o.snap.d
  let (part, rasid, rcb, node, memb) := match (s.core c).task with
    | some b => (b.part, b.rasid, b.rcb, b.node, b.memb)
    | none => (0, 0, 0, 0, 0)
  { core := c, op := o.id, go := decide (o.name = .bankgo), part := part, rasid := rasid, rcb := rcb
    uops := (List.range (descField d 1 16 12 + 1)).map fun i => BitVec.ofNat 16 (bytesOf image (2 * i) 2)
    scal := (List.range (descField d 1 19 17 + 1)).map fun i => BitVec.ofNat 32 (bytesOf image (64 + 4 * i) 4)
    row0 := descField d 2 15 0, nrow := count16 (descField d 2 31 16), entry := BitVec.ofNat 5 (descField d 2 36 32)
    wr := decide (o.snap.s4 ≠ 0), chs := o.snap.s1, node := node, tidx := (s.core c).ctx.id.tidx, memb := memb, away := none }

/-- Whether every earlier bank operation of the member to the same channel, and every earlier BANKGO, has been sent. -/
def Core.bankTurn (c : Core) (o : EngineOp) : Bool :=
  c.ops.all fun q => !decide (q.id < o.id) || q.sent || q.done
    || !(decide (q.name = .bankgo) && decide (o.name = .bankgo) || (decide (q.name = .bankgo ∨ q.name = .bankld) && decide (q.bankPlace = o.bankPlace)))

/-- Whether `n` bytes at a place touch the pseudo-channel of a bank operation. -/
def State.onChannel (s : State) (o : EngineOp) (a : PAddr) (n : Nat) : Bool := match a with
  | .stack pa => (columnsOf pa.toNat n).any fun x => decide ((x / 2 ^ 36, chanOf (s.redirect x % 2 ^ 36)) = o.bankPlace)
  | .fabric _ _ => false

/-- Whether every earlier store, atomic and write-back of the member to a pseudo-channel has been performed there (11 R265). -/
def State.storesDone (s : State) (c : BitVec 8) (o : EngineOp) : Bool :=
  ((s.core c).mq.all fun r => !decide (r.po < o.id) || !r.writes || !s.onChannel o r.piece.target r.piece.n)
    && (s.core c).sb.all fun e => !decide (e.op < o.id) || match e.home with
      | some a => !s.onChannel o a 4096
      | none => true

/-- Launches of BANKGOs that wait at a channel. -/
def State.waitingGos (s : State) : List BankLaunch := s.stk.flatMap fun k => k.2.chans.flatMap fun p => p.2.waiting.filter (·.go)

/-- Whether BEQ has room in a region and its ancestors for one more program (02 R39); launches sent and not started count. -/
def State.beqRoom (s : State) (part : Nat) (rasid : BitVec 14) (rcb : BitVec 64) : Bool :=
  (s.ancestry part rasid 16 rcb).all fun r =>
    let sent := s.waitingGos.countP fun l => decide (l.part = part) && decide (l.rasid = rasid) &&
      (s.ancestry part rasid 16 l.rcb).any fun x => decide (x.va = r.va)
    decide (r.bankact + sent < r.beq)

/-- A bank launch is lost with its channel: 0x0602 at the memory port of the core that sent it, its token does not complete, and its task is killed. -/
def State.loseLaunch (s : State) (l : BankLaunch) : State :=
  let asid := match s.wave l.part l.node with
    | some w => w.asid.toNat
    | none => 0
  let s := s.logError (cbOf l.core) (4 * localOf l.core + 3) { cls := 3, code := 0x0602, atype := 1, addr := l.chs.toNat, asid := asid }
  (s.updLaunchOps l fun os => os.filter fun o => decide (o.id ≠ l.op)).killLaunch l 0x0602

/-- A launch reaches its channel: it is aborted by a bulkhead held in reset (17 R336); a window that passed its translation has been rewritten
(01 R24, 20 R394; log 44); it is stopped after the hold of 20 R380 has run out; or it waits its turn. -/
def State.arrive (s : State) (k pc pa : Nat) (l : BankLaunch) : State :=
  if s.stackDown k then s.loseLaunch l
  else if !s.gatePasses l.part pa true false then
    (s.logError (stackBank k) 194 { cls := 1, code := 0x0306, atype := 2, addr := pa }).finishLaunch l (some (0x1804, l.chs))
  else if (s.stack k).holdOver then s.finishLaunch l (stopFault l) else s.updChan k pc fun p => { p with waiting := p.waiting ++ [l] }

/-- BANKGO_BEQ_RELEASE: BANKGO `id` of core `c` is sent to its channel, once nothing of its member, no budget and no stop holds it. -/
def execBankgoBeqRelease (s : State) : Host.Outcome State Fault Refusal :=
  let c := s.inp.c
  .next (match (s.core c).op s.inp.id with
    | none => s
    | some o =>
      let l := s.launchOf c o 0
      if o.name ≠ .bankgo ∨ o.sent = true ∨ o.done = true ∨ (s.core c).mayStart o = false ∨ (s.core c).bankTurn o = false
          ∨ s.storesDone c o = false ∨ s.stopped (16 + o.bankPlace.1) 0 = true ∨ s.beqRoom l.part l.rasid l.rcb = false then s
      else (s.updCore c fun k => k.updOp o.id fun o => { o with sent := true }).arrive o.bankPlace.1 o.bankPlace.2 o.snap.s3.toNat l)

/-- Whether a channel may take its next launch. -/
def State.channelFree (s : State) (k pc : Nat) : Bool := (s.chan k pc).prog.isNone && (s.stack k).takeover.isNone

/-- A BANKLD's micro-ops and scalars replace those of the channel's store. -/
def PChan.load (p : PChan) (l : BankLaunch) : PChan :=
  { p with
    uops := (List.range l.uops.length).foldl (fun m i => mapSet 0 m i (l.uops.getD i 0)) p.uops
    scal := (List.range l.scal.length).foldl (fun m i => mapSet 0 m i (l.scal.getD i 0)) p.scal
    lost := false }

/-- The head of a channel's waiting launches leaves it. -/
def State.dropHead (s : State) (k pc : Nat) : State := s.updChan k pc fun p => { p with waiting := p.waiting.drop 1 }

/-- The head, when it is a BANKLD and no program runs, is applied. -/
def State.applyHead (s : State) (k pc : Nat) : State :=
  match (s.chan k pc).waiting with
  | l :: _ => if l.go ∨ s.channelFree k pc = false then s else ((s.dropHead k pc).updChan k pc fun p => p.load l).finishLaunch l none
  | [] => s

/-- BANKLD_APPLY: BANKLD `id` of core `c` reaches its channel, and is applied when no program runs and none waits; or, with `flag`, the one at the
head of the launches that wait at pseudo-channel `pc` of stack `k` is applied.  The image is read when it leaves, poison in it being consumed. -/
def execBankldApply (s : State) : Host.Outcome State Fault Refusal :=
  let c := s.inp.c
  .next (if s.inp.flag then s.applyHead s.inp.k.toNat s.inp.pc.toNat
    else match (s.core c).op s.inp.id with
    | none => s
    | some o =>
      if o.name ≠ .bankld ∨ o.sent = true ∨ (s.core c).mayStart o = false ∨ (s.core c).bankTurn o = false
          ∨ s.stopped (16 + o.bankPlace.1) 0 = true then s
      else
        let off := o.snap.s2.toNat
        let (sp, psn) := (s.core c).source o
        let b := spBlk sp psn off 96
        let l := s.launchOf c o b.x
        let (k, pc) := o.bankPlace
        let s := s.updCore c fun x => x.updOp o.id fun o => { o with sent := true }
        let s := if b.psn ≠ 0 ∨ o.badBytes 0 96 ≠ 0 then s.consume c 3 3 off else s
        let first := (s.chan k pc).waiting.isEmpty
        let s := s.arrive k pc o.snap.s3.toNat l
        if first then s.applyHead k pc else s)

/-! ## Starting (13 R290, 20 R382) -/

/-- Whether rows of a launch hold a chunk of a page that is retired or being moved. -/
def State.rowsMoved (s : State) (k pc : Nat) (l : BankLaunch) : Bool :=
  let t := s.stack k
  let pages := t.retire.map (·.1) ++ (match t.move with
    | some m => [m.old]
    | none => [])
  pages.any fun page => (List.range 64).any fun i =>
    let o := page * 2 ^ 14 + 256 * i
    decide (chanOf o = pc ∧ l.row0 ≤ rowOf o ∧ rowOf o < l.row0 + l.nrow)

/-- Whether the check at start refuses a program. -/
def State.startRefused (s : State) (k pc : Nat) (l : BankLaunch) : Bool :=
  let us := (List.range 32).map fun i => mapGet 0 (s.chan k pc).uops i
  us.any uopBad || (!l.wr && us.any fun w => decide (w.extractLsb' 12 4 = 3)) || s.rowsMoved k pc l

/-- A bank at the start of a program (13 R285). -/
def freshBank (l : BankLaunch) (marked : Bool) : Bank := { Init.bank with mpc := l.entry, ended := false, window := marked }

/-- Whether the rows open for ordinary traffic may be precharged. -/
def State.rowsMayClose (s : State) (k pc : Nat) : Bool := (List.range 32).all fun b => mapGet 0 (s.chan k pc).rows b = 0 || s.rasMet k pc b

/-- A program starts: 32 banks at once, ordinary rows being precharged. -/
def State.startProgram (s : State) (k pc : Nat) (l : BankLaunch) : State :=
  let s := s.updUp l.part l.rasid (fun r => { r with bankact := r.bankact + 1 }) 16 l.rcb
  let s := (List.range 32).foldl (fun s b => s.closeRow k pc b) s
  s.updChan k pc fun p =>
    let p := (List.range 32).foldl (fun p b => p.setBank b (freshBank l (!(p.requestsOf b).isEmpty))) p
    { p with prog := some { launch := l, num := p.progs % 32, stopping := false }, progs := p.progs + 1, far := [] }

/-- BANK_PROGRAM_START: the BANKGO at the head of the launches that wait at pseudo-channel `pc` of stack `k` starts, once the
ordinary rows may be precharged; or it is stopped by the check at start. -/
def execBankProgramStart (s : State) : Host.Outcome State Fault Refusal :=
  let k := s.inp.k.toNat
  let pc := s.inp.pc.toNat
  .next (match (s.chan k pc).waiting with
    | [] => s
    | l :: _ =>
      if !l.go ∨ s.channelFree k pc = false then s
      else
        let t := s.dropHead k pc
        if (s.chan k pc).lost then (t.finishLaunch l (stopFault l)).killLaunch l 0x0703
        else if s.startRefused k pc l then t.finishLaunch l (stopFault l)
        else if !s.rowsMayClose k pc then s
        else t.startProgram k pc l)

/-! ## The 24-row limit and WAITS (13 R287, R289) -/

/-- Whether the ACT that waits at a bank is the first to be admitted: the earliest, and the lowest bank among equals. -/
def PChan.firstWaiting (p : PChan) (bank : Nat) : Bool :=
  match (p.bank bank).actWait with
  | none => false
  | some t => (List.range 32).all fun b => match (p.bank b).actWait with
    | some u => decide (t < u ∨ (t = u ∧ bank ≤ b))
    | none => true

/-- ACT_ADMIT: the ACT that waits at a bank is admitted and issues; when its bank must suspend, stop or serve a window instead, it is no longer
ready. -/
def execActAdmit (s : State) : Host.Outcome State Fault Refusal :=
  let k := s.inp.k.toNat
  let pc := s.inp.pc.toNat
  let bank := s.inp.bank.toNat
  let p := s.chan k pc
  .next (match p.prog with
    | none => s
    | some g =>
      if !p.runs bank ∨ (p.bank bank).actWait = none then s
      else if s.boundary k pc bank g ≠ .ready then s.updBankAt k pc bank fun b => { b with actWait := none }
      else if p.firstWaiting bank ∧ p.openRows s.ns < 24 then s.activate k pc bank g
      else s)

/-- WAITS_RELEASE: every bank that has not ended is at a WAITS: all of them proceed. -/
def execWaitsRelease (s : State) : Host.Outcome State Fault Refusal :=
  let k := s.inp.k.toNat
  let pc := s.inp.pc.toNat
  let p := s.chan k pc
  .next (if p.prog.isSome ∧ (s.stack k).takeover = none ∧ ((List.range 32).all fun b => (p.bank b).ended || (p.bank b).atWaits) = true then
      s.updChan k pc fun p =>
        (List.range 32).foldl
          (fun p b => if (p.bank b).ended then p else p.updBank b fun b => ({ b with atWaits := false } : Bank).advance) p
    else s)

/-! ## Stopping (20 R380, R390) -/

/-- Banks of a stopping program that stand at a row boundary stop, and the faulted one once its row may be precharged. -/
def State.stopBanks (s : State) (k pc : Nat) : State :=
  let p := s.chan k pc
  match p.prog with
  | none => s
  | some g =>
    if g.stopping then
      let s := ((List.range 32).filter fun b => !(p.bank b).ended && ((p.bank b).row.isNone || ((p.bank b).faulted && s.mayClose k pc b))).foldl
        (fun s b => s.endBank k pc b) s
      s.endProgram k pc
    else s

/-- BANK_PROGRAM_STOP: the banks of a faulted program at pseudo-channel `pc` of stack `k` stop at their row boundaries; once all have, the BANKGO
completes with 0x1806. -/
def execBankProgramStop (s : State) : Host.Outcome State Fault Refusal := .next (s.stopBanks s.inp.k.toNat s.inp.pc.toNat)

/-- BANK_HOLD_TIMEOUT: 5 ms of a takeover have passed: the stack's programs and waiting launches are stopped, and those that arrive until the
hand-back. -/
def execBankHoldTimeout (s : State) : Host.Outcome State Fault Refusal :=
  let k := s.inp.k.toNat
  .next (match (s.stack k).takeover with
    | none => s
    | some t =>
      if s.ns < t + 5000000 ∨ (s.stack k).holdOver = true then s
      else
        let s := s.updStack k fun t => { t with holdOver := true }
        ((s.stack k).chans.map (·.1)).foldl
          (fun s pc =>
            let ws := (s.chan k pc).waiting
            let s := s.updChan k pc fun p => { p with waiting := [], prog := p.prog.map fun g => { g with stopping := true } }
            (ws.foldl (fun s l => s.finishLaunch l (stopFault l)) s).stopBanks k pc) s)

/-! ## Fences (10 R234, 13 R294) -/

/-- The physical ranges of a virtual range, leaf by leaf. -/
def State.fenceRanges (s : State) (c : BitVec 8) : Nat → Nat → Nat → List (Nat × Nat)
  | 0, _, _ => []
  | fuel + 1, va, n =>
    if n = 0 then []
    else
      match s.xlateCore c .read va with
      | .ok (.stack pa) =>
        let size := match s.lookup (coreKey c) (s.partOfCore c) (s.asidOf c) va with
          | .leaf _ lvl => 2 ^ pageBits lvl
          | _ => 2 ^ 14
        let l := min n (size - va % size)
        (pa.toNat, l) :: s.fenceRanges c fuel (va + l) (n - l)
      | _ => []

/-- Whether a physical range touches a pseudo-channel. -/
def touches (k pc : Nat) (r : Nat × Nat) : Bool :=
  let lo := r.1 % 2 ^ 36 / 256
  let hi := (r.1 % 2 ^ 36 + r.2 - 1) / 256
  decide (r.1 / 2 ^ 36 = k) && (decide (192 ≤ hi + 1 - lo) || decide ((pc + 192 - lo % 192) % 192 ≤ hi - lo))

/-- The marker of a core goes into a bank's command queue; in an empty queue it retires at once, the copies staged from before it being dropped. -/
def PChan.placeMark (p : PChan) (c : BitVec 8) (bank : Nat) : PChan :=
  if (p.bank bank).cmdq.isEmpty then { p with staged := p.staged.filter fun x => decide (x.1 / 32 / 16384 ≠ bank) }
  else p.updBank bank fun b => { b with cmdq := b.cmdq ++ [.mark c] }

/-- Markers of a core go into every command queue of the pseudo-channels that ranges touch. -/
def State.placeMarkers (s : State) (c : BitVec 8) (rs : List (Nat × Nat)) : State :=
  { s with
    stk := s.stk.map fun k =>
      (k.1, { k.2 with
        chans := k.2.chans.map fun p =>
          if rs.any fun r => touches k.1 p.1 r then
            (p.1, (List.range 32).foldl (fun p b => p.placeMark c b) p.2)
          else p }) }

/-- BFENCE_MARKER: the markers of the BFENCE at which core `c` freezes reach the command queues. -/
def execBfenceMarker (s : State) : Host.Outcome State Fault Refusal :=
  let c := s.inp.c
  .next (match (s.core c).fence with
    | some (va, n, false) =>
      (s.placeMarkers c (({ s with peek := true } : State).fenceRanges c (n / 2 ^ 14 + 2) va n)).updCore c fun k => { k with fence := some (va, n, true) }
    | _ => s)

end Sys2Proof.Machine
end

