-- ==== Sys2Proof/Machine/Waits.lean ====
section
/-! DEFINITION. The waits at the bundle a member stands at, and what a parked member waits for (07 R151, 10 R235-R238, R415). -/

namespace Sys2Proof.Machine

/-- Whether an instruction is a wait. -/
def isWait : Instr → Bool
  | .bwait _ _ _ => true
  | .twait _ _ _ => true
  | .phwait => true
  | _ => false

/-- The waits of the bundle at a core's pc whose guards read true. -/
def State.waitSlots (s : State) (c : BitVec 8) : List Instr :=
  let x := (s.core c).ctx
  match decodeBundle [] (s.fetchWords c x.pc 8 0).1 with
  | .ok slots => (slots.filter fun sl => isWait sl.instr && x.getP sl.hdr.guard.toNat).map (·.instr)
  | .error _ => []

/-- Whether a wait's condition holds now. -/
def State.waitMet (s : State) (c : BitVec 8) (i : Instr) : Bool :=
  let k := s.core c
  match i with
  | .bwait a p t =>
    let target := (k.ctx.getS t.toNat).toNat
    if k.acquiring then false
    else if p = 1 then decide (target ≤ k.spRead (gaddr k a % 2 ^ 23) 8)
    else k.polled target
  | .twait x y z => [x, y, z].all fun n => k.ctx.tokenDone (k.ctx.physK n.toNat)
  | .phwait => s.phaseMet (cbOf c) k.ctx (localOf c)
  | _ => true

/-- Whether every wait of the bundle at a core's pc holds. -/
def State.waitsMet (s : State) (c : BitVec 8) : Bool := (s.waitSlots c).all fun i => s.waitMet c i

/-- What a wait waits for, once its member's context is saved; a scratchpad that is not saved reads as zero, but a condition that holds by then stands
(10 R238). -/
def State.condOf (s : State) (c : BitVec 8) (save : Bool) (i : Instr) : ParkCond :=
  let k := s.core c
  match i with
  | .bwait a p t =>
    let target := k.ctx.getS t.toNat
    if p = 1 then
      let off := gaddr k a % 2 ^ 23
      let x := k.spRead off 8
      .spBeacon off (if save || decide (target.toNat ≤ x) then x else 0) target.toNat
    else .beacon (BitVec.ofNat 64 (gaddr k a)) target
  | .twait x y z => .tokens ([x, y, z].filterMap fun n => mapGet none k.ctx.k (k.ctx.physK n.toNat))
  | _ => .phase c k.ctx.cur (k.ctx.colour k.ctx.cur)

/-- What a parked member waits for; a PARK on no beacon, nothing (07 R151). -/
def State.condsOf (s : State) (c : BitVec 8) (save : Bool) : List ParkCond := match (s.core c).run with
  | .parked (some (va, target)) => if va = 0 then [] else [.beacon va target]
  | .parked none => (s.waitSlots c).map (s.condOf c save)
  | _ => []

/-- Beacon adds to a scratchpad offset that ended bank operations of an unbound member are still to make, and their phase arrivals. -/
def endedAdds (ops : List EngineOp) (off : Nat) : Nat :=
  (ops.filter fun o => o.done && o.fault.isNone && decide (fieldOf o.snap.d.toNat 13 8 ≠ 0) && decide (fieldOf o.snap.d.toNat 15 14 = 1)
    && decide (o.snap.bcn.toNat % 2 ^ 23 = off)).foldl (fun n o => n + fieldOf o.snap.d.toNat 31 16) 0

def endedArrivals (ops : List EngineOp) (col : BitVec 2) : Nat :=
  (ops.filter fun o => o.done && o.fault.isNone && decide (fieldOf o.snap.d.toNat 36 35 = col.toNat)).length

/-- What a parked task's beacon reads as. -/
def State.condRead (s : State) (p : Nat) (asid : BitVec 14) : ParkCond → Option Got
  | .beacon va _ => some (s.cpRead p asid va.toNat 8)
  | _ => none

/-- Whether a parked member's condition holds: the task's partition, address space and the member's bank operations. -/
def State.condMet (s : State) (p : Nat) (asid : BitVec 14) (ops : List EngineOp) : ParkCond → Bool
  | .beacon va target => match s.cpRead p asid va.toNat 8 with
    | .val x => decide (target.toNat ≤ x)
    | .psn x _ => decide (target.toNat ≤ x)
    | _ => false
  | .spBeacon off x target => decide (target ≤ (x + endedAdds ops off) % 2 ^ 64)
  | .tokens l => l.all fun i => ops.all fun o => decide (o.id ≠ i) || o.done
  | .phase c cur q =>
    let q := { q with banks := q.banks + BitVec.ofNat 32 (endedArrivals ops cur) }
    s.phaseMet (cbOf c) { Init.ctx with cur := cur, light := q, dark := q } (localOf c)

end Sys2Proof.Machine
end

