-- ==== Sys2Proof/Machine/CoreEvents.lean ====
section
/-! DEFINITION. Events of a core's sequencer and memory port: results and landings written outside an issue cycle, data that arrives, freezes that time out, waits that park, polls, launches sent and walks kept (03 R69, R70, 07 R149, 10 R236, R238, 11 R254, 18 R353). -/

namespace Sys2Proof.Machine

/-- Whether a member has come to its end or to a park, and only its results are still to be written. -/
def Core.settling (c : Core) : Bool := match c.run with
  | .halted => true
  | .parked _ => true
  | _ => false

/-- PIPELINE_WRITEBACK: one cycle of the fixed-latency pipelines of core `c` after its member has halted or parked (07 R150, 15 R312). -/
def execPipelineWriteback (s : State) : Host.Outcome State Fault Refusal :=
  let c := s.inp.c
  .next (if (s.core c).settling then s.updCore c fun k => k.tickPipe else s)

/-- The load of landing `l`. -/
def ReqKind.landing : ReqKind → Option Nat
  | .load l => some l
  | _ => none

/-- A line's data reaches its landing entry: bytes of held stores of the member lie over it (19 R367). -/
def Core.land_ (c : Core) (r : MemReq) (l : Nat) : Core :=
  let x := c.overlay r.id r.cls r.piece.target r.piece.n r.data
  { c with
    mq := c.mq.filter fun q => decide (q.id ≠ r.id)
    land := c.land.map fun e =>
      if e.id = l then
        let e := { e with part := e.part ||| x <<< (8 * r.piece.off), need := e.need - 1, psn := e.psn || r.psn }
        if e.need = 0 then { e with data := some e.part } else e
      else e }

/-- LANDING_ARRIVAL: the data of load `id` of core `c`, read whole and out of its banks, reaches the landing buffer, unless responses from
its stack or link, or to its bulkhead, are stopped (01 R29, 13 R279). -/
def execLandingArrival (s : State) : Host.Outcome State Fault Refusal :=
  let c := s.inp.c
  .next (match (s.core c).mq.find? fun r => decide (r.id = s.inp.id) with
    | none => s
    | some r =>
      match r.kind.landing with
      | some l =>
        let held := s.stopped (cbOf c) 1 || match r.piece.target with
          | .stack pa => s.stopped (16 + pa.toNat / 2 ^ 36) 1
          | .fabric fid ra => s.stopped (s.linkOf (s.partOfCore c) fid ra) 1
        if r.sent ∧ r.left = 0 ∧ r.readyAt ≤ s.ns ∧ held = false then s.updCore c fun k => k.land_ r l else s
      | none => s)

/-- LANDING_WRITE: landings of core `c` that are due, or all of a member that has halted or parked, are written once they have arrived; poison in
them is consumed (17 R332). -/
def execLandingWrite (s : State) : Host.Outcome State Fault Refusal :=
  let c := s.inp.c
  let k := s.core c
  let f (l : Landing) : Bool := l.due || k.settling
  .next (if k.run = .running ∨ k.settling = true then
      let psn := k.landingPoison f
      let s := s.setCore c (k.writeLandings f)
      if psn then s.consume c 3 0 0 else s
    else s)

/-- The freezes of the next bundle that are known to stand: a landing that is due, the token it last froze on, and the ranges, the full scoreboard or
the full landing buffer. -/
def Core.standing (c : Core) : List Freeze :=
  (if c.land.any fun l => l.due && l.data.isNone then [.landing] else [])
    ++ (if c.frozeTok ≠ 0 ∧ c.ctx.tokenDone (c.ctx.physK c.frozeTv.2.1.toNat) = false then [.token] else [])
    ++ (if (c.frozeSbAt.1.any fun r => !(c.sbOverlap r.1 r.2).isEmpty) = true then [.scoreboard 0] else [])
    ++ (if c.frozeSbAt.2.1 ≠ 0 ∧ c.frozeSbAt.2.1 ≤ c.sb.length then [.sbFull] else [])
    ++ (if c.frozeSbAt.2.2 = true ∧ 64 ≤ c.land.length then [.landFull] else [])

/-- FREEZE_TIMEOUT: the next bundle of core `c` has frozen for the limit of 18 R353: a precise trap at it. -/
def execFreezeTimeout (s : State) : Host.Outcome State Fault Refusal :=
  let c := s.inp.c
  let k := s.core c
  .next (match k.timeout k.standing with
    | some t => if k.issues ∧ k.trap = none then s.raiseTrap c t else s
    | none => s)

/-- WAIT_PARK: the wait of core `c`'s next bundle has frozen for WAITCAP cycles and its condition does not hold: the member parks there, in protected
mode once its segment has committed (19 R365). -/
def execWaitPark (s : State) : Host.Outcome State Fault Refusal :=
  let c := s.inp.c
  let k := s.core c
  .next (if k.issues ∧ k.trap = none ∧ k.waitExpired = true ∧ s.waitsMet c = false then
      s.setCore c (if k.prot && k.seg.openSeg then { k with seg := { k.seg with ending := true } } else { k with run := .parked none, iss := Init.issue })
    else s)

/-- Reads of other beacons by core `c` are forgotten. -/
def State.dropPolls (s : State) (c : BitVec 8) (part : Nat) : State :=
  { s with asks := s.asks.filter fun a => match a.who with
      | .work b i q => !(decide (b = c) && decide (i = 0) && decide (q ≠ part))
      | _ => true }

/-- The number by which a place's read for a poll is known. -/
def pollPart : PAddr → Nat
  | .stack pa => pa.toNat
  | .fabric fid ra => 2 ^ 40 + extKey fid ra

/-- A beacon is read for a poll; poison that a gate stops is recorded there (17 R333). -/
def State.readPoll (s : State) (c : BitVec 8) (a : PAddr) : State := match s.readAt (s.partOfCore c) a 8 with
  | .val x => s.updCore c fun k => { k with poll := some (BitVec.ofNat 64 x) }
  | .psn x _ => s.updCore c fun k => { k with poll := some (BitVec.ofNat 64 x) }
  | .stopped pa => s.gateStops pa
  | _ => s

/-- Whether a BWAIT's read may be made of a place: no acquire, no write of the member's own to its bytes and no landing that is due comes before it and
has still to perform (11 R263 cases 2-4). -/
def Core.mayPoll (k : Core) (a : PAddr) : Bool := !k.acquiring && !k.ownWrite a && k.land.all fun l => !l.due || l.data.isSome

/-- BEACON_POLL: a BWAIT at core `c`'s next bundle reads its global beacon, once the beacon's column has been served. -/
def execBeaconPoll (s : State) : Host.Outcome State Fault Refusal :=
  let c := s.inp.c
  let k := s.core c
  .next (if !k.issues then s
    else
      match (s.waitSlots c).findSome? fun i => match i with
        | .bwait a p _ => if p = 0 then some (gaddr k a) else none
        | _ => none with
      | none => s
      | some va => match s.xlateCore c .read va with
        | .ok a =>
          if k.mayPoll a then (s.dropPolls c (pollPart a)).withAccess c 0 (pollPart a) 0 [(some a, 8)] [] fun s => s.readPoll c a else s
        | .held => s.waits
        | _ => s)

/-! ## Launches (07 R149) -/

/-- Whether an operation makes a write that a later LAUNCH waits for (02 R54, 07 R149): to global memory, a beacon there included, to a scratchpad by a
copy, or a bank program's. -/
def EngineOp.launchWaits (o : EngineOp) : Bool :=
  o.writesGlobal || decide (o.name = .bankgo ∨ o.name = .cpy ∨ o.name = .cpym ∨ o.name = .fill ∨ o.name = .scat)
    || (decide (descField o.snap.d 0 13 8 ≠ 0) && decide (descField o.snap.d 0 15 14 = 0))

/-- Whether everything that a LAUNCH numbered `n` waits for has performed: earlier stores, atomics and write-backs, and earlier operations that write
global memory or run a bank program. -/
def Core.launchReady (c : Core) (n : Nat) : Bool :=
  (c.mq.all fun r => !r.writes || !decide (r.po < n))
    && (c.sb.all fun e => e.home.isNone || !decide (e.op < n))
    && (c.ops.all fun o => !decide (o.id < n) || !o.launchWaits)
    && !(c.prot && c.seg.openSeg && decide (c.seg.first ≤ n))

/-- LAUNCH_REQUEST_SEND: launch `id` of core `c` is sent to the CP as a request of its wave's submission, the rows of the member's ended bank programs
fenced (07 R149). -/
def execLaunchRequestSend (s : State) : Host.Outcome State Fault Refusal :=
  let c := s.inp.c
  let k := s.core c
  .next (match k.launches.find? fun l => decide (l.2 = s.inp.id), k.task with
    | some l, some b =>
      if !k.launchReady l.2 then s
      else
        match s.wave b.part b.node with
        | none => s
        | some w =>
          ((s.fenceRan fun x => decide (x.part = b.part ∧ x.node = b.node ∧ x.tidx = k.ctx.id.tidx ∧ x.memb = b.memb)).setCore c
              { k with launches := k.launches.erase l }).request
            { node := l.1, launch := true, stream := w.req.stream, recd := w.req.recd, part := w.req.part, asid := w.req.asid } (some c)
    | _, _ => s)

/-! ## Translation caches (11 R254) -/

/-- A cache of `n` results once one more is kept, the oldest leaving it. -/
def keepResult (n : Nat) (l : List Cached) (r : Cached) : List Cached := l.drop (l.length + 1 - n) ++ [r]

/-- WALK_COMPLETE: a walk in bulkhead `b` under `asid` for `va` ends; with `flag` a valid leaf it found is
kept in the bulkhead's caches of 4,096 results, or with `p` = 1 in the 64-entry cache of core `c`; and with `flag2` the result held for that address
leaves them. -/
def execWalkComplete (s : State) : Host.Outcome State Fault Refusal :=
  let (key, cap, part) := if s.inp.p = 1 then (coreKey s.inp.c, 64, s.partOfCore s.inp.c) else (s.inp.b.toNat, 4096, s.partOf (octantOf s.inp.b.toNat))
  let va := s.inp.va.toNat
  let held := mapGet [] s.tlb key
  let others := held.filter fun e => !(decide (e.asid = s.inp.asid) && decide (va / 2 ^ e.size = e.base))
  .next (if s.inp.p ≠ 1 ∧ 32 ≤ s.inp.b.toNat then s
    else if s.inp.flag2 then { s with tlb := mapSet [] s.tlb key others }
    else if s.inp.flag then
      match s.walk key part s.inp.asid va with
      | .leaf e lvl =>
        let r : Cached := { asid := s.inp.asid, base := va / 2 ^ pageBits lvl, size := pageBits lvl, leaf := e }
        { s with tlb := mapSet [] s.tlb key (keepResult cap others r) }
      | .held => s.waits
      | _ => s
    else s)

end Sys2Proof.Machine
end

