-- ==== Sys2Proof/Machine/Release.lean ====
section
/-! DEFINITION. The slot table's answers, and tasks that leave their cores: release, retirement and the end of a killed task (02 R46, R49, 10 R244, 15 R307, R309, R312, 17 R334). -/

namespace Sys2Proof.Machine

/-! ## Cores of a task -/

/-- Every core that a task occupies: in protected mode both cores of each pair (02 R44). -/
def Binding.allCores (b : Binding) : List (BitVec 8) := if b.prot then b.cores.flatMap fun c => [c, c + 1] else b.cores

/-- The task that occupies a core, with the leading core that runs its member. -/
def State.taskAt (s : State) (c : BitVec 8) : Option (BitVec 8 × Binding) :=
  match (s.core c).task with
  | some b => some (c, b)
  | none =>
    match (s.core (c - 1)).task with
    | some b => if c.toNat % 2 = 1 ∧ b.prot = true then some (c - 1, b) else none
    | none => none

/-- TIDX of the task bound to a core. -/
def State.tidxAt (s : State) (c : BitVec 8) : Nat := (s.core c).ctx.id.tidx

/-! ## The slot table (15 R307) -/

/-- Bytes 0-31 of a slot. -/
def State.slotLo (s : State) (c : BitVec 8) : BitVec 256 := mapGet 0 s.slots c.toNat

def slotValid (w : BitVec 256) : Bool := w.getLsbD 0
def slotOp (w : BitVec 256) : Nat := fieldOf w.toNat 2 1
def slotMemb (w : BitVec 256) : Nat := fieldOf w.toNat 4 3
def slotSeq (w : BitVec 256) : BitVec 30 := BitVec.ofNat 30 (fieldOf w.toNat 61 32)
def slotRes (w : BitVec 256) : Nat := fieldOf w.toNat 63 62
def slotNode (w : BitVec 256) : BitVec 64 := w.extractLsb' 64 64
def slotTidx (w : BitVec 256) : Nat := fieldOf w.toNat 151 128

/-- Whether a slot presents a record of an operation: 1 bind, 2 displace. -/
def slotPresents (w : BitVec 256) (op : Nat) : Bool := slotValid w && decide (slotOp w = op)

/-- CSTATE of a core (15 R307): a member that has halted or parked before its peers waits for them (02 R46). -/
def State.cstateOf (s : State) (c : BitVec 8) : Nat :=
  match s.taskAt c with
  | none => 0
  | some (l, b) =>
    if (s.core l).cstate = 2 ∧ (s.core l).settling = true ∧ (b.cores.any fun d => !(s.core d).settling) = true then 4 else (s.core l).cstate.toNat

/-- The fields of a bind record without RES; reserved bits read 0 (00 R7, 15 R307). -/
def slotRecord (w : Nat) : Nat :=
  fieldOf w 4 0 + fieldOf w 61 32 <<< 32 + fieldOf w 127 64 <<< 64 + fieldOf w 151 128 <<< 128

/-- Whether a presented record has a nonzero reserved field, or a reserved OP: it is detected at its use (00 R7). -/
def slotReserved (w : BitVec 256) : Bool :=
  decide (slotOp w = 0 ∨ slotOp w = 3 ∨ w.toNat ≠ slotRecord w.toNat + fieldOf w.toNat 63 62 <<< 62)

/-- A slot of the table as the SCH reads it. -/
def State.slot (s : State) (c : BitVec 8) : BitVec 512 :=
  BitVec.ofNat 512 (slotRecord (s.slotLo c).toNat + fieldOf (s.slotLo c).toNat 63 62 <<< 62
    + 2 ^ 256 * withField (mapGet (0 : BitVec 256) s.slotHi c.toNat).toNat 2 0 (s.cstateOf c))

/-- A record is answered: VALID 0 and RES. -/
def State.answer (s : State) (c : BitVec 8) (res : Nat) : State :=
  { s with slots := mapUpd 0 s.slots c.toNat fun w => BitVec.ofNat 256 (withField (withField w.toNat 0 0 0) 63 62 res) }

/-- A bind record is refused with an event (15 R308, R316). -/
def State.refuseBind (s : State) (c : BitVec 8) (res : Nat) : State := (s.answer c res).post (.bindRefused c (BitVec.ofNat 2 res))

/-- The displace records that a pre-emption follows are applied (RES 1), or refused when its task has retired instead (15 R309, R318). -/
def State.answerDisplace (s : State) (b : Binding) (res : Nat) : State :=
  (b.allCores.filter fun c => slotPresents (s.slotLo c) 2 && b.preempt).foldl
    (fun s c => if res = 1 then s.answer c 1 else s.refuseBind c res) s

/-! ## Release -/

/-- The rows of a task's ended bank programs are fenced (02 R49). -/
def State.fenceTask (s : State) (b : Binding) (tidx : Nat) : State :=
  s.fenceRan fun l => decide (l.part = b.part) && decide (l.node = b.node) && decide (l.tidx = tidx)

/-- Whether an access is a save or a restore for one of some cores. -/
def Requester.contextOf (cs : List (BitVec 8)) : Requester → Bool
  | .save c => cs.contains c
  | .restore c => cs.contains c
  | _ => false

/-- A task leaves its cores: BOUND falls and they are idle. -/
def State.unbind (s : State) (b : Binding) : State :=
  let s := s.updUp b.part b.rasid (fun r => { r with bound := r.bound - b.allCores.length }) 16 b.rcb
  let s : State := { s with
    asks := s.asks.filter fun a => !a.who.contextOf b.allCores
    twins := b.allCores.foldl (fun m c => mapSet none m c.toNat none) s.twins }
  (b.allCores.foldl (fun s c => s.updCore c fun k => { Init.core with nid := k.nid }) s).dropRounds

/-- A task that has come to its end is released, and its wave has one task fewer. -/
def State.freeTask (s : State) (b : Binding) : State := (s.unbind b).tasksGone b.part b.node 1

/-- Whether a member has retired: halted, its results written, its operations complete and its writes performed (02 R49). -/
def Core.retired (c : Core) : Bool :=
  decide (c.run = .halted) && c.pipe.isEmpty && c.land.isEmpty && c.ops.isEmpty && c.launches.isEmpty && c.drained && c.seg.hold.isEmpty
    && !c.seg.openSeg

/-- Whether the operations and writes of a killed member have completed (17 R334). -/
def Core.killEnded (c : Core) : Bool := c.ops.isEmpty && c.drained

/-- The code a killed member carries. -/
def Run.killCode : Run → Option (BitVec 16)
  | .killed code => some code
  | _ => none

/-- The end of a bound task by its retirement: the rows of its bank programs are fenced first (02 R49). -/
def State.endRetired (s : State) (b : Binding) (tidx : Nat) : State :=
  ((((s.fenceTask b tidx).post (.retired (b.cores.headD 0) b.node tidx b.bindseq)).answerDisplace b 2)).freeTask b

/-- The end of a bound task by its kill: the event, and its release. -/
def State.endKilled (s : State) (b : Binding) (tidx : Nat) (code : BitVec 16) : State :=
  ((((s.fenceTask b tidx).post (.killed (some (b.cores.headD 0)) b.node tidx b.bindseq code)).answerDisplace b 1)).freeTask b

/-- Whether another killed task, on a lower core, can be released too: of task-killed events of one moment its event is the earlier (15 R317). -/
def State.killedBefore (s : State) (b : Binding) : Bool :=
  s.bindings.any fun x => decide ((x.cores.headD 0).toNat < (b.cores.headD 0).toNat)
    && ((x.cores.map s.core).all fun k => k.killEnded && k.run.killCode.isSome)

/-! ## Tasks that end apart from their cores (11 R266) -/

/-- The launches that a member leaves behind. -/
def State.sendAway (s : State) (c : BitVec 8) (a : Nat × BitVec 64 × Nat × Nat) : State :=
  let off (l : BankLaunch) : BankLaunch := if l.core = c ∧ l.away = none then { l with away := some a } else l
  let chan (p : PChan) : PChan := { p with prog := p.prog.map fun g => { g with launch := off g.launch }, waiting := p.waiting.map off }
  { s with stk := s.stk.map fun k => (k.1, { k.2 with chans := k.2.chans.map fun p => (p.1, chan p.2) }) }

/-- Whether a core has a bank program that runs or waits at its channel. -/
def Core.runsPrograms (c : Core) : Bool := c.ops.any fun o => decide (o.name = .bankgo) && o.sent && !o.done

/-- A task whose cores are taken from it while its bank programs run: what is left of it ends with them. -/
def State.leaveDying (s : State) (b : Binding) (tidx : Nat) (code : BitVec 16) : State :=
  let ms := b.cores.filterMap fun c => (s.core c).task.map fun x => (c, x.memb)
  let t : TaskRec :=
    { part := b.part, node := b.node, tidx := tidx, ready := false, conds := [], halted := [], lands := []
      progs := ms.map fun x => (x.2, (s.core x.1).ops.filter fun o => decide (o.name = .bankgo) && o.sent)
      parked := [], rounds := [], links := [], dying := some code }
  let s := ms.foldl (fun s x => s.sendAway x.1 (b.part, b.node, tidx, x.2)) s
  ({ s with tasks := s.tasks ++ [t] } : State).unbind b

/-- A killed task that has left its cores comes to its end, once its bank programs have ended. -/
def State.endDying (s : State) (p : Nat) (node : BitVec 64) (tidx : Nat) : State :=
  match s.tasks.find? fun t => decide (t.part = p ∧ t.node = node ∧ t.tidx = tidx) && t.dying.isSome && !t.running with
  | some t => (s.endRec t (t.dying.getD 0)).tasksGone p node 1
  | none => s

/-- TASK_RETIRE: the task of core `c` is released once every member has halted and its work has performed, or, when it has been killed, once its
operations and writes have completed.  With `flag`, killed task `tidx` of `node` in octant `j`'s partition, which has left its cores, ends. -/
def execTaskRetire (s : State) : Host.Outcome State Fault Refusal :=
  let c := s.inp.c
  .next (if s.inp.flag then s.endDying (s.partOf (s.inp.j.toNat % 8)) s.inp.node s.inp.tidx.toNat
    else match (s.core c).task with
    | none => s
    | some b =>
      let ks := b.cores.map s.core
      if ks.all Core.retired then s.endRetired b (s.tidxAt c)
      else
        match (s.core c).run.killCode with
        | some code => if ks.all Core.killEnded && !s.killedBefore b then s.endKilled b (s.tidxAt c) code else s
        | none => s)

/-- SLOT_RECORD_WRITE: the SCH writes record `w` into the slot of core `c`: words 1-3 while VALID is 0, and word 0 with RES 0. -/
def execSlotRecordWrite (s : State) : Host.Outcome State Fault Refusal :=
  let c := s.inp.c
  let old := s.slotLo c
  let new := withField s.inp.w.toNat 63 62 0
  let rest := if slotValid old then old.toNat / 2 ^ 64 else new / 2 ^ 64
  .next { s with slots := mapSet 0 s.slots c.toNat (BitVec.ofNat 256 (new % 2 ^ 64 + 2 ^ 64 * rest)) }

end Sys2Proof.Machine
end

