-- ==== Sys2Proof/Machine/Reset.lean ====
section
/-! DEFINITION. The reset of a bulkhead: requests that complete or abort, tasks killed, state zeroed (01 R21 step 3, 17 R336). -/

namespace Sys2Proof.Machine

/-- A core with nothing in it; the numbers it gives go on. -/
def Core.zeroed (c : Core) : Core := { Init.core with nid := c.nid }

/-! ## Compute bulkheads -/

/-- The core for which an access moves columns. -/
def Requester.core : Requester → Option (BitVec 8)
  | .port c _ => some c
  | .work c _ _ => some c
  | .node _ _ => none
  | .flit _ => none
  | .direct key _ _ _ => if 256 ≤ key then some (BitVec.ofNat 8 (key - 256)) else none
  | .save c => some c
  | .restore c => some c
  | .past _ => none

/-- Columns in the queues of the stacks stand for other requesters, or for none. -/
def State.requeue (s : State) (f : ColReq → Option Requester) : State :=
  { s with
    stk := s.stk.map fun k => (k.1, { k.2 with
      chans := k.2.chans.map fun p => (p.1, { p.2 with queue := p.2.queue.filterMap fun q => (f q).map fun w => { q with who := w } }) }) }

/-- A request of a core whose columns have all entered their queues goes on without it. -/
def State.passOn (s : State) (c : BitVec 8) (r : MemReq) : State :=
  let mine (w : Requester) : Bool := decide (w = .port c r.id)
  let s := s.requeue fun q => some (if mine q.who then .past r else q.who)
  { s with asks := s.asks.map fun a => if mine a.who then { a with who := .past r } else a }

/-- An operation's access has passed its gates whole: the operation does its work, and those of its columns that are still queued are written when they
are served. -/
def State.passWork (s : State) (a : Ask) (run : State → State) : State :=
  let queued := (s.stk.flatMap fun k => k.2.chans.flatMap fun p => p.2.queue.filter fun q => decide (q.who = a.who) && q.write).map (·.pa)
  let t := run { s with asks := s.asks.map fun x => if x.who = a.who then { x with out := 0, readyAt := 0, spots := [] } else x }
  let past (pa : Nat) : MemReq :=
    { id := 0, po := 0, kind := .store, cls := 0, piece := { target := .stack (BitVec.ofNat 39 pa), off := 0, n := 32 }, data := t.physRead pa 32, scope := 4
      merges := false, entry := 0, acq := false, rel := false, sent := true, left := 1, readyAt := 0, psn := t.physPoisoned pa 32 }
  let kept := queued.filter fun pa => decide (s.physRead pa 32 ≠ t.physRead pa 32 ∨ s.physPoisoned pa 32 ≠ t.physPoisoned pa 32)
  let u := kept.foldl (fun (u : State) pa => u.physWrite pa 32 (s.physRead pa 32) (s.physPoisoned pa 32)) t
  let u := u.requeue fun q => if q.who ≠ a.who then some q.who else if q.write ∧ kept.contains q.pa then some (.past (past q.pa)) else none
  { u with
    asks := u.asks ++ kept.map fun pa =>
      { who := .past (past pa), vc := a.vc, todo := [], out := 1, readyAt := 0, spots := [], win := a.win } }

/-- What an operation of a core does when its columns have been served. -/
def State.workTurn (s : State) (c : BitVec 8) (id : Nat) : State :=
  match (s.core c).op id with
  | none => s
  | some o =>
    if o.port = 3 then s.endBag c o
    else if (o.name = .rpkX ∨ o.name = .rpkF) ∧ o.done = false then s.tryRoot (cbOf c) (packetTree o.snap.d) o.m (localOf c)
    else match execEngineComplete { s with inp := { s.inp with c := c, id := id } } with
      | .next t => { t with inp := s.inp }
      | _ => s

/-- The requests and operations of a core whose columns lie in their stacks whole are completed; what has not entered is discarded (17 R336 step 1). -/
def State.finishSent (s : State) (c : BitVec 8) : State :=
  let entered (who : Requester) : Option Ask := (s.ask who).filter fun a => a.todo.isEmpty && a.far.isEmpty && a.next.isEmpty
  let s := ((s.core c).mq.filter fun r => r.sent && decide (r.left ≠ 0) && (entered (.port c r.id)).isSome).foldl (fun s r => s.passOn c r) s
  let s := ((s.core c).mq.filter fun r => r.sent && decide (r.left = 0)).foldl (fun s r => s.applyAtomic c r) s
  let s := (s.core c).ops.foldl (fun s o => match entered (.work c o.id 0) with
    | some a => s.passWork a fun s => s.workTurn c o.id
    | none => s) s
  let s := s.requeue fun q => if q.who.core = some c then none else some q.who
  { s.updCore c fun k => { k with mq := [] } with asks := s.asks.filter fun a => decide (a.who.core ≠ some c) }

/-- Whether every member of a task has halted: it retires even when a reset meets it (17 R341). -/
def State.allHalted (s : State) (b : Binding) : Bool := b.cores.all fun c => decide ((s.core c).run = .halted)

/-- A task whose cores are reset leaves them at once: retired, or killed; while its bank programs run its wave still counts it (11 R266). -/
def State.endReset (s : State) (b : Binding) : State :=
  let c := b.cores.headD 0
  let runs := b.cores.any fun d => (s.core d).runsPrograms
  match (s.core c).run.killCode with
  | some code => if runs then (s.answerDisplace b 1).leaveDying b (s.tidxAt c) code else s.endKilled b (s.tidxAt c) code
  | none =>
    if runs then ((s.post (.retired (b.cores.headD 0) b.node (s.tidxAt c) b.bindseq)).answerDisplace b 2).leaveDying b (s.tidxAt c) 0
    else s.endRetired b (s.tidxAt c)

/-- Translation caches are emptied. -/
def State.dropCaches (s : State) (keys : List Nat) : State := { s with tlb := keys.foldl (fun m k => mapSet [] m k []) s.tlb }

/-- The reset of compute bulkhead `b`. -/
def State.resetCompute (s : State) (b : Nat) : State :=
  let cs := coresOfCb b
  let s := cs.foldl State.finishSent s
  let bs := s.bindings.filter fun x => x.cores.any fun c => decide (cbOf c = b)
  let s := (bs.filter fun x => !s.allHalted x).foldl (fun s x => s.killTask x 0x0602) s
  let s := bs.foldl State.endReset s
  let s := (s.updCores cs Core.zeroed).dropCaches (cs.map coreKey)
  { s with
    trees := mapDrop s.trees (16 * b) (16 * b + 16)
    rounds := s.rounds.filter fun r => decide (r.b.toNat ≠ b)
    fab := s.fab.filter fun q => decide (cbOf q.core ≠ b) }

/-! ## Memory bulkheads -/

/-- Whether a request has entered stack `k` and is not complete. -/
def MemReq.inStack (r : MemReq) (k : Nat) : Bool :=
  r.sent && (r.writes || decide (r.left ≠ 0)) && match r.piece.target with
    | .stack pa => decide (pa.toNat / 2 ^ 36 = k)
    | .fabric _ _ => false

/-- A channel's queues, rows, engines and stores are cleared; its counters and refresh are kept, and its banks' timing goes on (13 R279). -/
def PChan.cleared (p : PChan) : PChan :=
  { Init.pchan with
    actAt := p.actAt, preAt := p.preAt, colAt := p.colAt, count := p.count, chkBad := p.chkBad, actHold := p.actHold, refDue := p.refDue, refRow := p.refRow, refAt := p.refAt, busy := p.busy
    progs := p.progs }

/-- Whether an access has columns in a stack or on their way there. -/
def State.asksIn (s : State) (k : Nat) (a : Ask) : Bool :=
  (a.todo.any fun x => decide (x.1 / 2 ^ 36 = k)) || (s.stack k).chans.any fun p => p.2.queue.any fun q => decide (q.who = a.who)

/-- An access that has columns in a stack, or a request in a port, is aborted with them (17 R336, R338): an engine's operation logs 0x0602 and its task is killed, a bulk node's
engine logs it and the node is refused, and a request from outside is answered with an abort. -/
def State.loseAsk (s : State) (at_ addr : Nat) (a : Ask) : State :=
  let s := s.dropAsk a.who
  match a.who with
  | .port _ _ => s
  | .work c id _ =>
    let unit := match (s.core c).op id with
      | some o => o.name.unit
      | none => 3
    (s.coreError c unit { cls := 3, code := 0x0602, atype := at_, addr := addr }).killCore c 0x0602
  | .node r b =>
    let s := s.logError b (bulkRecord b) { cls := 3, code := 0x0602, atype := at_, addr := addr }
    match s.activeNode r with
    | some x => s.refuseActive x 0x1604
    | none => s
  | .flit n => match s.inbound.find? fun x => decide (x.1 = n) with
    | some x => ({ s with inbound := s.inbound.filter fun x => decide (x.1 ≠ n) } : State).answerFlit x.2.1 none
    | none => s
  | .direct key x write code => match x with
    | .fabric _ _ => s.gain key { place := x, write := write, code := code, lost := true }
    | .stack _ => s
  | .save _ => s
  | .restore _ => s
  | .past _ => s

/-- The reset of the memory bulkhead of stack `k`: a page move is abandoned (20 R396). -/
def State.resetMemory (s : State) (k : Nat) : State :=
  let reqs := s.cores.flatMap fun x => (x.2.mq.filter fun r => r.inStack k).map fun r => (BitVec.ofNat 8 x.1, r)
  let chans := (s.stack k).chans.map (·.2)
  let progs := chans.filterMap (·.prog)
  let launches := progs.map (·.launch) ++ chans.flatMap (·.waiting)
  let asks := s.asks.filter (s.asksIn k)
  let s := s.updStack k fun t =>
    { t with chans := (t.chans.map fun x => (x.1, x.2.cleared)).filter fun x => decide (x.2 ≠ Init.pchan), move := none }
  let s := progs.foldl
    (fun s g => s.updUp g.launch.part g.launch.rasid (fun r => { r with bankact := r.bankact - 1 }) 16 g.launch.rcb) s
  let s := reqs.foldl (fun s x => s.resetAbort x.1 x.2) s
  let s := asks.foldl (fun s a => s.loseAsk 2 (k * 2 ^ 36) a) s
  launches.foldl State.loseLaunch s

/-! ## Link bulkheads -/

/-- The reset of link bulkhead `b`: the requests in its ports are aborted (17 R338). -/
def State.resetLink (s : State) (b : Nat) : State :=
  let mine (q : FabReq) : Bool := decide (24 + q.port / 4 = b)
  let gone := (s.inbound.filter fun x => decide (x.2.1 = b)).map fun x => Requester.flit x.1
  let t : State :=
    { s with
      fab := s.fab.filter fun q => !mine q, ports := mapDrop s.ports (4 * (b - 24)) (4 * (b - 24) + 4)
      inbound := s.inbound.filter fun x => decide (x.2.1 ≠ b), asks := s.asks.filter fun a => !gone.contains a.who }
  let far := s.asks.filterMap fun a => (a.far.find? fun f => decide (f.lb = b)).map fun f => (a, f.place.report)
  let t := far.foldl (fun s x => s.loseAsk x.2.1 x.2.2 x.1) t
  (s.fab.filter mine).foldl
    (fun s q => match (s.core q.core).req q.req with
      | some r => s.resetAbort q.core r
      | none => s) t

/-! ## Any bulkhead -/

/-- Whether an access is that of a bulkhead's bulk engines for a node, or of its walkers: it is discarded with them, and the node's copy begins again. -/
def Requester.bulkOf (b : Nat) : Requester → Bool
  | .node _ e => decide (e = b)
  | .direct key _ _ _ => decide (key = b)
  | _ => false

/-- The reset of bulkhead `b`. -/
def State.resetBulkhead (s : State) (b : Nat) : State :=
  let s := if b < 16 then s.resetCompute b else if b < 24 then s.resetMemory (b - 16) else s.resetLink b
  { s.dropCaches [b] with
    got := mapSet [] s.got b []
    asks := s.asks.filter fun a => !a.who.bulkOf b, vcstop := mapDrop s.vcstop (4 * b) (4 * b + 4) }

/-- The reset of a bulkhead by the SMC, with its event (17 R336). -/
def State.smcReset (s : State) (b : Nat) : State := (s.resetBulkhead b).post (.bulkheadReset b)

/-- BULKHEAD_RESET: bulkhead `b` is reset. -/
def execBulkheadReset (s : State) : Host.Outcome State Fault Refusal := .next (if s.inp.b.toNat < 32 then s.smcReset s.inp.b.toNat else s)

end Sys2Proof.Machine
end

