-- ==== Sys2Proof/Machine/ControlWindow.lean ====
section
/-! DEFINITION. The control window: ownership, partition changes, the arbiter's registers, windows, streams, and the clearing of error records (01 R19-R25, R30-R34, 15 R302, 17 R331, 20 R395). -/

namespace Sys2Proof.Machine

/-! ## Accesses (01 R30, R32, R34) -/

/-- The answer to a control-window access: a value, or a refusal. -/
def State.answerCw (s : State) (x : Option (BitVec 64)) : State := { s with ctl := { s.ctl with answer := x } }

/-- An access that arrives at port `port` is sequenced, unless stop holds channel 2 of its link bulkhead (01 R29): a release that is due comes first (20
R396), then its event, and the owner's timer;
before READY it only reads 0. -/
def State.access (s : State) (act : State → State) : State :=
  if s.stopped (24 + s.inp.port.toNat / 4) 2 then s
  else if !s.ctl.bootst.getLsbD 0 then s.answerCw (some 0)
  else
    act ((s.releaseDue.post (.controlWindow s.inp.fid)).heardFrom s.inp.fid)

/-- A write: refused unless its master is the owner. -/
def State.ownerWrite (s : State) (act : State → State) : State :=
  s.access fun s => if s.owner = some s.inp.fid then (act s).answerCw (some 0) else s.answerCw none

/-- A register as it is read; a reserved offset reads 0. -/
def Ctl.read (x : Ctl) (off : Nat) : BitVec 64 :=
  if off % 8 ≠ 0 then 0
  else if off = 0x0000 then x.own
  else if off = 0x0010 then x.bootst
  else if off = 0x0020 then x.ptab
  else if off = 0x0028 then x.pcfgst
  else if off = 0x0040 then x.pceil
  else if 0x0080 ≤ off ∧ off ≤ 0x00B8 then mapGet 0 x.pshare ((off - 0x0080) / 8)
  else if 0x0200 ≤ off ∧ off ≤ 0x02F8 then
    let e := mapGet Init.windowEntry x.win ((off - 0x0200) / 16)
    if off % 16 = 0 then e.w0 else e.w1
  else if 0x1000 ≤ off ∧ off ≤ 0x11F8 then mapGet 0 x.stream ((off - 0x1000) / 8)
  else 0

/-! ## Ownership (01 R31, R32, 20 R395) -/

/-- OWN_COMPARE_AND_SWAP: master `fid` compares OWN with `v` and offers `v2`; the old value is answered.  At another offset the access is refused. -/
def execOwnCompareAndSwap (s : State) : Host.Outcome State Fault Refusal :=
  .next (s.access fun s =>
    if s.inp.off ≠ 0 then s.answerCw none
    else
      let old := s.ctl.own
      (if old = s.inp.v ∧ old.getLsbD 16 = false then s.setOwn s.inp.v2 else s).answerCw (some old))

/-- HANDOFF_WRITE: the owner names its successor, or releases ownership. -/
def execHandoffWrite (s : State) : Host.Outcome State Fault Refusal :=
  .next (s.ownerWrite fun s => if s.inp.v.getLsbD 16 then s.setOwn 0 else s.setOwn (0x10000 ||| (s.inp.v &&& 0xFFF)))

/-- OWNER_TIMEOUT: no flit from the owner has arrived for 1 s: ownership is released, with record 0x0307. -/
def execOwnerTimeout (s : State) : Host.Outcome State Fault Refusal :=
  .next s.releaseDue

/-! ## Partition changes (01 R18-R21) -/

/-- Whether a START pattern is legal: octant 0 begins a partition, and each run has 1, 2, 4 or 8 octants and begins at a multiple of that. -/
def startLegal (start : Nat) : Bool :=
  start.testBit 0 && (List.range 8).all fun k =>
    !start.testBit k || (let n := endOctant start k - k; decide (n = 1 ∨ n = 2 ∨ n = 4 ∨ n = 8) && decide (k % n = 0))

/-- The octants whose partition differs between two arrangements. -/
def changing (old new : Nat) : List Nat :=
  (List.range 8).filter fun k =>
    let a := firstOctant old k
    let b := firstOctant new k
    decide (a ≠ b ∨ endOctant old a ≠ endOctant new b)

/-- PCFGST (01 R20). -/
def pcfgst (busy bad : Bool) (pending : List Nat) : BitVec 64 :=
  BitVec.ofNat 64 (busy.toNat + 2 * bad.toNat + pending.foldl (fun m k => m + 2 ^ (8 + k)) 0)

/-- The octants whose partition is changing. -/
def Ctl.pending (x : Ctl) : List Nat := (List.range 8).filter fun k => x.pcfgst.getLsbD (8 + k)

/-- PTAB_WRITE: the owner writes START: a legal one begins a change (step 1); any other, or one while BUSY, is discarded and sets BAD. -/
def execPtabWrite (s : State) : Host.Outcome State Fault Refusal :=
  .next (s.ownerWrite fun s =>
    let new := s.inp.v.toNat % 256
    if s.ctl.pcfgst.getLsbD 0 ∨ startLegal new = false then { s with ctl := { s.ctl with pcfgst := s.ctl.pcfgst ||| 2 } }
    else
      { s with ctl := { s.ctl with pcfgst := pcfgst true false (changing s.start new), pnew := BitVec.ofNat 8 new, pstep := 1 } })

/-- Step 2: windows with a source or target in a changing octant are in force no longer. -/
def Ctl.dropWindows (x : Ctl) (ks : List Nat) : Ctl :=
  { x with
    win := x.win.map fun e =>
      let w := e.2.force0.toNat
      if ks.contains (w % 8) ∨ (ks.any fun k => w.testBit (8 + k)) = true then (e.1, { e.2 with force0 := e.2.force0 &&& 0x7FFFFFFFFFFFFFFF })
      else e }

/-- Everything the spine holds of a partition's work goes. -/
def State.dropPartition (s : State) (p : Nat) : State :=
  let keep (r : Request) : Bool := decide (r.part ≠ p)
  { s with
    cp :=
      { reqs := s.cp.reqs.filter keep, due := s.cp.due.filter fun d => keep d.req, pend := s.cp.pend.filter keep, full := s.cp.full.filter keep
        queue := s.cp.queue.filter fun q => decide (s.partOf (q.2 / 2 ^ 36) ≠ p), subs := s.cp.subs.filter fun x => decide (x.2.part ≠ p)
        regions := s.cp.regions.filter fun r => decide (r.part ≠ p), active := s.cp.active.filter fun a => keep a.req
        waves := s.cp.waves.filter fun w => keep w.req }
    pools := mapDrop s.pools (256 * p) (256 * p + 256), tasks := s.tasks.filter fun t => decide (t.part ≠ p)
    age := s.age.filter fun a => decide (a.part ≠ p), owns := s.owns.filter fun o => decide (o.part ≠ p) }

/-- Submissions of a partition, running or queued, are ended: QLEN falls and an event is posted for each. -/
def State.endPartition (s : State) (p : Nat) : State :=
  let run := (s.cp.subs.filter fun x => decide (x.2.part = p)).map (·.1)
  let queued := (s.cp.queue.filter fun q => decide (s.partOf (q.2 / 2 ^ 36) = p)).map (·.1)
  ((run ++ queued).foldl (fun s i => (s.post (.submissionEnded i)).lowerQlen i) s).dropPartition p

/-- Step 3 for one octant: its bulkheads are reset. -/
def State.resetOctant (s : State) (k : Nat) : State := [2 * k, 2 * k + 1, 16 + k, 24 + k].foldl State.resetBulkhead s

/-- What the bank engines' writes to every column of a stack cost its byte budget (01 R27). -/
def zeroUnits : Int := 2 * 2 ^ 31

/-- A stack is zeroed by its bank engines, charged at once: the octant's error records go with their page, and the spine's copy is written again (17 R327). -/
def State.zeroStack (s : State) (k : Nat) : State :=
  let lo := k * 2 ^ 36
  let clear (m : FMap (BitVec 256)) (b : Nat) : FMap (BitVec 256) := mapDrop m (256 * b) (256 * b + 256)
  let s : State :=
    { s with
      mem := mapDrop s.mem lo (lo + 2 ^ 36), poison := mapDrop s.poison (lo / 32) (lo / 32 + 2 ^ 31)
      recs := [2 * k, 2 * k + 1, 16 + k, 24 + k].foldl clear s.recs }
  let s := s.updStack k fun t =>
    { t with
      count := t.count - zeroUnits
      badPages := [], eccAt := [], chans := (t.chans.map fun x => (x.1, { x.2 with far := [], staged := [] })).filter fun x => decide (x.2 ≠ Init.pchan) }
  (List.range 6).foldl
    (fun (s : State) n => { s with mem := writeBytes s.mem (s.redirect (lo + 0x25000 + 32 * n)) 32 (s.record spineBank n).toNat }) s

/-- Step 5: the gates take the new arrangement; until then PTAB reads as before (the model's choice, log 25).  BAD of a write that was
discarded meanwhile stays (01 R20). -/
def State.openGates (s : State) : State :=
  let ptab : BitVec 64 := s.ctl.pnew.zeroExtend 64
  { s with ctl := { s.ctl with ptab := ptab, pcfgst := s.ctl.pcfgst &&& 2, pstep := 0 }, rptr := [] }.post (.partitionChange ptab)

/-- PARTITION_CHANGE_STEP: the next step of R21. -/
def execPartitionChangeStep (s : State) : Host.Outcome State Fault Refusal :=
  let ks := s.ctl.pending
  let next (s : State) : State := { s with ctl := { s.ctl with pstep := s.ctl.pstep + 1 } }
  .next (match s.ctl.pstep with
    | 1 => next { s with ctl := s.ctl.dropWindows ks }
    | 2 => next ((ks.filter fun k => decide (s.partOf k = k)).foldl State.endPartition (ks.foldl State.resetOctant s))
    | 3 => next (ks.foldl State.zeroStack s)
    | 4 => s.openGates
    | _ => s)

/-! ## The arbiter's registers, windows and streams (01 R23-R25, 15 R302) -/

/-- PCEIL_WRITE: the owner writes the package ceiling, clamped to 2,400-4,000 W. -/
def execPceilWrite (s : State) : Host.Outcome State Fault Refusal :=
  .next (s.ownerWrite fun s => { s with ctl := { s.ctl with pceil := BitVec.ofNat 64 (min 4000 (max 2400 (s.inp.v.toNat % 4096))) } })

/-- Bits of a window entry's words that are not reserved. -/
def windowMask0 : BitVec 64 := 0x800000000003FF07
def windowMask1 : BitVec 64 := 0x003FFFFF003FFFFF

/-- WINDOW_ENTRY_WRITE: the owner writes word 0 of window entry `j`, or with `flag` word 1; word 0 puts both in force. -/
def execWindowEntryWrite (s : State) : Host.Outcome State Fault Refusal :=
  .next (s.ownerWrite fun s =>
    let e := mapGet Init.windowEntry s.ctl.win s.inp.j.toNat
    let e :=
      if s.inp.flag then { e with w1 := s.inp.v &&& windowMask1 }
      else { w0 := s.inp.v &&& windowMask0, w1 := e.w1, force0 := s.inp.v &&& windowMask0, force1 := e.w1 }
    { s with ctl := { s.ctl with win := mapSet Init.windowEntry s.ctl.win s.inp.j.toNat e } })

/-- A stream register's write: accepted, or discarded with DROP. -/
def State.streamWrite (s : State) (n : Nat) (v : BitVec 64) : State :=
  let w := mapGet 0 s.ctl.stream n
  let qlen := fieldOf w.toNat 4 0
  let recd := v.toNat % 2 ^ 39 / 64 * 64
  let pend := s.ctl.pending.contains (recd / 2 ^ 36)
  let put (w : Nat) : State := { s with ctl := { s.ctl with stream := mapSet 0 s.ctl.stream n (BitVec.ofNat 64 w) } }
  if 16 ≤ qlen ∨ pend = true then put (withField w.toNat 5 5 1)
  else
    let t := put (qlen + 1 + recd)
    { t with cp := { t.cp with queue := t.cp.queue ++ [(BitVec.ofNat 6 n, recd)] } }

/-- STREAM_WRITE: the owner writes stream register `p`. -/
def execStreamWrite (s : State) : Host.Outcome State Fault Refusal :=
  .next (s.ownerWrite fun s => if s.inp.p < 64 then s.streamWrite s.inp.p s.inp.v else s)

/-- CONTROL_WINDOW_WRITE: the owner writes the register at offset `off`: a PSHARE; reserved and read-only registers ignore it.  With `flag` any master
reads instead. -/
def execControlWindowWrite (s : State) : Host.Outcome State Fault Refusal :=
  let off := s.inp.off.toNat
  .next (if s.inp.flag then s.access fun s => s.answerCw (some (s.ctl.read off))
    else s.ownerWrite fun s =>
      if off % 8 = 0 ∧ 0x0080 ≤ off ∧ off ≤ 0x00B8 then
        { s with ctl := { s.ctl with pshare := mapSet 0 s.ctl.pshare ((off - 0x0080) / 8) (s.inp.v &&& 0xFFF) } }
      else s)

/-! ## Error records (17 R331) -/

/-- RECORD_CLEAR: master `fid` writes `v` to word 3 of record `id` of bank `b`: the owner's write of the record's SEQ clears it. -/
def execRecordClear (s : State) : Host.Outcome State Fault Refusal :=
  let b := s.inp.b.toNat
  let s := s.heardFrom s.inp.fid
  .next (if s.owner = some s.inp.fid ∧ b ≤ 32 ∧ s.inp.id < recordCount b ∧ s.inp.v = (s.record b s.inp.id).extractLsb' 192 64 then s.setRecord b s.inp.id 0 else s)

end Sys2Proof.Machine
end

