-- ==== Sys2Proof/Machine/Fabric.lean ====
section
/-! DEFINITION. Phicolane: flits received, ports that retrain and fail, requests that time out, stop and go (01 R22, R29, 11 R256, 17 R333, 20 R392-R394). -/

namespace Sys2Proof.Machine

/-- Bank and record of a port. -/
def portBank (i : Nat) : Nat := 24 + i / 4

def State.portRecord (s : State) (i code : Nat) : State := s.logError (portBank i) (i % 4) { cls := 1, code := code }

/-! ## Responses to the device's own requests (11 R256, 20 R393) -/

/-- A request leaves the list of those outstanding. -/
def State.takeFab (s : State) (tag : Nat) : State := { s with fab := s.fab.filter fun q => decide (q.tag ≠ tag) }

/-- A response is taken: a load has its data, an atomic its old value, a store has performed. -/
def State.fabResponse (s : State) (q : FabReq) (data : Nat) : State :=
  let psn := s.inp.extPsn
  let s := s.takeFab q.tag
  match (s.core q.core).req q.req with
  | none => s
  | some r =>
    let data := data % 256 ^ q.n
    match r.kind with
    | .load _ => s.updCore q.core fun k => k.updReq r.id fun r => { r with data := data, left := 0, psn := psn }
    | .store => s.updCore q.core fun k => k.dropReq r.id
    | .atomic _ _ _ l =>
      s.updCore q.core fun k =>
        let k := { k.dropReq r.id with seg := { k.seg with atoms := k.seg.atoms.map fun a => if a.1 = r.id then (a.1, some data) else a } }
        match l with
        | some l => k.fillLanding l data psn
        | none => k

/-- An outstanding request ends in an abort. -/
def State.fabAbort (s : State) (q : FabReq) : State :=
  let s := s.takeFab q.tag
  match (s.core q.core).req q.req with
  | none => s
  | some r => s.abortReq q.core r

/-- The outstanding request with a tag. -/
def State.fabReq (s : State) (tag : Nat) : Option FabReq := s.fab.find? fun q => decide (q.tag = tag)

/-! ## Requests from outside (01 R22, 17 R333, 20 R394) -/

/-- How the gates judge a request that enters at a link bulkhead: it passes; it is stopped for its poison; it does not pass. -/
inductive Judged where
  | passes | poison | aborted
deriving DecidableEq, Repr

/-- The judgement: the gates open at the last step of bring-up (01 R33); the owner's requests pass; another master's are those of the partition that
holds the link bulkhead. -/
def State.judgeFlit (s : State) (lb : Nat) (fid : BitVec 12) (pa : Nat) (rd wr psn : Bool) : Judged :=
  let p := s.partOf (octantOf lb)
  if s.ctl.bootst.getLsbD 0 = false then .aborted
  else if s.owner = some fid then .passes
  else if !s.gatePasses p pa rd wr then .aborted
  else if psn && decide (s.partOf (pa / 2 ^ 36) ≠ p) then .poison
  else .passes

/-- A request that does not pass is answered with an abort and recorded at the gate. -/
def State.refuseFlit (s : State) (lb : Nat) (fid : BitVec 12) (pa : Nat) (j : Judged) : State :=
  let e : ErrInfo := { cls := if j = .poison then 2 else 1, code := if j = .poison then 0x0601 else 0x0306, atype := 4, addr := fid.toNat + pa <<< 12 }
  (s.logError lb 5 e).answerFlit lb none

/-! ### Requests that have passed -/

/-- The access of a request from outside: its place, its bytes, and whether it writes. -/
def flitAccess : Flit → Option (Nat × Nat × Bool)
  | .read _ pa n => some (pa.toNat, n, false)
  | .write _ pa n _ _ => some (pa.toNat, n, true)
  | .atomic _ pa _ sz _ _ => some (pa.toNat, atomBytes sz, true)
  | _ => none

/-- The fabric ID that a flit comes from. -/
def flitFid : Flit → BitVec 12
  | .response fid _ _ => fid
  | .abort fid _ => fid
  | .read fid _ _ => fid
  | .write fid _ _ _ _ => fid
  | .atomic fid _ _ _ _ _ => fid
  | .other fid => fid

/-- A request that passes begins to move its columns, and is numbered among those that wait for theirs. -/
def State.admitFlit (s : State) (lb : Nat) (f : Flit) (pa n : Nat) (wr : Bool) : State :=
  let i := (s.inbound.map (·.1)).foldl max 0 + 1
  { s with inbound := s.inbound ++ [(i, lb, f)] }.newAsk (.flit i) 0 ((columnsOf pa n).map fun x => (x, wr))

/-- A request from outside is judged at the gates (01 R22, 17 R333, R336, 20 R394). -/
def State.judgeRequest (s : State) (lb : Nat) (f : Flit) (pa n : Nat) (wr : Bool) : State :=
  let psn := match f with
    | .write _ _ _ _ psn => psn
    | _ => false
  match s.judgeFlit lb (flitFid f) pa (!wr) wr psn with
  | .passes => if s.stackDown (pa / 2 ^ 36) then s.answerFlit lb none else s.admitFlit lb f pa n wr
  | j => s.refuseFlit lb (flitFid f) pa j

/-- A good flit is taken by link bulkhead `lb`; of a request whose 2 ms are over the response is discarded (20 R393). -/
def State.takeFlit (s : State) (lb : Nat) (f : Flit) : State :=
  match f with
  | .response _ tag data => match s.fabReq tag with
    | some q => if q.sentAt + 2000000 < s.ns then s.fabAbort q else s.fabResponse q data
    | none => s
  | .abort _ tag => match s.fabReq tag with
    | some q => s.fabAbort q
    | none => s
  | _ => match flitAccess f with
    | some (pa, n, wr) => s.judgeRequest lb f pa n wr
    | none => s

/-- Poison combined by an atomic from outside is consumed at its home: recorded at the pseudo-channel; no task of the device is to be killed (log 44).
-/
def State.homeConsumes (s : State) (pa : Nat) : State :=
  let code := Config.consumeCode s.nfree
  s.takeFree.logError (stackBank (pa / 2 ^ 36)) (chanOf (s.redirect pa % 2 ^ 36)) { cls := 3, code := code.toNat, atype := 2, addr := pa }

/-- A request from outside is performed, and answered; data that has been found poisoned since is judged with the answer. -/
def State.performFlit (s : State) (lb : Nat) (f : Flit) : State :=
  match f with
  | .read fid pa n =>
    let psn := s.ordPoisoned pa.toNat n
    (match s.judgeFlit lb fid pa.toNat true false psn with
    | .poison => s.refuseFlit lb fid pa.toNat .poison
    | _ => (s.sawArray pa.toNat n).answerFlit lb (some (s.ordRead pa.toNat n, psn)) n)
  | .write _ pa n data psn => (s.physWrite pa.toNat n data psn).answerFlit lb (some (0, false))
  | .atomic _ pa op sz x x2 =>
    let n := atomBytes sz
    let old := s.physRead pa.toNat n
    let psn := s.physPoisoned pa.toNat n
    let s := s.physWrite pa.toNat n (atomApply op sz old x.toNat x2) psn
    (if psn then s.homeConsumes pa.toNat else s).answerFlit lb (some (old, psn)) n
  | _ => s

/-- Whether a write from outside waits for translations in use (11 R255). -/
def State.flitWaits (s : State) (f : Flit) : Bool := match flitAccess f with
  | some (pa, n, true) => s.dirBusy (fun _ _ => false) (.stack (BitVec.ofNat 39 pa)) n
  | _ => false

/-- Request `n` from outside is performed once its columns have been served, nothing holds its write and responses may leave its link bulkhead. -/
def State.tryFlit (s : State) (n : Nat) : State :=
  match s.inbound.find? fun x => decide (x.1 = n) with
  | none => s
  | some (_, lb, f) =>
    if s.linkHolds lb 1 || s.flitWaits f then s
    else match s.ask (.flit n) with
      | some a =>
        if a.served s.ns && !s.respHeld a then
          ({ s.dropAsk (.flit n) with inbound := s.inbound.filter fun x => decide (x.1 ≠ n) } : State).performFlit lb f
        else s.retryAsk a
      | none => s

/-- A flit whose CRC fails: replay is asked for (0x0301); after 8 replays of it have failed in a row, or 64 within 1 ms, the port retrains. -/
def State.badFlit (s : State) (i : Nat) : State :=
  (s.portRecord i 0x0301).updPort i fun p =>
    let times := p.replayAt.filter (fun t => decide (s.ns < t + 1000000)) ++ [s.ns]
    { p with replays := p.replays + 1, replayAt := times, training := decide (9 ≤ p.replays + 1) || decide (64 ≤ times.length) }

/-- The virtual channel of a flit: responses come on VC 1, requests on VC 0 (01 R29). -/
def flitVc : Flit → Nat
  | .response _ _ _ => 1
  | .abort _ _ => 1
  | _ => 0

/-- FLIT_RECEIVE: flit `flit` arrives at port `port`, with `flag` one whose CRC fails; a port that is down or training takes none, nor does one of a
bulkhead that has stopped the flit's channel.  With `flag2` request
`id`, which came so before, is performed once it may. -/
def execFlitReceive (s : State) : Host.Outcome State Fault Refusal :=
  let i := s.inp.port.toNat
  .next (if s.inp.flag2 then s.tryFlit s.inp.id
    else if (s.port i).down ∨ (s.port i).training then s
    else if s.stopped (portBank i) (flitVc s.inp.flit) then s
    else if s.inp.flag then s.badFlit i
    else
      ((s.updPort i fun p => { p with replays := 0, rxSeq := p.rxSeq + 1 }).heardFrom (flitFid s.inp.flit)).takeFlit (portBank i) s.inp.flit)

/-- An outstanding request moves to another port: a read is sent again, and a write or atomic awaits its response there (20 R392); the 2 ms run from the
first send (20 R396). -/
def State.moveFab (s : State) (i : Nat) (q : FabReq) : State :=
  let t : State := { s with fab := s.fab.map fun x => if x.tag = q.tag then { x with port := i } else x }
  if q.write then t else t.sendOn q.tag 0 i

/-- The requests of accesses that left on port `i` move to another, or to none: reads are sent again, and writes await their responses there. -/
def State.moveFar (s : State) (i : Nat) (j : Option Nat) : State :=
  let mine (f : FarReq) : Bool := decide (f.port = some i)
  let again := s.asks.flatMap fun a => (a.far.filter fun f => mine f && !f.write).map fun f => (a.who, f)
  let s := match j with
    | some j => again.foldl (fun (s : State) (x : Requester × FarReq) => s.sendOn x.1.tag x.2.carried j) s
    | none => s
  { s with asks := s.asks.map fun a => { a with far := a.far.map fun f => if mine f then { f with port := j } else f } }

/-- A port goes down (0x0303): its traffic moves to the lowest-numbered working port of its bulkhead, or, when there is none, is aborted (20 R393). -/
def State.portDown (s : State) (i : Nat) : State :=
  let s := (s.portRecord i 0x0303).updPort i fun p => { p with down := true, training := false, buf := [] }
  let mine := s.fab.filter fun q => decide (q.port = i)
  let s := s.moveFar i (s.portOf (portBank i))
  match s.portOf (portBank i) with
  | some j => mine.foldl (fun s q => s.moveFab j q) s
  | none => mine.foldl State.fabAbort s

/-- PORT_RETRAIN: a retraining of port `port` ends, with `flag` in failure; the third failure in a row leaves the port down. -/
def execPortRetrain (s : State) : Host.Outcome State Fault Refusal :=
  let i := s.inp.port.toNat
  .next (if !(s.port i).training then s
    else
      let s := s.portRecord i 0x0302
      if !s.inp.flag then s.updPort i fun p => { p with training := false, fails := 0, replays := 0, replayAt := [] }
      else
        let s := s.updPort i fun p => { p with fails := p.fails + 1 }
        if 3 ≤ (s.port i).fails then s.portDown i else s)

/-- FABRIC_REQUEST_TIMEOUT: the request with tag `id` has had no response for 2 ms, nor in the cycle in which they ended (20 R396): it is aborted. -/
def execFabricRequestTimeout (s : State) : Host.Outcome State Fault Refusal :=
  .next (match s.fabReq s.inp.id with
    | some q => if q.sentAt + 2000000 < s.ns then s.fabAbort q else s
    | none => s)

/-- VC_STOP_GO: the receiver of virtual channel `vc` of bulkhead `b` raises stop (`flag`) or drops it. -/
def execVcStopGo (s : State) : Host.Outcome State Fault Refusal :=
  .next (if s.inp.b.toNat < 32 then { s with vcstop := mapSet false s.vcstop (4 * s.inp.b.toNat + s.inp.vc.toNat) s.inp.flag } else s)

end Sys2Proof.Machine
end

