-- ==== Sys2Proof/Machine/Context.lean ====
section
/-! DEFINITION. The context of a member in its save area: layout, save and restore; and the context and pool of a first bind (02 R45, R47, 03 R62-R66, R412, 06 R132, 15 R313-R315, R413, R416). -/

namespace Sys2Proof.Machine

/-! ## Layout -/

/-- What a save area holds: offset, bytes and value of each item that is not zero. -/
abbrev Layout := List (Nat × Nat × Nat)

/-- The entries of a map as items of `n` bytes each. -/
def itemsOf {α : Type} (m : FMap α) (at_ : Nat → Nat) (n : Nat) (f : α → Nat) : Layout := m.map fun x => (at_ x.1, n, f x.2)

/-- The map of the first `n` keys that `f` fills, without those at the default. -/
def mapOf {α : Type} [DecidableEq α] (d : α) (n : Nat) (f : Nat → α) : FMap α :=
  (List.range n).filterMap fun i => if f i = d then none else some (i, f i)

/-- The file and number under which an eclipse entry names a result, and the result's value and tag (15 R313). -/
def eclipseDest : RegWrite → Nat × Nat × Nat × Nat
  | .s n x => (0, n, x.toNat, 0)
  | .v n x t => (1, n, x.toNat, t.toNat)
  | .p n x => (2, n, x.toNat, 0)
  | .a n x => (3, n, x.toNat, 0)
  | .mk n x => (4, n, x.toNat, 0)
  | .e n x => (5, n, x.toNat, 0)
  | .ew n w x => (5, n, (setDescWord 0 w.toNat x).toNat, 0)
  | .step _ n x => (3, n, x.toNat, 0)

/-- An eclipse entry: header word and value. -/
def eclipseItem (i : Nat) (r : Pending) : Layout :=
  let (file, n, x, tag) := eclipseDest r.write
  let a := 0x2000 + 576 * i
  [(a, 8, n + file <<< 6 + r.left <<< 9 + tag <<< 14 + r.flags.toNat <<< 18), (a + 64, 512, x)]

/-- A landing entry and its data (15 R416). -/
def landingItem (i : Nat) (l : Landing) : Layout :=
  [(0x19000 + 16 * i, 8, 1 + l.dest <<< 1 + l.file <<< 7 + l.left <<< 10 + l.sz.toNat <<< 15 + l.psn.toNat <<< 18),
   (0x11000 + 512 * i, 512, l.data.getD 0)]

/-- A loop level's five words (15 R315). -/
def levelItem (i : Nat) (l : Level) : Layout :=
  let a := 0x900 + 48 * i
  [(a, 8, l.c), (a + 8, 8, l.t), (a + 16, 8, l.trips + l.n <<< 34 + (l.body - 1) <<< 37 + l.active.toNat <<< 43), (a + 24, 8, l.first.toNat),
   (a + 32, 8, l.last.toNat), (0x580 + i, 1, l.active.toNat + l.n <<< 1)]

/-- The four counts of a colour as two words. -/
def Colour.counts (p : Colour) : Nat := p.copies.toNat + p.packets.toNat <<< 32 + p.banks.toNat <<< 64 + p.stores.toNat <<< 96

/-- The 128 bytes at 0x800 (15 R416). -/
def phaseItem (x : Ctx) : Layout :=
  [(0x800, 16, x.light.counts), (0x810, 16, x.dark.counts), (0x820, 32, if x.light.posted then x.light.hdr.toNat else 0),
   (0x840, 32, if x.dark.posted then x.dark.hdr.toNat else 0),
   (0x860, 8, x.light.posted.toNat + x.dark.posted.toNat <<< 1 + x.cur.toNat <<< 2 + x.light.gen.toNat <<< 4 + x.dark.gen.toNat <<< 5
     + x.light.held.toNat <<< 6 + x.dark.held.toNat <<< 7)]

/-- The program a BANKGO runs, or will: stack, pseudo-channel and number in the channel's sequence, modulo 32. -/
def State.programOf (s : State) (c : BitVec 8) (o : EngineOp) : Option (Nat × Nat × Nat) :=
  if o.done then none
  else
    let pa := o.snap.s3.toNat
    let k := pa / 2 ^ 36
    let pc := chanOf (pa % 2 ^ 36)
    let p := s.chan k pc
    let mine (l : BankLaunch) : Bool := l.go && decide (l.core = c) && decide (l.op = o.id) && l.away.isNone
    match p.prog with
    | some g => if mine g.launch then some (k, pc, g.num) else some (k, pc, (p.progs + (p.waiting.filter (·.go)).findIdx mine) % 32)
    | none => some (k, pc, (p.progs + (p.waiting.filter (·.go)).findIdx mine) % 32)

/-- The 32 bytes at 0x5E0: predicates, bases, tokens and the programs pending tokens wait for (15 R416). -/
def State.tokenItem (s : State) (c : BitVec 8) : Layout :=
  let k := s.core c
  let x := k.ctx
  let link (n : Nat) : Option (Nat × Nat × Nat) := match mapGet none x.k n with
    | some id => match k.ops.find? fun o => decide (o.id = id) with
      | some o => s.programOf c o
      | none => none
    | none => none
  let ns := upFrom 1 7
  let w0 := x.p.toNat + x.sB.toNat <<< 16 + x.vB.toNat <<< 24 + x.pB.toNat <<< 32 + x.kB.toNat <<< 40
    + (ns.map fun n => (mapGet none x.k n).isSome.toNat <<< (48 + n)).sum + (ns.map fun n => (link n).isSome.toNat <<< (56 + n)).sum
  (0x5E0, 8, w0) :: ns.filterMap fun n => (link n).map fun l => (0x5E8 + 2 * (n - 1), 2, l.2.1 + l.1 <<< 8 + l.2.2 <<< 11)

/-- Pending deferred faults, the earliest issued first (18 R352). -/
def inIssueOrder (l : List Deferred) : List Deferred := l.mergeSort fun a b => decide (a.seq ≤ b.seq)

/-- Pending deferred faults as they are saved. -/
def deferredItems (l : List Deferred) : Layout :=
  ((inIssueOrder l).mapIdx fun i d => [(0x710 + 16 * i, 8, d.code.toNat + d.port.toNat <<< 16), (0x718 + 16 * i, 8, d.tval.toNat)]).flatten

/-- Register banks 0-3 in the layout of 03 R412. -/
def Pool.bankItems (p : Pool) (base : Nat) : Layout :=
  itemsOf p.tile (fun i => base + 2 * i) 2 (·.toNat)
    ++ itemsOf p.code (fun i => base + 0x40000 + 4 * i) 4 (·.toNat)
    ++ [(base + 0x40800, 4, ((List.range 8).map fun n => (mapGet Fmt.int16 p.ttag n).toNat <<< (4 * n)).sum),
        (base + 0x40804, 1, p.afmt.toNat + p.sfmt.toNat <<< 4)]
    ++ itemsOf p.active (fun i => base + 0x41000 + 2 * i) 2 (·.toNat)
    ++ itemsOf p.shadow (fun i => base + 0x49000 + 2 * i) 2 (·.toNat)
    ++ itemsOf p.anchor (fun w => base + 0x51000 + 2 * w) 2 (wrapTo 16)

/-- First bank of each part of the pool (03 R62). -/
def accFirst (pw : Nat) : Nat := nReg pw
def landFirst (pw : Nat) : Nat := nReg pw + nAcc pw
def cacheFirst (pw : Nat) : Nat := nReg pw + nAcc pw + nLand pw
def plainFirst (pw : Nat) : Nat := nReg pw + nAcc pw + nLand pw + nCache pw

/-- Place in the 48 physical banks, in order, of a scratchpad offset (03 R62, R64). -/
def physOf (pw off : Nat) : Nat :=
  let at_ (first n o : Nat) : Nat := (first + o / 128 % n) * 98304 + o / 128 / n * 128 + o % 128
  if off < plainSize pw then at_ (plainFirst pw) (nPlain pw) off else at_ (cacheFirst pw) (nCache pw) (off - plainSize pw)

/-- The rest of the pool under SAVE = 1: window rows, landing rows, scratchpad. -/
def Pool.restItems (p : Pool) (pw base : Nat) : Layout :=
  itemsOf p.win (fun i => base + accFirst pw * 98304 + 24 * i) 24 Window.bits
    ++ p.land.flatMap (fun x => itemsOf x.2.data (fun i => base + landFirst pw * 98304 + 512 * x.1 + i) 1 (·.toNat))
    ++ itemsOf p.sp (fun o => base + physOf pw o) 1 (·.toNat)

/-- The tag table: entry of set s, way w at 8 (64 w + s), the pseudo-LRU bits of set s at 3584 + s (log 13). -/
def Pool.tagItems (p : Pool) : Layout :=
  itemsOf p.tagt (fun i => 0x1A000 + 8 * i) 8 (fun e => e.st.toNat + e.dirty.toNat <<< 2 + e.pin.toNat <<< 3 + e.blk.toNat <<< 18)
    ++ itemsOf p.plru (fun i => 0x1A000 + 3584 + i) 1 (·.toNat)

/-- Everything that the save of a member writes, from its member area on (15 R315). -/
def State.saveItems (s : State) (c : BitVec 8) (save : Bool) : Layout :=
  let k := s.core c
  let x := k.ctx
  itemsOf x.s (fun n => 8 * n) 8 (·.toNat)
    ++ itemsOf x.a (fun n => 0x200 + 8 * n) 8 (·.toNat)
    ++ itemsOf x.step (fun i => 0x280 + 8 * i) 8 (·.toNat)
    ++ s.tokenItem c
    ++ itemsOf x.qs (fun n => 0x600 + 2 * n) 2 (·.toNat)
    ++ [(0x620, 72, x.csrBlock), (0x700, 8, x.pc.toNat), (0x708, 8, x.segLeft.toNat + x.waitOk.toNat <<< 16)]
    ++ deferredItems x.deferred
    ++ phaseItem x
    ++ x.lc.flatMap (fun l => levelItem l.1 l.2)
    ++ itemsOf x.e (fun n => 0x1000 + 32 * n) 32 (·.toNat)
    ++ (List.range 8).map (fun n => (0x1800 + 64 * n, 64, (x.getMk n).toNat))
    ++ x.vtag.flatMap (fun t => (List.range 8).map fun cl => (0x1A00 + 32 * cl, 32, (t.2.extractLsb' (4 * cl) 4).toNat <<< (4 * t.1)))
    ++ itemsOf x.rng (fun i => 0x1B00 + 4 * i) 4 (·.toNat)
    ++ (k.eclipse.mapIdx eclipseItem).flatten
    ++ x.v.flatMap (fun v => (List.range 8).map fun cl => (0x9000 + 4096 * cl + 64 * v.1, 64, fieldOf v.2.toNat (512 * cl + 511) (512 * cl)))
    ++ k.pool.bankItems 0x20000
    ++ if save then (k.land.mapIdx landingItem).flatten ++ k.pool.tagItems ++ k.pool.restItems x.pw 0x20000 else []

/-- The bytes of a layout; items that share bytes are ORed. -/
def layoutBytes (l : Layout) : FMap Byte := l.foldl (fun m x => writeBytes m x.1 x.2.1 (readBytes m x.1 x.2.1 ||| x.2.2)) []

/-- Where a save puts a granule of a register that holds poison. -/
def savedRegister (b : Nat × Nat × Nat) : Nat :=
  let (file, n, g) := b
  match file with
  | 0 => 8 * n
  | 1 => 0x9000 + 4096 * (g / 8) + 64 * n + 8 * (g % 8)
  | 3 => if n < 64 then 0x200 + 8 * n else 0x280 + 8 * (n - 64)
  | 4 => 0x1800 + 64 * n + 8 * g
  | 6 => 0x1000 + 32 * n + 8 * g
  | 8 => 0x600 + 2 * n
  | 9 => 0x900 + 48 * n
  | _ => 0x5E0

/-- Where it puts a granule of an item of the pool; those outside the register banks are saved under SAVE = 1 alone. -/
def savedItem (pw base : Nat) (save : Bool) (b : Nat × Nat) : List Nat :=
  match b.1 with
  | 0 => if save then [base + accFirst pw * 98304 + 8 * b.2] else []
  | 1 => [base + 8 * b.2]
  | 2 => [if b.2 < 4096 then base + 0x41000 + 8 * b.2 else base + 0x49000 + 8 * (b.2 - 4096)]
  | 3 => [base + 0x40000 + 8 * b.2]
  | _ => if save then (List.range 16).map fun i => base + landFirst pw * 98304 + 512 * b.2 + 32 * i else []

/-- Poisoned bytes of a save: registers, items and granules of the scratchpad carry their poison to memory, and none is consumed (17 R332). -/
def poisonedItems (x : Ctx) (p : Pool) (base : Nat) (save : Bool) : List Nat :=
  x.bad.map savedRegister ++ p.bad.flatMap (savedItem x.pw base save) ++ if save then p.psn.map fun q => base + physOf x.pw (8 * q.1) else []

/-! ## Save and restore through virtual memory (15 R413) -/

/-- The place of `n` bytes of a save area within one page: a leaf with RD and WR in the partition's stacks, passed by the gates; one held in reset
aborts. -/
def State.areaPlace (s : State) (cb : Nat) (b : Binding) (va : Nat) : Xlat :=
  match s.xlate cb b.part b.asid .readWrite va with
  | .ok (.stack pa) => if s.crosses b.part pa.toNat || s.stackDown (pa.toNat / 2 ^ 36) then .fault 4 else .ok (.stack pa)
  | .ok (.fabric _ _) => .fault 4
  | r => r

/-- A page's worth of a save written: bytes `lo` to below `lo + n` of the image at a physical address. -/
def State.putImage (s : State) (pa lo n : Nat) (m : FMap Byte) (psn : List Nat) : State :=
  if inErrorPage pa then s
  else
    let s := s.awaitsAll (.stack (BitVec.ofNat 39 pa)) n
    let a := s.redirect pa
    let cols := (psn.filter fun o => decide (lo ≤ o) && decide (o < lo + n)).map fun o => (a + (o - lo)) / 32
    let s : State := { s with
      mem := putBlock s.mem a n (mapSlice m lo (lo + n))
      poison := mapSetAll false (mapDrop s.poison ((a + 31) / 32) ((a + n) / 32)) cols true }
    (s.markDirty pa n).dropAsids pa n

/-- The save of one member: `false` when a page stops it, TVAL then naming the address that failed (15 R413, 18 R347). -/
def State.saveMember (s : State) (c : BitVec 8) (b : Binding) : State × Bool :=
  let k := s.core c
  let base := saveArea b.savebase b.save k.ctx.id.tidx k.ctx.id.tgran b.memb
  let m := layoutBytes (s.saveItems c b.save)
  let psn := poisonedItems k.ctx k.pool 0x20000 b.save
  (pieces (2 ^ 14) (saveBytes b.save / 2 ^ 14 + 2) base (saveBytes b.save)).foldl
    (fun (acc : State × Bool) p =>
      if !acc.2 then acc
      else
        match acc.1.areaPlace (cbOf c) b p.1 with
        | .ok (.stack pa) => (acc.1.putImage pa.toNat (p.1 - base) p.2 m psn, true)
        | .poison pa => (acc.1.walkPoison c pa, false)
        | .held => (acc.1.waits, true)
        | _ => (acc.1.updCore c fun k => { k with ctx := k.ctx.recordTrap { code := 0x1504, port := 0, tval := BitVec.ofNat 64 p.1 } k.ctx.pc }, false))
    (s, true)

/-- The places of a member's save area that a save writes or a restore reads. -/
def State.areaSpots (s : State) (cb : Nat) (b : Binding) (va n : Nat) : List Spot :=
  (pieces (2 ^ 14) (n / 2 ^ 14 + 2) va n).filterMap fun p => (s.areaPlace cb b p.1).spot p.2

/-- What a restore reads: the bytes, and whether a poisoned column is among them. -/
structure Area where
  bytes : FMap Byte
  psn : Bool

/-- The bytes of a save area between two offsets; `none` when a page fails. -/
def State.readArea (s : State) (cb : Nat) (b : Binding) (base lo n : Nat) (acc : Option Area) : Option Area :=
  (pieces (2 ^ 14) (n / 2 ^ 14 + 2) (base + lo) n).foldl
    (fun acc p =>
      match acc with
      | none => none
      | some x =>
        match s.areaPlace cb b p.1 with
        | .ok (.stack pa) =>
          let a := s.redirect pa.toNat
          some { bytes := x.bytes ++ (mapSlice s.mem a (a + p.2)).map fun y => (p.1 - base + y.1, y.2)
                 psn := x.psn || s.physPoisoned pa.toNat p.2 }
        | _ => none) acc

/-- Everything that the restore of a member touches. -/
def State.memberArea (s : State) (cb : Nat) (b : Binding) (pw tidx tgran memb : Nat) : Option Area :=
  let base := saveArea b.savebase b.save tidx tgran memb
  let r := s.readArea cb b base 0 (if b.save then 0x1B000 else 0x11000) (some { bytes := [], psn := false })
  s.readArea cb b base 0x20000 (if b.save then 48 * 98304 else nReg pw * 98304) r

/-- The places that it touches. -/
def State.memberSpots (s : State) (cb : Nat) (b : Binding) (pw tidx tgran memb : Nat) : List Spot :=
  let base := saveArea b.savebase b.save tidx tgran memb
  s.areaSpots cb b base (if b.save then 0x1B000 else 0x11000) ++ s.areaSpots cb b (base + 0x20000) (if b.save then 48 * 98304 else nReg pw * 98304)

/-! ## Reading a layout back -/

/-- A number of `n` bytes. -/
def Area.at_ (x : Area) (o n : Nat) : Nat := readBytes x.bytes o n
def Area.w64 (x : Area) (o : Nat) : BitVec 64 := BitVec.ofNat 64 (x.at_ o 8)

/-- The result that an eclipse entry holds; none where the entry is unused. -/
def Area.eclipse (x : Area) (i : Nat) : Option Pending :=
  let a := 0x2000 + 576 * i
  let h := x.at_ a 8
  let n := fieldOf h 5 0
  let v := x.at_ (a + 64) 512
  let w : Option RegWrite := match fieldOf h 8 6 with
    | 0 => some (.s n (BitVec.ofNat 64 v))
    | 1 => some (.v n (BitVec.ofNat 4096 v) (BitVec.ofNat 4 (fieldOf h 17 14)))
    | 2 => some (.p n (v.testBit 0))
    | 3 => some (.a n (BitVec.ofNat 48 v))
    | 4 => some (.mk n (BitVec.ofNat 512 v))
    | 5 => some (.e n (BitVec.ofNat 256 v))
    | _ => none
  if fieldOf h 13 9 = 0 then none
  else w.map fun w => { left := fieldOf h 13 9, write := w, flags := BitVec.ofNat 5 (fieldOf h 22 18) }

/-- A loop level. -/
def Area.level (x : Area) (i : Nat) : Level :=
  let w (j : Nat) : Nat := x.at_ (0x900 + 48 * i + 8 * j) 8
  { active := (w 2).testBit 43, c := fieldOf (w 0) 31 0, t := fieldOf (w 1) 33 0, n := fieldOf (w 2) 36 34, body := fieldOf (w 2) 42 37 + 1
    trips := fieldOf (w 2) 33 0, first := BitVec.ofNat 64 (w 3), last := BitVec.ofNat 64 (w 4) }

/-- A colour's state, from its counts, its header and the bits of word 12. -/
def Area.colour (x : Area) (i : Nat) : Colour :=
  let n := x.at_ (0x800 + 16 * i) 16
  let w := x.at_ 0x860 8
  { copies := BitVec.ofNat 32 n, packets := BitVec.ofNat 32 (n >>> 32), banks := BitVec.ofNat 32 (n >>> 64), stores := BitVec.ofNat 32 (n >>> 96)
    hdr := BitVec.ofNat 256 (x.at_ (0x820 + 32 * i) 32), posted := w.testBit i, gen := w.testBit (4 + i), held := w.testBit (6 + i) }

/-- The context outside the pool, with the bank operations whose programs may still run (15 R416).  Bits that 15 R315 and R416 reserve are ignored,
whatever they hold: 00 R7 has them detected where the device uses the record, and no chapter gives a code for it (DESIGN CHOICE, log 49). -/
def Area.ctx (x : Area) (id : Ident) (ops : List EngineOp) : Ctx :=
  let w0 := x.at_ 0x5E0 8
  let csr (i : Nat) : Nat := x.at_ (0x620 + 8 * i) 8
  let token (n : Nat) : Option Nat :=
    if n ≠ 0 ∧ w0.testBit (48 + n) then ((ops.filter fun o => decide (o.tok = n)).getLast?).map (·.id) else none
  { Init.ctx with
    id := id, pc := x.w64 0x700
    s := mapOf 0 64 fun n => if n = 0 then 0 else x.w64 (8 * n)
    v := mapOf 0 64 fun n => BitVec.ofNat 4096 ((List.range 8).foldr (fun cl a => x.at_ (0x9000 + 4096 * cl + 64 * n) 64 + a <<< 512) 0)
    vtag := mapOf 0 64 fun n => BitVec.ofNat 32 ((List.range 8).foldr (fun cl a => x.at_ (0x1A00 + 32 * cl) 32 >>> (4 * n) % 16 + a <<< 4) 0)
    p := (BitVec.ofNat 16 w0 ||| 1) &&& 0xFFFD
    mks := mapOf (BitVec.allOnes 512) 8 fun n => BitVec.ofNat 512 (x.at_ (0x1800 + 64 * n) 64)
    a := mapOf 0 16 fun n => BitVec.ofNat 48 (x.at_ (0x200 + 8 * n) 8)
    step := mapOf 0 96 fun i => BitVec.ofNat 48 (x.at_ (0x280 + 8 * i) 8)
    lc := mapOf Init.level 6 fun i => let l := x.level i; if l.active then l else Init.level
    sB := BitVec.ofNat 5 (w0 >>> 16), vB := BitVec.ofNat 4 (w0 >>> 24), pB := BitVec.ofNat 3 (w0 >>> 32), kB := BitVec.ofNat 2 (w0 >>> 40)
    k := mapOf none 8 token
    e := mapOf 0 64 fun n => BitVec.ofNat 256 (x.at_ (0x1000 + 32 * n) 32)
    qs := mapOf 0 16 fun n => BitVec.ofNat 16 (x.at_ (0x600 + 2 * n) 2) &&& 0x3FFF
    frm := BitVec.ofNat 2 (csr 0), fflags := BitVec.ofNat 5 (csr 1), srseed := BitVec.ofNat 32 (csr 2), waitcap := BitVec.ofNat 32 (csr 3)
    tvec := BitVec.ofNat 64 (csr 4), tpc := BitVec.ofNat 64 (csr 5), tcause := BitVec.ofNat 19 (csr 6), tval := BitVec.ofNat 64 (csr 7)
    cycle := BitVec.ofNat 64 (csr 8)
    rng := mapOf 0 128 fun i => BitVec.ofNat 32 (x.at_ (0x1B00 + 4 * i) 4)
    light := x.colour 0, dark := x.colour 1, cur := BitVec.ofNat 2 (x.at_ 0x860 8 >>> 2)
    deferred := (List.range 14).filterMap fun i =>
      let h := x.at_ (0x710 + 16 * i) 8
      if fieldOf h 15 0 = 0 then none
      else some { code := BitVec.ofNat 16 h, port := BitVec.ofNat 3 (h >>> 16), tval := x.w64 (0x718 + 16 * i), seq := 0, tok := 0, op := 0 }
    segLeft := BitVec.ofNat 13 (x.at_ 0x708 8), waitOk := (x.at_ 0x708 8).testBit 16 }

/-- Landings saved under SAVE = 1. -/
def Area.landings (x : Area) : List Landing :=
  (List.range 64).filterMap fun i =>
    let h := x.at_ (0x19000 + 16 * i) 8
    if h.testBit 0 then
      some { id := i, file := fieldOf h 9 7, dest := fieldOf h 6 1, left := fieldOf h 14 10, due := false, sz := BitVec.ofNat 3 (fieldOf h 17 15)
             data := some (x.at_ (0x11000 + 512 * i) 512), need := 0, part := 0, psn := h.testBit 18 }
    else none

/-- The pool: register banks always; the rest under SAVE = 1, with the landing rows' fields from the task's record; else zero, its rows' anchors with
them (02 R47, 09 R189). -/
def Area.pool (x : Area) (save : Bool) (pw : Nat) (lands : FMap LandRow) : Pool :=
  let b := 0x20000
  let banks : Pool := { Init.pool with
    tile := mapOf 0 131072 fun i => BitVec.ofNat 16 (x.at_ (b + 2 * i) 2)
    code := mapOf 0 512 fun i => BitVec.ofNat 32 (x.at_ (b + 0x40000 + 4 * i) 4)
    ttag := mapOf Fmt.int16 8 fun n => BitVec.ofNat 4 (x.at_ (b + 0x40800) 4 >>> (4 * n))
    afmt := BitVec.ofNat 4 (x.at_ (b + 0x40804) 1), sfmt := BitVec.ofNat 4 (x.at_ (b + 0x40804) 1 >>> 4)
    active := mapOf 0 16384 fun i => BitVec.ofNat 16 (x.at_ (b + 0x41000 + 2 * i) 2)
    shadow := mapOf 0 16384 fun i => BitVec.ofNat 16 (x.at_ (b + 0x49000 + 2 * i) 2) }
  if !save then banks
  else
    let win := mapOf Init.window (windowRows pw * 128) fun i => Window.ofBits (x.at_ (b + accFirst pw * 98304 + 24 * i) 24)
    { banks with
      sp := mapOf 0 (spSize pw) fun o => BitVec.ofNat 8 (x.at_ (b + physOf pw o) 1)
      win := win
      resid := (win.map fun w => (w.1, w.2.val.toNat % 255)).filter fun w => decide (w.2 ≠ 0)
      anchor := mapOf 0 (windowRows pw) fun w => signedOf 16 (x.at_ (b + 0x51000 + 2 * w) 2)
      land := mapOf Init.landRow (landRows pw) fun r =>
        { mapGet Init.landRow lands r with
          data := mapOf 0 512 fun i => BitVec.ofNat 8 (x.at_ (b + landFirst pw * 98304 + 512 * r + i) 1) }
      tagt := mapOf Init.tagEntry (64 * cacheWays pw) fun i =>
        let e := x.at_ (0x1A000 + 8 * i) 8
        { Init.tagEntry with st := BitVec.ofNat 2 e, dirty := e.testBit 2, pin := e.testBit 3, blk := BitVec.ofNat 34 (e >>> 18) }
      plru := mapOf 0 64 fun i => BitVec.ofNat 8 (x.at_ (0x1A000 + 3584 + i) 1) }

/-! ## A first bind (03 R66, 06 R132) -/

/-- The places of a data image. -/
def State.imageSpots (s : State) (cb part : Nat) (asid : BitVec 14) (va n : Nat) : List Spot :=
  (pieces (2 ^ 14) (n / 2 ^ 14 + 2) va n).filterMap fun p => (s.xlate cb part asid .read p.1).spot p.2

/-- The data image in scratchpad: bytes that cannot be read have a free value; poison is carried, unless a gate stops it (17 R333). -/
def State.placeImage (s : State) (cb part : Nat) (asid : BitVec 14) (va n : Nat) : State × FMap Byte × FMap Bool :=
  let r := (pieces (2 ^ 14) (n / 2 ^ 14 + 2) va n).foldl
    (fun (acc : State × FMap Byte × FMap Bool) p =>
      let (t, sp, psn) := acc
      let off := p.1 - va
      let free (t : State) : State × FMap Byte × FMap Bool :=
        (t, (List.range p.2).foldl (fun m i => mapSet 0 m (off + i) (Config.freeByte (s.nfree + off + i))) sp, psn)
      match t.xlate cb part asid .read p.1 with
      | .ok a => match t.placeBlk part a p.2 with
        | (t, some b) =>
          (t, writeBytes sp off p.2 b.x,
           (upFrom (off / 8) ((off + p.2 + 7) / 8 - off / 8)).foldl
             (fun m g => if (List.range 8).any fun j => decide (off ≤ 8 * g + j) && b.psn.testBit (8 * g + j - off) then mapSet false m g true else m) psn)
        | (t, none) => free t
      | .held => (t.waits, sp, psn)
      | _ => free t) (s, ([] : FMap Byte), ([] : FMap Bool))
  ({ r.1 with nfree := s.nfree + n }, r.2.1, r.2.2)

end Sys2Proof.Machine
end

