-- ==== Sys2Proof/Machine/Bind.lean ====
section
/-! DEFINITION. Binding: the cores a task takes, the conditions of a bind record, a first bind and a rebind (02 R39, R44-R48, 03 R66, 06 R132, 10 R244, 15 R308, R314, R413). -/

namespace Sys2Proof.Machine

/-! ## The cores of a task (02 R44) -/

/-- The cores of the task that a core takes part in under GRAN and PROT, each with its member. -/
def taskCores (gran : Nat) (prot : Bool) (c : BitVec 8) : List (BitVec 8 × Nat) :=
  let group (n div : Nat) : List (BitVec 8 × Nat) := (List.range n).map fun i => (BitVec.ofNat 8 (c.toNat / n * n + i), i / div)
  if gran = 2 then group 4 (if prot then 2 else 1)
  else if prot then group 2 2
  else if gran = 1 then group 2 1
  else [(c, 0)]

/-- Members of a task (02 R45's TGRAN). -/
def taskMembers (gran : Nat) (prot : Bool) : Nat := if gran = 2 then (if prot then 2 else 4) else if gran = 1 ∧ prot = false then 2 else 1

/-- A binding about to be made. -/
structure Plan where
  w : Wave
  r : Region
  tidx : Nat
  cores : List (BitVec 8 × Nat)
  /-- What is kept of the task, when it has run before. -/
  kept : Option TaskRec

/-- The members that a binding binds: those that have not halted (02 R46). -/
def Plan.live (pl : Plan) : List (BitVec 8 × Nat) := match pl.kept with
  | some t => pl.cores.filter fun x => !t.halted.contains x.2
  | none => pl.cores

/-- Their leading cores. -/
def Plan.leads (pl : Plan) : List (BitVec 8 × Nat) := if pl.r.prot then pl.live.filter fun x => decide (x.1.toNat % 2 = 0) else pl.live

/-- An unbound task that has run before. -/
def State.taskRec (s : State) (p : Nat) (node : BitVec 64) (tidx : Nat) : Option TaskRec :=
  s.tasks.find? fun t => decide (t.part = p) && decide (t.node = node) && decide (t.tidx = tidx) && t.dying.isNone

/-- The binding of a task to the cores around `c`; `none` when no wave of the node is live. -/
def State.plan (s : State) (c : BitVec 8) (node : BitVec 64) (tidx : Nat) : Option Plan :=
  let p := s.partOfCore c
  match s.wave p node with
  | none => none
  | some w =>
    (s.region p w.rasid w.rcb).map fun r =>
      { w := w, r := r, tidx := tidx, cores := taskCores w.gran r.prot c, kept := s.taskRec p node tidx }

/-! ## The conditions of a bind (02 R39, 10 R244, 15 R308) -/

/-- Whether a task is bound, and whether dispatch bound it itself. -/
def State.boundBy (s : State) (p : Nat) (node : BitVec 64) (tidx : Nat) : Option Bool :=
  s.cores.findSome? fun x => match x.2.task with
    | some b => if b.part = p ∧ b.node = node ∧ x.2.ctx.id.tidx = tidx then some b.own else none
    | none => none

/-- The pool and entry that offer a task: its own entry, or its wave's when it is the wave's next. -/
def State.entryOf (s : State) (w : Wave) (tidx : Nat) : Option (Nat × PoolEntry) :=
  s.pools.findSome? fun x =>
    if x.1 / 256 ≠ w.req.part then none
    else if x.2.contains (.task w.req.node tidx) then some (x.1, .task w.req.node tidx)
    else if w.next = tidx ∧ x.2.contains (.wave w.req.node) = true then some (x.1, .wave w.req.node)
    else none

/-- MAPPED of a region, read at every bind (02 R38); the model's choice: 0 where it cannot be read (log 27). -/
def State.mapped (s : State) (r : Region) : Nat := (s.cpRead r.part r.rasid (r.va.toNat + 56) 8).getD 0 % 2 ^ 26

/-- MAPPED of a region and its ancestors is read for a bind: poison in it is consumed by the CP (17 R332). -/
def State.readMapped (s : State) (r : Region) : State :=
  (s.ancestry r.part r.rasid 16 r.va).foldl
    (fun s x => match s.cpRead x.part x.rasid (x.va.toNat + 56) 8 with
      | .psn _ pa => s.spineConsumes pa
      | .table pa => s.spineWalkPoison pa
      | .held => s.waits
      | _ => s) s

/-- Whether the budgets of a region and its ancestors admit `n` more cores (02 R39). -/
def State.admits (s : State) (r : Region) (n : Nat) : Bool :=
  (s.ancestry r.part r.rasid 16 r.va).all fun x => decide (x.bound + n ≤ x.cquota) && decide (s.mapped x ≤ x.mempg)

/-- Whether the effective BMASK has the compute bulkhead of every core. -/
def Region.allows (r : Region) (cs : List (BitVec 8 × Nat)) : Bool := cs.all fun x => r.bmask.getLsbD (cbOf x.1)

/-- Whether a core is idle, in a bulkhead that is not held in reset. -/
def State.coreIdle (s : State) (c : BitVec 8) : Bool :=
  (s.taskAt c).isNone && decide ((s.core c).cstate = 0) && !(mapGet Init.island s.islands (cbOf c)).down

/-- Record `t` of a wave's tree table as it reads. -/
def State.treeGot (s : State) (w : Wave) (t : Nat) : Got := s.cpRead w.req.part w.rasid (w.treeVa.toNat + 32 * t) 32

/-- Its bytes. -/
def State.treeRecord (s : State) (w : Wave) (t : Nat) : Option (BitVec 256) :=
  match s.treeGot w t with
  | .val x => some (BitVec.ofNat 256 x)
  | .psn x _ => some (BitVec.ofNat 256 x)
  | _ => none

/-- Whether record `t` of bulkhead `b` is held: by a bound task, or by a round that has sent a packet and has not ended. -/
def State.recordHeld (s : State) (b t : Nat) : Bool :=
  s.treeHeld b t || s.rounds.any fun r => decide (r.b.toNat = b) && decide (r.tree.toNat = t) && decide (r.ended = 0) && !r.sent.isEmpty

/-- The trees that a wave's image names. -/
def Wave.treeList (w : Wave) : List Nat := (List.range 16).filter fun t => w.trees.getLsbD t

/-- Whether a held tree record of bulkhead `b` differs from the wave's. -/
def State.treesBlock (s : State) (w : Wave) (b : Nat) : Bool :=
  w.treeList.any fun t => s.recordHeld b t && match s.treeRecord w t with
    | some x => decide (x ≠ s.tree b t)
    | none => false

/-- The SCH's writes of a wave's tree records to bulkhead `b`; a held record keeps its bytes.  Poison in a record, or on the way to it, is recorded by
the SCH (17 R332, 20 R385). -/
def State.writeTrees (s : State) (w : Wave) (b : Nat) : State :=
  w.treeList.foldl
    (fun s t =>
      let got := s.treeGot w t
      let s := match got with
        | .psn _ pa => s.unitConsumes spineBank 1 pa
        | .table pa => s.spineWalkPoison pa
        | .held => s.waits
        | _ => s
      match got with
      | .val x => if s.recordHeld b t then s else { s with trees := mapSet 0 s.trees (16 * b + t) (BitVec.ofNat 256 x) }
      | .psn x _ => if s.recordHeld b t then s else { s with trees := mapSet 0 s.trees (16 * b + t) (BitVec.ofNat 256 x) }
      | _ => s) s

/-! ## Judging a record (15 R308, R318) -/

/-- A record waits, is refused, or is applied. -/
inductive Verdict where
  | wait
  | refuse (res : Nat)
  | apply
deriving DecidableEq, Repr

/-- Whether a slot presents the OP 1 record of a task. -/
def State.presents (s : State) (c : BitVec 8) (node : BitVec 64) (tidx : Nat) (seq : BitVec 30) : Bool :=
  let w := s.slotLo c
  slotPresents w 1 && decide (slotNode w = node) && decide (slotTidx w = tidx) && decide (slotSeq w = seq)

/-- Whether the task of a plan is next in a pool, and BMASK and the budgets admit its binding. -/
def State.planAdmits (s : State) (pl : Plan) : Bool :=
  (s.entryOf pl.w pl.tidx).isSome && pl.r.allows pl.live && s.admits pl.r pl.live.length

/-- Whether every core of a plan is idle, and no tree record that its image names is held with other bytes.  The model's choice: the positions of
members that have halted must be idle too (log 28). -/
def State.planFits (s : State) (pl : Plan) : Bool :=
  (pl.cores.all fun x => s.coreIdle x.1) && !(pl.cores.any fun x => s.treesBlock pl.w (cbOf x.1))

/-- Whether the records that present a plan break it: a peer whose record has a nonzero reserved bit (00 R7) or the wrong position. -/
def State.peersBroken (s : State) (pl : Plan) (has : BitVec 8 × Nat → Bool) : Bool :=
  pl.cores.any fun x => has x && (slotReserved (s.slotLo x.1) || decide (slotMemb (s.slotLo x.1) ≠ x.2))

/-- The conditions of R308, in the order: the task bound already, by dispatch itself (RES 3, 15 R318) or by another record; positions, turn and
budgets; peers, idle cores and trees.  The model's choice: the positions of members that have halted carry records too (log 28). -/
def State.judge (s : State) (pl : Plan) (seq : BitVec 30) : Verdict :=
  let w := pl.w
  let has (x : BitVec 8 × Nat) : Bool := s.presents x.1 w.req.node pl.tidx seq
  match s.boundBy w.req.part w.req.node pl.tidx with
  | some own => .refuse (if own then 3 else 2)
  | none =>
    if s.peersBroken pl has = true ∨ s.planAdmits pl = false then .refuse 2
    else if pl.cores.all has && s.planFits pl then .apply
    else .wait

/-! ## Taking the task from its pool (15 R306) -/

/-- The task leaves its pool, and a wave whose last task is taken with it. -/
def State.takeEntry (s : State) (w : Wave) (tidx : Nat) : State :=
  match s.entryOf w tidx with
  | none => s
  | some (key, .task n i) => { s with pools := mapUpd [] s.pools key fun l => l.erase (.task n i) }
  | some (key, .wave n) =>
    let s := s.updWave w.req.part n fun x => { x with next := x.next + 1 }
    if w.next + 1 < w.tasks then s else { s with pools := mapUpd [] s.pools key fun l => l.erase (.wave n) }

/-! ## The binding -/

/-- The binding of member `m`, by a record or (`own`) by dispatch itself. -/
def State.bindingOf (s : State) (pl : Plan) (seq : BitVec 30) (own : Bool) (m : Nat) : Binding :=
  { part := pl.w.req.part, node := pl.w.req.node, memb := m, cores := pl.leads.map (·.1), bindseq := seq, asid := pl.r.asid, rcb := pl.w.rcb
    rasid := pl.w.rasid, prio := pl.r.prio, pcls := pl.r.pcls, prot := pl.r.prot, save := pl.r.save, kill := pl.r.kill, slice := pl.r.slice
    savebase := pl.r.savebase, trees := pl.w.trees, boundAt := s.ns, own := own, sliceOver := false, preempt := false }

/-- The identity of member `m` (02 R45). -/
def Plan.ident (pl : Plan) (m : Nat) : Ident :=
  { tidx := pl.tidx, vsx := pl.w.vx, vsy := pl.w.vy, vsz := pl.w.vz, tmemb := m, tgran := taskMembers pl.w.gran pl.r.prot, karg := pl.w.karg
    rcba := pl.w.rcb, partw := pl.w.partw }

/-- A member's first bind (03 R66, 06 R132). -/
def State.freshMember (s : State) (pl : Plan) (b : Binding) (c : BitVec 8) : State :=
  let w := pl.w
  let (s, sp, psn) := s.placeImage (cbOf c) w.req.part b.asid w.dataVa.toNat (if w.dataVa = 0 then 0 else w.dataLen)
  s.updCore c fun k =>
    { Init.core with
      nid := k.nid, cstate := 2, task := some b, pool := { Init.pool with sp := sp, psn := psn }
      ctx := { Init.ctx with id := pl.ident b.memb, pc := w.entry, rng := rngAll 0 pl.tidx b.memb } }

/-- What is listed for a member. -/
def forMember {α : Type} (l : List (Nat × α)) (m : Nat) (d : α) : α := ((l.find? fun x => decide (x.1 = m)).map (·.2)).getD d

/-- A restored context with what is kept of it beside its save area: packets sent, and the tokens of operations whose faults are pending. -/
def Ctx.resumed (x : Ctx) (rounds : FMap Nat) (links : List Nat) : Ctx :=
  { x with rounds := rounds, deferred := x.deferred.mapIdx fun i d => { d with tok := links.getD i 0 } }

/-- A member's context restored from its save area and from what is kept of its task (02 R47, R48, 15 R314). -/
def State.restoreMember (s : State) (pl : Plan) (t : TaskRec) (b : Binding) (c : BitVec 8) (x : Area) : State :=
  let m := b.memb
  let ops := forMember t.progs m []
  let here (l : BankLaunch) : BankLaunch := if l.away = some (t.part, t.node, t.tidx, m) then { l with core := c, away := none } else l
  let chan (p : PChan) : PChan :=
    { p with prog := p.prog.map fun g => { g with launch := here g.launch }, waiting := p.waiting.map here }
  let s : State := { s with stk := s.stk.map fun k => (k.1, { k.2 with chans := k.2.chans.map fun p => (p.1, chan p.2) }) }
  s.updCore c fun k =>
    { Init.core with
      nid := ops.foldl (fun n o => max n (o.id + 1)) (max k.nid 64), cstate := 2, task := some b
      clock := (forMember t.lands m []).foldl (fun n l => max n (l.2.ord + 1)) 0
      run := forMember t.parked m .running, ops := ops
      ctx := (x.ctx (pl.ident m) ops).resumed (forMember t.rounds m []) (forMember t.links m [])
      pool := x.pool b.save pl.w.partw.toNat (forMember t.lands m [])
      pipe := (List.range 48).filterMap x.eclipse, land := if b.save then x.landings else [] }

/-- The core state that a slot shows of a bound task (15 R307). -/
def slotState (b : Binding) (tidx : Nat) : BitVec 256 :=
  BitVec.ofNat 256 (b.prio.toNat <<< 8 + b.pcls.toNat <<< 16 + b.prot.toNat <<< 18 + b.save.toNat <<< 19 + tidx <<< 64 + b.node.toNat <<< 128
    + (b.boundAt % 2 ^ 64) <<< 192)

/-- The trailing cores of a protected task start from copies of their leading cores' contexts and pools (19 R362; log 21). -/
def State.addTwins (s : State) (leads : List (BitVec 8)) : State :=
  { s with twins := leads.foldl (fun m c => mapSet none m c.toNat (some (s.core c))) s.twins }

/-- What every binding does beside its members' contexts: trailing cores, BOUND, the slots' core state and the event. -/
def State.sealBind (s : State) (pl : Plan) (b : Binding) : State :=
  let trailing := pl.live.filter fun x => !(pl.leads.map (·.1)).contains x.1
  let s := trailing.foldl (fun s x => s.updCore x.1 fun k => { Init.core with nid := k.nid, cstate := 2 }) s
  let s := if b.prot then s.addTwins (pl.leads.map (·.1)) else s
  let s := s.updUp b.part b.rasid (fun r => { r with bound := r.bound + pl.live.length }) 16 b.rcb
  let s := pl.live.foldl (fun (s : State) x => { s with slotHi := mapSet 0 s.slotHi x.1.toNat (slotState b pl.tidx) }) s
  s.post (.bound (b.cores.headD 0) b.node pl.tidx b.bindseq)

/-- The poisoned table entry that keeps a save area from being read. -/
def State.areaTable (s : State) (cb : Nat) (b : Binding) (base n : Nat) : Option Nat :=
  (pieces (2 ^ 14) (n / 2 ^ 14 + 2) base n).findSome? fun p => match s.areaPlace cb b p.1 with
    | .poison pa => some pa
    | _ => none

/-- A restore fails: the task is not bound, and is killed with 0x1504 (15 R413). -/
def State.failRestore (s : State) (pl : Plan) (b : Binding) : State :=
  let pa := pl.leads.findSome? fun x =>
    s.areaTable (cbOf x.1) b (saveArea b.savebase b.save pl.tidx (taskMembers pl.w.gran pl.r.prot) x.2) (saveBytes b.save)
  let cb := cbOf ((pl.leads.map (·.1)).headD 0)
  let s := match pa with
    | some pa => s.logError cb 65 { cls := 3, code := 0x0502, atype := 2, addr := pa }
    | none => s
  s.killAway b.part b.node pl.tidx 0x1504

/-- The places that the restores of a task read. -/
def State.areaSpotsOf (s : State) (pl : Plan) (b : Binding) : List Spot :=
  pl.leads.flatMap fun x => s.memberSpots (cbOf x.1) b pl.w.partw.toNat pl.tidx (taskMembers pl.w.gran pl.r.prot) x.2

/-- A task that has run before is bound again; poison read by a restore is consumed (15 R413). -/
def State.rebind (s : State) (pl : Plan) (t : TaskRec) (seq : BitVec 30) (own : Bool) : State :=
  let b0 := s.bindingOf pl seq own 0
  if (s.areaSpotsOf pl b0).any fun x => x.1.isNone then s.waits else
  let areas := pl.leads.map fun x =>
    (x, s.memberArea (cbOf x.1) b0 pl.w.partw.toNat pl.tidx (taskMembers pl.w.gran pl.r.prot) x.2)
  if areas.any fun x => x.2.isNone then s.failRestore pl b0
  else
    let s : State := { s with tasks := s.tasks.filter fun x => decide (x ≠ t) }
    let s := areas.foldl
      (fun s x => match x.2 with
        | some a => s.restoreMember pl t { b0 with memb := x.1.2 } x.1.1 a
        | none => s) s
    let s := s.sealBind pl b0
    areas.foldl
      (fun s x => match x.2 with
        | some a => if a.psn then s.consume x.1.1 0 0 0 else s
        | none => s) s

/-- Whether a binding by the rotation names the task of a plan, or one of its cores: it is made no more once the plan is bound (15 R318). -/
def OwnBind.meets (o : OwnBind) (pl : Plan) : Bool :=
  decide (o.part = pl.w.req.part ∧ o.node = pl.w.req.node ∧ o.tidx = pl.tidx) || o.cores.any fun c => pl.cores.any fun x => decide (x.1 = c)

/-- The poisoned table entry on the way to a wave's data image (20 R385). -/
def State.imageTable (s : State) (pl : Plan) (c : BitVec 8) : Option Nat :=
  let w := pl.w
  let n := if w.dataVa = 0 then 0 else w.dataLen
  (pieces (2 ^ 14) (n / 2 ^ 14 + 2) w.dataVa.toNat n).findSome? fun p => match s.xlate (cbOf c) w.req.part pl.r.asid .read p.1 with
    | .poison pa => some pa
    | _ => none

/-- The members of a task that has not run before begin; one whose data image lies behind a poisoned table entry is killed (20 R385). -/
def State.bindFresh (s : State) (pl : Plan) (seq : BitVec 30) (own : Bool) : State :=
  let s := (pl.leads.foldl (fun (s : State) (x : BitVec 8 × Nat) => s.freshMember pl (s.bindingOf pl seq own x.2) x.1) s).sealBind pl (s.bindingOf pl seq own 0)
  pl.leads.foldl (fun s x => match s.imageTable pl x.1 with
    | some pa => s.walkPoison x.1 pa
    | none => s) s

/-- A task is bound; CSTATE is 1 only within this step (log 29).  A binding by the rotation that still waits for its cores or for its task, and loses to this
one, is dropped: it has no slot, and 15 R318 gives it no answer (DESIGN CHOICE, log 49). -/
def State.bind (s : State) (pl : Plan) (seq : BitVec 30) (own : Bool) : State :=
  let w := pl.w
  let s := (s.readMapped pl.r).takeEntry w pl.tidx
  let s := { s with owns := s.owns.filter fun o => !o.meets pl }
  let s := (pl.leads.map fun x => cbOf x.1).dedup.foldl (fun s b => s.writeTrees w b) s
  let s := match pl.kept with
    | none => s.bindFresh pl seq own
    | some t => s.rebind pl t seq own
  s.admitFull w.req.part

/-- What a binding reads for its members' contexts: save areas, or the data image. -/
def State.contextSpots (s : State) (pl : Plan) : List Spot := match pl.kept with
  | some _ => s.areaSpotsOf pl (s.bindingOf pl 0 false 0)
  | none => (pl.leads.map fun x => cbOf x.1).flatMap fun cb =>
    s.imageSpots cb pl.w.req.part pl.r.asid pl.w.dataVa.toNat (if pl.w.dataVa = 0 then 0 else pl.w.dataLen)

/-- A binding is made once the columns that it reads for its members' contexts have been served (13 R281). -/
def State.withContext (s : State) (pl : Plan) (f : State → State) : State :=
  let who := Requester.restore ((pl.leads.map (·.1)).headD 0)
  let l := s.contextSpots pl
  if s.underWay who then s.withColumns who 0 pl.w.req.part [] [] f
  else if l.any fun x => x.1.isNone then s.waits
  else s.withColumns who 0 pl.w.req.part (knownSpots l) [] f

/-- The slots of the quad of a core that present the same OP 1 record. -/
def State.sameRecord (s : State) (c : BitVec 8) : List (BitVec 8) :=
  let w := s.slotLo c
  ((List.range 4).map fun i => BitVec.ofNat 8 (4 * quadOf c + i)).filter fun d => s.presents d (slotNode w) (slotTidx w) (slotSeq w)

/-- The slots of a plan's cores are answered RES 1, and the task is bound. -/
def State.bindRecord (s : State) (pl : Plan) (seq : BitVec 30) : State := (pl.cores.foldl (fun s x => s.answer x.1 1) s).bind pl seq false

/-- Dispatch looks at the OP 1 record in the slot of a core. -/
def State.dispatchRecord (s : State) (c : BitVec 8) : State :=
  let w := s.slotLo c
  let refuse (res : Nat) : State := (s.sameRecord c).foldl (fun s d => s.refuseBind d res) s
  if slotValid w && slotOp w ≠ 2 && slotReserved w then (if slotPresents w 1 then refuse 2 else s.refuseBind c 2)
  else if !slotPresents w 1 then s
  else
    match s.plan c (slotNode w) (slotTidx w) with
    | none => refuse 2
    | some pl =>
      match s.judge pl (slotSeq w) with
      | .wait => s
      | .refuse res => refuse res
      | .apply => s.withContext pl fun s => s.bindRecord pl (slotSeq w)

/-! ## Bindings by dispatch itself (15 R310, R311, R318) -/

/-- The slots whose OP 1 records name a task of a partition, or one of some cores. -/
def State.rivals (s : State) (p : Nat) (node : BitVec 64) (tidx : Nat) (cs : List (BitVec 8)) : List (BitVec 8) :=
  (s.slots.filter fun x => slotPresents x.2 1
      && (cs.contains (BitVec.ofNat 8 x.1)
        || (decide (slotNode x.2 = node) && decide (slotTidx x.2 = tidx) && decide (s.partOfCore (BitVec.ofNat 8 x.1) = p)))).map fun x => BitVec.ofNat 8 x.1

/-- A binding by the rotation takes effect, with BINDSEQ 0: records that name its cores or its task are refused with RES 3; the slots' bind
records stay the SCH's (15 R307). -/
def State.bindOwn (s : State) (pl : Plan) : State :=
  (s.rivals pl.w.req.part pl.w.req.node pl.tidx (pl.cores.map (·.1))).foldl (fun s d => s.refuseBind d 3) (s.bind pl 0 true)

/-- A binding by the rotation that waits for its cores is made once they are idle; it is given up when its task has left the pools. -/
def State.tryOwn (s : State) (o : OwnBind) : State :=
  match s.plan (o.cores.headD 0) o.node o.tidx with
  | none => { s with owns := s.owns.erase o }
  | some pl =>
    if (s.entryOf pl.w pl.tidx).isNone then { s with owns := s.owns.erase o }
    else if s.planAdmits pl && s.planFits pl then s.withContext pl fun s => s.bindOwn pl else s

/-- Dispatch looks at a core: at a binding of its own that waits for it, else at the record in its slot. -/
def State.dispatch (s : State) (c : BitVec 8) : State :=
  match s.owns.find? fun o => o.cores.contains c with
  | some o => (s.tryOwn o).dispatchRecord c
  | none => s.dispatchRecord c

end Sys2Proof.Machine
end

