-- ==== Sys2Proof/Machine/Sched.lean ====
section
/-! DEFINITION. Dispatch: binding, displacement, the age cap and its rotation; and how a task leaves its cores by pre-emption or a park and becomes ready again (02 R40, R46, R47, 07 R151, 15 R308-R312). -/

namespace Sys2Proof.Machine

/-! ## Displacement (02 R40) -/

/-- Whether a ready task of a priority may displace a bound one. -/
def Binding.displaceableBy (b : Binding) (prio : Nat) : Bool :=
  decide (b.pcls ≠ 0) && (decide (b.prio.toNat < prio) || (decide (b.pcls = 2) && b.sliceOver && decide (b.prio.toNat = prio)))

/-- Whether some ready task of the task's partition may displace it. -/
def State.displaceable (s : State) (b : Binding) : Bool :=
  s.pools.any fun x => decide (x.1 / 256 = b.part) && !x.2.isEmpty && b.displaceableBy (x.1 % 256)

/-- A pre-emption of every member of a task is pending. -/
def State.markPreempt (s : State) (b : Binding) : State :=
  s.updCores b.cores fun c => { c with task := c.task.map fun x => { x with preempt := true } }

/-- DISPLACE: dispatch looks at the OP 2 record in the slot of core `c`: a pre-emption becomes pending, or the record is refused. -/
def execDisplace (s : State) : Host.Outcome State Fault Refusal :=
  let c := s.inp.c
  .next (if !slotPresents (s.slotLo c) 2 then s
    else if slotReserved (s.slotLo c) then s.refuseBind c 2
    else
      match s.taskAt c with
      | none => s.refuseBind c 2
      | some (_, b) => if b.preempt then s else if s.displaceable b then s.markPreempt b else s.refuseBind c 2)

/-- SLICE_EXPIRY: the PCLS 2 task of core `c` has run SLICE microseconds. -/
def execSliceExpiry (s : State) : Host.Outcome State Fault Refusal :=
  .next (match s.taskAt s.inp.c with
    | none => s
    | some (_, b) =>
      if b.pcls = 2 ∧ b.boundAt + b.slice * 1000 ≤ s.ns then
        s.updCores b.cores fun c => { c with task := c.task.map fun x => { x with sliceOver := true } }
      else s)

/-! ## The rotation (15 R310, R311) -/

/-- The core sets that a task could take in its partition, in the order of a scan from RPTR: a set stands where its lowest core does, so that one in
which RPTR lies comes last (DESIGN CHOICE, log 48). -/
def State.coreSets (s : State) (w : Wave) (r : Region) : List (List (BitVec 8 × Nat)) :=
  let p := w.req.part
  let all := ((s.coresOf p).map fun c => taskCores w.gran r.prot c).filter fun cs => r.allows cs && !(cs.any fun x => s.treesBlock w (cbOf x.1))
  let sets := all.dedup
  let from_ := mapGet 0 s.rptr p
  let at_ (cs : List (BitVec 8 × Nat)) : Nat := (cs.head?.map fun x => x.1.toNat).getD 0
  sets.filter (fun cs => decide (from_ ≤ at_ cs)) ++ sets.filter fun cs => decide (at_ cs < from_)

/-- The tasks bound to a set of cores. -/
def State.tasksOn (s : State) (cs : List (BitVec 8 × Nat)) : List Binding := (cs.filterMap fun x => (s.taskAt x.1).map (·.2)).dedup

/-- Whether every core of a set is idle, or held by a task that one of the priority may displace. -/
def State.couldTake (s : State) (prio : Nat) (cs : List (BitVec 8 × Nat)) : Bool :=
  cs.all fun x => s.coreIdle x.1 || match s.taskAt x.1 with
    | some (_, b) => b.displaceableBy prio
    | none => false

/-- The next task that an entry offers, with its wave and region. -/
def State.offered (s : State) (p : Nat) (e : PoolEntry) : Option (Wave × Region × Nat) :=
  let of_ (node : BitVec 64) (i : Wave → Nat) : Option (Wave × Region × Nat) :=
    match s.wave p node with
    | none => none
    | some w => (s.region p w.rasid w.rcb).map fun r => (w, r, i w)
  match e with
  | .wave node => of_ node (·.next)
  | .task node i => of_ node fun _ => i

/-- Cores that the binding of a task takes: those of its members that have not halted. -/
def State.coresNeeded (s : State) (w : Wave) (r : Region) (tidx : Nat) : Nat :=
  ({ w := w, r := r, tidx := tidx, cores := taskCores w.gran r.prot 0, kept := s.taskRec w.req.part w.req.node tidx } : Plan).live.length

/-- Whether the budgets admit an offered task, it could take some cores, and dispatch has not chosen cores for it already. -/
def State.eligible (s : State) (x : Wave × Region × Nat) : Bool :=
  s.admits x.2.1 (s.coresNeeded x.1 x.2.1 x.2.2) && ((s.coreSets x.1 x.2.1).any fun cs => s.couldTake x.2.1.prio.toNat cs)
    && !(s.owns.any fun o => decide (o.part = x.1.req.part) && decide (o.node = x.1.req.node) && decide (o.tidx = x.2.2))

/-- The eligible head of a partition. -/
def State.head (s : State) (p : Nat) : Option (Wave × Region × Nat) :=
  (s.pools.reverse.flatMap fun x => if x.1 / 256 = p then x.2 else []).findSome? fun e =>
    match s.offered p e with
    | some x => if s.eligible x then some x else none
    | none => none

/-- The bound PRIO of a set (15 R311): of one that several tasks hold the highest, which the spec leaves open (DESIGN CHOICE, log 49). -/
def State.boundPrio (s : State) (cs : List (BitVec 8 × Nat)) : Nat := (s.tasksOn cs).foldl (fun n b => max n b.prio.toNat) 0

/-- The set that the rotation chooses: the first that is idle, else the first of the lowest bound PRIO among those that may be displaced. -/
def State.chooseSet (s : State) (w : Wave) (r : Region) : Option (List (BitVec 8 × Nat)) :=
  let sets := s.coreSets w r
  match sets.find? fun cs => cs.all fun x => s.coreIdle x.1 with
  | some cs => some cs
  | none =>
    (sets.filter fun cs => s.couldTake r.prio.toNat cs).foldl
      (fun best cs => match best with
        | none => some cs
        | some b => if s.boundPrio cs < s.boundPrio b then some cs else some b) none

/-- The rotation of R311 for a task: RPTR moves past the chosen cores, tasks bound to them are pre-empted first, and the task is bound as soon as
the cores are idle. -/
def State.rotate (s : State) (w : Wave) (r : Region) (tidx : Nat) : State :=
  match s.chooseSet w r with
  | none => s
  | some cs =>
    let taken := cs.map (·.1)
    let o : OwnBind := { part := w.req.part, node := w.req.node, tidx := tidx, cores := taken }
    let s : State := { s with
      rptr := mapSet 0 s.rptr w.req.part (taken.foldl (fun n c => max n c.toNat) 0 + 1), owns := s.owns ++ [o] }
    ((s.tasksOn cs).foldl (fun s b => s.markPreempt b) s).tryOwn o

/-- Dispatch binds the eligible head of a partition by the rotation. -/
def State.rotateHead (s : State) (p : Nat) : State :=
  match s.head p with
  | some (w, r, i) => s.rotate w r i
  | none => s

/-- DISPATCH_BIND: dispatch looks at the OP 1 record in the slot of core `c`; or, with `flag`, binds the eligible head of octant `j`'s partition by the
rotation while the SCH is down (17 R339). -/
def execDispatchBind (s : State) : Host.Outcome State Fault Refusal :=
  .next (if s.inp.flag then (if s.fw.schDown then s.rotateHead (s.partOf (s.inp.j.toNat % 8)) else s) else s.dispatch s.inp.c)

/-- An SCH stop (17 R339). -/
def State.schStop (s : State) : State :=
  { s.logError spineBank 1 { cls := 3, code := 0x0903 } with fw := { s.fw with schDown := true } }

/-- An age alarm's record; 16 within 1 ms are an SCH stop (17 R339). -/
def State.alarm (s : State) : State :=
  let s := s.logError spineBank 1 { cls := 1, code := 0x0904 }
  let recent := s.fw.alarms.filter (fun t => decide (s.ns < t + 1000000)) ++ [s.ns]
  let s : State := { s with fw := { s.fw with alarms := recent } }
  if 16 ≤ recent.length ∧ s.fw.schDown = false then s.schStop else s

/-- The eligible heads while time passes, each with the time since which it has been that (15 R310): no head changes while nothing else happens. -/
def State.trackHeads (s : State) : List AgeHead :=
  s.parts.filterMap fun p =>
    match s.head p with
    | none => none
    | some (w, _, i) =>
      match s.age.find? fun a => decide (a.part = p) && decide (a.node = w.req.node) && decide (a.tidx = i) with
      | some a => some a
      | none => some { part := p, node := w.req.node, tidx := i, since := s.ns }

/-- `n` nanoseconds pass, in which the eligible heads wait. -/
def State.elapse (s : State) (n : Nat) : State := { s with age := s.trackHeads, ns := s.ns + n }

/-- AGE_ALARM: the eligible head of octant `j`'s partition has waited AGECAP: an alarm is raised, and it is bound by the rotation. -/
def execAgeAlarm (s : State) : Host.Outcome State Fault Refusal :=
  let p := s.partOf (s.inp.j.toNat % 8)
  .next (match s.head p with
    | none => s
    | some (w, r, i) =>
      match s.age.find? fun a => decide (a.part = p) && decide (a.node = w.req.node) && decide (a.tidx = i) with
      | none => s
      | some a =>
        if s.ns < a.since + r.agecap * 1000 then s
        else ({ (s.post (.ageAlarm w.req.node i)).alarm with age := s.age.filter fun a => decide (a.part ≠ p) } : State).rotate w r i)

/-! ## Pre-emption (15 R312) -/

/-- Fetch freezes, and results in the pipelines go to the eclipse bank with the issue cycles they still need (15 R312, R313). -/
def Core.eclipsed (c : Core) : Core := { c.thaw with run := .draining, cstate := 3, eclipse := c.pipe, pipe := [], iss := Init.issue }

/-- PREEMPTION: the pending pre-emption of the member on core `c` takes effect. -/
def execPreemption (s : State) : Host.Outcome State Fault Refusal :=
  .next (s.updCore s.inp.c fun c => if c.mayPreempt then c.eclipsed else c)

/-! ## Leaving the cores (02 R46, R47, 15 R312) -/

/-- Whether an operation may go on after its member has left: a bank program that has been sent (13 R291). -/
def EngineOp.outlives (o : EngineOp) : Bool := decide (o.name = .bankgo) && (o.sent || o.done)

/-- Whether a member's operations, landings and writes have completed; the bank programs of a halted member too, which nothing else would wait
for once its peers have left (02 R49). -/
def Core.quiet (c : Core) : Bool :=
  c.pipe.isEmpty && (c.ops.all fun o => o.outlives && decide (c.run ≠ .halted)) && c.sb.isEmpty && c.mq.isEmpty && c.launches.isEmpty && c.seg.hold.isEmpty
    && !c.seg.openSeg && c.land.all (fun l => l.data.isSome) && c.drained

/-- Whether a member has parked. -/
def Run.isParked : Run → Bool
  | .parked _ => true
  | _ => false

/-- A member about to be saved: landings that fell due are written; a member parked at a wait finds it satisfied on resume, once the park takes
effect (10 R238). -/
def Core.beforeSave (c : Core) (parks : Bool) : Core :=
  let c := c.writeLandings fun l => l.due
  if parks ∧ c.run = .parked none then { c with ctx := { c.ctx with waitOk := true } } else c

/-- Landing rows with the fields that the save area has no place for. -/
def keptRows (m : FMap LandRow) : FMap LandRow := (m.map fun x => (x.1, { x.2 with data := [] })).filter fun x => decide (x.2 ≠ Init.landRow)

/-- The members of a task that have not halted: core and member. -/
def State.liveMembers (s : State) (b : Binding) : List (BitVec 8 × Nat) :=
  b.cores.filterMap fun c => match (s.core c).run, (s.core c).task with
    | .halted, _ => none
    | _, some x => some (c, x.memb)
    | _, none => none

/-- What is kept of a task whose live members have been saved. -/
def State.keep (s : State) (b : Binding) (parks : Bool) (conds : List (Nat × ParkCond)) : TaskRec :=
  let c := b.cores.headD 0
  let ms := s.liveMembers b
  { part := b.part, node := b.node, tidx := s.tidxAt c, ready := !parks, conds := conds
    halted := (List.range (s.core c).ctx.id.tgran).filter fun m => !(ms.map (·.2)).contains m
    lands := if b.save then ms.map fun x => (x.2, keptRows (s.core x.1).pool.land) else []
    progs := (ms.map fun x => (x.2, (s.core x.1).ops)).filter fun x => !x.2.isEmpty
    parked := if parks then [] else (ms.map fun x => (x.2, (s.core x.1).run)).filter fun x => x.2.isParked
    rounds := (ms.map fun x => (x.2, (s.core x.1).ctx.rounds)).filter fun x => !x.2.isEmpty
    links := (ms.map fun x => (x.2, (inIssueOrder (s.core x.1).ctx.deferred).map (·.tok))).filter fun x => !x.2.isEmpty
    dying := none }

/-- A task whose members are all at rest leaves its cores: each live member is saved, or the task is killed with 0x1504 (15 R413). -/
def State.saveAll (s : State) (b : Binding) (parks : Bool) : State :=
  let ms := s.liveMembers b
  let psn := ms.filter fun x => (s.core x.1).landingPoison fun l => l.due
  let conds := if parks then ms.flatMap fun x => (s.condsOf x.1 b.save).map fun q => (x.2, q) else []
  let s := ms.foldl (fun s x => s.updCore x.1 fun c => c.beforeSave parks) s
  if !psn.isEmpty then psn.foldl (fun s x => s.consume x.1 3 0 0) s
  else
    let (s, ok) := ms.foldl (fun (acc : State × Bool) x => if acc.2 then acc.1.saveMember x.1 { b with memb := x.2 } else acc) (s, true)
    if !ok then (if ms.any fun x => (s.core x.1).run.killCode.isSome then s else s.killTask b 0x1504)
    else
      let t := s.keep b parks conds
      let s := ms.foldl (fun s x => s.sendAway x.1 (b.part, b.node, t.tidx, x.2)) s
      let s : State := { s with tasks := s.tasks ++ [t] }
      let s := s.post (if parks then .parked (b.cores.headD 0) b.node t.tidx b.bindseq else .preempted (b.cores.headD 0) b.node t.tidx b.bindseq)
      let s := (s.answerDisplace b 1).unbind b
      if parks then s else s.addEntry b.part b.prio.toNat (.task b.node t.tidx)

/-- The places that the saves of a task write. -/
def State.saveSpots (s : State) (b : Binding) : List Spot :=
  (s.liveMembers b).flatMap fun x =>
    let id := (s.core x.1).ctx.id
    s.areaSpots (cbOf x.1) b (saveArea b.savebase b.save id.tidx id.tgran x.2) (saveBytes b.save)

/-- A task leaves its cores once the columns of its save areas have been served (13 R281). -/
def State.leave (s : State) (b : Binding) (parks : Bool) : State :=
  let who := Requester.save (b.cores.headD 0)
  let l := s.saveSpots b
  if s.underWay who then s.withColumns who 0 b.part [] [] fun s => s.saveAll b parks
  else if l.any fun x => x.1.isNone then s.waits
  else s.withColumns who 0 b.part [] (knownSpots l) fun s => s.saveAll b parks

/-- The task of core `c`, when every member of it is quiet, with what they are doing. -/
def State.atRest (s : State) (c : BitVec 8) : Option (Binding × List Run) :=
  match (s.core c).task with
  | none => none
  | some b => if (b.cores.map s.core).all Core.quiet then some (b, b.cores.map fun c => (s.core c).run) else none

/-- CONTEXT_SAVE_COMPLETE: the members of core `c`'s task have been pre-empted, those that had halted or parked aside, and are quiet: the task is
saved, its cores are idle and it enters its pool. -/
def execContextSaveComplete (s : State) : Host.Outcome State Fault Refusal :=
  .next (match s.atRest s.inp.c with
    | none => s
    | some (b, rs) =>
      if (rs.all fun r => decide (r = .draining) || decide (r = .halted) || r.isParked) && rs.contains .draining then s.leave b false else s)

/-- TASK_PARKED: every member of core `c`'s task has parked or halted, at least one has parked, and their results have been written: the task is
saved as parked. -/
def execTaskParked (s : State) : Host.Outcome State Fault Refusal :=
  .next (match s.atRest s.inp.c with
    | none => s
    | some (b, rs) =>
      let landed := b.cores.all fun c => (s.core c).land.isEmpty
      if landed && (rs.all fun r => decide (r = .halted) || r.isParked) && rs.any Run.isParked then s.leave b true else s)

/-- A parked task's beacons lie behind a poisoned table entry (20 R385). -/
def State.condTable (s : State) (p : Nat) (asid : BitVec 14) (t : TaskRec) : Option Nat :=
  t.conds.findSome? fun x => match s.condRead p asid x.2 with
    | some (.table pa) => some pa
    | _ => none

/-- A parked task is ready again, once what each of its parked members waits for holds; a walk that meets a poisoned entry kills it (20 R385). -/
def State.judgeParked (s : State) (p : Nat) (w : Wave) (t : TaskRec) : State :=
  if t.ready ∨ t.dying.isSome = true then s
  else if t.conds.any fun x => decide (s.condRead p w.asid x.2 = some .held) then s.waits
  else
    match s.condTable p w.asid t with
    | some pa => (s.spineWalkPoison pa).killAway p t.node t.tidx 0x0502
    | none =>
      if (t.conds.all fun x => s.condMet p w.asid (forMember t.progs x.1 []) x.2) = false then s
      else
        let s : State := { s with tasks := s.tasks.map fun x => if x = t then { x with ready := true } else x }
        match s.region p w.rasid w.rcb with
        | some r => s.addEntry p r.prio.toNat (.task t.node t.tidx)
        | none => s

/-- PARK_BEACON_MET: parked task `tidx` of `node` in octant `j`'s partition is judged. -/
def execParkBeaconMet (s : State) : Host.Outcome State Fault Refusal :=
  let p := s.partOf (s.inp.j.toNat % 8)
  .next (match s.taskRec p s.inp.node s.inp.tidx.toNat, s.wave p s.inp.node with
    | some t, some w => s.judgeParked p w t
    | _, _ => s)

/-! ## Firmware (17 R339) -/

/-- The CP's running submissions end with STATUS 3 once their tasks retire: nothing of them is counted any more, what waited is dropped, and nodes that
have no wave complete. -/
def State.cpStop (s : State) : State :=
  let s := s.logError spineBank 0 { cls := 3, code := 0x0902 }
  let running (r : Request) : Bool := s.cp.subs.any fun x => decide (x.1 = r.stream) && decide (x.2.recd = r.recd)
  let drop (l : List Request) : List Request := l.filter fun r => !running r
  let hasWave (a : Active) : Bool := (s.wave a.req.part a.req.node).any fun w => a.req.sameNode w.req
  let lost := s.cp.due.filter fun d => running d.req
  let gone := s.cp.active.filter fun a => !hasWave a
  let s : State :=
    { s with
      fw := { s.fw with cpDown := true }
      cp := { s.cp with
        reqs := drop s.cp.reqs, due := s.cp.due.filter fun d => !running d.req, pend := drop s.cp.pend, full := drop s.cp.full
        subs := s.cp.subs.map fun x => (x.1, { x.2 with stopped := true, failed := true }) } }
  let s := gone.foldl (fun s a => s.completeNode a []) s
  lost.foldl (fun s d => (s.settleNode d.req d.rasid d.rcb).tryClose d.req.part d.rasid 16 d.rcb) s

/-- CP_WATCHDOG: no CP heartbeat for 1 ms: record 0x0902; the CP is restarted, and its running submissions are ended. -/
def execCpWatchdog (s : State) : Host.Outcome State Fault Refusal := .next (if s.fw.cpDown then s else s.cpStop)

/-- Whether a ready task exists. -/
def State.anyReady (s : State) : Bool := s.pools.any fun x => !x.2.isEmpty

/-- SCH_WATCHDOG: the SCH has shown no activity for 1 ms while a task is ready: record 0x0903; dispatch binds by the rotation meanwhile. -/
def execSchWatchdog (s : State) : Host.Outcome State Fault Refusal := .next (if s.fw.schDown ∨ s.anyReady = false then s else s.schStop)

/-- FIRMWARE_RESTART_DONE: the SMC has restarted the CP from its verified image, or with `flag` the SCH; with `flag2` its signature fails instead and
it stays down (record 0x0901). -/
def execFirmwareRestartDone (s : State) : Host.Outcome State Fault Refusal :=
  .next (if s.inp.flag2 then s.logError spineBank 5 { cls := 3, code := 0x0901 }
    else if s.inp.flag then { s with fw := { s.fw with schDown := false, alarms := [] } }
    else { s with fw := { s.fw with cpDown := false } })

end Sys2Proof.Machine
end

