-- ==== Sys2Proof/Machine/Nodes.lean ====
section
/-! DEFINITION. The CP's events: readiness requests, the nodes that complete on their own, submissions (02 R52, R53, 15 R304, R305). -/

namespace Sys2Proof.Machine

/-- READINESS_REQUEST: the CP takes the next request; one that has fallen due is carried out before it. -/
def execReadinessRequest (s : State) : Host.Outcome State Fault Refusal :=
  .next (if s.fw.cpDown then s
    else
      match s.cp.due, s.cp.reqs with
      | r :: rest, _ => { s with cp := { s.cp with due := rest } }.handleDue r
      | [], r :: rest => { s with cp := { s.cp with reqs := rest } }.handleRequest r
      | [], [] => s)

/-- The active node that an event names by octant `j`'s partition, `asid` and `node`, with its submission and type. -/
def State.eventNode (s : State) : Option (Active × Submission × Nat) :=
  if s.fw.cpDown then none
  else
    match s.cp.active.find? fun a => decide (a.req.part = s.partOf (s.inp.j.toNat % 8) ∧ a.req.asid = s.inp.asid ∧ a.req.node = s.inp.node) with
    | none => none
    | some a => (s.sub a.req).map fun x => (a, x, fieldOf (nodeWord a.w 0) 3 0)

/-- The successors of a node. -/
def Active.succ (a : Active) : List Nat := [nodeWord a.w 2, nodeWord a.w 3]

/-- WAIT_NODE_READ: the CP reads the beacon of active WAIT node `node` of octant `j`'s partition; the node completes at its target. -/
def execWaitNodeRead (s : State) : Host.Outcome State Fault Refusal :=
  .next (match s.eventNode with
    | none => s
    | some (a, sub, ty) =>
      if ty ≠ 5 then s
      else
        let (s, x) := s.cpBlock a.req.part sub.asid (nodeWord a.w 4) 8
        match x with
        | none => s.refuseActive a 0x1604
        | some x => if nodeWord a.w 5 ≤ x then s.completeNode a a.succ else s)

/-- SIGNAL_NODE_COMPLETE: the add of active SIGNAL node `node`, made as its request was handled, has performed at system scope: the node
completes. -/
def execSignalNodeComplete (s : State) : Host.Outcome State Fault Refusal :=
  .next (match s.eventNode with
    | none => s
    | some (a, _, ty) => if ty ≠ 6 then s else s.completeNode a a.succ)

/-- Whether the bulk engines of a bulkhead may work for a region: it is in the effective BMASK (02 R39, 10 R218), and not held in reset. -/
def State.bulkEngine (s : State) (part : Nat) (rasid : BitVec 14) (rcb : BitVec 64) (b : Nat) : Bool :=
  (b < 16 || (decide (24 ≤ b) && decide (b < 32))) && !(mapGet Init.island s.islands b).down
    && match s.region part rasid rcb with
      | some r => r.bmask.getLsbD b
      | none => false

/-- A walk of a bulk engine's met a poisoned entry (20 R385): it is recorded at the translation record of its bulkhead, or, in a link bulkhead, which
has none, at the engine's (log 18).  No task can be held to it: the bulkhead is reset (17 R336). -/
def State.bulkWalkPoison (s : State) (b pa : Nat) : State :=
  (s.logError b (if b < 16 then 65 else 4) { cls := 3, code := 0x0502, atype := 2, addr := pa }).smcReset b

/-- A bulk engine's access to a stack held in reset is aborted (17 R336). -/
def State.bulkLost (s : State) (b : Nat) (a : PAddr) : State := match a with
  | .stack pa => if s.stackDown (pa.toNat / 2 ^ 36) then s.logError b (bulkRecord b) { cls := 3, code := 0x0602, atype := 2, addr := pa.toNat } else s
  | .fabric _ _ => s

/-- One piece of a bulk node's copy by the engines of bulkhead `b`, within one page of its source and one of its destination; `false` where it fails
(18 R354). -/
def State.bulkPiece (s : State) (b p : Nat) (asid : BitVec 14) (src dst n : Nat) : State × Bool :=
  match s.xlate b p asid .read src, s.xlate b p asid .write dst with
  | .ok a, .ok d =>
    match s.placeBlk p a n with
    | (s, some x) =>
      let r := s.putPlace p d n x
      if r.2 then r else (r.1.bulkLost b d, false)
    | (s, none) => (s.bulkLost b a, false)
  | .poison pa, _ => (s.bulkWalkPoison b pa, false)
  | _, .poison pa => (s.bulkWalkPoison b pa, false)
  | .held, _ => (s.waits, true)
  | _, .held => (s.waits, true)
  | .stopped pa, _ => (s.gateStops pa, false)
  | _, .stopped pa => (s.gateStops pa, false)
  | _, _ => (s, false)

/-- The add of a bulk node's engines to its beacon; poison that it combines is consumed there (17 R332). -/
def State.bulkAdd (s : State) (b p : Nat) (asid : BitVec 14) (va : Nat) : State × Bool :=
  if va % 8 ≠ 0 then (s, false)
  else
    match s.xlate b p asid .write va with
    | .ok a =>
      let r := s.addAt a 1
      if !r.2 then (r.1.bulkLost b a, false)
      else (match a with
        | .stack pa => if s.physPoisoned pa.toNat 8 then r.1.unitConsumes b (bulkRecord b) pa.toNat else r.1
        | .fabric _ _ => r.1, true)
    | .poison pa => (s.bulkWalkPoison b pa, false)
    | .stopped pa => (s.gateStops pa, false)
    | .held => (s.waits, true)
    | .fault _ => (s, false)

/-- A bulk node's copy under the submission's address space, in ascending pieces: it stops at the first that fails, with the pieces before it
moved. -/
def State.bulkNode (s : State) (b p : Nat) (asid : BitVec 14) : Nat → Nat → Nat → Nat → State × Bool
  | 0, _, _, _ => (s, true)
  | fuel + 1, src, dst, n =>
    if n = 0 then (s, true)
    else
      let l := min n (min (2 ^ 14 - src % 2 ^ 14) (2 ^ 14 - dst % 2 ^ 14))
      let r := s.bulkPiece b p asid src dst l
      if r.2 then r.1.bulkNode b p asid fuel (src + l) (dst + l) (n - l) else r

/-- The places that `n` bytes of a submission's virtual memory lie at, as the engines of bulkhead `b` translate it now. -/
def State.bulkPlaces (s : State) (b p : Nat) (asid : BitVec 14) (want : Want) (va n : Nat) : List Spot :=
  (pieces (2 ^ 14) (n / 2 ^ 14 + 2) va n).filterMap fun x => (s.xlate b p asid want x.1).spot x.2

/-- Whether the columns of a BULK node are under way for another bulkhead's engines. -/
def State.nodeTaken (s : State) (r : Request) (b : Nat) : Bool := s.asks.any fun x => match x.who with
  | .node q e => decide (q = r ∧ e ≠ b)
  | _ => false

/-- Work of a BULK node by the engines of bulkhead `b`: held by a link or by translations in use it waits, and then for its columns, which are bulk copy
data (01 R29). -/
def State.withNode (s : State) (a : Active) (b : Nat) (reads writes : List Spot) (f : State → State) : State :=
  let who := Requester.node a.req b
  let p := a.req.part
  if s.underWay who then s.withColumns who 3 p [] [] f
  else if (reads ++ writes).any fun x => x.1.isNone then s.waits
  else
  let reads := knownSpots reads
  let writes := knownSpots writes
  if ((s.ask who).isNone && (reads ++ writes).any fun x => s.placeHeld p x.1) || writes.any (fun x => s.dirBusy (fun _ _ => false) x.1 x.2)
      || s.nodeTaken a.req b then s
  else s.withColumns who 3 p reads writes f

/-- The copy of a BULK node, its beacon's add, and its completion. -/
def State.endBulk (s : State) (a : Active) (b : Nat) (asid : BitVec 14) : State :=
  let w := nodeWord a.w
  let n := w 6 % 2 ^ 48
  let r := s.bulkNode b a.req.part asid (2 * (n / 2 ^ 14) + 4) (w 4) (w 5) n
  if !r.2 then r.1.refuseActive a 0x1604
  else
    let q := if w 7 = 0 then r else r.1.bulkAdd b a.req.part asid (w 7)
    if q.2 then q.1.completeNode a a.succ else q.1.refuseActive a 0x1604

/-- BULK_NODE_COMPLETE: the copy of active BULK node `node`, made by the bulk engines of bulkhead `b`, completes once its columns have been served; 1 is
added to its beacon, and the node completes. -/
def execBulkNodeComplete (s : State) : Host.Outcome State Fault Refusal :=
  .next (match s.eventNode with
    | none => s
    | some (a, sub, ty) =>
      let w := nodeWord a.w
      let p := a.req.part
      let n := w 6 % 2 ^ 48
      if ty ≠ 2 ∨ s.bulkEngine p a.rasid a.rcb s.inp.b.toNat = false then s
      else
        s.withNode a s.inp.b.toNat (s.bulkPlaces s.inp.b.toNat p sub.asid .read (w 4) n)
          (s.bulkPlaces s.inp.b.toNat p sub.asid .write (w 5) n ++ (if w 7 = 0 then [] else s.bulkPlaces s.inp.b.toNat p sub.asid .write (w 7) 8)) fun s => s.endBulk a s.inp.b.toNat sub.asid)

/-- The stream an event names. -/
def State.eventStream (s : State) : BitVec 6 := BitVec.ofNat 6 s.inp.p

/-- SUBMISSION_START: the next record of stream `p` starts, when none of the stream runs. -/
def execSubmissionStart (s : State) : Host.Outcome State Fault Refusal := .next (s.startSubmission s.eventStream)

/-- SUBMISSION_END: the running submission of stream `p` ends, when no work of it is left. -/
def execSubmissionEnd (s : State) : Host.Outcome State Fault Refusal := .next (s.endSubmission s.eventStream)

end Sys2Proof.Machine
end

