-- ==== Sys2Proof/Machine/Pages.lean ====
section
/-! DEFINITION. Page retirement: the decision, the copy passes and the switch (20 R381-R384). -/

namespace Sys2Proof.Machine

/-- The retirement reserve: the last 64 pages of a stack. -/
def reserveFirst : Nat := 2 ^ 22 - 64

/-- The lowest free reserve page. -/
def Stack.freeReserve (t : Stack) : Option Nat := (upFrom reserveFirst 64).find? fun q => t.retire.all fun x => decide (x.2 ≠ q)

/-- Whether a page's records call for its retirement: 0x0402, or 0x0401 eight times within one second; they stand until it is retired. -/
def Stack.failing (t : Stack) (page : Nat) : Bool := t.badPages.contains page

/-- Whether a running program of a stack has rows that hold chunks of a page. -/
def Stack.programHolds (t : Stack) (page : Nat) : Bool :=
  t.chans.any fun p => match p.2.prog with
    | none => false
    | some g => (List.range 64).any fun i =>
      let o := page * 2 ^ 14 + 256 * i
      decide (chanOf o = p.1 ∧ g.launch.row0 ≤ rowOf o ∧ rowOf o < g.launch.row0 + g.launch.nrow)

/-- PAGE_RETIREMENT: the SMC begins to move page `page` of stack `k` to the lowest free reserve page, when the page's records call for it and nothing
postpones it. -/
def execPageRetirement (s : State) : Host.Outcome State Fault Refusal :=
  let k := s.inp.k.toNat
  let page := s.inp.page.toNat
  let t := s.stack k
  .next (match t.freeReserve with
    | none => s
    | some q =>
      if t.move.isSome ∨ 64 ≤ t.retire.length ∨ reserveFirst ≤ page ∨ (t.retire.any fun x => decide (x.1 = page)) = true
          ∨ t.failing page = false ∨ t.programHolds page = true then s
      else s.updStack k fun t => { t with move := some { old := page, new := q, line := 0, dirty := [], todo := List.range 256, passes := 0 } })

/-- One line of a page copied to another, with its poison; no copy of the new page's columns stays staged (13 R294). -/
def State.copyLine (s : State) (k old new l : Nat) : State :=
  let a := k * 2 ^ 36 + old * 2 ^ 14 + 64 * l
  let b := k * 2 ^ 36 + new * 2 ^ 14 + 64 * l
  let s := [b, b + 32].foldl State.unstage s
  { s with
    mem := writeBytes s.mem b 64 (readBytes s.mem a 64)
    poison := (List.range 2).foldl (fun m i => mapSet false m (b / 32 + i) (mapGet false s.poison (a / 32 + i))) s.poison }

/-- A pass of a move ends: another one copies the lines marked, unless the switch may follow. -/
def Move.endPass (m : Move) : Move :=
  if m.todo.isEmpty then
    let m := { m with passes := m.passes + 1 }
    if m.dirty.length ≤ 16 ∨ 8 ≤ m.passes then m else { m with todo := (List.range 256).filter m.dirty.contains }
  else m

/-- PAGE_MOVE_LINE: the next line of the pass is copied; in a later pass its bit is cleared as it is read. -/
def execPageMoveLine (s : State) : Host.Outcome State Fault Refusal :=
  let k := s.inp.k.toNat
  .next (match (s.stack k).move with
    | none => s
    | some m =>
      match m.todo with
      | [] => s
      | l :: rest =>
        (s.copyLine k m.old m.new l).updStack k fun t =>
          { t with move := some (({ m with
              line := l + 1, todo := rest, dirty := if m.passes = 0 then m.dirty else m.dirty.filter fun i => decide (i ≠ l) } : Move).endPass) })

/-- Column requests of a page that has moved are taken out of a channel's queue, and the rest left. -/
def PChan.splitPage (p : PChan) (page : Nat) : List ColReq × PChan :=
  let mine (q : ColReq) : Bool := decide (q.pa % 2 ^ 36 / 2 ^ 14 = page)
  (p.queue.filter mine, { p with queue := p.queue.filter fun q => !mine q })

/-- Requests held for a page go to the queues of its new place, in arrival order (20 R383). -/
def State.requeuePage (s : State) (k page : Nat) : State :=
  let held := (s.stack k).chans.flatMap fun x => (x.2.splitPage page).1
  let s := s.updStack k fun t => { t with chans := t.chans.map fun x => (x.1, (x.2.splitPage page).2) }
  (held.mergeSort fun a b => decide (a.at_ ≤ b.at_)).foldl
    (fun s q =>
      let o := s.redirect q.pa % 2 ^ 36
      s.updChan k (chanOf o) fun p =>
        ({ p with queue := p.queue ++ [{ q with bank := dramBankOf o, row := rowOf o, win := false }] } : PChan).markWindow s.ns (s.stack k).tRp (dramBankOf o)) s

/-- PAGE_MOVE_SWITCH: the passes have ended, and writes to the page are held: the lines still marked are copied, the map entry becomes active, the
requests held go on to the new page, and record 0x0405 is written. -/
def execPageMoveSwitch (s : State) : Host.Outcome State Fault Refusal :=
  let k := s.inp.k.toNat
  .next (match (s.stack k).move with
    | none => s
    | some m =>
      if !m.todo.isEmpty then s
      else
        let s := m.dirty.foldl (fun s l => s.copyLine k m.old m.new l) s
        let s := (s.updStack k fun t => { t with move := none, retire := t.retire ++ [(m.old, m.new)] }).requeuePage k m.old
        s.logError (stackBank k) 192 { cls := 1, code := 0x0405, atype := 2, addr := k * 2 ^ 36 + m.old * 2 ^ 14, synd := m.new })

end Sys2Proof.Machine
end

