-- ==== Sys2Proof/Machine/Power.lean ====
section
/-! DEFINITION. Bring-up, the package arbiter's epochs, sensors and rails (01 R16, R25, R26, R33, R34, 13 R280, 17 R339, R340). -/

namespace Sys2Proof.Machine

/-! ## Bring-up (01 R33, R34) -/

/-- BOOTST.STAGE. -/
def State.stage (s : State) : Nat := fieldOf s.ctl.bootst.toNat 15 8

/-- A bring-up step is complete. -/
def State.setStage (s : State) (n : Nat) : State :=
  { s with ctl := { s.ctl with bootst := BitVec.ofNat 64 (withField s.ctl.bootst.toNat 15 8 n + if n = 5 then 1 else 0) } }

/-- PACKAGE_POWER_ON: the machine is as at reset, and the boot ROM verifies the images: with `flag` they are good, their firmware version being `v`,
and the SMC starts; else record 0x0901 is written and bring-up stops. -/
def execPackagePowerOn (s : State) : Host.Outcome State Fault Refusal :=
  let t : State := { State.reset with turns := s.turns, inp := s.inp, powered := true }
  .next (if s.inp.flag then
      { t with ctl := { t.ctl with bootst := BitVec.ofNat 64 (2 * 256 + (s.inp.v.toNat % 65536) * 65536) } }
    else (t.setStage 1).logError spineBank 5 { cls := 3, code := 0x0901 })

/-- Whether a memory configuration record keeps the limits of 13 R280.  A nonzero reserved field breaks one, so that the reset values replace the whole
record: R280 gives reserved fields no limit and no fault (DESIGN CHOICE, log 49). -/
def memCfgOk (x : BitVec 128) : Bool :=
  let f (hi lo : Nat) : Nat := fieldOf x.toNat hi lo
  decide (64 ≤ f 15 0 ∧ f 31 21 = 0 ∧ 14 ≤ f 39 32 ∧ 14 ≤ f 47 40 ∧ 28 ≤ f 55 48 ∧ 42 ≤ f 63 56 ∧ 14 ≤ f 71 64 ∧ 2 ≤ f 75 72 ∧ f 127 76 = 0)

/-- BRING_UP_STEP_DONE: the next step of R33 completes: the rails, with the memory configuration records `cfg`; the base dies, the SCH and the CP, with
the stacks zeroed; the gates, READY. -/
def execBringUpStepDone (s : State) : Host.Outcome State Fault Refusal :=
  let config (s : State) (k : Nat) : State :=
    let x := s.inp.cfg.getD k Init.memCfg
    s.updStack k fun t => { t with cfg := if memCfgOk x then x else Init.memCfg }
  let beats (s : State) (k : Nat) : State := (s.zeroStack k).updStack k fun t => { t with beat := s.ns, beatsFrom := s.ns }
  .next (match s.stage with
    | 2 => ((List.range 8).foldl config s).setStage 3
    | 3 => ((List.range 8).foldl beats s).setStage 4
    | 4 => s.setStage 5
    | _ => s)

/-! ## Epochs (01 R26) -/

/-- Idle floor of an island. -/
def islandFloor (i : Nat) : Nat := if i < 16 then 35 else if i < 24 then 40 else 15

/-- Watts reserved: the spine's 90 and every floor. -/
def reservedWatts : Nat := 90 + ((List.range 32).map islandFloor).sum

/-- `x` divided in proportion to `part` of `all`, equally among `n` when all is zero; the model's choice: shares round down to whole watts,
and demands that are all zero divide equally (log 20). -/
def divideBy (x part all n : Nat) : Nat := if all = 0 then x / n else x * part / all

/-- The islands of a partition. -/
def State.islandsOf (s : State) (p : Nat) : List Nat := (s.octants p).flatMap fun k => [2 * k, 2 * k + 1, 16 + k, 24 + k]

/-- Watts of each partition: its share of the ceiling less what is reserved; the excess of one that needs less goes to all others.  Where every other
PSHARE is zero, though its own is not, it is divided equally among them: 01 R26 names equal division only where all are zero (DESIGN CHOICE, log 49). -/
def State.partWatts (s : State) (demand : List Nat) : List (Nat × Nat) :=
  let rest := s.ctl.pceil.toNat - reservedWatts
  let weight (p : Nat) : Nat := (mapGet 0 s.ctl.pshare p).toNat
  let ps := s.parts
  let all := (ps.map weight).sum
  let need (p : Nat) : Nat := ((s.islandsOf p).map fun i => demand.getD i 0).sum
  let share (p : Nat) : Nat := divideBy rest (weight p) all ps.length
  let given (p q : Nat) : Nat := divideBy (share q - need q) (weight p) (all - weight q) (ps.length - 1)
  ps.map fun p => (p, min (need p) (share p) + ((ps.filter fun q => decide (q ≠ p)).map (given p)).sum)

/-- The highest frequency point that fits some watts. -/
def pointFor (i watts : Nat) : Nat := ((List.range 11).filter fun n => decide (Config.pointWatts i n ≤ watts)).getLast?.getD 0

/-- A compute or link island takes a frequency point; a change freezes its clock domain for at most 1 µs (01 R16).  The clocks of the others stay (R15). -/
def Island.setPoint (x : Island) (i point ns freeze : Nat) : Island :=
  if 16 ≤ i ∧ i < 24 ∨ 32 ≤ i ∨ x.point = point then x else { x with point := point, frozen := ns + min 1000 freeze, cycles := x.milli ns }

/-- Whether an island has been below 100 °C for a whole epoch. -/
def Island.cooled (x : Island) (ns : Nat) : Bool := match x.cool100 with
  | some t => decide (t + 1000000 ≤ ns)
  | none => false

/-- An island's settings for the next epoch: a memory island keeps its clock (01 R16); one that has tripped stays at its lowest point until it has
been below 100 °C for a whole epoch. -/
def Island.epoch (x : Island) (i watts ns freeze : Nat) : Island :=
  let hot := x.tripped && !x.cooled ns
  ({ x with watts := watts, tripped := hot } : Island).setPoint i (if hot then 0 else pointFor i watts) ns freeze

/-- EPOCH_BOUNDARY: the arbiter divides the ceiling by the demand `temps` of islands 0-31 in the last epoch, sets points and byte budgets, and stores
the watts attributed to each region, `watts`; an epoch lasts 1 ms, and the first starts once every rail is up (01 R33). -/
def execEpochBoundary (s : State) : Host.Outcome State Fault Refusal :=
  let demand := s.inp.temps
  let set_ (s : State) (pw : Nat × Nat) : State :=
    let is := s.islandsOf pw.1
    let all := (is.map fun i => demand.getD i 0).sum
    is.foldl
      (fun s i =>
        let w := islandFloor i + divideBy pw.2 (demand.getD i 0) all is.length
        let s := { s with islands := mapUpd Init.island s.islands i fun x => x.epoch i w s.ns (Config.domainFreeze s.nfree i) }
        if 16 ≤ i ∧ i < 24 then s.updStack (i - 16) fun t => { t with budget := min 46080000 (Config.budgetOf w) } else s) s
  let credit (s : State) (x : Nat × Nat) : State :=
    (s.cp.regions.filter fun r => decide (r.va.toNat = x.1)).foldl
      (fun s r => s.updRegion r.part r.rasid r.va fun r => { r with epochw := x.2 }) s
  .next (if s.stage < 3 ∨ (s.ctl.epochAt ≠ 0 ∧ s.ns + 1 < s.ctl.epochAt + 1000000) then s
    else
      let spine (s : State) (i : Nat) : State :=
        { s with islands := mapUpd Init.island s.islands i fun x => { x with tripped := x.tripped && !x.cooled s.ns } }
      let s := [32, 33].foldl spine s
      let t := s.inp.watts.foldl credit ((s.partWatts demand).foldl set_ s).takeFree
      { t with ctl := { t.ctl with epochAt := s.ns + 1 } })

/-! ## Sensors, coolant and rails (17 R340) -/

/-- A thermal shutdown of island `i`: record 0x0A02, and its bulkhead is reset and held in reset.  Islands 32 and 33, the spine, are no bulkhead that 17
R336 resets: they leave the record alone, once until they are cool again (DESIGN CHOICE, log 49). -/
def State.shutDown (s : State) (i : Nat) : State :=
  let s := s.logError spineBank 2 { cls := 3, code := 0x0A02 }
  let s := if i < 32 then s.smcReset i else s
  { s with islands := mapUpd Init.island s.islands i fun x => { x with down := true, cool95 := none } }

/-- A reading of an island that is neither a trip nor a shutdown: since when it has been cool, and whether its reset ends. -/
def Island.reading (x : Island) (t ns : Nat) : Island :=
  let since (limit : Nat) (o : Option Nat) : Option Nat := if t < limit then some (o.getD ns) else none
  let c95 := since 95 x.cool95
  let release := match c95 with
    | some u => decide (u + 1000000000 ≤ ns)
    | none => false
  { x with cool100 := since 100 x.cool100, cool95 := c95, down := x.down && !release }

/-- An island's reading is taken; at 115 °C it is shut down. -/
def State.readSensor (s : State) (i t : Nat) : State :=
  let x := mapGet Init.island s.islands i
  let s : State := { s with islands := mapSet Init.island s.islands i (x.reading t s.ns) }
  if 115 ≤ t ∧ x.down = false then s.shutDown i else s

/-- At 105 °C an island trips: record 0x0A01, and it drops to its lowest point. -/
def State.trip (s : State) (i t : Nat) : State :=
  if 105 ≤ t ∧ (mapGet Init.island s.islands i).tripped = false then
    let s := s.logError spineBank 2 { cls := 1, code := 0x0A01 }
    { s with islands := mapUpd Init.island s.islands i fun x =>
        ({ x with tripped := true } : Island).setPoint i 0 s.ns (Config.domainFreeze s.nfree i) }.takeFree
  else s

/-- SENSOR_READ: every 10 µs the SMC reads the sensors of islands 0-33, `temps` in °C; an island without a reading is left as it is. Its errors are
taken in descending rank (17 R329): shutdowns first, then trips. -/
def execSensorRead (s : State) : Host.Outcome State Fault Refusal :=
  let is := List.range (min 34 s.inp.temps.length)
  .next (if s.ctl.sensedAt ≠ 0 ∧ s.ns + 1 < s.ctl.sensedAt + 10000 then s
    else
      let s : State := { s with ctl := { s.ctl with sensedAt := s.ns + 1 } }
      let s := is.foldl (fun s i => s.readSensor i (s.inp.temps.getD i 0)) s
      is.foldl (fun s i => s.trip i (s.inp.temps.getD i 0)) s)

/-- COOLANT_LOSS: the inlet has been above 40 °C with too little flow for 100 ms: every bulkhead is reset and held in reset. -/
def execCoolantLoss (s : State) : Host.Outcome State Fault Refusal := .next ((List.range 32).foldl State.shutDown s)

/-- RAIL_OUT_OF_RANGE: the rail of bulkhead `b` leaves its range: record 0x0A03, and the bulkhead is reset. -/
def execRailOutOfRange (s : State) : Host.Outcome State Fault Refusal :=
  .next (if s.inp.b.toNat < 32 then (s.logError spineBank 2 { cls := 3, code := 0x0A03 }).smcReset s.inp.b.toNat else s)

end Sys2Proof.Machine
end

