-- ==== Sys2Proof/Machine/Segments.lean ====
section
/-! DEFINITION. Mirror pairs and the segments of protected members: the trailing core, comparison, commit, rewind and rerun (19 R362-R374). -/

namespace Sys2Proof.Machine

/-- SYND of a mismatch (19 R374): bundles issued before it, its kind, whether it was found in the rerun, undo-log entries, and the signatures' xor. -/
def segSynd (g : Segment) : Nat :=
  g.badAt % 2 ^ 13 + (decide (g.bad = 2)).toNat <<< 13 + g.rerun.toNat <<< 14 + (decide (g.bad = 3)).toNat <<< 15 + (g.log.length % 2 ^ 16) <<< 16
    + (if g.bad = 1 then g.sigx.toNat else 0) <<< 32

/-- Whether an operation keeps a segment from ending: not held, and no BANKGO, whose program runs on across segments. -/
def EngineOp.blocks (o : EngineOp) : Bool := !o.held && decide (o.name ≠ .bankgo)

/-- A record of family 0x08 at a pair's leading core. -/
def State.pairRecord (s : State) (c : BitVec 8) (cls code synd : Nat) : State :=
  s.coreError c 0 { cls := cls, code := code, atype := 5, addr := c.toNat, synd := synd }

/-! ## The pair (19 R362, R364) -/

/-- The trailing core of the pair that core `c` leads. -/
def State.twin (s : State) (c : BitVec 8) : Option Core := mapGet none s.twins c.toNat

/-- The first bundle compared by now in which the signatures differ; a bundle that only one core has issued differs too: the other froze (19 R362). -/
def pairDiff (k h : Core) : Option Nat := (List.range k.comparedTo).find? fun i => decide (k.seg.sigs[i]? ≠ h.seg.sigs[i]?)

/-- The requests of the segment's atomics that are sent once: what both cores compare before they leave (19 R367). -/
def Core.onceSent (k : Core) : List (Nat × Piece × Nat) :=
  (k.mq.filter fun r => !r.sent && k.seg.atoms.any fun a => decide (a.1 = r.id)).map fun r => (r.id, r.piece, r.data)

/-- The mismatch that comparison finds in a pair by now: its kind, the bundles before it, and the signatures' xor, which the spec leaves open where one
of the two is missing. -/
def pairFinds (k h : Core) (free : BitVec 16) : Option (BitVec 2 × Nat × BitVec 16) :=
  if h.seg.bad ≠ 0 ∧ (h.seg.badAt < k.comparedTo ∨ k.seg.issued ≤ h.seg.badAt) then some (h.seg.bad, h.seg.badAt, h.seg.sigx)
  else
    match pairDiff k h with
    | some i => some (1, i, match k.seg.sigs[i]?, h.seg.sigs[i]? with
      | some x, some y => (x ^^^ y).truncate 16
      | _, _ => free)
    | none => if 1 ≤ k.comparedTo ∧ k.onceSent ≠ h.onceSent then some (1, 0, free) else none

/-- The cores of the pair that core `c` leads compare what both have issued; poison that the trailing core consumes outside a segment is the
pair's (19 R364, R365). -/
def State.comparePair (s : State) (c : BitVec 8) : State :=
  let k := s.core c
  match s.twin c with
  | none => s
  | some h =>
    if k.killed then s
    else if h.killed then s.consume c 0 5 c.toNat
    else if !k.seg.openSeg ∨ k.seg.restoring = true ∨ k.seg.bad ≠ 0 then s
    else
      match pairFinds k h (Config.sigXor s.nfree) with
      | none => s
      | some (kind, i, x) => s.takeFree.setCore c { k with seg := { k.seg with bad := kind, badAt := i, sigx := x } }

/-! ## Commit (19 R368) -/

/-- Whether a core's part of the open segment has been done: its landings have come, its operations have completed, but for held ones, and its
write-backs have read their slots, so that their data is held. -/
def Core.segmentDone (k : Core) : Bool :=
  (k.land.all fun l => l.data.isSome) && !(k.ops.any EngineOp.blocks)
    && k.sb.all fun e => e.home.isNone || decide (e.op < k.seg.first)

/-- Whether the pair has done its segment and the trailing core has compared its last bundle. -/
def State.pairDone (s : State) (c : BitVec 8) : Bool :=
  let k := s.core c
  k.segmentDone && match s.twin c with
    | none => true
    | some h => h.segmentDone && decide (k.comparedTo = k.seg.sigs.length)

/-- A held item is released (19 R368): a write joins the write queue, an operation starts, a beacon add is made and its operation completes. -/
def State.release (s : State) (c : BitVec 8) : Held → State
  | .request id _ => s.updCore c fun k => k.joinQueue id
  | .engine n => s.updCore c fun k => k.updOp n fun o => { o with held := false }
  | .beacon n a x =>
    match (s.core c).op n with
    | none => s
    | some o =>
      let (s, f) := (s.awaits (fun b i => decide (b = c) && decide (n ≤ i)) a 8).beaconAdd c o a x.toNat
      s.leaveOp c o f

/-- The operations that have completed in a commit's wait differ between the cores: the mismatch counts every bundle (19 R364, R371). -/
def State.lateMismatch (s : State) (c : BitVec 8) : State :=
  s.takeFree.updCore c fun k => { k with seg := { k.seg with bad := 1, badAt := k.seg.issued, sigx := Config.sigXor s.nfree } }

/-- SEGMENT_COMMIT: the segment of the pair led by core `c` has ended, both cores have done it, and it has compared without a mismatch: pending results
and landings are written, its held effects are released in order, and the boundary bundle may issue, which sees the completions of the wait; a segment
that was run again leaves record 0x0801. -/
def execSegmentCommit (s : State) : Host.Outcome State Fault Refusal :=
  let c := s.inp.c
  let k := s.core c
  let g := k.seg
  .next (if !k.prot ∨ g.openSeg = false ∨ g.ending = false ∨ g.bad ≠ 0 ∨ g.restoring = true ∨ s.pairDone c = false then s
    else if (s.twin c).any fun h => decide (h.seg.done ≠ g.done) then s.lateMismatch c
    else if k.landingPoison (fun _ => true) then (s.setCore c k.settle).consume c 3 0 0
    else
      let s := s.setCore c { k.settle with seg := { Init.segment with done := g.done } }
      let s := if g.rerun then s.pairRecord c 1 0x0801 g.synd else s
      g.hold.foldl (fun s h => s.release c h) s)

/-! ## Rewind and rerun (19 R369) -/

/-- Scoreboard entries that a restored tag table calls for: fills in flight at the checkpoint that have ended since. -/
def Core.refill (c : Core) : Core :=
  c.pool.tagt.foldl
    (fun c x =>
      if x.2.st = (1 : BitVec 2) ∧ (c.sb.any fun b => decide (b.slot = some x.1)) = false then
        let off := slotOffset c.ctx.pw (x.1 % 64) (x.1 / 64)
        { c with nid := c.nid + 1, sb := c.sb ++ [{ op := c.nid, slot := some x.1, lo := off, hi := off + 4095, dest := true, home := none }] }
      else c) c

/-- A core goes back to the opening of its segment: its log and checkpoint are restored, and results, landings and held effects of the segment are
discarded; an atomic already sent stays (19 R369). -/
def Core.restore (c : Core) : Core :=
  let sent (r : MemReq) : Bool := c.seg.atoms.any fun a => decide (a.1 = r.id)
  let k := c.rollback.thaw
  ({ k with
     ctx := { k.ctx with segLeft := 4096 }
     run := .running, pipe := [], land := [], eclipse := [], trap := none, iss := Init.issue
     mq := k.mq.filter fun r => decide (r.id < c.seg.first) || sent r
     ops := k.ops.filter fun o => decide (o.id < c.seg.first)
     sb := k.sb.filter fun e => decide (e.op < c.seg.first)
     launches := k.launches.filter fun l => decide (l.2 < c.seg.first)
     sinceJump := 0, predS := 0, predD := 0, predP := 0, removed := false, removedP := false
     seg := { c.seg with
      log := [], hold := [], issued := 0, sigs := [], sigAt := [], done := [], ending := false, atomNext := 0, rerun := true, restoring := true
      bad := 0, badAt := 0, sigx := 0 } }
   : Core).refill

/-- Columns under way for work of a core numbered from `n` on are forgotten. -/
def State.dropWork (s : State) (c : BitVec 8) (n : Nat) : State :=
  { s with asks := s.asks.filter fun a => match a.who with
      | .work b i _ => !(decide (b = c) && decide (n ≤ i))
      | _ => true }

/-- The mismatch that an input brings, when the segment has none yet: a soft error has made the trailing core's signature of bundle `p`, compared by now,
`v` (19 R364). -/
def Core.compare (k : Core) (i : Input) : Core :=
  match k.seg.sigs[i.p]? with
  | some x =>
    if k.seg.bad ≠ 0 ∨ x = i.v ∨ k.comparedTo ≤ i.p then k
    else { k with seg := { k.seg with bad := 1, badAt := i.p, sigx := (x ^^^ i.v).truncate 16 } }
  | none => k

/-- REWIND: a mismatch in the open segment of the pair led by core `c`: one that has been found, or the one that the input brings. Once the segment's
operations have run to completion the cores restore; a mismatch of the rerun kills the task instead. -/
def execRewind (s : State) : Host.Outcome State Fault Refusal :=
  let c := s.inp.c
  let k := s.core c
  .next (if !k.prot ∨ k.seg.openSeg = false ∨ k.seg.restoring = true then s
    else
      let k := k.compare s.inp
      let s := s.setCore c k
      if k.seg.bad = 0 ∨ (k.ops.any fun o => o.blocks && decide (k.seg.first ≤ o.id)) = true then s
      else
        let synd := segSynd k.seg
        if k.seg.rerun then
          let code := if k.seg.bad = 3 then 0x0805 else 0x0802
          (s.pairRecord c 3 code synd).killCore c (BitVec.ofNat 16 code)
        else (s.setCore c (({ k with seg := { k.seg with synd := synd } } : Core).restore)).dropWork c k.seg.first)

/-- RERUN_START: the restore has ended, and the leading core issues the segment's first bundle again. -/
def execRerunStart (s : State) : Host.Outcome State Fault Refusal :=
  .next (s.updCore s.inp.c fun k => if k.seg.restoring then { k with seg := { k.seg with restoring := false } } else k)

/-! ## The trailing core's part of a turn (19 R362) -/

/-- Whether a core that was `k` has frozen in its issue cycle. -/
def Core.froze (k after : Core) : Bool :=
  decide (k.ctx.pc = after.ctx.pc ∧ k.trap = after.trap ∧ k.run = after.run ∧ k.seg.openSeg = after.seg.openSeg ∧ k.seg.sigs.length = after.seg.sigs.length)

/-- A freeze cycle of the trailing core, which follows the leading core's. -/
def Core.freezeWith (h lead : Core) : Core :=
  { h.stall with
    frozeLand := lead.frozeLand, frozeTok := lead.frozeTok, frozeSb := lead.frozeSb, frozeTv := lead.frozeTv, frozeSbAt := lead.frozeSbAt
    frozeOn := lead.frozeOn, waited := lead.waited, waitLimit := lead.waitLimit, duty := lead.duty, fence := lead.fence, iss := lead.iss
    seg := { h.seg with ending := lead.seg.ending } }

/-- What a turn does to trailing core `h` of the pair that core `c` leads, which took the machine from `s` to `t`: what it does to the leading core
(`run`) is done to it too, on its own pool and registers, and with the data that the leading core has asked for.  The model makes both in one turn, and
lets what comes of the trailing core's be seen two cycles later (log 21). -/
def State.trail (s t : State) (issues : Bool) (run : State → State) (c : BitVec 8) (h : Core) : Core :=
  let alone : State := { s.setCore c h with twins := [] }
  let k := t.core c
  if s.core c = k then h
  else if k.seg.restoring && !(s.core c).seg.restoring then h.restore
  else match k.run with
    | .killed code => if (s.core c).killed then (run alone).core c else h.stop code
    | _ => if issues && (s.core c).froze k then ((alone.coreCycle c).core c).freezeWith k else (run alone).core c

/-- The trailing cores that a turn has left alone do their parts of it, and the pairs compare. -/
def State.followed (s t : State) (issues : Bool) (run : State → State) : State :=
  s.twins.foldl
    (fun t x =>
      let c := BitVec.ofNat 8 x.1
      match x.2 with
      | none => t
      | some h =>
        if t.twin c = some h then (({ t with twins := mapSet none t.twins x.1 (some (s.trail t issues run c h)) } : State)).comparePair c else t.comparePair c)
    t

end Sys2Proof.Machine
end

