-- ==== Sys2Proof/Machine/VecInt.lean ====
section
/-! DEFINITION. Integer and bitwise vector arithmetic and comparison (08 R174-R176). -/

namespace Sys2Proof.Machine

/-- A `w`-bit element read by the signedness of a tag. -/
def intElem (t : Tag) (x : Nat) : Int := if Fmt.isSigned t then signedOf (Fmt.width t) x else (x : Int)

/-- The lesser, or the greater, of two elements (08 R174). -/
def ipickElem (t : Tag) (max : Bool) (x y : Nat) : Nat := if decide (intElem t x < intElem t y) != max then x else y

/-- The magnitude of an element of a signed tag, modulo 2^w. -/
def iabsElem (t : Tag) (x : Nat) : Nat := wrapTo (Fmt.width t) (intElem t x).natAbs

/-- ICMP of `w`-bit elements (08 R176), by the codes of CMP. -/
def icmpElem (w : Nat) (cc : BitVec 3) (x y : Nat) : Bool :=
  if cc = 0 then decide (x = y)
  else if cc = 1 then decide (x ≠ y)
  else if cc = 2 then decide (signedOf w x < signedOf w y)
  else if cc = 3 then decide (signedOf w y ≤ signedOf w x)
  else if cc = 4 then decide (x < y)
  else decide (y ≤ x)

/-- An element-wise form of two sources: `f` takes the tag and two elements. -/
def vi2 (lat : Nat) (d a b : BitVec 6) (f : Tag → Nat → Nat → Nat) (_ : State) (c : Core) : SlotOut :=
  let t := c.ctx.getVTag a.toNat
  let w := Fmt.width t
  { resultV c lat d (ofElems w (List.zipWith (f t) (elems w (c.ctx.getV a.toNat)) (elems w (c.ctx.getV b.toNat)))) t 0 with
    faults := tagFaults c Fmt.isInt [a, b] }

/-- IMAD. -/
def vimad (d a b : BitVec 6) (_ : State) (c : Core) : SlotOut :=
  let t := c.ctx.getVTag a.toNat
  let w := Fmt.width t
  let ps := List.zipWith (· * ·) (elems w (c.ctx.getV a.toNat)) (elems w (c.ctx.getV b.toNat))
  { resultV c 4 d (ofElems w (List.zipWith (· + ·) (elems w (c.ctx.getV d.toNat)) ps)) t 0 with faults := tagFaults c Fmt.isInt [a, b, d] }

/-- IABS. -/
def viabs (d a : BitVec 6) (_ : State) (c : Core) : SlotOut :=
  let t := c.ctx.getVTag a.toNat
  let w := Fmt.width t
  { resultV c 2 d (ofElems w ((elems w (c.ctx.getV a.toNat)).map (iabsElem t))) t 0 with faults := tagFaults c Fmt.isInt [a] }

/-- A bitwise form: any tag, and the result takes that of va. -/
def vbits (d a b : BitVec 6) (f : VReg → VReg → VReg) (_ : State) (c : Core) : SlotOut :=
  resultV c 2 d (f (c.ctx.getV a.toNat) (c.ctx.getV b.toNat)) (c.ctx.getVTag a.toNat) 0

/-- ICMP. -/
def vicmp (m cc : BitVec 3) (a b : BitVec 6) (_ : State) (c : Core) : SlotOut :=
  let w := Fmt.width (c.ctx.getVTag a.toNat)
  { resultMk 2 m (maskOf w (List.zipWith (icmpElem w cc) (elems w (c.ctx.getV a.toNat)) (elems w (c.ctx.getV b.toNat)))) 0 with
    faults := tagFaults c Fmt.isInt [a, b] }

/-! ## Widening (08 R175) -/

def wideTag (t : Tag) : Bool := decide (t = 0 ∨ t = 1)
def narrowTag (t : Tag) : Bool := decide (t = 3 ∨ t = 4 ∨ t = 7 ∨ t = 8)

/-- The 0x1203 fault of the first register that fails its condition, in the order in which the entry names them (log 7). -/
def firstBadTag (l : List (Bool × BitVec 6)) : List (BitVec 16 × BitVec 64) :=
  match l.find? fun x => !x.1 with
  | some x => [(0x1203, regIdentity (rd 1 x.2))]
  | none => []

/-- The elements of lane `j`, extended by their tag. -/
def laneInts (t : Tag) (v : VReg) (j : Nat) : List Int :=
  let n := Fmt.perLane t
  (List.range n).map fun i => intElem t (elem (Fmt.width t) v (j * n + i))

/-- IADDW. -/
def viaddw (d a b : BitVec 6) (_ : State) (c : Core) : SlotOut :=
  let ta := c.ctx.getVTag a.toNat
  let tb := c.ctx.getVTag b.toNat
  let x := (List.range 128).map fun j => wrapTo 32 ((elem 32 (c.ctx.getV a.toNat) j : Int) + (laneInts tb (c.ctx.getV b.toNat) j).sum)
  { resultV c 3 d (ofLanes x) ta 0 with faults := firstBadTag [(wideTag ta, a), (narrowTag tb, b)] }

/-- IMADW. -/
def vimadw (d a b : BitVec 6) (_ : State) (c : Core) : SlotOut :=
  let ta := c.ctx.getVTag a.toNat
  let tb := c.ctx.getVTag b.toNat
  let td := c.ctx.getVTag d.toNat
  let x := (List.range 128).map fun j =>
    wrapTo 32 ((elem 32 (c.ctx.getV d.toNat) j : Int)
      + (List.zipWith (· * ·) (laneInts ta (c.ctx.getV a.toNat) j) (laneInts tb (c.ctx.getV b.toNat) j)).sum)
  { resultV c 4 d (ofLanes x) td 0 with
    faults := firstBadTag [(wideTag td, d), (narrowTag ta, a), (narrowTag tb && decide (Fmt.width tb = Fmt.width ta), b)] }

/-! ## Meanings -/

/-- IADD_V0 (08 R174). -/
def execIaddV0 (d a b : BitVec 6) (s : State) : Host.Outcome State Fault Refusal :=
  issueSlot (.iaddV0 d a b) (vi2 2 d a b fun _ x y => x + y) s

/-- IADD_V1 (08 R174). -/
def execIaddV1 (d a b : BitVec 6) (s : State) : Host.Outcome State Fault Refusal :=
  issueSlot (.iaddV1 d a b) (vi2 2 d a b fun _ x y => x + y) s

/-- ISUB_V0 (08 R174). -/
def execIsubV0 (d a b : BitVec 6) (s : State) : Host.Outcome State Fault Refusal :=
  issueSlot (.isubV0 d a b) (vi2 2 d a b fun t x y => x + 2 ^ Fmt.width t - y) s

/-- ISUB_V1 (08 R174). -/
def execIsubV1 (d a b : BitVec 6) (s : State) : Host.Outcome State Fault Refusal :=
  issueSlot (.isubV1 d a b) (vi2 2 d a b fun t x y => x + 2 ^ Fmt.width t - y) s

/-- IMUL_V0 (08 R174). -/
def execImulV0 (d a b : BitVec 6) (s : State) : Host.Outcome State Fault Refusal :=
  issueSlot (.imulV0 d a b) (vi2 4 d a b fun _ x y => x * y) s

/-- IMUL_V1 (08 R174). -/
def execImulV1 (d a b : BitVec 6) (s : State) : Host.Outcome State Fault Refusal :=
  issueSlot (.imulV1 d a b) (vi2 4 d a b fun _ x y => x * y) s

/-- IMIN_V0 (08 R174). -/
def execIminV0 (d a b : BitVec 6) (s : State) : Host.Outcome State Fault Refusal :=
  issueSlot (.iminV0 d a b) (vi2 2 d a b fun t => ipickElem t false) s

/-- IMIN_V1 (08 R174). -/
def execIminV1 (d a b : BitVec 6) (s : State) : Host.Outcome State Fault Refusal :=
  issueSlot (.iminV1 d a b) (vi2 2 d a b fun t => ipickElem t false) s

/-- IMAX_V0 (08 R174). -/
def execImaxV0 (d a b : BitVec 6) (s : State) : Host.Outcome State Fault Refusal :=
  issueSlot (.imaxV0 d a b) (vi2 2 d a b fun t => ipickElem t true) s

/-- IMAX_V1 (08 R174). -/
def execImaxV1 (d a b : BitVec 6) (s : State) : Host.Outcome State Fault Refusal :=
  issueSlot (.imaxV1 d a b) (vi2 2 d a b fun t => ipickElem t true) s

/-- SHL_V0 (08 R174). -/
def execShlV0 (d a b : BitVec 6) (s : State) : Host.Outcome State Fault Refusal :=
  issueSlot (.shlV0 d a b) (vi2 2 d a b fun t x y => x <<< (y % Fmt.width t)) s

/-- SHL_V1 (08 R174). -/
def execShlV1 (d a b : BitVec 6) (s : State) : Host.Outcome State Fault Refusal :=
  issueSlot (.shlV1 d a b) (vi2 2 d a b fun t x y => x <<< (y % Fmt.width t)) s

/-- SHR_V0 (08 R174). -/
def execShrV0 (d a b : BitVec 6) (s : State) : Host.Outcome State Fault Refusal :=
  issueSlot (.shrV0 d a b) (vi2 2 d a b fun t x y => x >>> (y % Fmt.width t)) s

/-- SHR_V1 (08 R174). -/
def execShrV1 (d a b : BitVec 6) (s : State) : Host.Outcome State Fault Refusal :=
  issueSlot (.shrV1 d a b) (vi2 2 d a b fun t x y => x >>> (y % Fmt.width t)) s

/-- SRA_V0 (08 R174). -/
def execSraV0 (d a b : BitVec 6) (s : State) : Host.Outcome State Fault Refusal :=
  issueSlot (.sraV0 d a b) (vi2 2 d a b fun t x y => wrapTo (Fmt.width t) (signedOf (Fmt.width t) x >>> (y % Fmt.width t))) s

/-- SRA_V1 (08 R174). -/
def execSraV1 (d a b : BitVec 6) (s : State) : Host.Outcome State Fault Refusal :=
  issueSlot (.sraV1 d a b) (vi2 2 d a b fun t x y => wrapTo (Fmt.width t) (signedOf (Fmt.width t) x >>> (y % Fmt.width t))) s

/-- IMAD_V0 (08 R174). -/
def execImadV0 (d a b : BitVec 6) (s : State) : Host.Outcome State Fault Refusal :=
  issueSlot (.imadV0 d a b) (vimad d a b) s

/-- IMAD_V1 (08 R174). -/
def execImadV1 (d a b : BitVec 6) (s : State) : Host.Outcome State Fault Refusal :=
  issueSlot (.imadV1 d a b) (vimad d a b) s

/-- IABS_V0 (08 R174). -/
def execIabsV0 (d a : BitVec 6) (s : State) : Host.Outcome State Fault Refusal :=
  issueSlot (.iabsV0 d a) (viabs d a) s

/-- IABS_V1 (08 R174). -/
def execIabsV1 (d a : BitVec 6) (s : State) : Host.Outcome State Fault Refusal :=
  issueSlot (.iabsV1 d a) (viabs d a) s

/-- IADDW_V0 (08 R175). -/
def execIaddwV0 (d a b : BitVec 6) (s : State) : Host.Outcome State Fault Refusal :=
  issueSlot (.iaddwV0 d a b) (viaddw d a b) s

/-- IADDW_V1 (08 R175). -/
def execIaddwV1 (d a b : BitVec 6) (s : State) : Host.Outcome State Fault Refusal :=
  issueSlot (.iaddwV1 d a b) (viaddw d a b) s

/-- IMADW_V0 (08 R175). -/
def execImadwV0 (d a b : BitVec 6) (s : State) : Host.Outcome State Fault Refusal :=
  issueSlot (.imadwV0 d a b) (vimadw d a b) s

/-- IMADW_V1 (08 R175). -/
def execImadwV1 (d a b : BitVec 6) (s : State) : Host.Outcome State Fault Refusal :=
  issueSlot (.imadwV1 d a b) (vimadw d a b) s

/-- AND_V0 (08 R176). -/
def execAndV0 (d a b : BitVec 6) (s : State) : Host.Outcome State Fault Refusal :=
  issueSlot (.andV0 d a b) (vbits d a b (· &&& ·)) s

/-- AND_V1 (08 R176). -/
def execAndV1 (d a b : BitVec 6) (s : State) : Host.Outcome State Fault Refusal :=
  issueSlot (.andV1 d a b) (vbits d a b (· &&& ·)) s

/-- OR_V0 (08 R176). -/
def execOrV0 (d a b : BitVec 6) (s : State) : Host.Outcome State Fault Refusal :=
  issueSlot (.orV0 d a b) (vbits d a b (· ||| ·)) s

/-- OR_V1 (08 R176). -/
def execOrV1 (d a b : BitVec 6) (s : State) : Host.Outcome State Fault Refusal :=
  issueSlot (.orV1 d a b) (vbits d a b (· ||| ·)) s

/-- XOR_V0 (08 R176). -/
def execXorV0 (d a b : BitVec 6) (s : State) : Host.Outcome State Fault Refusal :=
  issueSlot (.xorV0 d a b) (vbits d a b (· ^^^ ·)) s

/-- XOR_V1 (08 R176). -/
def execXorV1 (d a b : BitVec 6) (s : State) : Host.Outcome State Fault Refusal :=
  issueSlot (.xorV1 d a b) (vbits d a b (· ^^^ ·)) s

/-- ICMP_V0 (08 R176). -/
def execIcmpV0 (m cc : BitVec 3) (a b : BitVec 6) (s : State) : Host.Outcome State Fault Refusal :=
  issueSlot (.icmpV0 m cc a b) (vicmp m cc a b) s

/-- ICMP_V1 (08 R176). -/
def execIcmpV1 (m cc : BitVec 3) (a b : BitVec 6) (s : State) : Host.Outcome State Fault Refusal :=
  issueSlot (.icmpV1 m cc a b) (vicmp m cc a b) s

end Sys2Proof.Machine
end

