-- ==== Sys2Proof/Machine/VecMem.lean ====
section
/-! DEFINITION. Vector loads from scratchpad and stores to it, on V0 (08 R184, R185). -/

namespace Sys2Proof.Machine

/-- a(A) + x, modulo 2^48. -/
def vaddr (c : Core) (a : BitVec 4) (x : Int) : Nat := wrapTo 48 ((c.ctx.getA a.toNat).toNat + x)

/-- A whole-register access: 512 bytes at a(A) + imm8 × 512. -/
def vwide (c : Core) (a : BitVec 4) (i : BitVec 8) : Nat := vaddr c a (i.toNat * 512)

/-- The access of a lane-granular form: its lanes' addresses, in lane order. -/
def vlaneAccess (c : Core) (addrs : List Nat) : SlotOut :=
  let pw := c.ctx.pw
  let ops := addrs.flatMap fun a => c.sbOverlap a 4
  let bad := addrs.filter fun a => decide (a % 4 ≠ 0)
  let out := addrs.filter fun a => (spOutside pw a 4).isSome
  { faults := (match bad.head? with
      | some a => [((0x1201 : BitVec 16), BitVec.ofNat 64 a)]
      | none => []) ++ (match out.head? with
      | some a => [((0x1202 : BitVec 16), BitVec.ofNat 64 ((spOutside pw a 4).getD a))]
      | none => [])
    freezes := if ops.isEmpty then [] else addrs.map fun a => (.scoreboard 4, BitVec.ofNat 64 a)
    sbOps := ops.dedup
    banks := if bad.isEmpty && out.isEmpty then (addrs.flatMap fun a => banksOf pw a 4).dedup else [] }

/-- The loaded register: each lane's 4 bytes, and poison met. -/
def vlaneLoad (c : Core) (lat : Nat) (d : BitVec 6) (tag : Tag) (addrs : List Nat) : SlotOut :=
  let out := vlaneAccess c addrs
  if !out.faults.isEmpty then out
  else
    let r := resultV c lat d (ofLanes (addrs.map fun a => c.spRead a 4)) tag 0
    { out with effects := r.effects ++ (addrs.flatMap fun a => spPoison c a 4).take 1 }

/-- The lanes stored, the highest lane number last. -/
def vlaneStore (c : Core) (d : BitVec 6) (addrs : List Nat) : SlotOut :=
  let lane (j a : Nat) : Effect := .spStore a 4 (elem 32 (c.ctx.getV d.toNat) j) (c.ctx.badMask 1 (c.ctx.physV d.toNat) >>> (j / 2) % 2)
  { vlaneAccess c addrs with effects := addrs.mapIdx lane }

/-- Addresses of the strided and indexed forms. -/
def strided (c : Core) (a x : BitVec 4) : List Nat := (List.range 128).map fun (j : Nat) => vaddr c a ((j : Int) * (c.ctx.getS x.toNat).toInt)

/-- Whether the index register's lanes are read as signed: under INT32 they are, under UINT32 not; 08 R184 states no reading
under another tag, which 0x1203 refuses, so a free value decides there (log 5). -/
def indexSigned (t : Tag) : Bool :=
  if t = Fmt.int32 then true else if t = Fmt.uint32 then false else Config.indexSigned t

def indexed (c : Core) (a x : BitVec 4) : List Nat :=
  let v := c.ctx.getV x.toNat
  let sg := indexSigned (c.ctx.getVTag x.toNat)
  (List.range 128).map fun (j : Nat) => vaddr c a (if sg then signedOf 32 (elem 32 v j) else (elem 32 v j : Int))

/-- The index tag's fault. -/
def indexFault (c : Core) (x : BitVec 4) : List (BitVec 16 × BitVec 64) :=
  let t := c.ctx.getVTag x.toNat
  if t = 0 ∨ t = 1 then [] else [(0x1203, regIdentity (rd 1 x))]

/-- VLD of a format. -/
def vld (d : BitVec 6) (a : BitVec 4) (i : BitVec 8) (tag : Tag) (_ : State) (c : Core) : SlotOut :=
  let ea := vwide c a i
  let out := spAccess c 64 ea 512
  if !out.faults.isEmpty then out
  else { out with effects := (resultV c 4 d (BitVec.ofNat 4096 (c.spRead ea 512)) tag 0).effects ++ spPoison c ea 512 }

/-- VLD of INT32 (08 R184). -/
def execVldInt32 (d : BitVec 6) (a : BitVec 4) (i : BitVec 8) (s : State) : Host.Outcome State Fault Refusal :=
  issueSlot (.vldInt32 d a i) (vld d a i Fmt.int32) s

/-- VLD of UINT32 (08 R184). -/
def execVldUint32 (d : BitVec 6) (a : BitVec 4) (i : BitVec 8) (s : State) : Host.Outcome State Fault Refusal :=
  issueSlot (.vldUint32 d a i) (vld d a i Fmt.uint32) s

/-- VLD of FP32 (08 R184). -/
def execVldFp32 (d : BitVec 6) (a : BitVec 4) (i : BitVec 8) (s : State) : Host.Outcome State Fault Refusal :=
  issueSlot (.vldFp32 d a i) (vld d a i Fmt.fp32) s

/-- VLD of INT16 (08 R184). -/
def execVldInt16 (d : BitVec 6) (a : BitVec 4) (i : BitVec 8) (s : State) : Host.Outcome State Fault Refusal :=
  issueSlot (.vldInt16 d a i) (vld d a i Fmt.int16) s

/-- VLD of UINT16 (08 R184). -/
def execVldUint16 (d : BitVec 6) (a : BitVec 4) (i : BitVec 8) (s : State) : Host.Outcome State Fault Refusal :=
  issueSlot (.vldUint16 d a i) (vld d a i Fmt.uint16) s

/-- VLD of FP16 (08 R184). -/
def execVldFp16 (d : BitVec 6) (a : BitVec 4) (i : BitVec 8) (s : State) : Host.Outcome State Fault Refusal :=
  issueSlot (.vldFp16 d a i) (vld d a i Fmt.fp16) s

/-- VLD of BF16 (08 R184). -/
def execVldBf16 (d : BitVec 6) (a : BitVec 4) (i : BitVec 8) (s : State) : Host.Outcome State Fault Refusal :=
  issueSlot (.vldBf16 d a i) (vld d a i Fmt.bf16) s

/-- VLD of INT8 (08 R184). -/
def execVldInt8 (d : BitVec 6) (a : BitVec 4) (i : BitVec 8) (s : State) : Host.Outcome State Fault Refusal :=
  issueSlot (.vldInt8 d a i) (vld d a i Fmt.int8) s

/-- VLD of UINT8 (08 R184). -/
def execVldUint8 (d : BitVec 6) (a : BitVec 4) (i : BitVec 8) (s : State) : Host.Outcome State Fault Refusal :=
  issueSlot (.vldUint8 d a i) (vld d a i Fmt.uint8) s

/-- VLD of E4M3 (08 R184). -/
def execVldE4m3 (d : BitVec 6) (a : BitVec 4) (i : BitVec 8) (s : State) : Host.Outcome State Fault Refusal :=
  issueSlot (.vldE4m3 d a i) (vld d a i Fmt.e4m3) s

/-- VLD of E5M2 (08 R184). -/
def execVldE5m2 (d : BitVec 6) (a : BitVec 4) (i : BitVec 8) (s : State) : Host.Outcome State Fault Refusal :=
  issueSlot (.vldE5m2 d a i) (vld d a i Fmt.e5m2) s

/-- VLD of E8M0 (08 R184). -/
def execVldE8m0 (d : BitVec 6) (a : BitVec 4) (i : BitVec 8) (s : State) : Host.Outcome State Fault Refusal :=
  issueSlot (.vldE8m0 d a i) (vld d a i Fmt.e8m0) s

/-- VST (08 R184). -/
def execVst (d : BitVec 6) (a : BitVec 4) (i : BitVec 8) (s : State) : Host.Outcome State Fault Refusal :=
  issueSlot (.vst d a i) (fun _ c =>
    let ea := vwide c a i
    { spAccess c 64 ea 512 with effects := [.spStore ea 512 (c.ctx.getV d.toNat).toNat (c.ctx.badMask 1 (c.ctx.physV d.toNat))] }) s

/-- VLDS (08 R184). -/
def execVlds (d : BitVec 6) (a x f : BitVec 4) (s : State) : Host.Outcome State Fault Refusal :=
  issueSlot (.vlds d a x f) (fun _ c => vlaneLoad c 8 d f (strided c a x)) s

/-- VSTS (08 R184). -/
def execVsts (d : BitVec 6) (a x : BitVec 4) (s : State) : Host.Outcome State Fault Refusal :=
  issueSlot (.vsts d a x) (fun _ c => vlaneStore c d (strided c a x)) s

/-- VLDX (08 R184). -/
def execVldx (d : BitVec 6) (a x f : BitVec 4) (s : State) : Host.Outcome State Fault Refusal :=
  issueSlot (.vldx d a x f) (fun _ c =>
    let out := vlaneLoad c 8 d f (indexed c a x)
    { out with faults := out.faults ++ indexFault c x }) s

/-- VSTX (08 R184). -/
def execVstx (d : BitVec 6) (a x : BitVec 4) (s : State) : Host.Outcome State Fault Refusal :=
  issueSlot (.vstx d a x) (fun _ c =>
    let out := vlaneStore c d (indexed c a x)
    { out with faults := out.faults ++ indexFault c x }) s

/-- VLDB (08 R184): 4 bytes once, for every lane. -/
def execVldb (d : BitVec 6) (a x f : BitVec 4) (s : State) : Host.Outcome State Fault Refusal :=
  issueSlot (.vldb d a x f) (fun _ c =>
    let ea := vaddr c a (c.ctx.getS x.toNat).toInt
    let out := vlaneAccess c [ea]
    if !out.faults.isEmpty then out
    else { out with effects := (resultV c 4 d (ofLanes (List.replicate 128 (c.spRead ea 4))) f 0).effects ++ spPoison c ea 4 }) s

end Sys2Proof.Machine
end

