-- ==== Sys2Proof/Machine/VecMove.lean ====
section
/-! DEFINITION. Conversion, repacking, data movement, scans, reductions and mask operations of the vector ports (08 R177-R187). -/

namespace Sys2Proof.Machine

/-! ## Conversion (08 R177) -/

/-- The generators of the 128 lanes, each advanced one step (04 R93) beyond where an earlier slot of the bundle has left them: of two conversions of
one bundle that on the lower PORT goes first (DESIGN CHOICE, log 48). -/
def Core.advanced (c : Core) : List (BitVec 32) :=
  let earlier := c.iss.effects.findSome? fun e => match e with
    | .rng g => some g
    | _ => none
  (List.range 128).map fun l => rngStep (mapGet 0 (earlier.getD c.ctx.rng) l)

/-- CVT (saturating) and CVTN. -/
def vcvt (d a : BitVec 6) (f : BitVec 4) (rnd : BitVec 2) (sat : Bool) (_ : State) (c : Core) : SlotOut :=
  let t := c.ctx.getVTag a.toNat
  let ns := Fmt.perLane t
  let nt := Fmt.perLane f
  let v := c.ctx.getV a.toNat
  let gens := if rnd = 2 then c.advanced else []
  let mode (j i : Nat) : Mode :=
    if rnd = 0 then .rne else if rnd = 1 then .rtz else if rnd = 2 then .sr ((gens.getD j 0).rotateLeft (8 * i)) else c.ctx.mode
  let r := gatherFlags ((List.range (128 * nt)).map fun k =>
    let j := k / nt
    let i := k % nt
    if i < ns then convert f sat (mode j i) (Fmt.num t (elem (Fmt.width t) v (j * ns + i))) else (0, 0))
  let out := resultV c 3 d (ofElems (Fmt.width f) r.1) f r.2
  if rnd = 2 then { out with effects := out.effects ++ [.rng ((List.range 128).map fun l => (l, gens.getD l 0))] } else out

/-! ## Repacking (08 R178) -/

/-- The bytes of a lane. -/
def laneBytes (v : VReg) (j : Nat) : List Nat := (List.range 4).map fun q => elem 8 v (4 * j + q)

/-- A form that picks, by tag width, bytes of va (0-3) and of vb (4-7) for each lane. -/
def vpick (d a b : BitVec 6) (wide narrow : List Nat) (_ : State) (c : Core) : SlotOut :=
  let t := c.ctx.getVTag a.toNat
  let sel := if Fmt.width t = 16 then wide else narrow
  let x := (List.range 128).flatMap fun j =>
    let bs := laneBytes (c.ctx.getV a.toNat) j ++ laneBytes (c.ctx.getV b.toNat) j
    sel.map fun q => bs.getD q 0
  { resultV c 2 d (ofElems 8 x) t 0 with faults := tagFaults c repackTag [a, b] }

/-! ## Movement (08 R180-R183) -/

/-- A move that keeps the tag of va: lane j of the result is the lane of va that `f` names. -/
def vmoveLanes (lat : Nat) (d a : BitVec 6) (f : Nat → Nat) (_ : State) (c : Core) : SlotOut :=
  let v := c.ctx.getV a.toNat
  resultV c lat d (ofLanes ((List.range 128).map fun j => elem 32 v (f j))) (c.ctx.getVTag a.toNat) 0

/-- VSEL: each byte from va where its mask bit is set, else from vb. -/
def vsel (m : BitVec 3) (d a b : BitVec 6) (_ : State) (c : Core) : SlotOut :=
  let mk := c.ctx.getMk m.toNat
  let x := (List.range 512).map fun q => if mk.getLsbD q then elem 8 (c.ctx.getV a.toNat) q else elem 8 (c.ctx.getV b.toNat) q
  { resultV c 1 d (ofElems 8 x) (c.ctx.getVTag a.toNat) 0 with faults := tagFaults c (fun _ => true) [a, b] }

/-- VPERM: lane l of a cluster takes the lane of va that the low 4 bits of vb's lane name. -/
def vperm (d a b : BitVec 6) (s : State) (c : Core) : SlotOut :=
  vmoveLanes 2 d a (fun j => j / 16 * 16 + elem 32 (c.ctx.getV b.toNat) j % 16) s c

/-! ## Scans and reductions (08 R186) -/

/-- An associative operation over a sequence, element by element: the running results of all nonempty prefixes, from a start. -/
def scanFrom {α : Type} (f : α → Nat → α) : α → List Nat → List α
  | _, [] => []
  | z, x :: xs => f z x :: scanFrom f (f z x) xs

/-- What an exact floating-point sum has met: the sum in units of 2^low, whether every addend so far is a zero, a +0 or a −0 among them,
and its specials. -/
structure ExactSum where
  val : Int
  plus : Bool
  minus : Bool
  nonzero : Bool
  nan : Bool
  sig : Bool
  pinf : Bool
  ninf : Bool
deriving DecidableEq, Repr

def ExactSum.start : ExactSum :=
  { val := 0, plus := false, minus := false, nonzero := false, nan := false, sig := false, pinf := false, ninf := false }

/-- One more addend. -/
def ExactSum.add (f : FFmt) (z : ExactSum) (x : Nat) : ExactSum :=
  match f.decode x with
  | .nan s => { z with nan := true, sig := z.sig || s }
  | .inf n => if n then { z with ninf := true } else { z with pinf := true }
  | .fin n m e =>
    if m = 0 then (if n then { z with minus := true } else { z with plus := true })
    else { z with val := z.val + Num.signed n (m <<< (e - f.low).toNat), nonzero := true }

/-- The sum rounded once (08 R186). -/
def ExactSum.round (f : FFmt) (m : Mode) (z : ExactSum) : Flagged Nat :=
  let nv : FFlags := if z.sig || (z.pinf && z.ninf) then FFlag.nv else 0
  if z.nan || (z.pinf && z.ninf) then (f.nanBits, nv)
  else if z.pinf then (f.withSign false f.infBits, nv)
  else if z.ninf then (f.withSign true f.infBits, nv)
  else if z.val = 0 then
    (f.withSign (if !z.nonzero && (z.plus != z.minus) then z.minus else decide (m = .rdn)) 0, nv)
  else
    let r := roundTo f .ieee m (.fin (decide (z.val < 0)) z.val.natAbs f.low)
    (r.1, r.2 ||| nv)

/-- What a floating-point extreme has met: the best number so far as bits, and whether a signalling NaN was among the elements. -/
def fpBest (f : FFmt) (max : Bool) (z : Option Nat × Bool) (x : Nat) : Option Nat × Bool :=
  let a := f.decode x
  if a.isNan then (z.1, z.2 || a.isSig)
  else
    match z.1 with
    | none => (some (asRead f x), z.2)
    | some y => (some (fpickElem f max y x).1, z.2)

/-- The results for every inclusive prefix of a sequence of elements of tag `t`, and the result of the empty prefix. -/
def prefixes (t : Tag) (op : BitVec 2) (m : Mode) (xs : List Nat) : List (Flagged Nat) × Nat :=
  let w := Fmt.width t
  if Fmt.isInt t then
    let (lo, hi) := Fmt.range t
    if op = 0 then ((scanFrom (fun z x => (z + x) % 2 ^ w) 0 xs).map (·, 0), 0)
    else if op = 1 then ((scanFrom (ipickElem t true) (wrapTo w lo) xs).map (·, 0), wrapTo w lo)
    else ((scanFrom (ipickElem t false) (wrapTo w hi) xs).map (·, 0), wrapTo w hi)
  else
    let f := fpFmt t
    if op = 0 then ((scanFrom (ExactSum.add f) ExactSum.start xs).map (ExactSum.round f m), 0)
    else
      let max := decide (op = 1)
      ((scanFrom (fpBest f max) (none, false) xs).map fun z => (z.1.getD f.nanBits, if z.2 then FFlag.nv else 0), f.withSign max f.infBits)

/-- The extents of an instruction: each cluster alone, or all lanes as one sequence. -/
def extents (ext : BitVec 1) (xs : List Nat) : List (List Nat) :=
  if ext = 1 then [xs]
  else
    let n := xs.length / 8
    (List.range 8).map fun k => (xs.drop (k * n)).take n

/-- Latency by extent (08 R166). -/
def extentLat (ext : BitVec 1) : Nat := if ext = 1 then 8 else 4

def scanTag (t : Tag) : Bool := Fmt.isInt t || fpTag t

/-- VSCAN. -/
def vscan (d a : BitVec 6) (x e : BitVec 1) (o : BitVec 2) (_ : State) (c : Core) : SlotOut :=
  let t := c.ctx.getVTag a.toNat
  let w := Fmt.width t
  let r := gatherFlags ((extents e (elems w (c.ctx.getV a.toNat))).flatMap fun xs =>
    let (ps, z) := prefixes t o c.ctx.mode xs
    if x = 1 then (z, 0) :: ps.dropLast else ps)
  { resultV c (extentLat e) d (ofElems w r.1) t r.2 with faults := tagFaults c scanTag [a] }

/-- VRED. -/
def vred (d a : BitVec 6) (e : BitVec 1) (o : BitVec 2) (_ : State) (c : Core) : SlotOut :=
  let t := c.ctx.getVTag a.toNat
  let w := Fmt.width t
  let r := gatherFlags ((extents e (elems w (c.ctx.getV a.toNat))).flatMap fun xs =>
    List.replicate xs.length ((prefixes t o c.ctx.mode xs).1.getLastD (0, 0)))
  { resultV c (extentLat e) d (ofElems w r.1) t r.2 with faults := tagFaults c scanTag [a] }

/-! ## Meanings -/

/-- CVT_V0 (08 R177). -/
def execCvtV0 (d a : BitVec 6) (f : BitVec 4) (n : BitVec 2) (s : State) : Host.Outcome State Fault Refusal :=
  issueSlot (.cvtV0 d a f n) (vcvt d a f n true) s

/-- CVT_V1 (08 R177). -/
def execCvtV1 (d a : BitVec 6) (f : BitVec 4) (n : BitVec 2) (s : State) : Host.Outcome State Fault Refusal :=
  issueSlot (.cvtV1 d a f n) (vcvt d a f n true) s

/-- CVTN_V0 (08 R177). -/
def execCvtnV0 (d a : BitVec 6) (f : BitVec 4) (n : BitVec 2) (s : State) : Host.Outcome State Fault Refusal :=
  issueSlot (.cvtnV0 d a f n) (vcvt d a f n false) s

/-- CVTN_V1 (08 R177). -/
def execCvtnV1 (d a : BitVec 6) (f : BitVec 4) (n : BitVec 2) (s : State) : Host.Outcome State Fault Refusal :=
  issueSlot (.cvtnV1 d a f n) (vcvt d a f n false) s

/-- UNPKL_V0 (08 R178). -/
def execUnpklV0 (d a b : BitVec 6) (s : State) : Host.Outcome State Fault Refusal :=
  issueSlot (.unpklV0 d a b) (vpick d a b [0, 1, 4, 5] [0, 4, 1, 5]) s

/-- UNPKL_V1 (08 R178). -/
def execUnpklV1 (d a b : BitVec 6) (s : State) : Host.Outcome State Fault Refusal :=
  issueSlot (.unpklV1 d a b) (vpick d a b [0, 1, 4, 5] [0, 4, 1, 5]) s

/-- UNPKH_V0 (08 R178). -/
def execUnpkhV0 (d a b : BitVec 6) (s : State) : Host.Outcome State Fault Refusal :=
  issueSlot (.unpkhV0 d a b) (vpick d a b [2, 3, 6, 7] [2, 6, 3, 7]) s

/-- UNPKH_V1 (08 R178). -/
def execUnpkhV1 (d a b : BitVec 6) (s : State) : Host.Outcome State Fault Refusal :=
  issueSlot (.unpkhV1 d a b) (vpick d a b [2, 3, 6, 7] [2, 6, 3, 7]) s

/-- PACK_V0 (08 R178). -/
def execPackV0 (d a b : BitVec 6) (s : State) : Host.Outcome State Fault Refusal :=
  issueSlot (.packV0 d a b) (vpick d a b [0, 1, 4, 5] [0, 2, 4, 6]) s

/-- PACK_V1 (08 R178). -/
def execPackV1 (d a b : BitVec 6) (s : State) : Host.Outcome State Fault Refusal :=
  issueSlot (.packV1 d a b) (vpick d a b [0, 1, 4, 5] [0, 2, 4, 6]) s

/-- SETFMT_V0 (08 R179). -/
def execSetfmtV0 (d a : BitVec 6) (f : BitVec 4) (s : State) : Host.Outcome State Fault Refusal :=
  issueSlot (.setfmtV0 d a f) (fun _ c => resultV c 1 d (c.ctx.getV a.toNat) f 0) s

/-- SETFMT_V1 (08 R179). -/
def execSetfmtV1 (d a : BitVec 6) (f : BitVec 4) (s : State) : Host.Outcome State Fault Refusal :=
  issueSlot (.setfmtV1 d a f) (fun _ c => resultV c 1 d (c.ctx.getV a.toNat) f 0) s

/-- VMOV_V0 (08 R180). -/
def execVmovV0 (d a : BitVec 6) (s : State) : Host.Outcome State Fault Refusal :=
  issueSlot (.vmovV0 d a) (fun _ c => resultV c 1 d (c.ctx.getV a.toNat) (c.ctx.getVTag a.toNat) 0) s

/-- VMOV_V1 (08 R180). -/
def execVmovV1 (d a : BitVec 6) (s : State) : Host.Outcome State Fault Refusal :=
  issueSlot (.vmovV1 d a) (fun _ c => resultV c 1 d (c.ctx.getV a.toNat) (c.ctx.getVTag a.toNat) 0) s

/-- VMOVI_V0 (08 R180). -/
def execVmoviV0 (d : BitVec 6) (i : BitVec 12) (s : State) : Host.Outcome State Fault Refusal :=
  issueSlot (.vmoviV0 d i) (fun _ c => resultV c 1 d (ofLanes (List.replicate 128 (i.signExtend 32).toNat)) Fmt.int32 0) s

/-- VMOVI_V1 (08 R180). -/
def execVmoviV1 (d : BitVec 6) (i : BitVec 12) (s : State) : Host.Outcome State Fault Refusal :=
  issueSlot (.vmoviV1 d i) (fun _ c => resultV c 1 d (ofLanes (List.replicate 128 (i.signExtend 32).toNat)) Fmt.int32 0) s

/-- VBCST_V0 (08 R181). -/
def execVbcstV0 (d a b : BitVec 6) (s : State) : Host.Outcome State Fault Refusal :=
  issueSlot (.vbcstV0 d a b) (fun s c => vmoveLanes 4 d a (fun _ => (c.ctx.getS b.toNat).toNat % 128) s c) s

/-- VBCST_V1 (08 R181). -/
def execVbcstV1 (d a b : BitVec 6) (s : State) : Host.Outcome State Fault Refusal :=
  issueSlot (.vbcstV1 d a b) (fun s c => vmoveLanes 4 d a (fun _ => (c.ctx.getS b.toNat).toNat % 128) s c) s

/-- VEXT_V0 (08 R181). -/
def execVextV0 (d a b : BitVec 6) (s : State) : Host.Outcome State Fault Refusal :=
  issueSlot (.vextV0 d a b) (fun _ c => resultS c 4 d (BitVec.ofNat 64 (elem 32 (c.ctx.getV a.toNat) ((c.ctx.getS b.toNat).toNat % 128)))) s

/-- VEXT_V1 (08 R181). -/
def execVextV1 (d a b : BitVec 6) (s : State) : Host.Outcome State Fault Refusal :=
  issueSlot (.vextV1 d a b) (fun _ c => resultS c 4 d (BitVec.ofNat 64 (elem 32 (c.ctx.getV a.toNat) ((c.ctx.getS b.toNat).toNat % 128)))) s

/-- VSEL_V0 (08 R182). -/
def execVselV0 (m : BitVec 3) (d a b : BitVec 6) (s : State) : Host.Outcome State Fault Refusal :=
  issueSlot (.vselV0 m d a b) (vsel m d a b) s

/-- VSEL_V1 (08 R182). -/
def execVselV1 (m : BitVec 3) (d a b : BitVec 6) (s : State) : Host.Outcome State Fault Refusal :=
  issueSlot (.vselV1 m d a b) (vsel m d a b) s

/-- VPERM_V0 (08 R182). -/
def execVpermV0 (d a b : BitVec 6) (s : State) : Host.Outcome State Fault Refusal :=
  issueSlot (.vpermV0 d a b) (vperm d a b) s

/-- VPERM_V1 (08 R182). -/
def execVpermV1 (d a b : BitVec 6) (s : State) : Host.Outcome State Fault Refusal :=
  issueSlot (.vpermV1 d a b) (vperm d a b) s

/-- VROT_V0 (08 R182). -/
def execVrotV0 (d a : BitVec 6) (n : BitVec 4) (s : State) : Host.Outcome State Fault Refusal :=
  issueSlot (.vrotV0 d a n) (vmoveLanes 2 d a fun j => j / 16 * 16 + (j + n.toNat) % 16) s

/-- VROT_V1 (08 R182). -/
def execVrotV1 (d a : BitVec 6) (n : BitVec 4) (s : State) : Host.Outcome State Fault Refusal :=
  issueSlot (.vrotV1 d a n) (vmoveLanes 2 d a fun j => j / 16 * 16 + (j + n.toNat) % 16) s

/-- XCL_V0 (08 R183). -/
def execXclV0 (d a : BitVec 6) (n : BitVec 3) (s : State) : Host.Outcome State Fault Refusal :=
  issueSlot (.xclV0 d a n) (vmoveLanes 4 d a fun j => (j / 16 + n.toNat) % 8 * 16 + j % 16) s

/-- XCL_V1 (08 R183). -/
def execXclV1 (d a : BitVec 6) (n : BitVec 3) (s : State) : Host.Outcome State Fault Refusal :=
  issueSlot (.xclV1 d a n) (vmoveLanes 4 d a fun j => (j / 16 + n.toNat) % 8 * 16 + j % 16) s

/-- XCLB_V0 (08 R183). -/
def execXclbV0 (d a : BitVec 6) (n : BitVec 3) (s : State) : Host.Outcome State Fault Refusal :=
  issueSlot (.xclbV0 d a n) (vmoveLanes 4 d a fun j => n.toNat * 16 + j % 16) s

/-- XCLB_V1 (08 R183). -/
def execXclbV1 (d a : BitVec 6) (n : BitVec 3) (s : State) : Host.Outcome State Fault Refusal :=
  issueSlot (.xclbV1 d a n) (vmoveLanes 4 d a fun j => n.toNat * 16 + j % 16) s

/-- VSCAN_V0 (08 R186). -/
def execVscanV0 (d a : BitVec 6) (x e : BitVec 1) (o : BitVec 2) (s : State) : Host.Outcome State Fault Refusal :=
  issueSlot (.vscanV0 d a x e o) (vscan d a x e o) s

/-- VSCAN_V1 (08 R186). -/
def execVscanV1 (d a : BitVec 6) (x e : BitVec 1) (o : BitVec 2) (s : State) : Host.Outcome State Fault Refusal :=
  issueSlot (.vscanV1 d a x e o) (vscan d a x e o) s

/-- VRED_V0 (08 R186). -/
def execVredV0 (d a : BitVec 6) (e : BitVec 1) (o : BitVec 2) (s : State) : Host.Outcome State Fault Refusal :=
  issueSlot (.vredV0 d a e o) (vred d a e o) s

/-- VRED_V1 (08 R186). -/
def execVredV1 (d a : BitVec 6) (e : BitVec 1) (o : BitVec 2) (s : State) : Host.Outcome State Fault Refusal :=
  issueSlot (.vredV1 d a e o) (vred d a e o) s

/-- MKAND (08 R187). -/
def execMkand (d a b : BitVec 3) (s : State) : Host.Outcome State Fault Refusal :=
  issueSlot (.mkand d a b) (fun _ c => resultMk 1 d (c.ctx.getMk a.toNat &&& c.ctx.getMk b.toNat) 0) s

/-- MKOR (08 R187). -/
def execMkor (d a b : BitVec 3) (s : State) : Host.Outcome State Fault Refusal :=
  issueSlot (.mkor d a b) (fun _ c => resultMk 1 d (c.ctx.getMk a.toNat ||| c.ctx.getMk b.toNat) 0) s

/-- MKNOT (08 R187). -/
def execMknot (d a : BitVec 3) (s : State) : Host.Outcome State Fault Refusal :=
  issueSlot (.mknot d a) (fun _ c => resultMk 1 d (~~~(c.ctx.getMk a.toNat)) 0) s

end Sys2Proof.Machine
end

