-- ==== Sys2Proof/Machine/VecSpecial.lean ====
section
/-! DEFINITION. The special functions of V1 (08 R173), correctly rounded: each is carried far beyond any format's precision and its last bit is set where the value is inexact. -/

namespace Sys2Proof.Machine

/-- Fraction bits of the fixed-point values below. -/
def fixBits : Nat := 320

/-- A series whose k-th term is `term` / (2k+1), the term being multiplied by z² each time, over `fixBits` fraction bits. -/
def atanhSeries (z2 : Int) : Nat → Nat → Int → Int → Int
  | 0, _, _, acc => acc
  | n + 1, k, term, acc => atanhSeries z2 n (k + 1) (term * z2 / 2 ^ fixBits) (acc + term / (2 * k + 1))

/-- 2 atanh z in fixed point. -/
def atanh2 (z : Int) : Int := 2 * atanhSeries (z * z / 2 ^ fixBits) 110 0 z 0

/-- ln 2 in fixed point: 2 atanh (1/3). -/
def ln2Fix : Int := atanh2 (2 ^ fixBits / 3)

/-- e^y − 1 + 1 in fixed point for 0 ≤ y < 1: the terms y^k / k!. -/
def expSeries (y : Int) : Nat → Nat → Int → Int → Int
  | 0, _, _, acc => acc
  | n + 1, k, term, acc => expSeries y n (k + 1) (term * y / (2 ^ fixBits * k)) (acc + term)

def expFix (y : Int) : Int := expSeries y 80 1 (2 ^ fixBits) 0

/-- A fixed-point value × 2^n that is known to be inexact, as a number with its last bit set. -/
def inexactNum (neg : Bool) (x : Int) (n : Int) : Num := .fin neg (2 * x.natAbs + 1) (n - fixBits - 1)

/-- A number as a fixed-point value, when |x| < 2^20 and its last bit is not below 2^−fixBits. -/
def fixOf (neg : Bool) (m : Nat) (e : Int) : Int := Num.signed neg (m <<< (e + fixBits).toNat)

/-- 1/√x. -/
def rsqrtNum (a : Num) : Flagged Num :=
  match a with
  | .nan s => (.nan false, if s then FFlag.nv else 0)
  | .inf neg => if neg then (.nan false, FFlag.nv) else (.fin false 0 0, 0)
  | .fin neg m e =>
    if m = 0 then (.inf neg, FFlag.dz)
    else if neg then (.nan false, FFlag.nv)
    else
      let (m, e) := if e % 2 = 0 then (m, e) else (2 * m, e - 1)
      let k := 64 + Nat.log2 m
      let r := isqrt (2 ^ (2 * k) / m)
      (.fin false (if r * r * m = 2 ^ (2 * k) then 2 * r else 2 * r + 1) (-(e / 2) - k - 1), 0)

/-- 2^x. -/
def exp2Num (a : Num) : Flagged Num :=
  match a with
  | .nan s => (.nan false, if s then FFlag.nv else 0)
  | .inf neg => if neg then (.fin false 0 0, 0) else (.inf false, 0)
  | .fin neg m e =>
    if m = 0 then (.fin false 1 0, 0)
    else if 10 < e + Nat.log2 m then (.fin false 1 (if neg then -1024 else 1024), 0)
    else if 0 ≤ e then (.fin false 1 (Num.signed neg (m <<< e.toNat)), 0)
    else
      let x := fixOf neg m e
      let n := x / 2 ^ fixBits
      let f := x % 2 ^ fixBits
      if f = 0 then (.fin false 1 n, 0) else (inexactNum false (expFix (f * ln2Fix / 2 ^ fixBits)) n, 0)

/-- log2 x: x = 2^k y with y between √½ and √2; the exact zero of x = 1 is −0 under RDN (08 R168). -/
def log2Num (mode : Mode) (a : Num) : Flagged Num :=
  match a with
  | .nan s => (.nan false, if s then FFlag.nv else 0)
  | .inf neg => if neg then (.nan false, FFlag.nv) else (.inf false, 0)
  | .fin neg m e =>
    if m = 0 then (.inf true, FFlag.dz)
    else if neg then (.nan false, FFlag.nv)
    else
      let l := Nat.log2 m
      if m = 2 ^ l then (if e + l = 0 then .fin (decide (mode = .rdn)) 0 0 else Num.ofInt (e + l), 0)
      else
        let y : Int := ((m <<< fixBits) >>> l : Nat)
        let (y, k) : Int × Int := if 2 * 2 ^ (2 * fixBits) < y * y then (y / 2, e + l + 1) else (y, e + l)
        let z := (y - 2 ^ fixBits) * 2 ^ fixBits / (y + 2 ^ fixBits)
        let v := k * 2 ^ fixBits + atanh2 z * 2 ^ fixBits / ln2Fix
        (inexactNum (decide (v < 0)) v 0, 0)

/-- tanh x: just below x for a small x, just below 1 for a large one, else (E − 1)/(E + 1) with E = e^(2x). -/
def tanhNum (a : Num) : Flagged Num :=
  match a with
  | .nan s => (.nan false, if s then FFlag.nv else 0)
  | .inf neg => (.fin neg 1 0, 0)
  | .fin neg m e =>
    if m = 0 then (.fin neg 0 0, 0)
    else if e + Nat.log2 m < -20 then (.fin neg ((m <<< 64) - 1) (e - 64), 0)
    else if 5 < e + Nat.log2 m then (.fin neg (2 ^ 64 - 1) (-64), 0)
    else
      let y := fixOf false m (e + 1)
      let n := y / ln2Fix
      let x := expFix (y - n * ln2Fix) * 2 ^ n.toNat
      (inexactNum neg ((x - 2 ^ fixBits) * 2 ^ fixBits / (x + 2 ^ fixBits)) 0, 0)

/-- A special function of the elements. -/
def vspecial (lat : Nat) (d a : BitVec 6) (g : Num → Flagged Num) : State → Core → SlotOut :=
  vf1 lat d a fun f m x => rounded f m (g (f.decode x))

/-- FRCP (08 R173). -/
def execFrcp (d a : BitVec 6) (s : State) : Host.Outcome State Fault Refusal :=
  issueSlot (.frcp d a) (vspecial 6 d a (divNum (.fin false 1 0))) s

/-- FRSQ (08 R173). -/
def execFrsq (d a : BitVec 6) (s : State) : Host.Outcome State Fault Refusal :=
  issueSlot (.frsq d a) (vspecial 6 d a rsqrtNum) s

/-- FSQRT (08 R173). -/
def execFsqrt (d a : BitVec 6) (s : State) : Host.Outcome State Fault Refusal :=
  issueSlot (.fsqrt d a) (vspecial 8 d a sqrtNum) s

/-- FEXP2 (08 R173). -/
def execFexp2 (d a : BitVec 6) (s : State) : Host.Outcome State Fault Refusal :=
  issueSlot (.fexp2 d a) (vspecial 6 d a exp2Num) s

/-- FLOG2 (08 R173). -/
def execFlog2 (d a : BitVec 6) (s : State) : Host.Outcome State Fault Refusal :=
  issueSlot (.flog2 d a) (vf1 6 d a fun f m x => rounded f m (log2Num m (f.decode x))) s

/-- FTANH (08 R173). -/
def execFtanh (d a : BitVec 6) (s : State) : Host.Outcome State Fault Refusal :=
  issueSlot (.ftanh d a) (vspecial 8 d a tanhNum) s

end Sys2Proof.Machine
end

