-- ==== Sys2Proof/Machine/Dispatch.lean ====
section
/-! DEFINITION. The dispatcher: one arm for each constructor of Instr. -/

namespace Sys2Proof.Machine

def exec (i : Instr) (s : State) : Host.Outcome State Fault Refusal :=
  match i with
  | .add d a b => Sys2Proof.Machine.execAdd d a b s
  | .sub d a b => Sys2Proof.Machine.execSub d a b s
  | .mul d a b => Sys2Proof.Machine.execMul d a b s
  | .mulh d a b => Sys2Proof.Machine.execMulh d a b s
  | .mulhu d a b => Sys2Proof.Machine.execMulhu d a b s
  | .div d a b => Sys2Proof.Machine.execDiv d a b s
  | .divu d a b => Sys2Proof.Machine.execDivu d a b s
  | .rem d a b => Sys2Proof.Machine.execRem d a b s
  | .remu d a b => Sys2Proof.Machine.execRemu d a b s
  | .and d a b => Sys2Proof.Machine.execAnd d a b s
  | .or d a b => Sys2Proof.Machine.execOr d a b s
  | .xor d a b => Sys2Proof.Machine.execXor d a b s
  | .andn d a b => Sys2Proof.Machine.execAndn d a b s
  | .shl d a b => Sys2Proof.Machine.execShl d a b s
  | .shr d a b => Sys2Proof.Machine.execShr d a b s
  | .sra d a b => Sys2Proof.Machine.execSra d a b s
  | .rotl d a b => Sys2Proof.Machine.execRotl d a b s
  | .min d a b => Sys2Proof.Machine.execMin d a b s
  | .max d a b => Sys2Proof.Machine.execMax d a b s
  | .minu d a b => Sys2Proof.Machine.execMinu d a b s
  | .maxu d a b => Sys2Proof.Machine.execMaxu d a b s
  | .clz d a => Sys2Proof.Machine.execClz d a s
  | .ctz d a => Sys2Proof.Machine.execCtz d a s
  | .popc d a => Sys2Proof.Machine.execPopc d a s
  | .sext d a n => Sys2Proof.Machine.execSext d a n s
  | .zext d a n => Sys2Proof.Machine.execZext d a n s
  | .addi d a imm => Sys2Proof.Machine.execAddi d a imm s
  | .andi d a imm => Sys2Proof.Machine.execAndi d a imm s
  | .ori d a imm => Sys2Proof.Machine.execOri d a imm s
  | .shli d a imm => Sys2Proof.Machine.execShli d a imm s
  | .shri d a imm => Sys2Proof.Machine.execShri d a imm s
  | .srai d a imm => Sys2Proof.Machine.execSrai d a imm s
  | .movi d imm => Sys2Proof.Machine.execMovi d imm s
  | .movhi d imm => Sys2Proof.Machine.execMovhi d imm s
  | .sel q d a b => Sys2Proof.Machine.execSel q d a b s
  | .cmp r c a b => Sys2Proof.Machine.execCmp r c a b s
  | .cmpi r c a imm => Sys2Proof.Machine.execCmpi r c a imm s
  | .lds d a imm => Sys2Proof.Machine.execLds d a imm s
  | .sts d a imm => Sys2Proof.Machine.execSts d a imm s
  | .br imm => Sys2Proof.Machine.execBr imm s
  | .bri a => Sys2Proof.Machine.execBri a s
  | .call imm => Sys2Proof.Machine.execCall imm s
  | .launch a => Sys2Proof.Machine.execLaunch a s
  | .park a b => Sys2Proof.Machine.execPark a b s
  | .trap imm => Sys2Proof.Machine.execTrap imm s
  | .csrr d imm => Sys2Proof.Machine.execCsrr d imm s
  | .csrw d imm => Sys2Proof.Machine.execCsrw d imm s
  | .csrs d imm => Sys2Proof.Machine.execCsrs d imm s
  | .edw d a w => Sys2Proof.Machine.execEdw d a w s
  | .edld d a imm => Sys2Proof.Machine.execEdld d a imm s
  | .seg imm => Sys2Proof.Machine.execSeg imm s
  | .rdv imm => Sys2Proof.Machine.execRdv imm s
  | .faddV0 d a b => Sys2Proof.Machine.execFaddV0 d a b s
  | .faddV1 d a b => Sys2Proof.Machine.execFaddV1 d a b s
  | .fsubV0 d a b => Sys2Proof.Machine.execFsubV0 d a b s
  | .fsubV1 d a b => Sys2Proof.Machine.execFsubV1 d a b s
  | .fmulV0 d a b => Sys2Proof.Machine.execFmulV0 d a b s
  | .fmulV1 d a b => Sys2Proof.Machine.execFmulV1 d a b s
  | .fmaV0 d a b => Sys2Proof.Machine.execFmaV0 d a b s
  | .fmaV1 d a b => Sys2Proof.Machine.execFmaV1 d a b s
  | .fmsV0 d a b => Sys2Proof.Machine.execFmsV0 d a b s
  | .fmsV1 d a b => Sys2Proof.Machine.execFmsV1 d a b s
  | .fminV0 d a b => Sys2Proof.Machine.execFminV0 d a b s
  | .fminV1 d a b => Sys2Proof.Machine.execFminV1 d a b s
  | .fmaxV0 d a b => Sys2Proof.Machine.execFmaxV0 d a b s
  | .fmaxV1 d a b => Sys2Proof.Machine.execFmaxV1 d a b s
  | .fabsV0 d a => Sys2Proof.Machine.execFabsV0 d a s
  | .fabsV1 d a => Sys2Proof.Machine.execFabsV1 d a s
  | .fnegV0 d a => Sys2Proof.Machine.execFnegV0 d a s
  | .fnegV1 d a => Sys2Proof.Machine.execFnegV1 d a s
  | .fcpysV0 d a b => Sys2Proof.Machine.execFcpysV0 d a b s
  | .fcpysV1 d a b => Sys2Proof.Machine.execFcpysV1 d a b s
  | .fcmpV0 m c a b => Sys2Proof.Machine.execFcmpV0 m c a b s
  | .fcmpV1 m c a b => Sys2Proof.Machine.execFcmpV1 m c a b s
  | .iaddV0 d a b => Sys2Proof.Machine.execIaddV0 d a b s
  | .iaddV1 d a b => Sys2Proof.Machine.execIaddV1 d a b s
  | .isubV0 d a b => Sys2Proof.Machine.execIsubV0 d a b s
  | .isubV1 d a b => Sys2Proof.Machine.execIsubV1 d a b s
  | .imulV0 d a b => Sys2Proof.Machine.execImulV0 d a b s
  | .imulV1 d a b => Sys2Proof.Machine.execImulV1 d a b s
  | .imadV0 d a b => Sys2Proof.Machine.execImadV0 d a b s
  | .imadV1 d a b => Sys2Proof.Machine.execImadV1 d a b s
  | .iaddwV0 d a b => Sys2Proof.Machine.execIaddwV0 d a b s
  | .iaddwV1 d a b => Sys2Proof.Machine.execIaddwV1 d a b s
  | .imadwV0 d a b => Sys2Proof.Machine.execImadwV0 d a b s
  | .imadwV1 d a b => Sys2Proof.Machine.execImadwV1 d a b s
  | .iminV0 d a b => Sys2Proof.Machine.execIminV0 d a b s
  | .iminV1 d a b => Sys2Proof.Machine.execIminV1 d a b s
  | .imaxV0 d a b => Sys2Proof.Machine.execImaxV0 d a b s
  | .imaxV1 d a b => Sys2Proof.Machine.execImaxV1 d a b s
  | .iabsV0 d a => Sys2Proof.Machine.execIabsV0 d a s
  | .iabsV1 d a => Sys2Proof.Machine.execIabsV1 d a s
  | .andV0 d a b => Sys2Proof.Machine.execAndV0 d a b s
  | .andV1 d a b => Sys2Proof.Machine.execAndV1 d a b s
  | .orV0 d a b => Sys2Proof.Machine.execOrV0 d a b s
  | .orV1 d a b => Sys2Proof.Machine.execOrV1 d a b s
  | .xorV0 d a b => Sys2Proof.Machine.execXorV0 d a b s
  | .xorV1 d a b => Sys2Proof.Machine.execXorV1 d a b s
  | .shlV0 d a b => Sys2Proof.Machine.execShlV0 d a b s
  | .shlV1 d a b => Sys2Proof.Machine.execShlV1 d a b s
  | .shrV0 d a b => Sys2Proof.Machine.execShrV0 d a b s
  | .shrV1 d a b => Sys2Proof.Machine.execShrV1 d a b s
  | .sraV0 d a b => Sys2Proof.Machine.execSraV0 d a b s
  | .sraV1 d a b => Sys2Proof.Machine.execSraV1 d a b s
  | .icmpV0 m c a b => Sys2Proof.Machine.execIcmpV0 m c a b s
  | .icmpV1 m c a b => Sys2Proof.Machine.execIcmpV1 m c a b s
  | .cvtV0 d a f n => Sys2Proof.Machine.execCvtV0 d a f n s
  | .cvtV1 d a f n => Sys2Proof.Machine.execCvtV1 d a f n s
  | .cvtnV0 d a f n => Sys2Proof.Machine.execCvtnV0 d a f n s
  | .cvtnV1 d a f n => Sys2Proof.Machine.execCvtnV1 d a f n s
  | .unpklV0 d a b => Sys2Proof.Machine.execUnpklV0 d a b s
  | .unpklV1 d a b => Sys2Proof.Machine.execUnpklV1 d a b s
  | .unpkhV0 d a b => Sys2Proof.Machine.execUnpkhV0 d a b s
  | .unpkhV1 d a b => Sys2Proof.Machine.execUnpkhV1 d a b s
  | .packV0 d a b => Sys2Proof.Machine.execPackV0 d a b s
  | .packV1 d a b => Sys2Proof.Machine.execPackV1 d a b s
  | .setfmtV0 d a f => Sys2Proof.Machine.execSetfmtV0 d a f s
  | .setfmtV1 d a f => Sys2Proof.Machine.execSetfmtV1 d a f s
  | .vmovV0 d a => Sys2Proof.Machine.execVmovV0 d a s
  | .vmovV1 d a => Sys2Proof.Machine.execVmovV1 d a s
  | .vmoviV0 d imm => Sys2Proof.Machine.execVmoviV0 d imm s
  | .vmoviV1 d imm => Sys2Proof.Machine.execVmoviV1 d imm s
  | .vbcstV0 d a b => Sys2Proof.Machine.execVbcstV0 d a b s
  | .vbcstV1 d a b => Sys2Proof.Machine.execVbcstV1 d a b s
  | .vextV0 d a b => Sys2Proof.Machine.execVextV0 d a b s
  | .vextV1 d a b => Sys2Proof.Machine.execVextV1 d a b s
  | .vselV0 m d a b => Sys2Proof.Machine.execVselV0 m d a b s
  | .vselV1 m d a b => Sys2Proof.Machine.execVselV1 m d a b s
  | .vpermV0 d a b => Sys2Proof.Machine.execVpermV0 d a b s
  | .vpermV1 d a b => Sys2Proof.Machine.execVpermV1 d a b s
  | .vrotV0 d a n => Sys2Proof.Machine.execVrotV0 d a n s
  | .vrotV1 d a n => Sys2Proof.Machine.execVrotV1 d a n s
  | .xclV0 d a n => Sys2Proof.Machine.execXclV0 d a n s
  | .xclV1 d a n => Sys2Proof.Machine.execXclV1 d a n s
  | .xclbV0 d a n => Sys2Proof.Machine.execXclbV0 d a n s
  | .xclbV1 d a n => Sys2Proof.Machine.execXclbV1 d a n s
  | .vscanV0 d a x e o => Sys2Proof.Machine.execVscanV0 d a x e o s
  | .vscanV1 d a x e o => Sys2Proof.Machine.execVscanV1 d a x e o s
  | .vredV0 d a e o => Sys2Proof.Machine.execVredV0 d a e o s
  | .vredV1 d a e o => Sys2Proof.Machine.execVredV1 d a e o s
  | .vst d a imm => Sys2Proof.Machine.execVst d a imm s
  | .vsts d a x => Sys2Proof.Machine.execVsts d a x s
  | .vstx d a x => Sys2Proof.Machine.execVstx d a x s
  | .vlds d a x f => Sys2Proof.Machine.execVlds d a x f s
  | .vldx d a x f => Sys2Proof.Machine.execVldx d a x f s
  | .vldb d a x f => Sys2Proof.Machine.execVldb d a x f s
  | .vldInt32 d a imm => Sys2Proof.Machine.execVldInt32 d a imm s
  | .vldUint32 d a imm => Sys2Proof.Machine.execVldUint32 d a imm s
  | .vldFp32 d a imm => Sys2Proof.Machine.execVldFp32 d a imm s
  | .vldInt16 d a imm => Sys2Proof.Machine.execVldInt16 d a imm s
  | .vldUint16 d a imm => Sys2Proof.Machine.execVldUint16 d a imm s
  | .vldFp16 d a imm => Sys2Proof.Machine.execVldFp16 d a imm s
  | .vldBf16 d a imm => Sys2Proof.Machine.execVldBf16 d a imm s
  | .vldInt8 d a imm => Sys2Proof.Machine.execVldInt8 d a imm s
  | .vldUint8 d a imm => Sys2Proof.Machine.execVldUint8 d a imm s
  | .vldE4m3 d a imm => Sys2Proof.Machine.execVldE4m3 d a imm s
  | .vldE5m2 d a imm => Sys2Proof.Machine.execVldE5m2 d a imm s
  | .vldE8m0 d a imm => Sys2Proof.Machine.execVldE8m0 d a imm s
  | .mkand d a b => Sys2Proof.Machine.execMkand d a b s
  | .mkor d a b => Sys2Proof.Machine.execMkor d a b s
  | .mknot d a => Sys2Proof.Machine.execMknot d a s
  | .frcp d a => Sys2Proof.Machine.execFrcp d a s
  | .frsq d a => Sys2Proof.Machine.execFrsq d a s
  | .fsqrt d a => Sys2Proof.Machine.execFsqrt d a s
  | .fexp2 d a => Sys2Proof.Machine.execFexp2 d a s
  | .flog2 d a => Sys2Proof.Machine.execFlog2 d a s
  | .ftanh d a => Sys2Proof.Machine.execFtanh d a s
  | .mldw k x y z e => Sys2Proof.Machine.execMldw k x y z e s
  | .mswap k x y z => Sys2Proof.Machine.execMswap k x y z s
  | .mmul k x y z e => Sys2Proof.Machine.execMmul k x y z e s
  | .mmuls k x y z e => Sys2Proof.Machine.execMmuls k x y z e s
  | .mbagAcc k x y z e => Sys2Proof.Machine.execMbagAcc k x y z e s
  | .mbagSteer k x y z e => Sys2Proof.Machine.execMbagSteer k x y z e s
  | .mzero k x y z e => Sys2Proof.Machine.execMzero k x y z e s
  | .manch k x y z e => Sys2Proof.Machine.execManch k x y z e s
  | .mrd k x y z e => Sys2Proof.Machine.execMrd k x y z e s
  | .mst k x y z e => Sys2Proof.Machine.execMst k x y z e s
  | .maddv k x y z e => Sys2Proof.Machine.execMaddv k x y z e s
  | .mstat k x y z e => Sys2Proof.Machine.execMstat k x y z e s
  | .mtrl k x y z e => Sys2Proof.Machine.execMtrl k x y z e s
  | .mldt k x y z e => Sys2Proof.Machine.execMldt k x y z e s
  | .mstt k x y z e => Sys2Proof.Machine.execMstt k x y z e s
  | .mcode k x y z e => Sys2Proof.Machine.execMcode k x y z e s
  | .cpy k x y z e => Sys2Proof.Machine.execCpy k x y z e s
  | .cpym k x y z e => Sys2Proof.Machine.execCpym k x y z e s
  | .gath k x y z e => Sys2Proof.Machine.execGath k x y z e s
  | .scat k x y z e => Sys2Proof.Machine.execScat k x y z e s
  | .fill k x y z e => Sys2Proof.Machine.execFill k x y z e s
  | .bulk k x y z e => Sys2Proof.Machine.execBulk k x y z e s
  | .au d a b => Sys2Proof.Machine.execAu d a b s
  | .aui d imm => Sys2Proof.Machine.execAui d imm s
  | .amov d a => Sys2Proof.Machine.execAmov d a s
  | .aget d a => Sys2Proof.Machine.execAget d a s
  | .loop l c b n => Sys2Proof.Machine.execLoop l c b n s
  | .lstep a l s0 => Sys2Proof.Machine.execLstep a l s0 s
  | .pand d a b => Sys2Proof.Machine.execPand d a b s
  | .por d a b => Sys2Proof.Machine.execPor d a b s
  | .pxor d a b => Sys2Proof.Machine.execPxor d a b s
  | .pnot d a => Sys2Proof.Machine.execPnot d a s
  | .pmov d a => Sys2Proof.Machine.execPmov d a s
  | .pset d v => Sys2Proof.Machine.execPset d v s
  | .stage l imm => Sys2Proof.Machine.execStage l imm s
  | .kclr k => Sys2Proof.Machine.execKclr k s
  | .probe r d a => Sys2Proof.Machine.execProbe r d a s
  | .probei r d a => Sys2Proof.Machine.execProbei r d a s
  | .pwb a => Sys2Proof.Machine.execPwb a s
  | .pinv a => Sys2Proof.Machine.execPinv a s
  | .ppin a n => Sys2Proof.Machine.execPpin a n s
  | .ldg l d a o z => Sys2Proof.Machine.execLdg l d a o z s
  | .ldgi d a o z => Sys2Proof.Machine.execLdgi d a o z s
  | .ldgv d a o z => Sys2Proof.Machine.execLdgv d a o z s
  | .stg l d a o z => Sys2Proof.Machine.execStg l d a o z s
  | .stgv d a o z => Sys2Proof.Machine.execStgv d a o z s
  | .lda d a z => Sys2Proof.Machine.execLda d a z s
  | .stl d a o z => Sys2Proof.Machine.execStl d a o z s
  | .aadd d a w c z => Sys2Proof.Machine.execAadd d a w c z s
  | .aaddf d a w c z => Sys2Proof.Machine.execAaddf d a w c z s
  | .aaddqFp32 d a w c q => Sys2Proof.Machine.execAaddqFp32 d a w c q s
  | .aaddqBf16 d a w c q => Sys2Proof.Machine.execAaddqBf16 d a w c q s
  | .aaddqFp16 d a w c q => Sys2Proof.Machine.execAaddqFp16 d a w c q s
  | .amin d a w c z => Sys2Proof.Machine.execAmin d a w c z s
  | .amax d a w c z => Sys2Proof.Machine.execAmax d a w c z s
  | .aand d a w c z => Sys2Proof.Machine.execAand d a w c z s
  | .aor d a w c z => Sys2Proof.Machine.execAor d a w c z s
  | .axor d a w c z => Sys2Proof.Machine.execAxor d a w c z s
  | .axch d a w c z => Sys2Proof.Machine.execAxch d a w c z s
  | .acas d a w c z => Sys2Proof.Machine.execAcas d a w c z s
  | .drain c => Sys2Proof.Machine.execDrain c s
  | .bfence a s0 => Sys2Proof.Machine.execBfence a s0 s
  | .twait x y z => Sys2Proof.Machine.execTwait x y z s
  | .bwait a p s0 => Sys2Proof.Machine.execBwait a p s0 s
  | .badd c a p s0 => Sys2Proof.Machine.execBadd c a p s0 s
  | .phase a => Sys2Proof.Machine.execPhase a s
  | .rpkX k x y z e => Sys2Proof.Machine.execRpkX k x y z e s
  | .rpkF k x y z e => Sys2Proof.Machine.execRpkF k x y z e s
  | .bankld k x y z e => Sys2Proof.Machine.execBankld k x y z e s
  | .bankgo k x y z e => Sys2Proof.Machine.execBankgo k x y z e s
  | .uopRdc a o f => Sys2Proof.Machine.execUopRdc a o f s
  | .uopWrc a o f => Sys2Proof.Machine.execUopWrc a o f s
  | .uopMac d a k => Sys2Proof.Machine.execUopMac d a k s
  | .uopAdd d a => Sys2Proof.Machine.execUopAdd d a s
  | .uopScl d a k => Sys2Proof.Machine.execUopScl d a k s
  | .uopNcol n => Sys2Proof.Machine.execUopNcol n s
  | .uopLoopc n => Sys2Proof.Machine.execUopLoopc n s
  | .nop => Sys2Proof.Machine.execNop s
  | .ret => Sys2Proof.Machine.execRet s
  | .halt => Sys2Proof.Machine.execHalt s
  | .eret => Sys2Proof.Machine.execEret s
  | .phwait => Sys2Proof.Machine.execPhwait s
  | .uopEnd => Sys2Proof.Machine.execUopEnd s
  | .uopAct => Sys2Proof.Machine.execUopAct s
  | .uopRowend => Sys2Proof.Machine.execUopRowend s
  | .uopWaits => Sys2Proof.Machine.execUopWaits s
  | .ownCompareAndSwap => Sys2Proof.Machine.execOwnCompareAndSwap s
  | .handoffWrite => Sys2Proof.Machine.execHandoffWrite s
  | .ptabWrite => Sys2Proof.Machine.execPtabWrite s
  | .partitionChangeStep => Sys2Proof.Machine.execPartitionChangeStep s
  | .pceilWrite => Sys2Proof.Machine.execPceilWrite s
  | .windowEntryWrite => Sys2Proof.Machine.execWindowEntryWrite s
  | .streamWrite => Sys2Proof.Machine.execStreamWrite s
  | .controlWindowWrite => Sys2Proof.Machine.execControlWindowWrite s
  | .recordClear => Sys2Proof.Machine.execRecordClear s
  | .packagePowerOn => Sys2Proof.Machine.execPackagePowerOn s
  | .bringUpStepDone => Sys2Proof.Machine.execBringUpStepDone s
  | .epochBoundary => Sys2Proof.Machine.execEpochBoundary s
  | .budgetInterval => Sys2Proof.Machine.execBudgetInterval s
  | .sensorRead => Sys2Proof.Machine.execSensorRead s
  | .coolantLoss => Sys2Proof.Machine.execCoolantLoss s
  | .railOutOfRange => Sys2Proof.Machine.execRailOutOfRange s
  | .readinessRequest => Sys2Proof.Machine.execReadinessRequest s
  | .waitNodeRead => Sys2Proof.Machine.execWaitNodeRead s
  | .bulkNodeComplete => Sys2Proof.Machine.execBulkNodeComplete s
  | .signalNodeComplete => Sys2Proof.Machine.execSignalNodeComplete s
  | .submissionStart => Sys2Proof.Machine.execSubmissionStart s
  | .submissionEnd => Sys2Proof.Machine.execSubmissionEnd s
  | .launchRequestSend => Sys2Proof.Machine.execLaunchRequestSend s
  | .slotRecordWrite => Sys2Proof.Machine.execSlotRecordWrite s
  | .dispatchBind => Sys2Proof.Machine.execDispatchBind s
  | .displace => Sys2Proof.Machine.execDisplace s
  | .ageAlarm => Sys2Proof.Machine.execAgeAlarm s
  | .sliceExpiry => Sys2Proof.Machine.execSliceExpiry s
  | .preemption => Sys2Proof.Machine.execPreemption s
  | .contextSaveComplete => Sys2Proof.Machine.execContextSaveComplete s
  | .taskParked => Sys2Proof.Machine.execTaskParked s
  | .parkBeaconMet => Sys2Proof.Machine.execParkBeaconMet s
  | .taskRetire => Sys2Proof.Machine.execTaskRetire s
  | .cpWatchdog => Sys2Proof.Machine.execCpWatchdog s
  | .schWatchdog => Sys2Proof.Machine.execSchWatchdog s
  | .firmwareRestartDone => Sys2Proof.Machine.execFirmwareRestartDone s
  | .pipelineWriteback => Sys2Proof.Machine.execPipelineWriteback s
  | .landingArrival => Sys2Proof.Machine.execLandingArrival s
  | .landingWrite => Sys2Proof.Machine.execLandingWrite s
  | .freezeTimeout => Sys2Proof.Machine.execFreezeTimeout s
  | .waitPark => Sys2Proof.Machine.execWaitPark s
  | .beaconPoll => Sys2Proof.Machine.execBeaconPoll s
  | .engineComplete => Sys2Proof.Machine.execEngineComplete s
  | .mOperationComplete => Sys2Proof.Machine.execMOperationComplete s
  | .gatherRowLand => Sys2Proof.Machine.execGatherRowLand s
  | .bagRowStream => Sys2Proof.Machine.execBagRowStream s
  | .cacheFillComplete => Sys2Proof.Machine.execCacheFillComplete s
  | .atomicHomeApply => Sys2Proof.Machine.execAtomicHomeApply s
  | .bankgoBeqRelease => Sys2Proof.Machine.execBankgoBeqRelease s
  | .rpkRoundCombine => Sys2Proof.Machine.execRpkRoundCombine s
  | .roundTimeout => Sys2Proof.Machine.execRoundTimeout s
  | .ordinaryRequest => Sys2Proof.Machine.execOrdinaryRequest s
  | .controllerCycle => Sys2Proof.Machine.execControllerCycle s
  | .requestAged => Sys2Proof.Machine.execRequestAged s
  | .refreshDue => Sys2Proof.Machine.execRefreshDue s
  | .bdcHeartbeat => Sys2Proof.Machine.execBdcHeartbeat s
  | .refreshTakeover => Sys2Proof.Machine.execRefreshTakeover s
  | .refreshHandback => Sys2Proof.Machine.execRefreshHandback s
  | .bankHoldTimeout => Sys2Proof.Machine.execBankHoldTimeout s
  | .bankldApply => Sys2Proof.Machine.execBankldApply s
  | .bankProgramStart => Sys2Proof.Machine.execBankProgramStart s
  | .actAdmit => Sys2Proof.Machine.execActAdmit s
  | .arbitrationWindow => Sys2Proof.Machine.execArbitrationWindow s
  | .waitsRelease => Sys2Proof.Machine.execWaitsRelease s
  | .bankProgramStop => Sys2Proof.Machine.execBankProgramStop s
  | .pageRetirement => Sys2Proof.Machine.execPageRetirement s
  | .pageMoveLine => Sys2Proof.Machine.execPageMoveLine s
  | .pageMoveSwitch => Sys2Proof.Machine.execPageMoveSwitch s
  | .flitReceive => Sys2Proof.Machine.execFlitReceive s
  | .portRetrain => Sys2Proof.Machine.execPortRetrain s
  | .fabricRequestTimeout => Sys2Proof.Machine.execFabricRequestTimeout s
  | .vcStopGo => Sys2Proof.Machine.execVcStopGo s
  | .ownerTimeout => Sys2Proof.Machine.execOwnerTimeout s
  | .bulkheadReset => Sys2Proof.Machine.execBulkheadReset s
  | .segmentCommit => Sys2Proof.Machine.execSegmentCommit s
  | .rewind => Sys2Proof.Machine.execRewind s
  | .rerunStart => Sys2Proof.Machine.execRerunStart s
  | .walkComplete => Sys2Proof.Machine.execWalkComplete s
  | .scoreboardEntryRetire => Sys2Proof.Machine.execScoreboardEntryRetire s
  | .bfenceMarker => Sys2Proof.Machine.execBfenceMarker s

end Sys2Proof.Machine
end

