-- ==== Sys2Proof/Machine/HwErrors.lean ====
section
/-! DEFINITION. Hardware errors that the surroundings bring about: what each does, and its record (17 R335-R337, 19 R372, R374, 20 R378, R385, R391). -/

namespace Sys2Proof.Machine

/-- The core whose records and pool an error at a core concerns: in protected mode the leading one (17 R326). -/
def State.leadOf (s : State) (c : BitVec 8) : BitVec 8 := match s.taskAt c with
  | some (l, _) => l
  | none => c

/-- What an error does to a core; of the trailing core of a pair, to its own copy (19 R362). -/
def State.strike (s : State) (c : BitVec 8) (f : Core → Core) : State :=
  let l := s.leadOf c
  if l = c then s.updCore c f else { s with twins := mapUpd none s.twins l.toNat fun k => k.map f }

/-- A bit error in a scratchpad: corrected, or its granule is poisoned. -/
def State.sramError (s : State) (c : BitVec 8) (off : Nat) (double : Bool) : State :=
  if double then
    (s.strike c fun k => { k with pool := { k.pool with psn := mapSet false k.pool.psn (off / 8) true } }).coreError (s.leadOf c) 0
      { cls := 2, code := 0x0102, atype := 3, addr := off }
  else s.coreError (s.leadOf c) 0 { cls := 1, code := 0x0101, atype := 3, addr := off }

/-- A register, a landing entry or an item of the pool is left poisoned, where its file and number name one. -/
def Core.spoil (c : Core) (file idx gran : Nat) : Core :=
  if (file = 0 ∧ idx = 0) ∨ (file = 2 ∧ idx < 2) ∨ (file = 7 ∧ idx = 0) then c
  else if file ≤ 9 then { c with ctx := { c.ctx with bad := (file, idx, gran) :: c.ctx.bad } }
  else if file = 10 then { c with land := c.land.mapIdx fun i l => if i = idx then { l with psn := true } else l }
  else { c with pool := { c.pool with bad := (file - 16, idx) :: c.pool.bad } }

/-- A bit error in a register file or an array of the pool: corrected; or the register or item is left poisoned (17 R337).  An array that the model
gives no poison of its own, of the cache, the sequencer or an engine, has its lost value consumed at once (log 38). -/
def State.arrayError (s : State) (c : BitVec 8) (unit : Nat) (double : Bool) (file idx gran : Nat) : State :=
  let l := s.leadOf c
  if double then
    let s := s.coreError l unit { cls := 2, code := 0x0102, atype := 5, addr := c.toNat }
    if file ≤ 10 ∨ (16 ≤ file ∧ file ≤ 20) then s.strike c fun k => k.spoil file idx gran else s.consume l unit 5 c.toNat
  else s.coreError l unit { cls := 1, code := 0x0101, atype := 5, addr := c.toNat }

/-- The record of a bulkhead's mesh routers, or of its fabric gate (17 R326); memory and link bulkheads have no record of routers. -/
def meshRecord (b : Nat) (gate : Bool) : Nat := if b < 16 then (if gate then 67 else 64) else if b < 24 then 194 else 5

/-- A flit check fails: the data that a request carries, a flit of the data that an operation moves, or the packet that it has sent, is poison; or, on a header, the bulkhead is
reset (17 R336, R337). -/
def State.meshError (s : State) (b : Nat) (gate header : Bool) (c : BitVec 8) (id flit : Nat) : State :=
  let strike (k : Core) : Core := (k.updReq id fun r => { r with psn := true }).updOp id fun o => { o with psn := flit :: o.psn }
  if header then (s.logError b (meshRecord b gate) { cls := 3, code := 0x0202 }).smcReset b
  else
    let s : State := { s with
      rounds := s.rounds.map fun r => if r.b.toNat ≠ cbOf c then r else
        { r with sent := r.sent.map fun p => if p.core.toNat = localOf c ∧ p.op = id then { p with psn := true } else p } }
    (s.updCore c strike).logError b (meshRecord b gate) { cls := 2, code := 0x0201 }

/-- A row's counter goes bad (20 R378). -/
def State.counterError (s : State) (k pc bank row : Nat) : State := s.updChan k pc fun p => { p with chkBad := mapSet false p.chkBad (rowKey bank row) true }

/-- A memory error of a bank engine: corrected; a lane marked; or the micro-op store or a scalar lost, which stops the program and kills its task. -/
def State.engineError (s : State) (k pc bank acc lane kind : Nat) : State :=
  let report (s : State) (cls code : Nat) : State := s.logError (stackBank k) pc { cls := cls, code := code }
  if kind = 0 then report s 1 0x0701
  else if kind = 1 then
    (report s 2 0x0702).updBankAt k pc bank fun b => { b with bad := mapSet false b.bad (8 * acc + lane) true }
  else
    let s := (report s 3 0x0703).updChan k pc fun p => { p with lost := true, prog := p.prog.map fun g => { g with stopping := true } }
    match (s.chan k pc).prog with
    | some g => (s.stopBanks k pc).killLaunch g.launch 0x0703
    | none => s

/-- A bit of a window accumulator's VAL is upset; its residue finds it (19 R372). -/
def Core.upset (c : Core) (row col bit : Nat) : Core :=
  { c with
    pool := { c.pool with
      win := mapUpd Init.window c.pool.win (128 * row + col) fun w => { w with val := w.val ^^^ BitVec.twoPow 184 bit } } }

/-- SYND of operands that differ: the atomic's bundle opened the segment, and none was issued before it (19 R365, R374). -/
def operandSynd (g : Segment) (sig : BitVec 16) : Nat := segSynd { g with bad := 1, badAt := 0, sigx := sig }

/-- Whether an atomic of the open segment has left. -/
def Core.atomSent (c : Core) : Bool := c.seg.atoms.any fun a => a.2.isSome || c.mq.any fun r => decide (r.id = a.1) && r.sent

/-- A hardware error. -/
def State.hwError (s : State) : HwError → State
  | .sram c off double => s.sramError c off double
  | .array c unit double file idx gran => s.arrayError c unit.toNat double file idx gran
  | .mesh b gate header c id flit => s.meshError b.toNat gate header c id flit
  | .column pa err => s.columnError (pa.toNat / 2 ^ 36) (chanOf (s.redirect pa.toNat % 2 ^ 36)) (pa.toNat / 32 * 32) err
  | .walker b =>
    { s with tlb := mapUpd [] s.tlb b.toNat fun l => l.drop 1 }.logError b.toNat 65 { cls := 1, code := 0x0501 }
  | .counter k pc bank row => if pc.toNat < 192 ∧ row ≤ 10922 then s.counterError k.toNat pc.toNat bank.toNat row else s
  | .engine k pc bank acc lane kind =>
    if pc.toNat < 192 ∧ acc < 8 ∧ lane < 8 then s.engineError k.toNat pc.toNat bank.toNat acc lane kind else s
  | .atomicOperands c =>
    let c := s.leadOf c
    if (s.core c).prot && (s.core c).atomSent then (s.pairRecord c 3 0x0804 (operandSynd (s.core c).seg (Config.sigXor s.nfree))).takeFree.killCore c 0x0804 else s
  | .window c row col bit =>
    if row < windowRows (s.core (s.leadOf c)).ctx.pw ∧ col < 128 ∧ bit < 184 then s.strike c fun k => k.upset row col bit else s
  | .unit b rec_ code => (s.logError b.toNat rec_ { cls := 3, code := code.toNat }).smcReset b.toNat

end Sys2Proof.Machine
end

