-- ==== Sys2Proof/Machine/Schedule.lean ====
section
/-! DEFINITION. The default turn, taken when no turn is listed (log 3). -/

namespace Sys2Proof.Machine

/-- Whether an instruction is an event: neither a slot instruction nor a micro-op. -/
def isEvent (i : Instr) : Bool := i.slotParts.isNone && (encodeUop { instr := i, target := 0 }).isNone

/-- The turns that are open to a powered machine when none is listed: an issue cycle of each running core. -/
def State.candidates (s : State) : List Turn :=
  s.cores.filterMap fun x => if x.2.run = .running ∧ x.2.cstate = 2 then some (.issue (BitVec.ofNat 8 x.1)) else none

/-- The default turn: power-on and bring-up first, and then, every nanosecond, the next of the candidates. -/
def State.defaultTurn (s : State) : Turn :=
  if !s.powered then .event .packagePowerOn { flag := true }
  else if !s.ctl.bootst.getLsbD 0 then .event .bringUpStepDone {}
  else
    let cs := s.candidates
    match cs[s.ns % cs.length]? with
    | some t => t
    | none => .time 0

end Sys2Proof.Machine
end

