-- ==== Sys2Proof/Machine/Step.lean ====
section
/-! DEFINITION. One step of the machine: the next turn is taken. -/

namespace Sys2Proof.Machine

/-- The slots of a bundle act in ascending PORT order; the last of them ends the issue cycle. -/
def runSlots : List Slot → State → Host.Outcome State Fault Refusal
  | [], s => .next s
  | sl :: rest, s =>
    match exec sl.instr (s.atSlot sl.hdr rest.length) with
    | .next t => runSlots rest t
    | .fault f => .fault f
    | .refused r => .refused r

/-- An issue cycle of core `c`: its M unit goes on by the cycle that ends (log 42), unless the next bundle is removed and takes none; and the next
bundle stands at issue. One that waits for a column of its fetch or of a walk issues nothing, and its cycle passes (07 R154; log 44). -/
def issueTurn (s : State) (c : BitVec 8) : Host.Outcome State Fault Refusal :=
  let u := s.coreCycle c
  let (t, slots) := u.beginIssue c
  match runSlots slots t with
  | .next t => .next (if t.blocked && !u.blocked then u.updCore c Core.stall else t)
  | .fault f => .fault f
  | .refused r => .refused r

/-- A micro-op of a bank. -/
def uopTurn (s : State) (k : BitVec 3) (pc : BitVec 8) (bank : BitVec 5) : Host.Outcome State Fault Refusal :=
  if 192 ≤ pc.toNat then .fault .noSuchChannel
  else
    match s.beginUop k pc bank with
    | (t, none) => .next t
    | (t, some u) => exec u.instr t

/-- A turn one of whose accesses must wait does not act (20 R383; log 44). -/
def held (s : State) : Host.Outcome State Fault Refusal → Host.Outcome State Fault Refusal
  | .next t => .next (if t.blocked then s else t)
  | .fault f => .fault f
  | .refused r => .refused r

/-- The columns that an event has used are spent: those of the core and the bulkheads that it names, and of the spine (log 44). -/
def State.spendEvent (s : State) (inp : Input) : State :=
  (((s.spend (coreKey inp.c)).spend (cbOf inp.c)).spend inp.b.toNat).spend spineCb

/-- What an event does, and what it has used. -/
def eventTurn (s : State) (i : Instr) (inp : Input) : Host.Outcome State Fault Refusal :=
  match exec i { s with inp := inp, blocked := false } with
  | .next t => .next (if t.blocked then t else t.spendEvent inp)
  | .fault f => .fault f
  | .refused r => .refused r

/-- What a turn does, trailing cores left aside.  An event turn that names no event does nothing. -/
def act (s : State) : Turn → Host.Outcome State Fault Refusal
  | .issue c => held s (issueTurn { s with blocked := false } c)
  | .uop k pc bank => held s (uopTurn { s with blocked := false } k pc bank)
  | .event i inp => if isEvent i then held s (eventTurn s i inp) else .next s
  | .error e => .next (s.hwError e)
  | .time n => .next (s.elapse n)
  | .traffic key a write code => .next (s.traffic key a write code)

/-- Whether a turn issues for a core. -/
def Turn.issues : Turn → Bool
  | .issue _ => true
  | _ => false

/-- Whether the trailing core of a pair goes through what a turn does to its leading core: an error strikes one of the two, unless it is in data on
its way to both (19 R362). -/
def Turn.shared : Turn → Bool
  | .error (.mesh _ _ _ _ _ _) => true
  | .error _ => false
  | _ => true

/-- A turn's effect on a state where it has one. -/
def actOn (x : Turn) (s : State) : State := match act s x with
  | .next t => t
  | _ => s

/-- A turn, with what it does to the trailing cores of pairs (19 R362). -/
def takeTurn (s : State) (x : Turn) : Host.Outcome State Fault Refusal :=
  match act s x with
  | .next t => .next (s.followed t x.issues fun u => if x.shared then actOn x u else u)
  | .fault f => .fault f
  | .refused r => .refused r

/-- One step: the first listed turn, or else the default turn, which takes a nanosecond (log 3). -/
def step (s : State) : Host.Outcome State Fault Refusal :=
  match s.turns with
  | t :: ts => takeTurn { s with turns := ts } t
  | [] => takeTurn (s.elapse 1) s.defaultTurn

/-! ## A program placed at the fetch (log 6) -/

namespace Place

/-- Entry of the program: a 16-byte-aligned virtual address. -/
def entry : Nat := 0x100000

/-- The four words of a bundle that holds `w` and NOPs on the lowest free ports, STOP in the last word. -/
def bundle (w : BitVec 32) : List (BitVec 32) :=
  let p := (w.extractLsb' 28 3).toNat
  let others := ((List.range 8).filter fun q => decide (q ≠ p)).take 3
  let ports := (others.filter fun q => decide (q < p)) ++ [p] ++ (others.filter fun q => decide (p < q))
  ports.mapIdx fun i q =>
    let base : BitVec 32 := if q = p then w &&& 0x7FFFFFFF else BitVec.ofNat 32 (q * 2 ^ 28)
    if i = 3 then base ||| 0x80000000 else base

/-- Page tables in stack 0 that map virtual 0 to 64 GiB onto the stack with RD, WR and EX: the directory entry of address space 0, the level 0
table and the level 1 leaf. -/
def tables (m : FMap Byte) : FMap Byte :=
  writeBytes (writeBytes (writeBytes m 0 8 0x40001) 0x40000 8 0x44001) 0x44000 8 0x1F

/-- The task that core 0 is bound to. -/
def binding : Binding :=
  { part := 0, node := 0x200000, memb := 0, cores := [0], bindseq := 1, asid := 0, rcb := 0x210000, rasid := 0, prio := 0, pcls := 0, prot := false
    save := false, kill := 0, slice := 0, savebase := 0x10000000, trees := 0, boundAt := 0, own := false, sliceOver := false, preempt := false }

/-- PARTW: NREG 8, NACC 8, NLAND 4, NCACHE 8. -/
def partw : BitVec 32 := 8 + 8 * 2 ^ 6 + 4 * 2 ^ 12 + 8 * 2 ^ 18

/-- The member's context at the entry. -/
def context : Ctx := { Init.ctx with id := { Init.ident with tgran := 1, vsx := 1, vsy := 1, vsz := 1, partw := partw }, pc := BitVec.ofNat 64 entry,
                                     rng := rngAll 0 0 0 }

/-- Core 0 bound to the task. -/
def core : Core :=
  { Init.core with
    cstate := 2, task := some binding, ctx := context
    got := [{ place := .stack (BitVec.ofNat 39 entry), write := false, code := true, lost := false }] }

/-- The core's cached translation of the program's page. -/
def cached : List Cached := [{ asid := 0, base := 0, size := 36, leaf := 0x1F }]

end Place

/-- An instruction placed where the next step fetches: a slot word in a bundle at the entry of a task that core 0 runs, or a micro-op that
bank 0 of pseudo-channel 0 of stack 0 runs next. -/
def State.withFetchWord (s : State) (nbits w : Nat) : State :=
  if nbits = 16 then
    let p := s.chan 0 0
    let b := { Init.bank with ended := false }
    let l : BankLaunch :=
      { core := 0, op := 0, go := true, part := 0, rasid := 0, rcb := 0, uops := [], scal := [], row0 := 0, nrow := 1, entry := 0, wr := true, chs := 0
        node := 0, tidx := 0, memb := 0, away := none }
    let p := { p with uops := mapSet 0 p.uops 0 (BitVec.ofNat 16 w), prog := some { launch := l, num := 0, stopping := false }, banks := [] }
    { (s.setChan 0 0 (p.setBank 0 b)) with turns := [.uop 0 0 0] }
  else
    let ws := Place.bundle (BitVec.ofNat 32 w)
    let x := ws.foldr (fun w acc => w.toNat + acc <<< 32) 0
    { (s.setCore 0 Place.core) with
        tlb := mapSet [] s.tlb (coreKey 0) Place.cached, mem := writeBytes (Place.tables s.mem) Place.entry 16 x, turns := [.issue 0] }

end Sys2Proof.Machine
end

