-- ==== Sys2Proof/Safety.lean ====
section
/-! DEFINITION. What counts as a safe run, in which every step answers a next state; and what claims say of one slot: when nothing keeps it from
taking effect, and the state in which its bundle then ends. -/

namespace Sys2Proof.Safety

open Sys2Proof.Machine

/-- A step from the state answers a next state. -/
def Steps (s : State) : Prop := ∃ t, step s = .next t

/-- A state is reached from another by steps. -/
inductive Reaches : State → State → Prop where
  | refl (s : State) : Reaches s s
  | step (s t u : State) (h : step s = .next t) (r : Reaches t u) : Reaches s u

/-- A run is safe when the machine steps on from every state it reaches. -/
def Safe (s : State) : Prop := ∀ t, Reaches s t → Steps t

end Sys2Proof.Safety

namespace Sys2Proof.Machine

/-! ## When a slot takes effect -/

/-- The bundle at hand is at its last slot, and nothing met so far keeps it from taking effect: no fault and no freeze of an earlier slot
(18 R346, 03 R60), no landing that is due or poisoned (03 R60, 17 R332), no deferred fault that waits (18 R350). -/
structure Core.Quiet (c : Core) : Prop where
  last : c.iss.rest = 0
  faultless : c.iss.fault = none
  unfrozen : c.iss.freezes = []
  apart : c.iss.rdv = false
  /-- The cycle is not one of the duty under PWRW, or of a change of frequency (02 R39, 01 R16). -/
  working : c.iss.duty = false
  /-- No acquiring atomic of the member waits to be applied, so that scratchpad accesses go on (11 R263; log 43). -/
  acquired : c.acquiring = false
  sound : walkPoisonOf c.iss.effects = none ∧ poisonOf c.iss.effects = none ∧ trapOf c.iss.effects = none
  /-- No register of the member holds poison (17 R332). -/
  healthy : c.ctx.bad = []
  /-- No gate has stopped a walk of the bundle (17 R333). -/
  passed : gateStopsOf c.iss.effects = []
  landings : ∀ l ∈ c.land, l.due = false ∧ l.psn = false
  deferred : c.ctx.deferred = []

/-- The bundle ends with the effects `es` of its last slot after those of its other slots. -/
def Core.issued (c : Core) (i : Instr) (es : List Effect) (rdv : Bool := false) : Core :=
  ({ c with iss := { c.iss with
      effects := c.iss.effects ++ es, guards := c.iss.guards ++ [c.ctx.getP c.iss.guard.toNat]
      predS := c.iss.predS ||| predDests c.ctx i, predD := c.iss.predD ||| predDests c.ctx i, rdv := rdv } } : Core).commit

/-- An open segment of a protected member goes on past the bundle (19 R365): it does not end already, and, unless the bundle is its first, `bnd`, which
says whether the slot is one before which a segment ends, is false, and the undo log and the hold buffer have room for what the bundle, with the
effects `es` of its last slot, puts into them. -/
def Core.SegmentGoesOn (c : Core) (i : Instr) (bnd : Bool) (es : List Effect) : Prop :=
  c.prot = true → c.seg.openSeg = true →
    c.seg.ending = false ∧ (c.seg.issued ≠ 0 →
      bnd = false ∧ c.iss.boundary = false ∧ c.ctx.segLeft ≠ 0
        ∧ (c.issued i es).seg.log.length ≤ logRoom c.ctx.pw ∧ (c.issued i es).seg.held ≤ holdRoom)

/-- Instruction `i`, in the slot at hand, takes effect: its fields are legal (18 R348), its guard reads true and is not pending (06 R116,
03 R71), no register it names, or reads through a descriptor (`more`), is pending (03 R71), no token it names is (03 R60), and its effects `es` leave
an open segment room. -/
structure State.Ready (s : State) (i : Instr) (bnd : Bool := false) (more : List Use := []) (es : List Effect := []) : Prop where
  quiet : (s.core s.cur).Quiet
  segment : (s.core s.cur).SegmentGoesOn i bnd es
  legal : i.wellFormed = true
  guard : isSelector i = false → (s.core s.cur).ctx.getP (s.core s.cur).iss.guard.toNat = true
  guardFree : isSelector i = false → (rd 2 (s.core s.cur).iss.guard).exempt = true ∨
    (s.core s.cur).pending 2 ((s.core s.cur).ctx.physP (s.core s.cur).iss.guard.toNat) = false
  free : ∀ u ∈ instrUses i ++ more, u.file ≠ 7 → u.exempt = false →
    (s.core s.cur).pending ((s.core s.cur).ctx.physUse u).1 ((s.core s.cur).ctx.physUse u).2 = false
  tokens : freezesOnTokens i = true → ∀ u ∈ instrUses i ++ more, u.file = 7 →
    (s.core s.cur).ctx.tokenDone ((s.core s.cur).ctx.physK u.num) = true

/-- The state in which the bundle has taken effect. -/
def State.issued (s : State) (i : Instr) (es : List Effect) : State := s.setCore s.cur ((s.core s.cur).issued i es)

end Sys2Proof.Machine
end

