-- ==== Sys2Proof/Certificates/Slice0/Obligations.lean ====
section
/-! DEFINITION. The statements about this machine that are to be proved. -/

open Sys2Proof Sys2Proof.Machine

namespace Sys2Proof.Claims

/-! ## Words the statements use -/

/-- The core whose bundle is in issue. -/
abbrev here (s : State) : Core := s.core s.cur

/-- The registers of that core, as a slot names them. -/
abbrev sreg (s : State) (n : BitVec 6) : BitVec 64 := (here s).ctx.getS n.toNat
abbrev vreg (s : State) (n : BitVec 6) : VReg := (here s).ctx.getV n.toNat
abbrev vtag (s : State) (n : BitVec 6) : Tag := (here s).ctx.getVTag n.toNat
abbrev preg (s : State) (n : BitVec 4) : Bool := (here s).ctx.getP n.toNat
abbrev areg (s : State) (n : BitVec 4) : AReg := (here s).ctx.getA n.toNat
abbrev mreg (s : State) (n : BitVec 3) : Mask := (here s).ctx.getMk n.toNat
abbrev ereg (s : State) (n : BitVec 6) : Desc := (here s).ctx.getE n.toNat

/-- A result for a register, written `lat` issue cycles after issue counting the issue cycle (03 R69), through the rotation at issue (03 R68). -/
abbrev toS (s : State) (lat : Nat) (n : BitVec 6) (x : BitVec 64) : Effect := .result lat (.s ((here s).ctx.physS n.toNat) x) 0
abbrev toV (s : State) (lat : Nat) (n : BitVec 6) (x : VReg) (t : Tag) (f : FFlags := 0) : Effect :=
  .result lat (.v ((here s).ctx.physV n.toNat) x t) f
abbrev toP (s : State) (n : Nat) (x : Bool) : Effect := .result 1 (.p ((here s).ctx.physP n) x) 0
abbrev toA (n : BitVec 4) (x : AReg) : Effect := .result 1 (.a n.toNat x) 0
abbrev toM (lat : Nat) (n : BitVec 3) (x : Mask) : Effect := .result lat (.mk n.toNat x) 0

/-- Instruction `i`, in a slot that is ready and ends its bundle, completes: the next state is the one in which the bundle has taken effect
with `es` among its effects.  `bnd`: a segment ends before it (19 R365); `more`: the registers it reads through a descriptor. -/
def Does (s : State) (i : Instr) (es : List Effect) (bnd : Bool := false) (more : List Use := []) : Prop :=
  s.Ready i bnd more es → exec i s = .next (s.issued i es)

/-- The use of scale register `q` by an instruction that reads it. -/
abbrev scaleReads (q : Nat) : List Use := [{ file := 8, num := q, write := false, named := false }]

/-- The bundle at hand is one slot's alone: nothing else is in it, no result or landing of an earlier bundle is outstanding, and no body ends here. -/
structure Alone (s : State) : Prop where
  last : (here s).iss.rest = 0
  empty : (here s).iss.effects = []
  pipe : (here s).pipe = []
  land : (here s).land = []
  /-- No register of the member holds poison (17 R332). -/
  healthy : (here s).ctx.bad = []
  inside : ∀ j < 6, ((here s).ctx.getLevel j).active = true → ((here s).ctx.getLevel j).last ≠ (here s).ctx.pc

/-- Such a bundle of a member that is not protected: what its slot's effects do is all that happens. -/
structure Plain (s : State) : Prop extends Alone s where
  unprotected : (here s).prot = false

/-- The core once such a bundle has ended with the effects `es` of its slot. -/
abbrev after (s : State) (i : Instr) (es : List Effect) : Core := (s.issued i es).core s.cur

/-- Its context, where the registers of `x` are all that the effects have changed: the next bundle in order follows (03 R73). -/
abbrev goesOn (s : State) (x : Ctx) : Ctx :=
  { x with pc := (here s).ctx.pc + BitVec.ofNat 64 (here s).iss.size, cycle := (here s).ctx.cycle + 1, waitOk := false }

end Sys2Proof.Claims

open Sys2Proof.Claims

/-! ## The S port -/

/-- 07 R139, R140: each three-register form, and each two-register count, completes with the value of the rule's table: s(d) is written with
latency 1 (3 for products, 20 for quotients and remainders) and no flag is raised. -/
def Obligations.ScalarArithmeticValues : Prop :=
  ∀ (s : State) (d a b : BitVec 6),
    let x := sreg s a
    let y := sreg s b
    Does s (.add d a b) [toS s 1 d (x + y)]
    ∧ Does s (.sub d a b) [toS s 1 d (x - y)]
    ∧ Does s (.mul d a b) [toS s 3 d (x * y)]
    ∧ Does s (.mulh d a b) [toS s 3 d ((x.signExtend 128 * y.signExtend 128).extractLsb' 64 64)]
    ∧ Does s (.mulhu d a b) [toS s 3 d ((x.zeroExtend 128 * y.zeroExtend 128).extractLsb' 64 64)]
    ∧ Does s (.div d a b) [toS s 20 d (if y = 0 then BitVec.allOnes 64 else x.sdiv y)]
    ∧ Does s (.divu d a b) [toS s 20 d (if y = 0 then BitVec.allOnes 64 else x.udiv y)]
    ∧ Does s (.rem d a b) [toS s 20 d (if y = 0 then x else x - y * x.sdiv y)]
    ∧ Does s (.remu d a b) [toS s 20 d (if y = 0 then x else x.umod y)]
    ∧ Does s (.and d a b) [toS s 1 d (x &&& y)]
    ∧ Does s (.or d a b) [toS s 1 d (x ||| y)]
    ∧ Does s (.xor d a b) [toS s 1 d (x ^^^ y)]
    ∧ Does s (.andn d a b) [toS s 1 d (x &&& ~~~y)]
    ∧ Does s (.shl d a b) [toS s 1 d (x <<< (y.truncate 6))]
    ∧ Does s (.shr d a b) [toS s 1 d (x >>> (y.truncate 6))]
    ∧ Does s (.sra d a b) [toS s 1 d (x.sshiftRight' (y.truncate 6))]
    ∧ Does s (.rotl d a b) [toS s 1 d (x.rotateLeft (y.truncate 6).toNat)]
    ∧ Does s (.min d a b) [toS s 1 d (BitVec.ofInt 64 (min x.toInt y.toInt))]
    ∧ Does s (.max d a b) [toS s 1 d (BitVec.ofInt 64 (max x.toInt y.toInt))]
    ∧ Does s (.minu d a b) [toS s 1 d (BitVec.ofNat 64 (min x.toNat y.toNat))]
    ∧ Does s (.maxu d a b) [toS s 1 d (BitVec.ofNat 64 (max x.toNat y.toNat))]
    ∧ Does s (.clz d a) [toS s 1 d x.clz]
    ∧ Does s (.ctz d a) [toS s 1 d x.ctz]
    ∧ Does s (.popc d a) [toS s 1 d x.cpop]

/-- 07 R141-R143: the immediate forms, the moves of an immediate, and SEL, complete with the rules' values; MOVHI reads its own destination,
and SEL reads the predicate in its guard field as a source. -/
def Obligations.ScalarImmediateValues : Prop :=
  ∀ (s : State) (d a i : BitVec 6) (k : BitVec 12) (q : BitVec 4) (b : BitVec 6),
    let x := sreg s a
    Does s (.addi d a i) [toS s 1 d (x + i.signExtend 64)]
    ∧ Does s (.andi d a i) [toS s 1 d (x &&& i.signExtend 64)]
    ∧ Does s (.ori d a i) [toS s 1 d (x ||| i.signExtend 64)]
    ∧ Does s (.shli d a i) [toS s 1 d (x <<< i)]
    ∧ Does s (.shri d a i) [toS s 1 d (x >>> i)]
    ∧ Does s (.srai d a i) [toS s 1 d (x.sshiftRight' i)]
    ∧ Does s (.sext d a i) [toS s 1 d ((x.setWidth (i.toNat + 1)).signExtend 64)]
    ∧ Does s (.zext d a i) [toS s 1 d ((x.setWidth (i.toNat + 1)).setWidth 64)]
    ∧ Does s (.movi d k) [toS s 1 d (k.signExtend 64)]
    ∧ Does s (.movhi d k) [toS s 1 d ((sreg s d) <<< 12 ||| k.zeroExtend 64)]
    ∧ Does s (.sel q d a b) [toS s 1 d (if preg s q then x else sreg s b)]

/-- The condition of a comparison (07 R144), the reserved codes apart. -/
def Sys2Proof.Claims.condition (cc : BitVec 3) (x y : BitVec 64) : Prop :=
  (cc = 0 → x = y) ∧ (cc = 1 → x ≠ y) ∧ (cc = 2 → x.toInt < y.toInt) ∧ (cc = 3 → y.toInt ≤ x.toInt)
    ∧ (cc = 4 → x.toNat < y.toNat) ∧ (cc = 5 → y.toNat ≤ x.toNat)

/-! ## Scratchpad access and descriptors of the S port -/

namespace Sys2Proof.Claims

/-- The address of LDS and STS: s(a) + sext(imm6) × 8, modulo 2^64 (07 R145). -/
def spAddr (s : State) (a i : BitVec 6) : Nat := (sreg s a + i.signExtend 64 * 8).toNat

/-- That of EDLD: s(a) + sext(imm6) × 32, of no modulus (07 R146). -/
def edldAddr (s : State) (a i : BitVec 6) : Int := ((sreg s a).toNat : Int) + i.toInt * 32

/-- `n` bytes of own scratchpad can be accessed at issue: aligned and inside the offset space (03 R64), apart from every live scoreboard
range (03 R75) and from the banks that the bundle's other accesses use (03 R61). -/
def spFree (s : State) (align ea n : Nat) : Prop :=
  ea % align = 0 ∧ ea + n ≤ spSize (here s).ctx.pw
    ∧ (∀ e ∈ (here s).sb, overlaps ea n e.lo (e.hi + 1 - e.lo) = false)
    ∧ ∀ b ∈ banksOf (here s).ctx.pw ea n, b ∉ (here s).iss.banks

/-- The bytes are not poisoned (17 R332). -/
def spSound (s : State) (ea n : Nat) : Prop := (here s).spPoisoned ea n = false

end Sys2Proof.Claims

/-- 07 R145, R146: LDS and STS complete on an aligned doubleword of the offset space: LDS writes s(d) three cycles on with the bytes read at issue,
lowest first; STS stores s(d) at the end of the issue cycle.  EDW completes with one word of the descriptor replaced after a cycle; EDLD on 32
aligned bytes, the whole of it after three.  Once such a bundle has ended, the scratchpad holds the bytes stored to it, lowest first, and of every other
offset what it held. -/
def Obligations.ScalarScratchpadAccess : Prop :=
  ∀ (s : State) (d a i : BitVec 6),
    let ea := spAddr s a i
    (spFree s 8 ea 8 →
      (spSound s ea 8 → Does s (.lds d a i) [toS s 3 d (BitVec.ofNat 64 (readBytes (here s).pool.sp ea 8))])
      ∧ Does s (.sts d a i) [.spStore ea 8 (sreg s d).toNat 0])
    ∧ (∀ w : BitVec 2, Does s (.edw d a w) [.result 1 (.ew d.toNat w (sreg s a)) 0])
    ∧ (∀ eb : Nat, (eb : Int) = edldAddr s a i → spFree s 32 eb 32 → spSound s eb 32 →
       Does s (.edld d a i) [.result 3 (.e d.toNat (BitVec.ofNat 256 (readBytes (here s).pool.sp eb 32))) 0])
    ∧ (∀ (j : Instr) (off n x : Nat), Plain s → ∀ b, mapGet 0 (after s j [.spStore off n x 0]).pool.sp b =
       if off ≤ b ∧ b < off + n then BitVec.ofNat 8 (x / 256 ^ (b - off)) else mapGet 0 (here s).pool.sp b)

/-! ## Control flow, task control and control registers -/

/-- 07 R147, R161, R163, R165: transfers complete with their targets, indirect ones when the target is 16-byte aligned; CALL writes s31 with
the address after its own bundle.  LOOP, on a nest that R78 allows, sets up its level with the count s(CNT)[31:0] over its body, STAGE and KCLR
act on their level and token.  Once such a bundle has ended, the target is the next pc and the levels whose bodies do not hold it are idle; a LOOP's level is
active at its first trip, a staged one with p8 true and p9-p15 false, or, with count 0, its body has been passed; STAGE has cut its level's items
to the present one and n more; KCLR's token is complete, and no other has changed. -/
def Obligations.TransfersAndLoops : Prop :=
  ∀ (s : State) (t : BitVec 18) (a cnt len : BitVec 6) (lvl stg : BitVec 3) (n : BitVec 12) (k : BitVec 3),
    let pc := (here s).ctx.pc
    let next := pc + BitVec.ofNat 64 (here s).iss.size
    Does s (.br t) [.jump (pc + t.signExtend 64 * 16)]
    ∧ ((sreg s a).toNat % 16 = 0 → Does s (.bri a) [.jump (sreg s a)])
    ∧ Does s (.call t) [.jump (pc + t.signExtend 64 * 16), .result 1 (.s 31 next) 0]
    ∧ ((sreg s 31).toNat % 16 = 0 → Does s .ret [.jump (sreg s 31)])
    ∧ (let body := if len = 0 then 64 else len.toNat
       let ends := ({ s with peek := true } : State).bundlesOn s.cur (body - 1) next
       (∀ j < 6, ((here s).ctx.getLevel j).active = true →
          lvl.toNat < j ∧ ((here s).ctx.getLevel j).first.toNat ≤ next.toNat ∧ ends.1.toNat ≤ ((here s).ctx.getLevel j).last.toNat) →
        Does s (.loop lvl cnt len stg) [.loop lvl.toNat body stg.toNat ((sreg s cnt).toNat % 2 ^ 32) next ends.1 ends.2])
    ∧ Does s (.stage lvl n) [.stage lvl.toNat n.toNat]
    ∧ Does s (.kclr k) [.kclr ((here s).ctx.physK k.toNat)]
    ∧ (∀ (i : Instr) (es : List Effect), Plain s →
        let c := here s
        let d := after s i es
        (∀ u, es = [.jump u] ∨ (∃ r, es = [.jump u, .result 1 (.s 31 r) 0]) →
          d.ctx.pc = u
          ∧ ∀ j < 6, d.ctx.getLevel j =
              if (c.ctx.getLevel j).active = true ∧ (u.toNat < (c.ctx.getLevel j).first.toNat ∨ (c.ctx.getLevel j).last.toNat < u.toNat)
              then { c.ctx.getLevel j with active := false } else c.ctx.getLevel j)
        ∧ (∀ (j body n count : Nat) (first last past : BitVec 64), es = [.loop j body n count first last past] →
          (count ≠ 0 → last ≠ c.ctx.pc →
            d.ctx.getLevel j = { active := true, c := count, t := if 1 ≤ n then count + n - 1 else count, n := n, body := body, trips := 0
                                 first := first, last := last }
            ∧ (∀ l ≠ j, d.ctx.getLevel l = c.ctx.getLevel l) ∧ d.ctx.pc = next
            ∧ ∀ p < 16, d.ctx.getP p = if 1 ≤ n ∧ 8 ≤ p then decide (p = 8) else c.ctx.getP p)
          ∧ (count = 0 → (∀ l < 6, (c.ctx.getLevel l).active = true → (c.ctx.getLevel l).last ≠ last) →
            d.ctx = { goesOn s c.ctx with pc := past }))
        ∧ (∀ j n, es = [.stage j n] →
          let l := c.ctx.getLevel j
          let z := min l.c (l.trips + 1 + n)
          d.ctx.pc = next
          ∧ d.ctx.getLevel j = (if l.active = true then { l with c := z, t := if 1 ≤ l.n then z + l.n - 1 else z } else l)
          ∧ ∀ m ≠ j, d.ctx.getLevel m = c.ctx.getLevel m)
        ∧ ∀ tok, es = [.kclr tok] → d.ctx.tokenDone tok = true ∧ ∀ m ≠ tok, d.ctx.tokenDone m = c.ctx.tokenDone m)

/-- 07 R149-R151, R157, R158: NOP, LAUNCH of an aligned node, HALT, PARK (whose beacon, when not 0, is an aligned address that translates for
reading) and SEG complete; RDV, outside protected mode, does nothing more than take its cycle.  Once the
bundle has ended, HALT's member is halted and PARK's parked at its beacon and threshold, LAUNCH's node waits to be sent, and SEG of a protected member has
counted its own bundle toward the segment's imm18. -/
def Obligations.TaskControlCompletes : Prop :=
  ∀ (s : State) (a b : BitVec 6) (n : BitVec 18),
    Does s .nop []
    ∧ ((sreg s a).toNat % 64 = 0 → Does s (.launch a) [.launch (sreg s a)] true)
    ∧ Does s .halt [.halt] true
    ∧ ((sreg s a = 0 ∨ (sreg s a).toNat % 8 = 0 ∧ ∃ p, s.xlateCore s.cur .read (sreg s a).toNat = .ok p) →
        Does s (.park a b) [.park (sreg s a) (sreg s b)] true)
    ∧ Does s (.seg n) [.seg n.toNat] true
    ∧ ((here s).prot = false → s.Ready (.rdv n) true [] [.rdv n.toNat] → exec (.rdv n) s = .next (s.setCore s.cur ((here s).issued (.rdv n) [.rdv n.toNat] true)))
    ∧ (∀ i : Instr, Plain s →
        let c := here s
        (after s i [.halt]).run = .halted ∧ (∀ x y, (after s i [.park x y]).run = .parked (some (x, y)))
        ∧ (∀ e ∈ [Effect.halt, .park (sreg s a) (sreg s b), .seg n.toNat, .rdv n.toNat], (after s i [e]).ctx = goesOn s c.ctx)
        ∧ (∀ x, (after s i [.launch x]).launches = c.launches ++ [(x, c.nid)] ∧ (after s i [.launch x]).ctx = goesOn s c.ctx)
        ∧ ∀ e ∈ [Effect.launch (sreg s a), .seg n.toNat, .rdv n.toNat], (after s i [e]).run = c.run)
    ∧ (∀ i : Instr, (here s).iss.effects = [] → (here s).prot = true → (after s i [.seg n.toNat]).ctx.segLeft = BitVec.ofNat 13 n.toNat - 1)

/-- 07 R153-R155: CSRR writes s(d) with the register's value in the issue cycle; CSRW and CSRS write the register at the end of it, CSRS with its
old value ORed.  A written control register reads back with its reserved bits 0; QS0-QS15, with the field bits of R97; a read-only register
keeps its value, and no other register that is read this way changes. -/
def Obligations.CsrAccess : Prop :=
  (∀ (s : State) (d : BitVec 6) (n : BitVec 12),
    let old := (here s).ctx.csrRead s.cur s.ns n
    let more := if 0x050 ≤ n.toNat ∧ n.toNat ≤ 0x05F then scaleReads (n.toNat - 0x050) else []
    Does s (.csrr d n) [toS s 1 d old] (more := more)
    ∧ Does s (.csrw d n) [.csrWrite n (sreg s d)]
    ∧ Does s (.csrs d n) [.csrWrite n (old ||| sreg s d)] (more := more))
  ∧ (∀ (x : Ctx) (c : BitVec 8) (ns : Nat) (n m : BitVec 12) (v : BitVec 64),
    (x.csrWrite n v).csrRead c ns m =
      if m ≠ n then x.csrRead c ns m
      else if n = 0x000 then v &&& 3
      else if n = 0x001 then v &&& 0x1F
      else if n = 0x002 ∨ n = 0x030 then v &&& 0xFFFFFFFF
      else if n = 0x040 ∨ n = 0x041 ∨ n = 0x043 then v
      else if n = 0x042 then v &&& 0x7FFFF
      else if 0x050 ≤ n.toNat ∧ n.toNat ≤ 0x05F then v &&& 0x3FFF
      else x.csrRead c ns m)
  ∧ ∀ (s : State) (i : Instr) (n : BitVec 12) (v : BitVec 64), Plain s →
    (after s i [.csrWrite n v]).ctx = goesOn s ((here s).ctx.csrWrite n v)

/-! ## The A port -/

/-- 07 R144, R159, R160, R164: address arithmetic is modulo 2^48, LSTEP writes the step of its level, each predicate instruction writes one
predicate, and CMP and CMPI write p(2n) with the condition and p(2n+1) with its negation, at the end of the issue cycle through the current rotation. -/
def Obligations.AddressAndPredicateValues : Prop :=
  ∀ (s : State) (d a : BitVec 4) (m : BitVec 6) (n : BitVec 12) (lvl : BitVec 3) (p q r : BitVec 4) (v : BitVec 1) (pr cc : BitVec 3)
      (x y i : BitVec 6),
    Does s (.au d a m) [toA d (areg s a + (sreg s m).setWidth 48)]
    ∧ Does s (.aui d n) [toA d (areg s d + n.signExtend 48)]
    ∧ Does s (.amov d m) [toA d ((sreg s m).setWidth 48)]
    ∧ Does s (.aget m a) [toS s 1 m ((areg s a).zeroExtend 64)]
    ∧ Does s (.lstep a lvl m) [.result 1 (.step lvl.toNat a.toNat ((sreg s m).setWidth 48)) 0]
    ∧ Does s (.pand p q r) [toP s p.toNat (preg s q && preg s r)]
    ∧ Does s (.por p q r) [toP s p.toNat (preg s q || preg s r)]
    ∧ Does s (.pxor p q r) [toP s p.toNat (xor (preg s q) (preg s r))]
    ∧ Does s (.pnot p q) [toP s p.toNat (!preg s q)]
    ∧ Does s (.pmov p q) [toP s p.toNat (preg s q)]
    ∧ Does s (.pset p v) [toP s p.toNat (v.getLsbD 0)]
    ∧ (∃ c : Bool, (c = true ↔ condition cc (sreg s x) (sreg s y))
      ∧ Does s (.cmp pr cc x y) [toP s (2 * pr.toNat) c, toP s (2 * pr.toNat + 1) (!c)])
    ∧ (∃ c : Bool, (c = true ↔ condition cc (sreg s x) (i.signExtend 64))
      ∧ Does s (.cmpi pr cc x i) [toP s (2 * pr.toNat) c, toP s (2 * pr.toNat + 1) (!c)])

/-! ## Vector arithmetic -/

namespace Sys2Proof.Claims

/-- The width of an element of a tag, and the values of a register's elements, lane 0 of cluster 0 first (04 R82, 08 R167). -/
abbrev width (t : Tag) : Nat := Fmt.width t

/-- A register built element by element, with the flags of every element ORed (04 R89). -/
def fromElems (w : Nat) (l : List (Flagged Nat)) : VReg × FFlags := (ofElems w (l.map (·.1)), l.foldl (fun f x => f ||| x.2) 0)

/-- Both ports' forms of an instruction complete with the same effects. -/
def Both (s : State) (i j : Instr) (es : List Effect) : Prop := Does s i es ∧ Does s j es

/-- A floating-point result of two sources, of their tag. -/
def float2 (s : State) (lat : Nat) (d a b : BitVec 6) (f : FFmt → Mode → Nat → Nat → Flagged Nat) : List Effect :=
  let t := vtag s a
  let r := fromElems (width t) (List.zipWith (f (fpFmt t) (here s).ctx.mode) (elems (width t) (vreg s a)) (elems (width t) (vreg s b)))
  [toV s lat d r.1 t r.2]

/-- The same with the destination as third source. -/
def float3 (s : State) (lat : Nat) (d a b : BitVec 6) (f : FFmt → Mode → Nat → Nat → Nat → Flagged Nat) : List Effect :=
  let t := vtag s a
  let r := fromElems (width t) (List.zipWith (fun g z => g z)
    (List.zipWith (f (fpFmt t) (here s).ctx.mode) (elems (width t) (vreg s a)) (elems (width t) (vreg s b))) (elems (width t) (vreg s d)))
  [toV s lat d r.1 t r.2]

/-- And of one source. -/
def float1 (s : State) (lat : Nat) (d a : BitVec 6) (f : FFmt → Mode → Nat → Flagged Nat) : List Effect :=
  let t := vtag s a
  let r := fromElems (width t) ((elems (width t) (vreg s a)).map (f (fpFmt t) (here s).ctx.mode))
  [toV s lat d r.1 t r.2]

/-- A number with its sign bit as given, and a NaN as the canonical one (08 R171). -/
def withSignBit (f : FFmt) (x : Nat) (neg : Bool) : Nat :=
  if (f.decode x).isNan then f.nanBits else x % f.signBit + (if neg then f.signBit else 0)

end Sys2Proof.Claims

namespace Sys2Proof.Claims

/-- The value of a finite number; of no other is it used. -/
def ratio : Machine.Num → ℚ
  | .fin neg m e => (if neg then -1 else 1) * (m : ℚ) * (2 : ℚ) ^ e
  | _ => 0

/-- A bit pattern of the format that stands for a finite number. -/
def finite (f : FFmt) (b : Nat) : Prop := b < 2 ^ f.width ∧ ∃ neg m e, f.decode b = .fin neg m e

/-- What a result that is no overflow is of a value `x` under a mode (04 R90): the nearest member of the format, or the nearest that the mode allows; of
two equally near ones the one with an even last bit. -/
def Rounds (f : FFmt) (mode : Mode) (x : ℚ) (b : Nat) : Prop :=
  let y := ratio (f.decode b)
  (mode = .rne → ∀ c, finite f c → |x - y| ≤ |x - ratio (f.decode c)| ∧ (|x - y| = |x - ratio (f.decode c)| → ratio (f.decode c) ≠ y → b % 2 = 0))
  ∧ (mode = .rtz → |y| ≤ |x| ∧ ∀ c, finite f c → |ratio (f.decode c)| ≤ |x| → |x - y| ≤ |x - ratio (f.decode c)|)
  ∧ (mode = .rdn → y ≤ x ∧ ∀ c, finite f c → ratio (f.decode c) ≤ x → ratio (f.decode c) ≤ y)
  ∧ (mode = .rup → x ≤ y ∧ ∀ c, finite f c → x ≤ ratio (f.decode c) → y ≤ ratio (f.decode c))

end Sys2Proof.Claims

/-- 08 R168, R169, R171: on sources of one floating-point tag the arithmetic forms complete with the exact result of each element rounded once
under FRM, four cycles on, and the sign forms with only the sign changed, two cycles on and without flags; the tag is the sources'.
Rounding (04 R90, R92) gives the member of the format nearest to the exact value, or nearest of those its mode allows, of two the even one, with NX where it
differs; beyond the largest finite value the overflow of the mode's row, with OF and NX; in BF16 no subnormal. -/
def Obligations.FloatArithmeticValues : Prop :=
  (∀ (s : State) (d a b : BitVec 6), fpTag (vtag s a) = true →
    (vtag s b = vtag s a →
      Both s (.faddV0 d a b) (.faddV1 d a b) (float2 s 4 d a b fun f m x y => rounded f m (addNum m (f.decode x) (f.decode y)))
      ∧ Both s (.fsubV0 d a b) (.fsubV1 d a b) (float2 s 4 d a b fun f m x y => rounded f m (addNum m (f.decode x) (f.decode y).neg))
      ∧ Both s (.fmulV0 d a b) (.fmulV1 d a b) (float2 s 4 d a b fun f m x y => rounded f m (mulNum (f.decode x) (f.decode y)))
      ∧ (vtag s d = vtag s a →
        Both s (.fmaV0 d a b) (.fmaV1 d a b)
          (float3 s 4 d a b fun f m x y z => rounded f m (fmaNum m (f.decode x) (f.decode y) (f.decode z)))
        ∧ Both s (.fmsV0 d a b) (.fmsV1 d a b)
          (float3 s 4 d a b fun f m x y z => rounded f m (fmaNum m (f.decode x) (f.decode y) (f.decode z).neg)))
      ∧ Both s (.fcpysV0 d a b) (.fcpysV1 d a b) (float2 s 2 d a b fun f _ x y => (withSignBit f x (decide (f.signBit ≤ y % (2 * f.signBit))), 0)))
    ∧ Both s (.fabsV0 d a) (.fabsV1 d a) (float1 s 2 d a fun f _ x => (withSignBit f x false, 0))
    ∧ Both s (.fnegV0 d a) (.fnegV1 d a) (float1 s 2 d a fun f _ x => (withSignBit f x (decide (x % (2 * f.signBit) < f.signBit)), 0)))
  ∧ ∀ (f : FFmt) (mode : Mode) (neg : Bool) (m : Nat) (e : Int), m ≠ 0 → mode ∈ [Mode.rne, .rtz, .rdn, .rup] →
    let x := ratio (.fin neg m e)
    let r := roundTo f .ieee mode (.fin neg m e)
    let largest := ratio (.fin false (2 ^ f.f + f.maxBits % 2 ^ f.f) (f.low + (f.maxBits / 2 ^ f.f : Nat) - 1))
    (r.2 &&& FFlag.ovf = 0 → (f = .bf16 → r.1 % f.signBit ≠ 0) →
      finite f r.1 ∧ Rounds f mode x r.1 ∧ (r.2 &&& FFlag.nx = 0 ↔ ratio (f.decode r.1) = x))
    ∧ (r.2 &&& FFlag.ovf ≠ 0 → largest < |x| ∧ r.2 = FFlag.ovf ||| FFlag.nx
        ∧ r.1 = f.withSign neg (if mode = .rne ∨ (mode = .rup ∧ neg = false) ∨ (mode = .rdn ∧ neg = true) then f.infBits else f.maxBits))
    ∧ (f = .bf16 → r.1 % f.signBit = 0 ∨ 2 ^ f.f ≤ r.1 % f.signBit)

/-- 08 R173: on a source of a floating-point tag each special function completes with its value of each element, rounded once under FRM. -/
def Obligations.SpecialFunctionsComplete : Prop :=
  ∀ (s : State) (d a : BitVec 6), fpTag (vtag s a) = true →
    Does s (.frcp d a) (float1 s 6 d a fun f m x => rounded f m (divNum (.fin false 1 0) (f.decode x)))
    ∧ Does s (.frsq d a) (float1 s 6 d a fun f m x => rounded f m (rsqrtNum (f.decode x)))
    ∧ Does s (.fsqrt d a) (float1 s 8 d a fun f m x => rounded f m (sqrtNum (f.decode x)))
    ∧ Does s (.fexp2 d a) (float1 s 6 d a fun f m x => rounded f m (exp2Num (f.decode x)))
    ∧ Does s (.flog2 d a) (float1 s 6 d a fun f m x => rounded f m (log2Num m (f.decode x)))
    ∧ Does s (.ftanh d a) (float1 s 8 d a fun f m x => rounded f m (tanhNum (f.decode x)))

/-- 08 R173's table of special cases, for every format and rounding mode: what each function gives at the zeros, the infinities, a negative
number and a NaN. -/
def Obligations.SpecialFunctionCases : Prop :=
  ∀ (f : FFmt) (frm : BitVec 2) (n : Bool) (k : Nat) (e : Int), f = .fp32 ∨ f = .fp16 ∨ f = .bf16 → k ≠ 0 →
    let one (n : Bool) : Nat := f.withSign n (if f = .fp32 then 0x3F800000 else if f = .fp16 then 0x3C00 else 0x3F80)
    let m := Mode.ofFrm frm
    let zero (n : Bool) : Machine.Num := .fin n 0 0
    let nan : Flagged Nat := (f.nanBits, FFlag.nv)
    let inf (n : Bool) : Nat := f.withSign n f.infBits
    let rcp (x : Machine.Num) : Flagged Nat := rounded f m (divNum (.fin false 1 0) x)
    let fn (g : Machine.Num → Flagged Machine.Num) (x : Machine.Num) : Flagged Nat := rounded f m (g x)
    rcp (zero n) = (inf n, FFlag.dz) ∧ rcp (.inf n) = (f.withSign n 0, 0)
    ∧ fn rsqrtNum (zero n) = (inf n, FFlag.dz) ∧ fn rsqrtNum (.inf false) = (0, 0) ∧ fn rsqrtNum (.inf true) = nan
    ∧ fn rsqrtNum (.fin true k e) = nan
    ∧ fn sqrtNum (zero n) = (f.withSign n 0, 0) ∧ fn sqrtNum (.inf false) = (inf false, 0) ∧ fn sqrtNum (.inf true) = nan
    ∧ fn sqrtNum (.fin true k e) = nan
    ∧ fn exp2Num (zero n) = (one false, 0) ∧ fn exp2Num (.inf false) = (inf false, 0) ∧ fn exp2Num (.inf true) = (0, 0)
    ∧ fn (log2Num m) (zero n) = (inf true, FFlag.dz) ∧ fn (log2Num m) (.inf false) = (inf false, 0) ∧ fn (log2Num m) (.inf true) = nan
    ∧ fn (log2Num m) (.fin true k e) = nan ∧ fn (log2Num m) (.fin false 1 0) = (f.withSign (decide (m = .rdn)) 0, 0)
    ∧ fn tanhNum (zero n) = (f.withSign n 0, 0) ∧ fn tanhNum (.inf n) = (one n, 0)
    ∧ ∀ (q : Bool), ∀ g ∈ [divNum (.fin false 1 0), rsqrtNum, sqrtNum, exp2Num, log2Num m, tanhNum],
        fn g (.nan q) = (f.nanBits, if q then FFlag.nv else 0)

/-- 08 R170, R172: FMIN and FMAX complete two cycles on with one of their inputs, and FCMP with a mask whose bytes say the condition: with no
NaN among them the pair is ordered by value (−0 below +0 for FMIN and FMAX alone), and a NaN is never chosen over a number. -/
def Obligations.FloatSelectionAndComparison : Prop :=
  ∀ (s : State) (d a b : BitVec 6) (m cc : BitVec 3), fpTag (vtag s a) = true → vtag s b = vtag s a →
    let f := fpFmt (vtag s a)
    let w := width (vtag s a)
    (∃ g : Nat → Nat → Flagged Nat, Both s (.fminV0 d a b) (.fminV1 d a b) (float2 s 2 d a b fun _ _ => g)
      ∧ ∀ x y, let p := f.decode x; let q := f.decode y
        (p.isNan = true → q.isNan = true → (g x y).1 = f.nanBits)
        ∧ (p.isNan = true → q.isNan = false → (g x y).1 = asRead f y)
        ∧ (p.isNan = false → (q.isNan = true ∨ p.order q < 0) → (g x y).1 = asRead f x)
        ∧ (p.isNan = false → q.isNan = false → 0 < p.order q → (g x y).1 = asRead f y)
        ∧ (p.isNan = false → q.isNan = false → p.order q = 0 → (g x y).1 = if p.sign && !q.sign then asRead f x else asRead f y)
        ∧ (g x y).2 = if p.isSig || q.isSig then FFlag.nv else 0)
    ∧ (∃ g : Nat → Nat → Flagged Nat, Both s (.fmaxV0 d a b) (.fmaxV1 d a b) (float2 s 2 d a b fun _ _ => g)
      ∧ ∀ x y, let p := f.decode x; let q := f.decode y
        (p.isNan = true → q.isNan = true → (g x y).1 = f.nanBits)
        ∧ (p.isNan = true → q.isNan = false → (g x y).1 = asRead f y)
        ∧ (p.isNan = false → (q.isNan = true ∨ 0 < p.order q) → (g x y).1 = asRead f x)
        ∧ (p.isNan = false → q.isNan = false → p.order q < 0 → (g x y).1 = asRead f y)
        ∧ (p.isNan = false → q.isNan = false → p.order q = 0 → (g x y).1 = if p.sign && !q.sign then asRead f y else asRead f x)
        ∧ (g x y).2 = if p.isSig || q.isSig then FFlag.nv else 0)
    ∧ (∃ g : Nat → Nat → Bool × FFlags,
      (let r := List.zipWith g (elems w (vreg s a)) (elems w (vreg s b))
       Both s (.fcmpV0 m cc a b) (.fcmpV1 m cc a b) [.result 2 (.mk m.toNat (maskOf w (r.map (·.1)))) (r.foldl (fun f x => f ||| x.2) 0)])
      ∧ ∀ x y, let p := f.decode x; let q := f.decode y
        (p.isNan = true ∨ q.isNan = true →
          ((g x y).1 = true ↔ cc = 1 ∨ cc = 6)
          ∧ ((g x y).2 = FFlag.nv ↔ (cc ≠ 0 ∧ cc ≠ 1 ∧ cc ≠ 6) ∨ p.isSig = true ∨ q.isSig = true))
        ∧ (p.isNan = false → q.isNan = false →
          (g x y).2 = 0
          ∧ (cc = 0 → ((g x y).1 = true ↔ p.order q = 0)) ∧ (cc = 1 → ((g x y).1 = true ↔ p.order q ≠ 0))
          ∧ (cc = 2 → ((g x y).1 = true ↔ p.order q < 0)) ∧ (cc = 3 → ((g x y).1 = true ↔ 0 ≤ p.order q))
          ∧ (cc = 4 → ((g x y).1 = true ↔ p.order q ≤ 0)) ∧ (cc = 5 → ((g x y).1 = true ↔ 0 < p.order q))
          ∧ (cc = 6 → (g x y).1 = false)))

namespace Sys2Proof.Claims

/-- Element-wise, on elements as bit vectors of their width. -/
def each2 (w : Nat) (f : BitVec w → BitVec w → BitVec w) (x y : VReg) : VReg :=
  ofElems w (List.zipWith (fun a b => (f (BitVec.ofNat w a) (BitVec.ofNat w b)).toNat) (elems w x) (elems w y))

/-- An integer result of two sources, of their tag; `f` takes whether the tag is signed. -/
def int2 (s : State) (lat : Nat) (d a b : BitVec 6) (f : (w : Nat) → Bool → BitVec w → BitVec w → BitVec w) : List Effect :=
  let t := vtag s a
  [toV s lat d (each2 (width t) (f (width t) (Fmt.isSigned t)) (vreg s a) (vreg s b)) t]

/-- The bytes of a mask for a comparison of elements. -/
def maskWhere (w : Nat) (f : BitVec w → BitVec w → Bool) (x y : VReg) : Mask :=
  maskOf w (List.zipWith (fun a b => f (BitVec.ofNat w a) (BitVec.ofNat w b)) (elems w x) (elems w y))

/-- An element extended by its tag. -/
def extended (t : Tag) (x : Nat) : Int := if Fmt.isSigned t then (BitVec.ofNat (width t) x).toInt else (BitVec.ofNat (width t) x).toNat

/-- The elements of lane `l`. -/
def laneElems (t : Tag) (v : VReg) (l : Nat) : List Int := ((elems (width t) v).drop (l * (32 / width t))).take (32 / width t) |>.map (extended t)

end Sys2Proof.Claims

/-- 08 R174: on sources of one integer tag each integer form completes with the rule's value of every element modulo 2^w, and no flag. -/
def Obligations.IntegerVectorValues : Prop :=
  ∀ (s : State) (d a b : BitVec 6), Fmt.isInt (vtag s a) = true →
    (vtag s b = vtag s a →
      Both s (.iaddV0 d a b) (.iaddV1 d a b) (int2 s 2 d a b fun _ _ x y => x + y)
      ∧ Both s (.isubV0 d a b) (.isubV1 d a b) (int2 s 2 d a b fun _ _ x y => x - y)
      ∧ Both s (.imulV0 d a b) (.imulV1 d a b) (int2 s 4 d a b fun _ _ x y => x * y)
      ∧ Both s (.iminV0 d a b) (.iminV1 d a b)
        (int2 s 2 d a b fun _ sg x y => if (if sg then x.slt y else x.ult y) then x else y)
      ∧ Both s (.imaxV0 d a b) (.imaxV1 d a b)
        (int2 s 2 d a b fun _ sg x y => if (if sg then x.slt y else x.ult y) then y else x)
      ∧ Both s (.shlV0 d a b) (.shlV1 d a b) (int2 s 2 d a b fun w _ x y => x <<< (y.toNat % w))
      ∧ Both s (.shrV0 d a b) (.shrV1 d a b) (int2 s 2 d a b fun w _ x y => x >>> (y.toNat % w))
      ∧ Both s (.sraV0 d a b) (.sraV1 d a b) (int2 s 2 d a b fun w _ x y => x.sshiftRight (y.toNat % w))
      ∧ (vtag s d = vtag s a →
        Both s (.imadV0 d a b) (.imadV1 d a b)
          [toV s 4 d (each2 (width (vtag s a)) (· + ·) (vreg s d) (each2 (width (vtag s a)) (· * ·) (vreg s a) (vreg s b))) (vtag s a)]))
    ∧ Both s (.iabsV0 d a) (.iabsV1 d a)
      [toV s 2 d (each2 (width (vtag s a)) (fun x _ => if Fmt.isSigned (vtag s a) then x.abs else x) (vreg s a) (vreg s a)) (vtag s a)]

/-- 08 R176: ICMP completes on sources of one integer tag, its codes comparing as they say whatever the tag; AND, OR and XOR act on whole
lanes of any tags and keep that of va. -/
def Obligations.VectorLogicAndCompare : Prop :=
  ∀ (s : State) (d a b : BitVec 6) (m cc : BitVec 3),
    (Fmt.isInt (vtag s a) = true → vtag s b = vtag s a →
      let mask (f : (w : Nat) → BitVec w → BitVec w → Bool) : Mask := maskWhere (width (vtag s a)) (f (width (vtag s a))) (vreg s a) (vreg s b)
      ∀ x : Mask,
        (cc = 0 ∧ x = mask (fun _ p q => p == q)) ∨ (cc = 1 ∧ x = mask (fun _ p q => p != q)) ∨ (cc = 2 ∧ x = mask (fun _ p q => p.slt q))
          ∨ (cc = 3 ∧ x = mask (fun _ p q => q.sle p)) ∨ (cc = 4 ∧ x = mask (fun _ p q => p.ult q)) ∨ (cc = 5 ∧ x = mask (fun _ p q => q.ule p)) →
        Both s (.icmpV0 m cc a b) (.icmpV1 m cc a b) [toM 2 m x])
    ∧ Both s (.andV0 d a b) (.andV1 d a b) [toV s 2 d (vreg s a &&& vreg s b) (vtag s a)]
    ∧ Both s (.orV0 d a b) (.orV1 d a b) [toV s 2 d (vreg s a ||| vreg s b) (vtag s a)]
    ∧ Both s (.xorV0 d a b) (.xorV1 d a b) [toV s 2 d (vreg s a ^^^ vreg s b) (vtag s a)]

/-- 08 R175: the widening forms complete with each 32-bit lane summed modulo 2^32 with the narrow elements of its lane (for IMADW, with their
products), each extended by its own tag; the tag is that of the accumulator. -/
def Obligations.WideningSums : Prop :=
  ∀ (s : State) (d a b : BitVec 6),
    let wide (t : Tag) : Prop := t = 0 ∨ t = 1
    let narrow (t : Tag) : Prop := Fmt.isInt t = true ∧ width t < 32
    let sum (acc : BitVec 6) (f : Nat → Int) : VReg :=
      ofElems 32 ((List.range 128).map fun l => (BitVec.ofInt 32 ((elem 32 (vreg s acc) l : Int) + f l)).toNat)
    (wide (vtag s a) → narrow (vtag s b) →
      Both s (.iaddwV0 d a b) (.iaddwV1 d a b) [toV s 3 d (sum a fun l => (laneElems (vtag s b) (vreg s b) l).sum) (vtag s a)])
    ∧ (wide (vtag s d) → narrow (vtag s a) → narrow (vtag s b) → width (vtag s b) = width (vtag s a) →
      Both s (.imadwV0 d a b) (.imadwV1 d a b)
        [toV s 4 d (sum d fun l => (List.zipWith (· * ·) (laneElems (vtag s a) (vreg s a) l) (laneElems (vtag s b) (vreg s b) l)).sum) (vtag s d)])

/-! ## Conversion, movement, scans and masks -/

namespace Sys2Proof.Claims

/-- The lanes of a register moved: lane j takes the lane `f j`. -/
def moved (v : VReg) (f : Nat → Nat) : VReg := ofElems 32 ((List.range 128).map fun j => elem 32 v (f j))

/-- Bytes of two registers picked for each lane: 0-3 of va, 4-7 of vb. -/
def picked (x y : VReg) (sel : List Nat) : VReg :=
  ofElems 8 ((List.range 128).flatMap fun l => sel.map fun q => if q < 4 then elem 8 x (4 * l + q) else elem 8 y (4 * l + (q - 4)))

/-- The generators as an earlier conversion of the bundle has left them (04 R93). -/
def generators (s : State) : FMap (BitVec 32) :=
  ((here s).iss.effects.findSome? fun e => match e with
    | .rng g => some g
    | _ => none).getD (here s).ctx.rng

/-- The effects of CVT and CVTN (08 R177): the elements converted, and under SR every lane's generator one step on (04 R93). -/
def converted (s : State) (d a : BitVec 6) (f : BitVec 4) (rnd : BitVec 2) (sat : Bool) : List Effect :=
  let t := vtag s a
  let ns := 32 / width t
  let nt := 32 / width f
  let gen (l : Nat) : BitVec 32 := rngStep (mapGet 0 (generators s) l)
  let mode (l i : Nat) : Mode :=
    if rnd = 0 then .rne else if rnd = 1 then .rtz else if rnd = 2 then .sr ((gen l).rotateLeft (8 * i)) else Mode.ofFrm (here s).ctx.frm
  let r := fromElems (width f) ((List.range (128 * nt)).map fun k =>
    if k % nt < ns then convert f sat (mode (k / nt) (k % nt)) (Fmt.num t (elem (width t) (vreg s a) (k / nt * ns + k % nt))) else (0, 0))
  toV s 3 d r.1 f r.2 :: if rnd = 2 then [.rng ((List.range 128).map fun l => (l, gen l))] else []

/-- The sequences of a scan's or reduction's extent (08 R186): each cluster's elements, or all of them. -/
def sequences (ext : BitVec 1) (w : Nat) (v : VReg) : List (List Nat) :=
  if ext = 1 then [elems w v] else (List.range 8).map fun c => (List.range (512 / w)).map fun k => elem w v (c * (512 / w) + k)

end Sys2Proof.Claims

/-- 08 R177: CVT (which saturates) and CVTN complete three cycles on with every element converted under the mode that RND names: a narrowing
conversion leaves the high elements 0, a widening one ignores the source's; under SR each lane's generator advances once, and
holds its new value when the bundle has ended.  That of two such conversions in a bundle the one on the lower port advances the generators first, is the
model's choice (DESIGN CHOICE, log 48): no rule gives an order. -/
def Obligations.ConversionValues : Prop :=
  ∀ (s : State) (d a : BitVec 6) (f : BitVec 4) (rnd : BitVec 2),
    Both s (.cvtV0 d a f rnd) (.cvtV1 d a f rnd) (converted s d a f rnd true)
    ∧ Both s (.cvtnV0 d a f rnd) (.cvtnV1 d a f rnd) (converted s d a f rnd false)
    ∧ (∀ (i : Instr) (lat : Nat) (w : RegWrite) (x : FFlags) (g : Nat → BitVec 32), Plain s →
        ∀ l < 128, mapGet 0 (after s i [.result lat w x, .rng ((List.range 128).map fun l => (l, g l))]).ctx.rng l = g l)

/-- 08 R178-R183: the repacking, copying, broadcasting, selecting and permuting forms complete with bits moved as their entries say, and
without flags: a repack of 16-bit elements moves pairs of bytes, SETFMT changes the tag alone. -/
def Obligations.VectorMoves : Prop :=
  ∀ (s : State) (d a b : BitVec 6) (f n : BitVec 4) (k m : BitVec 3) (imm : BitVec 12),
    (width (vtag s a) ≤ 16 → vtag s b = vtag s a →
      let wide : Bool := decide (width (vtag s a) = 16)
      let out (sel : List Nat) : List Effect := [toV s 2 d (picked (vreg s a) (vreg s b) sel) (vtag s a)]
      Both s (.unpklV0 d a b) (.unpklV1 d a b) (out (if wide then [0, 1, 4, 5] else [0, 4, 1, 5]))
      ∧ Both s (.unpkhV0 d a b) (.unpkhV1 d a b) (out (if wide then [2, 3, 6, 7] else [2, 6, 3, 7]))
      ∧ Both s (.packV0 d a b) (.packV1 d a b) (out (if wide then [0, 1, 4, 5] else [0, 2, 4, 6])))
    ∧ Both s (.setfmtV0 d a f) (.setfmtV1 d a f) [toV s 1 d (vreg s a) f]
    ∧ Both s (.vmovV0 d a) (.vmovV1 d a) [toV s 1 d (vreg s a) (vtag s a)]
    ∧ Both s (.vmoviV0 d imm) (.vmoviV1 d imm) [toV s 1 d (ofElems 32 (List.replicate 128 (imm.signExtend 32).toNat)) 0]
    ∧ Both s (.vbcstV0 d a b) (.vbcstV1 d a b) [toV s 4 d (moved (vreg s a) fun _ => (sreg s b).toNat % 128) (vtag s a)]
    ∧ Both s (.vextV0 d a b) (.vextV1 d a b) [toS s 4 d (BitVec.ofNat 64 (elem 32 (vreg s a) ((sreg s b).toNat % 128)))]
    ∧ (vtag s b = vtag s a →
      Both s (.vselV0 m d a b) (.vselV1 m d a b)
        [toV s 1 d (ofElems 8 ((List.range 512).map fun q => elem 8 (if (mreg s m).getLsbD q then vreg s a else vreg s b) q)) (vtag s a)])
    ∧ Both s (.vpermV0 d a b) (.vpermV1 d a b) [toV s 2 d (moved (vreg s a) fun j => j / 16 * 16 + elem 32 (vreg s b) j % 16) (vtag s a)]
    ∧ Both s (.vrotV0 d a n) (.vrotV1 d a n) [toV s 2 d (moved (vreg s a) fun j => j / 16 * 16 + (j % 16 + n.toNat) % 16) (vtag s a)]
    ∧ Both s (.xclV0 d a k) (.xclV1 d a k) [toV s 4 d (moved (vreg s a) fun j => (j / 16 + k.toNat) % 8 * 16 + j % 16) (vtag s a)]
    ∧ Both s (.xclbV0 d a k) (.xclbV1 d a k) [toV s 4 d (moved (vreg s a) fun j => k.toNat * 16 + j % 16) (vtag s a)]

/-- 08 R186, R187: on a source of an integer or floating-point tag VSCAN completes with the results of the prefixes of each sequence (for an
exclusive scan the empty prefix first), VRED with that of the whole sequence in every element, four cycles on within clusters and eight
across; the mask operations complete bit by bit. -/
def Obligations.ScansReductionsMasks : Prop :=
  ∀ (s : State) (d a : BitVec 6) (x e : BitVec 1) (o : BitVec 2) (p q r : BitVec 3),
    let t := vtag s a
    let mode := Mode.ofFrm (here s).ctx.frm
    let lat := if e = 1 then 8 else 4
    (Fmt.isInt t = true ∨ fpTag t = true →
      (let z := fromElems (width t) ((sequences e (width t) (vreg s a)).flatMap fun l =>
          let ps := prefixes t o mode l
          if x = 1 then (ps.2, 0) :: ps.1.dropLast else ps.1)
       Both s (.vscanV0 d a x e o) (.vscanV1 d a x e o) [toV s lat d z.1 t z.2])
      ∧ (let z := fromElems (width t) ((sequences e (width t) (vreg s a)).flatMap fun l =>
          let last := (prefixes t o mode l).1.getLastD (0, 0)
          l.map fun _ => last)
       Both s (.vredV0 d a e o) (.vredV1 d a e o) [toV s lat d z.1 t z.2]))
    ∧ Does s (.mkand p q r) [toM 1 p (mreg s q &&& mreg s r)]
    ∧ Does s (.mkor p q r) [toM 1 p (mreg s q ||| mreg s r)]
    ∧ Does s (.mknot p q) [toM 1 p (~~~ mreg s q)]

/-- 08 R186, R170: the result of every nonempty prefix of a sequence: for an integer tag its sum modulo 2^w, its greatest or its least element, the
empty prefix being 0 or the end of the range; for a floating-point sum the exact sum of its elements rounded once, whatever their order of
evaluation, the empty prefix being +0; for a floating-point maximum or minimum an extreme of its numbers, −0 below +0, or the canonical NaN where it
holds none, with NV for a signalling NaN in it, the empty prefix being −∞ or +∞. -/
def Obligations.PrefixResults : Prop :=
  ∀ (t : Tag) (m : Mode) (xs : List Nat) (k : Nat), k < xs.length → (∀ x ∈ xs, x < 2 ^ width t) →
    let pre := xs.take (k + 1)
    let result (o : BitVec 2) : Flagged Nat := (prefixes t o m xs).1.getD k (0, 0)
    (Fmt.isInt t = true →
      result 0 = (pre.sum % 2 ^ width t, 0)
      ∧ (∃ y ∈ pre, result 1 = (y, 0) ∧ ∀ z ∈ pre, extended t z ≤ extended t y)
      ∧ (∃ y ∈ pre, result 2 = (y, 0) ∧ ∀ z ∈ pre, extended t y ≤ extended t z)
      ∧ (prefixes t 0 m xs).2 = 0
      ∧ (∀ z < 2 ^ width t, extended t (prefixes t 1 m xs).2 ≤ extended t z ∧ extended t z ≤ extended t (prefixes t 2 m xs).2))
    ∧ (fpTag t = true →
      result 0 = ExactSum.round (fpFmt t) m (pre.foldl (ExactSum.add (fpFmt t)) ExactSum.start)
      ∧ (∀ ys : List Nat, ys.Perm pre → ExactSum.round (fpFmt t) m (ys.foldl (ExactSum.add (fpFmt t)) ExactSum.start) = result 0)
      ∧ (prefixes t 0 m xs).2 = 0
      ∧ (let f := fpFmt t
         let below (x y : Nat) : Prop :=
           let p := f.decode x
           let q := f.decode y
           p.order q < 0 ∨ p.order q = 0 ∧ (q.sign = true → p.sign = true)
         let flags : FFlags := if pre.any fun z => (f.decode z).isSig then FFlag.nv else 0
         ((∀ z ∈ pre, (f.decode z).isNan = true) → result 1 = (f.nanBits, flags) ∧ result 2 = (f.nanBits, flags))
         ∧ ((∃ z ∈ pre, (f.decode z).isNan = false) →
             (∃ y ∈ pre, (f.decode y).isNan = false ∧ result 1 = (asRead f y, flags) ∧ ∀ z ∈ pre, (f.decode z).isNan = false → below z y)
             ∧ ∃ y ∈ pre, (f.decode y).isNan = false ∧ result 2 = (asRead f y, flags) ∧ ∀ z ∈ pre, (f.decode z).isNan = false → below y z)
         ∧ (prefixes t 1 m xs).2 = f.withSign true f.infBits ∧ (prefixes t 2 m xs).2 = f.infBits))

/-! ## Vector access to scratchpad -/

namespace Sys2Proof.Claims

/-- The 4 bytes at each lane's address can be accessed at issue (08 R184, R185). -/
def lanesFree (s : State) (addrs : List Nat) : Prop := ∀ a ∈ addrs, spFree s 4 a 4

/-- None of them is poisoned. -/
def lanesSound (s : State) (addrs : List Nat) : Prop := ∀ a ∈ addrs, spSound s a 4

/-- The strided and the indexed addresses of the lanes, modulo 2^48. -/
def stridedAt (s : State) (a x : BitVec 4) : List Nat :=
  (List.range 128).map fun (j : Nat) => (((areg s a).toNat + (j : Int) * ((here s).ctx.getS x.toNat).toInt) % 2 ^ 48).toNat

def indexedAt (s : State) (a x : BitVec 4) : List Nat :=
  let v := (here s).ctx.getV x.toNat
  (List.range 128).map fun (j : Nat) =>
    let i := BitVec.ofNat 32 (elem 32 v j)
    (((areg s a).toNat + if (here s).ctx.getVTag x.toNat = 0 then i.toInt else (i.toNat : Int)) % 2 ^ 48).toNat

/-- The register whose lanes are the 4 bytes at each address. -/
def lanesAt (s : State) (addrs : List Nat) : VReg := ofElems 32 (addrs.map fun a => readBytes (here s).pool.sp a 4)

/-- The stores of the lanes, the highest lane number last. -/
def laneStores (s : State) (d : BitVec 6) (addrs : List Nat) : List Effect :=
  addrs.mapIdx fun j a => .spStore a 4 (elem 32 (vreg s d) j) 0

/-- The VLD of each format. -/
def vldForms (d : BitVec 6) (a : BitVec 4) (i : BitVec 8) : List (Instr × Tag) :=
  [(.vldInt32 d a i, 0), (.vldUint32 d a i, 1), (.vldFp32 d a i, 2), (.vldInt16 d a i, 3), (.vldUint16 d a i, 4), (.vldFp16 d a i, 5),
   (.vldBf16 d a i, 6), (.vldInt8 d a i, 7), (.vldUint8 d a i, 8), (.vldE4m3 d a i, 9), (.vldE5m2 d a i, 10), (.vldE8m0 d a i, 11)]

end Sys2Proof.Claims

/-- 08 R184: VLD of every format completes on 512 bytes at a multiple of 64, four cycles on and with its format's tag; VST stores them. -/
def Obligations.VectorWholeAccess : Prop :=
  ∀ (s : State) (d : BitVec 6) (a : BitVec 4) (i : BitVec 8),
    let ea := ((areg s a).toNat + i.toNat * 512) % 2 ^ 48
    spFree s 64 ea 512 →
    (spSound s ea 512 → ∀ f ∈ vldForms d a i, Does s f.1 [toV s 4 d (BitVec.ofNat 4096 (readBytes (here s).pool.sp ea 512)) f.2])
    ∧ Does s (.vst d a i) [.spStore ea 512 (vreg s d).toNat 0]

/-- 08 R184, R185: the strided and indexed forms complete when every lane's address can be accessed (indices read as signed under INT32, as
unsigned under UINT32): loads eight cycles on, stores lane after lane; VLDB completes four cycles on with its 4 bytes in every lane.
Of several stores of a bundle to one byte the last stands. -/
def Obligations.VectorLaneAccess : Prop :=
  ∀ (s : State) (d : BitVec 6) (a x f : BitVec 4),
    (let l := stridedAt s a x
     lanesFree s l → (lanesSound s l → Does s (.vlds d a x f) [toV s 8 d (lanesAt s l) f]) ∧ Does s (.vsts d a x) (laneStores s d l))
    ∧ (let l := indexedAt s a x
       lanesFree s l → (here s).ctx.getVTag x.toNat = 0 ∨ (here s).ctx.getVTag x.toNat = 1 →
       (lanesSound s l → Does s (.vldx d a x f) [toV s 8 d (lanesAt s l) f]) ∧ Does s (.vstx d a x) (laneStores s d l))
    ∧ (let ea := (((areg s a).toNat + ((here s).ctx.getS x.toNat).toInt) % 2 ^ 48).toNat
       spFree s 4 ea 4 → spSound s ea 4 →
       Does s (.vldb d a x f) [toV s 4 d (ofElems 32 (List.replicate 128 (readBytes (here s).pool.sp ea 4))) f])
    ∧ (∀ (j : Instr) (l : List (Nat × Nat × Nat)), Plain s →
        ∀ b, mapGet 0 (after s j (l.map fun q => .spStore q.1 q.2.1 q.2.2 0)).pool.sp b =
          match l.reverse.find? fun q => decide (q.1 ≤ b) && decide (b < q.1 + q.2.1) with
          | some q => BitVec.ofNat 8 (q.2.2 / 256 ^ (b - q.1))
          | none => mapGet 0 (here s).pool.sp b)

/-! ## Engine operations -/

namespace Sys2Proof.Claims

/-- An engine slot that reads e(e) raises no fault and finds room: the descriptor has the KIND it accepts, no reserved bit or code, a beacon
within its limits (06 R127, 18 R355); its own conditions hold (`p`); the scoreboard has entries for its ranges (03 R75), and no operand bank
is one that the bundle's other accesses use (03 R61). -/
def engineFree (s : State) (e : BitVec 6) (kind : Nat) (p : EngPart) : Prop :=
  descField (ereg s e) 0 3 0 = kind ∧ kindReserved kind (ereg s e) = false ∧ word0Faults (here s) (ereg s e) e = [] ∧ p.faults = []
    ∧ p.waits = []    ∧ (here s).sbUsed + p.ranges.length ≤ 32 ∧ ∀ b ∈ p.banks, b ∉ (here s).iss.banks

/-- The registers it reads, or writes, through its descriptor. -/
def engineMore (s : State) (e : BitVec 6) (p : EngPart) : List Use :=
  (if descField (ereg s e) 0 13 8 = 0 then [] else [rdD 0 (descField (ereg s e) 0 13 8)]) ++ p.reads

/-- It completes: the operation is issued with its operands and its operand's first line as read now (03 R76, 09 R195), its token and its scoreboard
ranges. -/
def Issues (s : State) (i : Instr) (name : OpName) (kind : Nat) (e : BitVec 6) (k : BitVec 3) (p : EngPart) : Prop :=
  engineFree s e kind p →
    Does s i
      (.engine name (slotPort i (here s).iss.port)
        { d := ereg s e, bcn := (here s).ctx.getS (descField (ereg s e) 0 13 8), s1 := p.s1, s2 := p.s2, s3 := p.s3, s4 := p.s4, qs := p.qs
          v := p.v, vtag := p.vtag, line := p.first.map (here s).readLine }
        ((here s).ctx.physK k.toNat) p.ranges :: p.effects)
      p.boundary (engineMore s e p)

/-- The unit of a slot holds fewer operations than it may (10 R215, 09 R194). -/
def roomFor (s : State) (i : Instr) (n : Nat) : Prop := (here s).portOps (slotPort i (here s).iss.port) < n

/-- A descriptor in force with PHC 0 (09 R190). -/
def plainArrival (s : State) (e : BitVec 6) : Prop := descField (ereg s e) 0 36 35 = 0

end Sys2Proof.Claims

/-- 10 R217-R222: copies, fills, bulk moves, gathers and scatters complete their issue when their descriptor is in order, their ranges lie where
the rules say, the quad positions they name hold members and the unit has room for another.  Once
the bundle has ended, any engine operation stands in its core's list with its operands as read at issue, its token is pending, and its ranges are in the
scoreboard. -/
def Obligations.CopiesIssue : Prop :=
  ∀ (s : State) (k x y z : BitVec 3) (e : BitVec 6),
    let c := here s
    let d := ereg s e
    (roomFor s (.cpy k x y z e) 8 → Issues s (.cpy k x y z e) .cpy 1 e k (copyPart false e s c d))
    ∧ (roomFor s (.cpym k x y z e) 8 → Issues s (.cpym k x y z e) .cpym 1 e k (copyPart true e s c d))
    ∧ (roomFor s (.fill k x y z e) 8 → Issues s (.fill k x y z e) .fill 1 e k (fillPart e s c d))
    ∧ (roomFor s (.bulk k x y z e) 8 → Issues s (.bulk k x y z e) .bulk 3 e k (bulkPart e s c d))
    ∧ (roomFor s (.gath k x y z e) 8 → Issues s (.gath k x y z e) .gath 2 e k (gatherPart false e s c d))
    ∧ (roomFor s (.scat k x y z e) 8 → Issues s (.scat k x y z e) .scat 2 e k (gatherPart true e s c d))
    ∧ (∀ (i : Instr) (name : OpName) (port : BitVec 3) (snap : Snap) (tok : Nat) (rs : List (Nat × Nat × Bool)), Plain s →
        let a := after s i [.engine name port snap tok rs]
        (∃ o : EngineOp, a.ops = c.ops ++ [o] ∧ o.id = c.nid ∧ o.name = name ∧ o.port = port ∧ o.snap = snap ∧ o.tok = tok ∧ o.done = false
          ∧ o.fault = none ∧ o.held = false)
        ∧ (tok ≠ 0 → a.ctx.tokenDone tok = false) ∧ (∀ j ≠ tok, a.ctx.tokenDone j = c.ctx.tokenDone j)
        ∧ a.sb = c.sb ++ rs.map (fun r => { op := c.nid, slot := none, lo := r.1, hi := r.2.1, dest := r.2.2, home := none })
        ∧ (name ≠ .gath → a.pool = c.pool) ∧ a.pool.sp = c.pool.sp ∧ a.mq = c.mq ∧ a.pipe = [])

/-- 10 R245-R247, 13 R290: packets and bank launches complete their issue when their descriptor is in order, the tree has the issuing core as a
member, or s(CHS) has a level 1 leaf of a stack. -/
def Obligations.PacketsAndBanksIssue : Prop :=
  ∀ (s : State) (k x y z : BitVec 3) (e : BitVec 6),
    let c := here s
    let d := ereg s e
    Issues s (.rpkX k x y z e) .rpkX 6 e k (packetPart e s c d)
    ∧ Issues s (.rpkF k x y z e) .rpkF 6 e k (packetPart e s c d)
    ∧ ((∃ pa, (s.bankLeaf s.cur (descS c d 1 5 0).toNat).2 = .ok pa) →
      Issues s (.bankld k x y z e) .bankld 7 e k (bankldPart e s c d) ∧ Issues s (.bankgo k x y z e) .bankgo 7 e k (bankgoPart e s c d))

/-- 09 R190-R213, first part: multiplies, bags and the weight instructions complete their issue when the descriptor is in order with PHC 0, their
operands' formats, rows and offsets are as their entries allow, and the unit holds fewer than 16 operations; MSWAP reads no descriptor. -/
def Obligations.BagMultipliesIssue : Prop :=
  ∀ (s : State) (k x y z : BitVec 3) (e : BitVec 6),
    let c := here s
    let d := ereg s e
    let m := matDesc d
    (plainArrival s e →
      (roomFor s (.mmul k x y z e) 16 → Issues s (.mmul k x y z e) .mmul 4 e k (mulPart false e s c d))
      ∧ (roomFor s (.mmuls k x y z e) 16 → Issues s (.mmuls k x y z e) .mmuls 4 e k (mulPart true e s c d))
      ∧ (roomFor s (.mbagAcc k x y z e) 16 → Issues s (.mbagAcc k x y z e) .mbagAcc 4 e k (bagPart e s c d))
      ∧ (roomFor s (.mbagSteer k x y z e) 16 → Issues s (.mbagSteer k x y z e) .mbagSteer 4 e k (bagPart e s c d))
      ∧ (roomFor s (.mldw k x y z e) 16 → weightFmt m.wfmt = true →
        (m.opt = true → mapGet Fmt.int16 c.pool.ttag m.treg = m.wfmt →
          Issues s (.mldw k x y z e) .mldw 5 e k { s1 := ops1 c d, s2 := ops2 c d })
        ∧ (m.opt = false →
          let p := operandPart s c e d (tileRows m.wfmt (tileRow (ops1 c d) (ops2 c d) 0))
          Issues s (.mldw k x y z e) .mldw 5 e k { p with s1 := ops1 c d, s2 := ops2 c d }))
      ∧ (let o := (ops1 c d).toNat % 2 ^ 32
        roomFor s (.mcode k x y z e) 16 → o % 1024 = 0 → o + 1024 ≤ spSize c.ctx.pw →
        Issues s (.mcode k x y z e) .mcode 5 e k
          { s1 := ops1 c d, reads := [rdD 0 (descField d 1 9 4)], ranges := [(o, o + 1023, false)] }))
    ∧ (roomFor s (.mswap k x y z) 16 →
      Does s (.mswap k x y z) [.engine .mswap (slotPort (.mswap k x y z) c.iss.port) { d := 0 } (c.ctx.physK k.toNat) []])

/-- 09 R190-R213, second part: the instructions that prepare, read out and move rows and tiles complete their issue under the conditions of their
entries; those that name a tile give it its tag at issue (09 R192). -/
def Obligations.BagRowsIssue : Prop :=
  ∀ (s : State) (k x y z : BitVec 3) (e : BitVec 6),
    let c := here s
    let d := ereg s e
    let m := matDesc d
    let inWindow := m.arow + m.nrow ≤ windowRows c.ctx.pw
    let o := outs c d
    let pitch := (ops2 c d).toNat % 2 ^ 16
    let toScratch (rows : List (Nat × Nat)) : EngPart :=
      { rowsPart c.ctx.pw rows true true with reads := [rdD 0 (descField d 1 15 10), rdD 0 (descField d 3 11 6)], s2 := ops2 c d, s3 := o }
    plainArrival s e →
      (roomFor s (.mzero k x y z e) 16 → inWindow → adef m.afmt m.wfmt ≠ .reserved → (adef m.afmt m.wfmt = .named → m.qsv = true) →
        anchorOk (zeroAnchor m (c.ctx.getQs m.qs)) = true →
        Issues s (.mzero k x y z e) .mzero 4 e k { reads := if m.qsv then [rdD 8 m.qs] else [], qs := c.ctx.getQs m.qs })
      ∧ (roomFor s (.manch k x y z e) 16 → inWindow → Issues s (.manch k x y z e) .manch 4 e k {})
      ∧ (roomFor s (.maddv k x y z e) 16 → inWindow → (c.ctx.getVTag m.vb = Fmt.fp32 ∨ c.ctx.getVTag m.vb = Fmt.int32) →
        Issues s (.maddv k x y z e) .maddv 4 e k { reads := [rdD 1 m.vb], v := c.ctx.getV m.vb, vtag := c.ctx.getVTag m.vb })
      ∧ (roomFor s (.mrd k x y z e) 16 → inWindow → m.nrow ≤ 128 → readFmt m.ofmt = true → (is32 m.ofmt = true → m.otreg % 2 = 0) →
        Issues s (.mrd k x y z e) .mrd 4 e k
          { effects := if is32 m.ofmt then [.ttag m.otreg Fmt.uint16, .ttag (m.otreg + 1) Fmt.uint16] else [.ttag m.otreg m.ofmt] })
      ∧ (roomFor s (.mst k x y z e) 16 → inWindow → readFmt m.ofmt = true →
        (let w := if is32 m.ofmt then 4 else 2
         o.toNat % w = 0 → pitch % w = 0 → Issues s (.mst k x y z e) .mst 4 e k (toScratch (outRows o (ops2 c d) m.nrow (128 * w)))))
      ∧ (roomFor s (.mstat k x y z e) 16 → inWindow → m.nrow ≤ 128 → m.vd ≤ 61 →
        Issues s (.mstat k x y z e) .mstat 4 e k
          { reads := [wrD 1 m.vd, wrD 1 (m.vd + 1), wrD 1 (m.vd + 2)], s1 := BitVec.ofNat 64 (c.ctx.physV m.vd)
            s2 := BitVec.ofNat 64 (c.ctx.physV (m.vd + 1)), s3 := BitVec.ofNat 64 (c.ctx.physV (m.vd + 2)) })
      ∧ (roomFor s (.mldt k x y z e) 16 → Issues s (.mldt k x y z e) .mldt 4 e k (moveIn false e s c d))
      ∧ (roomFor s (.mtrl k x y z e) 16 → Issues s (.mtrl k x y z e) .mtrl 4 e k (moveIn true e s c d))
      ∧ (roomFor s (.mstt k x y z e) 16 →
        (if is32 m.ofmt then m.treg % 2 = 0 ∧ mapGet Fmt.int16 c.pool.ttag m.treg = Fmt.uint16 ∧ mapGet Fmt.int16 c.pool.ttag (m.treg + 1) = Fmt.uint16
         else mapGet Fmt.int16 c.pool.ttag m.treg = m.ofmt) →
        Issues s (.mstt k x y z e) .mstt 4 e k (toScratch (tileOut m o (ops2 c d))))

/-! ## The memory port and the software cache -/

namespace Sys2Proof.Claims

/-- `n` bytes from a virtual address, aligned, are passed by translation for `want`: `ps` are their places, one for each 64-byte line. -/
def placed (s : State) (want : Want) (align ea va n : Nat) (ps : List Piece) : Prop :=
  ea % align = 0 ∧ ps.map (fun p => (va + p.off, p.n)) = pieces 64 (n / 64 + 2) va n
    ∧ ∀ p ∈ ps, s.xlateCore s.cur want (va + p.off) = .ok p.target

/-- zext(a(A), 52). -/
abbrev addr (s : State) (a : BitVec 4) : Nat := (areg s a).toNat

/-- A landing entry is free, and `n` entries of the write queue are (03 R60, 10 R227). -/
def landingFree (s : State) : Prop := (here s).land.length < 64
def queueFree (s : State) (n : Nat) : Prop := (here s).queued + n ≤ 64

/-- No line of a load is held on its way: by a stop, a used-up budget or a full queue (01 R28, R29, 03 R60). -/
def loadFree (s : State) (ps : List Piece) : Prop := ∀ p ∈ ps, s.loadHeld (s.partOfCore s.cur) p.target = false

/-- The plain atomics, with their operation. -/
def atomicForms (d : BitVec 6) (a : BitVec 4) (w : BitVec 2) (k z : BitVec 3) : List (Instr × AtomOp) :=
  [(.aadd d a w k z, .add), (.aaddf d a w k z, .addf), (.amin d a w k z, .min), (.amax d a w k z, .max), (.aand d a w k z, .and),
   (.aor d a w k z, .or), (.axor d a w k z, .xor)]

/-- The quantising atomics, with the format of their element. -/
def quantForms (d : BitVec 6) (a : BitVec 4) (w : BitVec 2) (k q : BitVec 3) : List (Instr × FFmt) :=
  [(.aaddqFp32 d a w k q, .fp32), (.aaddqBf16 d a w k q, .bf16), (.aaddqFp16 d a w k q, .fp16)]

/-- The block of 4,096 bytes that a(A) names (10 R223). -/
abbrev block (s : State) (a : BitVec 4) : Nat := addr s a / 4096 * 4096

/-- It translates for `want`. -/
def blockPlaced (s : State) (want : Want) (a : BitVec 4) (p : PAddr) : Prop := s.xlateCore s.cur want (block s a) = .ok p

/-- What the memory port has taken in once a bundle has ended: requests of these kinds, classes, pieces, data, scopes and orderings, after those it held;
of those, only which later atomics they merge with may have changed (10 R232). -/
def Takes (s : State) (d : Core) (l : List (ReqKind × Nat × Piece × Nat × BitVec 3 × Bool × Bool)) : Prop :=
  ∃ old new : List MemReq, d.mq = old ++ new
    ∧ old.map (fun r => { r with merges := false }) = (here s).mq.map (fun r => { r with merges := false })
    ∧ new.map (fun r => (r.kind, r.cls, r.piece, r.data, r.scope, r.acq, r.rel)) = l ∧ ∀ r ∈ new, r.sent = false ∧ r.psn = false

end Sys2Proof.Claims

/-- 10 R227, R228: loads complete their issue on an aligned address that translates and is not held, with a landing entry for the register at the
distance they name (0 for an acquire), in the class of their form.
Once the bundle has ended, the landing is a bundle nearer, or due, and a request for each line is in the port, an acquiring one of an LDA. -/
def Obligations.LoadsIssue : Prop :=
  ∀ (s : State) (l : BitVec 2) (d : BitVec 6) (a : BitVec 4) (o : BitVec 5) (z : BitVec 3) (ps : List Piece), landingFree s → loadFree s ps →
    let ea := addr s a
    let n := 2 ^ z.toNat
    let v := 512 / 2 ^ z.toNat
    let dest := (here s).ctx.physS d.toNat
    (placed s .read n ea ea n ps → Does s (.ldg l d a o z) [.load ps l.toNat 0 dest o.toNat z 4] ∧ Does s (.ldgi d a o z) [.load ps 5 0 dest o.toNat z 4])
    ∧ (placed s .read 64 ea ea v ps → Does s (.ldgv d a o z) [.load ps 0 1 ((here s).ctx.physV d.toNat) o.toNat z 4])
    ∧ (placed s .read 8 ea ea 8 ps → z ≠ 5 → Does s (.lda d a z) [.load ps 4 0 dest 0 3 z])
    ∧ (∀ (i : Instr) (ps : List Piece) (cls file dest dist : Nat) (scope : BitVec 3), Plain s →
        let a := after s i [.load ps cls file dest dist z scope]
        a.land = [{ id := (here s).nid, file := file, dest := dest, left := dist - 1, due := decide (dist = 0), sz := z, data := none
                    need := ps.length, part := 0, psn := false }]
        ∧ Takes s a (ps.map fun p => (.load (here s).nid, cls, p, 0, scope, decide (cls = 4), false))
        ∧ a.pool = (here s).pool ∧ a.pipe = [] ∧ a.ctx = goesOn s (here s).ctx)

/-- 10 R227, R228: stores complete their issue on an aligned base address, with their offset scaled by their size, when their lines translate for
writing and the write queue has room.  Once the bundle has ended, a request for each line is in the port with
its bytes, a releasing one of an STL. -/
def Obligations.StoresIssue : Prop :=
  ∀ (s : State) (l : BitVec 2) (d : BitVec 6) (a : BitVec 4) (o : BitVec 5) (z : BitVec 3) (ps : List Piece), queueFree s ps.length →
    let ea := addr s a
    let n := 2 ^ z.toNat
    let v := 512 / 2 ^ z.toNat
    (placed s .write n ea (ea + o.toNat * n) n ps → Does s (.stg l d a o z) [.store ps l.toNat (sreg s d).toNat 0 4])
    ∧ (placed s .write 64 ea (ea + o.toNat * v) v ps → Does s (.stgv d a o z) [.store ps 0 (vreg s d).toNat 0 4])
    ∧ (placed s .write 8 ea (ea + o.toNat * 8) 8 ps → z ≠ 5 → Does s (.stl d a o z) [.store ps 4 (sreg s d).toNat 0 z])
    ∧ (∀ (i : Instr) (ps : List Piece) (cls data : Nat) (scope : BitVec 3), Plain s →
        let a := after s i [.store ps cls data 0 scope]
        Takes s a (ps.map fun p => (.store, cls, p, bytesOf data p.off p.n, scope, false, decide (cls = 4)))
        ∧ a.land = [] ∧ a.pool = (here s).pool ∧ a.pipe = [] ∧ a.ctx = goesOn s (here s).ctx)

/-- 10 R230, R231: atomics complete their issue on an aligned element that translates for writing, at a scope other than bank, with room in the
queue; the exchanging ones also with a landing entry for the old value, and AADDQ with the element quantised under its scale register.
Once the bundle has ended, an ordered or exchanging atomic is a request of its own, an exchanging one with its landing; a relaxed one is one
too, or, where one to its line waits, may have merged with it (10 R232). -/
def Obligations.AtomicsIssue : Prop :=
  ∀ (s : State) (d : BitVec 6) (a : BitVec 4) (w : BitVec 2) (k z q : BitVec 3) (p : Piece), queueFree s 1 → k ≠ 5 →
    let ea := addr s a
    let x := sreg s d
    let ordered := decide (w ≠ 0)
    (placed s .write (atomBytes z) ea ea (atomBytes z) [p] →
      (∀ f ∈ atomicForms d a w k z, Does s f.1 [.atomic f.2 z p x.toNat 0 none k w] ordered)
      ∧ (landingFree s →
        Does s (.axch d a w k z) [.atomic .xch z p x.toNat 0 (some ((here s).ctx.physS d.toNat)) k w] true
        ∧ (d.toNat % 2 = 0 → d ≠ 0 →
          Does s (.acas d a w k z) [.atomic .cas z p x.toNat ((here s).ctx.getS (d.toNat + 1)) (some ((here s).ctx.physS d.toNat)) k w] true)))
    ∧ (placed s .write 8 ea ea 8 [p] → ∀ f ∈ quantForms d a w k q,
      let r := quantise ((here s).ctx.getQs q.toNat) (f.2.decode (x.toNat % 2 ^ f.2.width))
      Does s f.1 [.atomic .add 3 p (BitVec.ofInt 64 r.1).toNat 0 none k w, .orFlags r.2] ordered (scaleReads q.toNat))
    ∧ (∀ (i : Instr) (op : AtomOp) (data : Nat) (x2 : BitVec 64) (p : Piece), Plain s →
        let c := here s
        let entry (l : Option Nat) : ReqKind × Nat × Piece × Nat × BitVec 3 × Bool × Bool :=
          (.atomic op z x2 l, 4, p, data, k, w.getLsbD 0, w.getLsbD 1)
        (w ≠ 0 → let a := after s i [.atomic op z p data x2 none k w]
          Takes s a [entry none] ∧ a.land = [] ∧ a.ctx = goesOn s c.ctx)
        ∧ (∀ r, let a := after s i [.atomic op z p data x2 (some r) k w]
          Takes s a [entry (some c.nid)] ∧ a.ctx = goesOn s c.ctx
          ∧ ∃ l : Landing, a.land = [l] ∧ l.id = c.nid ∧ l.file = 0 ∧ l.dest = r ∧ l.data = none ∧ l.bytes = if p.n = 4 then 4 else 8)
        ∧ (w = 0 → x2 = 0 → let a := after s i [.atomic op z p data 0 none k 0]
          a.land = [] ∧ a.ctx = goesOn s c.ctx ∧ ((∀ r ∈ c.mq, lineOf r.piece.target ≠ lineOf p.target) → Takes s a [entry none])))

/-- 10 R223-R225: PROBE and PROBEI complete on a block that translates: on a hit s(d) := the slot's offset and the pair says so; on a miss with an
eligible way the fill is issued, with s(d) := its slot; with none, s(d) := −1.  PWB, PINV and PPIN act on the way that holds the block, and
have no effect without one.  Once the bundle has ended, a missed way is filling for the block, its slot a destination in the
scoreboard; a dirty way that PWB names is being written back, its slot a source; PINV's way is invalid, or is when its fill ends; PPIN's has the pin. -/
def Obligations.CacheSlotsComplete : Prop :=
  ∀ (s : State) (r : BitVec 3) (d : BitVec 6) (a : BitVec 4) (n : BitVec 1) (home : PAddr),
    let c := here s
    let b := block s a
    let set := b / 4096 % 64
    let tag : BitVec 34 := BitVec.ofNat 34 (b / 2 ^ 18)
    let slot (w : Nat) : BitVec 64 := BitVec.ofNat 64 (plainSize c.ctx.pw + (w * 64 + set) * 4096)
    let out (miss : Bool) (x : BitVec 64) : List Effect := [toS s 1 d x, toP s (2 * r.toNat) miss, toP s (2 * r.toNat + 1) (!miss)]
    (blockPlaced s .read a home →
      (∀ w, c.findBlock b = some w →
        Does s (.probe r d a) (.probe set w none tag false :: out false (slot w)) ∧ Does s (.probei r d a) (.probe set w none tag true :: out false (slot w))
        ∧ Does s (.pinv a) [.pinv set w] ∧ Does s (.ppin a n) [.ppin set w (decide (n = 1))])
      ∧ (c.findBlock b = none →
        (∀ w, c.victim set = some w → c.sbUsed < 32 →
          Does s (.probe r d a) (.probe set w (some home) tag false :: out true (slot w))
          ∧ Does s (.probei r d a) (.probe set w (some home) tag true :: out true (slot w)))
        ∧ (c.victim set = none → Does s (.probe r d a) (out true (BitVec.allOnes 64)) ∧ Does s (.probei r d a) (out true (BitVec.allOnes 64)))
        ∧ Does s (.pinv a) [] ∧ Does s (.ppin a n) [] ∧ Does s (.pwb a) []))
    ∧ (∀ w, c.findBlock b = some w →
      (let dirty := (c.tag set w).st = 2 ∧ (c.tag set w).dirty = true
       (dirty → blockPlaced s .write a home → c.sbUsed < 32 → Does s (.pwb a) [.pwb set w home])
       ∧ (¬ dirty → blockPlaced s .read a home → Does s (.pwb a) [.pwb set w home])))
    ∧ (∀ (i : Instr) (w : Nat) (inv pin : Bool), Plain s →
        let off := plainSize c.ctx.pw + (w * 64 + set) * 4096
        let keeps (a : Core) : Prop := ∀ q v, v ≠ w ∨ q ≠ set → q < 64 → a.tag q v = c.tag q v
        (let a := after s i [.probe set w (some home) tag inv]
         a.tag set w = { st := 1, dirty := false, pin := false, blk := tag, drop := false, inv := inv, home := home } ∧ keeps a
         ∧ a.sb = c.sb ++ [{ op := c.nid, slot := some (64 * w + set), lo := off, hi := off + 4095, dest := true, home := none }])
        ∧ (let a := after s i [.probe set w none tag inv]
           a.pool.tagt = c.pool.tagt ∧ a.sb = c.sb)
        ∧ (let a := after s i [.pwb set w home]
           let dirty := (c.tag set w).st = 2 ∧ (c.tag set w).dirty = true
           keeps a ∧ (¬ dirty → a.pool = c.pool ∧ a.sb = c.sb)
           ∧ (dirty → a.tag set w = { c.tag set w with st := 3, dirty := false }
              ∧ a.sb = c.sb ++ [{ op := c.nid, slot := some (64 * w + set), lo := off, hi := off + 4095, dest := false, home := some home }]))
        ∧ (let a := after s i [.pinv set w]
           keeps a ∧ a.sb = c.sb
           ∧ a.tag set w = if (c.tag set w).st = 1 then { c.tag set w with drop := true, pin := false } else Init.tagEntry)
        ∧ (let a := after s i [.ppin set w pin]
           keeps a ∧ a.sb = c.sb ∧ a.tag set w = { c.tag set w with pin := pin }))

/-! ## Drains, fences, waits, beacons and phases -/

/-- 10 R233-R235, R237, R239-R242: DRAIN completes once every global write of the member has performed; BFENCE of no bytes at once, and of
bytes once its markers are placed and retired; TWAIT, BWAIT and PHWAIT once their condition holds; BADD in scratchpad or global memory on an
aligned doubleword; PHASE on a header in order that has the issuer in its group.  Once the bundle has ended,
BADD's sum modulo 2^64 is in the scratchpad; PHASE's header is the posted phase of its colour, whose generation is inverted unless one was posted; PHWAIT
has taken the expected counts from those of the current colour, whose phase is no longer posted; the other waits have changed nothing. -/
def Obligations.SynchronisationCompletes : Prop :=
  ∀ (s : State) (k x y z : BitVec 3) (a : BitVec 4) (m t : BitVec 6) (p : Piece),
    let c := here s
    let ea := addr s a
    let off := ea % 2 ^ 23
    let met (p : Bool) : Prop := p = true ∨ c.ctx.waitOk = true
    (c.drained = true → Does s (.drain k) [] true)
    ∧ (sreg s m = 0 → Does s (.bfence a m) [])
    ∧ (sreg s m ≠ 0 → fenceWalk s ((sreg s m).toNat / 2 ^ 14 + 2) ea (sreg s m).toNat = none →
        c.fence = some (ea, (sreg s m).toNat, true) → s.markersOf s.cur = false → Does s (.bfence a m) [])
    ∧ (met (c.ctx.tokenDone (c.ctx.physK x.toNat) && c.ctx.tokenDone (c.ctx.physK y.toNat) && c.ctx.tokenDone (c.ctx.physK z.toNat)) →
        Does s (.twait x y z) [.waited])
    ∧ (ea % 8 = 0 → off + 8 ≤ spSize c.ctx.pw →
      (met (decide ((sreg s t).toNat ≤ readBytes c.pool.sp off 8)) → Does s (.bwait a 1 t) [.waited])
      ∧ (spSound s off 8 → Does s (.badd k a 1 t) [.spAdd off (sreg s t)]))
    ∧ (placed s .read 8 ea ea 8 [p] → c.ownWrite p.target = false → met (c.polled (sreg s t).toNat) → Does s (.bwait a 0 t) [.waited])
    ∧ (placed s .write 8 ea ea 8 [p] → queueFree s 1 → Does s (.badd k a 0 t) [.atomic .add 3 p (sreg s t).toNat 0 none k 0])
    ∧ (let o := (sreg s t).toNat
       let h : BitVec 256 := BitVec.ofNat 256 (readBytes c.pool.sp o 32)
       spFree s 32 o 32 → spSound s o 32 → 2 ≤ (h.extractLsb' 0 2).toNat → h.extractLsb' 2 14 = 0 → h.extractLsb' 32 32 = 0 → h.extractLsb' 192 64 = 0 →
       h.getLsbD (16 + s.cur.toNat % 16) = true → Does s (.phase t) [.phase h])
    ∧ (met (s.phaseMet (cbOf s.cur) c.ctx (localOf s.cur)) → Does s .phwait [.phwait, .waited])
    ∧ (∀ i : Instr, Plain s →
        (∀ l x : Nat, ∀ v : BitVec 64, mapGet 0 (after s i [.spAdd l v]).pool.sp x =
          if l ≤ x ∧ x < l + 8 then BitVec.ofNat 8 ((readBytes c.pool.sp l 8 + v.toNat) % 2 ^ 64 / 256 ^ (x - l)) else mapGet 0 c.pool.sp x)
        ∧ (∀ h : BitVec 256,
          let a := (after s i [.phase h]).ctx
          let col : BitVec 2 := h.truncate 2
          let old := c.ctx.colour col
          a.cur = col ∧ a.colour col = { old with hdr := h, posted := true, gen := if old.posted then old.gen else !old.gen, held := false }
          ∧ ∀ other : BitVec 2, (col = 2 ↔ other ≠ 2) → a.colour other = c.ctx.colour other)
        ∧ (let a := (after s i [.phwait, .waited]).ctx
           let p := c.ctx.colour c.ctx.cur
           a.cur = c.ctx.cur
           ∧ (c.ctx.cur ≠ 0 → p.posted = true → a.colour c.ctx.cur =
              { p with copies := p.copies - p.hdr.extractLsb' 64 32, packets := p.packets - p.hdr.extractLsb' 96 32
                       banks := p.banks - p.hdr.extractLsb' 128 32, stores := p.stores - p.hdr.extractLsb' 160 32, posted := false, held := true })
           ∧ (c.ctx.cur = 0 ∨ p.posted = false → a = goesOn s c.ctx))
        ∧ (after s i [.waited]).ctx = goesOn s c.ctx)

/-! ## Bank micro-ops -/

namespace Sys2Proof.Claims

/-- The bank at hand, and a state that differs in it alone. -/
abbrev bankHere (s : State) : Bank := s.bankAt s.curBank.1.toNat s.curBank.2.1.toNat s.curBank.2.2.toNat
abbrev withBank (s : State) (b : Bank) : State := s.setBankAt s.curBank.1.toNat s.curBank.2.1.toNat s.curBank.2.2.toNat b

/-- It runs program `g`. -/
def bankOn (s : State) (g : Program) : Prop :=
  (s.chan s.curBank.1.toNat s.curBank.2.1.toNat).prog = some g ∧ (bankHere s).ended = false

/-- And the micro-op at hand joins its group at once, finding room in its row's slots: `c` is the bank once it has joined (13 R288). -/
def bankRuns (s : State) (column : Bool) (g : Program) (c : Bank) : Prop :=
  bankOn s g ∧ (bankHere s).join column s.ns (s.stack s.curBank.1.toNat).tCcd = .ok c

/-- Scalar `k` of the bank's pseudo-channel. -/
abbrev scalar (s : State) (k : BitVec 3) : Nat := (mapGet 0 (s.chan s.curBank.1.toNat s.curBank.2.1.toNat).scal k.toNat).toNat

/-- `i` completes on the bank: accumulator `d` takes `f` lane by lane and the mark `g`; the micro-op after it is next, and nothing else changes. -/
def Accumulates (s : State) (i : Instr) (c : Bank) (d : BitVec 2) (f : Nat → Nat) (lost : Nat → Bool) : Prop :=
  ∃ b : Bank, exec i s = .next (withBank s b)
    ∧ (∀ j < 8, b.lane d j = f j % 2 ^ 32 ∧ b.lost d j = lost j) ∧ (∀ e ≠ d, ∀ j < 8, b.lane e j = c.lane e j ∧ b.lost e j = c.lost e j)
    ∧ b = { c with acc := b.acc, bad := b.bad, mpc := c.mpc + 1 }

end Sys2Proof.Claims

/-- 13 R287: MAC, ADD and SCL complete on a bank that runs a program: every lane of acc[d] is rounded once to FP32 (to nearest even), a result of a
marked lane is marked (20 R391), and neither memory nor any other accumulator changes. -/
def Obligations.BankArithmetic : Prop :=
  ∀ (s : State) (d a : BitVec 2) (k : BitVec 3) (g : Program) (c : Bank), bankRuns s false g c →
    Accumulates s (.uopMac d a k) c d (fun j => (fmaElem .fp32 .rne (c.lane a j) (scalar s k) (c.lane d j)).1) (fun j => c.lost d j || c.lost a j)
    ∧ Accumulates s (.uopAdd d a) c d (fun j => (faddElem .fp32 .rne (c.lane d j) (c.lane a j)).1) (fun j => c.lost d j || c.lost a j)
    ∧ Accumulates s (.uopScl d a k) c d (fun j => (fmulElem .fp32 .rne (c.lane a j) (scalar s k)).1) (fun j => c.lost a j)

/-- 13 R287, 20 R391: with a row open RDC and WRC complete on the column COLP + o: RDC loads the accumulator with the latest bytes of the column, FP32
as they stand or a half of BF16 elements widened, every lane marked and the poison consumed where the column is poisoned; WRC, whose bank's queue has
an entry for it, queues the column's new bytes. -/
def Obligations.BankColumns : Prop :=
  ∀ (s t : State) (a : BitVec 2) (o : BitVec 5) (f : BitVec 2) (g : Program) (c : Bank) (row x : Nat) (psn : Bool),
    bankRuns s true g c → c.row = some row → (bankHere s).row = some row →
    let k := s.curBank.1.toNat
    let pc := s.curBank.2.1.toNat
    let bank := s.curBank.2.2.toNat
    let col := (c.colp + o).toNat
    (s.chargeEngine k pc bank).colLatest k pc bank row col = (t, x, psn) →
    (∃ b : Bank, exec (.uopRdc a o f) s = .next
          (if psn then (t.setBankAt k pc bank b).bankConsumes k pc bank row col g.launch else t.setBankAt k pc bank b)
      ∧ (∀ j < 8, b.lost a j = psn
        ∧ (f = 0 → b.lane a j = x / 2 ^ (32 * j) % 2 ^ 32)
        ∧ ((f = 2 ∨ f = 3) → b.lane a j = (rounded .fp32 .rne (FFmt.decode .bf16 (x / 2 ^ (128 * (f.toNat - 2) + 16 * j) % 2 ^ 16), 0)).1 % 2 ^ 32))
      ∧ (∀ e ≠ a, ∀ j < 8, b.lane e j = c.lane e j ∧ b.lost e j = c.lost e j) ∧ b = { c with acc := b.acc, bad := b.bad, mpc := c.mpc + 1 })
    ∧ (s.wrcWaits k pc bank c = false → ∃ y : Nat,
      exec (.uopWrc a o f) s = .next ((t.setBankAt k pc bank { c with mpc := c.mpc + 1 }).queueWrite k pc bank row col y
        (((List.range 8).any fun j => c.lost a j) || (psn && decide (f ≠ 0))))
      ∧ ∀ j < 8,
        (f = 0 → y / 2 ^ (32 * j) % 2 ^ 32 = c.lane a j)
        ∧ ((f = 2 ∨ f = 3) → y / 2 ^ (128 * (f.toNat - 2) + 16 * j) % 2 ^ 16 = (rounded .bf16 .rne (FFmt.decode .fp32 (c.lane a j), 0)).1 % 2 ^ 16
          ∧ y / 2 ^ (128 * (3 - f.toNat) + 16 * j) % 2 ^ 16 = x / 2 ^ (128 * (3 - f.toNat) + 16 * j) % 2 ^ 16))

/-- 13 R286-R289: the pointer, loop and row micro-ops complete: NCOL adds to COLP modulo 32; LOOPC jumps to T until it has run its n times (0 for
128); ROWEND takes its slot when it is its group's fourth, and then, once the last slot has ended and tRAS is met, closes the row and goes to T for
another; ACT closes a row that is open, and opens the next one when nothing stands at the boundary, no other ACT waits and fewer than 24 places are
taken, by open rows and by ACTs of lower banks that are ready too; WAITS stops the bank until the others wait; END closes the row and ends the bank.
That an ACT or END met with a row open joins no group and takes no slot is the model's choice (DESIGN CHOICE, log 48): 13 R288 groups what stands between
a row's ACT and its ROWEND. -/
def Obligations.BankControl : Prop :=
  ∀ (s : State) (n : BitVec 5) (m : BitVec 7) (g : Program), bankOn s g →
    let k := s.curBank.1.toNat
    let pc := s.curBank.2.1.toNat
    let bank := s.curBank.2.2.toNat
    let b := bankHere s
    let limit := if m = 0 then 128 else m.toNat
    let shut := s.closeProgramRow k pc bank
    let next := { (shut.bankAt k pc bank) with rowi := ((shut.bankAt k pc bank).rowi + 1) % 2 ^ 16, colp := 0, lcnt := 0 }
    let mayEnd : Prop := b.row = none ∨ s.mayClose k pc bank = true
    (∀ c, bankRuns s false g c →
      exec (.uopNcol n) s = .next (withBank s { c with colp := c.colp + n, mpc := c.mpc + 1 })
      ∧ exec (.uopLoopc m) s = .next (withBank s
        (if c.lcnt + 1 < limit then { c with lcnt := c.lcnt + 1, mpc := s.uopT } else { c with lcnt := 0, mpc := c.mpc + 1 }))
      ∧ (b.row ≠ none → b.group = 3 → exec .uopRowend s = .next (withBank s { c with group := 4 })))
    ∧ (mayEnd → (b.row ≠ none → b.group ≠ 3) →
        exec .uopRowend s = .next (shut.setBankAt k pc bank
          (if next.rowi < g.launch.nrow then { next with mpc := s.uopT } else { next with mpc := next.mpc + 1 })))
    ∧ (b.rowi < g.launch.nrow →
        (b.row ≠ none → s.mayClose k pc bank = true → exec .uopAct s = .next shut)
        ∧ (b.row = none → mapGet 0 (s.chan k pc).rows bank = 0 → s.boundary k pc bank g = .ready →
            (s.chan k pc).openRows s.ns + s.readyBelow k pc bank g < 24 → (s.chan k pc).actsWait = false →
          exec .uopAct s = .next (s.activate k pc bank g) ∧ ((s.activate k pc bank g).bankAt k pc bank).row = some (g.launch.row0 + b.rowi)))
    ∧ (b.row = none → exec .uopWaits s = .next (withBank s { b with atWaits := true }))
    ∧ (mayEnd → exec .uopEnd s = .next ((s.endBank k pc bank).endProgram k pc))

/-- 13 R287, R288, 20 R390: a bank-engine fault stops the bank: a 33rd slot of a row, RDC or WRC with no row open, ACT past the launch's rows, WAITS
with a row open. -/
def Obligations.BankFaultsStop : Prop :=
  ∀ (s : State) (d a : BitVec 2) (sc : BitVec 3) (o n : BitVec 5) (f : BitVec 2) (m : BitVec 7) (g : Program), bankOn s g →
    let fault := s.bankFault s.curBank.1.toNat s.curBank.2.1.toNat s.curBank.2.2.toNat
    ((bankHere s).row ≠ none → 32 ≤ (bankHere s).slots → (bankHere s).slotEnd ≤ s.ns →
      exec (.uopRdc a o f) s = .next fault ∧ exec (.uopWrc a o f) s = .next fault
      ∧ ((bankHere s).group = 3 →
        ∀ i ∈ [Instr.uopMac d a sc, .uopAdd d a, .uopScl d a sc, .uopNcol n, .uopLoopc m, .uopRowend], exec i s = .next fault))
    ∧ ((bankHere s).row = none → exec (.uopRdc a o f) s = .next fault ∧ exec (.uopWrc a o f) s = .next fault)
    ∧ (g.launch.nrow ≤ (bankHere s).rowi → exec .uopAct s = .next fault)
    ∧ ((bankHere s).row ≠ none → exec .uopWaits s = .next fault)

/-! ## Events: the control window and bring-up -/

namespace Sys2Proof.Claims

/-- Event `i` completes with `t`. -/
abbrev Becomes (s : State) (i : Instr) (t : State) : Prop := exec i s = .next t

/-- Stop does not hold channel 2 of the link bulkhead at which the access arrives (01 R29). -/
def heard (s : State) : Prop := s.stopped (24 + s.inp.port.toNat / 4) 2 = false

/-- The owner's second of silence is not over (20 R395, R396). -/
def heldOwn (s : State) : Prop := s.ns < s.ctl.ownerAt + 1000000000

/-- Once READY is set, the owner's write of the event has this effect on the window, is acknowledged, is sequenced as an event and restarts the
owner's timer; nothing else changes (01 R30-R32, 20 R395). -/
def Written (s : State) (i : Instr) (f : Ctl → Ctl) : Prop :=
  heard s → s.ctl.bootst.getLsbD 0 = true → s.owner = some s.inp.fid → heldOwn s →
    Becomes s i { s.post (.controlWindow s.inp.fid) with ctl := { f { s.ctl with ownerAt := s.ns } with answer := some 0 } }

end Sys2Proof.Claims

/-- 01 R30-R32, R19, R25, R26, 15 R302: each write of the control window completes for the owner: a hand-off or release, a legal START (any other,
or one while BUSY, sets BAD alone), the ceiling clamped to 2,400-4,000 W, a window's words, a share; a stream register queues its record. -/
def Obligations.ControlWindowWrites : Prop :=
  ∀ s : State,
    let v := s.inp.v
    let n := v.toNat % 256
    let off := s.inp.off.toNat
    let j := s.inp.j.toNat
    let e := mapGet Init.windowEntry s.ctl.win j
    let w : WindowEntry := { w0 := v &&& windowMask0, w1 := e.w1, force0 := v &&& windowMask0, force1 := e.w1 }
    Written s .handoffWrite (fun c => { c with own := if v.getLsbD 16 then 0 else 0x10000 ||| (v &&& 0xFFF) })
    ∧ (s.ctl.pcfgst.getLsbD 0 = false → startLegal n = true →
        Written s .ptabWrite (fun c => { c with pcfgst := pcfgst true false (changing s.start n), pnew := BitVec.ofNat 8 n, pstep := 1 }))
    ∧ ((s.ctl.pcfgst.getLsbD 0 = true ∨ startLegal n = false) → Written s .ptabWrite (fun c => { c with pcfgst := c.pcfgst ||| 2 }))
    ∧ Written s .pceilWrite (fun c => { c with pceil := BitVec.ofNat 64 (min 4000 (max 2400 (v.toNat % 4096))) })
    ∧ (s.inp.flag = true → Written s .windowEntryWrite (fun c => { c with win := mapSet Init.windowEntry c.win j { e with w1 := v &&& windowMask1 } }))
    ∧ (s.inp.flag = false → Written s .windowEntryWrite (fun c =>
        { c with win := mapSet Init.windowEntry c.win j w }))
    ∧ (s.inp.flag = false → off % 8 = 0 → 0x0080 ≤ off → off ≤ 0x00B8 →
        Written s .controlWindowWrite (fun c => { c with pshare := mapSet 0 c.pshare ((off - 0x0080) / 8) (v &&& 0xFFF) }))
    ∧ (s.inp.p < 64 → heard s → s.ctl.bootst.getLsbD 0 = true → s.owner = some s.inp.fid → heldOwn s →
        let u : State := { s.post (.controlWindow s.inp.fid) with ctl := { s.ctl with ownerAt := s.ns } }
        Becomes s .streamWrite ((u.streamWrite s.inp.p v).answerCw (some 0)))

/-- 01 R31, R33, R34, R21, 17 R331, 20 R395, R396: the other events of the window and of bring-up complete: a compare-and-swap takes a free OWN; the
owner clears a record by its SEQ; ownership lapses a second after the owner's last flit, before a write of the owner in that very cycle, which is
refused; a partition change runs step by step; power-on with good images gives the state of reset with the firmware running, and each bring-up step
raises STAGE, the last READY.  That a clearing posts no event and a failed image is recorded in the spine's record 5 (log 11), that only the window in
force is dropped (log 31), and what resets, ends and gates of a partition change act on (log 25) are the model's choices. -/
def Obligations.OwnershipAndBringUp : Prop :=
  ∀ s : State,
    let c := s.ctl
    let seen : State := { s.post (.controlWindow s.inp.fid) with ctl := if s.owner = some s.inp.fid then { c with ownerAt := s.ns } else c }
    let nextStep (t : State) : State := { t with ctl := { t.ctl with pstep := t.ctl.pstep + 1 } }
    (heard s → c.bootst.getLsbD 0 = true → s.inp.off = 0 → (s.owner = none ∨ heldOwn s) →
      (c.own = s.inp.v → c.own.getLsbD 16 = false →
        Becomes s .ownCompareAndSwap { seen with ctl := { c with own := s.inp.v2 &&& 0x10FFF, ownerAt := s.ns, answer := some c.own } })
      ∧ (c.own ≠ s.inp.v ∨ c.own.getLsbD 16 = true →
        Becomes s .ownCompareAndSwap { seen with ctl := { seen.ctl with answer := some c.own } }))
    ∧ (s.owner = some s.inp.fid → heldOwn s → s.inp.b.toNat ≤ 32 → s.inp.id < recordCount s.inp.b.toNat →
        s.inp.v = (s.record s.inp.b.toNat s.inp.id).extractLsb' 192 64 →
        Becomes s .recordClear (({ s with ctl := { c with ownerAt := s.ns } } : State).setRecord s.inp.b.toNat s.inp.id 0))
    ∧ (∀ fid, s.owner = some fid → c.ownerAt + 1000000000 ≤ s.ns →
        (∃ t, Becomes s .ownerTimeout t ∧ t.ctl.own = 0 ∧ t.owner = none)
        ∧ (heard s → c.bootst.getLsbD 0 = true → s.inp.fid = fid → ∀ i ∈ [Instr.handoffWrite, .ptabWrite, .pceilWrite, .windowEntryWrite, .streamWrite],
            ∃ t, Becomes s i t ∧ t.owner = none ∧ t.ctl.answer = none))
    ∧ (c.pstep = 1 → Becomes s .partitionChangeStep (nextStep { s with ctl := c.dropWindows c.pending }))
    ∧ (c.pstep = 2 → Becomes s .partitionChangeStep
        (nextStep ((c.pending.filter fun k => decide (s.partOf k = k)).foldl State.endPartition (c.pending.foldl State.resetOctant s))))
    ∧ (c.pstep = 3 → Becomes s .partitionChangeStep (nextStep (c.pending.foldl State.zeroStack s)))
    ∧ (c.pstep = 4 → Becomes s .partitionChangeStep s.openGates)
    ∧ (s.inp.flag = true → ∃ t, Becomes s .packagePowerOn t ∧ t.stage = 2 ∧ t.powered = true
        ∧ t = { State.reset with turns := s.turns, inp := s.inp, powered := true, ctl := t.ctl })
    ∧ (s.inp.flag = false → ∃ t, Becomes s .packagePowerOn t ∧ t.stage = 1 ∧ t.cores = State.reset.cores
        ∧ fieldOf (t.record spineBank 5).toNat 31 16 = 0x0901)
    ∧ (s.stage = 2 → ∃ t, Becomes s .bringUpStepDone t ∧ t.stage = 3 ∧ ∀ k < 8, (t.stack k).cfg =
        if memCfgOk (s.inp.cfg.getD k Init.memCfg) then s.inp.cfg.getD k Init.memCfg else Init.memCfg)
    ∧ (s.stage = 3 → ∃ t, Becomes s .bringUpStepDone t ∧ t.stage = 4 ∧ ∀ k < 8, (t.stack k).beat = s.ns)
    ∧ (s.stage = 4 → c.bootst.getLsbD 0 = false → ∃ t, Becomes s .bringUpStepDone t ∧ t.stage = 5 ∧ t.ctl.bootst.getLsbD 0 = true)

/-! ## Events: power, resets and the fabric -/

/-- 01 R26, R28, R29, 17 R339, R340: the events of the arbiter, the sensors and the clocks of bulkheads complete: in a package of one partition an
epoch, due a millisecond after the last, gives islands 0-31 their floors and their parts of the watts; every stack's count is topped up by its budget and
capped at it; readings of islands 0-33, due 10 µs after the last, trips, rails and coolant act on their bulkheads; a firmware that has shown no activity is stopped,
and one restarted runs. The equal split and the rounding of `divideBy` (log 20), the time a change of frequency freezes a domain (log 5), and the
records of a rail (spine record 2) and of a restart whose signature fails (0x0901 in spine record 5; logs 11 and 34) are the model's choices. -/
def Obligations.PowerAndFirmwareEvents : Prop :=
  ∀ s : State,
    let demand (i : Nat) : Nat := s.inp.temps.getD i 0
    let need := ((List.range 32).map demand).sum
    let rest := s.ctl.pceil.toNat - reservedWatts
    (3 ≤ s.stage → (s.ctl.epochAt = 0 ∨ s.ctl.epochAt + 1000000 ≤ s.ns + 1) → s.start = 1 → s.inp.watts = [] →
      ∃ t, Becomes s .epochBoundary t ∧ t.mem = s.mem ∧ t.cores = s.cores ∧ ∀ i < 32,
      mapGet Init.island t.islands i =
        (mapGet Init.island s.islands i).epoch i (islandFloor i + divideBy (min need rest) (demand i) need 32) s.ns (Config.domainFreeze s.nfree i))
    ∧ (∃ t, Becomes s .budgetInterval t ∧ t.mem = s.mem ∧ t.cores = s.cores
        ∧ ∀ k < 8, (t.stack k).count = min ((s.stack k).count + (s.stack k).budget) (s.stack k).budget)
    ∧ (let sensors := List.range (min 34 s.inp.temps.length)
       let sensed : State := { s with ctl := { s.ctl with sensedAt := s.ns + 1 } }
       (s.ctl.sensedAt = 0 ∨ s.ctl.sensedAt + 10000 ≤ s.ns + 1) →
       Becomes s .sensorRead (sensors.foldl (fun u i => u.trip i (demand i)) (sensors.foldl (fun u i => u.readSensor i (demand i)) sensed)))
    ∧ Becomes s .coolantLoss ((List.range 32).foldl State.shutDown s)
    ∧ (s.inp.b.toNat < 32 →
        Becomes s .railOutOfRange ((s.logError spineBank 2 { cls := 3, code := 0x0A03 }).smcReset s.inp.b.toNat)
        ∧ Becomes s .bulkheadReset (s.smcReset s.inp.b.toNat)
        ∧ Becomes s .vcStopGo { s with vcstop := mapSet false s.vcstop (4 * s.inp.b.toNat + s.inp.vc.toNat) s.inp.flag })
    ∧ (s.fw.cpDown = false → Becomes s .cpWatchdog s.cpStop)
    ∧ (s.fw.schDown = false → s.anyReady = true → Becomes s .schWatchdog s.schStop)
    ∧ (s.inp.flag2 = true → Becomes s .firmwareRestartDone (s.logError spineBank 5 { cls := 3, code := 0x0901 }))
    ∧ (s.inp.flag2 = false → Becomes s .firmwareRestartDone
        { s with fw := if s.inp.flag then { s.fw with schDown := false, alarms := [] } else { s.fw with cpDown := false } })

/-- 20 R381-R384, R392, R393, R396, 11 R251-R254: page moves and the fabric's events complete: a page whose records call for it begins to move to the
lowest free page of the reserve, is copied line by line and then switched; a port takes a good flit, of a channel that its bulkhead has not stopped,
and replays a bad one, and retrains; a request
without a response once its 2 ms are over is aborted; a walk's leaf is kept. That the record 0x0302 is written at a retraining's end (log 33), and
which walks' results are kept and for how long (log 14), are the model's choices. -/
def Obligations.PagesAndFabricEvents : Prop :=
  ∀ s : State,
    let k := s.inp.k.toNat
    let page := s.inp.page.toNat
    let i := s.inp.port.toNat
    let b := s.inp.b.toNat
    let va := s.inp.va.toNat
    let held := (mapGet [] s.tlb b).filter fun e => !(decide (e.asid = s.inp.asid) && decide (va / 2 ^ e.size = e.base))
    (∀ q, (s.stack k).freeReserve = some q → (s.stack k).move = none → (s.stack k).retire.length < 64 → page < reserveFirst →
      ((s.stack k).retire.any fun x => decide (x.1 = page)) = false → (s.stack k).failing page = true → (s.stack k).programHolds page = false →
      ∃ t, Becomes s .pageRetirement t ∧ (t.stack k).move = some { old := page, new := q, line := 0, dirty := [], todo := List.range 256, passes := 0 }
        ∧ t.mem = s.mem)
    ∧ (∀ m l todo, (s.stack k).move = some m → m.todo = l :: todo →
      Becomes s .pageMoveLine ((s.copyLine k m.old m.new l).updStack k fun t => { t with
        move := some (({ m with line := l + 1, todo := todo, dirty := if m.passes = 0 then m.dirty else m.dirty.filter fun j => decide (j ≠ l) } : Move).endPass) }))
    ∧ (∀ m, (s.stack k).move = some m → m.todo = [] →
      let moved := m.dirty.foldl (fun u l => u.copyLine k m.old m.new l) s
      Becomes s .pageMoveSwitch
        (((moved.updStack k fun t => { t with move := none, retire := t.retire ++ [(m.old, m.new)] }).requeuePage k m.old).logError (stackBank k) 192
          { cls := 1, code := 0x0405, atype := 2, addr := k * 2 ^ 36 + m.old * 2 ^ 14, synd := m.new }))
    ∧ (s.inp.flag2 = true → Becomes s .flitReceive (s.tryFlit s.inp.id))
    ∧ (s.inp.flag2 = false → (s.port i).down = false → (s.port i).training = false → s.stopped (portBank i) (flitVc s.inp.flit) = false →
      (s.inp.flag = true → Becomes s .flitReceive (s.badFlit i))
      ∧ (s.inp.flag = false → Becomes s .flitReceive
        (((s.updPort i fun p => { p with replays := 0, rxSeq := p.rxSeq + 1 }).heardFrom (flitFid s.inp.flit)).takeFlit (portBank i) s.inp.flit)))
    ∧ ((s.port i).training = true → s.inp.flag = false →
      Becomes s .portRetrain ((s.portRecord i 0x0302).updPort i fun p => { p with training := false, fails := 0, replays := 0, replayAt := [] }))
    ∧ (∀ q, s.fabReq s.inp.id = some q → q.sentAt + 2000000 < s.ns → Becomes s .fabricRequestTimeout (s.fabAbort q))
    ∧ (s.inp.p ≠ 1 → b < 32 → s.inp.flag2 = false → s.inp.flag = true → ∀ e lvl, s.walk b (s.partOf (octantOf b)) s.inp.asid va = .leaf e lvl →
      Becomes s .walkComplete { s with
        tlb := mapSet [] s.tlb b (held.drop (held.length + 1 - 4096)
          ++ [{ asid := s.inp.asid, base := va / 2 ^ pageBits lvl, size := pageBits lvl, leaf := e }]) })

/-! ## Events: the graph, dispatch and tasks -/

namespace Sys2Proof.Claims

/-- The columns that a requester has asked for have been served, its responses, those of fabric devices among them, have come, and nothing is left to
leave, unless it ends in an abort; and the access has acted by `f`, under the windows that it passed (01 R24, R29, 20 R393, R395); or it touches no
column and no fabric page. -/
def columnsServed (s : State) (who : Requester) (p : Nat) (reads writes : List (PAddr × Nat)) (f : State → State) (t : State) : Prop :=
  (∃ a, s.ask who = some a ∧ a.served s.ns = true ∧ s.respHeld a = false ∧ (a.next = [] ∨ a.fails s.ns = true ∨ s.inp.extAbort = true)
      ∧ t = ((s.farHeard a).dropAsk who).underAsk a f)
    ∨ (s.ask who = none ∧ colsOf reads writes = [] ∧ s.farReqs p false reads = [] ∧ s.farReqs p true writes = [] ∧ t = f s)

/-- A BULK node's accesses, by the engines of bulkhead `b`, wait for no walk, are held by no link when they begin and by no translations in use, their
columns are under way for no other bulkhead's engines and have been served, and `f` has acted (01 R27-R29, 11 R255). -/
def nodeGoesOn (s : State) (a : Active) (b : Nat) (reads writes : List Spot) (f : State → State) (t : State) : Prop :=
  (∀ x ∈ reads ++ writes, x.1.isSome = true)
    ∧ (s.ask (.node a.req b) = none → ∀ x ∈ knownSpots reads ++ knownSpots writes, s.placeHeld a.req.part x.1 = false)
    ∧ (∀ x ∈ knownSpots writes, s.dirBusy (fun _ _ => false) x.1 x.2 = false) ∧ s.nodeTaken a.req b = false
    ∧ columnsServed s (.node a.req b) a.req.part (knownSpots reads) (knownSpots writes) f t

/-- The same of the accesses of core `c`'s work numbered `id`. -/
def workGoesOn (s : State) (c : BitVec 8) (id part : Nat) (reads writes : List Spot) (f : State → State) (t : State) : Prop :=
  (∀ x ∈ reads ++ writes, x.1.isSome = true)
    ∧ (s.ask (.work c id part) = none → ∀ x ∈ knownSpots reads ++ knownSpots writes, s.placeHeld (s.partOfCore c) x.1 = false)
    ∧ (∀ x ∈ knownSpots writes, s.dirWaits c id x.1 x.2 = false)
    ∧ columnsServed s (.work c id part) (s.partOfCore c) (knownSpots reads) (knownSpots writes) f t

/-- The reads for a binding's contexts wait for no walk, and `f` acts once they have been served (13 R281). -/
def contextsRead (s : State) (pl : Plan) (f : State → State) (t : State) : Prop :=
  (∀ x ∈ s.contextSpots pl, x.1.isSome = true)
    ∧ columnsServed s (.restore ((pl.leads.map (·.1)).headD 0)) pl.w.req.part (knownSpots (s.contextSpots pl)) [] f t

/-- The writes of a task's save wait for no walk, and the save is made once they have been served (13 R281). -/
def contextsSaved (s : State) (b : Binding) (parks : Bool) (t : State) : Prop :=
  (∀ x ∈ s.saveSpots b, x.1.isSome = true)
    ∧ columnsServed s (.save (b.cores.headD 0)) b.part [] (knownSpots (s.saveSpots b)) (fun u => u.saveAll b parks) t

end Sys2Proof.Claims

/-- 15 R297-R304, 02 R50-R54, 07 R149: the command processor's events complete: it takes the oldest request that has fallen due, else the oldest made;
a WAIT node completes at its target, a BULK node, which the engines of a bulkhead of its region copy, after its copy and the add to its beacon (it is
refused where either fails), and a SIGNAL node after its add, each making its successors' requests; a submission starts when its stream runs none and
ends when nothing of it is left (its record's columns have been served: log 44); a LAUNCH is sent once what it waits for has performed, the rows of the member's ended bank programs fenced. What a
record with a nonzero reserved field does (log 18), and that accesses act in the turn that finds their columns served (log 3), are the model's
choices. -/
def Obligations.GraphEvents : Prop :=
  ∀ s : State,
    (s.fw.cpDown = false →
      (∀ r rest, s.cp.due = r :: rest → Becomes s .readinessRequest (({ s with cp := { s.cp with due := rest } } : State).handleDue r))
      ∧ (∀ r rest, s.cp.due = [] → s.cp.reqs = r :: rest →
        Becomes s .readinessRequest (({ s with cp := { s.cp with reqs := rest } } : State).handleRequest r)))
    ∧ (∀ a sub ty, s.eventNode = some (a, sub, ty) →
      let w := nodeWord a.w
      let p := a.req.part
      (ty = 5 → ∀ u x, s.cpBlock p sub.asid (w 4) 8 = (u, some x) → w 5 ≤ x → Becomes s .waitNodeRead (u.completeNode a a.succ))
      ∧ (let n := w 6 % 2 ^ 48
        let b := s.inp.b.toNat
        let dest := s.bulkPlaces b p sub.asid .write (w 5) n ++ if w 7 = 0 then [] else s.bulkPlaces b p sub.asid .write (w 7) 8
        let ends (v : State) : State :=
          let r := v.bulkNode b p sub.asid (2 * (n / 2 ^ 14) + 4) (w 4) (w 5) n
          let q := if w 7 = 0 then r else r.1.bulkAdd b p sub.asid (w 7)
          if r.2 = false then r.1.refuseActive a 0x1604 else if q.2 then q.1.completeNode a a.succ else q.1.refuseActive a 0x1604
        ty = 2 → s.bulkEngine p a.rasid a.rcb b = true → ∀ t, nodeGoesOn s a b (s.bulkPlaces b p sub.asid .read (w 4) n) dest ends t →
          Becomes s .bulkNodeComplete t)
      ∧ (ty = 6 → Becomes s .signalNodeComplete (s.completeNode a a.succ)))
    ∧ (let stream := BitVec.ofNat 6 s.inp.p
       (s.fw.cpDown = false → (∀ x ∈ s.cp.subs, x.1 ≠ stream) →
         ∀ q, (s.cp.queue.find? fun x => decide (x.1 = stream)) = some q → s.stackDown (q.2 / 2 ^ 36) = false →
           s.hasCols spineCb (.stack (BitVec.ofNat 39 q.2)) 64 false false = true →
         ∃ t, Becomes s .submissionStart t ∧ t.cores = s.cores ∧ ∃ sub, t.cp.subs = s.cp.subs ++ [(stream, sub)] ∧ sub.recd = q.2
           ∧ (submissionReserved (s.physRead q.2 64) = false →
               sub.stopped = false ∧ ∃ r, t.cp.reqs = s.cp.reqs ++ [r] ∧ r.stream = stream ∧ r.launch = false ∧ r.recd = sub.recd)
           ∧ (submissionReserved (s.physRead q.2 64) = true → sub.stopped = true ∧ sub.failed = true ∧ t.cp.reqs = s.cp.reqs))
       ∧ (∀ sub, (s.cp.subs.find? fun x => decide (x.1 = stream)) = some (stream, sub) → s.submissionIdle stream sub.recd = true → sub.done = 0 →
         ∃ t, Becomes s .submissionEnd t ∧ t.cores = s.cores ∧ (∀ x ∈ t.cp.subs, x.1 ≠ stream) ∧ t.seq = s.seq + 1))
    ∧ (let c := s.inp.c
       let k := s.core c
       ∀ l b w, (k.launches.find? fun l => decide (l.2 = s.inp.id)) = some l → k.task = some b → k.launchReady l.2 = true → s.wave b.part b.node = some w →
         let fenced := s.fenceRan fun x => decide (x.part = b.part ∧ x.node = b.node ∧ x.tidx = k.ctx.id.tidx ∧ x.memb = b.memb)
         Becomes s .launchRequestSend ((fenced.setCore c { k with launches := k.launches.erase l }).request
           { node := l.1, launch := true, stream := w.req.stream, recd := w.req.recd, part := w.req.part, asid := w.req.asid } (some c)))

/-- 15 R305-R316, 02 R40, R46-R49, 17 R339: the scheduler's and dispatch's events complete: a slot record is written, a bind record judged and
applied, a displacement marked; the head of a partition ages; a slice expires, a pre-emption freezes its member and its task is saved or
parked; a parked task whose conditions are read and hold is ready; a task all of whose members have retired ends.  The model's choices: judge's grounds and their
order (log 28), the refusal of a displacement by an event (log 29), the age count's new start after an alarm (log 26), the release of a killed task once
its work has completed (log 19), and a partly parked task that leaves as ready (log 47). -/
def Obligations.DispatchEvents : Prop :=
  ∀ s : State,
    let c := s.inp.c
    let p := s.partOf (s.inp.j.toNat % 8)
    (slotValid (s.slotLo c) = false →
        Becomes s .slotRecordWrite { s with slots := mapSet 0 s.slots c.toNat (BitVec.ofNat 256 (withField s.inp.w.toNat 63 62 0)) })
    ∧ (∀ pl, s.inp.flag = false → (∀ o ∈ s.owns, o.cores.contains c = false) → slotPresents (s.slotLo c) 1 = true →
        slotReserved (s.slotLo c) = false → s.plan c (slotNode (s.slotLo c)) (slotTidx (s.slotLo c)) = some pl →
        s.judge pl (slotSeq (s.slotLo c)) = .apply → ∀ t, contextsRead s pl (fun u => u.bindRecord pl (slotSeq (s.slotLo c))) t →
        Becomes s .dispatchBind t)
    ∧ (s.inp.flag = true → s.fw.schDown = true → Becomes s .dispatchBind (s.rotateHead p))
    ∧ (∀ i b, slotPresents (s.slotLo c) 2 = true → slotReserved (s.slotLo c) = false → s.taskAt c = some (i, b) → b.preempt = false →
        Becomes s .displace (if s.displaceable b then s.markPreempt b else s.refuseBind c 2))
    ∧ (∀ w r i a, s.head p = some (w, r, i) →
        (s.age.find? fun a => decide (a.part = p) && decide (a.node = w.req.node) && decide (a.tidx = i)) = some a → a.since + r.agecap * 1000 ≤ s.ns →
        Becomes s .ageAlarm
          (({ (s.post (.ageAlarm w.req.node i)).alarm with age := s.age.filter fun a => decide (a.part ≠ p) } : State).rotate w r i))
    ∧ (∀ i b, s.taskAt c = some (i, b) → b.pcls = 2 → b.boundAt + b.slice * 1000 ≤ s.ns →
        Becomes s .sliceExpiry (s.updCores b.cores fun k => { k with task := k.task.map fun x => { x with sliceOver := true } }))
    ∧ ((s.core c).mayPreempt = true → ∃ t, Becomes s .preemption t ∧ t.mem = s.mem ∧ (t.core c).run = .draining
        ∧ (t.core c).eclipse = (s.core c).pipe ∧ (t.core c).pipe = [] ∧ (t.core c).ctx = (s.core c).ctx ∧ ∀ d ≠ c, t.core d = s.core d)
    ∧ (∀ b rs, s.atRest c = some (b, rs) →
        ((rs.all fun r => decide (r = .draining) || decide (r = .halted) || r.isParked) = true → rs.contains .draining = true →
          ∀ t, contextsSaved s b false t → Becomes s .contextSaveComplete t)
        ∧ ((∀ d ∈ b.cores, (s.core d).land = []) → (rs.all fun r => decide (r = .halted) || r.isParked) = true → rs.any Run.isParked = true →
          ∀ t, contextsSaved s b true t → Becomes s .taskParked t))
    ∧ (∀ t w, s.taskRec p s.inp.node s.inp.tidx.toNat = some t → s.wave p s.inp.node = some w → t.ready = false →
        (∀ x ∈ t.conds, s.condRead p w.asid x.2 ≠ some .held ∧ ∀ pa, s.condRead p w.asid x.2 ≠ some (.table pa)) →
        (t.conds.all fun x => s.condMet p w.asid (forMember t.progs x.1 []) x.2) = true →
        let u : State := { s with tasks := s.tasks.map fun x => if x = t then { x with ready := true } else x }
        Becomes s .parkBeaconMet (match u.region p w.rasid w.rcb with
          | some r => u.addEntry p r.prio.toNat (.task t.node t.tidx)
          | none => u))
    ∧ (∀ b, s.inp.flag = false → (s.core c).task = some b →
        (((b.cores.map s.core).all Core.retired) = true → Becomes s .taskRetire (s.endRetired b (s.tidxAt c)))
        ∧ (∀ code, ((b.cores.map s.core).all Core.retired) = false → (s.core c).run.killCode = some code →
          ((b.cores.map s.core).all Core.killEnded) = true → s.killedBefore b = false → Becomes s .taskRetire (s.endKilled b (s.tidxAt c) code)))

/-! ## Events: a core, its engines and its memory port -/

/-- 03 R69, R70, 07 R150, 10 R236, R238, 18 R353: what goes on in a core apart from its slots completes: the pipelines of a member that has halted
or parked move on; data reaches the landing buffer, unless its responses are held, and landings that are due are written; a freeze of 16,777,216 cycles
that still stands traps, of a protected member once its segment, which ends, has committed; a wait that has frozen for its limit parks, in such a
segment once it has ended; a beacon is read again once its column has been served, and nothing of the member's own comes before it (11 R263). -/
def Obligations.CoreEvents : Prop :=
  ∀ s : State,
    let c := s.inp.c
    let k := s.core c
    (k.settling = true → Becomes s .pipelineWriteback (s.setCore c k.tickPipe))
    ∧ (∀ r l, (k.mq.find? fun r => decide (r.id = s.inp.id)) = some r → r.kind = .load l → r.sent = true → r.left = 0 →
        r.readyAt ≤ s.ns → s.stopped (cbOf c) 1 = false → (∀ pa, r.piece.target = .stack pa → s.stopped (16 + pa.toNat / 2 ^ 36) 1 = false) →
        Becomes s .landingArrival (s.setCore c (k.land_ r l)))
    ∧ ((∀ l ∈ k.land, l.psn = false) → k.run = .running →
        ∃ t, Becomes s .landingWrite t ∧ t.mem = s.mem ∧ t = s.setCore c (t.core c)
          ∧ (t.core c).land = (k.land.filter fun l => !(l.due && l.data.isSome))
          ∧ (∀ l, k.land = [l] → l.due = true → ∀ x, l.data = some x → l.file = 0 → l.dest ≠ 0 →
            mapGet 0 (t.core c).ctx.s l.dest = BitVec.ofNat 64 (x % 256 ^ (2 ^ l.sz.toNat))))
    ∧ (∀ t, k.timeout k.standing = some t → k.issues = true → k.trap = none →
        (k.prot = false → Becomes s .freezeTimeout (s.withPeers c fun u => u.takeTrap c t k.ctx.pc))
        ∧ (k.prot = true → Becomes s .freezeTimeout (s.setCore c (k.holdTrap t))
          ∧ (k.holdTrap t).trap = some (t, k.ctx.pc) ∧ (k.holdTrap t).seg.ending = true))
    ∧ (k.issues = true → k.trap = none → k.waitExpired = true → s.waitsMet c = false →
        ∃ t, Becomes s .waitPark t ∧ t.mem = s.mem ∧ (t.core c).ctx = k.ctx ∧ (∀ d ≠ c, t.core d = s.core d)
          ∧ ((k.prot = false ∨ k.seg.openSeg = false) → (t.core c).run = .parked none)
          ∧ (k.prot = true → k.seg.openSeg = true → (t.core c).run = k.run ∧ (t.core c).seg.ending = true))
    ∧ (∀ a n pa, k.issues = true → s.waitSlots c = [.bwait a 0 n] → s.xlateCore c .read (gaddr k a) = .ok pa → k.mayPoll pa = true →
        (∀ t, workGoesOn (s.dropPolls c (pollPart pa)) c 0 (pollPart pa) [(some pa, 8)] [] (fun u => u.readPoll c pa) t → Becomes s .beaconPoll t)
        ∧ ∀ (u : State) (x : Nat), u.readAt (u.partOfCore c) pa 8 = Got.val x → u.readPoll c pa = u.updCore c fun k => { k with poll := some (BitVec.ofNat 64 x) })

/-- 10 R215-R222, R224, R225, 09 R192-R194, R204, 03 R75: the engines' events complete. An operation that may start, whose accesses nothing holds and
whose columns have been served, moves its bytes or, once done, makes its beacon add and arrival and completes its token; a gather's row is settled
once; one that has faulted adds to no beacon; an M operation makes its accesses when it may begin, and completes at the end of its token's cycle; a
landed row is streamed; a fill makes its way valid, or invalid where a PINV met it; a scoreboard entry retires, a write-back's by sending its block home. The
model's choices: an M operation's accesses made at its beginning, and cycles counted at the issue turns of its core (log 42); a transfer acting in the
turn that finds its columns served (log 3). -/
def Obligations.EngineEvents : Prop :=
  ∀ s : State,
    let c := s.inp.c
    let k := s.core c
    (∀ o, s.eventOp = some o → k.mayStart o = true →
      let bcn := s.beaconPlaces c o
      ((o.name = .cpy ∨ o.name = .cpym ∨ o.name = .fill ∨ o.name = .bulk) → ∀ t,
          workGoesOn s c o.id 0 (s.copyPlaces c o).1 ((s.copyPlaces c o).2 ++ bcn)
            (fun u => (u.runCopy c o).1.completeOp c o (u.runCopy c o).2) t → Becomes s .engineComplete t)
      ∧ (o.name = .scat → o.list.isSome = true → ∀ t,
          workGoesOn s c o.id 0 [] (s.scatPlaces c o ++ bcn) (fun u => (u.runScat c o).1.completeOp c o (u.runScat c o).2) t →
          Becomes s .engineComplete t)
      ∧ (((o.name = .gath ∧ o.settled = true) ∨ ((o.name = .rpkX ∨ o.name = .rpkF ∨ o.name = .bankld ∨ o.name = .bankgo) ∧ o.done = true)) →
          (o.fault.isSome = true → Becomes s .engineComplete (s.completeOp c o o.fault))
          ∧ (o.fault = none → ∀ t, workGoesOn s c o.id 0 [] bcn (fun u => u.completeOp c o none) t → Becomes s .engineComplete t))
      ∧ (o.name = .gath → s.inp.p < (gatherDesc o.snap.d).nent → o.rows.contains s.inp.p = false → o.list.isSome = true → ∀ t,
          workGoesOn s c o.id (s.inp.p + 1) (s.gatherPlaces c o s.inp.p) [] (fun u => u.gatherRow c o s.inp.p) t → Becomes s .gatherRowLand t))
    ∧ (∀ o, s.eventOp = some o → o.port = 3 →
      (o.done = false → k.bagDue o = true → (o.isBag = true → k.bagComplete o = true) → s.opPoison c o = none →
          ((readRows o).any fun w => k.residueBad w) = false →
        Becomes s .mOperationComplete ((s.bagWork c o).updCore c fun x =>
          ({ x with pool := { x.pool with bad := badAfter o x.pool.bad } } : Core).updOp o.id fun o =>
            { o with done := true, occ := k.holdsFor o, wait := max o.wait (k.tokenCycle o + 1) }))
      ∧ (k.op s.inp.id = some o → o.done = true → o.held = false → o.wait ≤ 1 → ∀ t, workGoesOn s c o.id 0 [] (s.beaconPlaces c o)
          (fun u => if (checkedRows o).any fun w => (u.core c).residueBad w then (u.completeOp c o none).residueFault c else u.completeOp c o none) t →
          s.bagTick c s.inp.id = t.updCore c fun x => x.updOp s.inp.id fun o => { o with wait := 0 }))
    ∧ (∀ o, s.eventOp = some o → k.rowDue o s.inp.p = true →
        (k.pool.bad.any fun b => itemIn b [(4, bagFirst o + s.inp.p, bagFirst o + s.inp.p), activeGranules]) = false →
        Becomes s .bagRowStream (s.setCore c (k.streamBag o s.inp.p)))
    ∧ (∀ e key, k.sb[s.inp.p]? = some e → e.slot = some key → e.home = none →
        let t := mapGet Init.tagEntry k.pool.tagt key
        let filled (k : Core) (b : Blk) : Core :=
          let k := (k.spPut e.lo 4096 (if t.inv then b else { b with x := k.overlay e.op 0 t.home 4096 b.x })).dropEntry s.inp.p
          let way : TagEntry := if t.drop then Init.tagEntry else { t with st := 2, dirty := false }
          { k with pool := { k.pool with tagt := mapSet Init.tagEntry k.pool.tagt key way } }
        k.fillReady e.op t.inv t.home = true →
          (∀ w, workGoesOn s c e.op 0 [(some t.home, 4096)] [] (fun u => (u.fillBlock c t.home).1.updCore c fun k => filled k (u.fillBlock c t.home).2) w →
            Becomes s .cacheFillComplete w)
          ∧ ∀ (u v : State) (b : Blk), u.fillRefused c t.home = none → u.placeBlk (u.partOfCore c) t.home 4096 = (v, some b) → u.fillBlock c t.home = (v, b))
    ∧ (∀ e, k.sb[s.inp.p]? = some e →
      (∀ key home, e.slot = some key → e.home = some home →
        Becomes s .scoreboardEntryRetire (s.setCore c (k.sendWriteBack s.inp.p key home e.lo e.op)))
      ∧ (∀ o, e.slot = none → k.op e.op = some o → Becomes s .scoreboardEntryRetire (s.retireEntry c o s.inp.p e)))

/-- 19 R362-R370: the segments of protected pairs: the pair compares what both cores have issued, and the first bundle in which they differ is a
mismatch; a segment that has ended and that both have done without one commits: pending results are written and its held effects released in order,
one that was run again with the record 0x0801; a mismatch takes both back to the checkpoint, and one of the rerun kills the task with 0x0802, or with
0x0805 where it is poison; the rerun starts once the restore has ended. The two cores acting in one turn, what the trailing one shows being seen two
cycles later, a soft error of a signature as an input, and the signature function, are the model's (logs 21, 37 and 5). -/
def Obligations.SegmentEvents : Prop :=
  ∀ s : State,
    let c := s.inp.c
    let k := s.core c
    (∀ h i, s.twin c = some h → k.killed = false → h.killed = false → k.seg.openSeg = true → k.seg.restoring = false → k.seg.bad = 0 → h.seg.bad = 0 →
      i < k.comparedTo → k.seg.sigs[i]? ≠ h.seg.sigs[i]? → (∀ j < i, k.seg.sigs[j]? = h.seg.sigs[j]?) →
      ((s.comparePair c).core c).seg.bad = 1 ∧ ((s.comparePair c).core c).seg.badAt = i)
    ∧ (k.prot = true → k.seg.openSeg = true → k.seg.ending = true → k.seg.bad = 0 → k.seg.restoring = false → s.pairDone c = true →
      (∀ h, s.twin c = some h → h.seg.done = k.seg.done) → k.landingPoison (fun _ => true) = false →
      let u := s.setCore c { k.settle with seg := { Init.segment with done := k.seg.done } }
      (k.seg.rerun = false → Becomes s .segmentCommit (k.seg.hold.foldl (fun u h => u.release c h) u))
      ∧ (k.seg.rerun = true → Becomes s .segmentCommit (k.seg.hold.foldl (fun u h => u.release c h) (u.pairRecord c 1 0x0801 k.seg.synd))))
    ∧ (k.seg.bad = 0 → ∀ x, k.seg.sigs[s.inp.p]? = some x →
      (x = s.inp.v ∨ k.comparedTo ≤ s.inp.p → k.compare s.inp = k)
      ∧ (x ≠ s.inp.v → s.inp.p < k.comparedTo → (k.compare s.inp).seg.bad = 1 ∧ (k.compare s.inp).seg.badAt = s.inp.p))
    ∧ (let m := k.compare s.inp
      k.prot = true → k.seg.openSeg = true → k.seg.restoring = false → m.seg.bad ≠ 0 → (∀ o ∈ k.ops, o.blocks = true → o.id < k.seg.first) →
      (k.seg.rerun = false →
        ∃ t, Becomes s .rewind t ∧ t.mem = s.mem ∧ t.core c = ({ m with seg := { m.seg with synd := segSynd m.seg } } : Core).restore
          ∧ (∀ d ≠ c, t.core d = s.core d) ∧ (t.core c).pipe = [] ∧ (t.core c).land = [] ∧ (t.core c).seg.restoring = true
          ∧ ∀ x tags plru, k.seg.ck = some (x, tags, plru) → (t.core c).ctx = { x with segLeft := 4096 })
      ∧ (k.seg.rerun = true →
        let code := if m.seg.bad = 3 then 0x0805 else 0x0802
        Becomes s .rewind (((s.setCore c m).pairRecord c 3 code (segSynd m.seg)).killCore c (BitVec.ofNat 16 code))))
    ∧ (k.seg.restoring = true → Becomes s .rerunStart (s.setCore c { k with seg := { k.seg with restoring := false } }))

/-! ## Events: pseudo-channels, banks and routers -/

namespace Sys2Proof.Claims

/-- Of stack memory, from `s` to `t`, the `n` bytes at physical address `pa`, wherever retired pages have put them, become those of `x`, and every
other byte stays. -/
def leaves (s t : State) (pa n x : Nat) : Prop :=
  ∀ a, byteAt t.mem a =
    if s.redirect pa ≤ a ∧ a < s.redirect pa + n then BitVec.ofNat 8 (bytesOf x (a - s.redirect pa) 1) else byteAt s.mem a

end Sys2Proof.Claims

/-- 13 R281-R284, 10 R230, 01 R29, 20 R376-R378: requests, commands and refresh complete: a request that the gates pass begins to enter its
pseudo-channel's queue; the command chosen is carried out; an atomic is applied at its home; a store's column leaves its part of the data at the home of
its bytes, and an atomic its result, and every other byte of stack memory stays; a request ages; a bank's refreshes are counted, and
performed, or postponed while a program's row is open; heartbeats are kept, and their absence and return hand refresh over and back. -/
def Obligations.ChannelEvents : Prop :=
  ∀ s : State,
    let c := s.inp.c
    let k := s.inp.k.toNat
    let pc := s.inp.pc.toNat
    let bank := s.inp.bank.toNat
    let p := s.chan k pc
    (∀ r, (s.core c).req s.inp.id = some r →
      (s.atomicReady c r = true → Becomes s .atomicHomeApply (s.applyAtomic c r)
        ∧ ∀ op sz x2 l pa, r.kind = .atomic op sz x2 l → r.piece.target = .stack pa → inErrorPage pa.toNat = false →
          (s.physPoisoned pa.toNat (atomBytes sz) || r.psn) = false →
          leaves s (s.applyAtomic c r) pa.toNat (atomBytes sz) (atomApply op sz (s.physRead pa.toNat (atomBytes sz)) r.data x2))
      ∧ (∀ pa, s.reqReady c r = true → r.piece.target = .stack pa → s.stackDown (pa.toNat / 2 ^ 36) = false →
          s.gatePasses (s.partOfCore c) pa.toNat (!r.writes) r.writes = true → (r.psn && r.writes && s.crosses (s.partOfCore c) pa.toNat) = false →
        Becomes s .ordinaryRequest
          ((s.updCore c fun x => x.updReq r.id fun r => { r with sent := true, left := (columnsOf pa.toNat r.piece.n).length }).newAsk (.port c r.id) 0
            ((columnsOf pa.toNat r.piece.n).map fun a => (a, r.writes)))))
    ∧ (pc < 192 →
      (let u := s.retryAsks
       ∀ i, u.choose k (u.chan k pc) = some i → Becomes s .controllerCycle (u.command k pc i s.inp.err)
        ∧ ∀ q r pa d id, (u.chan k pc).queue[i]? = some q → (u.chan k pc).commandFor q = .column → s.inp.err = 0 → q.who = .port d id →
          (s.core d).req id = some r → r.kind = .store → r.piece.target = .stack pa → inErrorPage (pa.toNat + (partIn pa.toNat r.piece.n q.pa).1) = false →
          let part := partIn pa.toNat r.piece.n q.pa
          leaves s (u.command k pc i 0) (pa.toNat + part.1) part.2 (bytesOf r.data part.1 part.2))
      ∧ (let u := s.updChan k pc fun p => p.countRefresh s.ns bank
         ((p.bank bank).row ≠ none → Becomes s .refreshDue u)
         ∧ ((p.bank bank).row = none → (p.bank bank).winLeft = 0 →
           (mapGet 0 p.rows bank = 0 → Becomes s .refreshDue (u.refreshBank k pc bank))
           ∧ (mapGet 0 p.rows bank ≠ 0 → s.rasMet k pc bank = true → Becomes s .refreshDue ((u.closeRow k pc bank).refreshBank k pc bank)))))
    ∧ (∀ q, p.queue[s.inp.p]? = some q → q.at_ + (s.stack k).ageCap ≤ s.ns →
        Becomes s .requestAged (s.setChan k pc { p with queue := p.queue.set s.inp.p { q with aged := true } }))
    ∧ (∃ t, Becomes s .bdcHeartbeat t ∧ t.mem = s.mem ∧ t.cores = s.cores ∧ (t.stack k).beat = s.ns)
    ∧ ((s.stack k).takeover = none → (s.stack k).beat + takeoverAfter ≤ s.ns →
        ∃ t, Becomes s .refreshTakeover t ∧ (t.stack k).takeover = some s.ns ∧ t.cores = s.cores)
    ∧ ((s.stack k).takeover ≠ none → (s.stack k).beatsFrom + handbackAfter ≤ s.ns → s.ns < (s.stack k).beat + takeoverAfter → s.ns % 3900 = 0 →
        ∃ t, Becomes s .refreshHandback t ∧ (t.stack k).takeover = none ∧ t.mem = s.mem ∧ t.cores = s.cores)

/-- 10 R246, R247, 13 R283, R285-R294, 20 R390: bank launches and programs complete their events: a BANKGO leaves for its channel, where programs
start one after another on 32 banks at once; an image is loaded while none runs; a waiting activation is admitted; a bank at its row boundary
opens its window, an ordinary row that stands open being precharged before a refresh, and closes one that can serve nothing; all banks at WAITS proceed;
a stopped program's banks stop; markers enter the command queues.  A BANKLD's image read when it departs, and launches departing in issue order, are the
model's choices (log 23). -/
def Obligations.BankProgramEvents : Prop :=
  ∀ s : State,
    let c := s.inp.c
    let k := s.inp.k.toNat
    let pc := s.inp.pc.toNat
    let bank := s.inp.bank.toNat
    let p := s.chan k pc
    (∀ o, (s.core c).op s.inp.id = some o → o.sent = false → (s.core c).mayStart o = true → (s.core c).bankTurn o = true →
      (let l := s.launchOf c o 0
       o.name = .bankgo → o.done = false → s.storesDone c o = true → s.stopped (16 + o.bankPlace.1) 0 = false → s.beqRoom l.part l.rasid l.rcb = true →
        Becomes s .bankgoBeqRelease
          ((s.updCore c fun x => x.updOp o.id fun o => { o with sent := true }).arrive o.bankPlace.1 o.bankPlace.2 o.snap.s3.toNat l))
      ∧ (let src := (s.core c).source o
         let image := spBlk src.1 src.2 o.snap.s2.toNat 96
         let sent := s.updCore c fun x => x.updOp o.id fun o => { o with sent := true }
         o.name = .bankld → s.inp.flag = false → image.psn = 0 → o.badBytes 0 96 = 0 → s.stopped (16 + o.bankPlace.1) 0 = false →
        Becomes s .bankldApply
          (let t := sent.arrive o.bankPlace.1 o.bankPlace.2 o.snap.s3.toNat (s.launchOf c o image.x)
           if (sent.chan o.bankPlace.1 o.bankPlace.2).waiting.isEmpty then t.applyHead o.bankPlace.1 o.bankPlace.2 else t)))
    ∧ (s.inp.flag = true → Becomes s .bankldApply (s.applyHead k pc))
    ∧ (∀ l rest, p.waiting = l :: rest → l.go = true → s.channelFree k pc = true → p.lost = false → s.startRefused k pc l = false →
        s.rowsMayClose k pc = true →
        ∃ t, Becomes s .bankProgramStart t ∧ ∃ g, (t.chan k pc).prog = some g ∧ g.launch = l ∧ g.stopping = false
          ∧ (t.chan k pc).progs = p.progs + 1
          ∧ ∀ b < 32, ∃ w, (t.chan k pc).bank b = freshBank l w)
    ∧ (∀ g, p.prog = some g → p.runs bank = true → (p.bank bank).actWait ≠ none →
        (s.boundary k pc bank g ≠ .ready → Becomes s .actAdmit (s.updBankAt k pc bank fun b => { b with actWait := none }))
        ∧ (s.boundary k pc bank g = .ready → p.firstWaiting bank = true → p.openRows s.ns < 24 → Becomes s .actAdmit (s.activate k pc bank g)))
    ∧ (p.runs bank = true →
      ((p.bank bank).winLeft = 0 → s.windowDue k pc bank = true →
        (mapGet 0 p.rows bank = 0 ∨ mapGet 0 p.refDue bank = 0 → Becomes s .arbitrationWindow (s.openWindow k pc bank))
        ∧ (mapGet 0 p.rows bank ≠ 0 → mapGet 0 p.refDue bank ≠ 0 → s.rasMet k pc bank = true →
            Becomes s .arbitrationWindow (s.closeRow k pc bank)))
      ∧ ((p.bank bank).winLeft ≠ 0 → ((p.queue.filter fun q => decide (q.bank = bank) && q.win).all s.colHeld) = true →
          Becomes s .arbitrationWindow (s.updChan k pc fun p => p.closeWindow bank)))
    ∧ (p.prog ≠ none → (s.stack k).takeover = none → (∀ b < 32, (p.bank b).ended = true ∨ (p.bank b).atWaits = true) →
        ∃ t, Becomes s .waitsRelease t ∧ t.mem = s.mem ∧ ∀ b < 32, (t.chan k pc).bank b =
          if (p.bank b).ended then p.bank b else { p.bank b with atWaits := false, mpc := (p.bank b).mpc + 1 })
    ∧ Becomes s .bankProgramStop (s.stopBanks k pc)
    ∧ (∀ t0, (s.stack k).takeover = some t0 → t0 + 5000000 ≤ s.ns → (s.stack k).holdOver = false →
        let u := s.updStack k fun t => { t with holdOver := true }
        Becomes s .bankHoldTimeout (((u.stack k).chans.map (·.1)).foldl
          (fun v pc =>
            let waiting := (v.chan k pc).waiting
            let w := v.updChan k pc fun p => { p with waiting := [], prog := p.prog.map fun g => { g with stopping := true } }
            (waiting.foldl (fun w l => w.finishLaunch l (stopFault l)) w).stopBanks k pc) u))
    ∧ (∀ va n, (s.core c).fence = some (va, n, false) → ∃ t, Becomes s .bfenceMarker t ∧ (t.core c).fence = some (va, n, true))

/-- 10 R243-R245, 22 R406: the routers' events complete, in every state in which the round is not over.  A router that has its own packet and the
values of all its children combines them: RPK.x merges its children's windows into its own, RPK.f adds their FP32 elements to its own in ORD
order, ORing the flags; the root, having combined, writes 128 bytes at its destination once the columns there have been served, with the readouts of
its windows for RPK.x.  A round whose timer has run out is abandoned: every packet sent completes with code 0x1807, and TVAL names the members that
have not sent, the tree and the round.  How the model counts the timer's cycles (log 40), and the root's write acting in the turn that finds its columns
served (log 3), are the model's choices. -/
def Obligations.RouterEvents : Prop :=
  ∀ s : State,
    let b := s.inp.b.toNat % 16
    let tree := s.inp.tree.toNat
    let m := s.inp.p
    let j := s.inp.j
    let t := s.tree b tree
    (∀ r own, s.round b tree m = some r → r.ended = 0 → s.roundLate r = false → (r.sent.find? fun p => decide (p.core.toNat = j.toNat)) = some own →
      let kids := childrenOf t j.toNat
      let done (u : State) : Prop := Becomes s .rpkRoundCombine (u.tryRoot b tree m j.toNat) ∧ (j.toNat ≠ treeRoot t → Becomes s .rpkRoundCombine u)
      ((∀ p ∈ r.sent, p.psn = true → p.core.toNat ∉ kids) → r.exact.find? (fun x => decide (x.1.toNat = j.toNat)) = none → r.rounded.find? (fun x => decide (x.1.toNat = j.toNat)) = none →
        (own.exactMode = true → ∀ vals : List (List Window),
          kids.map (fun i => (r.exact.find? fun x => decide (x.1.toNat = i)).map (·.2)) = vals.map some →
          done (s.updRound b tree m fun r => { r with
            exact := r.exact ++ [(j, vals.foldl (fun acc v => List.zipWith Window.merge acc v) (own.elems.map (leafWindow (treeAnchor t))))] }))
        ∧ (own.exactMode = false → ∀ vals : List (List (BitVec 32)),
          kids.map (fun i => (r.rounded.find? fun x => decide (x.1.toNat = i)).map (·.2)) = vals.map some →
          let sum := vals.foldl
            (fun (acc : List (BitVec 32) × FFlags) v =>
              ((List.zipWith addFp32 acc.1 v).map (·.1), (List.zipWith addFp32 acc.1 v).foldl (fun f y => f ||| y.2) acc.2)) (own.elems, r.flags)
          done (s.updRound b tree m fun r => { r with rounded := r.rounded ++ [(j, sum.1)], flags := sum.2 })))
      ∧ (∀ u ws, j.toNat = treeRoot t → own.exactMode = true → r.exact.find? (fun x => decide (x.1.toNat = j.toNat)) = some (j, ws) → own.core = j →
          let c := BitVec.ofNat 8 (16 * b + j.toNat)
          let out := ws.map fun w => w.readout (treeAnchor t) Fmt.fp32 .rne
          workGoesOn s c own.op 0 [] (s.rangePlaces c .write own.destVa.toNat 128)
            (fun u => u.rootWrite b tree r own (out.map fun y => BitVec.ofNat 32 y.1) (out.foldl (fun f y => f ||| y.2) 0)) u →
          Becomes s .rpkRoundCombine u))
    ∧ (∀ r, s.round b tree m = some r → r.ended = 0 → r.sent ≠ [] → r.at_ + roundTimer ≤ (mapGet Init.island s.islands b).milli s.ns →
      let missing := treeMemb t - (treeMemb t &&& r.sentMask)
      let tv := roundTval missing tree m
      Becomes s .roundTimeout ((s.finishPackets b r.sent (some (0x1807, tv))).updRound b tree m fun r => { r with ended := 0x1807, tval := tv }))

/-! ## Traps -/

namespace Sys2Proof.Claims

/-- The core with every pending result and every landing that has arrived written into its registers, and the results' flags ORed into FFLAGS
(18 R343 step 1). -/
def drained (c : Core) : Core :=
  let x := c.pipe.foldl (fun x r => (x.write r.write).orFlags r.flags) c.ctx
  { c with ctx := (c.land.filter fun l => l.data.isSome).foldl (fun x l => x.landWrite l (l.data.getD 0)) x, pipe := []
           land := c.land.filter fun l => l.data.isNone }

/-- The core in which the handler issues next: TPC, TCAUSE and TVAL tell of the trap, the pc is TVEC, and everything else a program can read is as
the earlier bundles left it (18 R343 steps 2 and 3, R345). -/
def Handles (d : Core) (code : BitVec 16) (port : BitVec 3) (tval tpc : BitVec 64) (t : Core) : Prop :=
  t.ctx = { d.ctx with tpc := tpc, tcause := port ++ code, tval := tval, pc := d.ctx.tvec, waitOk := false }
  ∧ t.pool = d.pool ∧ t.land = d.land ∧ t.pipe = d.pipe ∧ t.sb = d.sb ∧ t.ops = d.ops ∧ t.mq = d.mq ∧ t.launches = d.launches ∧ t.run = d.run
  ∧ t.task = d.task ∧ t.seg = d.seg

/-- The core takes the trap as `Handles` says, and nothing outside it changes. -/
def TrapsTo (s t : State) (code : BitVec 16) (port : BitVec 3) (tval tpc : BitVec 64) : Prop :=
  t = s.setCore s.cur (t.core s.cur) ∧ Handles (drained (here s)) code port tval tpc (t.core s.cur)

/-- A trap can be delivered to a handler at once: TVEC ≠ 0 and TCAUSE.CODE = 0 once the earlier bundles are complete, every landing has arrived, and
none is poisoned. -/
structure Handled (c : Core) : Prop where
  tvec : (drained c).ctx.tvec ≠ 0
  outside : (drained c).ctx.tcause.truncate 16 = (0 : BitVec 16)
  arrived : ∀ l ∈ c.land, l.data.isSome = true ∧ l.psn = false

/-- The last slot of a bundle of which nothing yet faults, with no landing due and no segment ending before it. -/
structure LastSlot (c : Core) : Prop where
  last : c.iss.rest = 0
  faultless : c.iss.fault = none
  unfrozen : c.iss.freezes = []
  landings : ∀ l ∈ c.land, l.due = false
  /-- The cycle is not one of the duty under PWRW. -/
  working : c.iss.duty = false
  unprotected : c.prot = false
  deferred : c.ctx.deferred = []
  /-- No register of the member holds poison. -/
  healthy : c.ctx.bad = []

/-- Arithmetic of the S port: the forms of which the statement on pending registers speaks. -/
def plainArithmetic (d a b : BitVec 6) : List Instr :=
  [.add d a b, .sub d a b, .mul d a b, .div d a b, .and d a b, .or d a b, .xor d a b, .shl d a b, .min d a b]

end Sys2Proof.Claims

/-- 18 R343-R345: a precise trap writes every pending result and landing, saves the bundle's address in TPC, its code and port in TCAUSE and its
value in TVAL, and issues the handler at TVEC next, the loop nest as it was; while a landing is outstanding, delivery waits for it.  With TVEC 0 the
member's task is killed with the trap's own code, and a trap inside a handler kills it with 0x1502, TVAL naming the inner code; the three
registers are recorded first, and saved with the other control registers at the save area's offset 0x0_0620. -/
def Obligations.TrapDelivery : Prop :=
  ∀ (s : State) (tr : Trap) (tpc : BitVec 64),
    (Handled (here s) → TrapsTo s (s.takeTrap s.cur tr tpc) tr.code tr.port tr.tval tpc)
    ∧ ((∃ l ∈ (here s).land, l.data.isSome = false) →
        s.takeTrap s.cur tr tpc = s.setCore s.cur { here s with trap := some (tr, tpc), iss := Init.issue })
    ∧ (∀ b : Binding,
        let d := drained (here s)
        let nested := d.ctx.tcause.truncate 16 ≠ (0 : BitVec 16)
        (∀ l ∈ (here s).land, l.data.isSome = true ∧ l.psn = false) → (here s).task = some b → (d.ctx.tvec = 0 ∨ nested) →
        ∃ x : Core, x.ctx = { d.ctx with
              tpc := tpc
              tcause := if nested then tr.port ++ (0x1502 : BitVec 16) else tr.port ++ tr.code
              tval := if nested then tr.code.zeroExtend 64 else tr.tval }
          ∧ s.takeTrap s.cur tr tpc =
            ((s.setCore s.cur x).corePut s.cur (saveArea b.savebase b.save x.ctx.id.tidx x.ctx.id.tgran b.memb + 0x620) 72 x.ctx.csrBlock).killTask b
              (if nested then 0x1502 else tr.code))

/-- 07 R152, 18 R343, 03 R72, 19 R371: TRAP completes: its bundle takes effect, the bundles after it that the nullifier removes are passed, and it is
delivered as 0x1501 with TVAL imm12 and TPC the bundle that would have issued next, to a protected member once its segment has committed. ERET completes: the bundle at TPC issues next, TCAUSE is 0, and nothing else
changes but what every bundle's end changes. -/
def Obligations.TrapAndReturn : Prop :=
  ∀ s : State,
    (∀ imm, s.Ready (.trap imm) true [] [.trap imm] →
      let v := s.issued (.trap imm) [.trap imm]
      let u := v.setCore s.cur ((({ v with peek := true } : State).skipRemoved s.cur 2).core s.cur)
      let tr : Trap := { code := 0x1501, port := 0, tval := imm.zeroExtend 64 }
      (({ v with peek := true } : State).removedNext s.cur = none → here u = here v) ∧
      ((here u).run = .running →
        (((here u).prot = false ∨ (here u).seg.openSeg = false) →
          exec (.trap imm) s = .next (u.withPeers s.cur fun x => x.takeTrap s.cur tr (here u).ctx.pc)
          ∧ (Handled (here u) → ∃ t, exec (.trap imm) s = .next t ∧ TrapsTo u t 0x1501 0 (imm.zeroExtend 64) (here u).ctx.pc))
        ∧ ((here u).prot = true → (here u).seg.openSeg = true → ∃ t, exec (.trap imm) s = .next t
            ∧ here t = { here u with trap := some (tr, (here u).ctx.pc), seg := { (here u).seg with ending := true } })))
    ∧ Does s .eret [.eret]
    ∧ (s.Ready .eret → (here s).iss.effects = [] → (here s).pipe = [] → (here s).land = [] → (here s).prot = false →
        ∃ t, exec .eret s = .next t ∧ t = s.setCore s.cur (t.core s.cur)
          ∧ (t.core s.cur).ctx = { (here s).ctx with pc := (here s).ctx.tpc, tcause := 0, cycle := (here s).ctx.cycle + 1, waitOk := false }
          ∧ (t.core s.cur).pool = (here s).pool)

/-- 18 R348, 03 R71, R73: a reserved field value traps with 0x1005 whatever the guard reads; a guard read while pending traps with 0x1101, where it
reads false and, for arithmetic, where it reads true; with a false guard the slot has no effect and no other fault, and its bundle only ends; arithmetic
that reads a pending register traps with 0x1101, and one that writes one with 0x1102.  Of two pending registers the lower is named: the model's choice
(log 8). -/
def Obligations.SlotFaults : Prop :=
  ∀ (s : State) (i : Instr),
    let c := here s
    let port := slotPort i c.iss.port
    i.slotParts.isSome = true → LastSlot c → Handled c →
    (i.wellFormed = false → ∃ t, exec i s = .next t ∧ TrapsTo s t 0x1005 port (slotWord i c.iss) c.ctx.pc)
    ∧ (i.wellFormed = true → isSelector i = false → 2 ≤ c.iss.guard.toNat → c.pending 2 (c.ctx.physP c.iss.guard.toNat) = true →
        (c.ctx.getP c.iss.guard.toNat = false ∨ ∃ d a b, i ∈ plainArithmetic d a b) →
        ∃ t, exec i s = .next t ∧ TrapsTo s t 0x1101 port (regIdentity (rd 2 c.iss.guard)) c.ctx.pc)
    ∧ (i.wellFormed = true → isSelector i = false → c.ctx.getP c.iss.guard.toNat = false →
        (c.iss.guard.toNat < 2 ∨ c.pending 2 (c.ctx.physP c.iss.guard.toNat) = false → c.iss.effects = [] → c.iss.rdv = false →
          ∃ t u, exec i s = .next t ∧ exec .nop (s.setCore s.cur { c with iss := { c.iss with guard := 0 } }) = .next u
            ∧ (here t).ctx = (here u).ctx ∧ (here t).pool = (here u).pool ∧ t.mem = s.mem))
    ∧ (∀ d a b, i ∈ plainArithmetic d a b →
        c.ctx.getP c.iss.guard.toNat = true → (c.iss.guard.toNat < 2 ∨ c.pending 2 (c.ctx.physP c.iss.guard.toNat) = false) →
        let late (r : BitVec 6) : Prop := r ≠ 0 ∧ c.pending 0 (c.ctx.physS r.toNat) = true
        (∀ r, (r = a ∨ r = b) → late r → (∀ q, (q = a ∨ q = b) → late q → r.toNat ≤ q.toNat) →
          ∃ t, exec i s = .next t ∧ TrapsTo s t 0x1101 port (r.zeroExtend 64) c.ctx.pc)
        ∧ (¬ late a → ¬ late b → late d → ∃ t, exec i s = .next t ∧ TrapsTo s t 0x1102 port (d.zeroExtend 64) c.ctx.pc))

namespace Sys2Proof.Claims

/-- Instruction `j`, ready but for what its operands make it trap on, takes that trap at its bundle. -/
def Traps (s : State) (j : Instr) (code : BitVec 16) (tval : BitVec 64) (more : List Use := []) : Prop :=
  s.Ready j false more → (here s).prot = false → Handled (here s) →
  ∃ t, exec j s = .next t ∧ TrapsTo s t code (slotPort j (here s).iss.port) tval (here s).ctx.pc

/-- `n` bytes of scratchpad lie apart from every live scoreboard range, so that nothing freezes first (03 R75). -/
def apart (s : State) (ea n : Nat) : Prop := ∀ e ∈ (here s).sb, overlaps ea n e.lo (e.hi + 1 - e.lo) = false

/-- The bytes of own scratchpad. -/
abbrev spEnd (s : State) : Nat := spSize (here s).ctx.pw

/-- A vector register's identity in TVAL (18 R347). -/
abbrev vId (n : BitVec 6) : BitVec 64 := 64 + n.zeroExtend 64

/-- A lane-granular form traps on the first lane whose address is misaligned, and, all being aligned, at the first byte outside of the first lane that
leaves the offset space. -/
def LaneTraps (s : State) (js : List Instr) (l : List Nat) : Prop :=
  (∀ b ∈ l, apart s b 4) → ∀ j ∈ js,
    (∀ b, (l.find? fun a => decide (a % 4 ≠ 0)) = some b → Traps s j 0x1201 (BitVec.ofNat 64 b))
    ∧ ((∀ b ∈ l, b % 4 = 0) → ∀ b, (l.find? fun a => decide (spEnd s < a + 4)) = some b → Traps s j 0x1202 (BitVec.ofNat 64 (max b (spEnd s))))

/-- The lanes' addresses as the indices read signed or unsigned. -/
def indexedAs (s : State) (a x : BitVec 4) (signed : Bool) : List Nat :=
  (List.range 128).map fun (j : Nat) =>
    let i := BitVec.ofNat 32 (elem 32 ((here s).ctx.getV x.toNat) j)
    (((areg s a).toNat + if signed then i.toInt else (i.toNat : Int)) % 2 ^ 48).toNat

/-- An address that no leaf or permission passes traps by the walk's result: 0x1401 to 0x1404, with TVAL the address. -/
def WalkTraps (s : State) (j : Instr) (want : Want) (va : Nat) : Prop :=
  ∀ f, 1 ≤ f → f ≤ 4 → s.xlateCore s.cur want va = .fault f → Traps s j (BitVec.ofNat 16 (0x1400 + f)) (BitVec.ofNat 64 va)

/-- The forms of two sources of one floating-point tag, those that also read their destination, and those of one source. -/
def fpPairs (d a b : BitVec 6) (m cc : BitVec 3) : List Instr :=
  [.faddV0 d a b, .faddV1 d a b, .fsubV0 d a b, .fsubV1 d a b, .fmulV0 d a b, .fmulV1 d a b, .fcpysV0 d a b, .fcpysV1 d a b, .fminV0 d a b,
   .fminV1 d a b, .fmaxV0 d a b, .fmaxV1 d a b, .fcmpV0 m cc a b, .fcmpV1 m cc a b]
def fpTriples (d a b : BitVec 6) : List Instr := [.fmaV0 d a b, .fmaV1 d a b, .fmsV0 d a b, .fmsV1 d a b]
def fpSingles (d a : BitVec 6) : List Instr :=
  [.fabsV0 d a, .fabsV1 d a, .fnegV0 d a, .fnegV1 d a, .frcp d a, .frsq d a, .fsqrt d a, .fexp2 d a, .flog2 d a, .ftanh d a]

/-- And of one integer tag. -/
def intPairs (d a b : BitVec 6) (m cc : BitVec 3) : List Instr :=
  [.iaddV0 d a b, .iaddV1 d a b, .isubV0 d a b, .isubV1 d a b, .imulV0 d a b, .imulV1 d a b, .iminV0 d a b, .iminV1 d a b, .imaxV0 d a b, .imaxV1 d a b,
   .shlV0 d a b, .shlV1 d a b, .shrV0 d a b, .shrV1 d a b, .sraV0 d a b, .sraV1 d a b, .icmpV0 m cc a b, .icmpV1 m cc a b]

/-- An engine slot whose descriptor has the KIND it accepts, a beacon in order, and room, traps on what else is wrong with it; `reads`: the registers
that its descriptor names beside the beacon's. -/
def EngineTraps (s : State) (j : Instr) (kind : Nat) (e : BitVec 6) (reads : List Use) (code : BitVec 16) (tval : BitVec 64) : Prop :=
  descField (ereg s e) 0 3 0 = kind → word0Faults (here s) (ereg s e) e = [] → (here s).sbUsed + 4 ≤ 32 →
    Traps s j code tval ((if descField (ereg s e) 0 13 8 = 0 then [] else [rdD 0 (descField (ereg s e) 0 13 8)]) ++ reads)

/-- The engine forms with the KIND they accept and how many operations their unit holds, the limit of the P port's being none. -/
def engineKinds (k x y z : BitVec 3) (e : BitVec 6) : List (Instr × Nat × Nat) :=
  [(.cpy k x y z e, 1, 8), (.cpym k x y z e, 1, 8), (.fill k x y z e, 1, 8), (.bulk k x y z e, 3, 8), (.gath k x y z e, 2, 8), (.scat k x y z e, 2, 8),
   (.rpkX k x y z e, 6, 2 ^ 64), (.rpkF k x y z e, 6, 2 ^ 64), (.bankld k x y z e, 7, 2 ^ 64), (.bankgo k x y z e, 7, 2 ^ 64),
   (.mldw k x y z e, 5, 16), (.mcode k x y z e, 5, 16), (.mmul k x y z e, 4, 16), (.mmuls k x y z e, 4, 16), (.mbagAcc k x y z e, 4, 16),
   (.mbagSteer k x y z e, 4, 16), (.mzero k x y z e, 4, 16), (.manch k x y z e, 4, 16), (.maddv k x y z e, 4, 16), (.mrd k x y z e, 4, 16),
   (.mst k x y z e, 4, 16), (.mstat k x y z e, 4, 16), (.mldt k x y z e, 4, 16), (.mtrl k x y z e, 4, 16), (.mstt k x y z e, 4, 16)]

end Sys2Proof.Claims

/-- 18 R347, R348, R355-R360, 07 R145-R151, R161, 03 R78, 08 R167, R168, R174, R184, 10 R217-R247, 11 R252, R253, 09 R190-R213: what an instruction's
operands make it trap on, its effects left out.  Scratchpad: a misaligned address (0x1201, TVAL the address), a byte outside the offset space (0x1202, the
first such byte), of the lane forms at the first lane at fault, an index register of another tag (0x1203).  Transfers, LAUNCH, PARK and beacons:
misaligned targets.  Global memory: a misaligned address (of a store without its offset: the model's choice, log 49), an address that no leaf or
permission passes (0x1401-0x1404, of a row access at its first line at fault), bank scope (0x1206), ACAS with D odd or 0 (0x1204).  Tags: the first
register not accepted or not of the first source's tag (0x1203; of several the one named first: the model's choice, log 7).  A LOOP against the nest rules
(0x1205).  Descriptors: another KIND (0x1301), fields that must be 0 (0x1302), reserved codes (0x1303), rows outside (0x1304), formats (0x1305), anchors
(0x1306), no member at a quad position or in a header's GROUP (0x1307), an arrival for an M operation (0x1308), no membership or leaf (0x1309). -/
def Obligations.OperandFaults : Prop :=
  (∀ (s : State) (d a i : BitVec 6) (ar x f : BitVec 4) (i8 : BitVec 8),
    (let ea := spAddr s a i
     apart s ea 8 → ∀ j ∈ [Instr.lds d a i, .sts d a i],
      (ea % 8 ≠ 0 → Traps s j 0x1201 (BitVec.ofNat 64 ea))
      ∧ (ea % 8 = 0 → spEnd s < ea + 8 → Traps s j 0x1202 (BitVec.ofNat 64 (max ea (spEnd s)))))
    ∧ (let ea := edldAddr s a i
       -- the bytes that lie at or above offset 0
       let lo := (max ea 0).toNat
       apart s lo ((ea + 32).toNat - lo) →
       (ea % 32 ≠ 0 → Traps s (.edld d a i) 0x1201 (BitVec.ofInt 64 ea))
       ∧ (ea % 32 = 0 → ea < 0 → Traps s (.edld d a i) 0x1202 (BitVec.ofInt 64 ea))
       ∧ (ea % 32 = 0 → spEnd s < ea + 32 → Traps s (.edld d a i) 0x1202 (BitVec.ofInt 64 (max ea (spEnd s)))))
    ∧ (let ea := ((areg s ar).toNat + i8.toNat * 512) % 2 ^ 48
       apart s ea 512 → ∀ j ∈ .vst d ar i8 :: (vldForms d ar i8).map (·.1),
        (ea % 64 ≠ 0 → Traps s j 0x1201 (BitVec.ofNat 64 ea))
        ∧ (ea % 64 = 0 → spEnd s < ea + 512 → Traps s j 0x1202 (BitVec.ofNat 64 (max ea (spEnd s)))))
    ∧ LaneTraps s [.vlds d ar x f, .vsts d ar x] (stridedAt s ar x)
    ∧ (((here s).ctx.getVTag x.toNat = 0 ∨ (here s).ctx.getVTag x.toNat = 1) → LaneTraps s [.vldx d ar x f, .vstx d ar x] (indexedAt s ar x))
    ∧ ((here s).ctx.getVTag x.toNat ≠ 0 → (here s).ctx.getVTag x.toNat ≠ 1 → (∀ sg, lanesFree s (indexedAs s ar x sg)) →
        ∀ j ∈ [Instr.vldx d ar x f, .vstx d ar x], Traps s j 0x1203 (vId (x.zeroExtend 6)))
    ∧ LaneTraps s [.vldb d ar x f] [(((areg s ar).toNat + ((here s).ctx.getS x.toNat).toInt) % 2 ^ 48).toNat])
  ∧ (∀ (s : State) (a b i : BitVec 6) (ar : BitVec 4) (k : BitVec 3) (lvl : BitVec 3) (n : BitVec 3),
    ((sreg s a).toNat % 16 ≠ 0 → Traps s (.bri a) 0x1201 (sreg s a))
    ∧ ((sreg s 31).toNat % 16 ≠ 0 → Traps s .ret 0x1201 (sreg s 31))
    ∧ ((sreg s a).toNat % 64 ≠ 0 → Traps s (.launch a) 0x1201 (sreg s a))
    ∧ ((sreg s a).toNat % 8 ≠ 0 → Traps s (.park a b) 0x1201 (sreg s a))
    ∧ ((sreg s a).toNat % 8 = 0 → sreg s a ≠ 0 → WalkTraps s (.park a b) .read (sreg s a).toNat)
    ∧ (let ea := addr s ar
       let off := ea % 2 ^ 23
       (∀ j ∈ [Instr.bwait ar 0 b, .bwait ar 1 b, .badd k ar 1 b], ea % 8 ≠ 0 → Traps s j 0x1201 (BitVec.ofNat 64 ea))
       ∧ (∀ j ∈ [Instr.bwait ar 1 b, .badd k ar 1 b], ea % 8 = 0 → spEnd s < off + 8 → Traps s j 0x1202 (BitVec.ofNat 64 (max off (spEnd s))))
       ∧ (queueFree s 1 → (ea % 8 ≠ 0 → Traps s (.badd k ar 0 b) 0x1201 (BitVec.ofNat 64 ea)) ∧ (ea % 8 = 0 → WalkTraps s (.badd k ar 0 b) .write ea))
       ∧ (ea % 8 = 0 → WalkTraps s (.bwait ar 0 b) .read ea)
       ∧ (sreg s b ≠ 0 → WalkTraps s (.bfence ar b) .read ea
          ∧ ∀ fid ra, s.xlateCore s.cur .read ea = .ok (.fabric fid ra) → Traps s (.bfence ar b) 0x1405 (BitVec.ofNat 64 ea)))
    ∧ (let off := (sreg s a).toNat
       let h : BitVec 256 := BitVec.ofNat 256 (readBytes (here s).pool.sp off 32)
       let sound : Prop := 2 ≤ (h.extractLsb' 0 2).toNat ∧ h.extractLsb' 2 14 = 0 ∧ h.extractLsb' 32 32 = 0 ∧ h.extractLsb' 192 64 = 0
       (apart s off 32 → off % 32 ≠ 0 → Traps s (.phase a) 0x1201 (BitVec.ofNat 64 off))
       ∧ (apart s off 32 → off % 32 = 0 → spEnd s < off + 32 → Traps s (.phase a) 0x1202 (BitVec.ofNat 64 (max off (spEnd s))))
       ∧ (spFree s 32 off 32 → (¬ sound → Traps s (.phase a) 0x1303 (BitVec.ofNat 64 off))
          ∧ (sound → h.getLsbD (16 + s.cur.toNat % 16) = false → Traps s (.phase a) 0x1307 (BitVec.ofNat 64 off))))
    ∧ (lvl.toNat < 6 →
        (let first := (here s).ctx.pc + BitVec.ofNat 64 (here s).iss.size
         let last := (({ s with peek := true } : State).bundlesOn s.cur ((if i = 0 then 64 else i.toNat) - 1) first).1
         (∃ j < 6, ((here s).ctx.getLevel j).active = true ∧
            (j ≤ lvl.toNat ∨ first.toNat < ((here s).ctx.getLevel j).first.toNat ∨ ((here s).ctx.getLevel j).last.toNat < last.toNat)) →
          Traps s (.loop lvl a i n) 0x1205 (slotWord (.loop lvl a i n) (here s).iss))))
  ∧ (∀ (s : State) (d : BitVec 6) (ar : BitVec 4) (l w : BitVec 2) (o : BitVec 5) (z k q r : BitVec 3) (n : BitVec 1),
    let ea := addr s ar
    let at_ (va : Nat) : BitVec 64 := BitVec.ofNat 64 va
    let sz := 2 ^ z.toNat
    let row := 512 / 2 ^ z.toNat
    (landingFree s →
      (∀ j ∈ [Instr.ldg l d ar o z, .ldgi d ar o z], (ea % sz ≠ 0 → Traps s j 0x1201 (at_ ea)) ∧ (ea % sz = 0 → WalkTraps s j .read ea))
      ∧ (ea % 8 ≠ 0 → Traps s (.lda d ar z) 0x1201 (at_ ea)) ∧ (z ≠ 5 → ea % 8 = 0 → WalkTraps s (.lda d ar z) .read ea)
      ∧ (ea % 64 ≠ 0 → Traps s (.ldgv d ar o z) 0x1201 (at_ ea))
      ∧ (ea % 64 = 0 → ∀ c, 64 * c < row →
          (∀ b < c, ∃ p, s.xlateCore s.cur .read (ea + 64 * b) = .ok p ∧ s.loadHeld (s.partOfCore s.cur) p = false) →
          WalkTraps s (.ldgv d ar o z) .read (ea + 64 * c)))
    ∧ (landingFree s → ∀ ps, loadFree s ps → placed s .read 8 ea ea 8 ps → Traps s (.lda d ar 5) 0x1206 (slotWord (.lda d ar 5) (here s).iss))
    ∧ (queueFree s 1 →
      (ea % sz ≠ 0 → Traps s (.stg l d ar o z) 0x1201 (at_ ea)) ∧ (ea % sz = 0 → WalkTraps s (.stg l d ar o z) .write (ea + o.toNat * sz))
      ∧ (ea % 8 ≠ 0 → Traps s (.stl d ar o z) 0x1201 (at_ ea)) ∧ (z ≠ 5 → ea % 8 = 0 → WalkTraps s (.stl d ar o z) .write (ea + o.toNat * 8))
      ∧ (∀ ps, ps.length = 1 → placed s .write 8 ea (ea + o.toNat * 8) 8 ps → Traps s (.stl d ar o 5) 0x1206 (slotWord (.stl d ar o 5) (here s).iss))
      ∧ (ea % 64 ≠ 0 → Traps s (.stgv d ar o z) 0x1201 (at_ ea)))
    ∧ (ea % 64 = 0 → ∀ c, 64 * c < row → queueFree s c → (∀ b < c, ∃ p, s.xlateCore s.cur .write (ea + o.toNat * row + 64 * b) = .ok p) →
        WalkTraps s (.stgv d ar o z) .write (ea + o.toNat * row + 64 * c))
    ∧ (queueFree s 1 →
      (∀ j ∈ (atomicForms d ar w k z).map (·.1), (ea % atomBytes z ≠ 0 → Traps s j 0x1201 (at_ ea)) ∧ (k ≠ 5 → ea % atomBytes z = 0 → WalkTraps s j .write ea))
      ∧ (∀ j ∈ (atomicForms d ar w 5 z).map (·.1), ∀ p, placed s .write (atomBytes z) ea ea (atomBytes z) [p] →
          Traps s j 0x1206 (slotWord j (here s).iss))
      ∧ (landingFree s → ∀ j ∈ [Instr.axch d ar w k z, .acas d ar w k z],
        (ea % atomBytes z ≠ 0 → Traps s j 0x1201 (at_ ea))
        ∧ (k ≠ 5 → ea % atomBytes z = 0 → (d.toNat % 2 = 0 ∧ d ≠ 0 ∨ j = .axch d ar w k z) → WalkTraps s j .write ea))
      ∧ (landingFree s → (d.toNat % 2 = 1 ∨ d = 0) → ∀ p, placed s .write (atomBytes z) ea ea (atomBytes z) [p] →
          Traps s (.acas d ar w k z) 0x1204 (slotWord (.acas d ar w k z) (here s).iss))
      ∧ (∀ j ∈ (quantForms d ar w k q).map (·.1), ea % 8 ≠ 0 → Traps s j 0x1201 (at_ ea) (scaleReads q.toNat)))
    ∧ ((here s).sbUsed < 32 → ∀ j ∈ [Instr.probe r d ar, .probei r d ar, .pinv ar, .ppin ar n], WalkTraps s j .read (block s ar)))
  ∧ (∀ (s : State) (d a b : BitVec 6) (m cc : BitVec 3) (e x : BitVec 1) (o : BitVec 2),
    let ta := vtag s a
    (fpTag ta = false → ∀ j ∈ fpSingles d a ++ fpPairs d a b m cc ++ fpTriples d a b, Traps s j 0x1203 (vId a))
    ∧ (fpTag ta = true → vtag s b ≠ ta → ∀ j ∈ fpPairs d a b m cc ++ fpTriples d a b, Traps s j 0x1203 (vId b))
    ∧ (fpTag ta = true → vtag s b = ta → vtag s d ≠ ta → ∀ j ∈ fpTriples d a b, Traps s j 0x1203 (vId d))
    ∧ (Fmt.isInt ta = false → ∀ j ∈ .iabsV0 d a :: .iabsV1 d a :: intPairs d a b m cc, Traps s j 0x1203 (vId a))
    ∧ (Fmt.isInt ta = true → vtag s b ≠ ta → ∀ j ∈ intPairs d a b m cc, Traps s j 0x1203 (vId b))
    ∧ (Fmt.isInt ta = false → fpTag ta = false → ∀ j ∈ [Instr.vscanV0 d a x e o, .vscanV1 d a x e o, .vredV0 d a e o, .vredV1 d a e o],
        Traps s j 0x1203 (vId a))
    ∧ (16 < width ta → ∀ j ∈ [Instr.unpklV0 d a b, .unpklV1 d a b, .unpkhV0 d a b, .unpkhV1 d a b, .packV0 d a b, .packV1 d a b],
        Traps s j 0x1203 (vId a)))
  ∧ (∀ (s : State) (k x y z : BitVec 3) (e : BitVec 6),
    let c := here s
    let dd := ereg s e
    let m := matDesc dd
    let num : BitVec 64 := e.zeroExtend 64
    let ok (kind : Nat) : Prop := kindReserved kind dd = false
    let fromSp := descField dd 1 3 0
    let toSp := descField dd 1 19 16
    let mcast := descField dd 1 37 34
    let inWindow := m.arow + m.nrow ≤ windowRows c.ctx.pw
    (∀ j ∈ engineKinds k x y z e, descField dd 0 3 0 ≠ j.2.1 → word0Faults c dd e = [] → roomFor s j.1 j.2.2 →
      Traps s j.1 0x1301 num (if descField dd 0 13 8 = 0 then [] else [rdD 0 (descField dd 0 13 8)]))
    ∧ (roomFor s (.fill k x y z e) 8 →
        (toSp = 1 → descField dd 1 14 0 ≠ 0 → EngineTraps s (.fill k x y z e) 1 e (toUses dd) 0x1302 num)
        ∧ (toSp = 0 → ∀ i < (copyDesc dd).rows,
          let at_ (i : Nat) : Int := (inSpace 0 (copyTo c dd) : Int) + i * (copyDesc dd).toPitch
          let out (i : Nat) : Prop := at_ i < 0 ∨ spEnd s < at_ i + (copyDesc dd).width
          out i → (∀ j < i, ¬ out j) →
            EngineTraps s (.fill k x y z e) 1 e (toUses dd) 0x1202 (BitVec.ofInt 64 (if at_ i < 0 then at_ i else max (at_ i) (spEnd s)))))
    ∧ (roomFor s (.cpy k x y z e) 8 →
        (fromSp = 1 → toSp = 1 → mcast ≠ 0 → EngineTraps s (.cpy k x y z e) 1 e (fromUses dd ++ toUses dd) 0x1302 num)
        ∧ (3 ≤ fromSp → toSp = 1 → mcast = 0 → ok 1 → EngineTraps s (.cpy k x y z e) 1 e (fromUses dd ++ toUses dd) 0x1303 num))
    ∧ (roomFor s (.cpym k x y z e) 8 → fromSp = 1 → toSp = 1 → ok 1 →
        EngineTraps s (.cpym k x y z e) 1 e (fromUses dd ++ toUses dd) 0x1303 num)
    ∧ (roomFor s (.cpym k x y z e) 8 → fromSp = 1 → toSp = 0 → ok 1 →
        blockFault c.ctx.pw (inSpace 0 (copyTo c dd)) (copyDesc dd).toPitch (copyDesc dd).rows (copyDesc dd).width = [] →
        (∃ p < 4, mcast.testBit p = true ∧ p ≠ s.cur.toNat % 4 ∧ s.peerMember s.cur p = false) →
        EngineTraps s (.cpym k x y z e) 1 e (fromUses dd ++ toUses dd) 0x1307 num)
    ∧ (roomFor s (.bulk k x y z e) 8 → ¬ (fromSp = 1 ∧ toSp = 1) → ok 3 →
        EngineTraps s (.bulk k x y z e) 3 e (fromUses dd ++ toUses dd) 0x1303 num)
    ∧ (let g := gatherDesc dd
       roomFor s (.gath k x y z e) 8 → g.lstSp = 1 → ok 2 → descField dd 2 63 48 = 0 →
        ((2 ≤ g.tblSp ∨ g.policy = 3) → EngineTraps s (.gath k x y z e) 2 e (fromUses dd ++ toUses dd) 0x1303 num)
        ∧ (g.tblSp < 2 → g.policy ≠ 3 → landRows c.ctx.pw < g.row0 + g.nent → EngineTraps s (.gath k x y z e) 2 e (fromUses dd ++ toUses dd) 0x1304 num))
    ∧ (let off := (descS c dd 1 5 0).toNat
       ∀ j ∈ [Instr.rpkX k x y z e, .rpkF k x y z e],
        let reads := [rdD 0 (descField dd 1 5 0), rdD 0 (descField dd 1 15 10)]
        (off % 128 ≠ 0 → EngineTraps s j 6 e reads 0x1201 (BitVec.ofNat 64 off))
        ∧ (off % 128 = 0 → spEnd s < off + 128 → EngineTraps s j 6 e reads 0x1202 (BitVec.ofNat 64 (max off (spEnd s))))
        ∧ (off % 128 = 0 → off + 128 ≤ spEnd s → ok 6 → (treeMemb (s.tree (s.cur.toNat / 16) (packetTree dd))).testBit (s.cur.toNat % 16) = false →
            EngineTraps s j 6 e reads 0x1309 num))
    ∧ (let leaf := s.bankLeaf s.cur (descS c dd 1 5 0).toNat
       ∀ pa, leaf.2 = .ok pa →
        (leaf.1 = none → ok 7 → descField dd 2 15 0 + count16 (descField dd 2 31 16) ≤ 10923 →
          EngineTraps s (.bankgo k x y z e) 7 e [rdD 0 (descField dd 1 5 0)] 0x1309 num)
        ∧ (10923 < descField dd 2 15 0 + count16 (descField dd 2 31 16) → ok 7 →
          EngineTraps s (.bankgo k x y z e) 7 e [rdD 0 (descField dd 1 5 0)] 0x1304 num)
        ∧ (let off := (descS c dd 1 11 6).toNat
           off % 64 ≠ 0 → EngineTraps s (.bankld k x y z e) 7 e [rdD 0 (descField dd 1 5 0), rdD 0 (descField dd 1 11 6)] 0x1201 (BitVec.ofNat 64 off)))
    ∧ (roomFor s (.manch k x y z e) 16 → ok 4 →
        (¬ inWindow → EngineTraps s (.manch k x y z e) 4 e [] 0x1304 num)
        ∧ (inWindow → descField dd 0 36 35 ≠ 0 → EngineTraps s (.manch k x y z e) 4 e [] 0x1308 num))
    ∧ (roomFor s (.mzero k x y z e) 16 → ok 4 → inWindow →
        let reads := if m.qsv then [rdD 8 m.qs] else []
        (adef m.afmt m.wfmt = .reserved → EngineTraps s (.mzero k x y z e) 4 e reads 0x1305 num)
        ∧ (adef m.afmt m.wfmt = .named → m.qsv = false → EngineTraps s (.mzero k x y z e) 4 e reads 0x1306 num)
        ∧ (adef m.afmt m.wfmt ≠ .reserved → anchorOk (zeroAnchor m (c.ctx.getQs m.qs)) = false → EngineTraps s (.mzero k x y z e) 4 e reads 0x1306 num))
    ∧ (roomFor s (.maddv k x y z e) 16 → c.ctx.getVTag m.vb ≠ 2 → c.ctx.getVTag m.vb ≠ 0 →
        EngineTraps s (.maddv k x y z e) 4 e [rdD 1 m.vb] 0x1203 (BitVec.ofNat 64 (64 + m.vb)))
    ∧ (roomFor s (.mrd k x y z e) 16 → is32 m.ofmt = true → m.otreg % 2 = 1 →
        EngineTraps s (.mrd k x y z e) 4 e [] 0x1204 (slotWord (.mrd k x y z e) c.iss))
    ∧ (roomFor s (.mcode k x y z e) 16 → let off := (ops1 c dd).toNat % 2 ^ 32
        off % 1024 ≠ 0 → EngineTraps s (.mcode k x y z e) 5 e [rdD 0 (descField dd 1 9 4)] 0x1201 (BitVec.ofNat 64 off)))

/-! ## Registers, and the end of a bundle -/

/-- 03 R66, R68: what a register file gives back after a write through the rotation in force: the value at the register written, every other
register as before; s0 reads 0, p0 true and p1 false whatever is written; and a rotation moves each rotating register up by one name, the last to the
first, and no other. -/
def Obligations.RegisterFiles : Prop :=
  ∀ (x : Ctx) (n m : BitVec 6) (q r : BitVec 4) (mk mk' tok : BitVec 3) (v : BitVec 64) (vv : VReg) (t : Tag) (b : Bool) (av : AReg) (mv : Mask)
    (ev : Desc),
    let y := x.rotate
    (Init.ctx.sB = 0 ∧ Init.ctx.vB = 0 ∧ Init.ctx.pB = 0 ∧ Init.ctx.kB = 0)
    ∧ x.physS n.toNat = (if n.toNat < 32 then n.toNat else 32 + (n.toNat - 32 + x.sB.toNat) % 32)
    ∧ x.physV n.toNat = (if n.toNat < 48 then n.toNat else 48 + (n.toNat - 48 + x.vB.toNat) % 16)
    ∧ x.physP q.toNat = (if q.toNat < 8 then q.toNat else 8 + (q.toNat - 8 + x.pB.toNat) % 8)
    ∧ x.physK tok.toNat = (if tok.toNat < 4 then tok.toNat else 4 + (tok.toNat - 4 + x.kB.toNat) % 4)
    ∧ y = { x with sB := x.sB - 1, vB := x.vB - 1, pB := x.pB - 1, kB := x.kB - 1 }
    ∧ ((x.write (.s (x.physS n.toNat) v)).getS m.toNat = if m = 0 then 0 else if m = n then v else x.getS m.toNat)
    ∧ ((x.write (.v (x.physV n.toNat) vv t)).getV m.toNat = if m = n then vv else x.getV m.toNat)
    ∧ ((x.write (.v (x.physV n.toNat) vv t)).getVTag m.toNat = if m = n then t else x.getVTag m.toNat)
    ∧ ((x.write (.p (x.physP q.toNat) b)).getP r.toNat = if r = 0 then true else if r = 1 then false else if r = q then b else x.getP r.toNat)
    ∧ ((x.write (.a q.toNat av)).getA r.toNat = if r = q then av else x.getA r.toNat)
    ∧ ((x.write (.mk mk.toNat mv)).getMk mk'.toNat = if mk' = mk then mv else x.getMk mk'.toNat)
    ∧ ((x.write (.e n.toNat ev)).getE m.toNat = if m = n then ev else x.getE m.toNat)
    ∧ (n.toNat < 32 → y.getS n.toNat = x.getS n.toNat) ∧ (32 ≤ n.toNat → n ≠ 63 → y.getS (n.toNat + 1) = x.getS n.toNat) ∧ y.getS 32 = x.getS 63
    ∧ (n.toNat < 48 → y.getV n.toNat = x.getV n.toNat) ∧ (48 ≤ n.toNat → n ≠ 63 → y.getV (n.toNat + 1) = x.getV n.toNat) ∧ y.getV 48 = x.getV 63
    ∧ (q.toNat < 8 → y.getP q.toNat = x.getP q.toNat) ∧ (8 ≤ q.toNat → q ≠ 15 → y.getP (q.toNat + 1) = x.getP q.toNat) ∧ y.getP 8 = x.getP 15
    ∧ (tok.toNat < 4 → y.physK tok.toNat = x.physK tok.toNat) ∧ (4 ≤ tok.toNat → tok ≠ 7 → y.physK (tok.toNat + 1) = x.physK tok.toNat)
    ∧ y.physK 4 = x.physK 7

namespace Sys2Proof.Claims

/-- The bundle at hand is a NOP's alone: nothing else is in it, and its member is not protected. -/
structure Idle (s : State) : Prop where
  ready : s.Ready .nop
  empty : (here s).iss.effects = []
  unprotected : (here s).prot = false

/-- The context once the results and landings that fall due at this bundle's end are written (03 R69, R70). -/
def fallen (c : Core) : Ctx :=
  let x := (c.pipe.filter fun r => decide (r.left ≤ 1)).foldl (fun x r => (x.write r.write).orFlags r.flags) c.ctx
  (c.land.filter fun l => decide (l.left = 0) && l.data.isSome).foldl (fun x l => x.landWrite l (l.data.getD 0)) x

end Sys2Proof.Claims

/-- 03 R69, R70: at the end of a bundle every fixed-latency result in its last cycle, and every landing of this bundle's distance that has arrived, is
written, the flags of the results ORed into FFLAGS; each other result is a cycle nearer, each other landing a bundle nearer or due; memory and
everything else outside the core stays, and with no body ending here the next bundle in order follows.  A bundle's own
results of latency 1 are in their registers when it ends, and each other one has a cycle less to go. -/
def Obligations.BundleEnds : Prop :=
  (∀ s : State, Idle s → ∃ t, exec .nop s = .next t ∧ t = s.setCore s.cur (t.core s.cur) ∧
    let c := here s
    let d := t.core s.cur
    d.pipe = (c.pipe.filter fun r => decide (1 < r.left)).map (fun r => { r with left := r.left - 1 })
    ∧ d.land = (c.land.filter fun l => !(decide (l.left = 0) && l.data.isSome)).map
        (fun l => if l.left = 0 then { l with due := true } else { l with left := l.left - 1 })
    ∧ d.pool = c.pool ∧ d.sb = c.sb ∧ d.ops = c.ops ∧ d.mq = c.mq ∧ d.launches = c.launches ∧ d.run = c.run
    ∧ ((∀ j < 6, (c.ctx.getLevel j).active = true → (c.ctx.getLevel j).last ≠ c.ctx.pc) →
        d.ctx = { fallen c with pc := c.ctx.pc + BitVec.ofNat 64 c.iss.size, cycle := c.ctx.cycle + 1, waitOk := false }))
  ∧ ∀ (s : State) (i : Instr) (rs : List (Nat × RegWrite × FFlags)), Plain s →
    let d := after s i (rs.map fun r => .result r.1 r.2.1 r.2.2)
    let due := rs.filter fun r => decide (r.1 ≤ 1)
    d.ctx = goesOn s (due.foldl (fun x r => (x.write r.2.1).orFlags r.2.2) (here s).ctx)
    ∧ d.pipe = (rs.filter fun r => decide (1 < r.1)).map (fun r => { left := r.1 - 1, write := r.2.1, flags := r.2.2 })
    ∧ d.pool = (here s).pool ∧ d.run = (here s).run

/-- 07 R162: at the end of the last bundle of one level's body, after the bundle's own writes, every address register adds its step of the level; with
stages every rotating file rotates and p8 tells whether another item begins; the trip is counted, and the next trip begins at the body's first
bundle or, after the last one, the level is idle and the bundle after the body follows. -/
def Obligations.LoopBackEdges : Prop :=
  ∀ (s : State) (lvl : Nat), Idle s → lvl < 6 →
    let c := here s
    let l := c.ctx.getLevel lvl
    l.active = true → l.last = c.ctx.pc → (∀ j < 6, j ≠ lvl → (c.ctx.getLevel j).active = true → (c.ctx.getLevel j).last ≠ c.ctx.pc) →
    ∃ t, exec .nop s = .next t ∧
      let x := fallen c
      let y := (t.core s.cur).ctx
      let more := decide (l.trips + 1 < l.t)
      (∀ n < 16, y.getA n = x.getA n + x.getStep lvl n)
      ∧ y.getLevel lvl = { l with trips := l.trips + 1, active := more }
      ∧ (∀ j < 6, j ≠ lvl → y.getLevel j = c.ctx.getLevel j)
      ∧ y.pc = (if more then l.first else c.ctx.pc + BitVec.ofNat 64 c.iss.size)
      ∧ y.s = x.s ∧ y.v = x.v ∧ y.mks = x.mks ∧ y.e = x.e ∧ y.step = x.step ∧ y.fflags = x.fflags
      ∧ (l.n = 0 → y.sB = x.sB ∧ y.vB = x.vB ∧ y.pB = x.pB ∧ y.kB = x.kB ∧ y.p = x.p)
      ∧ (1 ≤ l.n → y.sB = x.sB - 1 ∧ y.vB = x.vB - 1 ∧ y.pB = x.pB - 1 ∧ y.kB = x.kB - 1 ∧ y.getP 8 = decide (l.trips + 1 < l.c)
          ∧ ∀ n < 16, n ≠ 8 → y.getP n = x.rotate.getP n)

/-! ## Frames -/

namespace Sys2Proof.Claims

/-- The bundle did not take effect: it trapped, at once or once the segment of a protected member has committed (a deferred trap being delivered leaves
the pending ones), froze for a cycle, parked its member at a wait, or met a poisoned table entry; poison that gates stopped on its walks may have been
recorded there. -/
def Stopped (s t : State) : Prop :=
  (∃ (x : Issue) (d : List Deferred) (tr : Trap) (pas : List Nat),
    let u := (pas.foldl State.gateStops (s.setCore s.cur { here s with iss := x })).setCore s.cur
      { here s with iss := x, ctx := { (here s).ctx with deferred := d } }
    t = u.raiseTrap s.cur tr)
  ∨ (∃ x fz, fz ≠ [] ∧ t = s.setCore s.cur (Core.freezeCycle { here s with iss := x } fz))
  ∨ t = s.setCore s.cur { here s with run := .parked none, iss := Init.issue }
  ∨ ∃ (x : Issue) (pa : Nat) (pas : List Nat), t = (pas.foldl State.gateStops (s.setCore s.cur { here s with iss := x })).walkPoison s.cur pa

/-- What a slot may write: registers of each file by the names it gives them, steps by level and register, FFLAGS, the generators, loop levels. -/
structure Writes where
  s : List (BitVec 6) := []
  v : List (BitVec 6) := []
  p : List (BitVec 4) := []
  a : List (BitVec 4) := []
  m : List (BitVec 3) := []
  e : List (BitVec 6) := []
  step : List (BitVec 3 × BitVec 4) := []
  flags : Bool := false
  rng : Bool := false
  nest : Bool := false

/-- The registers that keep their values when only those of `w` are written. -/
def SameRegs (x y : Ctx) (w : Writes) : Prop :=
  (∀ n, n ∉ w.s → y.getS n.toNat = x.getS n.toNat)
  ∧ (∀ n, n ∉ w.v → y.getV n.toNat = x.getV n.toNat ∧ y.getVTag n.toNat = x.getVTag n.toNat)
  ∧ (∀ n, n ∉ w.p → y.getP n.toNat = x.getP n.toNat)
  ∧ (∀ n, n ∉ w.a → y.getA n.toNat = x.getA n.toNat)
  ∧ (∀ n, n ∉ w.m → y.getMk n.toNat = x.getMk n.toNat)
  ∧ (∀ n, n ∉ w.e → y.getE n.toNat = x.getE n.toNat)
  ∧ (∀ l n, (l, n) ∉ w.step → y.getStep l.toNat n.toNat = x.getStep l.toNat n.toNat)
  ∧ (w.flags = false → y.fflags = x.fflags) ∧ (w.rng = false → y.rng = x.rng) ∧ (w.nest = false → y.lc = x.lc)

/-- A result still to be written names a register of `w`. -/
def Names (x : Ctx) (w : Writes) : Nat × Nat → Prop
  | (0, n) => ∃ r ∈ w.s, n = x.physS r.toNat
  | (1, n) => ∃ r ∈ w.v, n = x.physV r.toNat
  | (2, n) => ∃ r ∈ w.p, n = x.physP r.toNat
  | (3, n) => ∃ r ∈ w.a, n = r.toNat
  | (4, n) => ∃ r ∈ w.m, n = r.toNat
  | (6, n) => ∃ r ∈ w.e, n = r.toNat
  | _ => False

/-- Nothing has changed but registers of `w`, now or by a result still pending, the pc, and what every bundle's end changes: all of memory, every
other core, the scratchpad, tiles, accumulators and landing rows, every special register, the rotation, tokens, phases and requests stay. -/
def Kept (s t : State) (w : Writes) : Prop :=
  let c := here s
  let d := t.core s.cur
  t = s.setCore s.cur d
  ∧ d.pool = c.pool ∧ d.land = c.land ∧ d.sb = c.sb ∧ d.ops = c.ops ∧ d.mq = c.mq ∧ d.launches = c.launches ∧ d.run = c.run ∧ d.task = c.task
  ∧ d.ctx = { c.ctx with
      s := d.ctx.s, v := d.ctx.v, vtag := d.ctx.vtag, p := d.ctx.p, mks := d.ctx.mks, a := d.ctx.a, e := d.ctx.e, step := d.ctx.step, lc := d.ctx.lc
      fflags := d.ctx.fflags, rng := d.ctx.rng, pc := d.ctx.pc, cycle := d.ctx.cycle, segLeft := d.ctx.segLeft, waitOk := d.ctx.waitOk }
  ∧ SameRegs c.ctx d.ctx w
  ∧ ∀ r ∈ d.pipe, Names c.ctx w r.write.target ∧ (w.flags = false → r.flags = 0)

/-- An instruction that ends its bundle alone answers a state in which the bundle did not take effect, or in which only `w` is written. -/
def Frame (s : State) (i : Instr) (w : Writes) : Prop := ∀ t, exec i s = .next t → Stopped s t ∨ Kept s t w

/-- Nothing outside the core has changed, and in it no register, control register, part of the pool, operation or landing but what `f` and `g` take from
the state after: what they do not take is as it was.  The pc, the count of cycles and the marks of a bundle's end may change. -/
def KeptState (s t : State) (f : Ctx → Ctx) (g : Pool → Pool) : Prop :=
  let c := here s
  let d := t.core s.cur
  t = s.setCore s.cur d
  ∧ d.pipe = [] ∧ d.land = [] ∧ d.ops = c.ops ∧ d.task = c.task ∧ d.pool = g d.pool
  ∧ d.ctx = { f d.ctx with pc := d.ctx.pc, cycle := d.ctx.cycle, segLeft := d.ctx.segLeft, waitOk := d.ctx.waitOk }

/-- The same of an instruction that ends its bundle alone and enters nothing into the core's queues. -/
def FrameOf (s : State) (i : Instr) (f : Ctx → Ctx) (g : Pool → Pool) : Prop :=
  ∀ t, exec i s = .next t → Stopped s t ∨
    KeptState s t f g ∧ (t.core s.cur).sb = (here s).sb ∧ (t.core s.cur).mq = (here s).mq ∧ (t.core s.cur).launches = (here s).launches
      ∧ (t.core s.cur).run = (here s).run

/-- The forms that write one scalar register. -/
def scalarForms (d a b i : BitVec 6) (k : BitVec 12) (q ar : BitVec 4) : List Instr :=
  [.add d a b, .sub d a b, .mul d a b, .mulh d a b, .mulhu d a b, .div d a b, .divu d a b, .rem d a b, .remu d a b, .and d a b, .or d a b, .xor d a b,
   .andn d a b, .shl d a b, .shr d a b, .sra d a b, .rotl d a b, .min d a b, .max d a b, .minu d a b, .maxu d a b, .clz d a, .ctz d a, .popc d a,
   .sext d a i, .zext d a i, .addi d a i, .andi d a i, .ori d a i, .shli d a i, .shri d a i, .srai d a i, .movi d k, .movhi d k, .sel q d a b,
   .csrr d k, .aget d ar, .vextV0 d a b, .vextV1 d a b]

/-- The vector forms that raise no flag. -/
def plainVectorForms (d a b : BitVec 6) (f n : BitVec 4) (k m : BitVec 3) (imm : BitVec 12) : List Instr :=
  [.fabsV0 d a, .fabsV1 d a, .fnegV0 d a, .fnegV1 d a, .fcpysV0 d a b, .fcpysV1 d a b, .iaddV0 d a b, .iaddV1 d a b, .isubV0 d a b, .isubV1 d a b,
   .imulV0 d a b, .imulV1 d a b, .imadV0 d a b, .imadV1 d a b, .iaddwV0 d a b, .iaddwV1 d a b, .imadwV0 d a b, .imadwV1 d a b, .iminV0 d a b,
   .iminV1 d a b, .imaxV0 d a b, .imaxV1 d a b, .iabsV0 d a, .iabsV1 d a, .andV0 d a b, .andV1 d a b, .orV0 d a b, .orV1 d a b, .xorV0 d a b,
   .xorV1 d a b, .shlV0 d a b, .shlV1 d a b, .shrV0 d a b, .shrV1 d a b, .sraV0 d a b, .sraV1 d a b, .unpklV0 d a b, .unpklV1 d a b, .unpkhV0 d a b,
   .unpkhV1 d a b, .packV0 d a b, .packV1 d a b, .setfmtV0 d a f, .setfmtV1 d a f, .vmovV0 d a, .vmovV1 d a, .vmoviV0 d imm, .vmoviV1 d imm,
   .vbcstV0 d a b, .vbcstV1 d a b, .vselV0 m d a b, .vselV1 m d a b, .vpermV0 d a b, .vpermV1 d a b, .vrotV0 d a n, .vrotV1 d a n, .xclV0 d a k,
   .xclV1 d a k, .xclbV0 d a k, .xclbV1 d a k]

/-- The vector forms that may raise flags. -/
def flaggingVectorForms (d a b : BitVec 6) (x e : BitVec 1) (o : BitVec 2) : List Instr :=
  [.faddV0 d a b, .faddV1 d a b, .fsubV0 d a b, .fsubV1 d a b, .fmulV0 d a b, .fmulV1 d a b, .fmaV0 d a b, .fmaV1 d a b, .fmsV0 d a b, .fmsV1 d a b,
   .fminV0 d a b, .fminV1 d a b, .fmaxV0 d a b, .fmaxV1 d a b, .frcp d a, .frsq d a, .fsqrt d a, .fexp2 d a, .flog2 d a, .ftanh d a,
   .vscanV0 d a x e o, .vscanV1 d a x e o, .vredV0 d a e o, .vredV1 d a e o]

end Sys2Proof.Claims

/-- 07 R139-R164, 08 R168-R187, 03 R66: the frame of the instructions that only write registers or transfer control: each writes its destination
(a comparison its pair of predicates, CALL s31, LOOP the stage predicates), the floating-point ones FFLAGS, a conversion also the generators,
transfers, LOOP and STAGE the loop nest, and nothing else: in particular no byte of memory or scratchpad and no special register.
Waits, drains, fences, SEG and RDV change nothing (07 R157, 10 R233-R238); KCLR its token alone, CSRW and CSRS control registers alone, no other of them
than the one named, PHASE and PHWAIT the phases; LAUNCH only lets a request wait to be sent, HALT and PARK only end their member's run. -/
def Obligations.RegisterFrames : Prop :=
  ∀ (s : State) (t : BitVec 18) (d a b i : BitVec 6) (k : BitVec 12) (q r u f n : BitVec 4) (x e v : BitVec 1) (o rnd w2 : BitVec 2) (m m' m'' cc lvl : BitVec 3),
    Alone s →
    (∀ j ∈ scalarForms d a b i k q u, Frame s j { s := [d] })
    ∧ (∀ j ∈ plainVectorForms d a b f n m' m k, Frame s j { v := [d] })
    ∧ (∀ j ∈ flaggingVectorForms d a b x e o, Frame s j { v := [d], flags := true })
    ∧ (∀ j ∈ [Instr.cvtV0 d a f rnd, .cvtV1 d a f rnd, .cvtnV0 d a f rnd, .cvtnV1 d a f rnd],
        Frame s j { v := [d], flags := true, rng := decide (rnd = 2) })
    ∧ (∀ j ∈ [Instr.cmp m cc a b, .cmpi m cc a i], Frame s j { p := [m.zeroExtend 4 * 2, m.zeroExtend 4 * 2 + 1] })
    ∧ (∀ j ∈ [Instr.fcmpV0 m cc a b, .fcmpV1 m cc a b], Frame s j { m := [m], flags := true })
    ∧ (∀ j ∈ [Instr.icmpV0 m cc a b, .icmpV1 m cc a b, .mkand m m' m'', .mkor m m' m'', .mknot m m'], Frame s j { m := [m] })
    ∧ (∀ j ∈ [Instr.au q u a, .aui q k, .amov q a], Frame s j { a := [q] })
    ∧ (∀ j ∈ [Instr.pand q r u, .por q r u, .pxor q r u, .pnot q r, .pmov q r, .pset q v], Frame s j { p := [q] })
    ∧ Frame s (.lstep q lvl a) { step := [(lvl, q)] }
    ∧ Frame s (.edw d a w2) { e := [d] }
    ∧ Frame s .nop {}
    ∧ (∀ j ∈ [Instr.br t, .bri a, .ret, .stage lvl k], Frame s j { nest := true })
    ∧ Frame s (.call t) { s := [31], nest := true }
    ∧ Frame s (.loop lvl a b m) { p := [8, 9, 10, 11, 12, 13, 14, 15], nest := true }
    ∧ (∀ j ∈ [Instr.drain m, .bfence q a, .twait m m' m'', .bwait q v b, .seg t, .rdv t], Frame s j {})
    ∧ (let c := (here s).ctx
       let pool : Pool → Pool := fun _ => (here s).pool
       FrameOf s (.kclr m) (fun y => { c with k := y.k, deferred := y.deferred }) pool
       ∧ (∀ t, exec (.kclr m) s = .next t → Stopped s t ∨ ∀ j ≠ c.physK m.toNat, (t.core s.cur).ctx.tokenDone j = c.tokenDone j)
       ∧ (∀ j ∈ [Instr.csrw d k, .csrs d k],
          FrameOf s j (fun y => { c with frm := y.frm, fflags := y.fflags, srseed := y.srseed, rng := y.rng, waitcap := y.waitcap, tvec := y.tvec
                                         tpc := y.tpc, tcause := y.tcause, tval := y.tval, qs := y.qs }) pool
          ∧ ∀ t, exec j s = .next t → Stopped s t ∨
              ∀ n : BitVec 12, n ≠ k → n ≠ 0x020 → (t.core s.cur).ctx.csrRead s.cur s.ns n = c.csrRead s.cur s.ns n)
       ∧ (spSound s (sreg s a).toNat 32 → FrameOf s (.phase a) (fun y => { c with light := y.light, dark := y.dark, cur := y.cur }) pool)
       ∧ FrameOf s .phwait (fun y => { c with light := y.light, dark := y.dark }) pool
       ∧ (∀ t, exec (.launch a) s = .next t → Stopped s t ∨
          KeptState s t (fun _ => c) pool ∧ (t.core s.cur).mq = (here s).mq ∧ (t.core s.cur).run = (here s).run)
       ∧ ∀ j ∈ [Instr.halt, .park a b], ∀ t, exec j s = .next t → Stopped s t ∨
          KeptState s t (fun _ => c) pool ∧ (t.core s.cur).mq = (here s).mq ∧ (t.core s.cur).launches = (here s).launches)

namespace Sys2Proof.Claims

/-- The bytes of scratchpad that a slot may store to: every other byte, and every other register, accumulator and byte of memory, stays; stores mark
the cache slots they reach as dirty and clear the poison of what they overwrite (10 R226, 17 R332). -/
def KeptSp (s t : State) (stored : Nat → Prop) : Prop :=
  let c := here s
  let d := t.core s.cur
  t = s.setCore s.cur d
  ∧ (∀ a, ¬ stored a → mapGet 0 d.pool.sp a = mapGet 0 c.pool.sp a)
  ∧ d.pool = { c.pool with sp := d.pool.sp, psn := d.pool.psn, tagt := d.pool.tagt }
  ∧ (∀ n, mapGet Init.tagEntry d.pool.tagt n = { mapGet Init.tagEntry c.pool.tagt n with dirty := (mapGet Init.tagEntry d.pool.tagt n).dirty })
  ∧ d.pipe = [] ∧ d.land = [] ∧ d.sb = c.sb ∧ d.ops = c.ops ∧ d.mq = c.mq ∧ d.launches = c.launches ∧ d.run = c.run ∧ d.task = c.task
  ∧ d.ctx = { c.ctx with pc := d.ctx.pc, cycle := d.ctx.cycle, segLeft := d.ctx.segLeft, waitOk := d.ctx.waitOk }

/-- `a` is one of the `n` bytes at `ea`. -/
abbrev inBytes (ea n a : Nat) : Prop := ea ≤ a ∧ a < ea + n

end Sys2Proof.Claims

/-- 07 R145, R146, 08 R184, R185: the frame of the scratchpad forms: STS stores 8 bytes at s(a) + sext(imm6) × 8, VST 512 bytes at
a(A) + imm8 × 512, VSTS and VSTX 4 bytes at each lane's address, and no other byte changes; the loads store nothing and write their register alone.
PROBE and PROBEI (10 R224, R225) write their register and their pair and change the tag table alone, as PWB, PINV and PPIN do; a BADD stores 8 bytes of
scratchpad, or only enters the memory port. -/
def Obligations.ScratchpadFrames : Prop :=
  ∀ (s : State) (d a i : BitVec 6) (ar x f : BitVec 4) (i8 : BitVec 8), Alone s →
    let wide := ((areg s ar).toNat + i8.toNat * 512) % 2 ^ 48
    let sound (ea n : Nat) : Prop := spSound s ea n
    let one := (((areg s ar).toNat + ((here s).ctx.getS x.toNat).toInt) % 2 ^ 48).toNat
    (∀ t, exec (.sts d a i) s = .next t → Stopped s t ∨ KeptSp s t (inBytes (spAddr s a i) 8))
    ∧ (∀ t, exec (.vst d ar i8) s = .next t → Stopped s t ∨ KeptSp s t (inBytes wide 512))
    ∧ (∀ t, exec (.vsts d ar x) s = .next t → Stopped s t ∨ KeptSp s t fun b => ∃ ea ∈ stridedAt s ar x, inBytes ea 4 b)
    ∧ (∀ t, exec (.vstx d ar x) s = .next t → Stopped s t ∨ KeptSp s t fun b => ∃ ea ∈ indexedAt s ar x, inBytes ea 4 b)
    ∧ (lanesSound s (indexedAt s ar x) → Frame s (.vldx d ar x f) { v := [d] })
    ∧ (sound (spAddr s a i) 8 → Frame s (.lds d a i) { s := [d] })
    ∧ ((∀ eb : Nat, (eb : Int) = edldAddr s a i → sound eb 32) → Frame s (.edld d a i) { e := [d] })
    ∧ (sound wide 512 → ∀ j ∈ vldForms d ar i8, Frame s j.1 { v := [d] })
    ∧ (lanesSound s (stridedAt s ar x) → Frame s (.vlds d ar x f) { v := [d] })
    ∧ (sound one 4 → Frame s (.vldb d ar x f) { v := [d] })
    ∧ (∀ (r k : BitVec 3) (t6 : BitVec 6) (n : BitVec 1),
        let c := (here s).ctx
        let tags : Pool → Pool := fun q => { (here s).pool with tagt := q.tagt }
        (∀ j ∈ [Instr.probe r d ar, .probei r d ar], ∀ t, exec j s = .next t → Stopped s t ∨
          (KeptState s t (fun y => { c with s := y.s, p := y.p }) (fun q => { (here s).pool with tagt := q.tagt, plru := q.plru })
            ∧ SameRegs c (t.core s.cur).ctx { s := [d], p := [r.zeroExtend 4 * 2, r.zeroExtend 4 * 2 + 1] } ∧ (t.core s.cur).run = (here s).run))
        ∧ (∀ t, exec (.pwb ar) s = .next t → Stopped s t ∨ KeptState s t (fun _ => c) tags ∧ (t.core s.cur).run = (here s).run)
        ∧ FrameOf s (.pinv ar) (fun _ => c) tags ∧ FrameOf s (.ppin ar n) (fun _ => c) tags
        ∧ (sound ((areg s ar).toNat % 2 ^ 23) 8 →
            ∀ t, exec (.badd k ar 1 t6) s = .next t → Stopped s t ∨ KeptSp s t (inBytes ((areg s ar).toNat % 2 ^ 23) 8))
        ∧ ∀ t, exec (.badd k ar 0 t6) s = .next t → Stopped s t ∨
            KeptState s t (fun _ => c) (fun _ => (here s).pool) ∧ (t.core s.cur).sb = (here s).sb ∧ (t.core s.cur).run = (here s).run)

namespace Sys2Proof.Claims

/-- The forms of the memory port that take an address register. -/
def portForms (l : BitVec 2) (d : BitVec 6) (a : BitVec 4) (o : BitVec 5) (z w : BitVec 3) (r : BitVec 2) : List Instr :=
  [.ldg l d a o z, .ldgi d a o z, .ldgv d a o z, .stg l d a o z, .stgv d a o z, .lda d a z, .stl d a o z, .axch d a r w z, .acas d a r w z]
  ++ (atomicForms d a r w z).map (·.1) ++ (quantForms d a r w z).map (·.1)

/-- The engine operations. -/
def engineForms (k x y z : BitVec 3) (e : BitVec 6) : List Instr :=
  [.mldw k x y z e, .mswap k x y z, .mmul k x y z e, .mmuls k x y z e, .mbagAcc k x y z e, .mbagSteer k x y z e, .mzero k x y z e, .manch k x y z e,
   .mrd k x y z e, .mst k x y z e, .maddv k x y z e, .mstat k x y z e, .mtrl k x y z e, .mldt k x y z e, .mstt k x y z e, .mcode k x y z e,
   .cpy k x y z e, .cpym k x y z e, .gath k x y z e, .scat k x y z e, .fill k x y z e, .bulk k x y z e, .rpkX k x y z e, .rpkF k x y z e,
   .bankld k x y z e, .bankgo k x y z e]

/-- Issued, such an instruction leaves every register, control register, the loop nest and the bytes of the scratchpad: a load's register is written
by its landing, an operation's results come when it completes.  FFLAGS, tokens, token links of deferred faults and round counts may change. -/
def KeptIssue (s t : State) : Prop :=
  let c := here s
  let d := t.core s.cur
  t = s.setCore s.cur d ∧ d.pipe = [] ∧ d.pool.sp = c.pool.sp ∧ d.run = c.run ∧ d.task = c.task
  ∧ d.ctx = { c.ctx with
      fflags := d.ctx.fflags, k := d.ctx.k, deferred := d.ctx.deferred, rounds := d.ctx.rounds, pc := d.ctx.pc, cycle := d.ctx.cycle
      segLeft := d.ctx.segLeft, waitOk := d.ctx.waitOk }

end Sys2Proof.Claims

/-- 03 R73, 10 R227, 09 R190, 18 R343: no bundle that takes effect, meeting no poison and no TRAP, changes anything outside its own core when it is
issued, and none a byte of memory: loads, stores, atomics and engine operations enter the core's own queues and act later. A slot adds to the model's
own record of the bundle what its own body says (log 2), and one that is not its bundle's last changes nothing else; the last one ends the bundle, which
traps, freezes, parks, meets poison or takes effect as that record stands. A load, store, atomic or engine operation leaves every register and the scratchpad's bytes at issue. -/
def Obligations.SlotsActAtHome : Prop :=
  (∀ (s t : State) (l r : BitVec 2) (d e : BitVec 6) (a : BitVec 4) (o : BitVec 5) (z w k x y : BitVec 3) (i : Instr), Alone s → exec i s = .next t →
    i ∈ portForms l d a o z w r ++ engineForms k x y z e → Stopped s t ∨ KeptIssue s t)
  ∧ ∀ i : Instr, i.slotParts.isSome = true → ∃ body : State → Core → SlotOut, (∀ s, exec i s = issueSlot i body s) ∧
    ∀ s t : State, exec i s = .next t →
      let x := ((contribute i body s).core s.cur).iss
      contribute i body s = s.setCore s.cur { here s with iss := x } ∧ (∃ es, x.effects = (here s).iss.effects ++ es)
      ∧ ((here s).iss.rest ≠ 0 → t = s.setCore s.cur { here s with iss := { x with rest := (here s).iss.rest - 1 } })
      ∧ ((here s).iss.rest = 0 → Stopped s t ∨
          (walkPoisonOf x.effects = none
            ∧ (poisonOf x.effects = none → trapOf x.effects = none → gateStopsOf x.effects = [] → (here s).ctx.bad = [] →
                (∀ l ∈ (here s).land, l.psn = false) → t = s.setCore s.cur (Core.commit { here s with iss := x }) ∧ t.mem = s.mem)))


/-! ## The machine -/

/-- 01 R19, R31, R33, R34, R25, 03 R66, 15 R303: what reset leaves, in the values the spec gives: no owner, bring-up not complete, the arrangement
PTAB 0x01, the ceiling at its reset value, no core bound; and what a task's registers hold at its first bind: s, v, a, e and qs registers and
base registers 0, tags INT32, p0 alone true, every mask lane set, levels idle, tokens complete. -/
def Obligations.ResetValues : Prop :=
  let s := State.reset
  let x := Init.ctx
  s.ctl.own = 0 ∧ s.ctl.bootst = 0 ∧ s.ctl.ptab = 1 ∧ s.ctl.pcfgst = 0 ∧ s.ctl.pceil = 2400 ∧ s.owner = none ∧ s.seq = 0 ∧ s.events = []
  ∧ (∀ c, (s.core c).cstate = 0 ∧ (s.core c).task = none ∧ (s.core c).pipe = [] ∧ (s.core c).land = [] ∧ (s.core c).ops = [])
  ∧ (∀ n, x.getS n = 0 ∧ x.getV n = 0 ∧ x.getVTag n = 0 ∧ x.getA n = 0 ∧ x.getE n = 0 ∧ x.getQs n = 0 ∧ x.getMk n = BitVec.allOnes 512)
  ∧ (∀ n, x.getP n = decide (n = 0)) ∧ (∀ n, (x.getLevel n).active = false) ∧ (∀ n, x.tokenDone n = true)
  ∧ x.sB = 0 ∧ x.vB = 0 ∧ x.pB = 0 ∧ x.kB = 0
  ∧ State.Canonical s

/-- The model's own: stack memory and the file of cores keep the one form in which equal contents are equal data, over every turn of every agent:
each issue cycle of a core, each micro-op, each event, each hardware error. -/
def Obligations.StepKeepsCanonicalForm : Prop := ∀ s t : State, State.Canonical s → step s = .next t → State.Canonical t

/-- 06 R116-R126, 13 R286: decoding what was encoded gives it back: for every slot instruction, on each of its ports and under every header, the same
header (its GUARD field the selector where the instruction holds one) and instruction; for every micro-op, with the target of those that have one. -/
def Obligations.DecodeAfterEncode : Prop :=
  (∀ (i : Instr) (q : SlotParts) (h : SlotHeader), i.slotParts = some q → h.port ∈ q.ports →
    ∃ w, encode ⟨h, i⟩ = some w ∧ decodeSlot w = .ok ⟨{ h with guard := q.selector.getD h.guard }, i⟩)
  ∧ (∀ (t : BitVec 5) (i : Instr) (w : BitVec 16), encodeUop ⟨t, i⟩ = some w →
    decodeUop w = .ok ⟨if i = .uopRowend ∨ (∃ n, i = .uopLoopc n) then t else 0, i⟩)
  ∧ (∀ i : Instr, i.slotParts.isSome = true ∨ (∃ w, encodeUop ⟨0, i⟩ = some w) ∨ isEvent i = true)

/-- 06 R116-R126, 07, 13 R286: words written out from the encoding tables decode to the instructions they stand for: ADD s1, s2, s3 and
CMP.lt p2, s4, s5; BR −3 bundles and LAUNCH s9; LOOP lc1, s24, 2, 0; LSTEP a1, lc1, s0; KCLR k5; ACAS s8; two micro-ops; an unassigned code of each. -/
def Obligations.DecodeWords : Prop :=
  (decodeInstr 0x00041083).toOption = some (.add 1 2 3)
  ∧ (decodeInstr 0x0090A105).toOption = some (.cmp 1 2 4 5)
  ∧ (decodeInstr 0x04A3FFFD).toOption = some (.br (-3))
  ∧ (decodeInstr 0x00B00240).toOption = some (.launch 9)
  ∧ (decodeInstr 0x6014B010).toOption = some (.loop 1 24 2 0)
  ∧ (decodeInstr 0x60184800).toOption = some (.lstep 1 1 0)
  ∧ (decodeInstr 0x603A8000).toOption = some (.kclr 5)
  ∧ (decodeInstr 0x708C81E3).toOption = some (.acas 8 1 3 4 3)
  ∧ decodeUop 0x2000 = .ok ⟨0, .uopRdc 0 0 0⟩
  ∧ decodeUop 0x8090 = .ok ⟨1, .uopLoopc 16⟩
  ∧ decodeUop 0xB000 = .error .unassigned
  ∧ decodeSlot 0x00FC0000 = .error .unassigned

namespace Sys2Proof.Claims

/-- The state in which core `c`'s turn begins: its M unit has gone on by a cycle (09 R193; log 42). -/
def atTurn (s : State) (c : BitVec 8) : State := { ({ s with blocked := false } : State).coreCycle c with cur := c }

/-- The state in which its bundle issues: the bundle's size is noted, and whether PWRW or a change of
frequency makes the cycle a freeze cycle (02 R39, 01 R16; log 45). -/
def atBundle (t : State) (c : BitVec 8) (n : Nat) : State :=
  let d := t.dutyStep c
  t.setCore c { t.core c with duty := d.1, iss := { (t.core c).iss with size := n, duty := d.2 } }

/-- A bundle one of whose accesses waits for its columns issues nothing, and its cycle passes (log 44). -/
def orStalls (u : State) (c : BitVec 8) : Host.Outcome State Fault Refusal → Host.Outcome State Fault Refusal
  | .next t => .next (if t.blocked && !u.blocked then u.updCore c Core.stall else t)
  | x => x

/-- The columns that an event has used are spent, unless it waits (log 44). -/
def orWaits (inp : Input) : Host.Outcome State Fault Refusal → Host.Outcome State Fault Refusal
  | .next t => .next (if t.blocked then t else t.spendEvent inp)
  | x => x

end Sys2Proof.Claims

/-- 02 R52, 06 R116-R118, 03 R60, 13 R285: a step runs what is decoded.  The turn of a core whose bundle at the pc can be fetched, is framed as R117 and
R118 say, decodes to instructions with no reserved field and no dependence, and is not removed, is `exec` of each of its slots in ascending PORT
order, with the slot's header noted; the turn of a bank that may execute is `exec` of the micro-op at its MPC; an event's turn is `exec` of it.
A turn one of whose accesses must wait leaves the state as it was, but that the turn is taken, and for a core that its cycle passes.  The trailing cores
of mirror pairs do their parts after it; where no protected task is bound there are none.  The list of turns, the record of the bundle in
issue, the micro-op's target in State, the turn that waits and the trailing cores' parts are the model's own (logs 2, 3, 21 and 44). -/
def Obligations.StepRunsDecoded : Prop :=
  (∀ (s : State) (x : Turn) (ts : List Turn), s.turns = x :: ts →
    let u : State := { s with turns := ts }
    (s.twins = [] → step s = act u x)
    ∧ ∀ t, act u x = .next t → step s = .next (u.followed t x.issues fun v => if x.shared then actOn x v else v))
  ∧ (∀ (s : State) (c : BitVec 8) (ws : List (BitVec 32)) (slots : List Slot),
    let t := atTurn s c
    (t.core c).issues = true → (t.core c).trap = none → ((t.core c).prot = false ∨ (t.core c).mayPreempt = false) →
    t.fetchWords c (t.core c).ctx.pc 8 0 = (ws, none) →
    framingFault ws true = none → decodeBundle [] ws = .ok slots → (t.core c).removable slots = false →
      act s (.issue c) = held s (orStalls (({ s with blocked := false } : State).coreCycle c) c (runSlots slots (atBundle t c (bundleBytes ws.length))))
      ∧ ws.map decodeSlot = slots.map .ok ∧ ∀ sl ∈ slots, sl.instr.wellFormed = true)
  ∧ (∀ s : State, runSlots [] s = .next s)
  ∧ (∀ (s t : State) (sl : Slot) (rest : List Slot), exec sl.instr (s.atSlot sl.hdr rest.length) = .next t →
      runSlots (sl :: rest) s = runSlots rest t)
  ∧ (∀ (s : State) (k : BitVec 3) (pc : BitVec 8) (bank : BitVec 5) (u : UopSlot),
      let p := s.chan k.toNat pc.toNat
      let b := p.bank bank.toNat
      pc.toNat < 192 → s.bankWaits k.toNat pc.toNat bank.toNat = false →
      (b.row ≠ none ∨ (s.stack k.toNat).suspends = false) →
      decodeUop (mapGet 0 p.uops b.mpc.toNat) = .ok u →
      act s (.uop k pc bank) = held s (exec u.instr { s with blocked := false, curBank := (k, pc, bank), uopT := u.target }))
  ∧ (∀ (s : State) (i : Instr) (inp : Input), isEvent i = true →
      act s (.event i inp) = held s (orWaits inp (exec i { s with inp := inp, blocked := false })))
  ∧ (∀ s t : State, held s (.next t) = .next (if t.blocked then s else t))
end

