-- ==== Sys2Proof/Laws/Maps.lean ====
section
/-! SUPPORT. Sparse maps: every write keeps the canonical form, a read after a write gives what was written, and a write leaves every other key alone. -/

namespace Sys2Proof.Laws

open Sys2Proof.Machine

variable {α : Type} [DecidableEq α] {d : α} {m : FMap α}

/-- A canonical map has no entry below its bound. -/
theorem mapGet_below {lo k : Nat} (h : mapWfFrom d lo m = true) (hk : k < lo) : mapGet d m k = d := by
  induction m generalizing lo with
  | nil => rfl
  | cons x m ih =>
    obtain ⟨j, x⟩ := x
    simp only [mapWfFrom, Bool.and_eq_true, decide_eq_true_eq] at h
    rw [mapGet, if_neg (by omega), ih h.2 (by omega)]

theorem mapWfFrom_mono {lo lo' : Nat} (h : mapWfFrom d lo m = true) (hl : lo' ≤ lo) : mapWfFrom d lo' m = true := by
  cases m with
  | nil => rfl
  | cons x m =>
    obtain ⟨j, x⟩ := x
    simp only [mapWfFrom, Bool.and_eq_true, decide_eq_true_eq] at h ⊢
    exact ⟨⟨by omega, h.1.2⟩, h.2⟩

theorem mapWfFrom_filter {lo : Nat} (p : Nat × α → Bool) (h : mapWfFrom d lo m = true) : mapWfFrom d lo (m.filter p) = true := by
  induction m generalizing lo with
  | nil => rfl
  | cons x m ih =>
    obtain ⟨j, x⟩ := x
    simp only [mapWfFrom, Bool.and_eq_true, decide_eq_true_eq] at h
    by_cases hp : p (j, x) = true
    · simp [hp, mapWfFrom, h.1.1, h.1.2, ih h.2]
    · simpa [hp] using ih (mapWfFrom_mono h.2 (by omega))

/-- Putting a key that the map lacks keeps the canonical form. -/
theorem mapWfFrom_put {lo k : Nat} {v : α} (hv : v ≠ d) (hm : ∀ x ∈ m, x.1 ≠ k) (h : mapWfFrom d lo m = true) (hk : lo ≤ k) :
    mapWfFrom d lo (mapPut m k v) = true := by
  induction m generalizing lo with
  | nil => simp [mapPut, mapWfFrom, hv, hk]
  | cons x m ih =>
    obtain ⟨j, x⟩ := x
    have hj : j ≠ k := hm _ List.mem_cons_self
    simp only [mapWfFrom, Bool.and_eq_true, decide_eq_true_eq] at h
    by_cases h1 : k < j
    · simp only [mapPut, h1, if_true, mapWfFrom, Bool.and_eq_true, decide_eq_true_eq]
      exact ⟨⟨hk, hv⟩, ⟨⟨h1, h.1.2⟩, h.2⟩⟩
    · simp [mapPut, h1, mapWfFrom, h.1.1, h.1.2, ih (fun x hx => hm x (List.mem_cons_of_mem _ hx)) h.2 (by omega)]

theorem mapWfFrom_set {lo k : Nat} (v : α) (h : mapWfFrom d lo m = true) (hk : lo ≤ k) : mapWfFrom d lo (mapSet d m k v) = true := by
  unfold mapSet
  have hf := mapWfFrom_filter (fun x => decide (x.1 ≠ k)) h
  by_cases hv : v = d
  · simpa [hv] using hf
  · simpa [hv] using mapWfFrom_put hv (fun x hx => by simpa using (List.mem_filter.mp hx).2) hf hk

/-- A write keeps the canonical form. -/
theorem mapWf_set (k : Nat) (v : α) (h : mapWf d m = true) : mapWf d (mapSet d m k v) = true := mapWfFrom_set v h (Nat.zero_le k)

theorem mapWf_upd (k : Nat) (f : α → α) (h : mapWf d m = true) : mapWf d (mapUpd d m k f) = true := mapWf_set k _ h

theorem mapWf_setAll (ks : List Nat) (v : α) (h : mapWf d m = true) : mapWf d (mapSetAll d m ks v) = true := by
  induction ks generalizing m with
  | nil => exact h
  | cons k ks ih => exact ih (mapWf_set k v h)

theorem mapWf_filter (p : Nat × α → Bool) (h : mapWf d m = true) : mapWf d (m.filter p) = true := mapWfFrom_filter p h

theorem mapWf_drop (lo hi : Nat) (h : mapWf d m = true) : mapWf d (mapDrop m lo hi) = true := mapWf_filter _ h

omit [DecidableEq α] in
theorem mapGet_put_same {k : Nat} (v : α) (hm : ∀ x ∈ m, x.1 ≠ k) : mapGet d (mapPut m k v) k = v := by
  induction m with
  | nil => simp [mapPut, mapGet]
  | cons x m ih =>
    obtain ⟨j, x⟩ := x
    have hj : j ≠ k := hm _ List.mem_cons_self
    by_cases h1 : k < j
    · simp [mapPut, h1, mapGet]
    · simp [mapPut, h1, mapGet, hj, ih fun x hx => hm x (List.mem_cons_of_mem _ hx)]

omit [DecidableEq α] in
theorem mapGet_put_other {k i : Nat} (v : α) (hi : i ≠ k) : mapGet d (mapPut m k v) i = mapGet d m i := by
  induction m with
  | nil => simp [mapPut, mapGet, Ne.symm hi]
  | cons x m ih =>
    obtain ⟨j, x⟩ := x
    by_cases h1 : k < j
    · simp [mapPut, h1, mapGet, Ne.symm hi]
    · by_cases h3 : j = i
      · subst h3; simp [mapPut, h1, mapGet]
      · simp [mapPut, h1, mapGet, h3, ih]

omit [DecidableEq α] in
theorem mapGet_erase_same (k : Nat) : mapGet d (m.filter fun x => decide (x.1 ≠ k)) k = d := by
  induction m with
  | nil => rfl
  | cons x m ih => by_cases h : x.1 = k <;> simp [h, mapGet] <;> simpa using ih

omit [DecidableEq α] in
theorem mapGet_erase_other {k i : Nat} (hi : i ≠ k) : mapGet d (m.filter fun x => decide (x.1 ≠ k)) i = mapGet d m i := by
  induction m with
  | nil => rfl
  | cons x m ih =>
    obtain ⟨j, x⟩ := x
    by_cases h : j = k
    · subst h
      simpa [mapGet, Ne.symm hi] using ih
    · by_cases h3 : j = i
      · subst h3
        simp [h, mapGet]
      · simpa [h, mapGet, h3] using ih

/-- A read after a write to the same key gives the value written. -/
theorem mapGet_set_same (k : Nat) (v : α) : mapGet d (mapSet d m k v) k = v := by
  unfold mapSet
  by_cases hv : v = d
  · simpa [hv] using mapGet_erase_same k
  · simpa [hv] using mapGet_put_same v fun x hx => by simpa using (List.mem_filter.mp hx).2

/-- A write leaves every other key alone. -/
theorem mapGet_set_other {k i : Nat} (v : α) (hi : i ≠ k) : mapGet d (mapSet d m k v) i = mapGet d m i := by
  unfold mapSet
  by_cases hv : v = d
  · simpa [hv] using mapGet_erase_other hi
  · simpa [hv] using (mapGet_put_other v hi).trans (mapGet_erase_other hi)

omit [DecidableEq α] in
theorem erase_put (k : Nat) (v : α) : ((mapPut m k v).filter fun x => decide (x.1 ≠ k)) = m.filter fun x => decide (x.1 ≠ k) := by
  induction m with
  | nil => simp [mapPut]
  | cons x m ih =>
    obtain ⟨j, x⟩ := x
    by_cases h1 : k < j
    · simp [mapPut, h1]
    · simp only [mapPut, h1, if_false, List.filter_cons, ih]

/-- Of two writes to one key the second stands. -/
theorem mapSet_set {k : Nat} {v w : α} : mapSet d (mapSet d m k v) k w = mapSet d m k w := by
  unfold mapSet
  by_cases hv : v = d
  · simp [hv]
  · have h := erase_put (m := m.filter fun x => decide (x.1 ≠ k)) k v
    rw [List.filter_filter] at h
    simp only [hv, if_false, Bool.and_self] at h ⊢
    rw [h]

/-! ## Bytes -/

theorem wf_writeBytes {m : FMap Byte} (a n x : Nat) (h : mapWf 0 m = true) : mapWf 0 (writeBytes m a n x) = true := by
  induction n generalizing m a x with
  | zero => exact h
  | succ n ih => exact ih _ _ (mapWf_set _ _ h)

theorem wf_putList {m : FMap Byte} (a : Nat) (bs : List Byte) (h : mapWf 0 m = true) : mapWf 0 (putList m a bs) = true := by
  induction bs generalizing m a with
  | nil => exact h
  | cons b bs ih => exact ih _ (mapWf_set _ _ h)

theorem wf_putBlock {m : FMap Byte} (a n : Nat) (src : FMap Byte) (h : mapWf 0 m = true) : mapWf 0 (putBlock m a n src) = true := by
  unfold putBlock
  generalize src.filter _ = l
  have h := mapWf_drop a (a + n) h
  generalize mapDrop m a (a + n) = m' at h
  induction l generalizing m' with
  | nil => exact h
  | cons x l ih => exact ih _ (mapWf_set _ _ h)

/-- A write of bytes leaves every address outside them alone. -/
theorem byteAt_writeBytes_other {m : FMap Byte} (a n x i : Nat) (h : i < a ∨ a + n ≤ i) : byteAt (writeBytes m a n x) i = byteAt m i := by
  induction n generalizing m a x with
  | zero => rfl
  | succ n ih =>
    rw [writeBytes, ih _ _ (by omega)]
    exact mapGet_set_other _ (by omega)

/-- A read of the bytes just written gives their number, modulo 256^n. -/
theorem readBytes_writeBytes {m : FMap Byte} (a n x : Nat) : readBytes (writeBytes m a n x) a n = x % 256 ^ n := by
  induction n generalizing m a x with
  | zero => simp [readBytes, Nat.mod_one]
  | succ n ih =>
    rw [writeBytes, readBytes, ih, byteAt_writeBytes_other _ _ _ _ (by omega), byteAt, mapGet_set_same]
    exact (Nat.pow_succ' ▸ Nat.mod_mul (x := x) (a := 256) (b := 256 ^ n)).symm

/-- The byte at an address after a number is written, lowest byte first. -/
theorem get_writeBytes (m : FMap Byte) (a n x b : Nat) : mapGet 0 (writeBytes m a n x) b = if a ≤ b ∧ b < a + n then BitVec.ofNat 8 (x / 256 ^ (b - a)) else mapGet 0 m b := by
  induction n generalizing m a x with
  | zero => simp [writeBytes]
  | succ n ih =>
    rw [writeBytes, ih]
    by_cases h : b = a
    · subst h; simp [mapGet_set_same]
    · rw [mapGet_set_other _ h]
      by_cases h2 : a + 1 ≤ b ∧ b < a + 1 + n
      · rw [if_pos h2, if_pos (by omega), Nat.div_div_eq_div_mul, show b - a = (b - (a+1)) + 1 by omega, pow_succ, Nat.mul_comm]
      · rw [if_neg h2, if_neg (by omega)]

end Sys2Proof.Laws
end

