-- ==== Sys2Proof/Laws/State.lean ====
section
/-! SUPPORT. What each update of the state leaves alone, field by field, and what reading back gives. -/

namespace Sys2Proof.Laws

open Sys2Proof.Machine

/-! ## The machine -/

@[simp] theorem setCore_turns (s : State) (c : BitVec 8) (x : Core) : (s.setCore c x).turns = s.turns := rfl
@[simp] theorem setCore_inp (s : State) (c : BitVec 8) (x : Core) : (s.setCore c x).inp = s.inp := rfl
@[simp] theorem setCore_cur (s : State) (c : BitVec 8) (x : Core) : (s.setCore c x).cur = s.cur := rfl
@[simp] theorem setCore_curBank (s : State) (c : BitVec 8) (x : Core) : (s.setCore c x).curBank = s.curBank := rfl
@[simp] theorem setCore_uopT (s : State) (c : BitVec 8) (x : Core) : (s.setCore c x).uopT = s.uopT := rfl
@[simp] theorem setCore_nfree (s : State) (c : BitVec 8) (x : Core) : (s.setCore c x).nfree = s.nfree := rfl
@[simp] theorem setCore_ns (s : State) (c : BitVec 8) (x : Core) : (s.setCore c x).ns = s.ns := rfl
@[simp] theorem setCore_powered (s : State) (c : BitVec 8) (x : Core) : (s.setCore c x).powered = s.powered := rfl
@[simp] theorem setCore_mem (s : State) (c : BitVec 8) (x : Core) : (s.setCore c x).mem = s.mem := rfl
@[simp] theorem setCore_poison (s : State) (c : BitVec 8) (x : Core) : (s.setCore c x).poison = s.poison := rfl
@[simp] theorem setCore_stk (s : State) (c : BitVec 8) (x : Core) : (s.setCore c x).stk = s.stk := rfl
@[simp] theorem setCore_ctl (s : State) (c : BitVec 8) (x : Core) : (s.setCore c x).ctl = s.ctl := rfl
@[simp] theorem setCore_seq (s : State) (c : BitVec 8) (x : Core) : (s.setCore c x).seq = s.seq := rfl
@[simp] theorem setCore_events (s : State) (c : BitVec 8) (x : Core) : (s.setCore c x).events = s.events := rfl
@[simp] theorem setCore_cp (s : State) (c : BitVec 8) (x : Core) : (s.setCore c x).cp = s.cp := rfl
@[simp] theorem setCore_pools (s : State) (c : BitVec 8) (x : Core) : (s.setCore c x).pools = s.pools := rfl
@[simp] theorem setCore_tasks (s : State) (c : BitVec 8) (x : Core) : (s.setCore c x).tasks = s.tasks := rfl
@[simp] theorem setCore_slots (s : State) (c : BitVec 8) (x : Core) : (s.setCore c x).slots = s.slots := rfl
@[simp] theorem setCore_slotHi (s : State) (c : BitVec 8) (x : Core) : (s.setCore c x).slotHi = s.slotHi := rfl
@[simp] theorem setCore_rptr (s : State) (c : BitVec 8) (x : Core) : (s.setCore c x).rptr = s.rptr := rfl
@[simp] theorem setCore_age (s : State) (c : BitVec 8) (x : Core) : (s.setCore c x).age = s.age := rfl
@[simp] theorem setCore_owns (s : State) (c : BitVec 8) (x : Core) : (s.setCore c x).owns = s.owns := rfl
@[simp] theorem setCore_islands (s : State) (c : BitVec 8) (x : Core) : (s.setCore c x).islands = s.islands := rfl
@[simp] theorem setCore_trees (s : State) (c : BitVec 8) (x : Core) : (s.setCore c x).trees = s.trees := rfl
@[simp] theorem setCore_rounds (s : State) (c : BitVec 8) (x : Core) : (s.setCore c x).rounds = s.rounds := rfl
@[simp] theorem setCore_recs (s : State) (c : BitVec 8) (x : Core) : (s.setCore c x).recs = s.recs := rfl
@[simp] theorem setCore_ports (s : State) (c : BitVec 8) (x : Core) : (s.setCore c x).ports = s.ports := rfl
@[simp] theorem setCore_vcstop (s : State) (c : BitVec 8) (x : Core) : (s.setCore c x).vcstop = s.vcstop := rfl
@[simp] theorem setCore_fab (s : State) (c : BitVec 8) (x : Core) : (s.setCore c x).fab = s.fab := rfl
@[simp] theorem setCore_reply (s : State) (c : BitVec 8) (x : Core) : (s.setCore c x).reply = s.reply := rfl
@[simp] theorem setCore_asks (s : State) (c : BitVec 8) (x : Core) : (s.setCore c x).asks = s.asks := rfl
@[simp] theorem setCore_inbound (s : State) (c : BitVec 8) (x : Core) : (s.setCore c x).inbound = s.inbound := rfl
@[simp] theorem setCore_blocked (s : State) (c : BitVec 8) (x : Core) : (s.setCore c x).blocked = s.blocked := rfl
@[simp] theorem setCore_got (s : State) (c : BitVec 8) (x : Core) : (s.setCore c x).got = s.got := rfl
@[simp] theorem setCore_peek (s : State) (c : BitVec 8) (x : Core) : (s.setCore c x).peek = s.peek := rfl
@[simp] theorem setCore_twins (s : State) (c : BitVec 8) (x : Core) : (s.setCore c x).twins = s.twins := rfl
@[simp] theorem setCore_tlb (s : State) (c : BitVec 8) (x : Core) : (s.setCore c x).tlb = s.tlb := rfl
@[simp] theorem setCore_fw (s : State) (c : BitVec 8) (x : Core) : (s.setCore c x).fw = s.fw := rfl

@[simp] theorem setStack_turns (s : State) (k : Nat) (x : Stack) : (s.setStack k x).turns = s.turns := rfl
@[simp] theorem setStack_inp (s : State) (k : Nat) (x : Stack) : (s.setStack k x).inp = s.inp := rfl
@[simp] theorem setStack_cur (s : State) (k : Nat) (x : Stack) : (s.setStack k x).cur = s.cur := rfl
@[simp] theorem setStack_curBank (s : State) (k : Nat) (x : Stack) : (s.setStack k x).curBank = s.curBank := rfl
@[simp] theorem setStack_uopT (s : State) (k : Nat) (x : Stack) : (s.setStack k x).uopT = s.uopT := rfl
@[simp] theorem setStack_nfree (s : State) (k : Nat) (x : Stack) : (s.setStack k x).nfree = s.nfree := rfl
@[simp] theorem setStack_ns (s : State) (k : Nat) (x : Stack) : (s.setStack k x).ns = s.ns := rfl
@[simp] theorem setStack_powered (s : State) (k : Nat) (x : Stack) : (s.setStack k x).powered = s.powered := rfl
@[simp] theorem setStack_mem (s : State) (k : Nat) (x : Stack) : (s.setStack k x).mem = s.mem := rfl
@[simp] theorem setStack_poison (s : State) (k : Nat) (x : Stack) : (s.setStack k x).poison = s.poison := rfl
@[simp] theorem setStack_cores (s : State) (k : Nat) (x : Stack) : (s.setStack k x).cores = s.cores := rfl
@[simp] theorem setStack_ctl (s : State) (k : Nat) (x : Stack) : (s.setStack k x).ctl = s.ctl := rfl
@[simp] theorem setStack_seq (s : State) (k : Nat) (x : Stack) : (s.setStack k x).seq = s.seq := rfl
@[simp] theorem setStack_events (s : State) (k : Nat) (x : Stack) : (s.setStack k x).events = s.events := rfl
@[simp] theorem setStack_cp (s : State) (k : Nat) (x : Stack) : (s.setStack k x).cp = s.cp := rfl
@[simp] theorem setStack_pools (s : State) (k : Nat) (x : Stack) : (s.setStack k x).pools = s.pools := rfl
@[simp] theorem setStack_tasks (s : State) (k : Nat) (x : Stack) : (s.setStack k x).tasks = s.tasks := rfl
@[simp] theorem setStack_slots (s : State) (k : Nat) (x : Stack) : (s.setStack k x).slots = s.slots := rfl
@[simp] theorem setStack_slotHi (s : State) (k : Nat) (x : Stack) : (s.setStack k x).slotHi = s.slotHi := rfl
@[simp] theorem setStack_rptr (s : State) (k : Nat) (x : Stack) : (s.setStack k x).rptr = s.rptr := rfl
@[simp] theorem setStack_age (s : State) (k : Nat) (x : Stack) : (s.setStack k x).age = s.age := rfl
@[simp] theorem setStack_owns (s : State) (k : Nat) (x : Stack) : (s.setStack k x).owns = s.owns := rfl
@[simp] theorem setStack_islands (s : State) (k : Nat) (x : Stack) : (s.setStack k x).islands = s.islands := rfl
@[simp] theorem setStack_trees (s : State) (k : Nat) (x : Stack) : (s.setStack k x).trees = s.trees := rfl
@[simp] theorem setStack_rounds (s : State) (k : Nat) (x : Stack) : (s.setStack k x).rounds = s.rounds := rfl
@[simp] theorem setStack_recs (s : State) (k : Nat) (x : Stack) : (s.setStack k x).recs = s.recs := rfl
@[simp] theorem setStack_ports (s : State) (k : Nat) (x : Stack) : (s.setStack k x).ports = s.ports := rfl
@[simp] theorem setStack_vcstop (s : State) (k : Nat) (x : Stack) : (s.setStack k x).vcstop = s.vcstop := rfl
@[simp] theorem setStack_fab (s : State) (k : Nat) (x : Stack) : (s.setStack k x).fab = s.fab := rfl
@[simp] theorem setStack_reply (s : State) (k : Nat) (x : Stack) : (s.setStack k x).reply = s.reply := rfl
@[simp] theorem setStack_asks (s : State) (k : Nat) (x : Stack) : (s.setStack k x).asks = s.asks := rfl
@[simp] theorem setStack_inbound (s : State) (k : Nat) (x : Stack) : (s.setStack k x).inbound = s.inbound := rfl
@[simp] theorem setStack_blocked (s : State) (k : Nat) (x : Stack) : (s.setStack k x).blocked = s.blocked := rfl
@[simp] theorem setStack_got (s : State) (k : Nat) (x : Stack) : (s.setStack k x).got = s.got := rfl
@[simp] theorem setStack_peek (s : State) (k : Nat) (x : Stack) : (s.setStack k x).peek = s.peek := rfl
@[simp] theorem setStack_twins (s : State) (k : Nat) (x : Stack) : (s.setStack k x).twins = s.twins := rfl
@[simp] theorem setStack_tlb (s : State) (k : Nat) (x : Stack) : (s.setStack k x).tlb = s.tlb := rfl
@[simp] theorem setStack_fw (s : State) (k : Nat) (x : Stack) : (s.setStack k x).fw = s.fw := rfl

@[simp] theorem post_turns (s : State) (e : EventKind) : (s.post e).turns = s.turns := rfl
@[simp] theorem post_inp (s : State) (e : EventKind) : (s.post e).inp = s.inp := rfl
@[simp] theorem post_cur (s : State) (e : EventKind) : (s.post e).cur = s.cur := rfl
@[simp] theorem post_curBank (s : State) (e : EventKind) : (s.post e).curBank = s.curBank := rfl
@[simp] theorem post_uopT (s : State) (e : EventKind) : (s.post e).uopT = s.uopT := rfl
@[simp] theorem post_nfree (s : State) (e : EventKind) : (s.post e).nfree = s.nfree := rfl
@[simp] theorem post_powered (s : State) (e : EventKind) : (s.post e).powered = s.powered := rfl
@[simp] theorem post_mem (s : State) (e : EventKind) : (s.post e).mem = s.mem := rfl
@[simp] theorem post_poison (s : State) (e : EventKind) : (s.post e).poison = s.poison := rfl
@[simp] theorem post_cores (s : State) (e : EventKind) : (s.post e).cores = s.cores := rfl
@[simp] theorem post_stk (s : State) (e : EventKind) : (s.post e).stk = s.stk := rfl
@[simp] theorem post_ctl (s : State) (e : EventKind) : (s.post e).ctl = s.ctl := rfl
@[simp] theorem post_cp (s : State) (e : EventKind) : (s.post e).cp = s.cp := rfl
@[simp] theorem post_pools (s : State) (e : EventKind) : (s.post e).pools = s.pools := rfl
@[simp] theorem post_tasks (s : State) (e : EventKind) : (s.post e).tasks = s.tasks := rfl
@[simp] theorem post_slots (s : State) (e : EventKind) : (s.post e).slots = s.slots := rfl
@[simp] theorem post_slotHi (s : State) (e : EventKind) : (s.post e).slotHi = s.slotHi := rfl
@[simp] theorem post_rptr (s : State) (e : EventKind) : (s.post e).rptr = s.rptr := rfl
@[simp] theorem post_age (s : State) (e : EventKind) : (s.post e).age = s.age := rfl
@[simp] theorem post_owns (s : State) (e : EventKind) : (s.post e).owns = s.owns := rfl
@[simp] theorem post_islands (s : State) (e : EventKind) : (s.post e).islands = s.islands := rfl
@[simp] theorem post_trees (s : State) (e : EventKind) : (s.post e).trees = s.trees := rfl
@[simp] theorem post_rounds (s : State) (e : EventKind) : (s.post e).rounds = s.rounds := rfl
@[simp] theorem post_recs (s : State) (e : EventKind) : (s.post e).recs = s.recs := rfl
@[simp] theorem post_ports (s : State) (e : EventKind) : (s.post e).ports = s.ports := rfl
@[simp] theorem post_vcstop (s : State) (e : EventKind) : (s.post e).vcstop = s.vcstop := rfl
@[simp] theorem post_fab (s : State) (e : EventKind) : (s.post e).fab = s.fab := rfl
@[simp] theorem post_reply (s : State) (e : EventKind) : (s.post e).reply = s.reply := rfl
@[simp] theorem post_asks (s : State) (e : EventKind) : (s.post e).asks = s.asks := rfl
@[simp] theorem post_inbound (s : State) (e : EventKind) : (s.post e).inbound = s.inbound := rfl
@[simp] theorem post_blocked (s : State) (e : EventKind) : (s.post e).blocked = s.blocked := rfl
@[simp] theorem post_got (s : State) (e : EventKind) : (s.post e).got = s.got := rfl
@[simp] theorem post_peek (s : State) (e : EventKind) : (s.post e).peek = s.peek := rfl
@[simp] theorem post_twins (s : State) (e : EventKind) : (s.post e).twins = s.twins := rfl
@[simp] theorem post_tlb (s : State) (e : EventKind) : (s.post e).tlb = s.tlb := rfl
@[simp] theorem post_fw (s : State) (e : EventKind) : (s.post e).fw = s.fw := rfl

@[simp] theorem updCore_turns (s : State) (c : BitVec 8) (f : Core → Core) : (s.updCore c f).turns = s.turns := rfl
@[simp] theorem updCore_inp (s : State) (c : BitVec 8) (f : Core → Core) : (s.updCore c f).inp = s.inp := rfl
@[simp] theorem updCore_cur (s : State) (c : BitVec 8) (f : Core → Core) : (s.updCore c f).cur = s.cur := rfl
@[simp] theorem updCore_curBank (s : State) (c : BitVec 8) (f : Core → Core) : (s.updCore c f).curBank = s.curBank := rfl
@[simp] theorem updCore_uopT (s : State) (c : BitVec 8) (f : Core → Core) : (s.updCore c f).uopT = s.uopT := rfl
@[simp] theorem updCore_nfree (s : State) (c : BitVec 8) (f : Core → Core) : (s.updCore c f).nfree = s.nfree := rfl
@[simp] theorem updCore_ns (s : State) (c : BitVec 8) (f : Core → Core) : (s.updCore c f).ns = s.ns := rfl
@[simp] theorem updCore_powered (s : State) (c : BitVec 8) (f : Core → Core) : (s.updCore c f).powered = s.powered := rfl
@[simp] theorem updCore_mem (s : State) (c : BitVec 8) (f : Core → Core) : (s.updCore c f).mem = s.mem := rfl
@[simp] theorem updCore_poison (s : State) (c : BitVec 8) (f : Core → Core) : (s.updCore c f).poison = s.poison := rfl
@[simp] theorem updCore_stk (s : State) (c : BitVec 8) (f : Core → Core) : (s.updCore c f).stk = s.stk := rfl
@[simp] theorem updCore_ctl (s : State) (c : BitVec 8) (f : Core → Core) : (s.updCore c f).ctl = s.ctl := rfl
@[simp] theorem updCore_seq (s : State) (c : BitVec 8) (f : Core → Core) : (s.updCore c f).seq = s.seq := rfl
@[simp] theorem updCore_events (s : State) (c : BitVec 8) (f : Core → Core) : (s.updCore c f).events = s.events := rfl
@[simp] theorem updCore_cp (s : State) (c : BitVec 8) (f : Core → Core) : (s.updCore c f).cp = s.cp := rfl
@[simp] theorem updCore_pools (s : State) (c : BitVec 8) (f : Core → Core) : (s.updCore c f).pools = s.pools := rfl
@[simp] theorem updCore_tasks (s : State) (c : BitVec 8) (f : Core → Core) : (s.updCore c f).tasks = s.tasks := rfl
@[simp] theorem updCore_slots (s : State) (c : BitVec 8) (f : Core → Core) : (s.updCore c f).slots = s.slots := rfl
@[simp] theorem updCore_slotHi (s : State) (c : BitVec 8) (f : Core → Core) : (s.updCore c f).slotHi = s.slotHi := rfl
@[simp] theorem updCore_rptr (s : State) (c : BitVec 8) (f : Core → Core) : (s.updCore c f).rptr = s.rptr := rfl
@[simp] theorem updCore_age (s : State) (c : BitVec 8) (f : Core → Core) : (s.updCore c f).age = s.age := rfl
@[simp] theorem updCore_owns (s : State) (c : BitVec 8) (f : Core → Core) : (s.updCore c f).owns = s.owns := rfl
@[simp] theorem updCore_islands (s : State) (c : BitVec 8) (f : Core → Core) : (s.updCore c f).islands = s.islands := rfl
@[simp] theorem updCore_trees (s : State) (c : BitVec 8) (f : Core → Core) : (s.updCore c f).trees = s.trees := rfl
@[simp] theorem updCore_rounds (s : State) (c : BitVec 8) (f : Core → Core) : (s.updCore c f).rounds = s.rounds := rfl
@[simp] theorem updCore_recs (s : State) (c : BitVec 8) (f : Core → Core) : (s.updCore c f).recs = s.recs := rfl
@[simp] theorem updCore_ports (s : State) (c : BitVec 8) (f : Core → Core) : (s.updCore c f).ports = s.ports := rfl
@[simp] theorem updCore_vcstop (s : State) (c : BitVec 8) (f : Core → Core) : (s.updCore c f).vcstop = s.vcstop := rfl
@[simp] theorem updCore_fab (s : State) (c : BitVec 8) (f : Core → Core) : (s.updCore c f).fab = s.fab := rfl
@[simp] theorem updCore_reply (s : State) (c : BitVec 8) (f : Core → Core) : (s.updCore c f).reply = s.reply := rfl
@[simp] theorem updCore_asks (s : State) (c : BitVec 8) (f : Core → Core) : (s.updCore c f).asks = s.asks := rfl
@[simp] theorem updCore_inbound (s : State) (c : BitVec 8) (f : Core → Core) : (s.updCore c f).inbound = s.inbound := rfl
@[simp] theorem updCore_blocked (s : State) (c : BitVec 8) (f : Core → Core) : (s.updCore c f).blocked = s.blocked := rfl
@[simp] theorem updCore_got (s : State) (c : BitVec 8) (f : Core → Core) : (s.updCore c f).got = s.got := rfl
@[simp] theorem updCore_peek (s : State) (c : BitVec 8) (f : Core → Core) : (s.updCore c f).peek = s.peek := rfl
@[simp] theorem updCore_twins (s : State) (c : BitVec 8) (f : Core → Core) : (s.updCore c f).twins = s.twins := rfl
@[simp] theorem updCore_tlb (s : State) (c : BitVec 8) (f : Core → Core) : (s.updCore c f).tlb = s.tlb := rfl
@[simp] theorem updCore_fw (s : State) (c : BitVec 8) (f : Core → Core) : (s.updCore c f).fw = s.fw := rfl

@[simp] theorem updStack_turns (s : State) (k : Nat) (f : Stack → Stack) : (s.updStack k f).turns = s.turns := rfl
@[simp] theorem updStack_inp (s : State) (k : Nat) (f : Stack → Stack) : (s.updStack k f).inp = s.inp := rfl
@[simp] theorem updStack_cur (s : State) (k : Nat) (f : Stack → Stack) : (s.updStack k f).cur = s.cur := rfl
@[simp] theorem updStack_curBank (s : State) (k : Nat) (f : Stack → Stack) : (s.updStack k f).curBank = s.curBank := rfl
@[simp] theorem updStack_uopT (s : State) (k : Nat) (f : Stack → Stack) : (s.updStack k f).uopT = s.uopT := rfl
@[simp] theorem updStack_nfree (s : State) (k : Nat) (f : Stack → Stack) : (s.updStack k f).nfree = s.nfree := rfl
@[simp] theorem updStack_ns (s : State) (k : Nat) (f : Stack → Stack) : (s.updStack k f).ns = s.ns := rfl
@[simp] theorem updStack_powered (s : State) (k : Nat) (f : Stack → Stack) : (s.updStack k f).powered = s.powered := rfl
@[simp] theorem updStack_mem (s : State) (k : Nat) (f : Stack → Stack) : (s.updStack k f).mem = s.mem := rfl
@[simp] theorem updStack_poison (s : State) (k : Nat) (f : Stack → Stack) : (s.updStack k f).poison = s.poison := rfl
@[simp] theorem updStack_cores (s : State) (k : Nat) (f : Stack → Stack) : (s.updStack k f).cores = s.cores := rfl
@[simp] theorem updStack_ctl (s : State) (k : Nat) (f : Stack → Stack) : (s.updStack k f).ctl = s.ctl := rfl
@[simp] theorem updStack_seq (s : State) (k : Nat) (f : Stack → Stack) : (s.updStack k f).seq = s.seq := rfl
@[simp] theorem updStack_events (s : State) (k : Nat) (f : Stack → Stack) : (s.updStack k f).events = s.events := rfl
@[simp] theorem updStack_cp (s : State) (k : Nat) (f : Stack → Stack) : (s.updStack k f).cp = s.cp := rfl
@[simp] theorem updStack_pools (s : State) (k : Nat) (f : Stack → Stack) : (s.updStack k f).pools = s.pools := rfl
@[simp] theorem updStack_tasks (s : State) (k : Nat) (f : Stack → Stack) : (s.updStack k f).tasks = s.tasks := rfl
@[simp] theorem updStack_slots (s : State) (k : Nat) (f : Stack → Stack) : (s.updStack k f).slots = s.slots := rfl
@[simp] theorem updStack_slotHi (s : State) (k : Nat) (f : Stack → Stack) : (s.updStack k f).slotHi = s.slotHi := rfl
@[simp] theorem updStack_rptr (s : State) (k : Nat) (f : Stack → Stack) : (s.updStack k f).rptr = s.rptr := rfl
@[simp] theorem updStack_age (s : State) (k : Nat) (f : Stack → Stack) : (s.updStack k f).age = s.age := rfl
@[simp] theorem updStack_owns (s : State) (k : Nat) (f : Stack → Stack) : (s.updStack k f).owns = s.owns := rfl
@[simp] theorem updStack_islands (s : State) (k : Nat) (f : Stack → Stack) : (s.updStack k f).islands = s.islands := rfl
@[simp] theorem updStack_trees (s : State) (k : Nat) (f : Stack → Stack) : (s.updStack k f).trees = s.trees := rfl
@[simp] theorem updStack_rounds (s : State) (k : Nat) (f : Stack → Stack) : (s.updStack k f).rounds = s.rounds := rfl
@[simp] theorem updStack_recs (s : State) (k : Nat) (f : Stack → Stack) : (s.updStack k f).recs = s.recs := rfl
@[simp] theorem updStack_ports (s : State) (k : Nat) (f : Stack → Stack) : (s.updStack k f).ports = s.ports := rfl
@[simp] theorem updStack_vcstop (s : State) (k : Nat) (f : Stack → Stack) : (s.updStack k f).vcstop = s.vcstop := rfl
@[simp] theorem updStack_fab (s : State) (k : Nat) (f : Stack → Stack) : (s.updStack k f).fab = s.fab := rfl
@[simp] theorem updStack_reply (s : State) (k : Nat) (f : Stack → Stack) : (s.updStack k f).reply = s.reply := rfl
@[simp] theorem updStack_asks (s : State) (k : Nat) (f : Stack → Stack) : (s.updStack k f).asks = s.asks := rfl
@[simp] theorem updStack_inbound (s : State) (k : Nat) (f : Stack → Stack) : (s.updStack k f).inbound = s.inbound := rfl
@[simp] theorem updStack_blocked (s : State) (k : Nat) (f : Stack → Stack) : (s.updStack k f).blocked = s.blocked := rfl
@[simp] theorem updStack_got (s : State) (k : Nat) (f : Stack → Stack) : (s.updStack k f).got = s.got := rfl
@[simp] theorem updStack_peek (s : State) (k : Nat) (f : Stack → Stack) : (s.updStack k f).peek = s.peek := rfl
@[simp] theorem updStack_twins (s : State) (k : Nat) (f : Stack → Stack) : (s.updStack k f).twins = s.twins := rfl
@[simp] theorem updStack_tlb (s : State) (k : Nat) (f : Stack → Stack) : (s.updStack k f).tlb = s.tlb := rfl
@[simp] theorem updStack_fw (s : State) (k : Nat) (f : Stack → Stack) : (s.updStack k f).fw = s.fw := rfl

@[simp] theorem updChan_turns (s : State) (k pc : Nat) (f : PChan → PChan) : (s.updChan k pc f).turns = s.turns := rfl
@[simp] theorem updChan_inp (s : State) (k pc : Nat) (f : PChan → PChan) : (s.updChan k pc f).inp = s.inp := rfl
@[simp] theorem updChan_cur (s : State) (k pc : Nat) (f : PChan → PChan) : (s.updChan k pc f).cur = s.cur := rfl
@[simp] theorem updChan_curBank (s : State) (k pc : Nat) (f : PChan → PChan) : (s.updChan k pc f).curBank = s.curBank := rfl
@[simp] theorem updChan_uopT (s : State) (k pc : Nat) (f : PChan → PChan) : (s.updChan k pc f).uopT = s.uopT := rfl
@[simp] theorem updChan_nfree (s : State) (k pc : Nat) (f : PChan → PChan) : (s.updChan k pc f).nfree = s.nfree := rfl
@[simp] theorem updChan_ns (s : State) (k pc : Nat) (f : PChan → PChan) : (s.updChan k pc f).ns = s.ns := rfl
@[simp] theorem updChan_powered (s : State) (k pc : Nat) (f : PChan → PChan) : (s.updChan k pc f).powered = s.powered := rfl
@[simp] theorem updChan_mem (s : State) (k pc : Nat) (f : PChan → PChan) : (s.updChan k pc f).mem = s.mem := rfl
@[simp] theorem updChan_poison (s : State) (k pc : Nat) (f : PChan → PChan) : (s.updChan k pc f).poison = s.poison := rfl
@[simp] theorem updChan_cores (s : State) (k pc : Nat) (f : PChan → PChan) : (s.updChan k pc f).cores = s.cores := rfl
@[simp] theorem updChan_ctl (s : State) (k pc : Nat) (f : PChan → PChan) : (s.updChan k pc f).ctl = s.ctl := rfl
@[simp] theorem updChan_seq (s : State) (k pc : Nat) (f : PChan → PChan) : (s.updChan k pc f).seq = s.seq := rfl
@[simp] theorem updChan_events (s : State) (k pc : Nat) (f : PChan → PChan) : (s.updChan k pc f).events = s.events := rfl
@[simp] theorem updChan_cp (s : State) (k pc : Nat) (f : PChan → PChan) : (s.updChan k pc f).cp = s.cp := rfl
@[simp] theorem updChan_pools (s : State) (k pc : Nat) (f : PChan → PChan) : (s.updChan k pc f).pools = s.pools := rfl
@[simp] theorem updChan_tasks (s : State) (k pc : Nat) (f : PChan → PChan) : (s.updChan k pc f).tasks = s.tasks := rfl
@[simp] theorem updChan_slots (s : State) (k pc : Nat) (f : PChan → PChan) : (s.updChan k pc f).slots = s.slots := rfl
@[simp] theorem updChan_slotHi (s : State) (k pc : Nat) (f : PChan → PChan) : (s.updChan k pc f).slotHi = s.slotHi := rfl
@[simp] theorem updChan_rptr (s : State) (k pc : Nat) (f : PChan → PChan) : (s.updChan k pc f).rptr = s.rptr := rfl
@[simp] theorem updChan_age (s : State) (k pc : Nat) (f : PChan → PChan) : (s.updChan k pc f).age = s.age := rfl
@[simp] theorem updChan_owns (s : State) (k pc : Nat) (f : PChan → PChan) : (s.updChan k pc f).owns = s.owns := rfl
@[simp] theorem updChan_islands (s : State) (k pc : Nat) (f : PChan → PChan) : (s.updChan k pc f).islands = s.islands := rfl
@[simp] theorem updChan_trees (s : State) (k pc : Nat) (f : PChan → PChan) : (s.updChan k pc f).trees = s.trees := rfl
@[simp] theorem updChan_rounds (s : State) (k pc : Nat) (f : PChan → PChan) : (s.updChan k pc f).rounds = s.rounds := rfl
@[simp] theorem updChan_recs (s : State) (k pc : Nat) (f : PChan → PChan) : (s.updChan k pc f).recs = s.recs := rfl
@[simp] theorem updChan_ports (s : State) (k pc : Nat) (f : PChan → PChan) : (s.updChan k pc f).ports = s.ports := rfl
@[simp] theorem updChan_vcstop (s : State) (k pc : Nat) (f : PChan → PChan) : (s.updChan k pc f).vcstop = s.vcstop := rfl
@[simp] theorem updChan_fab (s : State) (k pc : Nat) (f : PChan → PChan) : (s.updChan k pc f).fab = s.fab := rfl
@[simp] theorem updChan_reply (s : State) (k pc : Nat) (f : PChan → PChan) : (s.updChan k pc f).reply = s.reply := rfl
@[simp] theorem updChan_asks (s : State) (k pc : Nat) (f : PChan → PChan) : (s.updChan k pc f).asks = s.asks := rfl
@[simp] theorem updChan_inbound (s : State) (k pc : Nat) (f : PChan → PChan) : (s.updChan k pc f).inbound = s.inbound := rfl
@[simp] theorem updChan_blocked (s : State) (k pc : Nat) (f : PChan → PChan) : (s.updChan k pc f).blocked = s.blocked := rfl
@[simp] theorem updChan_got (s : State) (k pc : Nat) (f : PChan → PChan) : (s.updChan k pc f).got = s.got := rfl
@[simp] theorem updChan_peek (s : State) (k pc : Nat) (f : PChan → PChan) : (s.updChan k pc f).peek = s.peek := rfl
@[simp] theorem updChan_twins (s : State) (k pc : Nat) (f : PChan → PChan) : (s.updChan k pc f).twins = s.twins := rfl
@[simp] theorem updChan_tlb (s : State) (k pc : Nat) (f : PChan → PChan) : (s.updChan k pc f).tlb = s.tlb := rfl
@[simp] theorem updChan_fw (s : State) (k pc : Nat) (f : PChan → PChan) : (s.updChan k pc f).fw = s.fw := rfl

@[simp] theorem updBankAt_turns (s : State) (k pc b : Nat) (f : Bank → Bank) : (s.updBankAt k pc b f).turns = s.turns := rfl
@[simp] theorem updBankAt_inp (s : State) (k pc b : Nat) (f : Bank → Bank) : (s.updBankAt k pc b f).inp = s.inp := rfl
@[simp] theorem updBankAt_cur (s : State) (k pc b : Nat) (f : Bank → Bank) : (s.updBankAt k pc b f).cur = s.cur := rfl
@[simp] theorem updBankAt_curBank (s : State) (k pc b : Nat) (f : Bank → Bank) : (s.updBankAt k pc b f).curBank = s.curBank := rfl
@[simp] theorem updBankAt_uopT (s : State) (k pc b : Nat) (f : Bank → Bank) : (s.updBankAt k pc b f).uopT = s.uopT := rfl
@[simp] theorem updBankAt_nfree (s : State) (k pc b : Nat) (f : Bank → Bank) : (s.updBankAt k pc b f).nfree = s.nfree := rfl
@[simp] theorem updBankAt_ns (s : State) (k pc b : Nat) (f : Bank → Bank) : (s.updBankAt k pc b f).ns = s.ns := rfl
@[simp] theorem updBankAt_powered (s : State) (k pc b : Nat) (f : Bank → Bank) : (s.updBankAt k pc b f).powered = s.powered := rfl
@[simp] theorem updBankAt_mem (s : State) (k pc b : Nat) (f : Bank → Bank) : (s.updBankAt k pc b f).mem = s.mem := rfl
@[simp] theorem updBankAt_poison (s : State) (k pc b : Nat) (f : Bank → Bank) : (s.updBankAt k pc b f).poison = s.poison := rfl
@[simp] theorem updBankAt_cores (s : State) (k pc b : Nat) (f : Bank → Bank) : (s.updBankAt k pc b f).cores = s.cores := rfl
@[simp] theorem updBankAt_ctl (s : State) (k pc b : Nat) (f : Bank → Bank) : (s.updBankAt k pc b f).ctl = s.ctl := rfl
@[simp] theorem updBankAt_seq (s : State) (k pc b : Nat) (f : Bank → Bank) : (s.updBankAt k pc b f).seq = s.seq := rfl
@[simp] theorem updBankAt_events (s : State) (k pc b : Nat) (f : Bank → Bank) : (s.updBankAt k pc b f).events = s.events := rfl
@[simp] theorem updBankAt_cp (s : State) (k pc b : Nat) (f : Bank → Bank) : (s.updBankAt k pc b f).cp = s.cp := rfl
@[simp] theorem updBankAt_pools (s : State) (k pc b : Nat) (f : Bank → Bank) : (s.updBankAt k pc b f).pools = s.pools := rfl
@[simp] theorem updBankAt_tasks (s : State) (k pc b : Nat) (f : Bank → Bank) : (s.updBankAt k pc b f).tasks = s.tasks := rfl
@[simp] theorem updBankAt_slots (s : State) (k pc b : Nat) (f : Bank → Bank) : (s.updBankAt k pc b f).slots = s.slots := rfl
@[simp] theorem updBankAt_slotHi (s : State) (k pc b : Nat) (f : Bank → Bank) : (s.updBankAt k pc b f).slotHi = s.slotHi := rfl
@[simp] theorem updBankAt_rptr (s : State) (k pc b : Nat) (f : Bank → Bank) : (s.updBankAt k pc b f).rptr = s.rptr := rfl
@[simp] theorem updBankAt_age (s : State) (k pc b : Nat) (f : Bank → Bank) : (s.updBankAt k pc b f).age = s.age := rfl
@[simp] theorem updBankAt_owns (s : State) (k pc b : Nat) (f : Bank → Bank) : (s.updBankAt k pc b f).owns = s.owns := rfl
@[simp] theorem updBankAt_islands (s : State) (k pc b : Nat) (f : Bank → Bank) : (s.updBankAt k pc b f).islands = s.islands := rfl
@[simp] theorem updBankAt_trees (s : State) (k pc b : Nat) (f : Bank → Bank) : (s.updBankAt k pc b f).trees = s.trees := rfl
@[simp] theorem updBankAt_rounds (s : State) (k pc b : Nat) (f : Bank → Bank) : (s.updBankAt k pc b f).rounds = s.rounds := rfl
@[simp] theorem updBankAt_recs (s : State) (k pc b : Nat) (f : Bank → Bank) : (s.updBankAt k pc b f).recs = s.recs := rfl
@[simp] theorem updBankAt_ports (s : State) (k pc b : Nat) (f : Bank → Bank) : (s.updBankAt k pc b f).ports = s.ports := rfl
@[simp] theorem updBankAt_vcstop (s : State) (k pc b : Nat) (f : Bank → Bank) : (s.updBankAt k pc b f).vcstop = s.vcstop := rfl
@[simp] theorem updBankAt_fab (s : State) (k pc b : Nat) (f : Bank → Bank) : (s.updBankAt k pc b f).fab = s.fab := rfl
@[simp] theorem updBankAt_reply (s : State) (k pc b : Nat) (f : Bank → Bank) : (s.updBankAt k pc b f).reply = s.reply := rfl
@[simp] theorem updBankAt_asks (s : State) (k pc b : Nat) (f : Bank → Bank) : (s.updBankAt k pc b f).asks = s.asks := rfl
@[simp] theorem updBankAt_inbound (s : State) (k pc b : Nat) (f : Bank → Bank) : (s.updBankAt k pc b f).inbound = s.inbound := rfl
@[simp] theorem updBankAt_blocked (s : State) (k pc b : Nat) (f : Bank → Bank) : (s.updBankAt k pc b f).blocked = s.blocked := rfl
@[simp] theorem updBankAt_got (s : State) (k pc b : Nat) (f : Bank → Bank) : (s.updBankAt k pc b f).got = s.got := rfl
@[simp] theorem updBankAt_peek (s : State) (k pc b : Nat) (f : Bank → Bank) : (s.updBankAt k pc b f).peek = s.peek := rfl
@[simp] theorem updBankAt_twins (s : State) (k pc b : Nat) (f : Bank → Bank) : (s.updBankAt k pc b f).twins = s.twins := rfl
@[simp] theorem updBankAt_tlb (s : State) (k pc b : Nat) (f : Bank → Bank) : (s.updBankAt k pc b f).tlb = s.tlb := rfl
@[simp] theorem updBankAt_fw (s : State) (k pc b : Nat) (f : Bank → Bank) : (s.updBankAt k pc b f).fw = s.fw := rfl

@[simp] theorem updPort_turns (s : State) (i : Nat) (f : Port → Port) : (s.updPort i f).turns = s.turns := rfl
@[simp] theorem updPort_inp (s : State) (i : Nat) (f : Port → Port) : (s.updPort i f).inp = s.inp := rfl
@[simp] theorem updPort_cur (s : State) (i : Nat) (f : Port → Port) : (s.updPort i f).cur = s.cur := rfl
@[simp] theorem updPort_curBank (s : State) (i : Nat) (f : Port → Port) : (s.updPort i f).curBank = s.curBank := rfl
@[simp] theorem updPort_uopT (s : State) (i : Nat) (f : Port → Port) : (s.updPort i f).uopT = s.uopT := rfl
@[simp] theorem updPort_nfree (s : State) (i : Nat) (f : Port → Port) : (s.updPort i f).nfree = s.nfree := rfl
@[simp] theorem updPort_ns (s : State) (i : Nat) (f : Port → Port) : (s.updPort i f).ns = s.ns := rfl
@[simp] theorem updPort_powered (s : State) (i : Nat) (f : Port → Port) : (s.updPort i f).powered = s.powered := rfl
@[simp] theorem updPort_mem (s : State) (i : Nat) (f : Port → Port) : (s.updPort i f).mem = s.mem := rfl
@[simp] theorem updPort_poison (s : State) (i : Nat) (f : Port → Port) : (s.updPort i f).poison = s.poison := rfl
@[simp] theorem updPort_cores (s : State) (i : Nat) (f : Port → Port) : (s.updPort i f).cores = s.cores := rfl
@[simp] theorem updPort_stk (s : State) (i : Nat) (f : Port → Port) : (s.updPort i f).stk = s.stk := rfl
@[simp] theorem updPort_ctl (s : State) (i : Nat) (f : Port → Port) : (s.updPort i f).ctl = s.ctl := rfl
@[simp] theorem updPort_seq (s : State) (i : Nat) (f : Port → Port) : (s.updPort i f).seq = s.seq := rfl
@[simp] theorem updPort_events (s : State) (i : Nat) (f : Port → Port) : (s.updPort i f).events = s.events := rfl
@[simp] theorem updPort_cp (s : State) (i : Nat) (f : Port → Port) : (s.updPort i f).cp = s.cp := rfl
@[simp] theorem updPort_pools (s : State) (i : Nat) (f : Port → Port) : (s.updPort i f).pools = s.pools := rfl
@[simp] theorem updPort_tasks (s : State) (i : Nat) (f : Port → Port) : (s.updPort i f).tasks = s.tasks := rfl
@[simp] theorem updPort_slots (s : State) (i : Nat) (f : Port → Port) : (s.updPort i f).slots = s.slots := rfl
@[simp] theorem updPort_slotHi (s : State) (i : Nat) (f : Port → Port) : (s.updPort i f).slotHi = s.slotHi := rfl
@[simp] theorem updPort_rptr (s : State) (i : Nat) (f : Port → Port) : (s.updPort i f).rptr = s.rptr := rfl
@[simp] theorem updPort_age (s : State) (i : Nat) (f : Port → Port) : (s.updPort i f).age = s.age := rfl
@[simp] theorem updPort_owns (s : State) (i : Nat) (f : Port → Port) : (s.updPort i f).owns = s.owns := rfl
@[simp] theorem updPort_islands (s : State) (i : Nat) (f : Port → Port) : (s.updPort i f).islands = s.islands := rfl
@[simp] theorem updPort_trees (s : State) (i : Nat) (f : Port → Port) : (s.updPort i f).trees = s.trees := rfl
@[simp] theorem updPort_rounds (s : State) (i : Nat) (f : Port → Port) : (s.updPort i f).rounds = s.rounds := rfl
@[simp] theorem updPort_recs (s : State) (i : Nat) (f : Port → Port) : (s.updPort i f).recs = s.recs := rfl
@[simp] theorem updPort_vcstop (s : State) (i : Nat) (f : Port → Port) : (s.updPort i f).vcstop = s.vcstop := rfl
@[simp] theorem updPort_fab (s : State) (i : Nat) (f : Port → Port) : (s.updPort i f).fab = s.fab := rfl
@[simp] theorem updPort_reply (s : State) (i : Nat) (f : Port → Port) : (s.updPort i f).reply = s.reply := rfl
@[simp] theorem updPort_asks (s : State) (i : Nat) (f : Port → Port) : (s.updPort i f).asks = s.asks := rfl
@[simp] theorem updPort_inbound (s : State) (i : Nat) (f : Port → Port) : (s.updPort i f).inbound = s.inbound := rfl
@[simp] theorem updPort_blocked (s : State) (i : Nat) (f : Port → Port) : (s.updPort i f).blocked = s.blocked := rfl
@[simp] theorem updPort_got (s : State) (i : Nat) (f : Port → Port) : (s.updPort i f).got = s.got := rfl
@[simp] theorem updPort_peek (s : State) (i : Nat) (f : Port → Port) : (s.updPort i f).peek = s.peek := rfl
@[simp] theorem updPort_twins (s : State) (i : Nat) (f : Port → Port) : (s.updPort i f).twins = s.twins := rfl
@[simp] theorem updPort_tlb (s : State) (i : Nat) (f : Port → Port) : (s.updPort i f).tlb = s.tlb := rfl
@[simp] theorem updPort_fw (s : State) (i : Nat) (f : Port → Port) : (s.updPort i f).fw = s.fw := rfl

@[simp] theorem dropAsk_turns (s : State) (w : Requester) : (s.dropAsk w).turns = s.turns := rfl
@[simp] theorem dropAsk_inp (s : State) (w : Requester) : (s.dropAsk w).inp = s.inp := rfl
@[simp] theorem dropAsk_cur (s : State) (w : Requester) : (s.dropAsk w).cur = s.cur := rfl
@[simp] theorem dropAsk_curBank (s : State) (w : Requester) : (s.dropAsk w).curBank = s.curBank := rfl
@[simp] theorem dropAsk_uopT (s : State) (w : Requester) : (s.dropAsk w).uopT = s.uopT := rfl
@[simp] theorem dropAsk_nfree (s : State) (w : Requester) : (s.dropAsk w).nfree = s.nfree := rfl
@[simp] theorem dropAsk_ns (s : State) (w : Requester) : (s.dropAsk w).ns = s.ns := rfl
@[simp] theorem dropAsk_powered (s : State) (w : Requester) : (s.dropAsk w).powered = s.powered := rfl
@[simp] theorem dropAsk_mem (s : State) (w : Requester) : (s.dropAsk w).mem = s.mem := rfl
@[simp] theorem dropAsk_poison (s : State) (w : Requester) : (s.dropAsk w).poison = s.poison := rfl
@[simp] theorem dropAsk_cores (s : State) (w : Requester) : (s.dropAsk w).cores = s.cores := rfl
@[simp] theorem dropAsk_stk (s : State) (w : Requester) : (s.dropAsk w).stk = s.stk := rfl
@[simp] theorem dropAsk_ctl (s : State) (w : Requester) : (s.dropAsk w).ctl = s.ctl := rfl
@[simp] theorem dropAsk_seq (s : State) (w : Requester) : (s.dropAsk w).seq = s.seq := rfl
@[simp] theorem dropAsk_events (s : State) (w : Requester) : (s.dropAsk w).events = s.events := rfl
@[simp] theorem dropAsk_cp (s : State) (w : Requester) : (s.dropAsk w).cp = s.cp := rfl
@[simp] theorem dropAsk_pools (s : State) (w : Requester) : (s.dropAsk w).pools = s.pools := rfl
@[simp] theorem dropAsk_tasks (s : State) (w : Requester) : (s.dropAsk w).tasks = s.tasks := rfl
@[simp] theorem dropAsk_slots (s : State) (w : Requester) : (s.dropAsk w).slots = s.slots := rfl
@[simp] theorem dropAsk_slotHi (s : State) (w : Requester) : (s.dropAsk w).slotHi = s.slotHi := rfl
@[simp] theorem dropAsk_rptr (s : State) (w : Requester) : (s.dropAsk w).rptr = s.rptr := rfl
@[simp] theorem dropAsk_age (s : State) (w : Requester) : (s.dropAsk w).age = s.age := rfl
@[simp] theorem dropAsk_owns (s : State) (w : Requester) : (s.dropAsk w).owns = s.owns := rfl
@[simp] theorem dropAsk_islands (s : State) (w : Requester) : (s.dropAsk w).islands = s.islands := rfl
@[simp] theorem dropAsk_trees (s : State) (w : Requester) : (s.dropAsk w).trees = s.trees := rfl
@[simp] theorem dropAsk_rounds (s : State) (w : Requester) : (s.dropAsk w).rounds = s.rounds := rfl
@[simp] theorem dropAsk_recs (s : State) (w : Requester) : (s.dropAsk w).recs = s.recs := rfl
@[simp] theorem dropAsk_ports (s : State) (w : Requester) : (s.dropAsk w).ports = s.ports := rfl
@[simp] theorem dropAsk_vcstop (s : State) (w : Requester) : (s.dropAsk w).vcstop = s.vcstop := rfl
@[simp] theorem dropAsk_fab (s : State) (w : Requester) : (s.dropAsk w).fab = s.fab := rfl
@[simp] theorem dropAsk_reply (s : State) (w : Requester) : (s.dropAsk w).reply = s.reply := rfl
@[simp] theorem dropAsk_inbound (s : State) (w : Requester) : (s.dropAsk w).inbound = s.inbound := rfl
@[simp] theorem dropAsk_blocked (s : State) (w : Requester) : (s.dropAsk w).blocked = s.blocked := rfl
@[simp] theorem dropAsk_got (s : State) (w : Requester) : (s.dropAsk w).got = s.got := rfl
@[simp] theorem dropAsk_peek (s : State) (w : Requester) : (s.dropAsk w).peek = s.peek := rfl
@[simp] theorem dropAsk_twins (s : State) (w : Requester) : (s.dropAsk w).twins = s.twins := rfl
@[simp] theorem dropAsk_tlb (s : State) (w : Requester) : (s.dropAsk w).tlb = s.tlb := rfl
@[simp] theorem dropAsk_fw (s : State) (w : Requester) : (s.dropAsk w).fw = s.fw := rfl

/-- Time never goes back when an event is numbered. -/
theorem post_ns_le (s : State) (e : EventKind) : s.ns ≤ (s.post e).ns := by
  show s.ns ≤ if s.presentsLate e then s.ns + 1 else s.ns
  split <;> omega

/-- The control window is the highest source (15 R317). -/
theorem source_le (e : EventKind) : e.source ≤ 260 := by
  have h (c : Option (BitVec 8)) (n : Nat) (hn : n ≤ 260) : (c.map BitVec.toNat).getD n ≤ 260 := by
    cases c with
    | none => exact hn
    | some c => exact Nat.le_of_lt (Nat.lt_trans c.isLt (by decide))
  cases e <;> first
    | exact h _ _ (by decide)
    | exact Nat.le_of_lt (Nat.lt_trans (BitVec.isLt _) (by decide))
    | (simp only [EventKind.source]; decide)

/-- So its events are numbered in the cycle in which they come. -/
@[simp] theorem post_ns_controlWindow (s : State) (f : BitVec 12) : (s.post (.controlWindow f)).ns = s.ns := by
  have h : s.presentsLate (.controlWindow f) = false := by
    unfold State.presentsLate
    split
    · rename_i x _
      exact decide_eq_false fun h => absurd h.2 (Nat.not_lt.2 (source_le x.2.2))
    · rfl
  show (if s.presentsLate _ then s.ns + 1 else s.ns) = s.ns
  rw [h]; rfl

/-- A core just written reads back. -/
theorem core_setCore_same (s : State) (c : BitVec 8) (x : Core) : (s.setCore c x).core c = x :=
  mapGet_set_same _ _

/-- Every other core is left alone. -/
theorem core_setCore_other (s : State) {c d : BitVec 8} (x : Core) (h : d ≠ c) : (s.setCore c x).core d = s.core d :=
  mapGet_set_other _ fun e => h (BitVec.eq_of_toNat_eq e)

/-- Of two writes of one core the second stands. -/
theorem setCore_setCore (s : State) (c : BitVec 8) (x y : Core) :
    (s.setCore c x).setCore c y = s.setCore c y := by
  simp only [State.setCore, mapSet_set]

theorem cores_setCore {s : State} (h : mapWf Init.core s.cores = true) (c : BitVec 8) (x : Core) :
    mapWf Init.core (s.setCore c x).cores = true :=
  mapWf_set _ _ h

@[simp] theorem core_setStack (s : State) (k : Nat) (x : Stack) (c : BitVec 8) : (s.setStack k x).core c = s.core c := rfl
@[simp] theorem core_post (s : State) (e : EventKind) (c : BitVec 8) : (s.post e).core c = s.core c := rfl

/-! ## A member's context -/

@[simp] theorem orFlags_id (x : Ctx) (f : BitVec 5) : (x.orFlags f).id = x.id := rfl
@[simp] theorem orFlags_pc (x : Ctx) (f : BitVec 5) : (x.orFlags f).pc = x.pc := rfl
@[simp] theorem orFlags_s (x : Ctx) (f : BitVec 5) : (x.orFlags f).s = x.s := rfl
@[simp] theorem orFlags_v (x : Ctx) (f : BitVec 5) : (x.orFlags f).v = x.v := rfl
@[simp] theorem orFlags_vtag (x : Ctx) (f : BitVec 5) : (x.orFlags f).vtag = x.vtag := rfl
@[simp] theorem orFlags_p (x : Ctx) (f : BitVec 5) : (x.orFlags f).p = x.p := rfl
@[simp] theorem orFlags_mks (x : Ctx) (f : BitVec 5) : (x.orFlags f).mks = x.mks := rfl
@[simp] theorem orFlags_a (x : Ctx) (f : BitVec 5) : (x.orFlags f).a = x.a := rfl
@[simp] theorem orFlags_step (x : Ctx) (f : BitVec 5) : (x.orFlags f).step = x.step := rfl
@[simp] theorem orFlags_lc (x : Ctx) (f : BitVec 5) : (x.orFlags f).lc = x.lc := rfl
@[simp] theorem orFlags_sB (x : Ctx) (f : BitVec 5) : (x.orFlags f).sB = x.sB := rfl
@[simp] theorem orFlags_vB (x : Ctx) (f : BitVec 5) : (x.orFlags f).vB = x.vB := rfl
@[simp] theorem orFlags_pB (x : Ctx) (f : BitVec 5) : (x.orFlags f).pB = x.pB := rfl
@[simp] theorem orFlags_kB (x : Ctx) (f : BitVec 5) : (x.orFlags f).kB = x.kB := rfl
@[simp] theorem orFlags_k (x : Ctx) (f : BitVec 5) : (x.orFlags f).k = x.k := rfl
@[simp] theorem orFlags_e (x : Ctx) (f : BitVec 5) : (x.orFlags f).e = x.e := rfl
@[simp] theorem orFlags_qs (x : Ctx) (f : BitVec 5) : (x.orFlags f).qs = x.qs := rfl
@[simp] theorem orFlags_frm (x : Ctx) (f : BitVec 5) : (x.orFlags f).frm = x.frm := rfl
@[simp] theorem orFlags_srseed (x : Ctx) (f : BitVec 5) : (x.orFlags f).srseed = x.srseed := rfl
@[simp] theorem orFlags_rng (x : Ctx) (f : BitVec 5) : (x.orFlags f).rng = x.rng := rfl
@[simp] theorem orFlags_waitcap (x : Ctx) (f : BitVec 5) : (x.orFlags f).waitcap = x.waitcap := rfl
@[simp] theorem orFlags_tvec (x : Ctx) (f : BitVec 5) : (x.orFlags f).tvec = x.tvec := rfl
@[simp] theorem orFlags_tpc (x : Ctx) (f : BitVec 5) : (x.orFlags f).tpc = x.tpc := rfl
@[simp] theorem orFlags_tcause (x : Ctx) (f : BitVec 5) : (x.orFlags f).tcause = x.tcause := rfl
@[simp] theorem orFlags_tval (x : Ctx) (f : BitVec 5) : (x.orFlags f).tval = x.tval := rfl
@[simp] theorem orFlags_cycle (x : Ctx) (f : BitVec 5) : (x.orFlags f).cycle = x.cycle := rfl
@[simp] theorem orFlags_light (x : Ctx) (f : BitVec 5) : (x.orFlags f).light = x.light := rfl
@[simp] theorem orFlags_dark (x : Ctx) (f : BitVec 5) : (x.orFlags f).dark = x.dark := rfl
@[simp] theorem orFlags_cur (x : Ctx) (f : BitVec 5) : (x.orFlags f).cur = x.cur := rfl
@[simp] theorem orFlags_deferred (x : Ctx) (f : BitVec 5) : (x.orFlags f).deferred = x.deferred := rfl
@[simp] theorem orFlags_segLeft (x : Ctx) (f : BitVec 5) : (x.orFlags f).segLeft = x.segLeft := rfl
@[simp] theorem orFlags_waitOk (x : Ctx) (f : BitVec 5) : (x.orFlags f).waitOk = x.waitOk := rfl
@[simp] theorem orFlags_rounds (x : Ctx) (f : BitVec 5) : (x.orFlags f).rounds = x.rounds := rfl
@[simp] theorem orFlags_bad (x : Ctx) (f : BitVec 5) : (x.orFlags f).bad = x.bad := rfl

@[simp] theorem setLevel_id (x : Ctx) (l : Nat) (y : Level) : (x.setLevel l y).id = x.id := rfl
@[simp] theorem setLevel_pc (x : Ctx) (l : Nat) (y : Level) : (x.setLevel l y).pc = x.pc := rfl
@[simp] theorem setLevel_s (x : Ctx) (l : Nat) (y : Level) : (x.setLevel l y).s = x.s := rfl
@[simp] theorem setLevel_v (x : Ctx) (l : Nat) (y : Level) : (x.setLevel l y).v = x.v := rfl
@[simp] theorem setLevel_vtag (x : Ctx) (l : Nat) (y : Level) : (x.setLevel l y).vtag = x.vtag := rfl
@[simp] theorem setLevel_p (x : Ctx) (l : Nat) (y : Level) : (x.setLevel l y).p = x.p := rfl
@[simp] theorem setLevel_mks (x : Ctx) (l : Nat) (y : Level) : (x.setLevel l y).mks = x.mks := rfl
@[simp] theorem setLevel_a (x : Ctx) (l : Nat) (y : Level) : (x.setLevel l y).a = x.a := rfl
@[simp] theorem setLevel_step (x : Ctx) (l : Nat) (y : Level) : (x.setLevel l y).step = x.step := rfl
@[simp] theorem setLevel_sB (x : Ctx) (l : Nat) (y : Level) : (x.setLevel l y).sB = x.sB := rfl
@[simp] theorem setLevel_vB (x : Ctx) (l : Nat) (y : Level) : (x.setLevel l y).vB = x.vB := rfl
@[simp] theorem setLevel_pB (x : Ctx) (l : Nat) (y : Level) : (x.setLevel l y).pB = x.pB := rfl
@[simp] theorem setLevel_kB (x : Ctx) (l : Nat) (y : Level) : (x.setLevel l y).kB = x.kB := rfl
@[simp] theorem setLevel_k (x : Ctx) (l : Nat) (y : Level) : (x.setLevel l y).k = x.k := rfl
@[simp] theorem setLevel_e (x : Ctx) (l : Nat) (y : Level) : (x.setLevel l y).e = x.e := rfl
@[simp] theorem setLevel_qs (x : Ctx) (l : Nat) (y : Level) : (x.setLevel l y).qs = x.qs := rfl
@[simp] theorem setLevel_frm (x : Ctx) (l : Nat) (y : Level) : (x.setLevel l y).frm = x.frm := rfl
@[simp] theorem setLevel_fflags (x : Ctx) (l : Nat) (y : Level) : (x.setLevel l y).fflags = x.fflags := rfl
@[simp] theorem setLevel_srseed (x : Ctx) (l : Nat) (y : Level) : (x.setLevel l y).srseed = x.srseed := rfl
@[simp] theorem setLevel_rng (x : Ctx) (l : Nat) (y : Level) : (x.setLevel l y).rng = x.rng := rfl
@[simp] theorem setLevel_waitcap (x : Ctx) (l : Nat) (y : Level) : (x.setLevel l y).waitcap = x.waitcap := rfl
@[simp] theorem setLevel_tvec (x : Ctx) (l : Nat) (y : Level) : (x.setLevel l y).tvec = x.tvec := rfl
@[simp] theorem setLevel_tpc (x : Ctx) (l : Nat) (y : Level) : (x.setLevel l y).tpc = x.tpc := rfl
@[simp] theorem setLevel_tcause (x : Ctx) (l : Nat) (y : Level) : (x.setLevel l y).tcause = x.tcause := rfl
@[simp] theorem setLevel_tval (x : Ctx) (l : Nat) (y : Level) : (x.setLevel l y).tval = x.tval := rfl
@[simp] theorem setLevel_cycle (x : Ctx) (l : Nat) (y : Level) : (x.setLevel l y).cycle = x.cycle := rfl
@[simp] theorem setLevel_light (x : Ctx) (l : Nat) (y : Level) : (x.setLevel l y).light = x.light := rfl
@[simp] theorem setLevel_dark (x : Ctx) (l : Nat) (y : Level) : (x.setLevel l y).dark = x.dark := rfl
@[simp] theorem setLevel_cur (x : Ctx) (l : Nat) (y : Level) : (x.setLevel l y).cur = x.cur := rfl
@[simp] theorem setLevel_deferred (x : Ctx) (l : Nat) (y : Level) : (x.setLevel l y).deferred = x.deferred := rfl
@[simp] theorem setLevel_segLeft (x : Ctx) (l : Nat) (y : Level) : (x.setLevel l y).segLeft = x.segLeft := rfl
@[simp] theorem setLevel_waitOk (x : Ctx) (l : Nat) (y : Level) : (x.setLevel l y).waitOk = x.waitOk := rfl
@[simp] theorem setLevel_rounds (x : Ctx) (l : Nat) (y : Level) : (x.setLevel l y).rounds = x.rounds := rfl
@[simp] theorem setLevel_bad (x : Ctx) (l : Nat) (y : Level) : (x.setLevel l y).bad = x.bad := rfl

@[simp] theorem recordTrap_id (x : Ctx) (t : Trap) (a : BitVec 64) : (x.recordTrap t a).id = x.id := rfl
@[simp] theorem recordTrap_pc (x : Ctx) (t : Trap) (a : BitVec 64) : (x.recordTrap t a).pc = x.pc := rfl
@[simp] theorem recordTrap_s (x : Ctx) (t : Trap) (a : BitVec 64) : (x.recordTrap t a).s = x.s := rfl
@[simp] theorem recordTrap_v (x : Ctx) (t : Trap) (a : BitVec 64) : (x.recordTrap t a).v = x.v := rfl
@[simp] theorem recordTrap_vtag (x : Ctx) (t : Trap) (a : BitVec 64) : (x.recordTrap t a).vtag = x.vtag := rfl
@[simp] theorem recordTrap_p (x : Ctx) (t : Trap) (a : BitVec 64) : (x.recordTrap t a).p = x.p := rfl
@[simp] theorem recordTrap_mks (x : Ctx) (t : Trap) (a : BitVec 64) : (x.recordTrap t a).mks = x.mks := rfl
@[simp] theorem recordTrap_a (x : Ctx) (t : Trap) (a : BitVec 64) : (x.recordTrap t a).a = x.a := rfl
@[simp] theorem recordTrap_step (x : Ctx) (t : Trap) (a : BitVec 64) : (x.recordTrap t a).step = x.step := rfl
@[simp] theorem recordTrap_lc (x : Ctx) (t : Trap) (a : BitVec 64) : (x.recordTrap t a).lc = x.lc := rfl
@[simp] theorem recordTrap_sB (x : Ctx) (t : Trap) (a : BitVec 64) : (x.recordTrap t a).sB = x.sB := rfl
@[simp] theorem recordTrap_vB (x : Ctx) (t : Trap) (a : BitVec 64) : (x.recordTrap t a).vB = x.vB := rfl
@[simp] theorem recordTrap_pB (x : Ctx) (t : Trap) (a : BitVec 64) : (x.recordTrap t a).pB = x.pB := rfl
@[simp] theorem recordTrap_kB (x : Ctx) (t : Trap) (a : BitVec 64) : (x.recordTrap t a).kB = x.kB := rfl
@[simp] theorem recordTrap_k (x : Ctx) (t : Trap) (a : BitVec 64) : (x.recordTrap t a).k = x.k := rfl
@[simp] theorem recordTrap_e (x : Ctx) (t : Trap) (a : BitVec 64) : (x.recordTrap t a).e = x.e := rfl
@[simp] theorem recordTrap_qs (x : Ctx) (t : Trap) (a : BitVec 64) : (x.recordTrap t a).qs = x.qs := rfl
@[simp] theorem recordTrap_frm (x : Ctx) (t : Trap) (a : BitVec 64) : (x.recordTrap t a).frm = x.frm := rfl
@[simp] theorem recordTrap_fflags (x : Ctx) (t : Trap) (a : BitVec 64) : (x.recordTrap t a).fflags = x.fflags := rfl
@[simp] theorem recordTrap_srseed (x : Ctx) (t : Trap) (a : BitVec 64) : (x.recordTrap t a).srseed = x.srseed := rfl
@[simp] theorem recordTrap_rng (x : Ctx) (t : Trap) (a : BitVec 64) : (x.recordTrap t a).rng = x.rng := rfl
@[simp] theorem recordTrap_waitcap (x : Ctx) (t : Trap) (a : BitVec 64) : (x.recordTrap t a).waitcap = x.waitcap := rfl
@[simp] theorem recordTrap_tvec (x : Ctx) (t : Trap) (a : BitVec 64) : (x.recordTrap t a).tvec = x.tvec := rfl
@[simp] theorem recordTrap_cycle (x : Ctx) (t : Trap) (a : BitVec 64) : (x.recordTrap t a).cycle = x.cycle := rfl
@[simp] theorem recordTrap_light (x : Ctx) (t : Trap) (a : BitVec 64) : (x.recordTrap t a).light = x.light := rfl
@[simp] theorem recordTrap_dark (x : Ctx) (t : Trap) (a : BitVec 64) : (x.recordTrap t a).dark = x.dark := rfl
@[simp] theorem recordTrap_cur (x : Ctx) (t : Trap) (a : BitVec 64) : (x.recordTrap t a).cur = x.cur := rfl
@[simp] theorem recordTrap_deferred (x : Ctx) (t : Trap) (a : BitVec 64) : (x.recordTrap t a).deferred = x.deferred := rfl
@[simp] theorem recordTrap_segLeft (x : Ctx) (t : Trap) (a : BitVec 64) : (x.recordTrap t a).segLeft = x.segLeft := rfl
@[simp] theorem recordTrap_waitOk (x : Ctx) (t : Trap) (a : BitVec 64) : (x.recordTrap t a).waitOk = x.waitOk := rfl
@[simp] theorem recordTrap_rounds (x : Ctx) (t : Trap) (a : BitVec 64) : (x.recordTrap t a).rounds = x.rounds := rfl
@[simp] theorem recordTrap_bad (x : Ctx) (t : Trap) (a : BitVec 64) : (x.recordTrap t a).bad = x.bad := rfl

@[simp] theorem returnFromTrap_id (x : Ctx) : (x.returnFromTrap).id = x.id := rfl
@[simp] theorem returnFromTrap_s (x : Ctx) : (x.returnFromTrap).s = x.s := rfl
@[simp] theorem returnFromTrap_v (x : Ctx) : (x.returnFromTrap).v = x.v := rfl
@[simp] theorem returnFromTrap_vtag (x : Ctx) : (x.returnFromTrap).vtag = x.vtag := rfl
@[simp] theorem returnFromTrap_p (x : Ctx) : (x.returnFromTrap).p = x.p := rfl
@[simp] theorem returnFromTrap_mks (x : Ctx) : (x.returnFromTrap).mks = x.mks := rfl
@[simp] theorem returnFromTrap_a (x : Ctx) : (x.returnFromTrap).a = x.a := rfl
@[simp] theorem returnFromTrap_step (x : Ctx) : (x.returnFromTrap).step = x.step := rfl
@[simp] theorem returnFromTrap_lc (x : Ctx) : (x.returnFromTrap).lc = x.lc := rfl
@[simp] theorem returnFromTrap_sB (x : Ctx) : (x.returnFromTrap).sB = x.sB := rfl
@[simp] theorem returnFromTrap_vB (x : Ctx) : (x.returnFromTrap).vB = x.vB := rfl
@[simp] theorem returnFromTrap_pB (x : Ctx) : (x.returnFromTrap).pB = x.pB := rfl
@[simp] theorem returnFromTrap_kB (x : Ctx) : (x.returnFromTrap).kB = x.kB := rfl
@[simp] theorem returnFromTrap_k (x : Ctx) : (x.returnFromTrap).k = x.k := rfl
@[simp] theorem returnFromTrap_e (x : Ctx) : (x.returnFromTrap).e = x.e := rfl
@[simp] theorem returnFromTrap_qs (x : Ctx) : (x.returnFromTrap).qs = x.qs := rfl
@[simp] theorem returnFromTrap_frm (x : Ctx) : (x.returnFromTrap).frm = x.frm := rfl
@[simp] theorem returnFromTrap_fflags (x : Ctx) : (x.returnFromTrap).fflags = x.fflags := rfl
@[simp] theorem returnFromTrap_srseed (x : Ctx) : (x.returnFromTrap).srseed = x.srseed := rfl
@[simp] theorem returnFromTrap_rng (x : Ctx) : (x.returnFromTrap).rng = x.rng := rfl
@[simp] theorem returnFromTrap_waitcap (x : Ctx) : (x.returnFromTrap).waitcap = x.waitcap := rfl
@[simp] theorem returnFromTrap_tvec (x : Ctx) : (x.returnFromTrap).tvec = x.tvec := rfl
@[simp] theorem returnFromTrap_tpc (x : Ctx) : (x.returnFromTrap).tpc = x.tpc := rfl
@[simp] theorem returnFromTrap_tval (x : Ctx) : (x.returnFromTrap).tval = x.tval := rfl
@[simp] theorem returnFromTrap_cycle (x : Ctx) : (x.returnFromTrap).cycle = x.cycle := rfl
@[simp] theorem returnFromTrap_light (x : Ctx) : (x.returnFromTrap).light = x.light := rfl
@[simp] theorem returnFromTrap_dark (x : Ctx) : (x.returnFromTrap).dark = x.dark := rfl
@[simp] theorem returnFromTrap_cur (x : Ctx) : (x.returnFromTrap).cur = x.cur := rfl
@[simp] theorem returnFromTrap_deferred (x : Ctx) : (x.returnFromTrap).deferred = x.deferred := rfl
@[simp] theorem returnFromTrap_segLeft (x : Ctx) : (x.returnFromTrap).segLeft = x.segLeft := rfl
@[simp] theorem returnFromTrap_waitOk (x : Ctx) : (x.returnFromTrap).waitOk = x.waitOk := rfl
@[simp] theorem returnFromTrap_rounds (x : Ctx) : (x.returnFromTrap).rounds = x.rounds := rfl
@[simp] theorem returnFromTrap_bad (x : Ctx) : (x.returnFromTrap).bad = x.bad := rfl

@[simp] theorem rotate_id (x : Ctx) : (x.rotate).id = x.id := rfl
@[simp] theorem rotate_pc (x : Ctx) : (x.rotate).pc = x.pc := rfl
@[simp] theorem rotate_s (x : Ctx) : (x.rotate).s = x.s := rfl
@[simp] theorem rotate_v (x : Ctx) : (x.rotate).v = x.v := rfl
@[simp] theorem rotate_vtag (x : Ctx) : (x.rotate).vtag = x.vtag := rfl
@[simp] theorem rotate_p (x : Ctx) : (x.rotate).p = x.p := rfl
@[simp] theorem rotate_mks (x : Ctx) : (x.rotate).mks = x.mks := rfl
@[simp] theorem rotate_a (x : Ctx) : (x.rotate).a = x.a := rfl
@[simp] theorem rotate_step (x : Ctx) : (x.rotate).step = x.step := rfl
@[simp] theorem rotate_lc (x : Ctx) : (x.rotate).lc = x.lc := rfl
@[simp] theorem rotate_k (x : Ctx) : (x.rotate).k = x.k := rfl
@[simp] theorem rotate_e (x : Ctx) : (x.rotate).e = x.e := rfl
@[simp] theorem rotate_qs (x : Ctx) : (x.rotate).qs = x.qs := rfl
@[simp] theorem rotate_frm (x : Ctx) : (x.rotate).frm = x.frm := rfl
@[simp] theorem rotate_fflags (x : Ctx) : (x.rotate).fflags = x.fflags := rfl
@[simp] theorem rotate_srseed (x : Ctx) : (x.rotate).srseed = x.srseed := rfl
@[simp] theorem rotate_rng (x : Ctx) : (x.rotate).rng = x.rng := rfl
@[simp] theorem rotate_waitcap (x : Ctx) : (x.rotate).waitcap = x.waitcap := rfl
@[simp] theorem rotate_tvec (x : Ctx) : (x.rotate).tvec = x.tvec := rfl
@[simp] theorem rotate_tpc (x : Ctx) : (x.rotate).tpc = x.tpc := rfl
@[simp] theorem rotate_tcause (x : Ctx) : (x.rotate).tcause = x.tcause := rfl
@[simp] theorem rotate_tval (x : Ctx) : (x.rotate).tval = x.tval := rfl
@[simp] theorem rotate_cycle (x : Ctx) : (x.rotate).cycle = x.cycle := rfl
@[simp] theorem rotate_light (x : Ctx) : (x.rotate).light = x.light := rfl
@[simp] theorem rotate_dark (x : Ctx) : (x.rotate).dark = x.dark := rfl
@[simp] theorem rotate_cur (x : Ctx) : (x.rotate).cur = x.cur := rfl
@[simp] theorem rotate_deferred (x : Ctx) : (x.rotate).deferred = x.deferred := rfl
@[simp] theorem rotate_segLeft (x : Ctx) : (x.rotate).segLeft = x.segLeft := rfl
@[simp] theorem rotate_waitOk (x : Ctx) : (x.rotate).waitOk = x.waitOk := rfl
@[simp] theorem rotate_rounds (x : Ctx) : (x.rotate).rounds = x.rounds := rfl
@[simp] theorem rotate_bad (x : Ctx) : (x.rotate).bad = x.bad := rfl

/-! ## A core -/

@[simp] theorem thaw_cstate (c : Core) : (c.thaw).cstate = c.cstate := rfl
@[simp] theorem thaw_task (c : Core) : (c.thaw).task = c.task := rfl
@[simp] theorem thaw_run (c : Core) : (c.thaw).run = c.run := rfl
@[simp] theorem thaw_ctx (c : Core) : (c.thaw).ctx = c.ctx := rfl
@[simp] theorem thaw_pool (c : Core) : (c.thaw).pool = c.pool := rfl
@[simp] theorem thaw_pipe (c : Core) : (c.thaw).pipe = c.pipe := rfl
@[simp] theorem thaw_land (c : Core) : (c.thaw).land = c.land := rfl
@[simp] theorem thaw_sb (c : Core) : (c.thaw).sb = c.sb := rfl
@[simp] theorem thaw_ops (c : Core) : (c.thaw).ops = c.ops := rfl
@[simp] theorem thaw_mq (c : Core) : (c.thaw).mq = c.mq := rfl
@[simp] theorem thaw_launches (c : Core) : (c.thaw).launches = c.launches := rfl
@[simp] theorem thaw_eclipse (c : Core) : (c.thaw).eclipse = c.eclipse := rfl
@[simp] theorem thaw_seg (c : Core) : (c.thaw).seg = c.seg := rfl
@[simp] theorem thaw_iss (c : Core) : (c.thaw).iss = c.iss := rfl
@[simp] theorem thaw_trap (c : Core) : (c.thaw).trap = c.trap := rfl
@[simp] theorem thaw_frozePast (c : Core) : (c.thaw).frozePast = c.frozePast := rfl
@[simp] theorem thaw_duty (c : Core) : (c.thaw).duty = c.duty := rfl
@[simp] theorem thaw_sinceJump (c : Core) : (c.thaw).sinceJump = c.sinceJump := rfl
@[simp] theorem thaw_predS (c : Core) : (c.thaw).predS = c.predS := rfl
@[simp] theorem thaw_predD (c : Core) : (c.thaw).predD = c.predD := rfl
@[simp] theorem thaw_predP (c : Core) : (c.thaw).predP = c.predP := rfl
@[simp] theorem thaw_removed (c : Core) : (c.thaw).removed = c.removed := rfl
@[simp] theorem thaw_removedP (c : Core) : (c.thaw).removedP = c.removedP := rfl
@[simp] theorem thaw_nid (c : Core) : (c.thaw).nid = c.nid := rfl
@[simp] theorem thaw_clock (c : Core) : (c.thaw).clock = c.clock := rfl
@[simp] theorem thaw_got (c : Core) : (c.thaw).got = c.got := rfl

@[simp] theorem tickPipe_cstate (c : Core) : (c.tickPipe).cstate = c.cstate := rfl
@[simp] theorem tickPipe_task (c : Core) : (c.tickPipe).task = c.task := rfl
@[simp] theorem tickPipe_run (c : Core) : (c.tickPipe).run = c.run := rfl
@[simp] theorem tickPipe_pool (c : Core) : (c.tickPipe).pool = c.pool := rfl
@[simp] theorem tickPipe_land (c : Core) : (c.tickPipe).land = c.land := rfl
@[simp] theorem tickPipe_sb (c : Core) : (c.tickPipe).sb = c.sb := rfl
@[simp] theorem tickPipe_ops (c : Core) : (c.tickPipe).ops = c.ops := rfl
@[simp] theorem tickPipe_mq (c : Core) : (c.tickPipe).mq = c.mq := rfl
@[simp] theorem tickPipe_launches (c : Core) : (c.tickPipe).launches = c.launches := rfl
@[simp] theorem tickPipe_eclipse (c : Core) : (c.tickPipe).eclipse = c.eclipse := rfl
@[simp] theorem tickPipe_seg (c : Core) : (c.tickPipe).seg = c.seg := rfl
@[simp] theorem tickPipe_iss (c : Core) : (c.tickPipe).iss = c.iss := rfl
@[simp] theorem tickPipe_trap (c : Core) : (c.tickPipe).trap = c.trap := rfl
@[simp] theorem tickPipe_frozeLand (c : Core) : (c.tickPipe).frozeLand = c.frozeLand := rfl
@[simp] theorem tickPipe_frozeTok (c : Core) : (c.tickPipe).frozeTok = c.frozeTok := rfl
@[simp] theorem tickPipe_frozeSb (c : Core) : (c.tickPipe).frozeSb = c.frozeSb := rfl
@[simp] theorem tickPipe_frozeTv (c : Core) : (c.tickPipe).frozeTv = c.frozeTv := rfl
@[simp] theorem tickPipe_frozeSbAt (c : Core) : (c.tickPipe).frozeSbAt = c.frozeSbAt := rfl
@[simp] theorem tickPipe_waited (c : Core) : (c.tickPipe).waited = c.waited := rfl
@[simp] theorem tickPipe_waitLimit (c : Core) : (c.tickPipe).waitLimit = c.waitLimit := rfl
@[simp] theorem tickPipe_frozeOn (c : Core) : (c.tickPipe).frozeOn = c.frozeOn := rfl
@[simp] theorem tickPipe_frozePast (c : Core) : (c.tickPipe).frozePast = c.frozePast := rfl
@[simp] theorem tickPipe_duty (c : Core) : (c.tickPipe).duty = c.duty := rfl
@[simp] theorem tickPipe_fence (c : Core) : (c.tickPipe).fence = c.fence := rfl
@[simp] theorem tickPipe_poll (c : Core) : (c.tickPipe).poll = c.poll := rfl
@[simp] theorem tickPipe_sinceJump (c : Core) : (c.tickPipe).sinceJump = c.sinceJump := rfl
@[simp] theorem tickPipe_predS (c : Core) : (c.tickPipe).predS = c.predS := rfl
@[simp] theorem tickPipe_predD (c : Core) : (c.tickPipe).predD = c.predD := rfl
@[simp] theorem tickPipe_predP (c : Core) : (c.tickPipe).predP = c.predP := rfl
@[simp] theorem tickPipe_removed (c : Core) : (c.tickPipe).removed = c.removed := rfl
@[simp] theorem tickPipe_removedP (c : Core) : (c.tickPipe).removedP = c.removedP := rfl
@[simp] theorem tickPipe_nid (c : Core) : (c.tickPipe).nid = c.nid := rfl
@[simp] theorem tickPipe_clock (c : Core) : (c.tickPipe).clock = c.clock := rfl
@[simp] theorem tickPipe_got (c : Core) : (c.tickPipe).got = c.got := rfl

@[simp] theorem flushPipe_cstate (c : Core) : (c.flushPipe).cstate = c.cstate := rfl
@[simp] theorem flushPipe_task (c : Core) : (c.flushPipe).task = c.task := rfl
@[simp] theorem flushPipe_run (c : Core) : (c.flushPipe).run = c.run := rfl
@[simp] theorem flushPipe_pool (c : Core) : (c.flushPipe).pool = c.pool := rfl
@[simp] theorem flushPipe_land (c : Core) : (c.flushPipe).land = c.land := rfl
@[simp] theorem flushPipe_sb (c : Core) : (c.flushPipe).sb = c.sb := rfl
@[simp] theorem flushPipe_ops (c : Core) : (c.flushPipe).ops = c.ops := rfl
@[simp] theorem flushPipe_mq (c : Core) : (c.flushPipe).mq = c.mq := rfl
@[simp] theorem flushPipe_launches (c : Core) : (c.flushPipe).launches = c.launches := rfl
@[simp] theorem flushPipe_eclipse (c : Core) : (c.flushPipe).eclipse = c.eclipse := rfl
@[simp] theorem flushPipe_seg (c : Core) : (c.flushPipe).seg = c.seg := rfl
@[simp] theorem flushPipe_iss (c : Core) : (c.flushPipe).iss = c.iss := rfl
@[simp] theorem flushPipe_trap (c : Core) : (c.flushPipe).trap = c.trap := rfl
@[simp] theorem flushPipe_frozeLand (c : Core) : (c.flushPipe).frozeLand = c.frozeLand := rfl
@[simp] theorem flushPipe_frozeTok (c : Core) : (c.flushPipe).frozeTok = c.frozeTok := rfl
@[simp] theorem flushPipe_frozeSb (c : Core) : (c.flushPipe).frozeSb = c.frozeSb := rfl
@[simp] theorem flushPipe_frozeTv (c : Core) : (c.flushPipe).frozeTv = c.frozeTv := rfl
@[simp] theorem flushPipe_frozeSbAt (c : Core) : (c.flushPipe).frozeSbAt = c.frozeSbAt := rfl
@[simp] theorem flushPipe_waited (c : Core) : (c.flushPipe).waited = c.waited := rfl
@[simp] theorem flushPipe_waitLimit (c : Core) : (c.flushPipe).waitLimit = c.waitLimit := rfl
@[simp] theorem flushPipe_frozeOn (c : Core) : (c.flushPipe).frozeOn = c.frozeOn := rfl
@[simp] theorem flushPipe_frozePast (c : Core) : (c.flushPipe).frozePast = c.frozePast := rfl
@[simp] theorem flushPipe_duty (c : Core) : (c.flushPipe).duty = c.duty := rfl
@[simp] theorem flushPipe_fence (c : Core) : (c.flushPipe).fence = c.fence := rfl
@[simp] theorem flushPipe_poll (c : Core) : (c.flushPipe).poll = c.poll := rfl
@[simp] theorem flushPipe_sinceJump (c : Core) : (c.flushPipe).sinceJump = c.sinceJump := rfl
@[simp] theorem flushPipe_predS (c : Core) : (c.flushPipe).predS = c.predS := rfl
@[simp] theorem flushPipe_predD (c : Core) : (c.flushPipe).predD = c.predD := rfl
@[simp] theorem flushPipe_predP (c : Core) : (c.flushPipe).predP = c.predP := rfl
@[simp] theorem flushPipe_removed (c : Core) : (c.flushPipe).removed = c.removed := rfl
@[simp] theorem flushPipe_removedP (c : Core) : (c.flushPipe).removedP = c.removedP := rfl
@[simp] theorem flushPipe_nid (c : Core) : (c.flushPipe).nid = c.nid := rfl
@[simp] theorem flushPipe_clock (c : Core) : (c.flushPipe).clock = c.clock := rfl
@[simp] theorem flushPipe_got (c : Core) : (c.flushPipe).got = c.got := rfl

@[simp] theorem tickLand_cstate (c : Core) : (c.tickLand).cstate = c.cstate := rfl
@[simp] theorem tickLand_task (c : Core) : (c.tickLand).task = c.task := rfl
@[simp] theorem tickLand_run (c : Core) : (c.tickLand).run = c.run := rfl
@[simp] theorem tickLand_ctx (c : Core) : (c.tickLand).ctx = c.ctx := rfl
@[simp] theorem tickLand_pool (c : Core) : (c.tickLand).pool = c.pool := rfl
@[simp] theorem tickLand_pipe (c : Core) : (c.tickLand).pipe = c.pipe := rfl
@[simp] theorem tickLand_sb (c : Core) : (c.tickLand).sb = c.sb := rfl
@[simp] theorem tickLand_ops (c : Core) : (c.tickLand).ops = c.ops := rfl
@[simp] theorem tickLand_mq (c : Core) : (c.tickLand).mq = c.mq := rfl
@[simp] theorem tickLand_launches (c : Core) : (c.tickLand).launches = c.launches := rfl
@[simp] theorem tickLand_eclipse (c : Core) : (c.tickLand).eclipse = c.eclipse := rfl
@[simp] theorem tickLand_seg (c : Core) : (c.tickLand).seg = c.seg := rfl
@[simp] theorem tickLand_iss (c : Core) : (c.tickLand).iss = c.iss := rfl
@[simp] theorem tickLand_trap (c : Core) : (c.tickLand).trap = c.trap := rfl
@[simp] theorem tickLand_frozeLand (c : Core) : (c.tickLand).frozeLand = c.frozeLand := rfl
@[simp] theorem tickLand_frozeTok (c : Core) : (c.tickLand).frozeTok = c.frozeTok := rfl
@[simp] theorem tickLand_frozeSb (c : Core) : (c.tickLand).frozeSb = c.frozeSb := rfl
@[simp] theorem tickLand_frozeTv (c : Core) : (c.tickLand).frozeTv = c.frozeTv := rfl
@[simp] theorem tickLand_frozeSbAt (c : Core) : (c.tickLand).frozeSbAt = c.frozeSbAt := rfl
@[simp] theorem tickLand_waited (c : Core) : (c.tickLand).waited = c.waited := rfl
@[simp] theorem tickLand_waitLimit (c : Core) : (c.tickLand).waitLimit = c.waitLimit := rfl
@[simp] theorem tickLand_frozeOn (c : Core) : (c.tickLand).frozeOn = c.frozeOn := rfl
@[simp] theorem tickLand_frozePast (c : Core) : (c.tickLand).frozePast = c.frozePast := rfl
@[simp] theorem tickLand_duty (c : Core) : (c.tickLand).duty = c.duty := rfl
@[simp] theorem tickLand_fence (c : Core) : (c.tickLand).fence = c.fence := rfl
@[simp] theorem tickLand_poll (c : Core) : (c.tickLand).poll = c.poll := rfl
@[simp] theorem tickLand_sinceJump (c : Core) : (c.tickLand).sinceJump = c.sinceJump := rfl
@[simp] theorem tickLand_predS (c : Core) : (c.tickLand).predS = c.predS := rfl
@[simp] theorem tickLand_predD (c : Core) : (c.tickLand).predD = c.predD := rfl
@[simp] theorem tickLand_predP (c : Core) : (c.tickLand).predP = c.predP := rfl
@[simp] theorem tickLand_removed (c : Core) : (c.tickLand).removed = c.removed := rfl
@[simp] theorem tickLand_removedP (c : Core) : (c.tickLand).removedP = c.removedP := rfl
@[simp] theorem tickLand_nid (c : Core) : (c.tickLand).nid = c.nid := rfl
@[simp] theorem tickLand_clock (c : Core) : (c.tickLand).clock = c.clock := rfl
@[simp] theorem tickLand_got (c : Core) : (c.tickLand).got = c.got := rfl

@[simp] theorem writeLandings_cstate (c : Core) (f : Landing → Bool) : (c.writeLandings f).cstate = c.cstate := rfl
@[simp] theorem writeLandings_task (c : Core) (f : Landing → Bool) : (c.writeLandings f).task = c.task := rfl
@[simp] theorem writeLandings_run (c : Core) (f : Landing → Bool) : (c.writeLandings f).run = c.run := rfl
@[simp] theorem writeLandings_pool (c : Core) (f : Landing → Bool) : (c.writeLandings f).pool = c.pool := rfl
@[simp] theorem writeLandings_pipe (c : Core) (f : Landing → Bool) : (c.writeLandings f).pipe = c.pipe := rfl
@[simp] theorem writeLandings_sb (c : Core) (f : Landing → Bool) : (c.writeLandings f).sb = c.sb := rfl
@[simp] theorem writeLandings_ops (c : Core) (f : Landing → Bool) : (c.writeLandings f).ops = c.ops := rfl
@[simp] theorem writeLandings_mq (c : Core) (f : Landing → Bool) : (c.writeLandings f).mq = c.mq := rfl
@[simp] theorem writeLandings_launches (c : Core) (f : Landing → Bool) : (c.writeLandings f).launches = c.launches := rfl
@[simp] theorem writeLandings_eclipse (c : Core) (f : Landing → Bool) : (c.writeLandings f).eclipse = c.eclipse := rfl
@[simp] theorem writeLandings_seg (c : Core) (f : Landing → Bool) : (c.writeLandings f).seg = c.seg := rfl
@[simp] theorem writeLandings_iss (c : Core) (f : Landing → Bool) : (c.writeLandings f).iss = c.iss := rfl
@[simp] theorem writeLandings_trap (c : Core) (f : Landing → Bool) : (c.writeLandings f).trap = c.trap := rfl
@[simp] theorem writeLandings_frozeLand (c : Core) (f : Landing → Bool) : (c.writeLandings f).frozeLand = c.frozeLand := rfl
@[simp] theorem writeLandings_frozeTok (c : Core) (f : Landing → Bool) : (c.writeLandings f).frozeTok = c.frozeTok := rfl
@[simp] theorem writeLandings_frozeSb (c : Core) (f : Landing → Bool) : (c.writeLandings f).frozeSb = c.frozeSb := rfl
@[simp] theorem writeLandings_frozeTv (c : Core) (f : Landing → Bool) : (c.writeLandings f).frozeTv = c.frozeTv := rfl
@[simp] theorem writeLandings_frozeSbAt (c : Core) (f : Landing → Bool) : (c.writeLandings f).frozeSbAt = c.frozeSbAt := rfl
@[simp] theorem writeLandings_waited (c : Core) (f : Landing → Bool) : (c.writeLandings f).waited = c.waited := rfl
@[simp] theorem writeLandings_waitLimit (c : Core) (f : Landing → Bool) : (c.writeLandings f).waitLimit = c.waitLimit := rfl
@[simp] theorem writeLandings_frozeOn (c : Core) (f : Landing → Bool) : (c.writeLandings f).frozeOn = c.frozeOn := rfl
@[simp] theorem writeLandings_frozePast (c : Core) (f : Landing → Bool) : (c.writeLandings f).frozePast = c.frozePast := rfl
@[simp] theorem writeLandings_duty (c : Core) (f : Landing → Bool) : (c.writeLandings f).duty = c.duty := rfl
@[simp] theorem writeLandings_fence (c : Core) (f : Landing → Bool) : (c.writeLandings f).fence = c.fence := rfl
@[simp] theorem writeLandings_poll (c : Core) (f : Landing → Bool) : (c.writeLandings f).poll = c.poll := rfl
@[simp] theorem writeLandings_sinceJump (c : Core) (f : Landing → Bool) : (c.writeLandings f).sinceJump = c.sinceJump := rfl
@[simp] theorem writeLandings_predS (c : Core) (f : Landing → Bool) : (c.writeLandings f).predS = c.predS := rfl
@[simp] theorem writeLandings_predD (c : Core) (f : Landing → Bool) : (c.writeLandings f).predD = c.predD := rfl
@[simp] theorem writeLandings_predP (c : Core) (f : Landing → Bool) : (c.writeLandings f).predP = c.predP := rfl
@[simp] theorem writeLandings_removed (c : Core) (f : Landing → Bool) : (c.writeLandings f).removed = c.removed := rfl
@[simp] theorem writeLandings_removedP (c : Core) (f : Landing → Bool) : (c.writeLandings f).removedP = c.removedP := rfl
@[simp] theorem writeLandings_nid (c : Core) (f : Landing → Bool) : (c.writeLandings f).nid = c.nid := rfl
@[simp] theorem writeLandings_clock (c : Core) (f : Landing → Bool) : (c.writeLandings f).clock = c.clock := rfl
@[simp] theorem writeLandings_got (c : Core) (f : Landing → Bool) : (c.writeLandings f).got = c.got := rfl

end Sys2Proof.Laws
end

