-- ==== Sys2Proof/Laws/Issue.lean ====
section
/-! SUPPORT. One issue cycle: an effect does not read or change what the bundle at hand has gathered, and a slot that is ready, with nothing to
keep it back, ends its bundle with its effects. -/

namespace Sys2Proof.Laws

open Sys2Proof.Machine

/-! ## Effects leave the bundle in issue alone -/

/-- The core with another bundle in issue. -/
def withIss (x : Issue) (c : Core) : Core := { c with iss := x }

/-- A change of a core that neither reads nor changes the bundle in issue. -/
def Apart (f : Core → Core) : Prop := ∀ x c, f (withIss x c) = withIss x (f c)

theorem Apart.comp {f g : Core → Core} (hf : Apart f) (hg : Apart g) : Apart fun c => f (g c) := fun x c => by
  show f (g (withIss x c)) = _
  rw [hg, hf]

theorem apart_foldl {β : Type} {f : Core → β → Core} (h : ∀ b, Apart fun c => f c b) (l : List β) : Apart fun c => l.foldl f c := by
  intro x c
  induction l generalizing c with
  | nil => rfl
  | cons b l ih =>
    show l.foldl f (f (withIss x c) b) = _
    rw [show f (withIss x c) b = withIss x (f c b) from h b x c]
    exact ih _

/-- A choice whose condition does not look at the bundle in issue. -/
theorem apart_ite {p : Core → Prop} [∀ c, Decidable (p c)] {f g : Core → Core} (hp : ∀ x c, p (withIss x c) ↔ p c) (hf : Apart f) (hg : Apart g) :
    Apart fun c => if p c then f c else g c := by
  intro x c
  by_cases h : p c
  · show (if p (withIss x c) then _ else _) = withIss x (if p c then _ else _)
    rw [if_pos h, if_pos ((hp x c).2 h), hf]
  · show (if p (withIss x c) then _ else _) = withIss x (if p c then _ else _)
    rw [if_neg h, if_neg (fun k => h ((hp x c).1 k)), hg]

/-- The same at one core. -/
theorem ite_withIss {p q : Prop} [Decidable p] [Decidable q] {a b a' b' : Core} {x : Issue} (h : p ↔ q) (ha : a = withIss x a')
    (hb : b = withIss x b') : (if p then a else b) = withIss x (if q then a' else b') := by
  by_cases hp : p
  · rw [if_pos hp, if_pos (h.1 hp), ha]
  · rw [if_neg hp, if_neg (fun k => hp (h.2 k)), hb]

theorem apart_id : Apart fun c => c := fun _ _ => rfl

theorem apart_logLine (a l : Nat) : Apart fun c => c.logLine a l := by
  exact fun x c => ite_withIss Iff.rfl rfl rfl

theorem apart_markSlots (o n : Nat) : Apart fun c => c.markSlots o n := by
  intro x c
  unfold Core.markSlots
  exact apart_foldl (f := fun c i =>
      let e := mapGet Init.tagEntry c.pool.tagt i
      if e.st = 2 then { c with pool := { c.pool with tagt := mapSet Init.tagEntry c.pool.tagt i { e with dirty := true } } } else c)
    (fun _ _ _ => ite_withIss Iff.rfl rfl rfl) (slotsOf c.ctx.pw o n) x c

theorem apart_spWrite (o n y : Nat) (p : Bool) : Apart fun c => c.spWrite o n y p :=
  (apart_markSlots o n).comp
    ((show Apart fun c => { c with pool := { c.pool with sp := writeBytes c.pool.sp o n y, psn := markSpPoison c.pool.psn o n p } } from
        fun _ _ => rfl).comp
      (apart_foldl (f := fun c l => c.logLine 0 l) (fun l => apart_logLine 0 l) (upFrom (o / 128) ((o + n + 127) / 128 - o / 128))))

theorem apart_spStore (o n y q : Nat) : Apart fun c => c.spStore o n y q := by
  unfold Core.spStore
  exact apart_ite (fun _ _ => Iff.rfl) (apart_spWrite o n y false)
    (apart_foldl (f := fun (c : Core) (p : Nat × Nat) => c.spWrite (o + p.1) p.2 (bytesOf y p.1 p.2) (q.testBit (p.1 / 8))) (fun _ => apart_spWrite _ _ _ _) _)

theorem apart_closeLine (p : Piece) (k : ReqKind) (sc : BitVec 3) (o : BitVec 2) : Apart fun c => c.closeLine p k sc o := fun _ _ => rfl

theorem apart_enqueue (r : MemReq) (h : Bool) : Apart fun c => c.enqueue r h := fun x c => by
  cases h <;> rfl

theorem apart_resumeAtomic (k : ReqKind) (s : Nat × Option Nat) : Apart fun c => c.resumeAtomic k s := fun x c => by
  obtain ⟨n, o⟩ := s
  cases k with
  | atomic op z y l => cases l <;> cases o <;> rfl
  | _ => cases o <;> rfl

theorem apart_pushReq (k : ReqKind) (cls : Nat) (p : Piece) (d : Nat) (sc : BitVec 3) (o : BitVec 2) : Apart fun c => c.pushReq k cls p d sc o := by
  intro x c
  show (withIss x c).pushReq k cls p d sc o = withIss x (c.pushReq k cls p d sc o)
  unfold Core.pushReq
  rw [show (withIss x c).closeLine p k sc o = withIss x (c.closeLine p k sc o) from rfl]
  generalize c.closeLine p k sc o = c
  have hp : (withIss x c).prot = c.prot := rfl
  have hs : (withIss x c).seg = c.seg := rfl
  have hn : (withIss x c).nid = c.nid := rfl
  simp only [hp, hs, hn]
  split
  · exact apart_enqueue _ _ x c
  · split
    · split
      · exact apart_resumeAtomic _ _ x c
      · exact apart_enqueue _ _ x { c with seg := { c.seg with atoms := c.seg.atoms ++ [(c.nid, none)], atomNext := c.seg.atomNext + 1 } }
    · exact apart_enqueue _ _ x c

theorem apart_pushLanding (f d l : Nat) (z : BitVec 3) (n : Nat) : Apart fun c => c.pushLanding f d l z n := fun _ _ => rfl

theorem apart_pushAtomic (op : AtomOp) (z : BitVec 3) (p : Piece) (d : Nat) (sc : BitVec 3) : Apart fun c => c.pushAtomic op z p d sc := by
  intro x c
  show (withIss x c).pushAtomic op z p d sc = withIss x (c.pushAtomic op z p d sc)
  unfold Core.pushAtomic
  have hm : (withIss x c).lineEntry op z p sc = c.lineEntry op z p sc := rfl
  have hp : (withIss x c).prot = c.prot := rfl
  simp only [hm, hp]
  generalize (if c.prot = true then [] else c.lineEntry op z p sc) = l
  split
  · rfl
  · rw [show (withIss x c).pushReq (.atomic op z 0 none) 4 p d sc 0 = withIss x (c.pushReq (.atomic op z 0 none) 4 p d sc 0) from
      apart_pushReq _ _ _ _ _ _ x c]
    split <;> rfl

theorem apart_clearRows (a n : Nat) : Apart fun c => c.clearRows a n := by
  unfold Core.clearRows
  refine apart_foldl (fun b x c => ?_) _
  dsimp only
  rw [show (List.range 4).foldl (fun c i => Core.logLine c 3 (4 * b + i)) (withIss x c) = withIss x _ from
    apart_foldl (f := fun c i => c.logLine 3 (4 * b + i)) (fun i => apart_logLine 3 _) _ x c]
  rfl

theorem apart_enterEngine (n : OpName) (p : BitVec 3) (sn : Snap) (t : Nat) (rs : List (Nat × Nat × Bool)) :
    Apart fun c => c.enterEngine n p sn t rs := fun _ _ => rfl

theorem apart_startEngine (n : OpName) (p : BitVec 3) (sn : Snap) (t : Nat) (rs : List (Nat × Nat × Bool)) :
    Apart fun c => c.startEngine n p sn t rs :=
  apart_ite (p := fun _ => n = .gath) (fun _ _ => Iff.rfl) ((apart_clearRows _ _).comp (apart_enterEngine n p sn t rs))
    (apart_enterEngine n p sn t rs)

theorem apart_closeBlock (a : PAddr) : Apart fun c => c.closeBlock a := fun _ _ => rfl

theorem apart_pushStore (cls : Nat) (p : Piece) (d q : Nat) (sc : BitVec 3) (o : BitVec 2) : Apart fun c => c.pushStore cls p d q sc o := by
  intro x c
  show (withIss x c).pushStore cls p d q sc o = withIss x (c.pushStore cls p d q sc o)
  unfold Core.pushStore
  rw [show (withIss x c).pushReq .store cls p (bytesOf d p.off p.n) sc o = withIss x (c.pushReq .store cls p (bytesOf d p.off p.n) sc o) from
    apart_pushReq _ _ _ _ _ _ x c]
  exact ite_withIss Iff.rfl rfl rfl

theorem apart_applyProbe (a w : Nat) (f : Option PAddr) (b : BitVec 34) (i : Bool) : Apart fun c => c.applyProbe a w f b i := fun x c => by
  unfold Core.applyProbe
  cases f <;> rfl

theorem apart_applyPwb (a w : Nat) (h : PAddr) : Apart fun c => c.applyPwb a w h := fun x c => by
  exact ite_withIss Iff.rfl rfl rfl

theorem apart_applyPinv (a w : Nat) : Apart fun c => c.applyPinv a w := fun x c => by
  exact ite_withIss Iff.rfl rfl rfl

/-- Every effect leaves the bundle in issue alone. -/
theorem apart_apply (e : Effect) : Apart fun c => c.apply e := by
  intro x c
  cases e with
  | spStore o n y q => exact apart_spStore o n y q x c
  | spAdd o y => exact apart_spWrite _ _ _ _ x c
  | engine n p sn t rs => exact apart_startEngine n p sn t rs x c
  | load ps cls f d l z sc =>
    refine apart_foldl (f := fun c p => c.pushReq (.load _) cls p 0 sc _) (fun p => apart_pushReq _ _ _ _ _ _) ps x (c.pushLanding f d l z ps.length)
  | store ps cls d q sc => exact apart_foldl (f := fun c p => c.pushStore cls p d q sc _) (fun p => apart_pushStore _ _ _ _ _ _) ps x c
  | atomic op z p d x2 dest sc o =>
    cases dest with
    | none =>
      by_cases h : o = 0
      · subst h
        exact apart_pushAtomic _ _ _ _ _ x c
      · show (if o = 0 then _ else _) = withIss x (if o = 0 then _ else _)
        rw [if_neg h, if_neg h]
        exact apart_pushReq _ _ _ _ _ _ x c
    | some r => exact apart_pushReq _ _ _ _ _ _ x (c.pushLanding 0 r 31 (if p.n = 4 then 2 else 3) 1)
  | probe a w f b i =>
    cases f with
    | none => exact apart_applyProbe a w none b i x c
    | some y => exact apart_applyProbe a w (some y) b i x (c.closeBlock y)
  | pwb a w h => exact apart_applyPwb a w h x (c.closeBlock h)
  | pinv a w => exact apart_applyPinv _ _ x c
  | loop l b n k f la af =>
    show (if k = 0 then _ else _) = withIss x (if k = 0 then _ else _)
    exact ite_withIss Iff.rfl rfl rfl
  | ttag t tag =>
    show ({ (withIss x c).logLine 1 (0x40800 / 128) with pool := _ } : Core) = _
    rw [show (withIss x c).logLine 1 (0x40800 / 128) = withIss x (c.logLine 1 (0x40800 / 128)) from apart_logLine 1 _ x c]
    rfl
  | seg n =>
    show (if (withIss x c).prot then _ else _) = withIss x (if c.prot then _ else _)
    exact ite_withIss Iff.rfl rfl rfl
  | _ => rfl

theorem apart_applyAll (es : List Effect) : Apart fun c => es.foldl Core.apply c := apart_foldl apart_apply es

/-- The end of a bundle looks at its effects, its size, its guards, its predicates and whether it is an RDV's, and at nothing else of the bundle. -/
theorem commit_withIss {x y : Issue} (c : Core) (he : x.effects = y.effects) (hz : x.size = y.size) (hr : x.rdv = y.rdv) (hd : x.predD = y.predD)
    (hs : x.predS = y.predS) (hgd : x.guards = y.guards) : (withIss x c).commit = (withIss y c).commit := by
  have open_ : ∀ z, (withIss z c).openSegment = withIss z (if c.prot && !c.seg.openSeg then c.checkpoint (z.rdv || endsMember z.effects) else c) :=
    fun z => ite_withIss Iff.rfl rfl rfl
  have all (es : List Effect) (z : Issue) (d : Core) : es.foldl Core.apply (withIss z d) = withIss z (es.foldl Core.apply d) := apart_applyAll es z d
  have end_ : ∀ z w d, Core.endBundle (withIss z d) w = Core.endBundle d w := fun z w d => by
    unfold Core.endBundle
    cases setsStaged w.effects <;> rfl
  unfold Core.commit
  rw [open_, open_, all, all, end_, end_]
  show Core.endBundle (List.foldl Core.apply _ (inOrder x.effects)) x = Core.endBundle (List.foldl Core.apply _ (inOrder y.effects)) y
  rw [he, hr]
  unfold Core.endBundle Core.signed
  rw [he, hz, hd, hs, hgd]

/-! ## A slot that is ready -/

theorem findSome_append_none {β γ : Type} {f : β → Option γ} {l m : List β} (hl : l.findSome? f = none) (hm : m.findSome? f = none) :
    (l ++ m).findSome? f = none := by
  rw [List.findSome?_append, hl, hm]
  rfl

theorem scheduleFault_free {c : Core} {us : List Use}
    (h : ∀ u ∈ us, u.file ≠ 7 → u.exempt = false → c.pending (c.ctx.physUse u).1 (c.ctx.physUse u).2 = false) : scheduleFault c us = none := by
  have e : (us.filter fun u => decide (u.file ≠ 7) && !u.exempt && let (f, n) := c.ctx.physUse u; c.pending f n) = [] := by
    rw [List.filter_eq_nil_iff]
    intro u hu
    by_cases h7 : u.file = 7
    · simp [h7]
    · by_cases hx : u.exempt = true
      · simp [hx]
      · have := h u hu h7 (by simpa using hx)
        simp [this]
  unfold scheduleFault
  rw [e]
  rfl

theorem tokenFreezes_free {x : Ctx} {i : Instr} {us : List Use}
    (h : freezesOnTokens i = true → ∀ u ∈ us, u.file = 7 → x.tokenDone (x.physK u.num) = true) : tokenFreezes x i us = [] := by
  unfold tokenFreezes
  by_cases hf : freezesOnTokens i = true
  · rw [if_neg (by simp [hf])]
    rw [List.map_eq_nil_iff, List.filter_eq_nil_iff]
    intro u hu
    by_cases h7 : u.file = 7
    · simp [h hf u hu h7]
    · simp [h7]
  · rw [if_pos (by simp [hf])]

theorem deferredFault_none {c : Core} {ts : List Nat} {out : SlotOut} (h : c.ctx.deferred = []) : deferredFault c ts out = none := by
  unfold deferredFault
  simp only [h]
  split <;> rfl

/-- What a ready slot adds to its bundle. -/
theorem contribute_ready {s : State} {i : Instr} {body : State → Core → SlotOut} {bnd : Bool} {more : List Use} {es : List Effect} {bk so : List Nat}
    {q e r : Bool} (h : s.Ready i bnd more es)
    (hb : body s (s.core s.cur) = { effects := es, banks := bk, sbOps := so, reads := more, qualifies := q, ends := e, boundary := bnd, rdv := r })
    (hk : ∀ b ∈ bk, b ∉ (s.core s.cur).iss.banks) :
    contribute i body s = s.setCore s.cur (withIss { (s.core s.cur).iss with
        effects := (s.core s.cur).iss.effects ++ es, fault := none, banks := (s.core s.cur).iss.banks ++ bk, freezes := []
        sbOps := (s.core s.cur).iss.sbOps ++ so, guards := (s.core s.cur).iss.guards ++ [(s.core s.cur).ctx.getP (s.core s.cur).iss.guard.toNat]
        predS := (s.core s.cur).iss.predS ||| predDests (s.core s.cur).ctx i
        predD := (s.core s.cur).iss.predD ||| predDests (s.core s.cur).ctx i, boundary := (s.core s.cur).iss.boundary || bnd, rdv := r }
      (s.core s.cur)) := by
  have hg : (!isSelector i && !(rd 2 (s.core s.cur).iss.guard).exempt &&
      (s.core s.cur).pending 2 ((s.core s.cur).ctx.physP (s.core s.cur).iss.guard.toNat)) = false := by
    cases hs : isSelector i
    · rcases h.guardFree hs with hx | hx <;> simp [hx]
    · rfl
  have hp : (!isSelector i && !(s.core s.cur).ctx.getP (s.core s.cur).iss.guard.toNat) = false := by
    cases hs : isSelector i
    · simp [h.guard hs]
    · rfl
  have hc : (bk.any fun b => (s.core s.cur).iss.banks.contains b) = false := by
    rw [List.any_eq_false]
    intro b hb
    simpa using hk b hb
  have ha : acquireFreeze (s.core s.cur) = [] := if_neg (by rw [h.quiet.acquired]; decide)
  have hbad (us : List Use) :
      (us.any fun u => !u.write && (s.core s.cur).ctx.isBad ((s.core s.cur).ctx.physUse u).1 ((s.core s.cur).ctx.physUse u).2) = false := by
    unfold Ctx.isBad
    rw [h.quiet.healthy]
    simp
  unfold contribute
  simp only [h.legal, hg, hp, hbad, if_true, Bool.false_eq_true, if_false, hb, h.quiet.faultless, h.quiet.unfrozen, h.quiet.apart, hc, ha, ite_self,
    deferredFault_none h.quiet.deferred, scheduleFault_free h.free, tokenFreezes_free h.tokens, firstFault, lowestFault, List.foldl_nil,
    Option.map_none, List.append_nil, Bool.false_and, Bool.false_or]
  rfl

/-- A segment that goes on freezes nothing. -/
theorem segmentEnds_goesOn {c : Core} {i : Instr} {bnd : Bool} {es : List Effect} {x : Issue} (h : c.SegmentGoesOn i bnd es) (hb : x.boundary = (c.iss.boundary || bnd))
    (hc : (withIss x c).commit = c.issued i es) : (withIss x c).segmentEnds = false := by
  unfold Core.segmentEnds
  have hp : (withIss x c).prot = c.prot := rfl
  have hs : (withIss x c).seg = c.seg := rfl
  have hx : (withIss x c).ctx = c.ctx := rfl
  have hi : (withIss x c).iss = x := rfl
  rw [hp, hs, hx, hi, hb, hc]
  cases h1 : c.prot with
  | false => rfl
  | true =>
    cases h2 : c.seg.openSeg with
    | false => rfl
    | true =>
      obtain ⟨g, h⟩ := h h1 h2
      rw [g]
      by_cases h3 : c.seg.issued = 0
      · simp [h3]
      · obtain ⟨a, b, d, e, f⟩ := h h3
        simp [h3, a, b, Nat.not_lt.2 e, Nat.not_lt.2 f]
        exact d

/-- A ready slot ends its bundle with its effects. -/
theorem issueSlot_ready {s : State} {i : Instr} {body : State → Core → SlotOut} {bnd : Bool} {more : List Use} {es : List Effect} {bk so : List Nat}
    {q e : Bool} (h : s.Ready i bnd more es)
    (hb : body s (s.core s.cur) = { effects := es, banks := bk, sbOps := so, reads := more, qualifies := q, ends := e, boundary := bnd })
    (hk : ∀ b ∈ bk, b ∉ (s.core s.cur).iss.banks) (hw : walkPoisonOf es = none) (hq : poisonOf es = none) (ht : trapOf es = none)
    (hg : gateStopsOf es = []) : issueSlot i body s = .next (s.issued i es) := by
  have hr := contribute_ready (r := false) h hb hk
  generalize hx : ({ (s.core s.cur).iss with
        effects := (s.core s.cur).iss.effects ++ es, fault := none, banks := (s.core s.cur).iss.banks ++ bk, freezes := []
        sbOps := (s.core s.cur).iss.sbOps ++ so, guards := (s.core s.cur).iss.guards ++ [(s.core s.cur).ctx.getP (s.core s.cur).iss.guard.toNat]
        predS := (s.core s.cur).iss.predS ||| predDests (s.core s.cur).ctx i
        predD := (s.core s.cur).iss.predD ||| predDests (s.core s.cur).ctx i, boundary := (s.core s.cur).iss.boundary || bnd, rdv := false } : Issue)
      = x at hr
  have xe : x.effects = (s.core s.cur).iss.effects ++ es := hx ▸ rfl
  have xf : x.fault = none := hx ▸ rfl
  have xz : x.freezes = [] := hx ▸ rfl
  have xr : x.rest = 0 := hx ▸ h.quiet.last
  have xb : x.boundary = ((s.core s.cur).iss.boundary || bnd) := hx ▸ rfl
  have xv : x.rdv = false := hx ▸ rfl
  have xd : x.duty = false := hx ▸ h.quiet.working
  have hcom : (withIss x (s.core s.cur)).commit = (s.core s.cur).issued i es := commit_withIss (y := { (s.core s.cur).iss with
      effects := (s.core s.cur).iss.effects ++ es, guards := (s.core s.cur).iss.guards ++ [(s.core s.cur).ctx.getP (s.core s.cur).iss.guard.toNat]
      predS := (s.core s.cur).iss.predS ||| predDests (s.core s.cur).ctx i
      predD := (s.core s.cur).iss.predD ||| predDests (s.core s.cur).ctx i, rdv := false }) _ xe (hx ▸ rfl) xv (hx ▸ rfl) (hx ▸ rfl) (hx ▸ rfl)
  have hcore : (s.setCore s.cur (withIss x (s.core s.cur))).core (s.setCore s.cur (withIss x (s.core s.cur))).cur = withIss x (s.core s.cur) :=
    core_setCore_same _ _ _
  unfold issueSlot
  rw [hr]
  simp only [hcore]
  rw [if_pos (show (withIss x (s.core s.cur)).iss.rest = 0 from xr)]
  congr 1
  unfold finishIssue
  simp only [hcore]
  have hi : (withIss x (s.core s.cur)).iss = x := rfl
  have hfz : (withIss x (s.core s.cur)).iss.freezes ++
      (s.setCore s.cur (withIss x (s.core s.cur))).bundleFreezes (withIss x (s.core s.cur)) = [] := by
    rw [hi, xz]
    unfold State.bundleFreezes
    have hl : ((withIss x (s.core s.cur)).land.find? fun l => l.due) = none := by
      rw [List.find?_eq_none]
      intro l hl
      simp [(h.quiet.landings l hl).1]
    rw [hl, segmentEnds_goesOn h.segment xb hcom, hi, xv, xd]
    cases (withIss x (s.core s.cur)).task <;> simp
  rw [hfz, hi, xf, xe]
  simp only [ne_eq, not_true_eq_false, if_false]
  have w1 : walkPoisonOf ((s.core s.cur).iss.effects ++ es) = none := findSome_append_none h.quiet.sound.1 hw
  have w2 : poisonOf ((s.core s.cur).iss.effects ++ es) = none := findSome_append_none h.quiet.sound.2.1 hq
  have w3 : trapOf ((s.core s.cur).iss.effects ++ es) = none := findSome_append_none h.quiet.sound.2.2 ht
  have hp : ((withIss x (s.core s.cur)).tickLand.landingPoison fun l => l.due) = false := by
    unfold Core.landingPoison Core.tickLand
    rw [List.any_eq_false]
    intro l hl
    simp only [List.mem_map] at hl
    obtain ⟨m, hm, rfl⟩ := hl
    have hm := (h.quiet.landings m hm).2
    split
    · simp [hm]
    · split <;> simp [hm]
  have w4 : gateStopsOf ((s.core s.cur).iss.effects ++ es) = [] := by
    unfold gateStopsOf at hg ⊢
    rw [List.filterMap_append, hg, show List.filterMap _ (s.core s.cur).iss.effects = [] from h.quiet.passed]
    rfl
  have w5 : (withIss x (s.core s.cur)).ctx.nestBad = false := by
    unfold Ctx.nestBad
    rw [show (withIss x (s.core s.cur)).ctx.bad = [] from h.quiet.healthy]
    rfl
  rw [w1, w4, w5, hp]
  simp only [Bool.false_eq_true, if_false, List.append_nil, List.foldl_nil, w2, w3]
  show State.setCore (s.setCore s.cur (withIss x (s.core s.cur))) s.cur (withIss x (s.core s.cur)).commit = _
  rw [setCore_setCore]
  rw [hcom]
  rfl

/-- A trap of an unprotected member is delivered at once. -/
theorem raiseTrap_unprotected (u : State) (c : BitVec 8) (t : Trap) (h : (u.core c).prot = false) :
    u.raiseTrap c t = u.withPeers c fun s => s.takeTrap c t (u.core c).ctx.pc := by
  unfold State.raiseTrap
  dsimp only
  rw [h]
  rfl

/-- A slot that is ready but for one issue-time fault, and freezes on nothing, takes that trap at its bundle. -/
theorem issueSlot_fault {s : State} {i : Instr} {body : State → Core → SlotOut} {bnd : Bool} {more : List Use} {es : List Effect} {f : BitVec 16 × BitVec 64}
    (h : s.Ready i bnd more es) (hp : (s.core s.cur).prot = false) (hm : (body s (s.core s.cur)).reads = more) (hf : lowestFault (body s (s.core s.cur)).faults = some f)
    (hz : (body s (s.core s.cur)).freezes = []) (hk : (body s (s.core s.cur)).banks = []) (hgs : gateStopsOf (body s (s.core s.cur)).effects = []) :
    ∃ x, issueSlot i body s = .next ((s.setCore s.cur (withIss x (s.core s.cur))).withPeers s.cur fun u => u.takeTrap s.cur
      { code := f.1, port := slotPort i (s.core s.cur).iss.port, tval := f.2 } (s.core s.cur).ctx.pc) := by
  have hg : (!isSelector i && !(rd 2 (s.core s.cur).iss.guard).exempt &&
      (s.core s.cur).pending 2 ((s.core s.cur).ctx.physP (s.core s.cur).iss.guard.toNat)) = false := by
    cases hs : isSelector i
    · rcases h.guardFree hs with hx | hx <;> simp [hx]
    · rfl
  have hp' : (!isSelector i && !(s.core s.cur).ctx.getP (s.core s.cur).iss.guard.toNat) = false := by
    cases hs : isSelector i
    · simp [h.guard hs]
    · rfl
  have hbad (us : List Use) :
      (us.any fun u => !u.write && (s.core s.cur).ctx.isBad ((s.core s.cur).ctx.physUse u).1 ((s.core s.cur).ctx.physUse u).2) = false := by
    unfold Ctx.isBad
    rw [h.quiet.healthy]
    simp
  have hc : ∃ x : Issue, contribute i body s = s.setCore s.cur (withIss x (s.core s.cur)) ∧ x.rest = 0 ∧ x.freezes = [] ∧ x.duty = false ∧
      gateStopsOf x.effects = [] ∧ x.fault = some (6, { code := f.1, port := slotPort i (s.core s.cur).iss.port, tval := f.2 }) := by
    have hge : gateStopsOf ((s.core s.cur).iss.effects ++ (body s (s.core s.cur)).effects) = [] := by
      unfold gateStopsOf at hgs ⊢
      rw [List.filterMap_append, hgs, show List.filterMap _ (s.core s.cur).iss.effects = [] from h.quiet.passed]
      rfl
    unfold contribute
    simp only [hbad, ite_self, List.append_nil, h.legal, hg, hp', if_true, Bool.false_eq_true, if_false, h.quiet.faultless, h.quiet.unfrozen, hk, hz, hm,
      deferredFault_none h.quiet.deferred, scheduleFault_free h.free, tokenFreezes_free h.tokens, firstFault, hf, Option.map, List.any_nil, Bool.false_and]
    exact ⟨_, rfl, h.quiet.last, rfl, h.quiet.working, hge, rfl⟩
  obtain ⟨x, hx, hr, hz', hd, hgx, hf'⟩ := hc
  refine ⟨x, ?_⟩
  have hcore : (s.setCore s.cur (withIss x (s.core s.cur))).core (s.setCore s.cur (withIss x (s.core s.cur))).cur = withIss x (s.core s.cur) :=
    core_setCore_same _ _ _
  unfold issueSlot
  rw [hx]
  simp only [hcore]
  rw [if_pos (show (withIss x (s.core s.cur)).iss.rest = 0 from hr)]
  congr 1
  unfold finishIssue
  simp only [hcore]
  have hi : (withIss x (s.core s.cur)).iss = x := rfl
  have hseg : (withIss x (s.core s.cur)).segmentEnds = false := by
    unfold Core.segmentEnds
    rw [show (withIss x (s.core s.cur)).prot = false from hp]
    rfl
  have hfz : (withIss x (s.core s.cur)).iss.freezes ++
      (s.setCore s.cur (withIss x (s.core s.cur))).bundleFreezes (withIss x (s.core s.cur)) = [] := by
    rw [hi, hz']
    unfold State.bundleFreezes
    have hl : ((withIss x (s.core s.cur)).land.find? fun l => l.due) = none := by
      rw [List.find?_eq_none]
      intro l hl
      simp [(h.quiet.landings l hl).1]
    rw [hl, hseg, hi, hd, show (withIss x (s.core s.cur)).prot = false from hp]
    cases (withIss x (s.core s.cur)).task <;> simp
  rw [hfz, hi, hf', hgx]
  simp only [ne_eq, not_true_eq_false, if_false, List.foldl_nil]
  rw [if_neg (by decide)]
  rw [show State.setCore (s.setCore s.cur (withIss x (s.core s.cur))) (s.setCore s.cur (withIss x (s.core s.cur))).cur (withIss x (s.core s.cur)) =
    s.setCore s.cur (withIss x (s.core s.cur)) from setCore_setCore _ _ _ _]
  rw [show (s.setCore s.cur (withIss x (s.core s.cur))).cur = s.cur from rfl, raiseTrap_unprotected _ _ _ (show ((s.setCore s.cur (withIss x (s.core s.cur))).core s.cur).prot = false by
    rw [core_setCore_same]
    exact hp)]
  rw [show (s.setCore s.cur (withIss x (s.core s.cur))).core s.cur = withIss x (s.core s.cur) from core_setCore_same _ _ _]
  rfl

/-! ## The end of a bundle -/

/-- Outside protected mode no line is logged. -/
theorem logLine_unprotected {c : Core} (h : c.prot = false) (a l : Nat) : c.logLine a l = c := by
  unfold Core.logLine; simp [h]


/-- Nor are several. -/
theorem logLines_unprotected {c : Core} (h : c.prot = false) (a : Nat) (ls : List Nat) : ls.foldl (fun c l => c.logLine a l) c = c := by
  induction ls with
  | nil => rfl
  | cons l ls ih => rw [List.foldl_cons, logLine_unprotected h, ih]


/-- Marking slots changes the tag table alone. -/
theorem markSlots_keeps (c : Core) (o n : Nat) : ∃ t, c.markSlots o n = { c with pool := { c.pool with tagt := t } } := by
  unfold Core.markSlots
  generalize slotsOf c.ctx.pw o n = l
  suffices ∀ d : Core, (∃ t, d = { c with pool := { c.pool with tagt := t } }) → ∃ t, l.foldl (fun c i =>
      let e := mapGet Init.tagEntry c.pool.tagt i
      if e.st = 2 then { c with pool := { c.pool with tagt := mapSet Init.tagEntry c.pool.tagt i { e with dirty := true } } } else c) d = { c with pool := { c.pool with tagt := t } } from this c ⟨_, rfl⟩
  induction l with
  | nil => exact fun d h => h
  | cons a l ih =>
    rintro d ⟨t, rfl⟩
    refine ih _ ?_
    dsimp only
    split
    · exact ⟨_, rfl⟩
    · exact ⟨_, rfl⟩


/-- A scratchpad write changes bytes, poison marks and the tag table alone. -/
theorem spWrite_keeps {c : Core} (h : c.prot = false) (o n x : Nat) (p : Bool) : ∃ t, c.spWrite o n x p = { c with pool := { c.pool with sp := writeBytes c.pool.sp o n x, psn := markSpPoison c.pool.psn o n p, tagt := t } } := by
  unfold Core.spWrite
  rw [logLines_unprotected h]
  obtain ⟨t, ht⟩ := markSlots_keeps { c with pool := { c.pool with sp := writeBytes c.pool.sp o n x, psn := markSpPoison c.pool.psn o n p } } o n
  exact ⟨t, ht⟩


/-- A register write keeps the nest, the pc and the count of cycles. -/
theorem put_nest (x : Ctx) (w : RegWrite) : (x.put w).lc = x.lc ∧ (x.put w).pc = x.pc ∧ (x.put w).cycle = x.cycle := by
  cases w <;> simp only [Ctx.put] <;> (try unfold Ctx.setPhysP) <;> (try split) <;> simp


/-- The same with the poison it heals. -/
theorem write_nest (x : Ctx) (w : RegWrite) : (x.write w).lc = x.lc ∧ (x.write w).pc = x.pc ∧ (x.write w).cycle = x.cycle := put_nest x w


/-- The same of several results. -/
theorem results_nest {α} (l : List α) (f : α → RegWrite) (g : α → FFlags) (x : Ctx) :
   (l.foldl (fun x r => (x.write (f r)).orFlags (g r)) x).lc = x.lc ∧ (l.foldl (fun x r => (x.write (f r)).orFlags (g r)) x).pc = x.pc ∧ (l.foldl (fun x r => (x.write (f r)).orFlags (g r)) x).cycle = x.cycle := by
  induction l generalizing x with
  | nil => exact ⟨rfl, rfl, rfl⟩
  | cons a l ih =>
    have h := ih ((x.write (f a)).orFlags (g a))
    have w := write_nest x (f a)
    exact ⟨h.1.trans w.1, h.2.1.trans w.2.1, h.2.2.trans w.2.2⟩


/-- No level whose last bundle this is makes no back-edge. -/
theorem backEdges_none {x : Ctx} {pc n : BitVec 64} {l : List Nat} (h : ∀ j ∈ l, (x.getLevel j).active = true → (x.getLevel j).last ≠ pc) :
    x.backEdges pc n l = (x, n) := by
  induction l with
  | nil => rfl
  | cons j l ih =>
    unfold Ctx.backEdges
    simp only
    rw [if_neg (fun ⟨a, b⟩ => h j (by simp) a b)]
    exact ih fun k hk => h k (by simp [hk])


/-- The end of a bundle without transfer, LOOP or back-edge, of a member that is not protected. -/
theorem endBundle_plain {c : Core} {x : Issue} (hp : c.prot = false) (h1 : setsStaged x.effects = false) (h2 : hasEret x.effects = false)
    (h3 : jumpOf x.effects = none) (h4 : skipOf x.effects = none)
    (hpc : ∀ l ∈ [0,1,2,3,4,5], ((c.tickPipe.tickLand.writeLandings fun l => l.due).ctx.getLevel l).active = true → ((c.tickPipe.tickLand.writeLandings fun l => l.due).ctx.getLevel l).last ≠ (c.tickPipe.tickLand.writeLandings fun l => l.due).ctx.pc) :
    let d := c.tickPipe.tickLand.writeLandings fun l => l.due
    (c.endBundle x).ctx = { d.ctx with pc := d.ctx.pc + BitVec.ofNat 64 x.size, cycle := d.ctx.cycle + 1, waitOk := false } ∧ (c.endBundle x).pipe = d.pipe ∧ (c.endBundle x).land = d.land
     ∧ (c.endBundle x).pool = c.pool ∧ (c.endBundle x).sb = c.sb ∧ (c.endBundle x).ops = c.ops ∧ (c.endBundle x).mq = c.mq ∧ (c.endBundle x).launches = c.launches ∧ (c.endBundle x).run = c.run := by
  intro d
  unfold Core.endBundle
  simp only [h1, Bool.false_eq_true, if_false]
  have hq : (c.tickPipe.tickLand.writeLandings fun l => l.due).prot = false := hp
  simp only [hq, Bool.false_eq_true, if_false, Bool.false_and]
  have ha : d.ctx.advance x.effects x.size = { d.ctx with pc := d.ctx.pc + BitVec.ofNat 64 x.size } := by
    unfold Ctx.advance
    have hb := backEdges_none (n := d.ctx.pc + BitVec.ofNat 64 x.size) hpc
    simp only [h2, h3, h4, Bool.false_eq_true, if_false]
    rw [hb]
  refine ⟨?_, rfl, rfl, rfl, rfl, rfl, rfl, rfl, rfl⟩
  change ({ d.ctx.advance x.effects x.size with cycle := d.ctx.cycle + 1, waitOk := false } : Ctx) = _
  rw [ha]


/-- The same with neither results nor landings outstanding. -/
theorem endBundle_quiet {c : Core} {x : Issue} (hpp : c.pipe = []) (hl : c.land = []) (hp : c.prot = false) (h1 : setsStaged x.effects = false) (h2 : hasEret x.effects = false)
    (h3 : jumpOf x.effects = none) (h4 : skipOf x.effects = none)
    (hpc : ∀ l ∈ [0,1,2,3,4,5], (c.ctx.getLevel l).active = true → (c.ctx.getLevel l).last ≠ c.ctx.pc) :
    (c.endBundle x).ctx = { c.ctx with pc := c.ctx.pc + BitVec.ofNat 64 x.size, cycle := c.ctx.cycle + 1, waitOk := false } ∧ (c.endBundle x).pipe = [] ∧ (c.endBundle x).land = []
     ∧ (c.endBundle x).pool = c.pool ∧ (c.endBundle x).sb = c.sb ∧ (c.endBundle x).ops = c.ops ∧ (c.endBundle x).mq = c.mq ∧ (c.endBundle x).launches = c.launches ∧ (c.endBundle x).run = c.run := by
  have hctx : (c.tickPipe.tickLand.writeLandings fun l => l.due).ctx = c.ctx := by
    unfold Core.writeLandings Core.tickLand Core.tickPipe
    simp only [hpp, hl, List.filter_nil, List.map_nil, List.foldl_nil]
  have key := endBundle_plain (c := c) (x := x) hp h1 h2 h3 h4 (by rw [hctx]; exact hpc)
  dsimp only at key
  rw [hctx] at key
  refine ⟨key.1, key.2.1.trans ?_, key.2.2.1.trans ?_, key.2.2.2.1, key.2.2.2.2⟩
  · unfold Core.writeLandings Core.tickLand Core.tickPipe
    simp only [hpp, List.filter_nil, List.map_nil]
  · unfold Core.writeLandings Core.tickLand Core.tickPipe
    simp only [hl, List.filter_nil, List.map_nil]


/-- Effects of the last rank keep their order. -/
theorem inOrder_plain {es : List Effect} (h : ∀ e ∈ es, effectOrder e = 2) : inOrder es = es := by
  unfold inOrder
  rw [List.filter_eq_nil_iff.mpr (fun e he => by simp [h e he]), List.filter_eq_nil_iff.mpr (fun e he => by simp [h e he]), List.filter_eq_self.mpr (fun e he => by simp [h e he])]
  rfl


/-- The rows of a gather are emptied in the landing rows alone. -/
theorem clearRows_keeps {c : Core} (h : c.prot = false) (a n : Nat) : ∃ l, c.clearRows a n = { c with pool := { c.pool with land := l } } := by
  unfold Core.clearRows
  generalize upFrom a n = rs
  induction rs generalizing c with
  | nil => exact ⟨_, rfl⟩
  | cons r rs ih =>
    rw [List.foldl_cons]
    have hl : (List.range 4).foldl (fun c i => c.logLine 3 (4 * r + i)) c = c := by
      have : ∀ ls : List Nat, ls.foldl (fun c i => c.logLine 3 (4 * r + i)) c = c := by
        intro ls; induction ls with
        | nil => rfl
        | cons l ls ih => rw [List.foldl_cons, logLine_unprotected h, ih]
      exact this _
    dsimp only
    rw [hl]
    obtain ⟨l, hl⟩ := ih (c := { c with pool := { c.pool with land := mapSet Init.landRow c.pool.land r { mapGet Init.landRow c.pool.land r with data := [], state := 0, seen := false, psn := false, lst := false } } }) h
    exact ⟨l, hl⟩


/-- One request enters the memory port of a member that is not protected. -/
theorem pushReq_takes {c : Core} (h : c.prot = false) (k : ReqKind) (cls : Nat) (p : Piece) (d : Nat) (sc : BitVec 3) (o : BitVec 2) :
   ∃ old r, c.pushReq k cls p d sc o = { c with nid := c.nid + 1, mq := old ++ [r] } ∧ old.map (fun r => { r with merges := false }) = c.mq.map (fun r => { r with merges := false })
    ∧ (r.kind, r.cls, r.piece, r.data, r.scope, r.acq, r.rel) = (k, cls, p, d, sc, o.getLsbD 0, o.getLsbD 1) ∧ r.sent = false ∧ r.psn = false := by
  unfold Core.pushReq
  dsimp only
  rw [show (c.closeLine p k sc o).prot = false from h]
  simp only [Bool.not_false, if_true]
  refine ⟨_, _, rfl, ?_, rfl, rfl, rfl⟩
  unfold Core.closeLine
  simp only [List.map_map]
  apply List.map_congr_left
  intro r _
  simp only [Function.comp]
  split <;> rfl


end Sys2Proof.Laws
end

