-- ==== Sys2Proof/Laws/Memory.lean ====
section
/-! SUPPORT. Every operation of the machine keeps stack memory and the file of cores in their canonical forms: one lemma an operation, and one for
every event; a step keeps them when exec does. -/

namespace Sys2Proof.Laws

open Sys2Proof.Machine

set_option linter.unusedSimpArgs false

theorem wf_mk {f0 f1 f2 f3 f4 f5 f6 f7 m f9 cs f11 f12 f13 f14 f15 f16 f17 f18 f19 f20 f21 f22 f23 f24 f25 f26 f27 f28 f29 f30 f31 f32 f33 f34 f35 f36 f37 f38} : State.Canonical (State.mk f0 f1 f2 f3 f4 f5 f6 f7 m f9 cs f11 f12 f13 f14 f15 f16 f17 f18 f19 f20 f21 f22 f23 f24 f25 f26 f27 f28 f29 f30 f31 f32 f33 f34 f35 f36 f37 f38) ↔ mapWf 0 m = true ∧ mapWf Init.core cs = true := Iff.rfl
theorem wf_mem {s : State} (h : State.Canonical s) : mapWf 0 s.mem = true := h.1
theorem wf_cores {s : State} (h : State.Canonical s) : mapWf Init.core s.cores = true := h.2
theorem wf_foldl {β : Type} {l : List β} {f : State → β → State} {s : State} (hf : ∀ t x, State.Canonical t → State.Canonical (f t x)) (h : State.Canonical s) : State.Canonical (l.foldl f s) := by
  induction l generalizing s with
  | nil => exact h
  | cons x l ih => exact ih (hf s x h)
theorem wf_foldlP {α β : Type} {l : List β} {f : State × α → β → State × α} {p : State × α} (hf : ∀ t x, State.Canonical t.1 → State.Canonical (f t x).1) (h : State.Canonical p.1) :
    State.Canonical (l.foldl f p).1 := by
  induction l generalizing p with
  | nil => exact h
  | cons x l ih => exact ih (hf p x h)
theorem wf_foldlQ {α β : Type} {l : List β} {f : α × State → β → α × State} {p : α × State} (hf : ∀ t x, State.Canonical t.2 → State.Canonical (f t x).2) (h : State.Canonical p.2) :
    State.Canonical (l.foldl f p).2 := by
  induction l generalizing p with
  | nil => exact h
  | cons x l ih => exact ih (hf p x h)
theorem wf_foldlR {α β γ : Type} {l : List β} {f : (State × α) × γ → β → (State × α) × γ} {p : (State × α) × γ} (hf : ∀ t x, State.Canonical t.1.1 → State.Canonical (f t x).1.1) (h : State.Canonical p.1.1) :
    State.Canonical (l.foldl f p).1.1 := by
  induction l generalizing p with
  | nil => exact h
  | cons x l ih => exact ih (hf p x h)
theorem wf_reset : State.Canonical State.reset := ⟨rfl, rfl⟩
theorem wf_ite {c : Prop} [Decidable c] {s t : State} (hs : State.Canonical s) (ht : State.Canonical t) : State.Canonical (if c then s else t) := by split <;> assumption
theorem wf_iteP {α : Type} {c : Prop} [Decidable c] {s t : State × α} (hs : State.Canonical s.1) (ht : State.Canonical t.1) : State.Canonical (if c then s else t).1 := by
  split <;> assumption
theorem wf_getD {o : Option State} {s : State} (ho : ∀ t, o = some t → State.Canonical t) (h : State.Canonical s) : State.Canonical (o.getD s) := by
  cases o with
  | none => exact h
  | some t => exact ho t rfl

theorem wf_setStack {s : State} {x1 : ℕ} {x2 : Stack} (h : State.Canonical s) : State.Canonical (State.setStack s x1 x2) := by
  unfold State.setStack
  repeat' first | with_reducible assumption | simp only [wf_mk] | with_reducible apply And.intro | with_reducible apply wf_mem | with_reducible apply wf_cores

theorem wf_updStack {s : State} {x1 : ℕ} {x2 : Stack → Stack} (h : State.Canonical s) : State.Canonical (State.updStack s x1 x2) := by
  unfold State.updStack
  repeat' first | with_reducible assumption | with_reducible apply wf_setStack

theorem wf_setChan {s : State} {x1 : ℕ} {x2 : ℕ} {x3 : PChan} (h : State.Canonical s) : State.Canonical (State.setChan s x1 x2 x3) := by
  unfold State.setChan
  repeat' first | with_reducible assumption | with_reducible apply wf_updStack

theorem wf_setCore {s : State} {x1 : BitVec 8} {x2 : Core} (h : State.Canonical s) : State.Canonical (State.setCore s x1 x2) := by
  unfold State.setCore
  repeat' first | with_reducible assumption | simp only [wf_mk] | with_reducible apply And.intro | with_reducible apply wf_mem | with_reducible apply wf_cores | with_reducible apply mapWf_set

theorem wf_updChan {s : State} {x1 : ℕ} {x2 : ℕ} {x3 : PChan → PChan} (h : State.Canonical s) : State.Canonical (State.updChan s x1 x2 x3) := by
  unfold State.updChan
  repeat' first | with_reducible assumption | with_reducible apply wf_setChan

theorem wf_updCore {s : State} {x1 : BitVec 8} {x2 : Core → Core} (h : State.Canonical s) : State.Canonical (State.updCore s x1 x2) := by
  unfold State.updCore
  repeat' first | with_reducible assumption | with_reducible apply wf_setCore

theorem wf_updCores {s : State} {x1 : List (BitVec 8)} {x2 : Core → Core} (h : State.Canonical s) : State.Canonical (State.updCores s x1 x2) := by
  unfold State.updCores
  repeat' first | with_reducible assumption | with_reducible apply wf_updCore | with_reducible apply wf_foldl | (intro t _ ht)

theorem wf_unstage {s : State} {x1 : ℕ} (h : State.Canonical s) : State.Canonical (State.unstage s x1) := by
  unfold State.unstage
  repeat' first | with_reducible assumption | with_reducible apply wf_ite | with_reducible apply wf_updChan

theorem wf_dropAsids {s : State} {x1 : ℕ} {x2 : ℕ} (h : State.Canonical s) : State.Canonical (State.dropAsids s x1 x2) := by
  unfold State.dropAsids
  repeat' first | with_reducible assumption | with_reducible apply wf_ite | simp only [wf_mk] | with_reducible apply And.intro | with_reducible apply wf_mem | with_reducible apply wf_cores

theorem wf_markDirty {s : State} {x1 : ℕ} {x2 : ℕ} (h : State.Canonical s) : State.Canonical (State.markDirty s x1 x2) := by
  unfold State.markDirty
  repeat' first | with_reducible assumption | with_reducible apply wf_ite | with_reducible apply wf_updStack | simp only [wf_mk] | split

theorem wf_physWrite {s : State} {x1 : ℕ} {x2 : ℕ} {x3 : ℕ} {x4 : Bool} (h : State.Canonical s) : State.Canonical (State.physWrite s x1 x2 x3 x4) := by
  unfold State.physWrite
  repeat' first | with_reducible assumption | with_reducible apply wf_ite | with_reducible apply wf_unstage | with_reducible apply wf_dropAsids | with_reducible apply wf_markDirty | with_reducible apply wf_foldl | simp only [wf_mk] | with_reducible apply And.intro | with_reducible apply wf_mem | with_reducible apply wf_cores | with_reducible apply wf_writeBytes | (intro t _ ht)

theorem wf_addAt {s : State} {x1 : PAddr} {x2 : ℕ} (h : State.Canonical s) : State.Canonical (State.addAt s x1 x2).1 := by
  unfold State.addAt
  repeat' first | with_reducible assumption | with_reducible apply wf_iteP | with_reducible apply wf_physWrite | split

theorem wf_addAt_eq {s : State} {x1 : PAddr} {x2 : ℕ} {t : State} {r} (h : State.Canonical s) (e : State.addAt s x1 x2 = (t, r)) : State.Canonical t := by
  have := wf_addAt (s := s) (x1 := x1) (x2 := x2) h
  rw [e] at this
  exact this

theorem wf_waits {s : State} (h : State.Canonical s) : State.Canonical (State.waits s) := by
  unfold State.waits
  repeat' first | with_reducible assumption | simp only [wf_mk] | with_reducible apply And.intro | with_reducible apply wf_mem | with_reducible apply wf_cores

theorem wf_awaits {s : State} {x1 : BitVec 8 → ℕ → Bool} {x2 : PAddr} {x3 : ℕ} (h : State.Canonical s) : State.Canonical (State.awaits s x1 x2 x3) := by
  unfold State.awaits
  repeat' first | with_reducible assumption | with_reducible apply wf_ite | with_reducible apply wf_waits

theorem wf_awaitsAll {s : State} {x1 : PAddr} {x2 : ℕ} (h : State.Canonical s) : State.Canonical (State.awaitsAll s x1 x2) := by
  unfold State.awaitsAll
  repeat' first | with_reducible assumption | with_reducible apply wf_awaits

theorem wf_awaitsCols {s : State} {x1 : ℕ} {x2 : PAddr} {x3 : ℕ} (h : State.Canonical s) : State.Canonical (State.awaitsCols s x1 x2 x3) := by
  unfold State.awaitsCols
  repeat' first | with_reducible assumption | with_reducible apply wf_ite | with_reducible apply wf_waits | with_reducible apply wf_awaitsAll

theorem wf_post {s : State} {x1 : EventKind} (h : State.Canonical s) : State.Canonical (State.post s x1) := by
  unfold State.post
  repeat' first | with_reducible assumption | simp only [wf_mk] | with_reducible apply And.intro | with_reducible apply wf_mem | with_reducible apply wf_cores

theorem wf_mirrorRecord {s : State} {x1 : ℕ} {x2 : ℕ} {x3 : BitVec 256} (h : State.Canonical s) : State.Canonical (State.mirrorRecord s x1 x2 x3) := by
  unfold State.mirrorRecord
  repeat' first | with_reducible assumption | with_reducible apply wf_markDirty | with_reducible apply wf_foldl | simp only [wf_mk] | with_reducible apply And.intro | with_reducible apply wf_mem | with_reducible apply wf_cores | with_reducible apply wf_writeBytes | (intro t _ ht)

theorem wf_setRecord {s : State} {x1 : ℕ} {x2 : ℕ} {x3 : BitVec 256} (h : State.Canonical s) : State.Canonical (State.setRecord s x1 x2 x3) := by
  unfold State.setRecord
  repeat' first | with_reducible assumption | with_reducible apply wf_mirrorRecord | simp only [wf_mk] | with_reducible apply And.intro | with_reducible apply wf_mem | with_reducible apply wf_cores

theorem wf_logError {s : State} {x1 : ℕ} {x2 : ℕ} {x3 : ErrInfo} (h : State.Canonical s) : State.Canonical (State.logError s x1 x2 x3) := by
  unfold State.logError
  repeat' first | with_reducible assumption | with_reducible apply wf_ite | with_reducible apply wf_post | with_reducible apply wf_setRecord

theorem wf_coreError {s : State} {x1 : BitVec 8} {x2 : ℕ} {x3 : ErrInfo} (h : State.Canonical s) : State.Canonical (State.coreError s x1 x2 x3) := by
  unfold State.coreError
  repeat' first | with_reducible assumption | with_reducible apply wf_logError

theorem wf_takeFree {s : State} (h : State.Canonical s) : State.Canonical (State.takeFree s) := by
  unfold State.takeFree
  repeat' first | with_reducible assumption | simp only [wf_mk] | with_reducible apply And.intro | with_reducible apply wf_mem | with_reducible apply wf_cores

theorem wf_unitConsumes {s : State} {x1 : ℕ} {x2 : ℕ} {x3 : ℕ} (h : State.Canonical s) : State.Canonical (State.unitConsumes s x1 x2 x3) := by
  unfold State.unitConsumes
  repeat' first | with_reducible assumption | with_reducible apply wf_takeFree | with_reducible apply wf_logError

theorem wf_unitAddAt {s : State} {x1 : ℕ} {x2 : ℕ} {x3 : ℕ} {x4 : PAddr} {x5 : ℕ} (h : State.Canonical s) : State.Canonical (State.unitAddAt s x1 x2 x3 x4 x5).1 := by
  unfold State.unitAddAt
  repeat' first | with_reducible assumption | with_reducible apply wf_ite | with_reducible apply wf_iteP | with_reducible apply wf_addAt | with_reducible apply wf_awaitsCols | with_reducible apply wf_unitConsumes | simp only [wf_mk] | split

theorem wf_unitAddAt_eq {s : State} {x1 : ℕ} {x2 : ℕ} {x3 : ℕ} {x4 : PAddr} {x5 : ℕ} {t : State} {r} (h : State.Canonical s) (e : State.unitAddAt s x1 x2 x3 x4 x5 = (t, r)) : State.Canonical t := by
  have := wf_unitAddAt (s := s) (x1 := x1) (x2 := x2) (x3 := x3) (x4 := x4) (x5 := x5) h
  rw [e] at this
  exact this

theorem wf_spineWalkPoison {s : State} {x1 : ℕ} (h : State.Canonical s) : State.Canonical (State.spineWalkPoison s x1) := by
  unfold State.spineWalkPoison
  repeat' first | with_reducible assumption | with_reducible apply wf_logError

theorem wf_cpAdd {s : State} {x1 : ℕ} {x2 : BitVec 14} {x3 : ℕ} {x4 : ℕ} (h : State.Canonical s) : State.Canonical (State.cpAdd s x1 x2 x3 x4).1 := by
  unfold State.cpAdd
  repeat' first | with_reducible assumption | with_reducible apply wf_iteP | with_reducible apply wf_unitAddAt | with_reducible apply wf_spineWalkPoison | with_reducible apply wf_waits | split

theorem wf_cpAdd_eq {s : State} {x1 : ℕ} {x2 : BitVec 14} {x3 : ℕ} {x4 : ℕ} {t : State} {r} (h : State.Canonical s) (e : State.cpAdd s x1 x2 x3 x4 = (t, r)) : State.Canonical t := by
  have := wf_cpAdd (s := s) (x1 := x1) (x2 := x2) (x3 := x3) (x4 := x4) h
  rw [e] at this
  exact this

theorem wf_writeAt {s : State} {x1 : PAddr} {x2 : ℕ} {x3 : ℕ} {x4 : Bool} (h : State.Canonical s) : State.Canonical (State.writeAt s x1 x2 x3 x4).1 := by
  unfold State.writeAt
  repeat' first | with_reducible assumption | with_reducible apply wf_iteP | with_reducible apply wf_physWrite | split

theorem wf_writeAt_eq {s : State} {x1 : PAddr} {x2 : ℕ} {x3 : ℕ} {x4 : Bool} {t : State} {r} (h : State.Canonical s) (e : State.writeAt s x1 x2 x3 x4 = (t, r)) : State.Canonical t := by
  have := wf_writeAt (s := s) (x1 := x1) (x2 := x2) (x3 := x3) (x4 := x4) h
  rw [e] at this
  exact this

theorem wf_put {s : State} {x1 : ℕ} {x2 : PAddr} {x3 : ℕ} {x4 : ℕ} {x5 : Bool} (h : State.Canonical s) : State.Canonical (State.put s x1 x2 x3 x4 x5).1 := by
  unfold State.put
  repeat' first | with_reducible assumption | with_reducible apply wf_iteP | with_reducible apply wf_writeAt | with_reducible apply wf_awaitsCols

theorem wf_put_eq {s : State} {x1 : ℕ} {x2 : PAddr} {x3 : ℕ} {x4 : ℕ} {x5 : Bool} {t : State} {r} (h : State.Canonical s) (e : State.put s x1 x2 x3 x4 x5 = (t, r)) : State.Canonical t := by
  have := wf_put (s := s) (x1 := x1) (x2 := x2) (x3 := x3) (x4 := x4) (x5 := x5) h
  rw [e] at this
  exact this

theorem wf_cpWrite {s : State} {x1 : ℕ} {x2 : BitVec 14} {x3 : ℕ} {x4 : ℕ} {x5 : ℕ} (h : State.Canonical s) : State.Canonical (State.cpWrite s x1 x2 x3 x4 x5).1 := by
  unfold State.cpWrite
  repeat' first | with_reducible assumption | with_reducible apply wf_put | with_reducible apply wf_spineWalkPoison | with_reducible apply wf_waits | split

theorem wf_cpWrite_eq {s : State} {x1 : ℕ} {x2 : BitVec 14} {x3 : ℕ} {x4 : ℕ} {x5 : ℕ} {t : State} {r} (h : State.Canonical s) (e : State.cpWrite s x1 x2 x3 x4 x5 = (t, r)) : State.Canonical t := by
  have := wf_cpWrite (s := s) (x1 := x1) (x2 := x2) (x3 := x3) (x4 := x4) (x5 := x5) h
  rw [e] at this
  exact this

theorem wf_cpPut {s : State} {x1 : ℕ} {x2 : BitVec 14} {x3 : ℕ} {x4 : ℕ} {x5 : ℕ} (h : State.Canonical s) : State.Canonical (State.cpPut s x1 x2 x3 x4 x5) := wf_cpWrite h

theorem wf_fenceRan {s : State} {x1 : BankLaunch → Bool} (h : State.Canonical s) : State.Canonical (State.fenceRan s x1) := by
  unfold State.fenceRan
  repeat' first | with_reducible assumption | simp only [wf_mk] | with_reducible apply And.intro | with_reducible apply wf_mem | with_reducible apply wf_cores

theorem wf_gateStops {s : State} {x1 : ℕ} (h : State.Canonical s) : State.Canonical (State.gateStops s x1) := by
  unfold State.gateStops
  repeat' first | with_reducible assumption | with_reducible apply wf_logError

theorem wf_sawArray {s : State} {x1 : ℕ} {x2 : ℕ} (h : State.Canonical s) : State.Canonical (State.sawArray s x1 x2) := by
  unfold State.sawArray
  repeat' first | with_reducible assumption | with_reducible apply wf_ite | with_reducible apply wf_unstage | with_reducible apply wf_foldl | (intro t _ ht)

theorem wf_spend {s : State} {x1 : ℕ} (h : State.Canonical s) : State.Canonical (State.spend s x1) := by
  unfold State.spend
  repeat' first | with_reducible assumption | with_reducible apply wf_ite | with_reducible apply wf_updCore | simp only [wf_mk] | with_reducible apply And.intro | with_reducible apply wf_mem | with_reducible apply wf_cores

theorem wf_spineConsumes {s : State} {x1 : ℕ} (h : State.Canonical s) : State.Canonical (State.spineConsumes s x1) := by
  unfold State.spineConsumes
  repeat' first | with_reducible assumption | with_reducible apply wf_unitConsumes

theorem wf_request {s : State} {x1 : Request} {x2 : optParam (Option (BitVec 8)) Option.none} (h : State.Canonical s) : State.Canonical (State.request s x1 x2) := by
  unfold State.request
  repeat' first | with_reducible assumption | with_reducible apply wf_post | simp only [wf_mk] | with_reducible apply And.intro | with_reducible apply wf_mem | with_reducible apply wf_cores

theorem wf_requestSucc {s : State} {x1 : Request} {x2 : ℕ} (h : State.Canonical s) : State.Canonical (State.requestSucc s x1 x2) := by
  unfold State.requestSucc
  repeat' first | with_reducible assumption | with_reducible apply wf_ite | with_reducible apply wf_request

theorem wf_putRegion {s : State} {x1 : Region} {x2 : Bool} (h : State.Canonical s) : State.Canonical (State.putRegion s x1 x2).1 := by
  unfold State.putRegion
  repeat' first | with_reducible assumption | with_reducible apply wf_cpWrite

theorem wf_putRegion_eq {s : State} {x1 : Region} {x2 : Bool} {t : State} {r} (h : State.Canonical s) (e : State.putRegion s x1 x2 = (t, r)) : State.Canonical t := by
  have := wf_putRegion (s := s) (x1 := x1) (x2 := x2) h
  rw [e] at this
  exact this

theorem wf_storeRegion {s : State} {x1 : Region} {x2 : Bool} (h : State.Canonical s) : State.Canonical (State.storeRegion s x1 x2) := by
  unfold State.storeRegion
  repeat' first | with_reducible assumption | with_reducible apply wf_putRegion

theorem wf_changeRegion {s : State} {x1 : ℕ} {x2 : BitVec 14} {x3 : BitVec 64} {x4 : Region → Region} (h : State.Canonical s) : State.Canonical (State.changeRegion s x1 x2 x3 x4).1 := by
  unfold State.changeRegion
  repeat' first | with_reducible assumption | with_reducible apply wf_putRegion | simp only [wf_mk] | with_reducible apply And.intro | with_reducible apply wf_mem | with_reducible apply wf_cores | split

theorem wf_changeRegion_eq {s : State} {x1 : ℕ} {x2 : BitVec 14} {x3 : BitVec 64} {x4 : Region → Region} {t : State} {r} (h : State.Canonical s) (e : State.changeRegion s x1 x2 x3 x4 = (t, r)) : State.Canonical t := by
  have := wf_changeRegion (s := s) (x1 := x1) (x2 := x2) (x3 := x3) (x4 := x4) h
  rw [e] at this
  exact this

theorem wf_updRegion {s : State} {x1 : ℕ} {x2 : BitVec 14} {x3 : BitVec 64} {x4 : Region → Region} (h : State.Canonical s) : State.Canonical (State.updRegion s x1 x2 x3 x4) := by
  unfold State.updRegion
  repeat' first | with_reducible assumption | with_reducible apply wf_changeRegion

theorem wf_tryClose {s : State} {x1 : ℕ} {x2 : BitVec 14} {x3 : ℕ} {x4 : BitVec 64} (h : State.Canonical s) : State.Canonical (State.tryClose s x1 x2 x3 x4) := by
  induction x3 generalizing s x2 x4 with
  | zero => exact h
  | succ n ih =>
  unfold State.tryClose
  repeat' first | with_reducible assumption | with_reducible apply wf_ite | with_reducible apply wf_storeRegion | with_reducible apply wf_updRegion | with_reducible apply ih | simp only [wf_mk] | with_reducible apply And.intro | with_reducible apply wf_mem | with_reducible apply wf_cores | split

theorem wf_cpBlock {s : State} {x1 : ℕ} {x2 : BitVec 14} {x3 : ℕ} {x4 : ℕ} (h : State.Canonical s) : State.Canonical (State.cpBlock s x1 x2 x3 x4).1 := by
  unfold State.cpBlock
  repeat' first | with_reducible assumption | with_reducible apply wf_spineConsumes | with_reducible apply wf_waits | with_reducible apply wf_spineWalkPoison | with_reducible apply wf_foldlP | (intro t _ ht) | split

theorem wf_cpBlock_eq {s : State} {x1 : ℕ} {x2 : BitVec 14} {x3 : ℕ} {x4 : ℕ} {t : State} {r} (h : State.Canonical s) (e : State.cpBlock s x1 x2 x3 x4 = (t, r)) : State.Canonical t := by
  have := wf_cpBlock (s := s) (x1 := x1) (x2 := x2) (x3 := x3) (x4 := x4) h
  rw [e] at this
  exact this

theorem wf_putNodeState {s : State} {x1 : Request} {x2 : BitVec 14} {x3 : ℕ} {x4 : ℕ} (h : State.Canonical s) : State.Canonical (State.putNodeState s x1 x2 x3 x4).1 := by
  unfold State.putNodeState
  repeat' first | with_reducible assumption | with_reducible apply wf_cpBlock | with_reducible apply wf_cpWrite | simp only [wf_mk] | split

theorem wf_putNodeState_eq {s : State} {x1 : Request} {x2 : BitVec 14} {x3 : ℕ} {x4 : ℕ} {t : State} {r} (h : State.Canonical s) (e : State.putNodeState s x1 x2 x3 x4 = (t, r)) : State.Canonical t := by
  have := wf_putNodeState (s := s) (x1 := x1) (x2 := x2) (x3 := x3) (x4 := x4) h
  rw [e] at this
  exact this

theorem wf_updSub {s : State} {x1 : BitVec 6} {x2 : ℕ} {x3 : Submission → Submission} (h : State.Canonical s) : State.Canonical (State.updSub s x1 x2 x3) := by
  unfold State.updSub
  repeat' first | with_reducible assumption | simp only [wf_mk] | with_reducible apply And.intro | with_reducible apply wf_mem | with_reducible apply wf_cores

theorem wf_refuseNode {s : State} {x1 : Request} {x2 : ℕ} (h : State.Canonical s) : State.Canonical (State.refuseNode s x1 x2) := by
  unfold State.refuseNode
  repeat' first | with_reducible assumption | with_reducible apply wf_updSub | with_reducible apply wf_post

theorem wf_closeNode {s : State} {x1 : Request} {x2 : BitVec 14} {x3 : ℕ} {x4 : ℕ} (h : State.Canonical s) : State.Canonical (State.closeNode s x1 x2 x3 x4) := by
  unfold State.closeNode
  repeat' first | with_reducible assumption | with_reducible apply wf_ite | with_reducible apply wf_putNodeState | with_reducible apply wf_refuseNode

theorem wf_settleNode {s : State} {x1 : Request} {x2 : BitVec 14} {x3 : BitVec 64} (h : State.Canonical s) : State.Canonical (State.settleNode s x1 x2 x3) := by
  unfold State.settleNode
  repeat' first | with_reducible assumption | with_reducible apply wf_closeNode | simp only [wf_mk] | with_reducible apply And.intro | with_reducible apply wf_mem | with_reducible apply wf_cores | split

theorem wf_completeNode {s : State} {x1 : Active} {x2 : List ℕ} (h : State.Canonical s) : State.Canonical (State.completeNode s x1 x2) := by
  unfold State.completeNode
  repeat' first | with_reducible assumption | with_reducible apply wf_requestSucc | with_reducible apply wf_tryClose | with_reducible apply wf_settleNode | with_reducible apply wf_foldl | simp only [wf_mk] | with_reducible apply And.intro | with_reducible apply wf_mem | with_reducible apply wf_cores | (intro t _ ht)

theorem wf_refuseActive {s : State} {x1 : Active} {x2 : ℕ} (h : State.Canonical s) : State.Canonical (State.refuseActive s x1 x2) := by
  unfold State.refuseActive
  repeat' first | with_reducible assumption | with_reducible apply wf_completeNode | with_reducible apply wf_refuseNode

theorem wf_treesOk {s : State} {x1 : ℕ} {x2 : BitVec 14} {x3 : ImageInfo} (h : State.Canonical s) : State.Canonical (State.treesOk s x1 x2 x3).1 := by
  unfold State.treesOk
  repeat' first | with_reducible assumption | with_reducible apply wf_cpBlock | with_reducible apply wf_foldlP | simp only [wf_mk] | (intro t _ ht)

theorem wf_treesOk_eq {s : State} {x1 : ℕ} {x2 : BitVec 14} {x3 : ImageInfo} {t : State} {r} (h : State.Canonical s) (e : State.treesOk s x1 x2 x3 = (t, r)) : State.Canonical t := by
  have := wf_treesOk (s := s) (x1 := x1) (x2 := x2) (x3 := x3) h
  rw [e] at this
  exact this

theorem wf_imageTrees {s : State} {x1 : ℕ} {x2 : BitVec 14} {x3 : Option ImageInfo} (h : State.Canonical s) : State.Canonical (State.imageTrees s x1 x2 x3).1 := by
  cases x3 with
  | none => exact h
  | some info =>
    have ht : State.Canonical (s.treesOk x1 x2 info).1 := wf_treesOk h
    have e : s.imageTrees x1 x2 (some info) = ((s.treesOk x1 x2 info).1, if (s.treesOk x1 x2 info).2 then some info else none) := rfl
    rw [e]
    exact ht


theorem wf_imageTrees_eq {s : State} {x1 : ℕ} {x2 : BitVec 14} {x3 : Option ImageInfo} {t : State} {r} (h : State.Canonical s) (e : State.imageTrees s x1 x2 x3 = (t, r)) : State.Canonical t := by
  have := wf_imageTrees (s := s) (x1 := x1) (x2 := x2) (x3 := x3) h
  rw [e] at this
  exact this

theorem wf_readImage {s : State} {x1 : ℕ} {x2 : BitVec 14} {x3 : ℕ} {x4 : ℕ} (h : State.Canonical s) : State.Canonical (State.readImage s x1 x2 x3 x4).1 := by
  have e : s.readImage x1 x2 x3 x4 = (s.cpBlock x1 x2 (headerOf x3) 64).1.imageTrees x1 x2 ((s.cpBlock x1 x2 (headerOf x3) 64).2.bind fun x => imageInfo x x4) := rfl
  rw [e]
  exact wf_imageTrees (wf_cpBlock h)


theorem wf_readImage_eq {s : State} {x1 : ℕ} {x2 : BitVec 14} {x3 : ℕ} {x4 : ℕ} {t : State} {r} (h : State.Canonical s) (e : State.readImage s x1 x2 x3 x4 = (t, r)) : State.Canonical t := by
  have := wf_readImage (s := s) (x1 := x1) (x2 := x2) (x3 := x3) (x4 := x4) h
  rw [e] at this
  exact this

theorem wf_addEntry {s : State} {x1 : ℕ} {x2 : ℕ} {x3 : PoolEntry} (h : State.Canonical s) : State.Canonical (State.addEntry s x1 x2 x3) := by
  unfold State.addEntry
  repeat' first | with_reducible assumption | simp only [wf_mk] | with_reducible apply And.intro | with_reducible apply wf_mem | with_reducible apply wf_cores

theorem wf_actKernel {s : State} {x1 : Active} {x2 : Submission} {x3 : Region} {x4 : Bool} (h : State.Canonical s) : State.Canonical (State.actKernel s x1 x2 x3 x4) := by
  unfold State.actKernel
  refine wf_ite (wf_refuseActive h) (wf_ite (wf_refuseActive h) ?_)
  have hr : State.Canonical (s.readImage x1.req.part x2.asid (nodeWord x1.w 4) (fieldOf (nodeWord x1.w 5) 31 0)).1 := wf_readImage h
  generalize s.readImage x1.req.part x2.asid (nodeWord x1.w 4) (fieldOf (nodeWord x1.w 5) 31 0) = r at hr ⊢
  obtain ⟨t, x⟩ := r
  cases x with
  | none => exact wf_refuseActive hr
  | some x =>
    exact wf_ite (wf_refuseActive hr) (wf_ite (wf_completeNode hr) (wf_ite hr (wf_ite (wf_refuseActive (wf_updRegion (wf_changeRegion hr)))
      (wf_ite (wf_refuseActive (wf_updRegion (wf_putNodeState (wf_changeRegion hr)))) (wf_addEntry (wf_putNodeState (wf_changeRegion hr)))))))


theorem wf_joinRegion {s : State} {x1 : Region} {x2 : ℕ} {x3 : Option Region} (h : State.Canonical s) : State.Canonical (State.joinRegion s x1 x2 x3).1 := by
  unfold State.joinRegion
  repeat' first | with_reducible assumption | with_reducible apply wf_iteP | with_reducible apply wf_putRegion | with_reducible apply wf_cpWrite | with_reducible apply wf_updRegion | simp only [wf_mk] | with_reducible apply And.intro | with_reducible apply wf_mem | with_reducible apply wf_cores | split

theorem wf_joinRegion_eq {s : State} {x1 : Region} {x2 : ℕ} {x3 : Option Region} {t : State} {r} (h : State.Canonical s) (e : State.joinRegion s x1 x2 x3 = (t, r)) : State.Canonical t := by
  have := wf_joinRegion (s := s) (x1 := x1) (x2 := x2) (x3 := x3) h
  rw [e] at this
  exact this

theorem wf_openRegion {s : State} {x1 : ℕ} {x2 : BitVec 14} {x3 : ℕ} {x4 : BitVec 64} (h : State.Canonical s) : State.Canonical (State.openRegion s x1 x2 x3 x4).1 := by
  induction x3 generalizing s x4 with
  | zero => exact h
  | succ n ih =>
  unfold State.openRegion
  repeat' first | with_reducible assumption | with_reducible apply wf_iteP | with_reducible apply wf_cpBlock | with_reducible apply wf_tryClose | with_reducible apply wf_joinRegion | with_reducible apply wf_waits | with_reducible apply ih | simp only [wf_mk] | split

theorem wf_openRegion_eq {s : State} {x1 : ℕ} {x2 : BitVec 14} {x3 : ℕ} {x4 : BitVec 64} {t : State} {r} (h : State.Canonical s) (e : State.openRegion s x1 x2 x3 x4 = (t, r)) : State.Canonical t := by
  have := wf_openRegion (s := s) (x1 := x1) (x2 := x2) (x3 := x3) (x4 := x4) h
  rw [e] at this
  exact this

theorem wf_setActive {s : State} {x1 : Active} {x2 : Active} (h : State.Canonical s) : State.Canonical (State.setActive s x1 x2) := by
  unfold State.setActive
  repeat' first | with_reducible assumption | simp only [wf_mk] | with_reducible apply And.intro | with_reducible apply wf_mem | with_reducible apply wf_cores

theorem wf_nodeAct {s : State} {x1 : Active} {x2 : Submission} {x3 : Bool} (h : State.Canonical s) : State.Canonical (State.nodeAct s x1 x2 x3) := by
  unfold State.nodeAct
  repeat' first | with_reducible assumption | with_reducible apply wf_ite | with_reducible apply wf_iteP | with_reducible apply wf_openRegion | with_reducible apply wf_refuseActive | with_reducible apply wf_setActive | with_reducible apply wf_putNodeState | with_reducible apply wf_actKernel | with_reducible apply wf_cpBlock | with_reducible apply wf_completeNode | with_reducible apply wf_cpWrite | with_reducible apply wf_cpAdd | with_reducible apply wf_post | simp only [wf_mk] | split

theorem wf_admitHeld {s : State} {x1 : ℕ} {x2 : ℕ} (h : State.Canonical s) : State.Canonical (State.admitHeld s x1 x2) := by
  induction x2 generalizing s with
  | zero => exact h
  | succ n ih =>
  unfold State.admitHeld
  repeat' first | with_reducible assumption | with_reducible apply wf_ite | with_reducible apply wf_nodeAct | with_reducible apply ih | simp only [wf_mk] | with_reducible apply And.intro | with_reducible apply wf_mem | with_reducible apply wf_cores | split

theorem wf_admitFull {s : State} {x1 : ℕ} (h : State.Canonical s) : State.Canonical (State.admitFull s x1) := by
  unfold State.admitFull
  repeat' first | with_reducible assumption | with_reducible apply wf_admitHeld

theorem wf_dropRounds {s : State} (h : State.Canonical s) : State.Canonical (State.dropRounds s) := by
  unfold State.dropRounds
  repeat' first | with_reducible assumption | simp only [wf_mk] | with_reducible apply And.intro | with_reducible apply wf_mem | with_reducible apply wf_cores

theorem wf_spinePut {s : State} {x1 : ℕ} {x2 : ℕ} {x3 : ℕ} (h : State.Canonical s) : State.Canonical (State.spinePut s x1 x2 x3) := by
  unfold State.spinePut
  repeat' first | with_reducible assumption | with_reducible apply wf_put

theorem wf_lowerQlen {s : State} {x1 : BitVec 6} (h : State.Canonical s) : State.Canonical (State.lowerQlen s x1) := by
  unfold State.lowerQlen
  repeat' first | with_reducible assumption | simp only [wf_mk] | with_reducible apply And.intro | with_reducible apply wf_mem | with_reducible apply wf_cores

theorem wf_endSubmission {s : State} {x1 : BitVec 6} (h : State.Canonical s) : State.Canonical (State.endSubmission s x1) := by
  unfold State.endSubmission
  repeat' first | with_reducible assumption | with_reducible apply wf_ite | with_reducible apply wf_iteP | with_reducible apply wf_cpAdd | with_reducible apply wf_post | with_reducible apply wf_spinePut | with_reducible apply wf_lowerQlen | simp only [wf_mk] | with_reducible apply And.intro | with_reducible apply wf_mem | with_reducible apply wf_cores | split

theorem wf_startNode {s : State} {x1 : Request} {x2 : ℕ} (h : State.Canonical s) : State.Canonical (State.startNode s x1 x2) := by
  unfold State.startNode
  repeat' first | with_reducible assumption | with_reducible apply wf_ite | with_reducible apply wf_putNodeState | with_reducible apply wf_nodeAct | with_reducible apply wf_refuseActive | simp only [wf_mk] | with_reducible apply And.intro | with_reducible apply wf_mem | with_reducible apply wf_cores | split

theorem wf_handleDue {s : State} {x1 : Due} (h : State.Canonical s) : State.Canonical (State.handleDue s x1) := by
  unfold State.handleDue
  repeat' first | with_reducible assumption | with_reducible apply wf_ite | with_reducible apply wf_tryClose | with_reducible apply wf_settleNode | with_reducible apply wf_refuseNode | with_reducible apply wf_cpBlock | with_reducible apply wf_startNode | simp only [wf_mk] | split

theorem wf_handleRequest {s : State} {x1 : Request} (h : State.Canonical s) : State.Canonical (State.handleRequest s x1) := by
  unfold State.handleRequest
  repeat' first | with_reducible assumption | with_reducible apply wf_ite | with_reducible apply wf_iteP | with_reducible apply wf_cpBlock | with_reducible apply wf_cpWrite | with_reducible apply wf_refuseNode | with_reducible apply wf_startNode | with_reducible apply wf_waits | simp only [wf_mk] | with_reducible apply And.intro | with_reducible apply wf_mem | with_reducible apply wf_cores | split

theorem wf_startSubmission {s : State} {x1 : BitVec 6} (h : State.Canonical s) : State.Canonical (State.startSubmission s x1) := by
  unfold State.startSubmission
  repeat' first | with_reducible assumption | with_reducible apply wf_ite | with_reducible apply wf_waits | with_reducible apply wf_spineConsumes | with_reducible apply wf_spinePut | with_reducible apply wf_refuseNode | with_reducible apply wf_request | simp only [wf_mk] | with_reducible apply And.intro | with_reducible apply wf_mem | with_reducible apply wf_cores | split

theorem wf_updWave {s : State} {x1 : ℕ} {x2 : BitVec 64} {x3 : Wave → Wave} (h : State.Canonical s) : State.Canonical (State.updWave s x1 x2 x3) := by
  unfold State.updWave
  repeat' first | with_reducible assumption | simp only [wf_mk] | with_reducible apply And.intro | with_reducible apply wf_mem | with_reducible apply wf_cores

theorem wf_tasksGone {s : State} {x1 : ℕ} {x2 : BitVec 64} {x3 : ℕ} (h : State.Canonical s) : State.Canonical (State.tasksGone s x1 x2 x3) := by
  unfold State.tasksGone
  repeat' first | with_reducible assumption | with_reducible apply wf_ite | with_reducible apply wf_updRegion | with_reducible apply wf_updWave | with_reducible apply wf_dropRounds | with_reducible apply wf_admitFull | with_reducible apply wf_completeNode | with_reducible apply wf_tryClose | simp only [wf_mk] | with_reducible apply And.intro | with_reducible apply wf_mem | with_reducible apply wf_cores | split

theorem wf_updUp {s : State} {x1 : ℕ} {x2 : BitVec 14} {x3 : Region → Region} {x4 : ℕ} {x5 : BitVec 64} (h : State.Canonical s) : State.Canonical (State.updUp s x1 x2 x3 x4 x5) := by
  induction x4 generalizing s x2 x5 with
  | zero => exact h
  | succ n ih =>
  unfold State.updUp
  repeat' first | with_reducible assumption | with_reducible apply wf_ite | with_reducible apply wf_updRegion | with_reducible apply ih | simp only [wf_mk] | split

theorem wf_stopTask {s : State} {x1 : Binding} {x2 : BitVec 16} (h : State.Canonical s) : State.Canonical (State.stopTask s x1 x2) := by
  unfold State.stopTask
  repeat' first | with_reducible assumption | with_reducible apply wf_updCores

theorem wf_failWave {s : State} {x1 : ℕ} {x2 : BitVec 64} {x3 : Bool} (h : State.Canonical s) : State.Canonical (State.failWave s x1 x2 x3) := by
  unfold State.failWave
  repeat' first | with_reducible assumption | with_reducible apply wf_updSub | split

theorem wf_endRec {s : State} {x1 : TaskRec} {x2 : BitVec 16} (h : State.Canonical s) : State.Canonical (State.endRec s x1 x2) := by
  unfold State.endRec
  repeat' first | with_reducible assumption | with_reducible apply wf_ite | with_reducible apply wf_fenceRan | with_reducible apply wf_post | simp only [wf_mk] | with_reducible apply And.intro | with_reducible apply wf_mem | with_reducible apply wf_cores

theorem wf_killRecs {s : State} {x1 : List TaskRec} {x2 : BitVec 16} (h : State.Canonical s) : State.Canonical (State.killRecs s x1 x2).1 := by
  unfold State.killRecs
  repeat' first | with_reducible assumption | with_reducible apply wf_iteP | with_reducible apply wf_endRec | with_reducible apply wf_foldlP | simp only [wf_mk] | with_reducible apply And.intro | with_reducible apply wf_mem | with_reducible apply wf_cores | (intro t _ ht)

theorem wf_killRecs_eq {s : State} {x1 : List TaskRec} {x2 : BitVec 16} {t : State} {r} (h : State.Canonical s) (e : State.killRecs s x1 x2 = (t, r)) : State.Canonical t := by
  have := wf_killRecs (s := s) (x1 := x1) (x2 := x2) h
  rw [e] at this
  exact this

theorem wf_killUnbound {s : State} {x1 : Wave} {x2 : BitVec 16} (h : State.Canonical s) : State.Canonical (State.killUnbound s x1 x2) := by
  unfold State.killUnbound
  repeat' first | with_reducible assumption | with_reducible apply wf_ite | with_reducible apply wf_killRecs | with_reducible apply wf_post | with_reducible apply wf_updWave | with_reducible apply wf_tasksGone | with_reducible apply wf_foldl | simp only [wf_mk] | with_reducible apply And.intro | with_reducible apply wf_mem | with_reducible apply wf_cores | (intro t _ ht)

theorem wf_killTask {s : State} {x1 : Binding} {x2 : BitVec 16} (h : State.Canonical s) : State.Canonical (State.killTask s x1 x2) := by
  unfold State.killTask
  repeat' first | with_reducible assumption | with_reducible apply wf_ite | with_reducible apply wf_stopTask | with_reducible apply wf_failWave | with_reducible apply wf_killUnbound | with_reducible apply wf_completeNode | with_reducible apply wf_updWave | with_reducible apply wf_admitFull | with_reducible apply wf_foldl | (intro t _ ht) | split

theorem wf_killCore {s : State} {x1 : BitVec 8} {x2 : BitVec 16} (h : State.Canonical s) : State.Canonical (State.killCore s x1 x2) := by
  unfold State.killCore
  repeat' first | with_reducible assumption | with_reducible apply wf_killTask | split

theorem wf_consume {s : State} {x1 : BitVec 8} {x2 : ℕ} {x3 : ℕ} {x4 : ℕ} (h : State.Canonical s) : State.Canonical (State.consume s x1 x2 x3 x4) := by
  unfold State.consume
  repeat' first | with_reducible assumption | with_reducible apply wf_ite | with_reducible apply wf_takeFree | with_reducible apply wf_updCore | with_reducible apply wf_killCore | with_reducible apply wf_coreError

theorem wf_killAway {s : State} {x1 : ℕ} {x2 : BitVec 64} {x3 : ℕ} {x4 : BitVec 16} (h : State.Canonical s) : State.Canonical (State.killAway s x1 x2 x3 x4) := by
  unfold State.killAway
  repeat' first | with_reducible assumption | with_reducible apply wf_ite | with_reducible apply wf_killRecs | with_reducible apply wf_failWave | with_reducible apply wf_tasksGone | with_reducible apply wf_killTask | simp only [wf_mk] | with_reducible apply And.intro | with_reducible apply wf_mem | with_reducible apply wf_cores | split

theorem wf_walkPoison {s : State} {x1 : BitVec 8} {x2 : ℕ} (h : State.Canonical s) : State.Canonical (State.walkPoison s x1 x2) := by
  unfold State.walkPoison
  repeat' first | with_reducible assumption | with_reducible apply wf_killCore | with_reducible apply wf_logError

theorem wf_corePut {s : State} {x1 : BitVec 8} {x2 : ℕ} {x3 : ℕ} {x4 : ℕ} (h : State.Canonical s) : State.Canonical (State.corePut s x1 x2 x3 x4) := by
  unfold State.corePut
  apply wf_foldl _ h
  intro t x ht
  generalize t.xlateCore x1 .readWrite x.1 = r
  match r with
  | .ok (.stack pa) => exact wf_ite ht (wf_put ht)
  | .held => exact wf_waits ht
  | .stopped pa => exact wf_gateStops ht
  | .ok (.fabric _ _) => exact ht
  | .fault _ => exact ht
  | .poison _ => exact ht


theorem wf_reportTrap {s : State} {x1 : BitVec 8} {x2 : Trap} {x3 : BitVec 64} (h : State.Canonical s) : State.Canonical (State.reportTrap s x1 x2 x3) := by
  unfold State.reportTrap
  repeat' first | with_reducible assumption | with_reducible apply wf_setCore | with_reducible apply wf_corePut | simp only [wf_mk] | split

theorem wf_trapKill {s : State} {x1 : BitVec 8} {x2 : Trap} {x3 : BitVec 64} (h : State.Canonical s) : State.Canonical (State.trapKill s x1 x2 x3) := by
  unfold State.trapKill
  repeat' first | with_reducible assumption | with_reducible apply wf_reportTrap | with_reducible apply wf_killTask | split

theorem wf_deferFault {s : State} {x1 : BitVec 8} {x2 : Deferred} (h : State.Canonical s) : State.Canonical (State.deferFault s x1 x2) := by
  unfold State.deferFault
  repeat' first | with_reducible assumption | with_reducible apply wf_ite | with_reducible apply wf_trapKill | with_reducible apply wf_setCore

theorem wf_finishTrap {s : State} {x1 : BitVec 8} {x2 : Trap} {x3 : BitVec 64} (h : State.Canonical s) : State.Canonical (State.finishTrap s x1 x2 x3) := by
  unfold State.finishTrap
  repeat' first | with_reducible assumption | with_reducible apply wf_ite | with_reducible apply wf_consume | with_reducible apply wf_setCore | with_reducible apply wf_trapKill

theorem wf_takeTrap {s : State} {x1 : BitVec 8} {x2 : Trap} {x3 : BitVec 64} (h : State.Canonical s) : State.Canonical (State.takeTrap s x1 x2 x3) := by
  unfold State.takeTrap
  repeat' first | with_reducible assumption | with_reducible apply wf_ite | with_reducible apply wf_finishTrap | with_reducible apply wf_setCore

theorem wf_bundleConsumes {s : State} {x1 : BitVec 8} {x2 : ℕ} {x3 : ℕ} {x4 : ℕ} (h : State.Canonical s) : State.Canonical (State.bundleConsumes s x1 x2 x3 x4) := by
  unfold State.bundleConsumes
  repeat' first | with_reducible assumption | with_reducible apply wf_ite | with_reducible apply wf_consume | with_reducible apply wf_updCore

theorem wf_withPeers {s : State} {x1 : BitVec 8} {x2 : State → State} (hf : ∀ t, State.Canonical t → State.Canonical (x2 t)) (h : State.Canonical s) : State.Canonical (State.withPeers s x1 x2) :=
  wf_ite (hf _ (wf_foldl (fun _ _ h => wf_reportTrap (wf_updCore h)) h)) (hf _ h)

theorem wf_raiseAfter {s : State} {x1 : BitVec 8} {x2 : Trap} (h : State.Canonical s) : State.Canonical (State.raiseAfter s x1 x2) := by
  unfold State.raiseAfter
  repeat' first | with_reducible assumption | with_reducible apply wf_ite | with_reducible apply wf_setCore | with_reducible apply wf_withPeers | with_reducible apply wf_takeTrap | (intro t ht)

theorem wf_raiseTrap {s : State} {x1 : BitVec 8} {x2 : Trap} (h : State.Canonical s) : State.Canonical (State.raiseTrap s x1 x2) := by
  unfold State.raiseTrap
  repeat' first | with_reducible assumption | with_reducible apply wf_ite | with_reducible apply wf_setCore | with_reducible apply wf_withPeers | with_reducible apply wf_takeTrap | (intro t ht)

theorem wf_skipRemoved {s : State} {x1 : BitVec 8} {x2 : ℕ} (h : State.Canonical s) : State.Canonical (State.skipRemoved s x1 x2) := by
  induction x2 generalizing s with
  | zero => exact h
  | succ n ih =>
  unfold State.skipRemoved
  repeat' first | with_reducible assumption | with_reducible apply wf_updCore | with_reducible apply ih | split

theorem wf_contribute {x0 : Instr} {x1 : State → Core → SlotOut} {s : State} (h : State.Canonical s) : State.Canonical (contribute x0 x1 s) := by
  unfold contribute
  repeat' first | with_reducible assumption | with_reducible apply wf_ite | with_reducible apply wf_setCore

theorem wf_finishIssue {s : State} (h : State.Canonical s) : State.Canonical (finishIssue s) := by
  unfold finishIssue
  repeat' first | with_reducible assumption | with_reducible apply wf_ite | with_reducible apply wf_raiseTrap | with_reducible apply wf_gateStops | with_reducible apply wf_setCore | with_reducible apply wf_walkPoison | with_reducible apply wf_bundleConsumes | with_reducible apply wf_raiseAfter | with_reducible apply wf_foldl | simp only [wf_mk] | split

theorem wf_issueSlot {x0 : Instr} {x1 : State → Core → SlotOut} {s : State} (h : State.Canonical s) : ∀ t, issueSlot x0 x1 s = .next t → State.Canonical t := by
  unfold issueSlot
  intro t ht
  repeat' first | with_reducible assumption | (injection ht with ht; subst ht) | (split at ht) | dsimp only at ht | with_reducible apply wf_contribute | with_reducible apply wf_finishIssue | with_reducible apply wf_setCore

theorem wf_atSlot {s : State} {x1 : SlotHeader} {x2 : ℕ} (h : State.Canonical s) : State.Canonical (State.atSlot s x1 x2) := by
  unfold State.atSlot
  repeat' first | with_reducible assumption | with_reducible apply wf_updCore

theorem wf_fetchFault {s : State} {x1 : BitVec 8} {x2 : Got} {x3 : BitVec 64} (h : State.Canonical s) : State.Canonical (State.fetchFault s x1 x2 x3) := by
  unfold State.fetchFault
  repeat' first | with_reducible assumption | with_reducible apply wf_raiseTrap | with_reducible apply wf_walkPoison | with_reducible apply wf_consume | with_reducible apply wf_gateStops | with_reducible apply wf_waits | split

theorem wf_beginIssue {s : State} {x1 : BitVec 8} (h : State.Canonical s) : State.Canonical (State.beginIssue s x1).1 := by
  unfold State.beginIssue
  repeat' first | with_reducible assumption | with_reducible apply wf_ite | with_reducible apply wf_iteP | with_reducible apply wf_setCore | with_reducible apply wf_withPeers | with_reducible apply wf_finishTrap | with_reducible apply wf_waits | with_reducible apply wf_raiseTrap | with_reducible apply wf_fetchFault | simp only [wf_mk] | with_reducible apply And.intro | with_reducible apply wf_mem | with_reducible apply wf_cores | (intro t ht) | split

theorem wf_beginIssue_eq {s : State} {x1 : BitVec 8} {t : State} {r} (h : State.Canonical s) (e : State.beginIssue s x1 = (t, r)) : State.Canonical t := by
  have := wf_beginIssue (s := s) (x1 := x1) h
  rw [e] at this
  exact this

theorem wf_execNop {s : State} (h : State.Canonical s) : ∀ t, execNop s = .next t → State.Canonical t := by
  unfold execNop
  intro t ht
  repeat' first | with_reducible assumption | (with_reducible refine wf_issueSlot ?_ _ ht)

theorem wf_execEret {s : State} (h : State.Canonical s) : ∀ t, execEret s = .next t → State.Canonical t := by
  unfold execEret
  intro t ht
  repeat' first | with_reducible assumption | (with_reducible refine wf_issueSlot ?_ _ ht)

theorem wf_execHalt {s : State} (h : State.Canonical s) : ∀ t, execHalt s = .next t → State.Canonical t := by
  unfold execHalt
  intro t ht
  repeat' first | with_reducible assumption | (with_reducible refine wf_issueSlot ?_ _ ht)

theorem wf_execRet {s : State} (h : State.Canonical s) : ∀ t, execRet s = .next t → State.Canonical t := by
  unfold execRet
  intro t ht
  repeat' first | with_reducible assumption | (with_reducible refine wf_issueSlot ?_ _ ht)

theorem wf_setBankAt {s : State} {x1 : ℕ} {x2 : ℕ} {x3 : ℕ} {x4 : Bank} (h : State.Canonical s) : State.Canonical (State.setBankAt s x1 x2 x3 x4) := by
  unfold State.setBankAt
  repeat' first | with_reducible assumption | with_reducible apply wf_updChan

theorem wf_updBankAt {s : State} {x1 : ℕ} {x2 : ℕ} {x3 : ℕ} {x4 : Bank → Bank} (h : State.Canonical s) : State.Canonical (State.updBankAt s x1 x2 x3 x4) := by
  unfold State.updBankAt
  repeat' first | with_reducible assumption | with_reducible apply wf_setBankAt

theorem wf_updLaunchOps {s : State} {x1 : BankLaunch} {x2 : List EngineOp → List EngineOp} (h : State.Canonical s) : State.Canonical (State.updLaunchOps s x1 x2) := by
  unfold State.updLaunchOps
  repeat' first | with_reducible assumption | with_reducible apply wf_updCore | simp only [wf_mk] | with_reducible apply And.intro | with_reducible apply wf_mem | with_reducible apply wf_cores | split

theorem wf_finishLaunch {s : State} {x1 : BankLaunch} {x2 : Option (BitVec 16 × BitVec 64)} (h : State.Canonical s) : State.Canonical (State.finishLaunch s x1 x2) := by
  unfold State.finishLaunch
  repeat' first | with_reducible assumption | with_reducible apply wf_updLaunchOps

theorem wf_endProgram {s : State} {x1 : ℕ} {x2 : ℕ} (h : State.Canonical s) : State.Canonical (State.endProgram s x1 x2) := by
  unfold State.endProgram
  repeat' first | with_reducible assumption | with_reducible apply wf_ite | with_reducible apply wf_updChan | with_reducible apply wf_updUp | with_reducible apply wf_finishLaunch | simp only [wf_mk] | split

theorem wf_colWrite {s : State} {x1 : ℕ} {x2 : ℕ} {x3 : ℕ} {x4 : ℕ} {x5 : ℕ} {x6 : ℕ} {x7 : Bool} (h : State.Canonical s) : State.Canonical (State.colWrite s x1 x2 x3 x4 x5 x6 x7) := by
  unfold State.colWrite
  repeat' first | with_reducible assumption | with_reducible apply wf_ite | with_reducible apply wf_updChan | with_reducible apply wf_dropAsids | simp only [wf_mk] | with_reducible apply And.intro | with_reducible apply wf_mem | with_reducible apply wf_cores | with_reducible apply wf_writeBytes

theorem wf_retireEntry' {s : State} {x1 : ℕ} {x2 : ℕ} {x3 : ℕ} {x4 : CmdEntry} (h : State.Canonical s) : State.Canonical (State.retireEntry' s x1 x2 x3 x4) := by
  unfold State.retireEntry'
  repeat' first | with_reducible assumption | with_reducible apply wf_colWrite | with_reducible apply wf_updChan | split

theorem wf_flushQueue {s : State} {x1 : ℕ} {x2 : ℕ} {x3 : ℕ} (h : State.Canonical s) : State.Canonical (State.flushQueue s x1 x2 x3) := by
  unfold State.flushQueue
  repeat' first | with_reducible assumption | with_reducible apply wf_updBankAt | with_reducible apply wf_retireEntry' | with_reducible apply wf_foldl | (intro t _ ht)

theorem wf_precharge {s : State} {x1 : ℕ} {x2 : ℕ} {x3 : ℕ} {x4 : ℕ} (h : State.Canonical s) : State.Canonical (State.precharge s x1 x2 x3 x4) := by
  unfold State.precharge
  repeat' first | with_reducible assumption | with_reducible apply wf_ite | with_reducible apply wf_setChan | with_reducible apply wf_logError

theorem wf_refreshBank {s : State} {x1 : ℕ} {x2 : ℕ} {x3 : ℕ} (h : State.Canonical s) : State.Canonical (State.refreshBank s x1 x2 x3) := by
  unfold State.refreshBank
  repeat' first | with_reducible assumption | with_reducible apply wf_updChan

theorem wf_closeProgramRow {s : State} {x1 : ℕ} {x2 : ℕ} {x3 : ℕ} (h : State.Canonical s) : State.Canonical (State.closeProgramRow s x1 x2 x3) := by
  unfold State.closeProgramRow
  repeat' first | with_reducible assumption | with_reducible apply wf_updBankAt | with_reducible apply wf_flushQueue | with_reducible apply wf_updChan | with_reducible apply wf_precharge | with_reducible apply wf_refreshBank | simp only [wf_mk] | split

theorem wf_endBank {s : State} {x1 : ℕ} {x2 : ℕ} {x3 : ℕ} (h : State.Canonical s) : State.Canonical (State.endBank s x1 x2 x3) := by
  unfold State.endBank
  repeat' first | with_reducible assumption | with_reducible apply wf_updBankAt | with_reducible apply wf_closeProgramRow

theorem wf_bankFault {s : State} {x1 : ℕ} {x2 : ℕ} {x3 : ℕ} (h : State.Canonical s) : State.Canonical (State.bankFault s x1 x2 x3) := by
  unfold State.bankFault
  repeat' first | with_reducible assumption | with_reducible apply wf_ite | with_reducible apply wf_updChan | with_reducible apply wf_updBankAt | with_reducible apply wf_endProgram | with_reducible apply wf_endBank

theorem wf_beginUop {s : State} {x1 : BitVec 3} {x2 : BitVec 8} {x3 : BitVec 5} (h : State.Canonical s) : State.Canonical (State.beginUop s x1 x2 x3).1 := by
  unfold State.beginUop
  repeat' first | with_reducible assumption | with_reducible apply wf_iteP | with_reducible apply wf_updBankAt | with_reducible apply wf_bankFault | simp only [wf_mk] | with_reducible apply And.intro | with_reducible apply wf_mem | with_reducible apply wf_cores | split

theorem wf_beginUop_eq {s : State} {x1 : BitVec 3} {x2 : BitVec 8} {x3 : BitVec 5} {t : State} {r} (h : State.Canonical s) (e : State.beginUop s x1 x2 x3 = (t, r)) : State.Canonical t := by
  have := wf_beginUop (s := s) (x1 := x1) (x2 := x2) (x3 := x3) h
  rw [e] at this
  exact this

theorem wf_closeRow {s : State} {x1 : ℕ} {x2 : ℕ} {x3 : ℕ} (h : State.Canonical s) : State.Canonical (State.closeRow s x1 x2 x3) := by
  unfold State.closeRow
  repeat' first | with_reducible assumption | with_reducible apply wf_updChan | with_reducible apply wf_precharge | split

theorem wf_colRead {s : State} {x1 : ℕ} {x2 : ℕ} {x3 : ℕ} {x4 : ℕ} {x5 : ℕ} (h : State.Canonical s) : State.Canonical (State.colRead s x1 x2 x3 x4 x5).1 := by
  unfold State.colRead
  repeat' first | with_reducible assumption | with_reducible apply wf_iteP | with_reducible apply wf_takeFree | split

theorem wf_colRead_eq {s : State} {x1 : ℕ} {x2 : ℕ} {x3 : ℕ} {x4 : ℕ} {x5 : ℕ} {t : State} {r} (h : State.Canonical s) (e : State.colRead s x1 x2 x3 x4 x5 = (t, r)) : State.Canonical t := by
  have := wf_colRead (s := s) (x1 := x1) (x2 := x2) (x3 := x3) (x4 := x4) (x5 := x5) h
  rw [e] at this
  exact this

theorem wf_colLatest {s : State} {x1 : ℕ} {x2 : ℕ} {x3 : ℕ} {x4 : ℕ} {x5 : ℕ} (h : State.Canonical s) : State.Canonical (State.colLatest s x1 x2 x3 x4 x5).1 := by
  unfold State.colLatest
  repeat' first | with_reducible assumption | with_reducible apply wf_colRead | split

theorem wf_colLatest_eq {s : State} {x1 : ℕ} {x2 : ℕ} {x3 : ℕ} {x4 : ℕ} {x5 : ℕ} {t : State} {r} (h : State.Canonical s) (e : State.colLatest s x1 x2 x3 x4 x5 = (t, r)) : State.Canonical t := by
  have := wf_colLatest (s := s) (x1 := x1) (x2 := x2) (x3 := x3) (x4 := x4) (x5 := x5) h
  rw [e] at this
  exact this

theorem wf_killLaunch {s : State} {x1 : BankLaunch} {x2 : BitVec 16} (h : State.Canonical s) : State.Canonical (State.killLaunch s x1 x2) := by
  unfold State.killLaunch
  repeat' first | with_reducible assumption | with_reducible apply wf_killCore | with_reducible apply wf_killAway | split

theorem wf_retireHead {s : State} {x1 : ℕ} {x2 : ℕ} {x3 : ℕ} (h : State.Canonical s) : State.Canonical (State.retireHead s x1 x2 x3) := by
  unfold State.retireHead
  repeat' first | with_reducible assumption | with_reducible apply wf_updBankAt | with_reducible apply wf_retireEntry' | split

theorem wf_queueWrite {s : State} {x1 : ℕ} {x2 : ℕ} {x3 : ℕ} {x4 : ℕ} {x5 : ℕ} {x6 : ℕ} {x7 : Bool} (h : State.Canonical s) : State.Canonical (State.queueWrite s x1 x2 x3 x4 x5 x6 x7) := by
  unfold State.queueWrite
  repeat' first | with_reducible assumption | with_reducible apply wf_ite | with_reducible apply wf_retireHead | with_reducible apply wf_updBankAt

theorem wf_activate {s : State} {x1 : ℕ} {x2 : ℕ} {x3 : ℕ} {x4 : Program} (h : State.Canonical s) : State.Canonical (State.activate s x1 x2 x3 x4) := by
  unfold State.activate
  repeat' first | with_reducible assumption | with_reducible apply wf_updChan | with_reducible apply wf_updBankAt

theorem wf_bankConsumes {s : State} {x1 : ℕ} {x2 : ℕ} {x3 : ℕ} {x4 : ℕ} {x5 : ℕ} {x6 : BankLaunch} (h : State.Canonical s) : State.Canonical (State.bankConsumes s x1 x2 x3 x4 x5 x6) := by
  unfold State.bankConsumes
  repeat' first | with_reducible assumption | with_reducible apply wf_killLaunch | with_reducible apply wf_logError | with_reducible apply wf_takeFree

theorem wf_chargeEngine {s : State} {x1 : ℕ} {x2 : ℕ} {x3 : ℕ} (h : State.Canonical s) : State.Canonical (State.chargeEngine s x1 x2 x3) := by
  unfold State.chargeEngine
  repeat' first | with_reducible assumption | with_reducible apply wf_updChan | with_reducible apply wf_updStack

theorem wf_endRow {s : State} {x1 : ℕ} {x2 : ℕ} {x3 : ℕ} {x4 : Program} (h : State.Canonical s) : State.Canonical (State.endRow s x1 x2 x3 x4) := by
  unfold State.endRow
  repeat' first | with_reducible assumption | with_reducible apply wf_updBankAt | with_reducible apply wf_closeProgramRow

theorem wf_tryAct {s : State} {x1 : ℕ} {x2 : ℕ} {x3 : ℕ} {x4 : Program} (h : State.Canonical s) : State.Canonical (State.tryAct s x1 x2 x3 x4) := by
  unfold State.tryAct
  repeat' first | with_reducible assumption | with_reducible apply wf_ite | with_reducible apply wf_endProgram | with_reducible apply wf_endBank | with_reducible apply wf_updBankAt | with_reducible apply wf_activate | split

theorem wf_bankUop {f : State → Nat → Nat → Nat → Program → Bank → State} {s : State} (hf : ∀ k pc b g x, State.Canonical (f s k pc b g x)) (h : State.Canonical s) :
    ∀ t, bankUop f s = .next t → State.Canonical t := by
  unfold bankUop
  intro t ht
  injection ht with ht
  subst ht
  split
  · exact h
  · exact wf_ite h (hf _ _ _ _ _)

theorem wf_joined {x0 : Bool} {f : State → Nat → Nat → Nat → Program → Bank → State} {s : State} (hf : ∀ k pc b g x, State.Canonical (f s k pc b g x)) (h : State.Canonical s) :
    ∀ t, joined x0 f s = .next t → State.Canonical t :=
  wf_bankUop (fun k pc b g x => by
    split
    · exact h
    · exact wf_bankFault h
    · exact hf _ _ _ _ _) h

theorem wf_bankStep {f : Bank → Bank} {s : State} (h : State.Canonical s) : ∀ t, bankStep f s = .next t → State.Canonical t :=
  wf_joined (fun _ _ _ _ _ => wf_setBankAt h) h

theorem wf_execUopAct {s : State} (h : State.Canonical s) : ∀ t, execUopAct s = .next t → State.Canonical t := by
  unfold execUopAct
  intro t ht
  repeat' first | with_reducible assumption | (injection ht with ht; subst ht) | with_reducible apply wf_ite | with_reducible apply wf_bankFault | with_reducible apply wf_closeProgramRow | with_reducible apply wf_closeRow | with_reducible apply wf_tryAct | simp only [wf_mk] | split

theorem wf_laneOp {d : BitVec 2} {rs : List (BitVec 2)} {f : List (BitVec 32) → Bank → Nat → Nat} {s : State} (h : State.Canonical s) :
    ∀ t, laneOp d rs f s = .next t → State.Canonical t :=
  wf_joined (fun _ _ _ _ _ => wf_setBankAt h) h

theorem wf_execUopEnd {s : State} (h : State.Canonical s) : ∀ t, execUopEnd s = .next t → State.Canonical t := by
  unfold execUopEnd
  intro t ht
  repeat' first | with_reducible assumption | (injection ht with ht; subst ht) | with_reducible apply wf_ite | with_reducible apply wf_endProgram | with_reducible apply wf_endBank | simp only [wf_mk] | split

theorem wf_execUopRowend {s : State} (h : State.Canonical s) : ∀ t, execUopRowend s = .next t → State.Canonical t := by
  unfold execUopRowend
  intro t ht
  repeat' first | with_reducible assumption | (injection ht with ht; subst ht) | with_reducible apply wf_ite | with_reducible apply wf_endRow | with_reducible apply wf_bankFault | with_reducible apply wf_setBankAt | simp only [wf_mk] | split

theorem wf_execUopWaits {s : State} (h : State.Canonical s) : ∀ t, execUopWaits s = .next t → State.Canonical t := by
  unfold execUopWaits
  intro t ht
  repeat' first | with_reducible assumption | (injection ht with ht; subst ht) | with_reducible apply wf_ite | with_reducible apply wf_bankFault | with_reducible apply wf_setBankAt | simp only [wf_mk] | split

theorem wf_ahead {s : State} (h : State.Canonical s) : State.Canonical (State.ahead s) := by
  unfold State.ahead
  repeat' first | with_reducible assumption | simp only [wf_mk] | with_reducible apply And.intro | with_reducible apply wf_mem | with_reducible apply wf_cores

theorem wf_updPort {s : State} {x1 : ℕ} {x2 : Port → Port} (h : State.Canonical s) : State.Canonical (State.updPort s x1 x2) := by
  unfold State.updPort
  repeat' first | with_reducible assumption | simp only [wf_mk] | with_reducible apply And.intro | with_reducible apply wf_mem | with_reducible apply wf_cores

theorem wf_sendOn {s : State} {x1 : ℕ} {x2 : ℕ} {x3 : ℕ} (h : State.Canonical s) : State.Canonical (State.sendOn s x1 x2 x3) := by
  unfold State.sendOn
  repeat' first | with_reducible assumption | with_reducible apply wf_updPort

theorem wf_answerFlit {s : State} {x1 : ℕ} {x2 : Option (ℕ × Bool)} {x3 : optParam ℕ 0} (h : State.Canonical s) : State.Canonical (State.answerFlit s x1 x2 x3) := by
  unfold State.answerFlit
  repeat' first | with_reducible assumption | with_reducible apply wf_sendOn | with_reducible apply wf_foldl | simp only [wf_mk] | with_reducible apply And.intro | with_reducible apply wf_mem | with_reducible apply wf_cores | (intro t _ ht)

theorem wf_dropAsk {s : State} {x1 : Requester} (h : State.Canonical s) : State.Canonical (State.dropAsk s x1) := by
  unfold State.dropAsk
  repeat' first | with_reducible assumption | simp only [wf_mk] | with_reducible apply And.intro | with_reducible apply wf_mem | with_reducible apply wf_cores

theorem wf_enter {s : State} {x1 : Requester} {x2 : ℕ × Bool} (h : State.Canonical s) : State.Canonical (State.enter s x1 x2) := by
  unfold State.enter
  repeat' first | with_reducible assumption | with_reducible apply wf_updChan | with_reducible apply wf_updStack

theorem wf_enterAll {s : State} {x1 : Requester} {x2 : ℕ} {x3 : List (ℕ × Bool)} (h : State.Canonical s) : State.Canonical (State.enterAll s x1 x2 x3).1 := by
  induction x3 generalizing s with
  | nil => exact h
  | cons x l ih =>
    unfold State.enterAll
    exact wf_iteP (ih (wf_enter h)) h

theorem wf_enterAll_eq {s : State} {x1 : Requester} {x2 : ℕ} {x3 : List (ℕ × Bool)} {t : State} {r} (h : State.Canonical s) (e : State.enterAll s x1 x2 x3 = (t, r)) : State.Canonical t := by
  have := wf_enterAll (s := s) (x1 := x1) (x2 := x2) (x3 := x3) h
  rw [e] at this
  exact this

theorem wf_setOwn {s : State} {x1 : BitVec 64} (h : State.Canonical s) : State.Canonical (State.setOwn s x1) := by
  unfold State.setOwn
  repeat' first | with_reducible assumption | simp only [wf_mk] | with_reducible apply And.intro | with_reducible apply wf_mem | with_reducible apply wf_cores

theorem wf_releaseDue {s : State} (h : State.Canonical s) : State.Canonical (State.releaseDue s) := by
  unfold State.releaseDue
  repeat' first | with_reducible assumption | with_reducible apply wf_ite | with_reducible apply wf_logError | with_reducible apply wf_setOwn | split

theorem wf_heardFrom {s : State} {x1 : BitVec 12} (h : State.Canonical s) : State.Canonical (State.heardFrom s x1) := by
  unfold State.heardFrom
  repeat' first | with_reducible assumption | with_reducible apply wf_ite | with_reducible apply wf_releaseDue | simp only [wf_mk] | with_reducible apply And.intro | with_reducible apply wf_mem | with_reducible apply wf_cores

theorem wf_farHeard {s : State} {x1 : Ask} (h : State.Canonical s) : State.Canonical (State.farHeard s x1) := by
  unfold State.farHeard
  repeat' first | with_reducible assumption | with_reducible apply wf_ite | with_reducible apply wf_heardFrom | with_reducible apply wf_foldl | (intro t _ ht) | split

theorem wf_gain {s : State} {x1 : ℕ} {x2 : GotCol} (h : State.Canonical s) : State.Canonical (State.gain s x1 x2) := by
  unfold State.gain
  repeat' first | with_reducible assumption | with_reducible apply wf_ite | with_reducible apply wf_updCore | simp only [wf_mk] | with_reducible apply And.intro | with_reducible apply wf_mem | with_reducible apply wf_cores

theorem wf_hearFar {s : State} {x1 : Ask} (h : State.Canonical s) : State.Canonical (State.hearFar s x1) := by
  unfold State.hearFar
  repeat' first | with_reducible assumption | with_reducible apply wf_ite | with_reducible apply wf_farHeard | simp only [wf_mk] | with_reducible apply And.intro | with_reducible apply wf_mem | with_reducible apply wf_cores

theorem wf_retryAsk {s : State} {x1 : Ask} (h : State.Canonical s) : State.Canonical (State.retryAsk s x1) := by
  unfold State.retryAsk
  repeat' first | with_reducible assumption | with_reducible apply wf_enterAll | simp only [wf_mk] | with_reducible apply And.intro | with_reducible apply wf_mem | with_reducible apply wf_cores

theorem wf_sendFar {s : State} {x1 : Requester} {x2 : List FarReq} {x3 : List FarReq} (h : State.Canonical s) : State.Canonical (State.sendFar s x1 x2 x3) := by
  unfold State.sendFar
  repeat' first | with_reducible assumption | with_reducible apply wf_sendOn | with_reducible apply wf_foldl | simp only [wf_mk] | with_reducible apply And.intro | with_reducible apply wf_mem | with_reducible apply wf_cores | (intro t _ ht) | split

theorem wf_newAsk {s : State} {x1 : Requester} {x2 : ℕ} {x3 : List (ℕ × Bool)} {x4 : optParam (List FarReq) []} {x5 : optParam (List FarReq) []} (h : State.Canonical s) : State.Canonical (State.newAsk s x1 x2 x3 x4 x5) := by
  unfold State.newAsk
  repeat' first | with_reducible assumption | with_reducible apply wf_ite | with_reducible apply wf_retryAsk | with_reducible apply wf_sendFar | simp only [wf_mk] | with_reducible apply And.intro | with_reducible apply wf_mem | with_reducible apply wf_cores

theorem wf_retryAsks {s : State} (h : State.Canonical s) : State.Canonical (State.retryAsks s) := by
  unfold State.retryAsks
  repeat' first | with_reducible assumption | with_reducible apply wf_ite | with_reducible apply wf_retryAsk | with_reducible apply wf_foldl | (intro t _ ht)

theorem wf_sendNext {s : State} {x1 : Ask} (h : State.Canonical s) : State.Canonical (State.sendNext s x1) := by
  unfold State.sendNext
  repeat' first | with_reducible assumption | with_reducible apply wf_ite | with_reducible apply wf_sendFar

theorem wf_servedAsk {s : State} {x1 : Requester} {x2 : ℕ} (h : State.Canonical s) : State.Canonical (State.servedAsk s x1 x2) := by
  unfold State.servedAsk
  repeat' first | with_reducible assumption | simp only [wf_mk] | with_reducible apply And.intro | with_reducible apply wf_mem | with_reducible apply wf_cores

theorem wf_underWindows {s : State} {x1 : FMap WindowEntry} {x2 : State → State} (hf : ∀ t, State.Canonical t → State.Canonical (x2 t)) (h : State.Canonical s) :
    State.Canonical (State.underWindows s x1 x2) := hf { s with ctl := { s.ctl with win := x1 } } h

theorem wf_underAsk {s : State} {x1 : Ask} {x2 : State → State} (hf : ∀ t, State.Canonical t → State.Canonical (x2 t)) (h : State.Canonical s) : State.Canonical (State.underAsk s x1 x2) := by
  have e := wf_underWindows (s := { s with inp := { s.inp with aborts := x1.aborts s.ns, flag2 := x1.over s.ns && !x1.lost } }) (x1 := x1.win) hf h
  exact e

theorem wf_withColumns {s : State} {x1 : Requester} {x2 x3 : ℕ} {x4 x5 : List (PAddr × ℕ)} {x6 : State → State} (hf : ∀ t, State.Canonical t → State.Canonical (x6 t))
    (h : State.Canonical s) : State.Canonical (State.withColumns s x1 x2 x3 x4 x5 x6) := by
  unfold State.withColumns
  split
  · exact wf_ite (wf_retryAsk (wf_hearFar h)) (wf_ite (wf_sendNext h) (wf_underAsk hf (wf_dropAsk (wf_farHeard h))))
  · exact wf_ite (hf _ h) (wf_newAsk h)

theorem wf_traffic {s : State} {x1 : ℕ} {x2 : PAddr} {x3 : Bool} {x4 : Bool} (h : State.Canonical s) : State.Canonical (State.traffic s x1 x2 x3 x4) := wf_ite h (wf_withColumns (fun _ h => wf_gain h) h)


theorem wf_withAccess {s : State} {x1 : BitVec 8} {x2 x3 x4 : ℕ} {x5 x6 : List Spot} {x7 : State → State} (hf : ∀ t, State.Canonical t → State.Canonical (x7 t))
    (h : State.Canonical s) : State.Canonical (State.withAccess s x1 x2 x3 x4 x5 x6 x7) :=
  wf_ite (wf_withColumns hf h) (wf_ite h (wf_ite h (wf_withColumns hf h)))

theorem wf_arrivals {s : State} {x1 : BitVec 8} {x2 : EngineOp} (h : State.Canonical s) : State.Canonical (State.arrivals s x1 x2) := by
  unfold State.arrivals
  repeat' first | with_reducible assumption | with_reducible apply wf_ite | with_reducible apply wf_updCore | with_reducible apply wf_foldl | simp only [wf_mk] | (intro t _ ht)

theorem wf_engineLost {s : State} {x1 : BitVec 8} {x2 : ℕ} {x3 : PAddr} (h : State.Canonical s) : State.Canonical (State.engineLost s x1 x2 x3) := by
  unfold State.engineLost
  repeat' first | with_reducible assumption | with_reducible apply wf_ite | with_reducible apply wf_killCore | with_reducible apply wf_coreError | split

theorem wf_beaconAdd {s : State} {x1 : BitVec 8} {x2 : EngineOp} {x3 : PAddr} {x4 : ℕ} (h : State.Canonical s) : State.Canonical (State.beaconAdd s x1 x2 x3 x4).1 := by
  unfold State.beaconAdd
  repeat' first | with_reducible assumption | with_reducible apply wf_ite | with_reducible apply wf_iteP | with_reducible apply wf_addAt | with_reducible apply wf_engineLost | with_reducible apply wf_consume

theorem wf_beaconAdd_eq {s : State} {x1 : BitVec 8} {x2 : EngineOp} {x3 : PAddr} {x4 : ℕ} {t : State} {r} (h : State.Canonical s) (e : State.beaconAdd s x1 x2 x3 x4 = (t, r)) : State.Canonical t := by
  have := wf_beaconAdd (s := s) (x1 := x1) (x2 := x2) (x3 := x3) (x4 := x4) h
  rw [e] at this
  exact this

theorem wf_beacon {s : State} {x1 : BitVec 8} {x2 : EngineOp} (h : State.Canonical s) : State.Canonical (State.beacon s x1 x2).1 := by
  unfold State.beacon
  repeat' first | with_reducible assumption | with_reducible apply wf_ite | with_reducible apply wf_iteP | with_reducible apply wf_setCore | with_reducible apply wf_consume | with_reducible apply wf_gateStops | with_reducible apply wf_waits | with_reducible apply wf_walkPoison | with_reducible apply wf_updCore | with_reducible apply wf_beaconAdd | simp only [wf_mk] | split

theorem wf_beacon_eq {s : State} {x1 : BitVec 8} {x2 : EngineOp} {t : State} {r} (h : State.Canonical s) (e : State.beacon s x1 x2 = (t, r)) : State.Canonical t := by
  have := wf_beacon (s := s) (x1 := x1) (x2 := x2) h
  rw [e] at this
  exact this

theorem wf_leaveOp {s : State} {x1 : BitVec 8} {x2 : EngineOp} {x3 : EngFault} (h : State.Canonical s) : State.Canonical (State.leaveOp s x1 x2 x3) := by
  unfold State.leaveOp
  repeat' first | with_reducible assumption | with_reducible apply wf_updCore | with_reducible apply wf_arrivals | with_reducible apply wf_deferFault | simp only [wf_mk] | split

theorem wf_completeOp {s : State} {x1 : BitVec 8} {x2 : EngineOp} {x3 : EngFault} (h : State.Canonical s) : State.Canonical (State.completeOp s x1 x2 x3) := by
  unfold State.completeOp
  repeat' first | with_reducible assumption | with_reducible apply wf_ite | with_reducible apply wf_leaveOp | with_reducible apply wf_beacon | with_reducible apply wf_updCore | simp only [wf_mk] | split

theorem wf_placeBlk {s : State} {x1 : ℕ} {x2 : PAddr} {x3 : ℕ} (h : State.Canonical s) : State.Canonical (State.placeBlk s x1 x2 x3).1 := by
  unfold State.placeBlk
  repeat' first | with_reducible assumption | with_reducible apply wf_iteP | with_reducible apply wf_gateStops | with_reducible apply wf_sawArray | simp only [wf_mk] | split

theorem wf_placeBlk_eq {s : State} {x1 : ℕ} {x2 : PAddr} {x3 : ℕ} {t : State} {r} (h : State.Canonical s) (e : State.placeBlk s x1 x2 x3 = (t, r)) : State.Canonical t := by
  have := wf_placeBlk (s := s) (x1 := x1) (x2 := x2) (x3 := x3) h
  rw [e] at this
  exact this

theorem wf_globalBlk {s : State} {x1 : BitVec 8} {x2 : ℕ} {x3 : ℕ} {x4 : ℕ} (h : State.Canonical s) : State.Canonical (State.globalBlk s x1 x2 x3 x4).1 := by
  unfold State.globalBlk
  repeat' first | with_reducible assumption | (with_reducible refine wf_placeBlk_eq ?_ ‹_ = _›) | with_reducible apply wf_engineLost | with_reducible apply wf_gateStops | with_reducible apply wf_waits | with_reducible apply wf_walkPoison | with_reducible apply wf_foldlP | simp only [wf_mk] | (intro t _ ht) | split

theorem wf_globalBlk_eq {s : State} {x1 : BitVec 8} {x2 : ℕ} {x3 : ℕ} {x4 : ℕ} {t : State} {r} (h : State.Canonical s) (e : State.globalBlk s x1 x2 x3 x4 = (t, r)) : State.Canonical t := by
  have := wf_globalBlk (s := s) (x1 := x1) (x2 := x2) (x3 := x3) (x4 := x4) h
  rw [e] at this
  exact this

theorem wf_putFlit {s : State} {x1 : ℕ} {x2 : ℕ} {x3 : ℕ} {x4 : ℕ} {x5 : Bool} (h : State.Canonical s) : State.Canonical (State.putFlit s x1 x2 x3 x4 x5) := by
  unfold State.putFlit
  repeat' first | with_reducible assumption | with_reducible apply wf_ite | with_reducible apply wf_physWrite | with_reducible apply wf_foldl | (intro t _ ht)

theorem wf_putPlace {s : State} {x1 : ℕ} {x2 : PAddr} {x3 : ℕ} {x4 : Blk} (h : State.Canonical s) : State.Canonical (State.putPlace s x1 x2 x3 x4).1 := by
  unfold State.putPlace
  repeat' first | with_reducible assumption | with_reducible apply wf_iteP | with_reducible apply wf_gateStops | with_reducible apply wf_putFlit | with_reducible apply wf_foldlP | simp only [wf_mk] | (intro t _ ht) | split

theorem wf_putPlace_eq {s : State} {x1 : ℕ} {x2 : PAddr} {x3 : ℕ} {x4 : Blk} {t : State} {r} (h : State.Canonical s) (e : State.putPlace s x1 x2 x3 x4 = (t, r)) : State.Canonical t := by
  have := wf_putPlace (s := s) (x1 := x1) (x2 := x2) (x3 := x3) (x4 := x4) h
  rw [e] at this
  exact this

theorem wf_globalPut {s : State} {x1 : BitVec 8} {x2 : ℕ} {x3 : ℕ} {x4 : ℕ} {x5 : Blk} (h : State.Canonical s) : State.Canonical (State.globalPut s x1 x2 x3 x4 x5).1 := by
  unfold State.globalPut
  repeat' first | with_reducible assumption | with_reducible apply wf_ite | with_reducible apply wf_iteP | with_reducible apply wf_putPlace | with_reducible apply wf_engineLost | with_reducible apply wf_gateStops | with_reducible apply wf_waits | with_reducible apply wf_walkPoison | with_reducible apply wf_foldlP | simp only [wf_mk] | (intro t _ ht) | split

theorem wf_globalPut_eq {s : State} {x1 : BitVec 8} {x2 : ℕ} {x3 : ℕ} {x4 : ℕ} {x5 : Blk} {t : State} {r} (h : State.Canonical s) (e : State.globalPut s x1 x2 x3 x4 x5 = (t, r)) : State.Canonical t := by
  have := wf_globalPut (s := s) (x1 := x1) (x2 := x2) (x3 := x3) (x4 := x4) (x5 := x5) h
  rw [e] at this
  exact this

theorem wf_globalRowPut {s : State} {x1 : BitVec 8} {x2 : ℕ} {x3 : ℕ} {x4 : Blk} (h : State.Canonical s) : State.Canonical (State.globalRowPut s x1 x2 x3 x4).1 := by
  unfold State.globalRowPut
  repeat' first | with_reducible assumption | with_reducible apply wf_iteP | with_reducible apply wf_walkPoison | with_reducible apply wf_gateStops | with_reducible apply wf_waits | with_reducible apply wf_globalPut | simp only [wf_mk] | split

theorem wf_globalRowPut_eq {s : State} {x1 : BitVec 8} {x2 : ℕ} {x3 : ℕ} {x4 : Blk} {t : State} {r} (h : State.Canonical s) (e : State.globalRowPut s x1 x2 x3 x4 = (t, r)) : State.Canonical t := by
  have := wf_globalRowPut (s := s) (x1 := x1) (x2 := x2) (x3 := x3) (x4 := x4) h
  rw [e] at this
  exact this

theorem wf_spaceBlk {s : State} {x1 : BitVec 8} {x2 : EngineOp} {x3 : ℕ} {x4 : ℕ} {x5 : ℕ} {x6 : ℕ} (h : State.Canonical s) : State.Canonical (State.spaceBlk s x1 x2 x3 x4 x5 x6).1 := by
  unfold State.spaceBlk
  repeat' first | with_reducible assumption | with_reducible apply wf_iteP | with_reducible apply wf_globalBlk

theorem wf_spaceBlk_eq {s : State} {x1 : BitVec 8} {x2 : EngineOp} {x3 : ℕ} {x4 : ℕ} {x5 : ℕ} {x6 : ℕ} {t : State} {r} (h : State.Canonical s) (e : State.spaceBlk s x1 x2 x3 x4 x5 x6 = (t, r)) : State.Canonical t := by
  have := wf_spaceBlk (s := s) (x1 := x1) (x2 := x2) (x3 := x3) (x4 := x4) (x5 := x5) (x6 := x6) h
  rw [e] at this
  exact this

theorem wf_spacePut {s : State} {x1 : BitVec 8} {x2 : ℕ} {x3 : ℕ} {x4 : ℕ} {x5 : ℕ} {x6 : Blk} (h : State.Canonical s) : State.Canonical (State.spacePut s x1 x2 x3 x4 x5 x6).1 := by
  unfold State.spacePut
  repeat' first | with_reducible assumption | with_reducible apply wf_iteP | with_reducible apply wf_globalPut | with_reducible apply wf_updCore

theorem wf_spacePut_eq {s : State} {x1 : BitVec 8} {x2 : ℕ} {x3 : ℕ} {x4 : ℕ} {x5 : ℕ} {x6 : Blk} {t : State} {r} (h : State.Canonical s) (e : State.spacePut s x1 x2 x3 x4 x5 x6 = (t, r)) : State.Canonical t := by
  have := wf_spacePut (s := s) (x1 := x1) (x2 := x2) (x3 := x3) (x4 := x4) (x5 := x5) (x6 := x6) h
  rw [e] at this
  exact this

theorem wf_putRow {s : State} {x1 : BitVec 8} {x2 : EngineOp} {x3 : ℕ} {x4 : ℕ} {x5 : ℕ} {x6 : Blk} {x7 : List (ℕ × ℕ)} {x8 : EngFault} (h : State.Canonical s) : State.Canonical (State.putRow s x1 x2 x3 x4 x5 x6 x7 x8).1 := by
  unfold State.putRow
  repeat' first | with_reducible assumption | with_reducible apply wf_spacePut | with_reducible apply wf_foldlP | simp only [wf_mk] | (intro t _ ht)

theorem wf_putRow_eq {s : State} {x1 : BitVec 8} {x2 : EngineOp} {x3 : ℕ} {x4 : ℕ} {x5 : ℕ} {x6 : Blk} {x7 : List (ℕ × ℕ)} {x8 : EngFault} {t : State} {r} (h : State.Canonical s) (e : State.putRow s x1 x2 x3 x4 x5 x6 x7 x8 = (t, r)) : State.Canonical t := by
  have := wf_putRow (s := s) (x1 := x1) (x2 := x2) (x3 := x3) (x4 := x4) (x5 := x5) (x6 := x6) (x7 := x7) (x8 := x8) h
  rw [e] at this
  exact this

theorem wf_moveRows {s : State} {x1 : BitVec 8} {x2 : EngineOp} {x3 : CopyDesc} {x4 : ℕ} {x5 : ℕ} {x6 : List (ℕ × ℕ)} (h : State.Canonical s) : State.Canonical (State.moveRows s x1 x2 x3 x4 x5 x6).1 := by
  unfold State.moveRows
  repeat' first | with_reducible assumption | with_reducible apply wf_spaceBlk | with_reducible apply wf_putRow | with_reducible apply wf_foldlR | simp only [wf_mk] | (intro t _ ht)

theorem wf_moveRows_eq {s : State} {x1 : BitVec 8} {x2 : EngineOp} {x3 : CopyDesc} {x4 : ℕ} {x5 : ℕ} {x6 : List (ℕ × ℕ)} {t : State} {r} (h : State.Canonical s) (e : State.moveRows s x1 x2 x3 x4 x5 x6 = (t, r)) : State.Canonical t := by
  have := wf_moveRows (s := s) (x1 := x1) (x2 := x2) (x3 := x3) (x4 := x4) (x5 := x5) (x6 := x6) h
  rw [e] at this
  exact this

theorem wf_runCopy {s : State} {x1 : BitVec 8} {x2 : EngineOp} (h : State.Canonical s) : State.Canonical (State.runCopy s x1 x2).1 := by
  unfold State.runCopy
  repeat' first | with_reducible assumption | with_reducible apply wf_spacePut | with_reducible apply wf_globalBlk | with_reducible apply wf_globalPut | with_reducible apply wf_moveRows | with_reducible apply wf_foldlP | simp only [wf_mk] | (intro t _ ht) | split

theorem wf_runCopy_eq {s : State} {x1 : BitVec 8} {x2 : EngineOp} {t : State} {r} (h : State.Canonical s) (e : State.runCopy s x1 x2 = (t, r)) : State.Canonical t := by
  have := wf_runCopy (s := s) (x1 := x1) (x2 := x2) h
  rw [e] at this
  exact this

theorem wf_mulRow {s : State} {x1 : BitVec 8} {x2 : EngineOp} {x3 : ℕ} (h : State.Canonical s) : State.Canonical (State.mulRow s x1 x2 x3) := by
  unfold State.mulRow
  repeat' first | with_reducible assumption | with_reducible apply wf_setCore

theorem wf_decodePlane {s : State} {x1 : BitVec 8} {x2 : EngineOp} (h : State.Canonical s) : State.Canonical (State.decodePlane s x1 x2) := by
  unfold State.decodePlane
  repeat' first | with_reducible assumption | with_reducible apply wf_setCore

theorem wf_moveTile {s : State} {x1 : BitVec 8} {x2 : EngineOp} (h : State.Canonical s) : State.Canonical (State.moveTile s x1 x2) := by
  unfold State.moveTile
  repeat' first | with_reducible assumption | with_reducible apply wf_updCore

theorem wf_bagWork {s : State} {x1 : BitVec 8} {x2 : EngineOp} (h : State.Canonical s) : State.Canonical (State.bagWork s x1 x2) := by
  unfold State.bagWork
  repeat' first | with_reducible assumption | with_reducible apply wf_mulRow | with_reducible apply wf_setCore | with_reducible apply wf_decodePlane | with_reducible apply wf_moveTile | with_reducible apply wf_foldl | simp only [wf_mk] | (intro t _ ht) | split

theorem wf_readEntry {s : State} {x1 : BitVec 8} {x2 : EngineOp} {x3 : ℕ} (h : State.Canonical s) : State.Canonical (State.readEntry s x1 x2 x3).1 := by
  unfold State.readEntry
  repeat' first | with_reducible assumption | with_reducible apply wf_iteP | with_reducible apply wf_spaceBlk | with_reducible apply wf_consume | simp only [wf_mk] | split

theorem wf_readEntry_eq {s : State} {x1 : BitVec 8} {x2 : EngineOp} {x3 : ℕ} {t : State} {r} (h : State.Canonical s) (e : State.readEntry s x1 x2 x3 = (t, r)) : State.Canonical t := by
  have := wf_readEntry (s := s) (x1 := x1) (x2 := x2) (x3 := x3) h
  rw [e] at this
  exact this

theorem wf_listEntry {s : State} {x1 : BitVec 8} {x2 : EngineOp} {x3 : ℕ} (h : State.Canonical s) : State.Canonical (State.listEntry s x1 x2 x3).1 := by
  unfold State.listEntry
  repeat' first | with_reducible assumption | with_reducible apply wf_readEntry | split

theorem wf_listEntry_eq {s : State} {x1 : BitVec 8} {x2 : EngineOp} {x3 : ℕ} {t : State} {r} (h : State.Canonical s) (e : State.listEntry s x1 x2 x3 = (t, r)) : State.Canonical t := by
  have := wf_listEntry (s := s) (x1 := x1) (x2 := x2) (x3 := x3) h
  rw [e] at this
  exact this

theorem wf_gatherWalk {s : State} {x1 : BitVec 8} {x2 : EngineOp} {x3 : ℕ} (h : State.Canonical s) : State.Canonical (State.gatherWalk s x1 x2 x3).1 := by
  unfold State.gatherWalk
  repeat' first | with_reducible assumption | with_reducible apply wf_iteP | with_reducible apply wf_waits | with_reducible apply wf_updCore | simp only [wf_mk] | split

theorem wf_gatherWalk_eq {s : State} {x1 : BitVec 8} {x2 : EngineOp} {x3 : ℕ} {t : State} {r} (h : State.Canonical s) (e : State.gatherWalk s x1 x2 x3 = (t, r)) : State.Canonical t := by
  have := wf_gatherWalk (s := s) (x1 := x1) (x2 := x2) (x3 := x3) h
  rw [e] at this
  exact this

theorem wf_rowPart {s : State} {x1 : BitVec 8} {x2 : EngineOp} {x3 : ℕ} {x4 : ℕ} {x5 : ℕ} (h : State.Canonical s) : State.Canonical (State.rowPart s x1 x2 x3 x4 x5).1 := by
  unfold State.rowPart
  repeat' first | with_reducible assumption | with_reducible apply wf_gatherWalk | with_reducible apply wf_walkPoison | with_reducible apply wf_gateStops | with_reducible apply wf_waits | (with_reducible refine wf_placeBlk_eq ?_ ‹_ = _›) | with_reducible apply wf_engineLost | simp only [wf_mk] | split

theorem wf_rowPart_eq {s : State} {x1 : BitVec 8} {x2 : EngineOp} {x3 : ℕ} {x4 : ℕ} {x5 : ℕ} {t : State} {r} (h : State.Canonical s) (e : State.rowPart s x1 x2 x3 x4 x5 = (t, r)) : State.Canonical t := by
  have := wf_rowPart (s := s) (x1 := x1) (x2 := x2) (x3 := x3) (x4 := x4) (x5 := x5) h
  rw [e] at this
  exact this

theorem wf_globalRow {s : State} {x1 : BitVec 8} {x2 : EngineOp} {x3 : ℕ} {x4 : ℕ} {x5 : ℕ} (h : State.Canonical s) : State.Canonical (State.globalRow s x1 x2 x3 x4 x5).1 := by
  unfold State.globalRow
  repeat' first | with_reducible assumption | with_reducible apply wf_rowPart | with_reducible apply wf_foldlP | simp only [wf_mk] | (intro t _ ht)

theorem wf_globalRow_eq {s : State} {x1 : BitVec 8} {x2 : EngineOp} {x3 : ℕ} {x4 : ℕ} {x5 : ℕ} {t : State} {r} (h : State.Canonical s) (e : State.globalRow s x1 x2 x3 x4 x5 = (t, r)) : State.Canonical t := by
  have := wf_globalRow (s := s) (x1 := x1) (x2 := x2) (x3 := x3) (x4 := x4) (x5 := x5) h
  rw [e] at this
  exact this

theorem wf_gatherRow {s : State} {x1 : BitVec 8} {x2 : EngineOp} {x3 : ℕ} (h : State.Canonical s) : State.Canonical (State.gatherRow s x1 x2 x3) := by
  unfold State.gatherRow
  repeat' first | with_reducible assumption | with_reducible apply wf_ite | with_reducible apply wf_listEntry | with_reducible apply wf_updCore | with_reducible apply wf_globalRow | simp only [wf_mk] | split

theorem wf_walkList {s : State} {x1 : BitVec 8} {x2 : EngineOp} (h : State.Canonical s) : State.Canonical (State.walkList s x1 x2) := by
  unfold State.walkList
  repeat' first | with_reducible assumption | with_reducible apply wf_ite | with_reducible apply wf_gatherWalk | with_reducible apply wf_foldl | simp only [wf_mk] | (intro t _ ht) | split

theorem wf_readList {s : State} {x1 : BitVec 8} {x2 : EngineOp} (h : State.Canonical s) : State.Canonical (State.readList s x1 x2) := by
  unfold State.readList
  repeat' first | with_reducible assumption | with_reducible apply wf_ite | with_reducible apply wf_readEntry | with_reducible apply wf_updCore | with_reducible apply wf_walkList | with_reducible apply wf_foldlP | simp only [wf_mk] | (intro t _ ht)

theorem wf_runScat {s : State} {x1 : BitVec 8} {x2 : EngineOp} (h : State.Canonical s) : State.Canonical (State.runScat s x1 x2).1 := by
  unfold State.runScat
  repeat' first | with_reducible assumption | with_reducible apply wf_iteP | with_reducible apply wf_listEntry | with_reducible apply wf_globalRowPut | with_reducible apply wf_spacePut | with_reducible apply wf_foldlR | simp only [wf_mk] | (intro t _ ht) | split

theorem wf_runScat_eq {s : State} {x1 : BitVec 8} {x2 : EngineOp} {t : State} {r} (h : State.Canonical s) (e : State.runScat s x1 x2 = (t, r)) : State.Canonical t := by
  have := wf_runScat (s := s) (x1 := x1) (x2 := x2) h
  rw [e] at this
  exact this

theorem wf_updRound {s : State} {x1 : ℕ} {x2 : ℕ} {x3 : ℕ} {x4 : Round → Round} (h : State.Canonical s) : State.Canonical (State.updRound s x1 x2 x3 x4) := by
  unfold State.updRound
  repeat' first | with_reducible assumption | simp only [wf_mk] | with_reducible apply And.intro | with_reducible apply wf_mem | with_reducible apply wf_cores

theorem wf_finishPackets {s : State} {x1 : ℕ} {x2 : List Packet} {x3 : EngFault} (h : State.Canonical s) : State.Canonical (State.finishPackets s x1 x2 x3) := by
  unfold State.finishPackets
  repeat' first | with_reducible assumption | with_reducible apply wf_updCore | with_reducible apply wf_completeOp | with_reducible apply wf_foldl | simp only [wf_mk] | (intro t _ ht) | split

theorem wf_abandon {s : State} {x1 : Round} (h : State.Canonical s) : State.Canonical (State.abandon s x1) := by
  unfold State.abandon
  repeat' first | with_reducible assumption | with_reducible apply wf_updRound | with_reducible apply wf_finishPackets

theorem wf_abandonDue {s : State} {x1 : ℕ} {x2 : ℕ} {x3 : ℕ} (h : State.Canonical s) : State.Canonical (State.abandonDue s x1 x2 x3) := by
  unfold State.abandonDue
  repeat' first | with_reducible assumption | with_reducible apply wf_ite | with_reducible apply wf_abandon | split

theorem wf_dropRound {s : State} {x1 : ℕ} {x2 : ℕ} {x3 : ℕ} {x4 : ℕ} (h : State.Canonical s) : State.Canonical (State.dropRound s x1 x2 x3 x4) := by
  unfold State.dropRound
  repeat' first | with_reducible assumption | simp only [wf_mk] | with_reducible apply And.intro | with_reducible apply wf_mem | with_reducible apply wf_cores

theorem wf_closeRound {s : State} {x1 : ℕ} {x2 : ℕ} {x3 : ℕ} {x4 : ℕ} {x5 : Packet} (h : State.Canonical s) : State.Canonical (State.closeRound s x1 x2 x3 x4 x5) := by
  unfold State.closeRound
  repeat' first | with_reducible assumption | with_reducible apply wf_ite | with_reducible apply wf_dropRound | with_reducible apply wf_finishPackets | with_reducible apply wf_updRound | simp only [wf_mk] | split

theorem wf_rootWrite {s : State} {x1 : ℕ} {x2 : ℕ} {x3 : Round} {x4 : Packet} {x5 : List (BitVec 32)} {x6 : FFlags} (h : State.Canonical s) : State.Canonical (State.rootWrite s x1 x2 x3 x4 x5 x6) := by
  unfold State.rootWrite
  repeat' first | with_reducible assumption | with_reducible apply wf_walkPoison | with_reducible apply wf_gateStops | with_reducible apply wf_waits | with_reducible apply wf_engineLost | with_reducible apply wf_globalPut | with_reducible apply wf_finishPackets | with_reducible apply wf_updCore | with_reducible apply wf_dropRound | with_reducible apply wf_updRound | simp only [wf_mk] | split

theorem wf_finishRoot {s : State} {x1 : ℕ} {x2 : ℕ} {x3 : Round} {x4 : Packet} (h : State.Canonical s) : State.Canonical (State.finishRoot s x1 x2 x3 x4) := by
  unfold State.finishRoot
  repeat' first | with_reducible assumption | with_reducible apply wf_withAccess | with_reducible apply wf_rootWrite | simp only [wf_mk] | (intro t ht)

theorem wf_tryRoot {s : State} {x1 : ℕ} {x2 : ℕ} {x3 : ℕ} {x4 : ℕ} (h : State.Canonical s) : State.Canonical (State.tryRoot s x1 x2 x3 x4) := by
  unfold State.tryRoot
  repeat' first | with_reducible assumption | with_reducible apply wf_ite | with_reducible apply wf_finishRoot | split

theorem wf_combinePoison {s : State} {x1 : ℕ} {x2 : ℕ} {x3 : Round} {x4 : List ℕ} (h : State.Canonical s) : State.Canonical (State.combinePoison s x1 x2 x3 x4) := by
  unfold State.combinePoison
  repeat' first | with_reducible assumption | with_reducible apply wf_ite | with_reducible apply wf_consume

theorem wf_combine {s : State} {x1 : ℕ} {x2 : ℕ} {x3 : ℕ} {x4 : ℕ} (h : State.Canonical s) : State.Canonical (State.combine s x1 x2 x3 x4) := by
  unfold State.combine
  repeat' first | with_reducible assumption | with_reducible apply wf_ite | with_reducible apply wf_abandon | with_reducible apply wf_tryRoot | with_reducible apply wf_updRound | with_reducible apply wf_combinePoison | simp only [wf_mk] | split

theorem wf_enterRound {s : State} {x1 : ℕ} {x2 : ℕ} {x3 : ℕ} {x4 : Packet} (h : State.Canonical s) : State.Canonical (State.enterRound s x1 x2 x3 x4) := by
  unfold State.enterRound
  repeat' first | with_reducible assumption | with_reducible apply wf_ite | with_reducible apply wf_abandonDue | with_reducible apply wf_updRound | simp only [wf_mk] | with_reducible apply And.intro | with_reducible apply wf_mem | with_reducible apply wf_cores

theorem wf_sendPacket {s : State} {x1 : BitVec 8} {x2 : EngineOp} (h : State.Canonical s) : State.Canonical (State.sendPacket s x1 x2) := by
  unfold State.sendPacket
  repeat' first | with_reducible assumption | with_reducible apply wf_ite | with_reducible apply wf_consume | with_reducible apply wf_closeRound | with_reducible apply wf_enterRound | with_reducible apply wf_updCore

theorem wf_execRoundTimeout {s : State} (h : State.Canonical s) : ∀ t, execRoundTimeout s = .next t → State.Canonical t := by
  unfold execRoundTimeout
  intro t ht
  repeat' first | with_reducible assumption | (injection ht with ht; subst ht) | with_reducible apply wf_abandonDue

theorem wf_execRpkRoundCombine {s : State} (h : State.Canonical s) : ∀ t, execRpkRoundCombine s = .next t → State.Canonical t := by
  unfold execRpkRoundCombine
  intro t ht
  repeat' first | with_reducible assumption | (injection ht with ht; subst ht) | with_reducible apply wf_combine

theorem wf_streamRow {s : State} {x1 : BitVec 8} {x2 : EngineOp} {x3 : ℕ} (h : State.Canonical s) : State.Canonical (State.streamRow s x1 x2 x3) := by
  unfold State.streamRow
  repeat' first | with_reducible assumption | with_reducible apply wf_ite | with_reducible apply wf_updCore | with_reducible apply wf_consume

theorem wf_residueFault {s : State} {x1 : BitVec 8} (h : State.Canonical s) : State.Canonical (State.residueFault s x1) := by
  unfold State.residueFault
  repeat' first | with_reducible assumption | with_reducible apply wf_ite | with_reducible apply wf_updCore | with_reducible apply wf_killCore | with_reducible apply wf_coreError

theorem wf_startBag {s : State} {x1 : BitVec 8} {x2 : EngineOp} (h : State.Canonical s) : State.Canonical (State.startBag s x1 x2) := by
  unfold State.startBag
  repeat' first | with_reducible assumption | with_reducible apply wf_ite | with_reducible apply wf_updCore | with_reducible apply wf_bagWork | with_reducible apply wf_residueFault | with_reducible apply wf_consume | simp only [wf_mk] | split

theorem wf_bagBegin {s : State} {x1 : BitVec 8} {x2 : ℕ} (h : State.Canonical s) : State.Canonical (State.bagBegin s x1 x2) := by
  unfold State.bagBegin
  repeat' first | with_reducible assumption | with_reducible apply wf_streamRow | with_reducible apply wf_startBag | simp only [wf_mk] | split

theorem wf_endBag {s : State} {x1 : BitVec 8} {x2 : EngineOp} (h : State.Canonical s) : State.Canonical (State.endBag s x1 x2) := by
  unfold State.endBag
  repeat' first | with_reducible assumption | with_reducible apply wf_ite | with_reducible apply wf_withAccess | with_reducible apply wf_completeOp | with_reducible apply wf_residueFault | simp only [wf_mk] | (intro t ht)

theorem wf_bagTick {s : State} {x1 : BitVec 8} {x2 : ℕ} (h : State.Canonical s) : State.Canonical (State.bagTick s x1 x2) := by
  unfold State.bagTick
  repeat' first | with_reducible assumption | with_reducible apply wf_ite | with_reducible apply wf_updCore | with_reducible apply wf_endBag | split

theorem wf_bagCycle {s : State} {x1 : BitVec 8} (h : State.Canonical s) : State.Canonical (State.bagCycle s x1) := by
  unfold State.bagCycle
  repeat' first | with_reducible assumption | with_reducible apply wf_ite | with_reducible apply wf_bagTick | with_reducible apply wf_bagBegin | with_reducible apply wf_foldl | (intro t _ ht)

theorem wf_finishOp {s : State} {x1 : BitVec 8} {x2 : EngineOp} {x3 : ℕ} {x4 : List Spot × List Spot} {x5 : State → State × EngFault}
    (hf : ∀ t, State.Canonical t → State.Canonical (x5 t).1) (h : State.Canonical s) : State.Canonical (State.finishOp s x1 x2 x3 x4 x5) := by
  unfold State.finishOp
  exact wf_withAccess (fun t ht => wf_completeOp (hf t ht)) h

theorem wf_copyDone {s : State} {x1 : BitVec 8} {x2 : EngineOp} (h : State.Canonical s) : State.Canonical (State.copyDone s x1 x2) := by
  unfold State.copyDone
  repeat' first | with_reducible assumption | with_reducible apply wf_finishOp | with_reducible apply wf_runCopy | (intro t ht)

theorem wf_coreCycle {s : State} {x1 : BitVec 8} (h : State.Canonical s) : State.Canonical (State.coreCycle s x1) := by
  unfold State.coreCycle
  repeat' first | with_reducible assumption | with_reducible apply wf_ite | with_reducible apply wf_bagCycle | with_reducible apply wf_setCore

theorem wf_overOp {s : State} {x1 : BitVec 8} {x2 : EngineOp} (h : State.Canonical s) : State.Canonical (State.overOp s x1 x2) := by
  unfold State.overOp
  repeat' first | with_reducible assumption | with_reducible apply wf_ite | with_reducible apply wf_completeOp | with_reducible apply wf_finishOp | simp only [wf_mk] | (intro t ht)

theorem wf_doneOp {s : State} {x1 : BitVec 8} {x2 : EngineOp} (h : State.Canonical s) : State.Canonical (State.doneOp s x1 x2) := by
  unfold State.doneOp
  repeat' first | with_reducible assumption | with_reducible apply wf_ite | with_reducible apply wf_overOp

theorem wf_fillRead {s : State} {x1 : BitVec 8} {x2 : PAddr} (h : State.Canonical s) : State.Canonical (State.fillRead s x1 x2).1 := by
  unfold State.fillRead
  repeat' first | with_reducible assumption | with_reducible apply wf_logError | with_reducible apply wf_placeBlk | split

theorem wf_fillRead_eq {s : State} {x1 : BitVec 8} {x2 : PAddr} {t : State} {r} (h : State.Canonical s) (e : State.fillRead s x1 x2 = (t, r)) : State.Canonical t := by
  have := wf_fillRead (s := s) (x1 := x1) (x2 := x2) h
  rw [e] at this
  exact this

theorem wf_fillBlock {s : State} {x1 : BitVec 8} {x2 : PAddr} (h : State.Canonical s) : State.Canonical (State.fillBlock s x1 x2).1 := by
  unfold State.fillBlock
  repeat' first | with_reducible assumption | (with_reducible refine wf_fillRead_eq ?_ ‹_ = _›) | with_reducible apply wf_engineLost | with_reducible apply wf_coreError | simp only [wf_mk] | split

theorem wf_fillBlock_eq {s : State} {x1 : BitVec 8} {x2 : PAddr} {t : State} {r} (h : State.Canonical s) (e : State.fillBlock s x1 x2 = (t, r)) : State.Canonical t := by
  have := wf_fillBlock (s := s) (x1 := x1) (x2 := x2) h
  rw [e] at this
  exact this

theorem wf_narrow {s : State} {x1 : BitVec 8} {x2 : EngineOp} {x3 : ℕ} {x4 : SbEntry} (h : State.Canonical s) : State.Canonical (State.narrow s x1 x2 x3 x4) := by
  unfold State.narrow
  repeat' first | with_reducible assumption | with_reducible apply wf_ite | with_reducible apply wf_readList | with_reducible apply wf_updCore | simp only [wf_mk] | split

theorem wf_retireEntry {s : State} {x1 : BitVec 8} {x2 : EngineOp} {x3 : ℕ} {x4 : SbEntry} (h : State.Canonical s) : State.Canonical (State.retireEntry s x1 x2 x3 x4) := by
  unfold State.retireEntry
  repeat' first | with_reducible assumption | with_reducible apply wf_ite | with_reducible apply wf_updCore | with_reducible apply wf_sendPacket | with_reducible apply wf_readList | with_reducible apply wf_narrow

theorem wf_scatDone {s : State} {x1 : BitVec 8} {x2 : EngineOp} (h : State.Canonical s) : State.Canonical (State.scatDone s x1 x2) := by
  unfold State.scatDone
  repeat' first | with_reducible assumption | with_reducible apply wf_ite | with_reducible apply wf_withAccess | with_reducible apply wf_readList | with_reducible apply wf_finishOp | with_reducible apply wf_runScat | simp only [wf_mk] | (intro t ht) | split

theorem wf_settleRow {s : State} {x1 : BitVec 8} {x2 : EngineOp} {x3 : ℕ} (h : State.Canonical s) : State.Canonical (State.settleRow s x1 x2 x3) := by
  unfold State.settleRow
  repeat' first | with_reducible assumption | with_reducible apply wf_ite | with_reducible apply wf_withAccess | with_reducible apply wf_readList | with_reducible apply wf_gatherRow | simp only [wf_mk] | (intro t ht) | split

theorem wf_execBagRowStream {s : State} (h : State.Canonical s) : ∀ t, execBagRowStream s = .next t → State.Canonical t := by
  unfold execBagRowStream
  intro t ht
  repeat' first | with_reducible assumption | (injection ht with ht; subst ht) | with_reducible apply wf_ite | with_reducible apply wf_streamRow | split

theorem wf_execCacheFillComplete {s : State} (h : State.Canonical s) : ∀ t, execCacheFillComplete s = .next t → State.Canonical t := by
  unfold execCacheFillComplete
  intro t ht
  repeat' first | with_reducible assumption | (injection ht with ht; subst ht) | with_reducible apply wf_ite | with_reducible apply wf_withAccess | with_reducible apply wf_fillBlock | with_reducible apply wf_updCore | simp only [wf_mk] | (intro t ht) | split

theorem wf_execEngineComplete {s : State} (h : State.Canonical s) : ∀ t, execEngineComplete s = .next t → State.Canonical t := by
  unfold execEngineComplete
  intro t ht
  repeat' first | with_reducible assumption | (injection ht with ht; subst ht) | with_reducible apply wf_ite | with_reducible apply wf_copyDone | with_reducible apply wf_scatDone | with_reducible apply wf_overOp | with_reducible apply wf_doneOp | split

theorem wf_execGatherRowLand {s : State} (h : State.Canonical s) : ∀ t, execGatherRowLand s = .next t → State.Canonical t := by
  unfold execGatherRowLand
  intro t ht
  repeat' first | with_reducible assumption | (injection ht with ht; subst ht) | with_reducible apply wf_ite | with_reducible apply wf_settleRow | split

theorem wf_execMOperationComplete {s : State} (h : State.Canonical s) : ∀ t, execMOperationComplete s = .next t → State.Canonical t := by
  unfold execMOperationComplete
  intro t ht
  repeat' first | with_reducible assumption | (injection ht with ht; subst ht) | with_reducible apply wf_startBag | split

theorem wf_execScoreboardEntryRetire {s : State} (h : State.Canonical s) : ∀ t, execScoreboardEntryRetire s = .next t → State.Canonical t := by
  unfold execScoreboardEntryRetire
  intro t ht
  repeat' first | with_reducible assumption | (injection ht with ht; subst ht) | with_reducible apply wf_updCore | with_reducible apply wf_retireEntry | split

theorem wf_abortReq {s : State} {x1 : BitVec 8} {x2 : MemReq} (h : State.Canonical s) : State.Canonical (State.abortReq s x1 x2) := by
  unfold State.abortReq
  repeat' first | with_reducible assumption | with_reducible apply wf_coreError | with_reducible apply wf_updCore | with_reducible apply wf_killCore | simp only [wf_mk] | split

theorem wf_applyAtomic {s : State} {x1 : BitVec 8} {x2 : MemReq} (h : State.Canonical s) : State.Canonical (State.applyAtomic s x1 x2) := by
  unfold State.applyAtomic
  repeat' first | with_reducible assumption | with_reducible apply wf_ite | with_reducible apply wf_physWrite | with_reducible apply wf_updCore | with_reducible apply wf_gateStops | with_reducible apply wf_consume | simp only [wf_mk] | split

theorem wf_columnError {s : State} {x1 : ℕ} {x2 : ℕ} {x3 : ℕ} {x4 : BitVec 2} (h : State.Canonical s) : State.Canonical (State.columnError s x1 x2 x3 x4) := by
  unfold State.columnError
  repeat' first | with_reducible assumption | with_reducible apply wf_ite | with_reducible apply wf_logError | with_reducible apply wf_updStack | with_reducible apply wf_takeFree | with_reducible apply wf_markDirty | simp only [wf_mk] | with_reducible apply And.intro | with_reducible apply wf_mem | with_reducible apply wf_cores

theorem wf_endAsk {s : State} {x1 : Requester} (h : State.Canonical s) : State.Canonical (State.endAsk s x1) := by
  unfold State.endAsk
  repeat' first | with_reducible assumption | simp only [wf_mk] | with_reducible apply And.intro | with_reducible apply wf_mem | with_reducible apply wf_cores

theorem wf_serveLoad {s : State} {x1 : BitVec 8} {x2 : MemReq} {x3 : ℕ} {x4 : ℕ} {x5 : ℕ} (h : State.Canonical s) : State.Canonical (State.serveLoad s x1 x2 x3 x4 x5) := by
  unfold State.serveLoad
  repeat' first | with_reducible assumption | with_reducible apply wf_ite | with_reducible apply wf_sawArray | with_reducible apply wf_abortReq | with_reducible apply wf_gateStops | with_reducible apply wf_updCore

theorem wf_servePort {s : State} {x1 : BitVec 8} {x2 : MemReq} {x3 : ℕ} {x4 : ℕ} (h : State.Canonical s) : State.Canonical (State.servePort s x1 x2 x3 x4) := by
  unfold State.servePort
  repeat' first | with_reducible assumption | with_reducible apply wf_ite | with_reducible apply wf_serveLoad | with_reducible apply wf_updCore | with_reducible apply wf_physWrite | simp only [wf_mk] | split

theorem wf_servePast {s : State} {x1 : MemReq} {x2 : ℕ} {x3 : ℕ} (h : State.Canonical s) : State.Canonical (State.servePast s x1 x2 x3) := by
  unfold State.servePast
  repeat' first | with_reducible assumption | with_reducible apply wf_physWrite | simp only [wf_mk] | split

theorem wf_serve {s : State} {x1 : ColReq} (h : State.Canonical s) : State.Canonical (State.serve s x1) := by
  unfold State.serve
  repeat' first | with_reducible assumption | with_reducible apply wf_servedAsk | with_reducible apply wf_endAsk | with_reducible apply wf_servePort | with_reducible apply wf_servePast | simp only [wf_mk] | split

theorem wf_command {s : State} {x1 : ℕ} {x2 : ℕ} {x3 : ℕ} {x4 : BitVec 2} (h : State.Canonical s) : State.Canonical (State.command s x1 x2 x3 x4) := by
  unfold State.command
  repeat' first | with_reducible assumption | with_reducible apply wf_ite | with_reducible apply wf_updChan | with_reducible apply wf_columnError | with_reducible apply wf_setChan | with_reducible apply wf_closeRow | with_reducible apply wf_serve | simp only [wf_mk] | split

theorem wf_openWindow {s : State} {x1 : ℕ} {x2 : ℕ} {x3 : ℕ} (h : State.Canonical s) : State.Canonical (State.openWindow s x1 x2 x3) := by
  unfold State.openWindow
  repeat' first | with_reducible assumption | with_reducible apply wf_ite | with_reducible apply wf_refreshBank | with_reducible apply wf_updChan

theorem wf_refreshNow {s : State} {x1 : ℕ} {x2 : ℕ} {x3 : ℕ} (h : State.Canonical s) : State.Canonical (State.refreshNow s x1 x2 x3) := by
  unfold State.refreshNow
  repeat' first | with_reducible assumption | with_reducible apply wf_ite | with_reducible apply wf_refreshBank | with_reducible apply wf_closeRow

theorem wf_resetAbort {s : State} {x1 : BitVec 8} {x2 : MemReq} (h : State.Canonical s) : State.Canonical (State.resetAbort s x1 x2) := by
  unfold State.resetAbort
  repeat' first | with_reducible assumption | with_reducible apply wf_killCore | with_reducible apply wf_coreError | with_reducible apply wf_updCore

theorem wf_resumeBanks {s : State} {x1 : ℕ} (h : State.Canonical s) : State.Canonical (State.resumeBanks s x1) := by
  unfold State.resumeBanks
  repeat' first | with_reducible assumption | with_reducible apply wf_ite | with_reducible apply wf_updChan | with_reducible apply wf_foldl | (intro t _ ht)

theorem wf_sendColumns {s : State} {x1 : BitVec 8} {x2 : MemReq} {x3 : ℕ} (h : State.Canonical s) : State.Canonical (State.sendColumns s x1 x2 x3) := by
  unfold State.sendColumns
  repeat' first | with_reducible assumption | with_reducible apply wf_newAsk | with_reducible apply wf_updCore

theorem wf_sendFabric {s : State} {x1 : BitVec 8} {x2 : MemReq} {x3 : BitVec 12} {x4 : BitVec 52} (h : State.Canonical s) : State.Canonical (State.sendFabric s x1 x2 x3 x4) := by
  unfold State.sendFabric
  repeat' first | with_reducible assumption | with_reducible apply wf_ite | with_reducible apply wf_abortReq | with_reducible apply wf_updCore | with_reducible apply wf_sendOn | simp only [wf_mk] | with_reducible apply And.intro | with_reducible apply wf_mem | with_reducible apply wf_cores | split

theorem wf_sendStack {s : State} {x1 : BitVec 8} {x2 : MemReq} {x3 : ℕ} (h : State.Canonical s) : State.Canonical (State.sendStack s x1 x2 x3) := by
  unfold State.sendStack
  repeat' first | with_reducible assumption | with_reducible apply wf_resetAbort | with_reducible apply wf_abortReq | with_reducible apply wf_logError | with_reducible apply wf_gateStops | with_reducible apply wf_sendColumns | split

theorem wf_execArbitrationWindow {s : State} (h : State.Canonical s) : ∀ t, execArbitrationWindow s = .next t → State.Canonical t := by
  unfold execArbitrationWindow
  intro t ht
  repeat' first | with_reducible assumption | (injection ht with ht; subst ht) | with_reducible apply wf_ite | with_reducible apply wf_updChan | with_reducible apply wf_closeRow | with_reducible apply wf_openWindow

theorem wf_execAtomicHomeApply {s : State} (h : State.Canonical s) : ∀ t, execAtomicHomeApply s = .next t → State.Canonical t := by
  unfold execAtomicHomeApply
  intro t ht
  repeat' first | with_reducible assumption | (injection ht with ht; subst ht) | with_reducible apply wf_ite | with_reducible apply wf_applyAtomic | split

theorem wf_execBdcHeartbeat {s : State} (h : State.Canonical s) : ∀ t, execBdcHeartbeat s = .next t → State.Canonical t := by
  unfold execBdcHeartbeat
  intro t ht
  repeat' first | with_reducible assumption | (injection ht with ht; subst ht) | with_reducible apply wf_updStack

theorem wf_execBudgetInterval {s : State} (h : State.Canonical s) : ∀ t, execBudgetInterval s = .next t → State.Canonical t := by
  intro t ht
  rw [← Host.Outcome.next.inj ht]
  exact wf_foldl (fun _ _ h => wf_resumeBanks (wf_updStack h)) h


theorem wf_execControllerCycle {s : State} (h : State.Canonical s) : ∀ t, execControllerCycle s = .next t → State.Canonical t := by
  unfold execControllerCycle
  intro t ht
  repeat' first | with_reducible assumption | (injection ht with ht; subst ht) | with_reducible apply wf_ite | with_reducible apply wf_retryAsks | with_reducible apply wf_command | split

theorem wf_execOrdinaryRequest {s : State} (h : State.Canonical s) : ∀ t, execOrdinaryRequest s = .next t → State.Canonical t := by
  unfold execOrdinaryRequest
  intro t ht
  repeat' first | with_reducible assumption | (injection ht with ht; subst ht) | with_reducible apply wf_ite | with_reducible apply wf_sendFabric | with_reducible apply wf_sendStack | split

theorem wf_execRefreshDue {s : State} (h : State.Canonical s) : ∀ t, execRefreshDue s = .next t → State.Canonical t := by
  unfold execRefreshDue
  intro t ht
  repeat' first | with_reducible assumption | (injection ht with ht; subst ht) | with_reducible apply wf_ite | with_reducible apply wf_refreshNow | with_reducible apply wf_updChan

theorem wf_execRefreshHandback {s : State} (h : State.Canonical s) : ∀ t, execRefreshHandback s = .next t → State.Canonical t := by
  unfold execRefreshHandback
  intro t ht
  repeat' first | with_reducible assumption | (injection ht with ht; subst ht) | with_reducible apply wf_ite | with_reducible apply wf_resumeBanks | with_reducible apply wf_updStack

theorem wf_execRefreshTakeover {s : State} (h : State.Canonical s) : ∀ t, execRefreshTakeover s = .next t → State.Canonical t := by
  unfold execRefreshTakeover
  intro t ht
  repeat' first | with_reducible assumption | (injection ht with ht; subst ht) | with_reducible apply wf_ite | with_reducible apply wf_logError | with_reducible apply wf_updStack

theorem wf_execRequestAged {s : State} (h : State.Canonical s) : ∀ t, execRequestAged s = .next t → State.Canonical t := by
  unfold execRequestAged
  intro t ht
  repeat' first | with_reducible assumption | (injection ht with ht; subst ht) | with_reducible apply wf_ite | with_reducible apply wf_updChan | split

theorem wf_execPhwait {s : State} (h : State.Canonical s) : ∀ t, execPhwait s = .next t → State.Canonical t := by
  unfold execPhwait
  intro t ht
  repeat' first | with_reducible assumption | (with_reducible refine wf_issueSlot ?_ _ ht)

theorem wf_dropHead {s : State} {x1 : ℕ} {x2 : ℕ} (h : State.Canonical s) : State.Canonical (State.dropHead s x1 x2) := by
  unfold State.dropHead
  repeat' first | with_reducible assumption | with_reducible apply wf_updChan

theorem wf_applyHead {s : State} {x1 : ℕ} {x2 : ℕ} (h : State.Canonical s) : State.Canonical (State.applyHead s x1 x2) := by
  unfold State.applyHead
  repeat' first | with_reducible assumption | with_reducible apply wf_ite | with_reducible apply wf_finishLaunch | with_reducible apply wf_updChan | with_reducible apply wf_dropHead | split

theorem wf_loseLaunch {s : State} {x1 : BankLaunch} (h : State.Canonical s) : State.Canonical (State.loseLaunch s x1) := by
  unfold State.loseLaunch
  repeat' first | with_reducible assumption | with_reducible apply wf_logError | with_reducible apply wf_killLaunch | with_reducible apply wf_updLaunchOps

theorem wf_arrive {s : State} {x1 : ℕ} {x2 : ℕ} {x3 : ℕ} {x4 : BankLaunch} (h : State.Canonical s) : State.Canonical (State.arrive s x1 x2 x3 x4) := by
  unfold State.arrive
  repeat' first | with_reducible assumption | with_reducible apply wf_ite | with_reducible apply wf_loseLaunch | with_reducible apply wf_finishLaunch | with_reducible apply wf_logError | with_reducible apply wf_updChan

theorem wf_placeMarkers {s : State} {x1 : BitVec 8} {x2 : List (ℕ × ℕ)} (h : State.Canonical s) : State.Canonical (State.placeMarkers s x1 x2) := by
  unfold State.placeMarkers
  repeat' first | with_reducible assumption | simp only [wf_mk] | with_reducible apply And.intro | with_reducible apply wf_mem | with_reducible apply wf_cores

theorem wf_startProgram {s : State} {x1 : ℕ} {x2 : ℕ} {x3 : BankLaunch} (h : State.Canonical s) : State.Canonical (State.startProgram s x1 x2 x3) := by
  unfold State.startProgram
  repeat' first | with_reducible assumption | with_reducible apply wf_updUp | with_reducible apply wf_closeRow | with_reducible apply wf_updChan | with_reducible apply wf_foldl | (intro t _ ht)

theorem wf_stopBanks {s : State} {x1 : ℕ} {x2 : ℕ} (h : State.Canonical s) : State.Canonical (State.stopBanks s x1 x2) := by
  unfold State.stopBanks
  repeat' first | with_reducible assumption | with_reducible apply wf_ite | with_reducible apply wf_endBank | with_reducible apply wf_endProgram | with_reducible apply wf_foldl | simp only [wf_mk] | (intro t _ ht) | split

theorem wf_execActAdmit {s : State} (h : State.Canonical s) : ∀ t, execActAdmit s = .next t → State.Canonical t := by
  unfold execActAdmit
  intro t ht
  repeat' first | with_reducible assumption | (injection ht with ht; subst ht) | with_reducible apply wf_ite | with_reducible apply wf_updBankAt | with_reducible apply wf_activate | split

theorem wf_execBankHoldTimeout {s : State} (h : State.Canonical s) : ∀ t, execBankHoldTimeout s = .next t → State.Canonical t := by
  unfold execBankHoldTimeout
  intro t ht
  repeat' first | with_reducible assumption | (injection ht with ht; subst ht) | with_reducible apply wf_ite | with_reducible apply wf_updStack | with_reducible apply wf_updChan | with_reducible apply wf_stopBanks | with_reducible apply wf_finishLaunch | with_reducible apply wf_foldl | simp only [wf_mk] | (intro t _ ht) | split

theorem wf_execBankProgramStart {s : State} (h : State.Canonical s) : ∀ t, execBankProgramStart s = .next t → State.Canonical t := by
  unfold execBankProgramStart
  intro t ht
  repeat' first | with_reducible assumption | (injection ht with ht; subst ht) | with_reducible apply wf_ite | with_reducible apply wf_dropHead | with_reducible apply wf_killLaunch | with_reducible apply wf_finishLaunch | with_reducible apply wf_startProgram | simp only [wf_mk] | split

theorem wf_execBankProgramStop {s : State} (h : State.Canonical s) : ∀ t, execBankProgramStop s = .next t → State.Canonical t := by
  unfold execBankProgramStop
  intro t ht
  repeat' first | with_reducible assumption | (injection ht with ht; subst ht) | with_reducible apply wf_stopBanks

theorem wf_execBankgoBeqRelease {s : State} (h : State.Canonical s) : ∀ t, execBankgoBeqRelease s = .next t → State.Canonical t := by
  unfold execBankgoBeqRelease
  intro t ht
  repeat' first | with_reducible assumption | (injection ht with ht; subst ht) | with_reducible apply wf_ite | with_reducible apply wf_arrive | with_reducible apply wf_updCore | simp only [wf_mk] | split

theorem wf_execBankldApply {s : State} (h : State.Canonical s) : ∀ t, execBankldApply s = .next t → State.Canonical t := by
  unfold execBankldApply
  intro t ht
  repeat' first | with_reducible assumption | (injection ht with ht; subst ht) | with_reducible apply wf_ite | with_reducible apply wf_applyHead | with_reducible apply wf_updCore | with_reducible apply wf_consume | with_reducible apply wf_arrive | simp only [wf_mk] | split

theorem wf_execBfenceMarker {s : State} (h : State.Canonical s) : ∀ t, execBfenceMarker s = .next t → State.Canonical t := by
  unfold execBfenceMarker
  intro t ht
  repeat' first | with_reducible assumption | (injection ht with ht; subst ht) | with_reducible apply wf_updCore | with_reducible apply wf_placeMarkers | split

theorem wf_execWaitsRelease {s : State} (h : State.Canonical s) : ∀ t, execWaitsRelease s = .next t → State.Canonical t := by
  unfold execWaitsRelease
  intro t ht
  repeat' first | with_reducible assumption | (injection ht with ht; subst ht) | with_reducible apply wf_ite | with_reducible apply wf_updChan

theorem wf_dropPolls {s : State} {x1 : BitVec 8} {x2 : ℕ} (h : State.Canonical s) : State.Canonical (State.dropPolls s x1 x2) := by
  unfold State.dropPolls
  repeat' first | with_reducible assumption | simp only [wf_mk] | with_reducible apply And.intro | with_reducible apply wf_mem | with_reducible apply wf_cores

theorem wf_readPoll {s : State} {x1 : BitVec 8} {x2 : PAddr} (h : State.Canonical s) : State.Canonical (State.readPoll s x1 x2) := by
  unfold State.readPoll
  repeat' first | with_reducible assumption | with_reducible apply wf_updCore | with_reducible apply wf_gateStops | split

theorem wf_execBeaconPoll {s : State} (h : State.Canonical s) : ∀ t, execBeaconPoll s = .next t → State.Canonical t := by
  unfold execBeaconPoll
  intro t ht
  repeat' first | with_reducible assumption | (injection ht with ht; subst ht) | with_reducible apply wf_ite | with_reducible apply wf_withAccess | with_reducible apply wf_dropPolls | with_reducible apply wf_readPoll | with_reducible apply wf_waits | (intro t ht) | split

theorem wf_execFreezeTimeout {s : State} (h : State.Canonical s) : ∀ t, execFreezeTimeout s = .next t → State.Canonical t := by
  unfold execFreezeTimeout
  intro t ht
  repeat' first | with_reducible assumption | (injection ht with ht; subst ht) | with_reducible apply wf_ite | with_reducible apply wf_raiseTrap | split

theorem wf_execLandingArrival {s : State} (h : State.Canonical s) : ∀ t, execLandingArrival s = .next t → State.Canonical t := by
  unfold execLandingArrival
  intro t ht
  repeat' first | with_reducible assumption | (injection ht with ht; subst ht) | with_reducible apply wf_ite | with_reducible apply wf_updCore | simp only [wf_mk] | split

theorem wf_execLandingWrite {s : State} (h : State.Canonical s) : ∀ t, execLandingWrite s = .next t → State.Canonical t := by
  unfold execLandingWrite
  intro t ht
  repeat' first | with_reducible assumption | (injection ht with ht; subst ht) | with_reducible apply wf_ite | with_reducible apply wf_setCore | with_reducible apply wf_consume

theorem wf_execLaunchRequestSend {s : State} (h : State.Canonical s) : ∀ t, execLaunchRequestSend s = .next t → State.Canonical t := by
  unfold execLaunchRequestSend
  intro t ht
  repeat' first | with_reducible assumption | (injection ht with ht; subst ht) | with_reducible apply wf_ite | with_reducible apply wf_request | with_reducible apply wf_setCore | with_reducible apply wf_fenceRan | split

theorem wf_execPipelineWriteback {s : State} (h : State.Canonical s) : ∀ t, execPipelineWriteback s = .next t → State.Canonical t := by
  unfold execPipelineWriteback
  intro t ht
  repeat' first | with_reducible assumption | (injection ht with ht; subst ht) | with_reducible apply wf_ite | with_reducible apply wf_updCore

theorem wf_execWaitPark {s : State} (h : State.Canonical s) : ∀ t, execWaitPark s = .next t → State.Canonical t := by
  unfold execWaitPark
  intro t ht
  repeat' first | with_reducible assumption | (injection ht with ht; subst ht) | with_reducible apply wf_ite | with_reducible apply wf_setCore

theorem wf_execWalkComplete {s : State} (h : State.Canonical s) : ∀ t, execWalkComplete s = .next t → State.Canonical t := by
  unfold execWalkComplete
  intro t ht
  repeat' first | with_reducible assumption | (injection ht with ht; subst ht) | with_reducible apply wf_ite | with_reducible apply wf_waits | simp only [wf_mk] | with_reducible apply And.intro | with_reducible apply wf_mem | with_reducible apply wf_cores | split

theorem wf_answer {s : State} {x1 : BitVec 8} {x2 : ℕ} (h : State.Canonical s) : State.Canonical (State.answer s x1 x2) := by
  unfold State.answer
  repeat' first | with_reducible assumption | simp only [wf_mk] | with_reducible apply And.intro | with_reducible apply wf_mem | with_reducible apply wf_cores

theorem wf_refuseBind {s : State} {x1 : BitVec 8} {x2 : ℕ} (h : State.Canonical s) : State.Canonical (State.refuseBind s x1 x2) := by
  unfold State.refuseBind
  repeat' first | with_reducible assumption | with_reducible apply wf_post | with_reducible apply wf_answer

theorem wf_answerDisplace {s : State} {x1 : Binding} {x2 : ℕ} (h : State.Canonical s) : State.Canonical (State.answerDisplace s x1 x2) := by
  unfold State.answerDisplace
  repeat' first | with_reducible assumption | with_reducible apply wf_ite | with_reducible apply wf_answer | with_reducible apply wf_refuseBind | with_reducible apply wf_foldl | (intro t _ ht)

theorem wf_endDying {s : State} {x1 : ℕ} {x2 : BitVec 64} {x3 : ℕ} (h : State.Canonical s) : State.Canonical (State.endDying s x1 x2 x3) := by
  unfold State.endDying
  repeat' first | with_reducible assumption | with_reducible apply wf_tasksGone | with_reducible apply wf_endRec | split

theorem wf_unbind {s : State} {x1 : Binding} (h : State.Canonical s) : State.Canonical (State.unbind s x1) := by
  unfold State.unbind
  repeat' first | with_reducible assumption | with_reducible apply wf_updUp | with_reducible apply wf_dropRounds | with_reducible apply wf_updCore | with_reducible apply wf_foldl | simp only [wf_mk] | with_reducible apply And.intro | with_reducible apply wf_mem | with_reducible apply wf_cores | (intro t _ ht)

theorem wf_freeTask {s : State} {x1 : Binding} (h : State.Canonical s) : State.Canonical (State.freeTask s x1) := by
  unfold State.freeTask
  repeat' first | with_reducible assumption | with_reducible apply wf_tasksGone | with_reducible apply wf_unbind

theorem wf_fenceTask {s : State} {x1 : Binding} {x2 : ℕ} (h : State.Canonical s) : State.Canonical (State.fenceTask s x1 x2) := by
  unfold State.fenceTask
  repeat' first | with_reducible assumption | with_reducible apply wf_fenceRan

theorem wf_endKilled {s : State} {x1 : Binding} {x2 : ℕ} {x3 : BitVec 16} (h : State.Canonical s) : State.Canonical (State.endKilled s x1 x2 x3) := by
  unfold State.endKilled
  repeat' first | with_reducible assumption | with_reducible apply wf_freeTask | with_reducible apply wf_answerDisplace | with_reducible apply wf_post | with_reducible apply wf_fenceTask

theorem wf_endRetired {s : State} {x1 : Binding} {x2 : ℕ} (h : State.Canonical s) : State.Canonical (State.endRetired s x1 x2) := by
  unfold State.endRetired
  repeat' first | with_reducible assumption | with_reducible apply wf_freeTask | with_reducible apply wf_answerDisplace | with_reducible apply wf_post | with_reducible apply wf_fenceTask

theorem wf_sendAway {s : State} {x1 : BitVec 8} {x2 : ℕ × BitVec 64 × ℕ × ℕ} (h : State.Canonical s) : State.Canonical (State.sendAway s x1 x2) := by
  unfold State.sendAway
  repeat' first | with_reducible assumption | simp only [wf_mk] | with_reducible apply And.intro | with_reducible apply wf_mem | with_reducible apply wf_cores

theorem wf_leaveDying {s : State} {x1 : Binding} {x2 : ℕ} {x3 : BitVec 16} (h : State.Canonical s) : State.Canonical (State.leaveDying s x1 x2 x3) := by
  unfold State.leaveDying
  repeat' first | with_reducible assumption | with_reducible apply wf_sendAway | with_reducible apply wf_unbind | with_reducible apply wf_foldl | simp only [wf_mk] | with_reducible apply And.intro | with_reducible apply wf_mem | with_reducible apply wf_cores | (intro t _ ht)

theorem wf_execSlotRecordWrite {s : State} (h : State.Canonical s) : ∀ t, execSlotRecordWrite s = .next t → State.Canonical t := by
  unfold execSlotRecordWrite
  intro t ht
  repeat' first | with_reducible assumption | (injection ht with ht; subst ht) | simp only [wf_mk] | with_reducible apply And.intro | with_reducible apply wf_mem | with_reducible apply wf_cores

theorem wf_execTaskRetire {s : State} (h : State.Canonical s) : ∀ t, execTaskRetire s = .next t → State.Canonical t := by
  unfold execTaskRetire
  intro t ht
  repeat' first | with_reducible assumption | (injection ht with ht; subst ht) | with_reducible apply wf_ite | with_reducible apply wf_endDying | with_reducible apply wf_endRetired | with_reducible apply wf_endKilled | simp only [wf_mk] | split

theorem wf_dropCaches {s : State} {x1 : List ℕ} (h : State.Canonical s) : State.Canonical (State.dropCaches s x1) := by
  unfold State.dropCaches
  repeat' first | with_reducible assumption | simp only [wf_mk] | with_reducible apply And.intro | with_reducible apply wf_mem | with_reducible apply wf_cores

theorem wf_endReset {s : State} {x1 : Binding} (h : State.Canonical s) : State.Canonical (State.endReset s x1) := by
  unfold State.endReset
  repeat' first | with_reducible assumption | with_reducible apply wf_ite | with_reducible apply wf_leaveDying | with_reducible apply wf_answerDisplace | with_reducible apply wf_endKilled | with_reducible apply wf_post | with_reducible apply wf_endRetired | simp only [wf_mk] | split

theorem wf_requeue {s : State} {x1 : ColReq → Option Requester} (h : State.Canonical s) : State.Canonical (State.requeue s x1) := by
  unfold State.requeue
  repeat' first | with_reducible assumption | simp only [wf_mk] | with_reducible apply And.intro | with_reducible apply wf_mem | with_reducible apply wf_cores

theorem wf_passOn {s : State} {x1 : BitVec 8} {x2 : MemReq} (h : State.Canonical s) : State.Canonical (State.passOn s x1 x2) := by
  unfold State.passOn
  repeat' first | with_reducible assumption | with_reducible apply wf_requeue | simp only [wf_mk] | with_reducible apply And.intro | with_reducible apply wf_mem | with_reducible apply wf_cores

theorem wf_passWork {s : State} {x1 : Ask} {x2 : State → State} (hf : ∀ t, State.Canonical t → State.Canonical (x2 t)) (h : State.Canonical s) : State.Canonical (State.passWork s x1 x2) := by
  unfold State.passWork
  have ht := hf { s with asks := s.asks.map fun x => if x.who = x1.who then { x with out := 0, readyAt := 0, spots := [] } else x } h
  extract_lets
  exact wf_mk.2 (wf_requeue (wf_foldl (fun _ _ h => wf_physWrite h) ht))

theorem wf_workTurn {s : State} {x1 : BitVec 8} {x2 : ℕ} (h : State.Canonical s) : State.Canonical (State.workTurn s x1 x2) := by
  unfold State.workTurn
  repeat' first | with_reducible assumption | with_reducible apply wf_ite | with_reducible apply wf_endBag | with_reducible apply wf_tryRoot | (with_reducible refine wf_execEngineComplete ?_ _ ‹_›) | simp only [wf_mk] | with_reducible apply And.intro | with_reducible apply wf_mem | with_reducible apply wf_cores | split

theorem wf_finishSent {s : State} {x1 : BitVec 8} (h : State.Canonical s) : State.Canonical (State.finishSent s x1) := by
  unfold State.finishSent
  repeat' first | with_reducible assumption | with_reducible apply wf_passOn | with_reducible apply wf_applyAtomic | with_reducible apply wf_passWork | with_reducible apply wf_workTurn | with_reducible apply wf_requeue | with_reducible apply wf_updCore | with_reducible apply wf_foldl | simp only [wf_mk] | with_reducible apply And.intro | with_reducible apply wf_mem | with_reducible apply wf_cores | (intro t _ ht) | (intro t ht) | split

theorem wf_loseAsk {s : State} {x1 : ℕ} {x2 : ℕ} {x3 : Ask} (h : State.Canonical s) : State.Canonical (State.loseAsk s x1 x2 x3) := by
  unfold State.loseAsk
  repeat' first | with_reducible assumption | with_reducible apply wf_dropAsk | with_reducible apply wf_killCore | with_reducible apply wf_coreError | with_reducible apply wf_logError | with_reducible apply wf_refuseActive | with_reducible apply wf_answerFlit | with_reducible apply wf_gain | simp only [wf_mk] | with_reducible apply And.intro | with_reducible apply wf_mem | with_reducible apply wf_cores | split

theorem wf_resetCompute {s : State} {x1 : ℕ} (h : State.Canonical s) : State.Canonical (State.resetCompute s x1) := by
  unfold State.resetCompute
  repeat' first | with_reducible assumption | with_reducible apply wf_finishSent | with_reducible apply wf_killTask | with_reducible apply wf_endReset | with_reducible apply wf_dropCaches | with_reducible apply wf_updCores | with_reducible apply wf_foldl | simp only [wf_mk] | with_reducible apply And.intro | with_reducible apply wf_mem | with_reducible apply wf_cores | (intro t _ ht)

theorem wf_resetMemory {s : State} {x1 : ℕ} (h : State.Canonical s) : State.Canonical (State.resetMemory s x1) := by
  unfold State.resetMemory
  repeat' first | with_reducible assumption | with_reducible apply wf_updStack | with_reducible apply wf_updUp | with_reducible apply wf_resetAbort | with_reducible apply wf_loseAsk | with_reducible apply wf_loseLaunch | with_reducible apply wf_foldl | (intro t _ ht)

theorem wf_resetLink {s : State} {x1 : ℕ} (h : State.Canonical s) : State.Canonical (State.resetLink s x1) := by
  unfold State.resetLink
  repeat' first | with_reducible assumption | with_reducible apply wf_loseAsk | with_reducible apply wf_resetAbort | with_reducible apply wf_foldl | simp only [wf_mk] | with_reducible apply And.intro | with_reducible apply wf_mem | with_reducible apply wf_cores | (intro t _ ht) | split

theorem wf_resetBulkhead {s : State} {x1 : ℕ} (h : State.Canonical s) : State.Canonical (State.resetBulkhead s x1) := by
  unfold State.resetBulkhead
  repeat' first | with_reducible assumption | with_reducible apply wf_ite | with_reducible apply wf_resetCompute | with_reducible apply wf_resetMemory | with_reducible apply wf_resetLink | with_reducible apply wf_dropCaches | simp only [wf_mk] | with_reducible apply And.intro | with_reducible apply wf_mem | with_reducible apply wf_cores

theorem wf_smcReset {s : State} {x1 : ℕ} (h : State.Canonical s) : State.Canonical (State.smcReset s x1) := by
  unfold State.smcReset
  repeat' first | with_reducible assumption | with_reducible apply wf_post | with_reducible apply wf_resetBulkhead

theorem wf_execBulkheadReset {s : State} (h : State.Canonical s) : ∀ t, execBulkheadReset s = .next t → State.Canonical t := by
  unfold execBulkheadReset
  intro t ht
  repeat' first | with_reducible assumption | (injection ht with ht; subst ht) | with_reducible apply wf_ite | with_reducible apply wf_smcReset

theorem wf_answerCw {s : State} {x1 : Option (BitVec 64)} (h : State.Canonical s) : State.Canonical (State.answerCw s x1) := by
  unfold State.answerCw
  repeat' first | with_reducible assumption | simp only [wf_mk] | with_reducible apply And.intro | with_reducible apply wf_mem | with_reducible apply wf_cores

theorem wf_access {s : State} {x1 : State → State} (hf : ∀ t, State.Canonical t → State.Canonical (x1 t)) (h : State.Canonical s) : State.Canonical (State.access s x1) :=
  wf_ite h (wf_ite (wf_answerCw h) (hf _ (wf_heardFrom (wf_post (wf_releaseDue h)))))

theorem wf_dropPartition {s : State} {x1 : ℕ} (h : State.Canonical s) : State.Canonical (State.dropPartition s x1) := by
  unfold State.dropPartition
  repeat' first | with_reducible assumption | simp only [wf_mk] | with_reducible apply And.intro | with_reducible apply wf_mem | with_reducible apply wf_cores

theorem wf_endPartition {s : State} {x1 : ℕ} (h : State.Canonical s) : State.Canonical (State.endPartition s x1) := by
  unfold State.endPartition
  repeat' first | with_reducible assumption | with_reducible apply wf_dropPartition | with_reducible apply wf_lowerQlen | with_reducible apply wf_post | with_reducible apply wf_foldl | (intro t _ ht)

theorem wf_openGates {s : State} (h : State.Canonical s) : State.Canonical (State.openGates s) := by
  unfold State.openGates
  repeat' first | with_reducible assumption | with_reducible apply wf_post | simp only [wf_mk] | with_reducible apply And.intro | with_reducible apply wf_mem | with_reducible apply wf_cores

theorem wf_ownerWrite {s : State} {x1 : State → State} (hf : ∀ t, State.Canonical t → State.Canonical (x1 t)) (h : State.Canonical s) : State.Canonical (State.ownerWrite s x1) :=
  wf_access (fun t ht => wf_ite (wf_answerCw (hf t ht)) (wf_answerCw ht)) h

theorem wf_resetOctant {s : State} {x1 : ℕ} (h : State.Canonical s) : State.Canonical (State.resetOctant s x1) := by
  unfold State.resetOctant
  repeat' first | with_reducible assumption | with_reducible apply wf_resetBulkhead | with_reducible apply wf_foldl

theorem wf_streamWrite {s : State} {x1 : ℕ} {x2 : BitVec 64} (h : State.Canonical s) : State.Canonical (State.streamWrite s x1 x2) := by
  unfold State.streamWrite
  repeat' first | with_reducible assumption | with_reducible apply wf_ite | simp only [wf_mk] | with_reducible apply And.intro | with_reducible apply wf_mem | with_reducible apply wf_cores

theorem wf_zeroStack {s : State} {x1 : ℕ} (h : State.Canonical s) : State.Canonical (State.zeroStack s x1) := by
  unfold State.zeroStack
  repeat' first | with_reducible assumption | with_reducible apply wf_updStack | with_reducible apply wf_foldl | simp only [wf_mk] | with_reducible apply And.intro | with_reducible apply wf_mem | with_reducible apply wf_cores | with_reducible apply wf_writeBytes | with_reducible apply mapWf_drop | (intro t _ ht)

theorem wf_execControlWindowWrite {s : State} (h : State.Canonical s) : ∀ t, execControlWindowWrite s = .next t → State.Canonical t := by
  unfold execControlWindowWrite
  intro t ht
  repeat' first | with_reducible assumption | (injection ht with ht; subst ht) | with_reducible apply wf_ite | with_reducible apply wf_access | with_reducible apply wf_answerCw | with_reducible apply wf_ownerWrite | simp only [wf_mk] | with_reducible apply And.intro | with_reducible apply wf_mem | with_reducible apply wf_cores | (intro t ht)

theorem wf_execHandoffWrite {s : State} (h : State.Canonical s) : ∀ t, execHandoffWrite s = .next t → State.Canonical t := by
  unfold execHandoffWrite
  intro t ht
  repeat' first | with_reducible assumption | (injection ht with ht; subst ht) | with_reducible apply wf_ite | with_reducible apply wf_ownerWrite | with_reducible apply wf_setOwn | (intro t ht)

theorem wf_execOwnCompareAndSwap {s : State} (h : State.Canonical s) : ∀ t, execOwnCompareAndSwap s = .next t → State.Canonical t := by
  unfold execOwnCompareAndSwap
  intro t ht
  repeat' first | with_reducible assumption | (injection ht with ht; subst ht) | with_reducible apply wf_ite | with_reducible apply wf_access | with_reducible apply wf_answerCw | with_reducible apply wf_setOwn | simp only [wf_mk] | (intro t ht)

theorem wf_execOwnerTimeout {s : State} (h : State.Canonical s) : ∀ t, execOwnerTimeout s = .next t → State.Canonical t := by
  unfold execOwnerTimeout
  intro t ht
  repeat' first | with_reducible assumption | (injection ht with ht; subst ht) | with_reducible apply wf_releaseDue

theorem wf_execPartitionChangeStep {s : State} (h : State.Canonical s) : ∀ t, execPartitionChangeStep s = .next t → State.Canonical t := by
  unfold execPartitionChangeStep
  intro t ht
  repeat' first | with_reducible assumption | (injection ht with ht; subst ht) | with_reducible apply wf_endPartition | with_reducible apply wf_resetOctant | with_reducible apply wf_zeroStack | with_reducible apply wf_openGates | with_reducible apply wf_foldl | simp only [wf_mk] | with_reducible apply And.intro | with_reducible apply wf_mem | with_reducible apply wf_cores | split

theorem wf_execPceilWrite {s : State} (h : State.Canonical s) : ∀ t, execPceilWrite s = .next t → State.Canonical t := by
  unfold execPceilWrite
  intro t ht
  repeat' first | with_reducible assumption | (injection ht with ht; subst ht) | with_reducible apply wf_ownerWrite | simp only [wf_mk] | with_reducible apply And.intro | with_reducible apply wf_mem | with_reducible apply wf_cores | (intro t ht)

theorem wf_execPtabWrite {s : State} (h : State.Canonical s) : ∀ t, execPtabWrite s = .next t → State.Canonical t := by
  unfold execPtabWrite
  intro t ht
  repeat' first | with_reducible assumption | (injection ht with ht; subst ht) | with_reducible apply wf_ite | with_reducible apply wf_ownerWrite | simp only [wf_mk] | with_reducible apply And.intro | with_reducible apply wf_mem | with_reducible apply wf_cores | (intro t ht)

theorem wf_execRecordClear {s : State} (h : State.Canonical s) : ∀ t, execRecordClear s = .next t → State.Canonical t := by
  unfold execRecordClear
  intro t ht
  repeat' first | with_reducible assumption | (injection ht with ht; subst ht) | with_reducible apply wf_ite | with_reducible apply wf_heardFrom | with_reducible apply wf_setRecord

theorem wf_execStreamWrite {s : State} (h : State.Canonical s) : ∀ t, execStreamWrite s = .next t → State.Canonical t := by
  unfold execStreamWrite
  intro t ht
  repeat' first | with_reducible assumption | (injection ht with ht; subst ht) | with_reducible apply wf_ite | with_reducible apply wf_ownerWrite | with_reducible apply wf_streamWrite | (intro t ht)

theorem wf_execWindowEntryWrite {s : State} (h : State.Canonical s) : ∀ t, execWindowEntryWrite s = .next t → State.Canonical t := by
  unfold execWindowEntryWrite
  intro t ht
  repeat' first | with_reducible assumption | (injection ht with ht; subst ht) | with_reducible apply wf_ownerWrite | simp only [wf_mk] | with_reducible apply And.intro | with_reducible apply wf_mem | with_reducible apply wf_cores | (intro t ht)

theorem wf_admitFlit {s : State} {x1 : ℕ} {x2 : Flit} {x3 : ℕ} {x4 : ℕ} {x5 : Bool} (h : State.Canonical s) : State.Canonical (State.admitFlit s x1 x2 x3 x4 x5) := by
  unfold State.admitFlit
  repeat' first | with_reducible assumption | with_reducible apply wf_newAsk | simp only [wf_mk] | with_reducible apply And.intro | with_reducible apply wf_mem | with_reducible apply wf_cores

theorem wf_portRecord {s : State} {x1 : ℕ} {x2 : ℕ} (h : State.Canonical s) : State.Canonical (State.portRecord s x1 x2) := by
  unfold State.portRecord
  repeat' first | with_reducible assumption | with_reducible apply wf_logError

theorem wf_badFlit {s : State} {x1 : ℕ} (h : State.Canonical s) : State.Canonical (State.badFlit s x1) := by
  unfold State.badFlit
  repeat' first | with_reducible assumption | with_reducible apply wf_updPort | with_reducible apply wf_portRecord

theorem wf_takeFab {s : State} {x1 : ℕ} (h : State.Canonical s) : State.Canonical (State.takeFab s x1) := by
  unfold State.takeFab
  repeat' first | with_reducible assumption | simp only [wf_mk] | with_reducible apply And.intro | with_reducible apply wf_mem | with_reducible apply wf_cores

theorem wf_fabAbort {s : State} {x1 : FabReq} (h : State.Canonical s) : State.Canonical (State.fabAbort s x1) := by
  unfold State.fabAbort
  repeat' first | with_reducible assumption | with_reducible apply wf_takeFab | with_reducible apply wf_abortReq | simp only [wf_mk] | split

theorem wf_fabResponse {s : State} {x1 : FabReq} {x2 : ℕ} (h : State.Canonical s) : State.Canonical (State.fabResponse s x1 x2) := by
  unfold State.fabResponse
  repeat' first | with_reducible assumption | with_reducible apply wf_takeFab | with_reducible apply wf_updCore | simp only [wf_mk] | split

theorem wf_homeConsumes {s : State} {x1 : ℕ} (h : State.Canonical s) : State.Canonical (State.homeConsumes s x1) := by
  unfold State.homeConsumes
  repeat' first | with_reducible assumption | with_reducible apply wf_logError | with_reducible apply wf_takeFree

theorem wf_refuseFlit {s : State} {x1 : ℕ} {x2 : BitVec 12} {x3 : ℕ} {x4 : Judged} (h : State.Canonical s) : State.Canonical (State.refuseFlit s x1 x2 x3 x4) := by
  unfold State.refuseFlit
  repeat' first | with_reducible assumption | with_reducible apply wf_answerFlit | with_reducible apply wf_logError

theorem wf_judgeRequest {s : State} {x1 : ℕ} {x2 : Flit} {x3 : ℕ} {x4 : ℕ} {x5 : Bool} (h : State.Canonical s) : State.Canonical (State.judgeRequest s x1 x2 x3 x4 x5) := by
  unfold State.judgeRequest
  repeat' first | with_reducible assumption | with_reducible apply wf_ite | with_reducible apply wf_answerFlit | with_reducible apply wf_admitFlit | with_reducible apply wf_refuseFlit | simp only [wf_mk] | split

theorem wf_moveFab {s : State} {x1 : ℕ} {x2 : FabReq} (h : State.Canonical s) : State.Canonical (State.moveFab s x1 x2) := by
  unfold State.moveFab
  repeat' first | with_reducible assumption | with_reducible apply wf_ite | with_reducible apply wf_sendOn | simp only [wf_mk] | with_reducible apply And.intro | with_reducible apply wf_mem | with_reducible apply wf_cores

theorem wf_moveFar {s : State} {x1 : ℕ} {x2 : Option ℕ} (h : State.Canonical s) : State.Canonical (State.moveFar s x1 x2) := by
  unfold State.moveFar
  repeat' first | with_reducible assumption | with_reducible apply wf_sendOn | with_reducible apply wf_foldl | simp only [wf_mk] | with_reducible apply And.intro | with_reducible apply wf_mem | with_reducible apply wf_cores | (intro t _ ht) | split

theorem wf_performFlit {s : State} {x1 : ℕ} {x2 : Flit} (h : State.Canonical s) : State.Canonical (State.performFlit s x1 x2) := by
  unfold State.performFlit
  repeat' first | with_reducible assumption | with_reducible apply wf_ite | with_reducible apply wf_refuseFlit | with_reducible apply wf_answerFlit | with_reducible apply wf_sawArray | with_reducible apply wf_physWrite | with_reducible apply wf_homeConsumes | simp only [wf_mk] | split

theorem wf_portDown {s : State} {x1 : ℕ} (h : State.Canonical s) : State.Canonical (State.portDown s x1) := by
  unfold State.portDown
  repeat' first | with_reducible assumption | with_reducible apply wf_updPort | with_reducible apply wf_portRecord | with_reducible apply wf_moveFar | with_reducible apply wf_moveFab | with_reducible apply wf_fabAbort | with_reducible apply wf_foldl | simp only [wf_mk] | (intro t _ ht) | split

theorem wf_takeFlit {s : State} {x1 : ℕ} {x2 : Flit} (h : State.Canonical s) : State.Canonical (State.takeFlit s x1 x2) := by
  unfold State.takeFlit
  repeat' first | with_reducible assumption | with_reducible apply wf_ite | with_reducible apply wf_fabAbort | with_reducible apply wf_fabResponse | with_reducible apply wf_judgeRequest | split

theorem wf_tryFlit {s : State} {x1 : ℕ} (h : State.Canonical s) : State.Canonical (State.tryFlit s x1) := by
  unfold State.tryFlit
  repeat' first | with_reducible assumption | with_reducible apply wf_ite | with_reducible apply wf_performFlit | with_reducible apply wf_dropAsk | with_reducible apply wf_retryAsk | simp only [wf_mk] | with_reducible apply And.intro | with_reducible apply wf_mem | with_reducible apply wf_cores | split

theorem wf_execFabricRequestTimeout {s : State} (h : State.Canonical s) : ∀ t, execFabricRequestTimeout s = .next t → State.Canonical t := by
  unfold execFabricRequestTimeout
  intro t ht
  repeat' first | with_reducible assumption | (injection ht with ht; subst ht) | with_reducible apply wf_ite | with_reducible apply wf_fabAbort | split

theorem wf_execFlitReceive {s : State} (h : State.Canonical s) : ∀ t, execFlitReceive s = .next t → State.Canonical t := by
  unfold execFlitReceive
  intro t ht
  repeat' first | with_reducible assumption | (injection ht with ht; subst ht) | with_reducible apply wf_ite | with_reducible apply wf_tryFlit | with_reducible apply wf_badFlit | with_reducible apply wf_takeFlit | with_reducible apply wf_heardFrom | with_reducible apply wf_updPort

theorem wf_execPortRetrain {s : State} (h : State.Canonical s) : ∀ t, execPortRetrain s = .next t → State.Canonical t := by
  unfold execPortRetrain
  intro t ht
  repeat' first | with_reducible assumption | (injection ht with ht; subst ht) | with_reducible apply wf_ite | with_reducible apply wf_portRecord | with_reducible apply wf_updPort | with_reducible apply wf_portDown

theorem wf_execVcStopGo {s : State} (h : State.Canonical s) : ∀ t, execVcStopGo s = .next t → State.Canonical t := by
  unfold execVcStopGo
  intro t ht
  repeat' first | with_reducible assumption | (injection ht with ht; subst ht) | with_reducible apply wf_ite | simp only [wf_mk] | with_reducible apply And.intro | with_reducible apply wf_mem | with_reducible apply wf_cores

theorem wf_placeImage {s : State} {x1 : ℕ} {x2 : ℕ} {x3 : BitVec 14} {x4 : ℕ} {x5 : ℕ} (h : State.Canonical s) : State.Canonical (State.placeImage s x1 x2 x3 x4 x5).1 := by
  unfold State.placeImage
  repeat' first | with_reducible assumption | (with_reducible refine wf_placeBlk_eq ?_ ‹_ = _›) | with_reducible apply wf_waits | with_reducible apply wf_foldlP | simp only [wf_mk] | with_reducible apply And.intro | with_reducible apply wf_mem | with_reducible apply wf_cores | (intro t _ ht) | split

theorem wf_placeImage_eq {s : State} {x1 : ℕ} {x2 : ℕ} {x3 : BitVec 14} {x4 : ℕ} {x5 : ℕ} {t : State} {r} (h : State.Canonical s) (e : State.placeImage s x1 x2 x3 x4 x5 = (t, r)) : State.Canonical t := by
  have := wf_placeImage (s := s) (x1 := x1) (x2 := x2) (x3 := x3) (x4 := x4) (x5 := x5) h
  rw [e] at this
  exact this

theorem wf_putImage {s : State} {x1 : ℕ} {x2 : ℕ} {x3 : ℕ} {x4 : FMap Byte} {x5 : List ℕ} (h : State.Canonical s) : State.Canonical (State.putImage s x1 x2 x3 x4 x5) := by
  unfold State.putImage
  repeat' first | with_reducible assumption | with_reducible apply wf_ite | with_reducible apply wf_awaitsAll | with_reducible apply wf_dropAsids | with_reducible apply wf_markDirty | simp only [wf_mk] | with_reducible apply And.intro | with_reducible apply wf_mem | with_reducible apply wf_cores | with_reducible apply wf_putBlock

theorem wf_saveMember {s : State} {x1 : BitVec 8} {x2 : Binding} (h : State.Canonical s) : State.Canonical (State.saveMember s x1 x2).1 := by
  unfold State.saveMember
  apply wf_foldlP _ h
  intro t x ht
  refine wf_iteP ht ?_
  generalize t.1.areaPlace (cbOf x1) x2 x.1 = r
  match r with
  | .ok (.stack pa) => exact wf_putImage ht
  | .held => exact wf_waits ht
  | .poison pa => exact wf_walkPoison ht
  | .stopped pa => exact wf_updCore ht
  | .ok (.fabric _ _) => exact wf_updCore ht
  | .fault _ => exact wf_updCore ht


theorem wf_saveMember_eq {s : State} {x1 : BitVec 8} {x2 : Binding} {t : State} {r} (h : State.Canonical s) (e : State.saveMember s x1 x2 = (t, r)) : State.Canonical t := by
  have := wf_saveMember (s := s) (x1 := x1) (x2 := x2) h
  rw [e] at this
  exact this

theorem wf_addTwins {s : State} {x1 : List (BitVec 8)} (h : State.Canonical s) : State.Canonical (State.addTwins s x1) := by
  unfold State.addTwins
  repeat' first | with_reducible assumption | simp only [wf_mk] | with_reducible apply And.intro | with_reducible apply wf_mem | with_reducible apply wf_cores

theorem wf_takeEntry {s : State} {x1 : Wave} {x2 : ℕ} (h : State.Canonical s) : State.Canonical (State.takeEntry s x1 x2) := by
  unfold State.takeEntry
  repeat' first | with_reducible assumption | with_reducible apply wf_ite | with_reducible apply wf_updWave | simp only [wf_mk] | with_reducible apply And.intro | with_reducible apply wf_mem | with_reducible apply wf_cores | split

theorem wf_readMapped {s : State} {x1 : Region} (h : State.Canonical s) : State.Canonical (State.readMapped s x1) := by
  unfold State.readMapped
  repeat' first | with_reducible assumption | with_reducible apply wf_spineConsumes | with_reducible apply wf_spineWalkPoison | with_reducible apply wf_waits | with_reducible apply wf_foldl | (intro t _ ht) | split

theorem wf_writeTrees {s : State} {x1 : Wave} {x2 : ℕ} (h : State.Canonical s) : State.Canonical (State.writeTrees s x1 x2) := by
  unfold State.writeTrees
  repeat' first | with_reducible assumption | with_reducible apply wf_ite | with_reducible apply wf_unitConsumes | with_reducible apply wf_spineWalkPoison | with_reducible apply wf_waits | with_reducible apply wf_foldl | simp only [wf_mk] | with_reducible apply And.intro | with_reducible apply wf_mem | with_reducible apply wf_cores | (intro t _ ht) | split

theorem wf_sealBind {s : State} {x1 : Plan} {x2 : Binding} (h : State.Canonical s) : State.Canonical (State.sealBind s x1 x2) := by
  unfold State.sealBind
  repeat' first | with_reducible assumption | with_reducible apply wf_ite | with_reducible apply wf_updCore | with_reducible apply wf_addTwins | with_reducible apply wf_updUp | with_reducible apply wf_post | with_reducible apply wf_foldl | simp only [wf_mk] | with_reducible apply And.intro | with_reducible apply wf_mem | with_reducible apply wf_cores | (intro t _ ht)

theorem wf_freshMember {s : State} {x1 : Plan} {x2 : Binding} {x3 : BitVec 8} (h : State.Canonical s) : State.Canonical (State.freshMember s x1 x2 x3) := by
  unfold State.freshMember
  repeat' first | with_reducible assumption | with_reducible apply wf_placeImage | with_reducible apply wf_updCore

theorem wf_bindFresh {s : State} {x1 : Plan} {x2 : BitVec 30} {x3 : Bool} (h : State.Canonical s) : State.Canonical (State.bindFresh s x1 x2 x3) := by
  unfold State.bindFresh
  repeat' first | with_reducible assumption | with_reducible apply wf_sealBind | with_reducible apply wf_freshMember | with_reducible apply wf_walkPoison | with_reducible apply wf_foldl | (intro t _ ht) | split

theorem wf_failRestore {s : State} {x1 : Plan} {x2 : Binding} (h : State.Canonical s) : State.Canonical (State.failRestore s x1 x2) := by
  unfold State.failRestore
  repeat' first | with_reducible assumption | with_reducible apply wf_logError | with_reducible apply wf_killAway | split

theorem wf_restoreMember {s : State} {x1 : Plan} {x2 : TaskRec} {x3 : Binding} {x4 : BitVec 8} {x5 : Area} (h : State.Canonical s) : State.Canonical (State.restoreMember s x1 x2 x3 x4 x5) := by
  unfold State.restoreMember
  repeat' first | with_reducible assumption | with_reducible apply wf_updCore | simp only [wf_mk] | with_reducible apply And.intro | with_reducible apply wf_mem | with_reducible apply wf_cores

theorem wf_rebind {s : State} {x1 : Plan} {x2 : TaskRec} {x3 : BitVec 30} {x4 : Bool} (h : State.Canonical s) : State.Canonical (State.rebind s x1 x2 x3 x4) := by
  unfold State.rebind
  repeat' first | with_reducible assumption | with_reducible apply wf_ite | with_reducible apply wf_waits | with_reducible apply wf_failRestore | with_reducible apply wf_restoreMember | with_reducible apply wf_sealBind | with_reducible apply wf_consume | with_reducible apply wf_foldl | simp only [wf_mk] | with_reducible apply And.intro | with_reducible apply wf_mem | with_reducible apply wf_cores | (intro t _ ht) | split

theorem wf_bind {s : State} {x1 : Plan} {x2 : BitVec 30} {x3 : Bool} (h : State.Canonical s) : State.Canonical (State.bind s x1 x2 x3) := by
  unfold State.bind
  repeat' first | with_reducible assumption | with_reducible apply wf_takeEntry | with_reducible apply wf_readMapped | with_reducible apply wf_writeTrees | with_reducible apply wf_bindFresh | with_reducible apply wf_rebind | with_reducible apply wf_admitFull | with_reducible apply wf_foldl | simp only [wf_mk] | with_reducible apply And.intro | with_reducible apply wf_mem | with_reducible apply wf_cores | (intro t _ ht) | split

theorem wf_bindOwn {s : State} {x1 : Plan} (h : State.Canonical s) : State.Canonical (State.bindOwn s x1) := by
  unfold State.bindOwn
  repeat' first | with_reducible assumption | with_reducible apply wf_refuseBind | with_reducible apply wf_bind | with_reducible apply wf_foldl | (intro t _ ht)

theorem wf_bindRecord {s : State} {x1 : Plan} {x2 : BitVec 30} (h : State.Canonical s) : State.Canonical (State.bindRecord s x1 x2) := by
  unfold State.bindRecord
  repeat' first | with_reducible assumption | with_reducible apply wf_bind | with_reducible apply wf_answer | with_reducible apply wf_foldl | (intro t _ ht)

theorem wf_withContext {s : State} {x1 : Plan} {x2 : State → State} (hf : ∀ t, State.Canonical t → State.Canonical (x2 t)) (h : State.Canonical s) : State.Canonical (State.withContext s x1 x2) :=
  wf_ite (wf_withColumns hf h) (wf_ite (wf_waits h) (wf_withColumns hf h))

theorem wf_dispatchRecord {s : State} {x1 : BitVec 8} (h : State.Canonical s) : State.Canonical (State.dispatchRecord s x1) := by
  unfold State.dispatchRecord
  repeat' first | with_reducible assumption | with_reducible apply wf_ite | with_reducible apply wf_refuseBind | with_reducible apply wf_withContext | with_reducible apply wf_bindRecord | with_reducible apply wf_foldl | simp only [wf_mk] | (intro t _ ht) | (intro t ht) | split

theorem wf_tryOwn {s : State} {x1 : OwnBind} (h : State.Canonical s) : State.Canonical (State.tryOwn s x1) := by
  unfold State.tryOwn
  repeat' first | with_reducible assumption | with_reducible apply wf_ite | with_reducible apply wf_withContext | with_reducible apply wf_bindOwn | simp only [wf_mk] | with_reducible apply And.intro | with_reducible apply wf_mem | with_reducible apply wf_cores | (intro t ht) | split

theorem wf_dispatch {s : State} {x1 : BitVec 8} (h : State.Canonical s) : State.Canonical (State.dispatch s x1) := by
  unfold State.dispatch
  repeat' first | with_reducible assumption | with_reducible apply wf_dispatchRecord | with_reducible apply wf_tryOwn | split

theorem wf_schStop {s : State} (h : State.Canonical s) : State.Canonical (State.schStop s) := by
  unfold State.schStop
  repeat' first | with_reducible assumption | with_reducible apply wf_logError | simp only [wf_mk] | with_reducible apply And.intro | with_reducible apply wf_mem | with_reducible apply wf_cores

theorem wf_alarm {s : State} (h : State.Canonical s) : State.Canonical (State.alarm s) := by
  unfold State.alarm
  repeat' first | with_reducible assumption | with_reducible apply wf_ite | with_reducible apply wf_logError | with_reducible apply wf_schStop | simp only [wf_mk] | with_reducible apply And.intro | with_reducible apply wf_mem | with_reducible apply wf_cores

theorem wf_cpStop {s : State} (h : State.Canonical s) : State.Canonical (State.cpStop s) := by
  unfold State.cpStop
  repeat' first | with_reducible assumption | with_reducible apply wf_logError | with_reducible apply wf_completeNode | with_reducible apply wf_tryClose | with_reducible apply wf_settleNode | with_reducible apply wf_foldl | simp only [wf_mk] | with_reducible apply And.intro | with_reducible apply wf_mem | with_reducible apply wf_cores | (intro t _ ht)

theorem wf_elapse {s : State} {x1 : ℕ} (h : State.Canonical s) : State.Canonical (State.elapse s x1) := by
  unfold State.elapse
  repeat' first | with_reducible assumption | simp only [wf_mk] | with_reducible apply And.intro | with_reducible apply wf_mem | with_reducible apply wf_cores

theorem wf_judgeParked {s : State} {x1 : ℕ} {x2 : Wave} {x3 : TaskRec} (h : State.Canonical s) : State.Canonical (State.judgeParked s x1 x2 x3) := by
  unfold State.judgeParked
  repeat' first | with_reducible assumption | with_reducible apply wf_ite | with_reducible apply wf_waits | with_reducible apply wf_killAway | with_reducible apply wf_spineWalkPoison | with_reducible apply wf_addEntry | simp only [wf_mk] | with_reducible apply And.intro | with_reducible apply wf_mem | with_reducible apply wf_cores | split

theorem wf_saveAll {s : State} {x1 : Binding} {x2 : Bool} (h : State.Canonical s) : State.Canonical (State.saveAll s x1 x2) := by
  unfold State.saveAll
  repeat' first | with_reducible assumption | with_reducible apply wf_ite | with_reducible apply wf_iteP | with_reducible apply wf_updCore | with_reducible apply wf_consume | with_reducible apply wf_saveMember | with_reducible apply wf_killTask | with_reducible apply wf_sendAway | with_reducible apply wf_post | with_reducible apply wf_unbind | with_reducible apply wf_answerDisplace | with_reducible apply wf_addEntry | with_reducible apply wf_foldl | with_reducible apply wf_foldlP | simp only [wf_mk] | with_reducible apply And.intro | with_reducible apply wf_mem | with_reducible apply wf_cores | (intro t _ ht)

theorem wf_leave {s : State} {x1 : Binding} {x2 : Bool} (h : State.Canonical s) : State.Canonical (State.leave s x1 x2) := by
  unfold State.leave
  repeat' first | with_reducible assumption | with_reducible apply wf_ite | with_reducible apply wf_withColumns | with_reducible apply wf_saveAll | with_reducible apply wf_waits | (intro t ht)

theorem wf_markPreempt {s : State} {x1 : Binding} (h : State.Canonical s) : State.Canonical (State.markPreempt s x1) := by
  unfold State.markPreempt
  repeat' first | with_reducible assumption | with_reducible apply wf_updCores

theorem wf_rotate {s : State} {x1 : Wave} {x2 : Region} {x3 : ℕ} (h : State.Canonical s) : State.Canonical (State.rotate s x1 x2 x3) := by
  unfold State.rotate
  repeat' first | with_reducible assumption | with_reducible apply wf_tryOwn | with_reducible apply wf_markPreempt | with_reducible apply wf_foldl | simp only [wf_mk] | with_reducible apply And.intro | with_reducible apply wf_mem | with_reducible apply wf_cores | split

theorem wf_rotateHead {s : State} {x1 : ℕ} (h : State.Canonical s) : State.Canonical (State.rotateHead s x1) := by
  unfold State.rotateHead
  repeat' first | with_reducible assumption | with_reducible apply wf_rotate | split

theorem wf_execAgeAlarm {s : State} (h : State.Canonical s) : ∀ t, execAgeAlarm s = .next t → State.Canonical t := by
  unfold execAgeAlarm
  intro t ht
  repeat' first | with_reducible assumption | (injection ht with ht; subst ht) | with_reducible apply wf_ite | with_reducible apply wf_rotate | with_reducible apply wf_alarm | with_reducible apply wf_post | simp only [wf_mk] | with_reducible apply And.intro | with_reducible apply wf_mem | with_reducible apply wf_cores | split

theorem wf_execContextSaveComplete {s : State} (h : State.Canonical s) : ∀ t, execContextSaveComplete s = .next t → State.Canonical t := by
  unfold execContextSaveComplete
  intro t ht
  repeat' first | with_reducible assumption | (injection ht with ht; subst ht) | with_reducible apply wf_ite | with_reducible apply wf_leave | split

theorem wf_execCpWatchdog {s : State} (h : State.Canonical s) : ∀ t, execCpWatchdog s = .next t → State.Canonical t := by
  unfold execCpWatchdog
  intro t ht
  repeat' first | with_reducible assumption | (injection ht with ht; subst ht) | with_reducible apply wf_ite | with_reducible apply wf_cpStop

theorem wf_execDispatchBind {s : State} (h : State.Canonical s) : ∀ t, execDispatchBind s = .next t → State.Canonical t := by
  unfold execDispatchBind
  intro t ht
  repeat' first | with_reducible assumption | (injection ht with ht; subst ht) | with_reducible apply wf_ite | with_reducible apply wf_rotateHead | with_reducible apply wf_dispatch

theorem wf_execDisplace {s : State} (h : State.Canonical s) : ∀ t, execDisplace s = .next t → State.Canonical t := by
  unfold execDisplace
  intro t ht
  repeat' first | with_reducible assumption | (injection ht with ht; subst ht) | with_reducible apply wf_ite | with_reducible apply wf_refuseBind | with_reducible apply wf_markPreempt | split

theorem wf_execFirmwareRestartDone {s : State} (h : State.Canonical s) : ∀ t, execFirmwareRestartDone s = .next t → State.Canonical t := by
  unfold execFirmwareRestartDone
  intro t ht
  repeat' first | with_reducible assumption | (injection ht with ht; subst ht) | with_reducible apply wf_ite | with_reducible apply wf_logError | simp only [wf_mk] | with_reducible apply And.intro | with_reducible apply wf_mem | with_reducible apply wf_cores

theorem wf_execParkBeaconMet {s : State} (h : State.Canonical s) : ∀ t, execParkBeaconMet s = .next t → State.Canonical t := by
  unfold execParkBeaconMet
  intro t ht
  repeat' first | with_reducible assumption | (injection ht with ht; subst ht) | with_reducible apply wf_judgeParked | split

theorem wf_execPreemption {s : State} (h : State.Canonical s) : ∀ t, execPreemption s = .next t → State.Canonical t := by
  unfold execPreemption
  intro t ht
  repeat' first | with_reducible assumption | (injection ht with ht; subst ht) | with_reducible apply wf_updCore

theorem wf_execSchWatchdog {s : State} (h : State.Canonical s) : ∀ t, execSchWatchdog s = .next t → State.Canonical t := by
  unfold execSchWatchdog
  intro t ht
  repeat' first | with_reducible assumption | (injection ht with ht; subst ht) | with_reducible apply wf_ite | with_reducible apply wf_schStop

theorem wf_execSliceExpiry {s : State} (h : State.Canonical s) : ∀ t, execSliceExpiry s = .next t → State.Canonical t := by
  unfold execSliceExpiry
  intro t ht
  repeat' first | with_reducible assumption | (injection ht with ht; subst ht) | with_reducible apply wf_ite | with_reducible apply wf_updCores | split

theorem wf_execTaskParked {s : State} (h : State.Canonical s) : ∀ t, execTaskParked s = .next t → State.Canonical t := by
  unfold execTaskParked
  intro t ht
  repeat' first | with_reducible assumption | (injection ht with ht; subst ht) | with_reducible apply wf_ite | with_reducible apply wf_leave | simp only [wf_mk] | split

theorem wf_bulkLost {s : State} {x1 : ℕ} {x2 : PAddr} (h : State.Canonical s) : State.Canonical (State.bulkLost s x1 x2) := by
  unfold State.bulkLost
  repeat' first | with_reducible assumption | with_reducible apply wf_ite | with_reducible apply wf_logError | split

theorem wf_bulkWalkPoison {s : State} {x1 : ℕ} {x2 : ℕ} (h : State.Canonical s) : State.Canonical (State.bulkWalkPoison s x1 x2) := by
  unfold State.bulkWalkPoison
  repeat' first | with_reducible assumption | with_reducible apply wf_smcReset | with_reducible apply wf_logError

theorem wf_bulkAdd {s : State} {x1 : ℕ} {x2 : ℕ} {x3 : BitVec 14} {x4 : ℕ} (h : State.Canonical s) : State.Canonical (State.bulkAdd s x1 x2 x3 x4).1 := by
  unfold State.bulkAdd
  repeat' first | with_reducible assumption | with_reducible apply wf_ite | with_reducible apply wf_iteP | with_reducible apply wf_addAt | with_reducible apply wf_bulkLost | with_reducible apply wf_unitConsumes | with_reducible apply wf_bulkWalkPoison | with_reducible apply wf_gateStops | with_reducible apply wf_waits | simp only [wf_mk] | split

theorem wf_bulkAdd_eq {s : State} {x1 : ℕ} {x2 : ℕ} {x3 : BitVec 14} {x4 : ℕ} {t : State} {r} (h : State.Canonical s) (e : State.bulkAdd s x1 x2 x3 x4 = (t, r)) : State.Canonical t := by
  have := wf_bulkAdd (s := s) (x1 := x1) (x2 := x2) (x3 := x3) (x4 := x4) h
  rw [e] at this
  exact this

theorem wf_bulkPiece {s : State} {x1 : ℕ} {x2 : ℕ} {x3 : BitVec 14} {x4 : ℕ} {x5 : ℕ} {x6 : ℕ} (h : State.Canonical s) : State.Canonical (State.bulkPiece s x1 x2 x3 x4 x5 x6).1 := by
  unfold State.bulkPiece
  repeat' first | with_reducible assumption | with_reducible apply wf_iteP | (with_reducible refine wf_placeBlk_eq ?_ ‹_ = _›) | with_reducible apply wf_putPlace | with_reducible apply wf_bulkLost | with_reducible apply wf_bulkWalkPoison | with_reducible apply wf_waits | with_reducible apply wf_gateStops | simp only [wf_mk] | split

theorem wf_bulkPiece_eq {s : State} {x1 : ℕ} {x2 : ℕ} {x3 : BitVec 14} {x4 : ℕ} {x5 : ℕ} {x6 : ℕ} {t : State} {r} (h : State.Canonical s) (e : State.bulkPiece s x1 x2 x3 x4 x5 x6 = (t, r)) : State.Canonical t := by
  have := wf_bulkPiece (s := s) (x1 := x1) (x2 := x2) (x3 := x3) (x4 := x4) (x5 := x5) (x6 := x6) h
  rw [e] at this
  exact this

theorem wf_bulkNode {s : State} {x1 : ℕ} {x2 : ℕ} {x3 : BitVec 14} {x4 : ℕ} {x5 : ℕ} {x6 : ℕ} {x7 : ℕ} (h : State.Canonical s) : State.Canonical (State.bulkNode s x1 x2 x3 x4 x5 x6 x7).1 := by
  induction x4 generalizing s x5 x6 x7 with
  | zero => exact h
  | succ n ih =>
  unfold State.bulkNode
  repeat' first | with_reducible assumption | with_reducible apply wf_iteP | with_reducible apply wf_bulkPiece | with_reducible apply ih

theorem wf_bulkNode_eq {s : State} {x1 : ℕ} {x2 : ℕ} {x3 : BitVec 14} {x4 : ℕ} {x5 : ℕ} {x6 : ℕ} {x7 : ℕ} {t : State} {r} (h : State.Canonical s) (e : State.bulkNode s x1 x2 x3 x4 x5 x6 x7 = (t, r)) : State.Canonical t := by
  have := wf_bulkNode (s := s) (x1 := x1) (x2 := x2) (x3 := x3) (x4 := x4) (x5 := x5) (x6 := x6) (x7 := x7) h
  rw [e] at this
  exact this

theorem wf_endBulk {s : State} {x1 : Active} {x2 : ℕ} {x3 : BitVec 14} (h : State.Canonical s) : State.Canonical (State.endBulk s x1 x2 x3) := by
  unfold State.endBulk
  repeat' first | with_reducible assumption | with_reducible apply wf_ite | with_reducible apply wf_iteP | with_reducible apply wf_bulkNode | with_reducible apply wf_refuseActive | with_reducible apply wf_bulkAdd | with_reducible apply wf_completeNode

theorem wf_withNode {s : State} {x1 : Active} {x0 : ℕ} {x2 x3 : List Spot} {x4 : State → State} (hf : ∀ t, State.Canonical t → State.Canonical (x4 t)) (h : State.Canonical s) :
    State.Canonical (State.withNode s x1 x0 x2 x3 x4) := wf_ite (wf_withColumns hf h) (wf_ite (wf_waits h) (wf_ite h (wf_withColumns hf h)))

theorem wf_execBulkNodeComplete {s : State} (h : State.Canonical s) : ∀ t, execBulkNodeComplete s = .next t → State.Canonical t := by
  unfold execBulkNodeComplete
  intro t ht
  repeat' first | with_reducible assumption | (injection ht with ht; subst ht) | with_reducible apply wf_ite | with_reducible apply wf_withNode | with_reducible apply wf_endBulk | simp only [wf_mk] | (intro t ht) | split

theorem wf_execReadinessRequest {s : State} (h : State.Canonical s) : ∀ t, execReadinessRequest s = .next t → State.Canonical t := by
  unfold execReadinessRequest
  intro t ht
  repeat' first | with_reducible assumption | (injection ht with ht; subst ht) | with_reducible apply wf_ite | with_reducible apply wf_handleDue | with_reducible apply wf_handleRequest | simp only [wf_mk] | with_reducible apply And.intro | with_reducible apply wf_mem | with_reducible apply wf_cores | split

theorem wf_execSignalNodeComplete {s : State} (h : State.Canonical s) : ∀ t, execSignalNodeComplete s = .next t → State.Canonical t := by
  unfold execSignalNodeComplete
  intro t ht
  repeat' first | with_reducible assumption | (injection ht with ht; subst ht) | with_reducible apply wf_ite | with_reducible apply wf_completeNode | split

theorem wf_execSubmissionEnd {s : State} (h : State.Canonical s) : ∀ t, execSubmissionEnd s = .next t → State.Canonical t := by
  unfold execSubmissionEnd
  intro t ht
  repeat' first | with_reducible assumption | (injection ht with ht; subst ht) | with_reducible apply wf_endSubmission

theorem wf_execSubmissionStart {s : State} (h : State.Canonical s) : ∀ t, execSubmissionStart s = .next t → State.Canonical t := by
  unfold execSubmissionStart
  intro t ht
  repeat' first | with_reducible assumption | (injection ht with ht; subst ht) | with_reducible apply wf_startSubmission

theorem wf_execWaitNodeRead {s : State} (h : State.Canonical s) : ∀ t, execWaitNodeRead s = .next t → State.Canonical t := by
  unfold execWaitNodeRead
  intro t ht
  repeat' first | with_reducible assumption | (injection ht with ht; subst ht) | with_reducible apply wf_ite | with_reducible apply wf_cpBlock | with_reducible apply wf_refuseActive | with_reducible apply wf_completeNode | simp only [wf_mk] | split

theorem wf_copyLine {s : State} {x1 : ℕ} {x2 : ℕ} {x3 : ℕ} {x4 : ℕ} (h : State.Canonical s) : State.Canonical (State.copyLine s x1 x2 x3 x4) := by
  unfold State.copyLine
  repeat' first | with_reducible assumption | with_reducible apply wf_unstage | with_reducible apply wf_foldl | simp only [wf_mk] | with_reducible apply And.intro | with_reducible apply wf_mem | with_reducible apply wf_cores | with_reducible apply wf_writeBytes

theorem wf_requeuePage {s : State} {x1 : ℕ} {x2 : ℕ} (h : State.Canonical s) : State.Canonical (State.requeuePage s x1 x2) := by
  unfold State.requeuePage
  repeat' first | with_reducible assumption | with_reducible apply wf_updStack | with_reducible apply wf_updChan | with_reducible apply wf_foldl | simp only [wf_mk] | (intro t _ ht)

theorem wf_execPageMoveLine {s : State} (h : State.Canonical s) : ∀ t, execPageMoveLine s = .next t → State.Canonical t := by
  unfold execPageMoveLine
  intro t ht
  repeat' first | with_reducible assumption | (injection ht with ht; subst ht) | with_reducible apply wf_updStack | with_reducible apply wf_copyLine | split

theorem wf_execPageMoveSwitch {s : State} (h : State.Canonical s) : ∀ t, execPageMoveSwitch s = .next t → State.Canonical t := by
  unfold execPageMoveSwitch
  intro t ht
  repeat' first | with_reducible assumption | (injection ht with ht; subst ht) | with_reducible apply wf_ite | with_reducible apply wf_copyLine | with_reducible apply wf_requeuePage | with_reducible apply wf_updStack | with_reducible apply wf_logError | with_reducible apply wf_foldl | simp only [wf_mk] | (intro t _ ht) | split

theorem wf_execPageRetirement {s : State} (h : State.Canonical s) : ∀ t, execPageRetirement s = .next t → State.Canonical t := by
  unfold execPageRetirement
  intro t ht
  repeat' first | with_reducible assumption | (injection ht with ht; subst ht) | with_reducible apply wf_ite | with_reducible apply wf_updStack | split

theorem wf_shutDown {s : State} {x1 : ℕ} (h : State.Canonical s) : State.Canonical (State.shutDown s x1) := by
  unfold State.shutDown
  repeat' first | with_reducible assumption | with_reducible apply wf_ite | with_reducible apply wf_logError | with_reducible apply wf_smcReset | simp only [wf_mk] | with_reducible apply And.intro | with_reducible apply wf_mem | with_reducible apply wf_cores

theorem wf_readSensor {s : State} {x1 : ℕ} {x2 : ℕ} (h : State.Canonical s) : State.Canonical (State.readSensor s x1 x2) := by
  unfold State.readSensor
  repeat' first | with_reducible assumption | with_reducible apply wf_ite | with_reducible apply wf_shutDown | simp only [wf_mk] | with_reducible apply And.intro | with_reducible apply wf_mem | with_reducible apply wf_cores

theorem wf_setStage {s : State} {x1 : ℕ} (h : State.Canonical s) : State.Canonical (State.setStage s x1) := by
  unfold State.setStage
  repeat' first | with_reducible assumption | simp only [wf_mk] | with_reducible apply And.intro | with_reducible apply wf_mem | with_reducible apply wf_cores

theorem wf_trip {s : State} {x1 : ℕ} {x2 : ℕ} (h : State.Canonical s) : State.Canonical (State.trip s x1 x2) := by
  unfold State.trip
  repeat' first | with_reducible assumption | with_reducible apply wf_ite | with_reducible apply wf_logError | with_reducible apply wf_takeFree | simp only [wf_mk] | with_reducible apply And.intro | with_reducible apply wf_mem | with_reducible apply wf_cores

theorem wf_execBringUpStepDone {s : State} (h : State.Canonical s) : ∀ t, execBringUpStepDone s = .next t → State.Canonical t := by
  unfold execBringUpStepDone
  intro t ht
  repeat' first | with_reducible assumption | (injection ht with ht; subst ht) | with_reducible apply wf_updStack | with_reducible apply wf_zeroStack | with_reducible apply wf_setStage | with_reducible apply wf_foldl | simp only [wf_mk] | (intro t _ ht) | split

theorem wf_execCoolantLoss {s : State} (h : State.Canonical s) : ∀ t, execCoolantLoss s = .next t → State.Canonical t := by
  unfold execCoolantLoss
  intro t ht
  repeat' first | with_reducible assumption | (injection ht with ht; subst ht) | with_reducible apply wf_shutDown | with_reducible apply wf_foldl

theorem wf_execEpochBoundary {s : State} (h : State.Canonical s) : ∀ t, execEpochBoundary s = .next t → State.Canonical t := by
  unfold execEpochBoundary
  intro t ht
  repeat' first | with_reducible assumption | (injection ht with ht; subst ht) | with_reducible apply wf_ite | with_reducible apply wf_updStack | with_reducible apply wf_updRegion | with_reducible apply wf_takeFree | with_reducible apply wf_foldl | simp only [wf_mk] | with_reducible apply And.intro | with_reducible apply wf_mem | with_reducible apply wf_cores | (intro t _ ht)

theorem wf_execPackagePowerOn {s : State} (_h : State.Canonical s) : ∀ t, execPackagePowerOn s = .next t → State.Canonical t := by
  unfold execPackagePowerOn
  intro t ht
  repeat' first | (injection ht with ht; subst ht) | with_reducible apply wf_ite | with_reducible apply wf_logError | with_reducible apply wf_setStage | simp only [wf_mk] | with_reducible apply And.intro | with_reducible apply wf_mem | with_reducible apply wf_cores | exact wf_reset

theorem wf_execRailOutOfRange {s : State} (h : State.Canonical s) : ∀ t, execRailOutOfRange s = .next t → State.Canonical t := by
  unfold execRailOutOfRange
  intro t ht
  repeat' first | with_reducible assumption | (injection ht with ht; subst ht) | with_reducible apply wf_ite | with_reducible apply wf_smcReset | with_reducible apply wf_logError

theorem wf_execSensorRead {s : State} (h : State.Canonical s) : ∀ t, execSensorRead s = .next t → State.Canonical t := by
  unfold execSensorRead
  intro t ht
  repeat' first | with_reducible assumption | (injection ht with ht; subst ht) | with_reducible apply wf_ite | with_reducible apply wf_readSensor | with_reducible apply wf_trip | with_reducible apply wf_foldl | simp only [wf_mk] | with_reducible apply And.intro | with_reducible apply wf_mem | with_reducible apply wf_cores | (intro t _ ht)

theorem wf_comparePair {s : State} {x1 : BitVec 8} (h : State.Canonical s) : State.Canonical (State.comparePair s x1) := by
  unfold State.comparePair
  repeat' first | with_reducible assumption | with_reducible apply wf_ite | with_reducible apply wf_consume | with_reducible apply wf_setCore | with_reducible apply wf_takeFree | simp only [wf_mk] | split

theorem wf_dropWork {s : State} {x1 : BitVec 8} {x2 : ℕ} (h : State.Canonical s) : State.Canonical (State.dropWork s x1 x2) := by
  unfold State.dropWork
  repeat' first | with_reducible assumption | simp only [wf_mk] | with_reducible apply And.intro | with_reducible apply wf_mem | with_reducible apply wf_cores

theorem wf_followed {s t : State} {x2 : Bool} {x3 : State → State} (h : State.Canonical t) : State.Canonical (State.followed s t x2 x3) :=
  wf_foldl (fun t x ht => by
    dsimp only
    split
    · exact ht
    · split
      · exact wf_comparePair ht
      · exact wf_comparePair ht) h

theorem wf_lateMismatch {s : State} {x1 : BitVec 8} (h : State.Canonical s) : State.Canonical (State.lateMismatch s x1) := by
  unfold State.lateMismatch
  repeat' first | with_reducible assumption | with_reducible apply wf_updCore | with_reducible apply wf_takeFree

theorem wf_pairRecord {s : State} {x1 : BitVec 8} {x2 : ℕ} {x3 : ℕ} {x4 : ℕ} (h : State.Canonical s) : State.Canonical (State.pairRecord s x1 x2 x3 x4) := by
  unfold State.pairRecord
  repeat' first | with_reducible assumption | with_reducible apply wf_coreError

theorem wf_release {s : State} {x1 : BitVec 8} {x2 : Held} (h : State.Canonical s) : State.Canonical (State.release s x1 x2) := by
  unfold State.release
  repeat' first | with_reducible assumption | with_reducible apply wf_updCore | with_reducible apply wf_beaconAdd | with_reducible apply wf_awaits | with_reducible apply wf_leaveOp | simp only [wf_mk] | split

theorem wf_execRerunStart {s : State} (h : State.Canonical s) : ∀ t, execRerunStart s = .next t → State.Canonical t := by
  unfold execRerunStart
  intro t ht
  repeat' first | with_reducible assumption | (injection ht with ht; subst ht) | with_reducible apply wf_updCore

theorem wf_execRewind {s : State} (h : State.Canonical s) : ∀ t, execRewind s = .next t → State.Canonical t := by
  unfold execRewind
  intro t ht
  repeat' first | with_reducible assumption | (injection ht with ht; subst ht) | with_reducible apply wf_ite | with_reducible apply wf_setCore | with_reducible apply wf_killCore | with_reducible apply wf_pairRecord | with_reducible apply wf_dropWork

theorem wf_execSegmentCommit {s : State} (h : State.Canonical s) : ∀ t, execSegmentCommit s = .next t → State.Canonical t := by
  unfold execSegmentCommit
  intro t ht
  repeat' first | with_reducible assumption | (injection ht with ht; subst ht) | with_reducible apply wf_ite | with_reducible apply wf_lateMismatch | with_reducible apply wf_consume | with_reducible apply wf_setCore | with_reducible apply wf_pairRecord | with_reducible apply wf_release | with_reducible apply wf_foldl | (intro t _ ht)

theorem wf_strike {s : State} {x1 : BitVec 8} {x2 : Core → Core} (h : State.Canonical s) : State.Canonical (State.strike s x1 x2) := by
  unfold State.strike
  repeat' first | with_reducible assumption | with_reducible apply wf_ite | with_reducible apply wf_updCore | simp only [wf_mk] | with_reducible apply And.intro | with_reducible apply wf_mem | with_reducible apply wf_cores

theorem wf_arrayError {s : State} {x1 : BitVec 8} {x2 : ℕ} {x3 : Bool} {x4 : ℕ} {x5 : ℕ} {x6 : ℕ} (h : State.Canonical s) : State.Canonical (State.arrayError s x1 x2 x3 x4 x5 x6) := by
  unfold State.arrayError
  repeat' first | with_reducible assumption | with_reducible apply wf_ite | with_reducible apply wf_coreError | with_reducible apply wf_strike | with_reducible apply wf_consume

theorem wf_counterError {s : State} {x1 : ℕ} {x2 : ℕ} {x3 : ℕ} {x4 : ℕ} (h : State.Canonical s) : State.Canonical (State.counterError s x1 x2 x3 x4) := by
  unfold State.counterError
  repeat' first | with_reducible assumption | with_reducible apply wf_updChan

theorem wf_engineError {s : State} {x1 : ℕ} {x2 : ℕ} {x3 : ℕ} {x4 : ℕ} {x5 : ℕ} {x6 : ℕ} (h : State.Canonical s) : State.Canonical (State.engineError s x1 x2 x3 x4 x5 x6) := by
  unfold State.engineError
  repeat' first | with_reducible assumption | with_reducible apply wf_ite | with_reducible apply wf_logError | with_reducible apply wf_updBankAt | with_reducible apply wf_updChan | with_reducible apply wf_killLaunch | with_reducible apply wf_stopBanks | simp only [wf_mk] | split

theorem wf_sramError {s : State} {x1 : BitVec 8} {x2 : ℕ} {x3 : Bool} (h : State.Canonical s) : State.Canonical (State.sramError s x1 x2 x3) := by
  unfold State.sramError
  repeat' first | with_reducible assumption | with_reducible apply wf_ite | with_reducible apply wf_coreError | with_reducible apply wf_strike

theorem wf_meshError {s : State} {x1 : ℕ} {x2 : Bool} {x3 : Bool} {x4 : BitVec 8} {x5 : ℕ} {x6 : ℕ} (h : State.Canonical s) : State.Canonical (State.meshError s x1 x2 x3 x4 x5 x6) := by
  unfold State.meshError
  repeat' first | with_reducible assumption | with_reducible apply wf_ite | with_reducible apply wf_smcReset | with_reducible apply wf_logError | with_reducible apply wf_updCore | simp only [wf_mk] | with_reducible apply And.intro | with_reducible apply wf_mem | with_reducible apply wf_cores

theorem wf_hwError {s : State} {x1 : HwError} (h : State.Canonical s) : State.Canonical (State.hwError s x1) := by
  unfold State.hwError
  repeat' first | with_reducible assumption | with_reducible apply wf_ite | with_reducible apply wf_sramError | with_reducible apply wf_arrayError | with_reducible apply wf_meshError | with_reducible apply wf_columnError | with_reducible apply wf_logError | with_reducible apply wf_counterError | with_reducible apply wf_engineError | with_reducible apply wf_killCore | with_reducible apply wf_takeFree | with_reducible apply wf_pairRecord | with_reducible apply wf_strike | with_reducible apply wf_smcReset | simp only [wf_mk] | with_reducible apply And.intro | with_reducible apply wf_mem | with_reducible apply wf_cores | split

theorem wf_spendEvent {s : State} {x1 : Input} (h : State.Canonical s) : State.Canonical (State.spendEvent s x1) := by
  unfold State.spendEvent
  repeat' first | with_reducible assumption | with_reducible apply wf_spend

/-- The slots of a bundle keep what exec keeps. -/
theorem wf_runSlots (hx : ∀ (i : Instr) (s t : State), State.Canonical s → exec i s = .next t → State.Canonical t) (l : List Slot) :
    ∀ (s t : State), State.Canonical s → runSlots l s = .next t → State.Canonical t := by
  induction l with
  | nil =>
    intro s t h e
    rw [← Host.Outcome.next.inj e]
    exact h
  | cons x l ih =>
    intro s t h e
    unfold runSlots at e
    split at e
    · rename_i u hu
      exact ih u t (hx _ _ _ (wf_atSlot h) hu) e
    · contradiction
    · contradiction

/-- A turn keeps what it keeps when it is not held. -/
theorem wf_held {s t : State} {o : Host.Outcome State Fault Refusal} (h : State.Canonical s) (ho : ∀ t, o = .next t → State.Canonical t)
    (e : held s o = .next t) : State.Canonical t := by
  cases o with
  | next u =>
    rw [← Host.Outcome.next.inj e]
    exact wf_ite h (ho u rfl)
  | fault f => cases e
  | refused r => cases e

/-- A turn keeps what exec keeps, trailing cores left aside. -/
theorem wf_act (hx : ∀ (i : Instr) (s t : State), State.Canonical s → exec i s = .next t → State.Canonical t) {s t : State} (x : Turn)
    (h : State.Canonical s) (e : act s x = .next t) : State.Canonical t := by
  cases x with
  | issue c =>
    refine wf_held h (fun t e => ?_) e
    have hc : State.Canonical (State.coreCycle { s with blocked := false } c) := wf_coreCycle h
    unfold issueTurn at e
    dsimp only at e
    split at e
    · rename_i u hu
      rw [← Host.Outcome.next.inj e]
      exact wf_ite (wf_updCore hc) (wf_runSlots hx _ _ _ (wf_beginIssue hc) hu)
    · contradiction
    · contradiction
  | uop k pc bank =>
    refine wf_held h (fun t e => ?_) e
    have h : State.Canonical { s with blocked := false } := h
    unfold uopTurn at e
    split at e
    · contradiction
    · split at e
      · rename_i hu
        rw [← Host.Outcome.next.inj e]
        exact wf_beginUop_eq h hu
      · rename_i hu
        exact hx _ _ _ (wf_beginUop_eq h hu) e
  | event i inp =>
    unfold act at e
    dsimp only at e
    split at e
    · refine wf_held h (fun t e => ?_) e
      unfold eventTurn at e
      split at e
      · rename_i u hu
        have hu := hx _ { s with inp := inp, blocked := false } _ h hu
        rw [← Host.Outcome.next.inj e]
        exact wf_ite hu (wf_spendEvent hu)
      · contradiction
      · contradiction
    · rw [← Host.Outcome.next.inj e]
      exact h
  | error x =>
    rw [← Host.Outcome.next.inj e]
    exact wf_hwError h
  | time n =>
    rw [← Host.Outcome.next.inj e]
    exact wf_elapse h
  | traffic key a write code =>
    rw [← Host.Outcome.next.inj e]
    exact wf_traffic h

/-- A step keeps what exec keeps. -/
theorem wf_step_of_exec (hx : ∀ (i : Instr) (s t : State), State.Canonical s → exec i s = .next t → State.Canonical t) {s t : State} (h : State.Canonical s)
    (e : step s = .next t) : State.Canonical t := by
  have turn : ∀ (u : Turn) (s : State), State.Canonical s → takeTurn s u = .next t → State.Canonical t := by
    intro u s h e
    unfold takeTurn at e
    split at e
    · rename_i v hv
      rw [← Host.Outcome.next.inj e]
      exact wf_followed (wf_act hx u h hv)
    · contradiction
    · contradiction
  unfold step at e
  split at e
  · refine turn _ _ ?_ e
    exact h
  · refine turn _ _ ?_ e
    exact h

end Sys2Proof.Laws
end

