-- ==== Sys2Proof/Laws/PerInstr.lean ====
section
/-! SUPPORT. Family Encoding: what the decoder reads from the fields that an instruction's encoding writes, one lemma per constructor. -/

namespace Sys2Proof.Laws.Encoding

open Sys2Proof

/-- A slot word whose port takes the instruction, and whose fields are the instruction's, decodes to it; a micro-op's code decodes to it. -/
def Statement (i : Instr) : Prop :=
  (∀ q w, i.slotParts = some q → Decode.port w ∈ q.ports → q.selector.getD (Decode.guard w) = Decode.guard w → Decode.opc w = q.opc →
    Decode.operands w = q.operands → decodeInstr w = .ok i)
  ∧ ∀ t w, encodeUop ⟨t, i⟩ = some w → ∃ u, decodeUop w = .ok ⟨u, i⟩ ∧ (u = t ∨ u = 0)

/-! ## Words as numbers -/

theorem cat2 {a b : Nat} (x : BitVec a) (y : BitVec b) : (x ++ y).toNat = x.toNat * 2 ^ b + y.toNat := by
  rw [BitVec.toNat_append, Nat.shiftLeft_eq, Nat.mul_comm]
  exact (Nat.two_pow_add_eq_or_of_lt y.isLt x.toNat).symm

theorem cat3 {a b c : Nat} (x : BitVec a) (y : BitVec b) (z : BitVec c) : (x ++ y ++ z).toNat = (x.toNat * 2 ^ b + y.toNat) * 2 ^ c + z.toNat := by
  rw [cat2, cat2]

theorem cat4 {a b c d : Nat} (x : BitVec a) (y : BitVec b) (z : BitVec c) (u : BitVec d) :
    (x ++ y ++ z ++ u).toNat = ((x.toNat * 2 ^ b + y.toNat) * 2 ^ c + z.toNat) * 2 ^ d + u.toNat := by
  rw [cat2, cat3]

theorem cat5 {a b c d e : Nat} (x : BitVec a) (y : BitVec b) (z : BitVec c) (u : BitVec d) (v : BitVec e) :
    (x ++ y ++ z ++ u ++ v).toNat = (((x.toNat * 2 ^ b + y.toNat) * 2 ^ c + z.toNat) * 2 ^ d + u.toNat) * 2 ^ e + v.toNat := by
  rw [cat2, cat4]

theorem cat6 {a b c d e f : Nat} (x : BitVec a) (y : BitVec b) (z : BitVec c) (u : BitVec d) (v : BitVec e) (t : BitVec f) :
    (x ++ y ++ z ++ u ++ v ++ t).toNat =
      ((((x.toNat * 2 ^ b + y.toNat) * 2 ^ c + z.toNat) * 2 ^ d + u.toNat) * 2 ^ e + v.toNat) * 2 ^ f + t.toNat := by
  rw [cat2, cat5]

/-- A field, from the number its word is. -/
theorem field_eq {k : Nat} {z : BitVec k} {lo len : Nat} {x : BitVec len} (h : z.toNat / 2 ^ lo % 2 ^ len = x.toNat) : z.extractLsb' lo len = x := by
  apply BitVec.eq_of_toNat_eq
  rw [BitVec.extractLsb'_toNat, Nat.shiftRight_eq_div_pow, h]

/-- A bit of a field that is 0. -/
theorem bit_of_field {x lo len j : Nat} (h : x / 2 ^ lo % 2 ^ len = 0) (h1 : lo ≤ j) (h2 : j < lo + len) : x.testBit j = false := by
  have : (x / 2 ^ lo % 2 ^ len).testBit (j - lo) = x.testBit j := by
    rw [Nat.testBit_mod_two_pow, Nat.testBit_div_two_pow, show j - lo + lo = j by omega]
    simp [show j - lo < len by omega]
  rw [← this, h, Nat.zero_testBit]

/-- A mask meets no bit of a number in which the fields it covers are 0; each is given by its lowest bit and its width. -/
theorem and_zero {k : Nat} {z mask : BitVec k} (l : List (Nat × Nat)) (hm : ∀ j < k, mask.getLsbD j = true → ∃ c ∈ l, c.1 ≤ j ∧ j < c.1 + c.2)
    (h : ∀ c ∈ l, z.toNat / 2 ^ c.1 % 2 ^ c.2 = 0) : z &&& mask = 0 := by
  apply BitVec.eq_of_getLsbD_eq
  intro j hj
  rw [BitVec.getLsbD_and]
  cases e : mask.getLsbD j with
  | false => simp
  | true =>
    obtain ⟨c, hc, h1, h2⟩ := hm j hj e
    simp [BitVec.getLsbD, bit_of_field (h c hc) h1 h2]

/-- Reserved bits that are clear. -/
theorem clear_ok {mask ops : BitVec 18} {i : Instr} (h : ops &&& mask = 0) : Decode.clear mask ops i = .ok i := if_pos h

/-- A micro-op's reserved bits that are clear. -/
theorem clearUop_ok {mask w : BitVec 16} {t : BitVec 5} {i : Instr} (l : List (Nat × Nat))
    (hm : ∀ j < 16, mask.getLsbD j = true → ∃ c ∈ l, c.1 ≤ j ∧ j < c.1 + c.2) (h : ∀ c ∈ l, w.toNat / 2 ^ c.1 % 2 ^ c.2 = 0) :
    Decode.clearUop mask w t i = .ok ⟨t, i⟩ := if_pos (and_zero l hm h)

/-- What holds of the head and of the tail holds of the list. -/
theorem all_cons {α : Type} {p : α → Prop} {a : α} {l : List α} (h : p a) (t : ∀ c ∈ l, p c) : ∀ c ∈ a :: l, p c := List.forall_mem_cons.2 ⟨h, t⟩

theorem all_nil {α : Type} {p : α → Prop} : ∀ c ∈ ([] : List α), p c := fun _ h => nomatch h

/-- The decoder, with the fields of the header and the opcode known. -/
theorem decode_of {w : SlotWord} {p : BitVec 3} {o : BitVec 6} (hp : Decode.port w = p) (ho : Decode.opc w = o) : decodeInstr w =
    match p.toNat with
    | 0 => Decode.decodeS (Decode.guard w) o.toNat (Decode.operands w)
    | 1 => Decode.decodeV0 (Decode.guard w) o.toNat (Decode.operands w)
    | 2 => Decode.decodeV1 (Decode.guard w) o.toNat (Decode.operands w)
    | 3 => Decode.decodeM o.toNat (Decode.operands w)
    | 4 => Decode.decodeC o.toNat (Decode.operands w)
    | 5 => Decode.decodeC o.toNat (Decode.operands w)
    | 6 => Decode.decodeA o.toNat (Decode.operands w)
    | _ => Decode.decodeP o.toNat (Decode.operands w) := by
  subst hp ho
  rfl

/-- The values of two bits. -/
theorem two_bits : ∀ x : BitVec 2, x = 0#2 ∨ x = 1#2 ∨ x = 2#2 ∨ x = 3#2 := by decide

/-- A slot instruction is no micro-op. -/
theorem of_slot {i : Instr} {q : SlotParts} (hq : i.slotParts = some q) (hu : ∀ t, encodeUop ⟨t, i⟩ = none)
    (h : ∀ w, Decode.port w ∈ q.ports → q.selector.getD (Decode.guard w) = Decode.guard w → Decode.opc w = q.opc → Decode.operands w = q.operands →
      decodeInstr w = .ok i) : Statement i := by
  refine ⟨fun r w hr => ?_, fun t w hw => ?_⟩
  · rw [hq] at hr
    cases hr
    exact h w
  · rw [hu t] at hw
    cases hw

/-- A micro-op is no slot instruction. -/
theorem of_uop {i : Instr} (hq : i.slotParts = none) (h : ∀ t w, encodeUop ⟨t, i⟩ = some w → ∃ u, decodeUop w = .ok ⟨u, i⟩ ∧ (u = t ∨ u = 0)) :
    Statement i := by
  refine ⟨fun r w hr => ?_, h⟩
  rw [hq] at hr
  cases hr

/-- An event is neither. -/
theorem of_event {i : Instr} (hq : i.slotParts = none) (hu : ∀ t, encodeUop ⟨t, i⟩ = none) : Statement i := by
  refine of_uop hq fun t w hw => ?_
  rw [hu t] at hw
  cases hw


/-! ## Layouts of the operand field -/

theorem lay1 {z : BitVec 18} (x0 : BitVec 6) (x1 : BitVec 6) (x2 : BitVec 6) (h : z = x0 ++ x1 ++ x2) : Decode.fld z 12 6 = x0 ∧ Decode.fld z 6 6 = x1 ∧ Decode.fld z 0 6 = x2 := by
  have h := (congrArg BitVec.toNat h).trans (cat3 x0 x1 x2)
  have := x0.isLt
  have := x1.isLt
  have := x2.isLt
  exact ⟨field_eq (by omega), field_eq (by omega), field_eq (by omega)⟩

theorem lay2 {z : BitVec 18} (x0 : BitVec 6) (x1 : BitVec 6) (h : z = x0 ++ x1 ++ 0#6) : Decode.fld z 12 6 = x0 ∧ Decode.fld z 6 6 = x1 ∧ z &&& 0x3F = 0 := by
  have h := (congrArg BitVec.toNat h).trans (cat3 x0 x1 0#6)
  simp only [BitVec.toNat_ofNat] at h
  have := x0.isLt
  have := x1.isLt
  exact ⟨field_eq (by omega), field_eq (by omega), and_zero [(0, 6)] (by decide) (all_cons (by dsimp only; omega) all_nil)⟩

theorem lay3 {z : BitVec 18} (x0 : BitVec 6) (x1 : BitVec 12) (h : z = x0 ++ x1) : Decode.fld z 12 6 = x0 ∧ Decode.fld z 0 12 = x1 := by
  have h := (congrArg BitVec.toNat h).trans (cat2 x0 x1)
  have := x0.isLt
  have := x1.isLt
  exact ⟨field_eq (by omega), field_eq (by omega)⟩

theorem lay4 {z : BitVec 18} (x0 : BitVec 3) (x1 : BitVec 3) (x2 : BitVec 6) (x3 : BitVec 6) (h : z = x0 ++ x1 ++ x2 ++ x3) : Decode.fld z 15 3 = x0 ∧ Decode.fld z 12 3 = x1 ∧ Decode.fld z 6 6 = x2 ∧ Decode.fld z 0 6 = x3 := by
  have h := (congrArg BitVec.toNat h).trans (cat4 x0 x1 x2 x3)
  have := x0.isLt
  have := x1.isLt
  have := x2.isLt
  have := x3.isLt
  exact ⟨field_eq (by omega), field_eq (by omega), field_eq (by omega), field_eq (by omega)⟩

theorem lay5 {z : BitVec 18} (x0 : BitVec 18) (h : z = x0) : Decode.fld z 0 18 = x0 := by
  have h := congrArg BitVec.toNat h
  have := x0.isLt
  exact field_eq (by omega)

theorem lay6 {z : BitVec 18} (x1 : BitVec 6) (h : z = 0#6 ++ x1 ++ 0#6) : Decode.fld z 6 6 = x1 ∧ z &&& 0x3F03F = 0 := by
  have h := (congrArg BitVec.toNat h).trans (cat3 0#6 x1 0#6)
  simp only [BitVec.toNat_ofNat] at h
  have := x1.isLt
  exact ⟨field_eq (by omega), and_zero [(0, 6), (12, 6)] (by decide) (all_cons (by dsimp only; omega) (all_cons (by dsimp only; omega) all_nil))⟩

theorem lay7 {z : BitVec 18} (x1 : BitVec 6) (x2 : BitVec 6) (h : z = 0#6 ++ x1 ++ x2) : Decode.fld z 6 6 = x1 ∧ Decode.fld z 0 6 = x2 ∧ z &&& 0x3F000 = 0 := by
  have h := (congrArg BitVec.toNat h).trans (cat3 0#6 x1 x2)
  simp only [BitVec.toNat_ofNat] at h
  have := x1.isLt
  have := x2.isLt
  exact ⟨field_eq (by omega), field_eq (by omega), and_zero [(12, 6)] (by decide) (all_cons (by dsimp only; omega) all_nil)⟩

theorem lay8 {z : BitVec 18} (x1 : BitVec 12) (h : z = 0#6 ++ x1) : Decode.fld z 0 12 = x1 ∧ z &&& 0x3F000 = 0 := by
  have h := (congrArg BitVec.toNat h).trans (cat2 0#6 x1)
  simp only [BitVec.toNat_ofNat] at h
  have := x1.isLt
  exact ⟨field_eq (by omega), and_zero [(12, 6)] (by decide) (all_cons (by dsimp only; omega) all_nil)⟩

theorem lay9 {z : BitVec 18} (x0 : BitVec 6) (x1 : BitVec 6) (x3 : BitVec 2) (h : z = x0 ++ x1 ++ 0#4 ++ x3) : Decode.fld z 12 6 = x0 ∧ Decode.fld z 6 6 = x1 ∧ Decode.fld z 0 2 = x3 ∧ z &&& 0x3C = 0 := by
  have h := (congrArg BitVec.toNat h).trans (cat4 x0 x1 0#4 x3)
  simp only [BitVec.toNat_ofNat] at h
  have := x0.isLt
  have := x1.isLt
  have := x3.isLt
  exact ⟨field_eq (by omega), field_eq (by omega), field_eq (by omega), and_zero [(2, 4)] (by decide) (all_cons (by dsimp only; omega) all_nil)⟩

theorem lay10 {z : BitVec 18} (x0 : BitVec 6) (x1 : BitVec 6) (x2 : BitVec 4) (x3 : BitVec 2) (h : z = x0 ++ x1 ++ x2 ++ x3) : Decode.fld z 12 6 = x0 ∧ Decode.fld z 6 6 = x1 ∧ Decode.fld z 2 4 = x2 ∧ Decode.fld z 0 2 = x3 := by
  have h := (congrArg BitVec.toNat h).trans (cat4 x0 x1 x2 x3)
  have := x0.isLt
  have := x1.isLt
  have := x2.isLt
  have := x3.isLt
  exact ⟨field_eq (by omega), field_eq (by omega), field_eq (by omega), field_eq (by omega)⟩

theorem lay11 {z : BitVec 18} (x0 : BitVec 6) (x1 : BitVec 6) (x2 : BitVec 4) (h : z = x0 ++ x1 ++ x2 ++ 0#2) : Decode.fld z 12 6 = x0 ∧ Decode.fld z 6 6 = x1 ∧ Decode.fld z 2 4 = x2 ∧ z &&& 0x3 = 0 := by
  have h := (congrArg BitVec.toNat h).trans (cat4 x0 x1 x2 0#2)
  simp only [BitVec.toNat_ofNat] at h
  have := x0.isLt
  have := x1.isLt
  have := x2.isLt
  exact ⟨field_eq (by omega), field_eq (by omega), field_eq (by omega), and_zero [(0, 2)] (by decide) (all_cons (by dsimp only; omega) all_nil)⟩

theorem lay12 {z : BitVec 18} (x0 : BitVec 6) (x1 : BitVec 6) (x3 : BitVec 4) (h : z = x0 ++ x1 ++ 0#2 ++ x3) : Decode.fld z 12 6 = x0 ∧ Decode.fld z 6 6 = x1 ∧ Decode.fld z 0 4 = x3 ∧ z &&& 0x30 = 0 := by
  have h := (congrArg BitVec.toNat h).trans (cat4 x0 x1 0#2 x3)
  simp only [BitVec.toNat_ofNat] at h
  have := x0.isLt
  have := x1.isLt
  have := x3.isLt
  exact ⟨field_eq (by omega), field_eq (by omega), field_eq (by omega), and_zero [(4, 2)] (by decide) (all_cons (by dsimp only; omega) all_nil)⟩

theorem lay13 {z : BitVec 18} (x0 : BitVec 6) (x1 : BitVec 6) (x3 : BitVec 3) (h : z = x0 ++ x1 ++ 0#3 ++ x3) : Decode.fld z 12 6 = x0 ∧ Decode.fld z 6 6 = x1 ∧ Decode.fld z 0 3 = x3 ∧ z &&& 0x38 = 0 := by
  have h := (congrArg BitVec.toNat h).trans (cat4 x0 x1 0#3 x3)
  simp only [BitVec.toNat_ofNat] at h
  have := x0.isLt
  have := x1.isLt
  have := x3.isLt
  exact ⟨field_eq (by omega), field_eq (by omega), field_eq (by omega), and_zero [(3, 3)] (by decide) (all_cons (by dsimp only; omega) all_nil)⟩

theorem lay14 {z : BitVec 18} (x0 : BitVec 6) (x1 : BitVec 6) (x3 : BitVec 1) (x4 : BitVec 1) (x5 : BitVec 2) (h : z = x0 ++ x1 ++ 0#2 ++ x3 ++ x4 ++ x5) : Decode.fld z 12 6 = x0 ∧ Decode.fld z 6 6 = x1 ∧ Decode.fld z 3 1 = x3 ∧ Decode.fld z 2 1 = x4 ∧ Decode.fld z 0 2 = x5 ∧ z &&& 0x30 = 0 := by
  have h := (congrArg BitVec.toNat h).trans (cat6 x0 x1 0#2 x3 x4 x5)
  simp only [BitVec.toNat_ofNat] at h
  have := x0.isLt
  have := x1.isLt
  have := x3.isLt
  have := x4.isLt
  have := x5.isLt
  exact ⟨field_eq (by omega), field_eq (by omega), field_eq (by omega), field_eq (by omega), field_eq (by omega), and_zero [(4, 2)] (by decide) (all_cons (by dsimp only; omega) all_nil)⟩

theorem lay15 {z : BitVec 18} (x0 : BitVec 6) (x1 : BitVec 6) (x3 : BitVec 1) (x4 : BitVec 2) (h : z = x0 ++ x1 ++ 0#3 ++ x3 ++ x4) : Decode.fld z 12 6 = x0 ∧ Decode.fld z 6 6 = x1 ∧ Decode.fld z 2 1 = x3 ∧ Decode.fld z 0 2 = x4 ∧ z &&& 0x38 = 0 := by
  have h := (congrArg BitVec.toNat h).trans (cat5 x0 x1 0#3 x3 x4)
  simp only [BitVec.toNat_ofNat] at h
  have := x0.isLt
  have := x1.isLt
  have := x3.isLt
  have := x4.isLt
  exact ⟨field_eq (by omega), field_eq (by omega), field_eq (by omega), field_eq (by omega), and_zero [(3, 3)] (by decide) (all_cons (by dsimp only; omega) all_nil)⟩

theorem lay16 {z : BitVec 18} (x0 : BitVec 6) (x1 : BitVec 4) (x2 : BitVec 8) (h : z = x0 ++ x1 ++ x2) : Decode.fld z 12 6 = x0 ∧ Decode.fld z 8 4 = x1 ∧ Decode.fld z 0 8 = x2 := by
  have h := (congrArg BitVec.toNat h).trans (cat3 x0 x1 x2)
  have := x0.isLt
  have := x1.isLt
  have := x2.isLt
  exact ⟨field_eq (by omega), field_eq (by omega), field_eq (by omega)⟩

theorem lay17 {z : BitVec 18} (x0 : BitVec 6) (x1 : BitVec 4) (x2 : BitVec 4) (h : z = x0 ++ x1 ++ x2 ++ 0#4) : Decode.fld z 12 6 = x0 ∧ Decode.fld z 8 4 = x1 ∧ Decode.fld z 4 4 = x2 ∧ z &&& 0xF = 0 := by
  have h := (congrArg BitVec.toNat h).trans (cat4 x0 x1 x2 0#4)
  simp only [BitVec.toNat_ofNat] at h
  have := x0.isLt
  have := x1.isLt
  have := x2.isLt
  exact ⟨field_eq (by omega), field_eq (by omega), field_eq (by omega), and_zero [(0, 4)] (by decide) (all_cons (by dsimp only; omega) all_nil)⟩

theorem lay18 {z : BitVec 18} (x0 : BitVec 6) (x1 : BitVec 4) (x2 : BitVec 4) (x3 : BitVec 4) (h : z = x0 ++ x1 ++ x2 ++ x3) : Decode.fld z 12 6 = x0 ∧ Decode.fld z 8 4 = x1 ∧ Decode.fld z 4 4 = x2 ∧ Decode.fld z 0 4 = x3 := by
  have h := (congrArg BitVec.toNat h).trans (cat4 x0 x1 x2 x3)
  have := x0.isLt
  have := x1.isLt
  have := x2.isLt
  have := x3.isLt
  exact ⟨field_eq (by omega), field_eq (by omega), field_eq (by omega), field_eq (by omega)⟩

theorem lay19 {z : BitVec 18} (x1 : BitVec 3) (x3 : BitVec 3) (x5 : BitVec 3) (h : z = 0#3 ++ x1 ++ 0#3 ++ x3 ++ 0#3 ++ x5) : Decode.fld z 12 3 = x1 ∧ Decode.fld z 6 3 = x3 ∧ Decode.fld z 0 3 = x5 ∧ z &&& 0x38E38 = 0 := by
  have h := (congrArg BitVec.toNat h).trans (cat6 0#3 x1 0#3 x3 0#3 x5)
  simp only [BitVec.toNat_ofNat] at h
  have := x1.isLt
  have := x3.isLt
  have := x5.isLt
  exact ⟨field_eq (by omega), field_eq (by omega), field_eq (by omega), and_zero [(3, 3), (9, 3), (15, 3)] (by decide) (all_cons (by dsimp only; omega) (all_cons (by dsimp only; omega) (all_cons (by dsimp only; omega) all_nil)))⟩

theorem lay20 {z : BitVec 18} (x1 : BitVec 3) (x3 : BitVec 3) (h : z = 0#3 ++ x1 ++ 0#3 ++ x3 ++ 0#6) : Decode.fld z 12 3 = x1 ∧ Decode.fld z 6 3 = x3 ∧ z &&& 0x38E3F = 0 := by
  have h := (congrArg BitVec.toNat h).trans (cat5 0#3 x1 0#3 x3 0#6)
  simp only [BitVec.toNat_ofNat] at h
  have := x1.isLt
  have := x3.isLt
  exact ⟨field_eq (by omega), field_eq (by omega), and_zero [(0, 6), (9, 3), (15, 3)] (by decide) (all_cons (by dsimp only; omega) (all_cons (by dsimp only; omega) (all_cons (by dsimp only; omega) all_nil)))⟩

theorem lay21 {z : BitVec 18} (x0 : BitVec 3) (x1 : BitVec 3) (x2 : BitVec 3) (x3 : BitVec 3) (x4 : BitVec 6) (h : z = x0 ++ x1 ++ x2 ++ x3 ++ x4) : Decode.fld z 15 3 = x0 ∧ Decode.fld z 12 3 = x1 ∧ Decode.fld z 9 3 = x2 ∧ Decode.fld z 6 3 = x3 ∧ Decode.fld z 0 6 = x4 := by
  have h := (congrArg BitVec.toNat h).trans (cat5 x0 x1 x2 x3 x4)
  have := x0.isLt
  have := x1.isLt
  have := x2.isLt
  have := x3.isLt
  have := x4.isLt
  exact ⟨field_eq (by omega), field_eq (by omega), field_eq (by omega), field_eq (by omega), field_eq (by omega)⟩

theorem lay22 {z : BitVec 18} (x0 : BitVec 3) (x1 : BitVec 3) (x2 : BitVec 3) (x3 : BitVec 3) (h : z = x0 ++ x1 ++ x2 ++ x3 ++ 0#6) : Decode.fld z 15 3 = x0 ∧ Decode.fld z 12 3 = x1 ∧ Decode.fld z 9 3 = x2 ∧ Decode.fld z 6 3 = x3 ∧ z &&& 0x3F = 0 := by
  have h := (congrArg BitVec.toNat h).trans (cat5 x0 x1 x2 x3 0#6)
  simp only [BitVec.toNat_ofNat] at h
  have := x0.isLt
  have := x1.isLt
  have := x2.isLt
  have := x3.isLt
  exact ⟨field_eq (by omega), field_eq (by omega), field_eq (by omega), field_eq (by omega), and_zero [(0, 6)] (by decide) (all_cons (by dsimp only; omega) all_nil)⟩

theorem lay23 {z : BitVec 18} (x1 : BitVec 4) (x3 : BitVec 4) (x4 : BitVec 6) (h : z = 0#2 ++ x1 ++ 0#2 ++ x3 ++ x4) : Decode.fld z 12 4 = x1 ∧ Decode.fld z 6 4 = x3 ∧ Decode.fld z 0 6 = x4 ∧ z &&& 0x30C00 = 0 := by
  have h := (congrArg BitVec.toNat h).trans (cat5 0#2 x1 0#2 x3 x4)
  simp only [BitVec.toNat_ofNat] at h
  have := x1.isLt
  have := x3.isLt
  have := x4.isLt
  exact ⟨field_eq (by omega), field_eq (by omega), field_eq (by omega), and_zero [(10, 2), (16, 2)] (by decide) (all_cons (by dsimp only; omega) (all_cons (by dsimp only; omega) all_nil))⟩

theorem lay24 {z : BitVec 18} (x1 : BitVec 4) (x2 : BitVec 12) (h : z = 0#2 ++ x1 ++ x2) : Decode.fld z 12 4 = x1 ∧ Decode.fld z 0 12 = x2 ∧ z &&& 0x30000 = 0 := by
  have h := (congrArg BitVec.toNat h).trans (cat3 0#2 x1 x2)
  simp only [BitVec.toNat_ofNat] at h
  have := x1.isLt
  have := x2.isLt
  exact ⟨field_eq (by omega), field_eq (by omega), and_zero [(16, 2)] (by decide) (all_cons (by dsimp only; omega) all_nil)⟩

theorem lay25 {z : BitVec 18} (x1 : BitVec 4) (x2 : BitVec 6) (h : z = 0#2 ++ x1 ++ x2 ++ 0#6) : Decode.fld z 12 4 = x1 ∧ Decode.fld z 6 6 = x2 ∧ z &&& 0x3003F = 0 := by
  have h := (congrArg BitVec.toNat h).trans (cat4 0#2 x1 x2 0#6)
  simp only [BitVec.toNat_ofNat] at h
  have := x1.isLt
  have := x2.isLt
  exact ⟨field_eq (by omega), field_eq (by omega), and_zero [(0, 6), (16, 2)] (by decide) (all_cons (by dsimp only; omega) (all_cons (by dsimp only; omega) all_nil))⟩

theorem lay26 {z : BitVec 18} (x0 : BitVec 6) (x2 : BitVec 4) (h : z = x0 ++ 0#2 ++ x2 ++ 0#6) : Decode.fld z 12 6 = x0 ∧ Decode.fld z 6 4 = x2 ∧ z &&& 0xC3F = 0 := by
  have h := (congrArg BitVec.toNat h).trans (cat4 x0 0#2 x2 0#6)
  simp only [BitVec.toNat_ofNat] at h
  have := x0.isLt
  have := x2.isLt
  exact ⟨field_eq (by omega), field_eq (by omega), and_zero [(0, 6), (10, 2)] (by decide) (all_cons (by dsimp only; omega) (all_cons (by dsimp only; omega) all_nil))⟩

theorem lay27 {z : BitVec 18} (x0 : BitVec 3) (x1 : BitVec 6) (x2 : BitVec 6) (x3 : BitVec 3) (h : z = x0 ++ x1 ++ x2 ++ x3) : Decode.fld z 15 3 = x0 ∧ Decode.fld z 9 6 = x1 ∧ Decode.fld z 3 6 = x2 ∧ Decode.fld z 0 3 = x3 := by
  have h := (congrArg BitVec.toNat h).trans (cat4 x0 x1 x2 x3)
  have := x0.isLt
  have := x1.isLt
  have := x2.isLt
  have := x3.isLt
  exact ⟨field_eq (by omega), field_eq (by omega), field_eq (by omega), field_eq (by omega)⟩

theorem lay28 {z : BitVec 18} (x0 : BitVec 4) (x1 : BitVec 3) (x2 : BitVec 6) (h : z = x0 ++ x1 ++ x2 ++ 0#5) : Decode.fld z 14 4 = x0 ∧ Decode.fld z 11 3 = x1 ∧ Decode.fld z 5 6 = x2 ∧ z &&& 0x1F = 0 := by
  have h := (congrArg BitVec.toNat h).trans (cat4 x0 x1 x2 0#5)
  simp only [BitVec.toNat_ofNat] at h
  have := x0.isLt
  have := x1.isLt
  have := x2.isLt
  exact ⟨field_eq (by omega), field_eq (by omega), field_eq (by omega), and_zero [(0, 5)] (by decide) (all_cons (by dsimp only; omega) all_nil)⟩

theorem lay29 {z : BitVec 18} (x1 : BitVec 4) (x3 : BitVec 4) (x5 : BitVec 4) (h : z = 0#2 ++ x1 ++ 0#2 ++ x3 ++ 0#2 ++ x5) : Decode.fld z 12 4 = x1 ∧ Decode.fld z 6 4 = x3 ∧ Decode.fld z 0 4 = x5 ∧ z &&& 0x30C30 = 0 := by
  have h := (congrArg BitVec.toNat h).trans (cat6 0#2 x1 0#2 x3 0#2 x5)
  simp only [BitVec.toNat_ofNat] at h
  have := x1.isLt
  have := x3.isLt
  have := x5.isLt
  exact ⟨field_eq (by omega), field_eq (by omega), field_eq (by omega), and_zero [(4, 2), (10, 2), (16, 2)] (by decide) (all_cons (by dsimp only; omega) (all_cons (by dsimp only; omega) (all_cons (by dsimp only; omega) all_nil)))⟩

theorem lay30 {z : BitVec 18} (x1 : BitVec 4) (x3 : BitVec 4) (h : z = 0#2 ++ x1 ++ 0#2 ++ x3 ++ 0#6) : Decode.fld z 12 4 = x1 ∧ Decode.fld z 6 4 = x3 ∧ z &&& 0x30C3F = 0 := by
  have h := (congrArg BitVec.toNat h).trans (cat5 0#2 x1 0#2 x3 0#6)
  simp only [BitVec.toNat_ofNat] at h
  have := x1.isLt
  have := x3.isLt
  exact ⟨field_eq (by omega), field_eq (by omega), and_zero [(0, 6), (10, 2), (16, 2)] (by decide) (all_cons (by dsimp only; omega) (all_cons (by dsimp only; omega) (all_cons (by dsimp only; omega) all_nil)))⟩

theorem lay31 {z : BitVec 18} (x1 : BitVec 4) (x3 : BitVec 1) (h : z = 0#2 ++ x1 ++ 0#11 ++ x3) : Decode.fld z 12 4 = x1 ∧ Decode.fld z 0 1 = x3 ∧ z &&& 0x30FFE = 0 := by
  have h := (congrArg BitVec.toNat h).trans (cat4 0#2 x1 0#11 x3)
  simp only [BitVec.toNat_ofNat] at h
  have := x1.isLt
  have := x3.isLt
  exact ⟨field_eq (by omega), field_eq (by omega), and_zero [(1, 11), (16, 2)] (by decide) (all_cons (by dsimp only; omega) (all_cons (by dsimp only; omega) all_nil))⟩

theorem lay32 {z : BitVec 18} (x1 : BitVec 3) (x2 : BitVec 12) (h : z = 0#3 ++ x1 ++ x2) : Decode.fld z 12 3 = x1 ∧ Decode.fld z 0 12 = x2 ∧ z &&& 0x38000 = 0 := by
  have h := (congrArg BitVec.toNat h).trans (cat3 0#3 x1 x2)
  simp only [BitVec.toNat_ofNat] at h
  have := x1.isLt
  have := x2.isLt
  exact ⟨field_eq (by omega), field_eq (by omega), and_zero [(15, 3)] (by decide) (all_cons (by dsimp only; omega) all_nil)⟩

theorem lay33 {z : BitVec 18} (x0 : BitVec 3) (h : z = x0 ++ 0#15) : Decode.fld z 15 3 = x0 ∧ z &&& 0x7FFF = 0 := by
  have h := (congrArg BitVec.toNat h).trans (cat2 x0 0#15)
  simp only [BitVec.toNat_ofNat] at h
  have := x0.isLt
  exact ⟨field_eq (by omega), and_zero [(0, 15)] (by decide) (all_cons (by dsimp only; omega) all_nil)⟩

theorem lay34 {z : BitVec 18} (x0 : BitVec 3) (x1 : BitVec 6) (x2 : BitVec 4) (h : z = x0 ++ x1 ++ x2 ++ 0#5) : Decode.fld z 15 3 = x0 ∧ Decode.fld z 9 6 = x1 ∧ Decode.fld z 5 4 = x2 ∧ z &&& 0x1F = 0 := by
  have h := (congrArg BitVec.toNat h).trans (cat4 x0 x1 x2 0#5)
  simp only [BitVec.toNat_ofNat] at h
  have := x0.isLt
  have := x1.isLt
  have := x2.isLt
  exact ⟨field_eq (by omega), field_eq (by omega), field_eq (by omega), and_zero [(0, 5)] (by decide) (all_cons (by dsimp only; omega) all_nil)⟩

theorem lay35 {z : BitVec 18} (x1 : BitVec 4) (h : z = 0#6 ++ x1 ++ 0#8) : Decode.fld z 8 4 = x1 ∧ z &&& 0x3F0FF = 0 := by
  have h := (congrArg BitVec.toNat h).trans (cat3 0#6 x1 0#8)
  simp only [BitVec.toNat_ofNat] at h
  have := x1.isLt
  exact ⟨field_eq (by omega), and_zero [(0, 8), (12, 6)] (by decide) (all_cons (by dsimp only; omega) (all_cons (by dsimp only; omega) all_nil))⟩

theorem lay36 {z : BitVec 18} (x1 : BitVec 4) (x3 : BitVec 1) (h : z = 0#6 ++ x1 ++ 0#7 ++ x3) : Decode.fld z 8 4 = x1 ∧ Decode.fld z 0 1 = x3 ∧ z &&& 0x3F0FE = 0 := by
  have h := (congrArg BitVec.toNat h).trans (cat4 0#6 x1 0#7 x3)
  simp only [BitVec.toNat_ofNat] at h
  have := x1.isLt
  have := x3.isLt
  exact ⟨field_eq (by omega), field_eq (by omega), and_zero [(1, 7), (12, 6)] (by decide) (all_cons (by dsimp only; omega) (all_cons (by dsimp only; omega) all_nil))⟩

theorem lay37 {z : BitVec 18} (x0 : BitVec 6) (x1 : BitVec 4) (x2 : BitVec 5) (x3 : BitVec 3) (h : z = x0 ++ x1 ++ x2 ++ x3) : Decode.fld z 12 6 = x0 ∧ Decode.fld z 8 4 = x1 ∧ Decode.fld z 3 5 = x2 ∧ Decode.fld z 0 3 = x3 := by
  have h := (congrArg BitVec.toNat h).trans (cat4 x0 x1 x2 x3)
  have := x0.isLt
  have := x1.isLt
  have := x2.isLt
  have := x3.isLt
  exact ⟨field_eq (by omega), field_eq (by omega), field_eq (by omega), field_eq (by omega)⟩

theorem lay38 {z : BitVec 18} (x0 : BitVec 6) (x1 : BitVec 4) (x3 : BitVec 3) (h : z = x0 ++ x1 ++ 0#5 ++ x3) : Decode.fld z 12 6 = x0 ∧ Decode.fld z 8 4 = x1 ∧ Decode.fld z 0 3 = x3 ∧ z &&& 0xF8 = 0 := by
  have h := (congrArg BitVec.toNat h).trans (cat4 x0 x1 0#5 x3)
  simp only [BitVec.toNat_ofNat] at h
  have := x0.isLt
  have := x1.isLt
  have := x3.isLt
  exact ⟨field_eq (by omega), field_eq (by omega), field_eq (by omega), and_zero [(3, 5)] (by decide) (all_cons (by dsimp only; omega) all_nil)⟩

theorem lay39 {z : BitVec 18} (x0 : BitVec 6) (x1 : BitVec 4) (x2 : BitVec 2) (x3 : BitVec 3) (x4 : BitVec 3) (h : z = x0 ++ x1 ++ x2 ++ x3 ++ x4) : Decode.fld z 12 6 = x0 ∧ Decode.fld z 8 4 = x1 ∧ Decode.fld z 6 2 = x2 ∧ Decode.fld z 3 3 = x3 ∧ Decode.fld z 0 3 = x4 := by
  have h := (congrArg BitVec.toNat h).trans (cat5 x0 x1 x2 x3 x4)
  have := x0.isLt
  have := x1.isLt
  have := x2.isLt
  have := x3.isLt
  have := x4.isLt
  exact ⟨field_eq (by omega), field_eq (by omega), field_eq (by omega), field_eq (by omega), field_eq (by omega)⟩

theorem lay40 {z : BitVec 18} (x1 : BitVec 3) (h : z = 0#15 ++ x1) : Decode.fld z 0 3 = x1 ∧ z &&& 0x3FFF8 = 0 := by
  have h := (congrArg BitVec.toNat h).trans (cat2 0#15 x1)
  simp only [BitVec.toNat_ofNat] at h
  have := x1.isLt
  exact ⟨field_eq (by omega), and_zero [(3, 15)] (by decide) (all_cons (by dsimp only; omega) all_nil)⟩

theorem lay41 {z : BitVec 18} (x1 : BitVec 4) (x2 : BitVec 6) (h : z = 0#6 ++ x1 ++ x2 ++ 0#2) : Decode.fld z 8 4 = x1 ∧ Decode.fld z 2 6 = x2 ∧ z &&& 0x3F003 = 0 := by
  have h := (congrArg BitVec.toNat h).trans (cat4 0#6 x1 x2 0#2)
  simp only [BitVec.toNat_ofNat] at h
  have := x1.isLt
  have := x2.isLt
  exact ⟨field_eq (by omega), field_eq (by omega), and_zero [(0, 2), (12, 6)] (by decide) (all_cons (by dsimp only; omega) (all_cons (by dsimp only; omega) all_nil))⟩

theorem lay42 {z : BitVec 18} (x1 : BitVec 3) (x2 : BitVec 3) (x3 : BitVec 3) (h : z = 0#3 ++ x1 ++ x2 ++ x3 ++ 0#6) : Decode.fld z 12 3 = x1 ∧ Decode.fld z 9 3 = x2 ∧ Decode.fld z 6 3 = x3 ∧ z &&& 0x3803F = 0 := by
  have h := (congrArg BitVec.toNat h).trans (cat5 0#3 x1 x2 x3 0#6)
  simp only [BitVec.toNat_ofNat] at h
  have := x1.isLt
  have := x2.isLt
  have := x3.isLt
  exact ⟨field_eq (by omega), field_eq (by omega), field_eq (by omega), and_zero [(0, 6), (15, 3)] (by decide) (all_cons (by dsimp only; omega) (all_cons (by dsimp only; omega) all_nil))⟩

theorem lay43 {z : BitVec 18} (x1 : BitVec 4) (x2 : BitVec 1) (x4 : BitVec 6) (h : z = 0#6 ++ x1 ++ x2 ++ 0#1 ++ x4) : Decode.fld z 8 4 = x1 ∧ Decode.fld z 7 1 = x2 ∧ Decode.fld z 0 6 = x4 ∧ z &&& 0x3F040 = 0 := by
  have h := (congrArg BitVec.toNat h).trans (cat5 0#6 x1 x2 0#1 x4)
  simp only [BitVec.toNat_ofNat] at h
  have := x1.isLt
  have := x2.isLt
  have := x4.isLt
  exact ⟨field_eq (by omega), field_eq (by omega), field_eq (by omega), and_zero [(6, 1), (12, 6)] (by decide) (all_cons (by dsimp only; omega) (all_cons (by dsimp only; omega) all_nil))⟩

theorem lay44 {z : BitVec 18} (x1 : BitVec 3) (x2 : BitVec 4) (x3 : BitVec 1) (x5 : BitVec 6) (h : z = 0#3 ++ x1 ++ x2 ++ x3 ++ 0#1 ++ x5) : Decode.fld z 12 3 = x1 ∧ Decode.fld z 8 4 = x2 ∧ Decode.fld z 7 1 = x3 ∧ Decode.fld z 0 6 = x5 ∧ z &&& 0x38040 = 0 := by
  have h := (congrArg BitVec.toNat h).trans (cat6 0#3 x1 x2 x3 0#1 x5)
  simp only [BitVec.toNat_ofNat] at h
  have := x1.isLt
  have := x2.isLt
  have := x3.isLt
  have := x5.isLt
  exact ⟨field_eq (by omega), field_eq (by omega), field_eq (by omega), field_eq (by omega), and_zero [(6, 1), (15, 3)] (by decide) (all_cons (by dsimp only; omega) (all_cons (by dsimp only; omega) all_nil))⟩

theorem lay45 {z : BitVec 18} (h : z = 0#18) : z &&& 0x3FFFF = 0 := by
  have h := congrArg BitVec.toNat h
  simp only [BitVec.toNat_ofNat] at h
  exact and_zero [(0, 18)] (by decide) (all_cons (by dsimp only; omega) all_nil)

/-! ## One lemma per constructor -/

theorem add (x_d x_a x_b : BitVec 6) : Statement (.add x_d x_a x_b) := by
  refine of_slot rfl (fun _ => rfl) fun w hp hg ho hx => ?_
  obtain ⟨h_d, h_a, h_b⟩ := lay1 x_d x_a x_b hx
  rw [decode_of (List.mem_singleton.1 hp) ho]
  show Except.ok (Instr.add (Decode.fld (Decode.operands w) 12 6) (Decode.fld (Decode.operands w) 6 6) (Decode.fld (Decode.operands w) 0 6)) = _
  rw [h_d, h_a, h_b]

theorem sub (x_d x_a x_b : BitVec 6) : Statement (.sub x_d x_a x_b) := by
  refine of_slot rfl (fun _ => rfl) fun w hp hg ho hx => ?_
  obtain ⟨h_d, h_a, h_b⟩ := lay1 x_d x_a x_b hx
  rw [decode_of (List.mem_singleton.1 hp) ho]
  show Except.ok (Instr.sub (Decode.fld (Decode.operands w) 12 6) (Decode.fld (Decode.operands w) 6 6) (Decode.fld (Decode.operands w) 0 6)) = _
  rw [h_d, h_a, h_b]

theorem mul (x_d x_a x_b : BitVec 6) : Statement (.mul x_d x_a x_b) := by
  refine of_slot rfl (fun _ => rfl) fun w hp hg ho hx => ?_
  obtain ⟨h_d, h_a, h_b⟩ := lay1 x_d x_a x_b hx
  rw [decode_of (List.mem_singleton.1 hp) ho]
  show Except.ok (Instr.mul (Decode.fld (Decode.operands w) 12 6) (Decode.fld (Decode.operands w) 6 6) (Decode.fld (Decode.operands w) 0 6)) = _
  rw [h_d, h_a, h_b]

theorem mulh (x_d x_a x_b : BitVec 6) : Statement (.mulh x_d x_a x_b) := by
  refine of_slot rfl (fun _ => rfl) fun w hp hg ho hx => ?_
  obtain ⟨h_d, h_a, h_b⟩ := lay1 x_d x_a x_b hx
  rw [decode_of (List.mem_singleton.1 hp) ho]
  show Except.ok (Instr.mulh (Decode.fld (Decode.operands w) 12 6) (Decode.fld (Decode.operands w) 6 6) (Decode.fld (Decode.operands w) 0 6)) = _
  rw [h_d, h_a, h_b]

theorem mulhu (x_d x_a x_b : BitVec 6) : Statement (.mulhu x_d x_a x_b) := by
  refine of_slot rfl (fun _ => rfl) fun w hp hg ho hx => ?_
  obtain ⟨h_d, h_a, h_b⟩ := lay1 x_d x_a x_b hx
  rw [decode_of (List.mem_singleton.1 hp) ho]
  show Except.ok (Instr.mulhu (Decode.fld (Decode.operands w) 12 6) (Decode.fld (Decode.operands w) 6 6) (Decode.fld (Decode.operands w) 0 6)) = _
  rw [h_d, h_a, h_b]

theorem div (x_d x_a x_b : BitVec 6) : Statement (.div x_d x_a x_b) := by
  refine of_slot rfl (fun _ => rfl) fun w hp hg ho hx => ?_
  obtain ⟨h_d, h_a, h_b⟩ := lay1 x_d x_a x_b hx
  rw [decode_of (List.mem_singleton.1 hp) ho]
  show Except.ok (Instr.div (Decode.fld (Decode.operands w) 12 6) (Decode.fld (Decode.operands w) 6 6) (Decode.fld (Decode.operands w) 0 6)) = _
  rw [h_d, h_a, h_b]

theorem divu (x_d x_a x_b : BitVec 6) : Statement (.divu x_d x_a x_b) := by
  refine of_slot rfl (fun _ => rfl) fun w hp hg ho hx => ?_
  obtain ⟨h_d, h_a, h_b⟩ := lay1 x_d x_a x_b hx
  rw [decode_of (List.mem_singleton.1 hp) ho]
  show Except.ok (Instr.divu (Decode.fld (Decode.operands w) 12 6) (Decode.fld (Decode.operands w) 6 6) (Decode.fld (Decode.operands w) 0 6)) = _
  rw [h_d, h_a, h_b]

theorem rem (x_d x_a x_b : BitVec 6) : Statement (.rem x_d x_a x_b) := by
  refine of_slot rfl (fun _ => rfl) fun w hp hg ho hx => ?_
  obtain ⟨h_d, h_a, h_b⟩ := lay1 x_d x_a x_b hx
  rw [decode_of (List.mem_singleton.1 hp) ho]
  show Except.ok (Instr.rem (Decode.fld (Decode.operands w) 12 6) (Decode.fld (Decode.operands w) 6 6) (Decode.fld (Decode.operands w) 0 6)) = _
  rw [h_d, h_a, h_b]

theorem remu (x_d x_a x_b : BitVec 6) : Statement (.remu x_d x_a x_b) := by
  refine of_slot rfl (fun _ => rfl) fun w hp hg ho hx => ?_
  obtain ⟨h_d, h_a, h_b⟩ := lay1 x_d x_a x_b hx
  rw [decode_of (List.mem_singleton.1 hp) ho]
  show Except.ok (Instr.remu (Decode.fld (Decode.operands w) 12 6) (Decode.fld (Decode.operands w) 6 6) (Decode.fld (Decode.operands w) 0 6)) = _
  rw [h_d, h_a, h_b]

theorem and (x_d x_a x_b : BitVec 6) : Statement (.and x_d x_a x_b) := by
  refine of_slot rfl (fun _ => rfl) fun w hp hg ho hx => ?_
  obtain ⟨h_d, h_a, h_b⟩ := lay1 x_d x_a x_b hx
  rw [decode_of (List.mem_singleton.1 hp) ho]
  show Except.ok (Instr.and (Decode.fld (Decode.operands w) 12 6) (Decode.fld (Decode.operands w) 6 6) (Decode.fld (Decode.operands w) 0 6)) = _
  rw [h_d, h_a, h_b]

theorem or (x_d x_a x_b : BitVec 6) : Statement (.or x_d x_a x_b) := by
  refine of_slot rfl (fun _ => rfl) fun w hp hg ho hx => ?_
  obtain ⟨h_d, h_a, h_b⟩ := lay1 x_d x_a x_b hx
  rw [decode_of (List.mem_singleton.1 hp) ho]
  show Except.ok (Instr.or (Decode.fld (Decode.operands w) 12 6) (Decode.fld (Decode.operands w) 6 6) (Decode.fld (Decode.operands w) 0 6)) = _
  rw [h_d, h_a, h_b]

theorem xor (x_d x_a x_b : BitVec 6) : Statement (.xor x_d x_a x_b) := by
  refine of_slot rfl (fun _ => rfl) fun w hp hg ho hx => ?_
  obtain ⟨h_d, h_a, h_b⟩ := lay1 x_d x_a x_b hx
  rw [decode_of (List.mem_singleton.1 hp) ho]
  show Except.ok (Instr.xor (Decode.fld (Decode.operands w) 12 6) (Decode.fld (Decode.operands w) 6 6) (Decode.fld (Decode.operands w) 0 6)) = _
  rw [h_d, h_a, h_b]

theorem andn (x_d x_a x_b : BitVec 6) : Statement (.andn x_d x_a x_b) := by
  refine of_slot rfl (fun _ => rfl) fun w hp hg ho hx => ?_
  obtain ⟨h_d, h_a, h_b⟩ := lay1 x_d x_a x_b hx
  rw [decode_of (List.mem_singleton.1 hp) ho]
  show Except.ok (Instr.andn (Decode.fld (Decode.operands w) 12 6) (Decode.fld (Decode.operands w) 6 6) (Decode.fld (Decode.operands w) 0 6)) = _
  rw [h_d, h_a, h_b]

theorem shl (x_d x_a x_b : BitVec 6) : Statement (.shl x_d x_a x_b) := by
  refine of_slot rfl (fun _ => rfl) fun w hp hg ho hx => ?_
  obtain ⟨h_d, h_a, h_b⟩ := lay1 x_d x_a x_b hx
  rw [decode_of (List.mem_singleton.1 hp) ho]
  show Except.ok (Instr.shl (Decode.fld (Decode.operands w) 12 6) (Decode.fld (Decode.operands w) 6 6) (Decode.fld (Decode.operands w) 0 6)) = _
  rw [h_d, h_a, h_b]

theorem shr (x_d x_a x_b : BitVec 6) : Statement (.shr x_d x_a x_b) := by
  refine of_slot rfl (fun _ => rfl) fun w hp hg ho hx => ?_
  obtain ⟨h_d, h_a, h_b⟩ := lay1 x_d x_a x_b hx
  rw [decode_of (List.mem_singleton.1 hp) ho]
  show Except.ok (Instr.shr (Decode.fld (Decode.operands w) 12 6) (Decode.fld (Decode.operands w) 6 6) (Decode.fld (Decode.operands w) 0 6)) = _
  rw [h_d, h_a, h_b]

theorem sra (x_d x_a x_b : BitVec 6) : Statement (.sra x_d x_a x_b) := by
  refine of_slot rfl (fun _ => rfl) fun w hp hg ho hx => ?_
  obtain ⟨h_d, h_a, h_b⟩ := lay1 x_d x_a x_b hx
  rw [decode_of (List.mem_singleton.1 hp) ho]
  show Except.ok (Instr.sra (Decode.fld (Decode.operands w) 12 6) (Decode.fld (Decode.operands w) 6 6) (Decode.fld (Decode.operands w) 0 6)) = _
  rw [h_d, h_a, h_b]

theorem rotl (x_d x_a x_b : BitVec 6) : Statement (.rotl x_d x_a x_b) := by
  refine of_slot rfl (fun _ => rfl) fun w hp hg ho hx => ?_
  obtain ⟨h_d, h_a, h_b⟩ := lay1 x_d x_a x_b hx
  rw [decode_of (List.mem_singleton.1 hp) ho]
  show Except.ok (Instr.rotl (Decode.fld (Decode.operands w) 12 6) (Decode.fld (Decode.operands w) 6 6) (Decode.fld (Decode.operands w) 0 6)) = _
  rw [h_d, h_a, h_b]

theorem min (x_d x_a x_b : BitVec 6) : Statement (.min x_d x_a x_b) := by
  refine of_slot rfl (fun _ => rfl) fun w hp hg ho hx => ?_
  obtain ⟨h_d, h_a, h_b⟩ := lay1 x_d x_a x_b hx
  rw [decode_of (List.mem_singleton.1 hp) ho]
  show Except.ok (Instr.min (Decode.fld (Decode.operands w) 12 6) (Decode.fld (Decode.operands w) 6 6) (Decode.fld (Decode.operands w) 0 6)) = _
  rw [h_d, h_a, h_b]

theorem max (x_d x_a x_b : BitVec 6) : Statement (.max x_d x_a x_b) := by
  refine of_slot rfl (fun _ => rfl) fun w hp hg ho hx => ?_
  obtain ⟨h_d, h_a, h_b⟩ := lay1 x_d x_a x_b hx
  rw [decode_of (List.mem_singleton.1 hp) ho]
  show Except.ok (Instr.max (Decode.fld (Decode.operands w) 12 6) (Decode.fld (Decode.operands w) 6 6) (Decode.fld (Decode.operands w) 0 6)) = _
  rw [h_d, h_a, h_b]

theorem minu (x_d x_a x_b : BitVec 6) : Statement (.minu x_d x_a x_b) := by
  refine of_slot rfl (fun _ => rfl) fun w hp hg ho hx => ?_
  obtain ⟨h_d, h_a, h_b⟩ := lay1 x_d x_a x_b hx
  rw [decode_of (List.mem_singleton.1 hp) ho]
  show Except.ok (Instr.minu (Decode.fld (Decode.operands w) 12 6) (Decode.fld (Decode.operands w) 6 6) (Decode.fld (Decode.operands w) 0 6)) = _
  rw [h_d, h_a, h_b]

theorem maxu (x_d x_a x_b : BitVec 6) : Statement (.maxu x_d x_a x_b) := by
  refine of_slot rfl (fun _ => rfl) fun w hp hg ho hx => ?_
  obtain ⟨h_d, h_a, h_b⟩ := lay1 x_d x_a x_b hx
  rw [decode_of (List.mem_singleton.1 hp) ho]
  show Except.ok (Instr.maxu (Decode.fld (Decode.operands w) 12 6) (Decode.fld (Decode.operands w) 6 6) (Decode.fld (Decode.operands w) 0 6)) = _
  rw [h_d, h_a, h_b]

theorem clz (x_d x_a : BitVec 6) : Statement (.clz x_d x_a) := by
  refine of_slot rfl (fun _ => rfl) fun w hp hg ho hx => ?_
  obtain ⟨h_d, h_a, hm⟩ := lay2 x_d x_a hx
  rw [decode_of (List.mem_singleton.1 hp) ho]
  show Decode.clear 0x3F _ (Instr.clz (Decode.fld (Decode.operands w) 12 6) (Decode.fld (Decode.operands w) 6 6)) = _
  rw [clear_ok hm, h_d, h_a]

theorem ctz (x_d x_a : BitVec 6) : Statement (.ctz x_d x_a) := by
  refine of_slot rfl (fun _ => rfl) fun w hp hg ho hx => ?_
  obtain ⟨h_d, h_a, hm⟩ := lay2 x_d x_a hx
  rw [decode_of (List.mem_singleton.1 hp) ho]
  show Decode.clear 0x3F _ (Instr.ctz (Decode.fld (Decode.operands w) 12 6) (Decode.fld (Decode.operands w) 6 6)) = _
  rw [clear_ok hm, h_d, h_a]

theorem popc (x_d x_a : BitVec 6) : Statement (.popc x_d x_a) := by
  refine of_slot rfl (fun _ => rfl) fun w hp hg ho hx => ?_
  obtain ⟨h_d, h_a, hm⟩ := lay2 x_d x_a hx
  rw [decode_of (List.mem_singleton.1 hp) ho]
  show Decode.clear 0x3F _ (Instr.popc (Decode.fld (Decode.operands w) 12 6) (Decode.fld (Decode.operands w) 6 6)) = _
  rw [clear_ok hm, h_d, h_a]

theorem sext (x_d x_a x_n : BitVec 6) : Statement (.sext x_d x_a x_n) := by
  refine of_slot rfl (fun _ => rfl) fun w hp hg ho hx => ?_
  obtain ⟨h_d, h_a, h_n⟩ := lay1 x_d x_a x_n hx
  rw [decode_of (List.mem_singleton.1 hp) ho]
  show Except.ok (Instr.sext (Decode.fld (Decode.operands w) 12 6) (Decode.fld (Decode.operands w) 6 6) (Decode.fld (Decode.operands w) 0 6)) = _
  rw [h_d, h_a, h_n]

theorem zext (x_d x_a x_n : BitVec 6) : Statement (.zext x_d x_a x_n) := by
  refine of_slot rfl (fun _ => rfl) fun w hp hg ho hx => ?_
  obtain ⟨h_d, h_a, h_n⟩ := lay1 x_d x_a x_n hx
  rw [decode_of (List.mem_singleton.1 hp) ho]
  show Except.ok (Instr.zext (Decode.fld (Decode.operands w) 12 6) (Decode.fld (Decode.operands w) 6 6) (Decode.fld (Decode.operands w) 0 6)) = _
  rw [h_d, h_a, h_n]

theorem addi (x_d x_a x_i : BitVec 6) : Statement (.addi x_d x_a x_i) := by
  refine of_slot rfl (fun _ => rfl) fun w hp hg ho hx => ?_
  obtain ⟨h_d, h_a, h_i⟩ := lay1 x_d x_a x_i hx
  rw [decode_of (List.mem_singleton.1 hp) ho]
  show Except.ok (Instr.addi (Decode.fld (Decode.operands w) 12 6) (Decode.fld (Decode.operands w) 6 6) (Decode.fld (Decode.operands w) 0 6)) = _
  rw [h_d, h_a, h_i]

theorem andi (x_d x_a x_i : BitVec 6) : Statement (.andi x_d x_a x_i) := by
  refine of_slot rfl (fun _ => rfl) fun w hp hg ho hx => ?_
  obtain ⟨h_d, h_a, h_i⟩ := lay1 x_d x_a x_i hx
  rw [decode_of (List.mem_singleton.1 hp) ho]
  show Except.ok (Instr.andi (Decode.fld (Decode.operands w) 12 6) (Decode.fld (Decode.operands w) 6 6) (Decode.fld (Decode.operands w) 0 6)) = _
  rw [h_d, h_a, h_i]

theorem ori (x_d x_a x_i : BitVec 6) : Statement (.ori x_d x_a x_i) := by
  refine of_slot rfl (fun _ => rfl) fun w hp hg ho hx => ?_
  obtain ⟨h_d, h_a, h_i⟩ := lay1 x_d x_a x_i hx
  rw [decode_of (List.mem_singleton.1 hp) ho]
  show Except.ok (Instr.ori (Decode.fld (Decode.operands w) 12 6) (Decode.fld (Decode.operands w) 6 6) (Decode.fld (Decode.operands w) 0 6)) = _
  rw [h_d, h_a, h_i]

theorem shli (x_d x_a x_i : BitVec 6) : Statement (.shli x_d x_a x_i) := by
  refine of_slot rfl (fun _ => rfl) fun w hp hg ho hx => ?_
  obtain ⟨h_d, h_a, h_i⟩ := lay1 x_d x_a x_i hx
  rw [decode_of (List.mem_singleton.1 hp) ho]
  show Except.ok (Instr.shli (Decode.fld (Decode.operands w) 12 6) (Decode.fld (Decode.operands w) 6 6) (Decode.fld (Decode.operands w) 0 6)) = _
  rw [h_d, h_a, h_i]

theorem shri (x_d x_a x_i : BitVec 6) : Statement (.shri x_d x_a x_i) := by
  refine of_slot rfl (fun _ => rfl) fun w hp hg ho hx => ?_
  obtain ⟨h_d, h_a, h_i⟩ := lay1 x_d x_a x_i hx
  rw [decode_of (List.mem_singleton.1 hp) ho]
  show Except.ok (Instr.shri (Decode.fld (Decode.operands w) 12 6) (Decode.fld (Decode.operands w) 6 6) (Decode.fld (Decode.operands w) 0 6)) = _
  rw [h_d, h_a, h_i]

theorem srai (x_d x_a x_i : BitVec 6) : Statement (.srai x_d x_a x_i) := by
  refine of_slot rfl (fun _ => rfl) fun w hp hg ho hx => ?_
  obtain ⟨h_d, h_a, h_i⟩ := lay1 x_d x_a x_i hx
  rw [decode_of (List.mem_singleton.1 hp) ho]
  show Except.ok (Instr.srai (Decode.fld (Decode.operands w) 12 6) (Decode.fld (Decode.operands w) 6 6) (Decode.fld (Decode.operands w) 0 6)) = _
  rw [h_d, h_a, h_i]

theorem movi (x_d : BitVec 6) (x_i : BitVec 12) : Statement (.movi x_d x_i) := by
  refine of_slot rfl (fun _ => rfl) fun w hp hg ho hx => ?_
  obtain ⟨h_d, h_i⟩ := lay3 x_d x_i hx
  rw [decode_of (List.mem_singleton.1 hp) ho]
  show Except.ok (Instr.movi (Decode.fld (Decode.operands w) 12 6) (Decode.fld (Decode.operands w) 0 12)) = _
  rw [h_d, h_i]

theorem movhi (x_d : BitVec 6) (x_i : BitVec 12) : Statement (.movhi x_d x_i) := by
  refine of_slot rfl (fun _ => rfl) fun w hp hg ho hx => ?_
  obtain ⟨h_d, h_i⟩ := lay3 x_d x_i hx
  rw [decode_of (List.mem_singleton.1 hp) ho]
  show Except.ok (Instr.movhi (Decode.fld (Decode.operands w) 12 6) (Decode.fld (Decode.operands w) 0 12)) = _
  rw [h_d, h_i]

theorem sel (x_q : BitVec 4) (x_d x_a x_b : BitVec 6) : Statement (.sel x_q x_d x_a x_b) := by
  refine of_slot rfl (fun _ => rfl) fun w hp hg ho hx => ?_
  obtain ⟨h_d, h_a, h_b⟩ := lay1 x_d x_a x_b hx
  rw [decode_of (List.mem_singleton.1 hp) ho]
  show Except.ok (Instr.sel (Decode.guard w) (Decode.fld (Decode.operands w) 12 6) (Decode.fld (Decode.operands w) 6 6) (Decode.fld (Decode.operands w) 0 6)) = _
  rw [h_d, h_a, h_b, ← hg]
  rfl

theorem cmp (x_r x_c : BitVec 3) (x_a x_b : BitVec 6) : Statement (.cmp x_r x_c x_a x_b) := by
  refine of_slot rfl (fun _ => rfl) fun w hp hg ho hx => ?_
  obtain ⟨h_r, h_c, h_a, h_b⟩ := lay4 x_r x_c x_a x_b hx
  rw [decode_of (List.mem_singleton.1 hp) ho]
  show Except.ok (Instr.cmp (Decode.fld (Decode.operands w) 15 3) (Decode.fld (Decode.operands w) 12 3) (Decode.fld (Decode.operands w) 6 6) (Decode.fld (Decode.operands w) 0 6)) = _
  rw [h_r, h_c, h_a, h_b]

theorem cmpi (x_r x_c : BitVec 3) (x_a x_i : BitVec 6) : Statement (.cmpi x_r x_c x_a x_i) := by
  refine of_slot rfl (fun _ => rfl) fun w hp hg ho hx => ?_
  obtain ⟨h_r, h_c, h_a, h_i⟩ := lay4 x_r x_c x_a x_i hx
  rw [decode_of (List.mem_singleton.1 hp) ho]
  show Except.ok (Instr.cmpi (Decode.fld (Decode.operands w) 15 3) (Decode.fld (Decode.operands w) 12 3) (Decode.fld (Decode.operands w) 6 6) (Decode.fld (Decode.operands w) 0 6)) = _
  rw [h_r, h_c, h_a, h_i]

theorem lds (x_d x_a x_i : BitVec 6) : Statement (.lds x_d x_a x_i) := by
  refine of_slot rfl (fun _ => rfl) fun w hp hg ho hx => ?_
  obtain ⟨h_d, h_a, h_i⟩ := lay1 x_d x_a x_i hx
  rw [decode_of (List.mem_singleton.1 hp) ho]
  show Except.ok (Instr.lds (Decode.fld (Decode.operands w) 12 6) (Decode.fld (Decode.operands w) 6 6) (Decode.fld (Decode.operands w) 0 6)) = _
  rw [h_d, h_a, h_i]

theorem sts (x_d x_a x_i : BitVec 6) : Statement (.sts x_d x_a x_i) := by
  refine of_slot rfl (fun _ => rfl) fun w hp hg ho hx => ?_
  obtain ⟨h_d, h_a, h_i⟩ := lay1 x_d x_a x_i hx
  rw [decode_of (List.mem_singleton.1 hp) ho]
  show Except.ok (Instr.sts (Decode.fld (Decode.operands w) 12 6) (Decode.fld (Decode.operands w) 6 6) (Decode.fld (Decode.operands w) 0 6)) = _
  rw [h_d, h_a, h_i]

theorem br (x_i : BitVec 18) : Statement (.br x_i) := by
  refine of_slot rfl (fun _ => rfl) fun w hp hg ho hx => ?_
  have h_i := lay5 x_i hx
  rw [decode_of (List.mem_singleton.1 hp) ho]
  show Except.ok (Instr.br (Decode.fld (Decode.operands w) 0 18)) = _
  rw [h_i]

theorem bri (x_a : BitVec 6) : Statement (.bri x_a) := by
  refine of_slot rfl (fun _ => rfl) fun w hp hg ho hx => ?_
  obtain ⟨h_a, hm⟩ := lay6 x_a hx
  rw [decode_of (List.mem_singleton.1 hp) ho]
  show Decode.clear 0x3F03F _ (Instr.bri (Decode.fld (Decode.operands w) 6 6)) = _
  rw [clear_ok hm, h_a]

theorem call (x_i : BitVec 18) : Statement (.call x_i) := by
  refine of_slot rfl (fun _ => rfl) fun w hp hg ho hx => ?_
  have h_i := lay5 x_i hx
  rw [decode_of (List.mem_singleton.1 hp) ho]
  show Except.ok (Instr.call (Decode.fld (Decode.operands w) 0 18)) = _
  rw [h_i]

theorem launch (x_a : BitVec 6) : Statement (.launch x_a) := by
  refine of_slot rfl (fun _ => rfl) fun w hp hg ho hx => ?_
  obtain ⟨h_a, hm⟩ := lay6 x_a hx
  rw [decode_of (List.mem_singleton.1 hp) ho]
  show Decode.clear 0x3F03F _ (Instr.launch (Decode.fld (Decode.operands w) 6 6)) = _
  rw [clear_ok hm, h_a]

theorem park (x_a x_b : BitVec 6) : Statement (.park x_a x_b) := by
  refine of_slot rfl (fun _ => rfl) fun w hp hg ho hx => ?_
  obtain ⟨h_a, h_b, hm⟩ := lay7 x_a x_b hx
  rw [decode_of (List.mem_singleton.1 hp) ho]
  show Decode.clear 0x3F000 _ (Instr.park (Decode.fld (Decode.operands w) 6 6) (Decode.fld (Decode.operands w) 0 6)) = _
  rw [clear_ok hm, h_a, h_b]

theorem trap (x_i : BitVec 12) : Statement (.trap x_i) := by
  refine of_slot rfl (fun _ => rfl) fun w hp hg ho hx => ?_
  obtain ⟨h_i, hm⟩ := lay8 x_i hx
  rw [decode_of (List.mem_singleton.1 hp) ho]
  show Decode.clear 0x3F000 _ (Instr.trap (Decode.fld (Decode.operands w) 0 12)) = _
  rw [clear_ok hm, h_i]

theorem csrr (x_d : BitVec 6) (x_i : BitVec 12) : Statement (.csrr x_d x_i) := by
  refine of_slot rfl (fun _ => rfl) fun w hp hg ho hx => ?_
  obtain ⟨h_d, h_i⟩ := lay3 x_d x_i hx
  rw [decode_of (List.mem_singleton.1 hp) ho]
  show Except.ok (Instr.csrr (Decode.fld (Decode.operands w) 12 6) (Decode.fld (Decode.operands w) 0 12)) = _
  rw [h_d, h_i]

theorem csrw (x_d : BitVec 6) (x_i : BitVec 12) : Statement (.csrw x_d x_i) := by
  refine of_slot rfl (fun _ => rfl) fun w hp hg ho hx => ?_
  obtain ⟨h_d, h_i⟩ := lay3 x_d x_i hx
  rw [decode_of (List.mem_singleton.1 hp) ho]
  show Except.ok (Instr.csrw (Decode.fld (Decode.operands w) 12 6) (Decode.fld (Decode.operands w) 0 12)) = _
  rw [h_d, h_i]

theorem csrs (x_d : BitVec 6) (x_i : BitVec 12) : Statement (.csrs x_d x_i) := by
  refine of_slot rfl (fun _ => rfl) fun w hp hg ho hx => ?_
  obtain ⟨h_d, h_i⟩ := lay3 x_d x_i hx
  rw [decode_of (List.mem_singleton.1 hp) ho]
  show Except.ok (Instr.csrs (Decode.fld (Decode.operands w) 12 6) (Decode.fld (Decode.operands w) 0 12)) = _
  rw [h_d, h_i]

theorem edw (x_d x_a : BitVec 6) (x_w : BitVec 2) : Statement (.edw x_d x_a x_w) := by
  refine of_slot rfl (fun _ => rfl) fun w hp hg ho hx => ?_
  obtain ⟨h_d, h_a, h_w, hm⟩ := lay9 x_d x_a x_w hx
  rw [decode_of (List.mem_singleton.1 hp) ho]
  show Decode.clear 0x3C _ (Instr.edw (Decode.fld (Decode.operands w) 12 6) (Decode.fld (Decode.operands w) 6 6) (Decode.fld (Decode.operands w) 0 2)) = _
  rw [clear_ok hm, h_d, h_a, h_w]

theorem edld (x_d x_a x_i : BitVec 6) : Statement (.edld x_d x_a x_i) := by
  refine of_slot rfl (fun _ => rfl) fun w hp hg ho hx => ?_
  obtain ⟨h_d, h_a, h_i⟩ := lay1 x_d x_a x_i hx
  rw [decode_of (List.mem_singleton.1 hp) ho]
  show Except.ok (Instr.edld (Decode.fld (Decode.operands w) 12 6) (Decode.fld (Decode.operands w) 6 6) (Decode.fld (Decode.operands w) 0 6)) = _
  rw [h_d, h_a, h_i]

theorem seg (x_i : BitVec 18) : Statement (.seg x_i) := by
  refine of_slot rfl (fun _ => rfl) fun w hp hg ho hx => ?_
  have h_i := lay5 x_i hx
  rw [decode_of (List.mem_singleton.1 hp) ho]
  show Except.ok (Instr.seg (Decode.fld (Decode.operands w) 0 18)) = _
  rw [h_i]

theorem rdv (x_i : BitVec 18) : Statement (.rdv x_i) := by
  refine of_slot rfl (fun _ => rfl) fun w hp hg ho hx => ?_
  have h_i := lay5 x_i hx
  rw [decode_of (List.mem_singleton.1 hp) ho]
  show Except.ok (Instr.rdv (Decode.fld (Decode.operands w) 0 18)) = _
  rw [h_i]

theorem faddV0 (x_d x_a x_b : BitVec 6) : Statement (.faddV0 x_d x_a x_b) := by
  refine of_slot rfl (fun _ => rfl) fun w hp hg ho hx => ?_
  obtain ⟨h_d, h_a, h_b⟩ := lay1 x_d x_a x_b hx
  rw [decode_of (List.mem_singleton.1 hp) ho]
  show Except.ok (Instr.faddV0 (Decode.fld (Decode.operands w) 12 6) (Decode.fld (Decode.operands w) 6 6) (Decode.fld (Decode.operands w) 0 6)) = _
  rw [h_d, h_a, h_b]

theorem faddV1 (x_d x_a x_b : BitVec 6) : Statement (.faddV1 x_d x_a x_b) := by
  refine of_slot rfl (fun _ => rfl) fun w hp hg ho hx => ?_
  obtain ⟨h_d, h_a, h_b⟩ := lay1 x_d x_a x_b hx
  rw [decode_of (List.mem_singleton.1 hp) ho]
  show Except.ok (Instr.faddV1 (Decode.fld (Decode.operands w) 12 6) (Decode.fld (Decode.operands w) 6 6) (Decode.fld (Decode.operands w) 0 6)) = _
  rw [h_d, h_a, h_b]

theorem fsubV0 (x_d x_a x_b : BitVec 6) : Statement (.fsubV0 x_d x_a x_b) := by
  refine of_slot rfl (fun _ => rfl) fun w hp hg ho hx => ?_
  obtain ⟨h_d, h_a, h_b⟩ := lay1 x_d x_a x_b hx
  rw [decode_of (List.mem_singleton.1 hp) ho]
  show Except.ok (Instr.fsubV0 (Decode.fld (Decode.operands w) 12 6) (Decode.fld (Decode.operands w) 6 6) (Decode.fld (Decode.operands w) 0 6)) = _
  rw [h_d, h_a, h_b]

theorem fsubV1 (x_d x_a x_b : BitVec 6) : Statement (.fsubV1 x_d x_a x_b) := by
  refine of_slot rfl (fun _ => rfl) fun w hp hg ho hx => ?_
  obtain ⟨h_d, h_a, h_b⟩ := lay1 x_d x_a x_b hx
  rw [decode_of (List.mem_singleton.1 hp) ho]
  show Except.ok (Instr.fsubV1 (Decode.fld (Decode.operands w) 12 6) (Decode.fld (Decode.operands w) 6 6) (Decode.fld (Decode.operands w) 0 6)) = _
  rw [h_d, h_a, h_b]

theorem fmulV0 (x_d x_a x_b : BitVec 6) : Statement (.fmulV0 x_d x_a x_b) := by
  refine of_slot rfl (fun _ => rfl) fun w hp hg ho hx => ?_
  obtain ⟨h_d, h_a, h_b⟩ := lay1 x_d x_a x_b hx
  rw [decode_of (List.mem_singleton.1 hp) ho]
  show Except.ok (Instr.fmulV0 (Decode.fld (Decode.operands w) 12 6) (Decode.fld (Decode.operands w) 6 6) (Decode.fld (Decode.operands w) 0 6)) = _
  rw [h_d, h_a, h_b]

theorem fmulV1 (x_d x_a x_b : BitVec 6) : Statement (.fmulV1 x_d x_a x_b) := by
  refine of_slot rfl (fun _ => rfl) fun w hp hg ho hx => ?_
  obtain ⟨h_d, h_a, h_b⟩ := lay1 x_d x_a x_b hx
  rw [decode_of (List.mem_singleton.1 hp) ho]
  show Except.ok (Instr.fmulV1 (Decode.fld (Decode.operands w) 12 6) (Decode.fld (Decode.operands w) 6 6) (Decode.fld (Decode.operands w) 0 6)) = _
  rw [h_d, h_a, h_b]

theorem fmaV0 (x_d x_a x_b : BitVec 6) : Statement (.fmaV0 x_d x_a x_b) := by
  refine of_slot rfl (fun _ => rfl) fun w hp hg ho hx => ?_
  obtain ⟨h_d, h_a, h_b⟩ := lay1 x_d x_a x_b hx
  rw [decode_of (List.mem_singleton.1 hp) ho]
  show Except.ok (Instr.fmaV0 (Decode.fld (Decode.operands w) 12 6) (Decode.fld (Decode.operands w) 6 6) (Decode.fld (Decode.operands w) 0 6)) = _
  rw [h_d, h_a, h_b]

theorem fmaV1 (x_d x_a x_b : BitVec 6) : Statement (.fmaV1 x_d x_a x_b) := by
  refine of_slot rfl (fun _ => rfl) fun w hp hg ho hx => ?_
  obtain ⟨h_d, h_a, h_b⟩ := lay1 x_d x_a x_b hx
  rw [decode_of (List.mem_singleton.1 hp) ho]
  show Except.ok (Instr.fmaV1 (Decode.fld (Decode.operands w) 12 6) (Decode.fld (Decode.operands w) 6 6) (Decode.fld (Decode.operands w) 0 6)) = _
  rw [h_d, h_a, h_b]

theorem fmsV0 (x_d x_a x_b : BitVec 6) : Statement (.fmsV0 x_d x_a x_b) := by
  refine of_slot rfl (fun _ => rfl) fun w hp hg ho hx => ?_
  obtain ⟨h_d, h_a, h_b⟩ := lay1 x_d x_a x_b hx
  rw [decode_of (List.mem_singleton.1 hp) ho]
  show Except.ok (Instr.fmsV0 (Decode.fld (Decode.operands w) 12 6) (Decode.fld (Decode.operands w) 6 6) (Decode.fld (Decode.operands w) 0 6)) = _
  rw [h_d, h_a, h_b]

theorem fmsV1 (x_d x_a x_b : BitVec 6) : Statement (.fmsV1 x_d x_a x_b) := by
  refine of_slot rfl (fun _ => rfl) fun w hp hg ho hx => ?_
  obtain ⟨h_d, h_a, h_b⟩ := lay1 x_d x_a x_b hx
  rw [decode_of (List.mem_singleton.1 hp) ho]
  show Except.ok (Instr.fmsV1 (Decode.fld (Decode.operands w) 12 6) (Decode.fld (Decode.operands w) 6 6) (Decode.fld (Decode.operands w) 0 6)) = _
  rw [h_d, h_a, h_b]

theorem fminV0 (x_d x_a x_b : BitVec 6) : Statement (.fminV0 x_d x_a x_b) := by
  refine of_slot rfl (fun _ => rfl) fun w hp hg ho hx => ?_
  obtain ⟨h_d, h_a, h_b⟩ := lay1 x_d x_a x_b hx
  rw [decode_of (List.mem_singleton.1 hp) ho]
  show Except.ok (Instr.fminV0 (Decode.fld (Decode.operands w) 12 6) (Decode.fld (Decode.operands w) 6 6) (Decode.fld (Decode.operands w) 0 6)) = _
  rw [h_d, h_a, h_b]

theorem fminV1 (x_d x_a x_b : BitVec 6) : Statement (.fminV1 x_d x_a x_b) := by
  refine of_slot rfl (fun _ => rfl) fun w hp hg ho hx => ?_
  obtain ⟨h_d, h_a, h_b⟩ := lay1 x_d x_a x_b hx
  rw [decode_of (List.mem_singleton.1 hp) ho]
  show Except.ok (Instr.fminV1 (Decode.fld (Decode.operands w) 12 6) (Decode.fld (Decode.operands w) 6 6) (Decode.fld (Decode.operands w) 0 6)) = _
  rw [h_d, h_a, h_b]

theorem fmaxV0 (x_d x_a x_b : BitVec 6) : Statement (.fmaxV0 x_d x_a x_b) := by
  refine of_slot rfl (fun _ => rfl) fun w hp hg ho hx => ?_
  obtain ⟨h_d, h_a, h_b⟩ := lay1 x_d x_a x_b hx
  rw [decode_of (List.mem_singleton.1 hp) ho]
  show Except.ok (Instr.fmaxV0 (Decode.fld (Decode.operands w) 12 6) (Decode.fld (Decode.operands w) 6 6) (Decode.fld (Decode.operands w) 0 6)) = _
  rw [h_d, h_a, h_b]

theorem fmaxV1 (x_d x_a x_b : BitVec 6) : Statement (.fmaxV1 x_d x_a x_b) := by
  refine of_slot rfl (fun _ => rfl) fun w hp hg ho hx => ?_
  obtain ⟨h_d, h_a, h_b⟩ := lay1 x_d x_a x_b hx
  rw [decode_of (List.mem_singleton.1 hp) ho]
  show Except.ok (Instr.fmaxV1 (Decode.fld (Decode.operands w) 12 6) (Decode.fld (Decode.operands w) 6 6) (Decode.fld (Decode.operands w) 0 6)) = _
  rw [h_d, h_a, h_b]

theorem fabsV0 (x_d x_a : BitVec 6) : Statement (.fabsV0 x_d x_a) := by
  refine of_slot rfl (fun _ => rfl) fun w hp hg ho hx => ?_
  obtain ⟨h_d, h_a, hm⟩ := lay2 x_d x_a hx
  rw [decode_of (List.mem_singleton.1 hp) ho]
  show Decode.clear 0x3F _ (Instr.fabsV0 (Decode.fld (Decode.operands w) 12 6) (Decode.fld (Decode.operands w) 6 6)) = _
  rw [clear_ok hm, h_d, h_a]

theorem fabsV1 (x_d x_a : BitVec 6) : Statement (.fabsV1 x_d x_a) := by
  refine of_slot rfl (fun _ => rfl) fun w hp hg ho hx => ?_
  obtain ⟨h_d, h_a, hm⟩ := lay2 x_d x_a hx
  rw [decode_of (List.mem_singleton.1 hp) ho]
  show Decode.clear 0x3F _ (Instr.fabsV1 (Decode.fld (Decode.operands w) 12 6) (Decode.fld (Decode.operands w) 6 6)) = _
  rw [clear_ok hm, h_d, h_a]

theorem fnegV0 (x_d x_a : BitVec 6) : Statement (.fnegV0 x_d x_a) := by
  refine of_slot rfl (fun _ => rfl) fun w hp hg ho hx => ?_
  obtain ⟨h_d, h_a, hm⟩ := lay2 x_d x_a hx
  rw [decode_of (List.mem_singleton.1 hp) ho]
  show Decode.clear 0x3F _ (Instr.fnegV0 (Decode.fld (Decode.operands w) 12 6) (Decode.fld (Decode.operands w) 6 6)) = _
  rw [clear_ok hm, h_d, h_a]

theorem fnegV1 (x_d x_a : BitVec 6) : Statement (.fnegV1 x_d x_a) := by
  refine of_slot rfl (fun _ => rfl) fun w hp hg ho hx => ?_
  obtain ⟨h_d, h_a, hm⟩ := lay2 x_d x_a hx
  rw [decode_of (List.mem_singleton.1 hp) ho]
  show Decode.clear 0x3F _ (Instr.fnegV1 (Decode.fld (Decode.operands w) 12 6) (Decode.fld (Decode.operands w) 6 6)) = _
  rw [clear_ok hm, h_d, h_a]

theorem fcpysV0 (x_d x_a x_b : BitVec 6) : Statement (.fcpysV0 x_d x_a x_b) := by
  refine of_slot rfl (fun _ => rfl) fun w hp hg ho hx => ?_
  obtain ⟨h_d, h_a, h_b⟩ := lay1 x_d x_a x_b hx
  rw [decode_of (List.mem_singleton.1 hp) ho]
  show Except.ok (Instr.fcpysV0 (Decode.fld (Decode.operands w) 12 6) (Decode.fld (Decode.operands w) 6 6) (Decode.fld (Decode.operands w) 0 6)) = _
  rw [h_d, h_a, h_b]

theorem fcpysV1 (x_d x_a x_b : BitVec 6) : Statement (.fcpysV1 x_d x_a x_b) := by
  refine of_slot rfl (fun _ => rfl) fun w hp hg ho hx => ?_
  obtain ⟨h_d, h_a, h_b⟩ := lay1 x_d x_a x_b hx
  rw [decode_of (List.mem_singleton.1 hp) ho]
  show Except.ok (Instr.fcpysV1 (Decode.fld (Decode.operands w) 12 6) (Decode.fld (Decode.operands w) 6 6) (Decode.fld (Decode.operands w) 0 6)) = _
  rw [h_d, h_a, h_b]

theorem fcmpV0 (x_m x_c : BitVec 3) (x_a x_b : BitVec 6) : Statement (.fcmpV0 x_m x_c x_a x_b) := by
  refine of_slot rfl (fun _ => rfl) fun w hp hg ho hx => ?_
  obtain ⟨h_m, h_c, h_a, h_b⟩ := lay4 x_m x_c x_a x_b hx
  rw [decode_of (List.mem_singleton.1 hp) ho]
  show Except.ok (Instr.fcmpV0 (Decode.fld (Decode.operands w) 15 3) (Decode.fld (Decode.operands w) 12 3) (Decode.fld (Decode.operands w) 6 6) (Decode.fld (Decode.operands w) 0 6)) = _
  rw [h_m, h_c, h_a, h_b]

theorem fcmpV1 (x_m x_c : BitVec 3) (x_a x_b : BitVec 6) : Statement (.fcmpV1 x_m x_c x_a x_b) := by
  refine of_slot rfl (fun _ => rfl) fun w hp hg ho hx => ?_
  obtain ⟨h_m, h_c, h_a, h_b⟩ := lay4 x_m x_c x_a x_b hx
  rw [decode_of (List.mem_singleton.1 hp) ho]
  show Except.ok (Instr.fcmpV1 (Decode.fld (Decode.operands w) 15 3) (Decode.fld (Decode.operands w) 12 3) (Decode.fld (Decode.operands w) 6 6) (Decode.fld (Decode.operands w) 0 6)) = _
  rw [h_m, h_c, h_a, h_b]

theorem iaddV0 (x_d x_a x_b : BitVec 6) : Statement (.iaddV0 x_d x_a x_b) := by
  refine of_slot rfl (fun _ => rfl) fun w hp hg ho hx => ?_
  obtain ⟨h_d, h_a, h_b⟩ := lay1 x_d x_a x_b hx
  rw [decode_of (List.mem_singleton.1 hp) ho]
  show Except.ok (Instr.iaddV0 (Decode.fld (Decode.operands w) 12 6) (Decode.fld (Decode.operands w) 6 6) (Decode.fld (Decode.operands w) 0 6)) = _
  rw [h_d, h_a, h_b]

theorem iaddV1 (x_d x_a x_b : BitVec 6) : Statement (.iaddV1 x_d x_a x_b) := by
  refine of_slot rfl (fun _ => rfl) fun w hp hg ho hx => ?_
  obtain ⟨h_d, h_a, h_b⟩ := lay1 x_d x_a x_b hx
  rw [decode_of (List.mem_singleton.1 hp) ho]
  show Except.ok (Instr.iaddV1 (Decode.fld (Decode.operands w) 12 6) (Decode.fld (Decode.operands w) 6 6) (Decode.fld (Decode.operands w) 0 6)) = _
  rw [h_d, h_a, h_b]

theorem isubV0 (x_d x_a x_b : BitVec 6) : Statement (.isubV0 x_d x_a x_b) := by
  refine of_slot rfl (fun _ => rfl) fun w hp hg ho hx => ?_
  obtain ⟨h_d, h_a, h_b⟩ := lay1 x_d x_a x_b hx
  rw [decode_of (List.mem_singleton.1 hp) ho]
  show Except.ok (Instr.isubV0 (Decode.fld (Decode.operands w) 12 6) (Decode.fld (Decode.operands w) 6 6) (Decode.fld (Decode.operands w) 0 6)) = _
  rw [h_d, h_a, h_b]

theorem isubV1 (x_d x_a x_b : BitVec 6) : Statement (.isubV1 x_d x_a x_b) := by
  refine of_slot rfl (fun _ => rfl) fun w hp hg ho hx => ?_
  obtain ⟨h_d, h_a, h_b⟩ := lay1 x_d x_a x_b hx
  rw [decode_of (List.mem_singleton.1 hp) ho]
  show Except.ok (Instr.isubV1 (Decode.fld (Decode.operands w) 12 6) (Decode.fld (Decode.operands w) 6 6) (Decode.fld (Decode.operands w) 0 6)) = _
  rw [h_d, h_a, h_b]

theorem imulV0 (x_d x_a x_b : BitVec 6) : Statement (.imulV0 x_d x_a x_b) := by
  refine of_slot rfl (fun _ => rfl) fun w hp hg ho hx => ?_
  obtain ⟨h_d, h_a, h_b⟩ := lay1 x_d x_a x_b hx
  rw [decode_of (List.mem_singleton.1 hp) ho]
  show Except.ok (Instr.imulV0 (Decode.fld (Decode.operands w) 12 6) (Decode.fld (Decode.operands w) 6 6) (Decode.fld (Decode.operands w) 0 6)) = _
  rw [h_d, h_a, h_b]

theorem imulV1 (x_d x_a x_b : BitVec 6) : Statement (.imulV1 x_d x_a x_b) := by
  refine of_slot rfl (fun _ => rfl) fun w hp hg ho hx => ?_
  obtain ⟨h_d, h_a, h_b⟩ := lay1 x_d x_a x_b hx
  rw [decode_of (List.mem_singleton.1 hp) ho]
  show Except.ok (Instr.imulV1 (Decode.fld (Decode.operands w) 12 6) (Decode.fld (Decode.operands w) 6 6) (Decode.fld (Decode.operands w) 0 6)) = _
  rw [h_d, h_a, h_b]

theorem imadV0 (x_d x_a x_b : BitVec 6) : Statement (.imadV0 x_d x_a x_b) := by
  refine of_slot rfl (fun _ => rfl) fun w hp hg ho hx => ?_
  obtain ⟨h_d, h_a, h_b⟩ := lay1 x_d x_a x_b hx
  rw [decode_of (List.mem_singleton.1 hp) ho]
  show Except.ok (Instr.imadV0 (Decode.fld (Decode.operands w) 12 6) (Decode.fld (Decode.operands w) 6 6) (Decode.fld (Decode.operands w) 0 6)) = _
  rw [h_d, h_a, h_b]

theorem imadV1 (x_d x_a x_b : BitVec 6) : Statement (.imadV1 x_d x_a x_b) := by
  refine of_slot rfl (fun _ => rfl) fun w hp hg ho hx => ?_
  obtain ⟨h_d, h_a, h_b⟩ := lay1 x_d x_a x_b hx
  rw [decode_of (List.mem_singleton.1 hp) ho]
  show Except.ok (Instr.imadV1 (Decode.fld (Decode.operands w) 12 6) (Decode.fld (Decode.operands w) 6 6) (Decode.fld (Decode.operands w) 0 6)) = _
  rw [h_d, h_a, h_b]

theorem iaddwV0 (x_d x_a x_b : BitVec 6) : Statement (.iaddwV0 x_d x_a x_b) := by
  refine of_slot rfl (fun _ => rfl) fun w hp hg ho hx => ?_
  obtain ⟨h_d, h_a, h_b⟩ := lay1 x_d x_a x_b hx
  rw [decode_of (List.mem_singleton.1 hp) ho]
  show Except.ok (Instr.iaddwV0 (Decode.fld (Decode.operands w) 12 6) (Decode.fld (Decode.operands w) 6 6) (Decode.fld (Decode.operands w) 0 6)) = _
  rw [h_d, h_a, h_b]

theorem iaddwV1 (x_d x_a x_b : BitVec 6) : Statement (.iaddwV1 x_d x_a x_b) := by
  refine of_slot rfl (fun _ => rfl) fun w hp hg ho hx => ?_
  obtain ⟨h_d, h_a, h_b⟩ := lay1 x_d x_a x_b hx
  rw [decode_of (List.mem_singleton.1 hp) ho]
  show Except.ok (Instr.iaddwV1 (Decode.fld (Decode.operands w) 12 6) (Decode.fld (Decode.operands w) 6 6) (Decode.fld (Decode.operands w) 0 6)) = _
  rw [h_d, h_a, h_b]

theorem imadwV0 (x_d x_a x_b : BitVec 6) : Statement (.imadwV0 x_d x_a x_b) := by
  refine of_slot rfl (fun _ => rfl) fun w hp hg ho hx => ?_
  obtain ⟨h_d, h_a, h_b⟩ := lay1 x_d x_a x_b hx
  rw [decode_of (List.mem_singleton.1 hp) ho]
  show Except.ok (Instr.imadwV0 (Decode.fld (Decode.operands w) 12 6) (Decode.fld (Decode.operands w) 6 6) (Decode.fld (Decode.operands w) 0 6)) = _
  rw [h_d, h_a, h_b]

theorem imadwV1 (x_d x_a x_b : BitVec 6) : Statement (.imadwV1 x_d x_a x_b) := by
  refine of_slot rfl (fun _ => rfl) fun w hp hg ho hx => ?_
  obtain ⟨h_d, h_a, h_b⟩ := lay1 x_d x_a x_b hx
  rw [decode_of (List.mem_singleton.1 hp) ho]
  show Except.ok (Instr.imadwV1 (Decode.fld (Decode.operands w) 12 6) (Decode.fld (Decode.operands w) 6 6) (Decode.fld (Decode.operands w) 0 6)) = _
  rw [h_d, h_a, h_b]

theorem iminV0 (x_d x_a x_b : BitVec 6) : Statement (.iminV0 x_d x_a x_b) := by
  refine of_slot rfl (fun _ => rfl) fun w hp hg ho hx => ?_
  obtain ⟨h_d, h_a, h_b⟩ := lay1 x_d x_a x_b hx
  rw [decode_of (List.mem_singleton.1 hp) ho]
  show Except.ok (Instr.iminV0 (Decode.fld (Decode.operands w) 12 6) (Decode.fld (Decode.operands w) 6 6) (Decode.fld (Decode.operands w) 0 6)) = _
  rw [h_d, h_a, h_b]

theorem iminV1 (x_d x_a x_b : BitVec 6) : Statement (.iminV1 x_d x_a x_b) := by
  refine of_slot rfl (fun _ => rfl) fun w hp hg ho hx => ?_
  obtain ⟨h_d, h_a, h_b⟩ := lay1 x_d x_a x_b hx
  rw [decode_of (List.mem_singleton.1 hp) ho]
  show Except.ok (Instr.iminV1 (Decode.fld (Decode.operands w) 12 6) (Decode.fld (Decode.operands w) 6 6) (Decode.fld (Decode.operands w) 0 6)) = _
  rw [h_d, h_a, h_b]

theorem imaxV0 (x_d x_a x_b : BitVec 6) : Statement (.imaxV0 x_d x_a x_b) := by
  refine of_slot rfl (fun _ => rfl) fun w hp hg ho hx => ?_
  obtain ⟨h_d, h_a, h_b⟩ := lay1 x_d x_a x_b hx
  rw [decode_of (List.mem_singleton.1 hp) ho]
  show Except.ok (Instr.imaxV0 (Decode.fld (Decode.operands w) 12 6) (Decode.fld (Decode.operands w) 6 6) (Decode.fld (Decode.operands w) 0 6)) = _
  rw [h_d, h_a, h_b]

theorem imaxV1 (x_d x_a x_b : BitVec 6) : Statement (.imaxV1 x_d x_a x_b) := by
  refine of_slot rfl (fun _ => rfl) fun w hp hg ho hx => ?_
  obtain ⟨h_d, h_a, h_b⟩ := lay1 x_d x_a x_b hx
  rw [decode_of (List.mem_singleton.1 hp) ho]
  show Except.ok (Instr.imaxV1 (Decode.fld (Decode.operands w) 12 6) (Decode.fld (Decode.operands w) 6 6) (Decode.fld (Decode.operands w) 0 6)) = _
  rw [h_d, h_a, h_b]

theorem iabsV0 (x_d x_a : BitVec 6) : Statement (.iabsV0 x_d x_a) := by
  refine of_slot rfl (fun _ => rfl) fun w hp hg ho hx => ?_
  obtain ⟨h_d, h_a, hm⟩ := lay2 x_d x_a hx
  rw [decode_of (List.mem_singleton.1 hp) ho]
  show Decode.clear 0x3F _ (Instr.iabsV0 (Decode.fld (Decode.operands w) 12 6) (Decode.fld (Decode.operands w) 6 6)) = _
  rw [clear_ok hm, h_d, h_a]

theorem iabsV1 (x_d x_a : BitVec 6) : Statement (.iabsV1 x_d x_a) := by
  refine of_slot rfl (fun _ => rfl) fun w hp hg ho hx => ?_
  obtain ⟨h_d, h_a, hm⟩ := lay2 x_d x_a hx
  rw [decode_of (List.mem_singleton.1 hp) ho]
  show Decode.clear 0x3F _ (Instr.iabsV1 (Decode.fld (Decode.operands w) 12 6) (Decode.fld (Decode.operands w) 6 6)) = _
  rw [clear_ok hm, h_d, h_a]

theorem andV0 (x_d x_a x_b : BitVec 6) : Statement (.andV0 x_d x_a x_b) := by
  refine of_slot rfl (fun _ => rfl) fun w hp hg ho hx => ?_
  obtain ⟨h_d, h_a, h_b⟩ := lay1 x_d x_a x_b hx
  rw [decode_of (List.mem_singleton.1 hp) ho]
  show Except.ok (Instr.andV0 (Decode.fld (Decode.operands w) 12 6) (Decode.fld (Decode.operands w) 6 6) (Decode.fld (Decode.operands w) 0 6)) = _
  rw [h_d, h_a, h_b]

theorem andV1 (x_d x_a x_b : BitVec 6) : Statement (.andV1 x_d x_a x_b) := by
  refine of_slot rfl (fun _ => rfl) fun w hp hg ho hx => ?_
  obtain ⟨h_d, h_a, h_b⟩ := lay1 x_d x_a x_b hx
  rw [decode_of (List.mem_singleton.1 hp) ho]
  show Except.ok (Instr.andV1 (Decode.fld (Decode.operands w) 12 6) (Decode.fld (Decode.operands w) 6 6) (Decode.fld (Decode.operands w) 0 6)) = _
  rw [h_d, h_a, h_b]

theorem orV0 (x_d x_a x_b : BitVec 6) : Statement (.orV0 x_d x_a x_b) := by
  refine of_slot rfl (fun _ => rfl) fun w hp hg ho hx => ?_
  obtain ⟨h_d, h_a, h_b⟩ := lay1 x_d x_a x_b hx
  rw [decode_of (List.mem_singleton.1 hp) ho]
  show Except.ok (Instr.orV0 (Decode.fld (Decode.operands w) 12 6) (Decode.fld (Decode.operands w) 6 6) (Decode.fld (Decode.operands w) 0 6)) = _
  rw [h_d, h_a, h_b]

theorem orV1 (x_d x_a x_b : BitVec 6) : Statement (.orV1 x_d x_a x_b) := by
  refine of_slot rfl (fun _ => rfl) fun w hp hg ho hx => ?_
  obtain ⟨h_d, h_a, h_b⟩ := lay1 x_d x_a x_b hx
  rw [decode_of (List.mem_singleton.1 hp) ho]
  show Except.ok (Instr.orV1 (Decode.fld (Decode.operands w) 12 6) (Decode.fld (Decode.operands w) 6 6) (Decode.fld (Decode.operands w) 0 6)) = _
  rw [h_d, h_a, h_b]

theorem xorV0 (x_d x_a x_b : BitVec 6) : Statement (.xorV0 x_d x_a x_b) := by
  refine of_slot rfl (fun _ => rfl) fun w hp hg ho hx => ?_
  obtain ⟨h_d, h_a, h_b⟩ := lay1 x_d x_a x_b hx
  rw [decode_of (List.mem_singleton.1 hp) ho]
  show Except.ok (Instr.xorV0 (Decode.fld (Decode.operands w) 12 6) (Decode.fld (Decode.operands w) 6 6) (Decode.fld (Decode.operands w) 0 6)) = _
  rw [h_d, h_a, h_b]

theorem xorV1 (x_d x_a x_b : BitVec 6) : Statement (.xorV1 x_d x_a x_b) := by
  refine of_slot rfl (fun _ => rfl) fun w hp hg ho hx => ?_
  obtain ⟨h_d, h_a, h_b⟩ := lay1 x_d x_a x_b hx
  rw [decode_of (List.mem_singleton.1 hp) ho]
  show Except.ok (Instr.xorV1 (Decode.fld (Decode.operands w) 12 6) (Decode.fld (Decode.operands w) 6 6) (Decode.fld (Decode.operands w) 0 6)) = _
  rw [h_d, h_a, h_b]

theorem shlV0 (x_d x_a x_b : BitVec 6) : Statement (.shlV0 x_d x_a x_b) := by
  refine of_slot rfl (fun _ => rfl) fun w hp hg ho hx => ?_
  obtain ⟨h_d, h_a, h_b⟩ := lay1 x_d x_a x_b hx
  rw [decode_of (List.mem_singleton.1 hp) ho]
  show Except.ok (Instr.shlV0 (Decode.fld (Decode.operands w) 12 6) (Decode.fld (Decode.operands w) 6 6) (Decode.fld (Decode.operands w) 0 6)) = _
  rw [h_d, h_a, h_b]

theorem shlV1 (x_d x_a x_b : BitVec 6) : Statement (.shlV1 x_d x_a x_b) := by
  refine of_slot rfl (fun _ => rfl) fun w hp hg ho hx => ?_
  obtain ⟨h_d, h_a, h_b⟩ := lay1 x_d x_a x_b hx
  rw [decode_of (List.mem_singleton.1 hp) ho]
  show Except.ok (Instr.shlV1 (Decode.fld (Decode.operands w) 12 6) (Decode.fld (Decode.operands w) 6 6) (Decode.fld (Decode.operands w) 0 6)) = _
  rw [h_d, h_a, h_b]

theorem shrV0 (x_d x_a x_b : BitVec 6) : Statement (.shrV0 x_d x_a x_b) := by
  refine of_slot rfl (fun _ => rfl) fun w hp hg ho hx => ?_
  obtain ⟨h_d, h_a, h_b⟩ := lay1 x_d x_a x_b hx
  rw [decode_of (List.mem_singleton.1 hp) ho]
  show Except.ok (Instr.shrV0 (Decode.fld (Decode.operands w) 12 6) (Decode.fld (Decode.operands w) 6 6) (Decode.fld (Decode.operands w) 0 6)) = _
  rw [h_d, h_a, h_b]

theorem shrV1 (x_d x_a x_b : BitVec 6) : Statement (.shrV1 x_d x_a x_b) := by
  refine of_slot rfl (fun _ => rfl) fun w hp hg ho hx => ?_
  obtain ⟨h_d, h_a, h_b⟩ := lay1 x_d x_a x_b hx
  rw [decode_of (List.mem_singleton.1 hp) ho]
  show Except.ok (Instr.shrV1 (Decode.fld (Decode.operands w) 12 6) (Decode.fld (Decode.operands w) 6 6) (Decode.fld (Decode.operands w) 0 6)) = _
  rw [h_d, h_a, h_b]

theorem sraV0 (x_d x_a x_b : BitVec 6) : Statement (.sraV0 x_d x_a x_b) := by
  refine of_slot rfl (fun _ => rfl) fun w hp hg ho hx => ?_
  obtain ⟨h_d, h_a, h_b⟩ := lay1 x_d x_a x_b hx
  rw [decode_of (List.mem_singleton.1 hp) ho]
  show Except.ok (Instr.sraV0 (Decode.fld (Decode.operands w) 12 6) (Decode.fld (Decode.operands w) 6 6) (Decode.fld (Decode.operands w) 0 6)) = _
  rw [h_d, h_a, h_b]

theorem sraV1 (x_d x_a x_b : BitVec 6) : Statement (.sraV1 x_d x_a x_b) := by
  refine of_slot rfl (fun _ => rfl) fun w hp hg ho hx => ?_
  obtain ⟨h_d, h_a, h_b⟩ := lay1 x_d x_a x_b hx
  rw [decode_of (List.mem_singleton.1 hp) ho]
  show Except.ok (Instr.sraV1 (Decode.fld (Decode.operands w) 12 6) (Decode.fld (Decode.operands w) 6 6) (Decode.fld (Decode.operands w) 0 6)) = _
  rw [h_d, h_a, h_b]

theorem icmpV0 (x_m x_c : BitVec 3) (x_a x_b : BitVec 6) : Statement (.icmpV0 x_m x_c x_a x_b) := by
  refine of_slot rfl (fun _ => rfl) fun w hp hg ho hx => ?_
  obtain ⟨h_m, h_c, h_a, h_b⟩ := lay4 x_m x_c x_a x_b hx
  rw [decode_of (List.mem_singleton.1 hp) ho]
  show Except.ok (Instr.icmpV0 (Decode.fld (Decode.operands w) 15 3) (Decode.fld (Decode.operands w) 12 3) (Decode.fld (Decode.operands w) 6 6) (Decode.fld (Decode.operands w) 0 6)) = _
  rw [h_m, h_c, h_a, h_b]

theorem icmpV1 (x_m x_c : BitVec 3) (x_a x_b : BitVec 6) : Statement (.icmpV1 x_m x_c x_a x_b) := by
  refine of_slot rfl (fun _ => rfl) fun w hp hg ho hx => ?_
  obtain ⟨h_m, h_c, h_a, h_b⟩ := lay4 x_m x_c x_a x_b hx
  rw [decode_of (List.mem_singleton.1 hp) ho]
  show Except.ok (Instr.icmpV1 (Decode.fld (Decode.operands w) 15 3) (Decode.fld (Decode.operands w) 12 3) (Decode.fld (Decode.operands w) 6 6) (Decode.fld (Decode.operands w) 0 6)) = _
  rw [h_m, h_c, h_a, h_b]

theorem cvtV0 (x_d x_a : BitVec 6) (x_f : BitVec 4) (x_n : BitVec 2) : Statement (.cvtV0 x_d x_a x_f x_n) := by
  refine of_slot rfl (fun _ => rfl) fun w hp hg ho hx => ?_
  obtain ⟨h_d, h_a, h_f, h_n⟩ := lay10 x_d x_a x_f x_n hx
  rw [decode_of (List.mem_singleton.1 hp) ho]
  show Except.ok (Instr.cvtV0 (Decode.fld (Decode.operands w) 12 6) (Decode.fld (Decode.operands w) 6 6) (Decode.fld (Decode.operands w) 2 4) (Decode.fld (Decode.operands w) 0 2)) = _
  rw [h_d, h_a, h_f, h_n]

theorem cvtV1 (x_d x_a : BitVec 6) (x_f : BitVec 4) (x_n : BitVec 2) : Statement (.cvtV1 x_d x_a x_f x_n) := by
  refine of_slot rfl (fun _ => rfl) fun w hp hg ho hx => ?_
  obtain ⟨h_d, h_a, h_f, h_n⟩ := lay10 x_d x_a x_f x_n hx
  rw [decode_of (List.mem_singleton.1 hp) ho]
  show Except.ok (Instr.cvtV1 (Decode.fld (Decode.operands w) 12 6) (Decode.fld (Decode.operands w) 6 6) (Decode.fld (Decode.operands w) 2 4) (Decode.fld (Decode.operands w) 0 2)) = _
  rw [h_d, h_a, h_f, h_n]

theorem cvtnV0 (x_d x_a : BitVec 6) (x_f : BitVec 4) (x_n : BitVec 2) : Statement (.cvtnV0 x_d x_a x_f x_n) := by
  refine of_slot rfl (fun _ => rfl) fun w hp hg ho hx => ?_
  obtain ⟨h_d, h_a, h_f, h_n⟩ := lay10 x_d x_a x_f x_n hx
  rw [decode_of (List.mem_singleton.1 hp) ho]
  show Except.ok (Instr.cvtnV0 (Decode.fld (Decode.operands w) 12 6) (Decode.fld (Decode.operands w) 6 6) (Decode.fld (Decode.operands w) 2 4) (Decode.fld (Decode.operands w) 0 2)) = _
  rw [h_d, h_a, h_f, h_n]

theorem cvtnV1 (x_d x_a : BitVec 6) (x_f : BitVec 4) (x_n : BitVec 2) : Statement (.cvtnV1 x_d x_a x_f x_n) := by
  refine of_slot rfl (fun _ => rfl) fun w hp hg ho hx => ?_
  obtain ⟨h_d, h_a, h_f, h_n⟩ := lay10 x_d x_a x_f x_n hx
  rw [decode_of (List.mem_singleton.1 hp) ho]
  show Except.ok (Instr.cvtnV1 (Decode.fld (Decode.operands w) 12 6) (Decode.fld (Decode.operands w) 6 6) (Decode.fld (Decode.operands w) 2 4) (Decode.fld (Decode.operands w) 0 2)) = _
  rw [h_d, h_a, h_f, h_n]

theorem unpklV0 (x_d x_a x_b : BitVec 6) : Statement (.unpklV0 x_d x_a x_b) := by
  refine of_slot rfl (fun _ => rfl) fun w hp hg ho hx => ?_
  obtain ⟨h_d, h_a, h_b⟩ := lay1 x_d x_a x_b hx
  rw [decode_of (List.mem_singleton.1 hp) ho]
  show Except.ok (Instr.unpklV0 (Decode.fld (Decode.operands w) 12 6) (Decode.fld (Decode.operands w) 6 6) (Decode.fld (Decode.operands w) 0 6)) = _
  rw [h_d, h_a, h_b]

theorem unpklV1 (x_d x_a x_b : BitVec 6) : Statement (.unpklV1 x_d x_a x_b) := by
  refine of_slot rfl (fun _ => rfl) fun w hp hg ho hx => ?_
  obtain ⟨h_d, h_a, h_b⟩ := lay1 x_d x_a x_b hx
  rw [decode_of (List.mem_singleton.1 hp) ho]
  show Except.ok (Instr.unpklV1 (Decode.fld (Decode.operands w) 12 6) (Decode.fld (Decode.operands w) 6 6) (Decode.fld (Decode.operands w) 0 6)) = _
  rw [h_d, h_a, h_b]

theorem unpkhV0 (x_d x_a x_b : BitVec 6) : Statement (.unpkhV0 x_d x_a x_b) := by
  refine of_slot rfl (fun _ => rfl) fun w hp hg ho hx => ?_
  obtain ⟨h_d, h_a, h_b⟩ := lay1 x_d x_a x_b hx
  rw [decode_of (List.mem_singleton.1 hp) ho]
  show Except.ok (Instr.unpkhV0 (Decode.fld (Decode.operands w) 12 6) (Decode.fld (Decode.operands w) 6 6) (Decode.fld (Decode.operands w) 0 6)) = _
  rw [h_d, h_a, h_b]

theorem unpkhV1 (x_d x_a x_b : BitVec 6) : Statement (.unpkhV1 x_d x_a x_b) := by
  refine of_slot rfl (fun _ => rfl) fun w hp hg ho hx => ?_
  obtain ⟨h_d, h_a, h_b⟩ := lay1 x_d x_a x_b hx
  rw [decode_of (List.mem_singleton.1 hp) ho]
  show Except.ok (Instr.unpkhV1 (Decode.fld (Decode.operands w) 12 6) (Decode.fld (Decode.operands w) 6 6) (Decode.fld (Decode.operands w) 0 6)) = _
  rw [h_d, h_a, h_b]

theorem packV0 (x_d x_a x_b : BitVec 6) : Statement (.packV0 x_d x_a x_b) := by
  refine of_slot rfl (fun _ => rfl) fun w hp hg ho hx => ?_
  obtain ⟨h_d, h_a, h_b⟩ := lay1 x_d x_a x_b hx
  rw [decode_of (List.mem_singleton.1 hp) ho]
  show Except.ok (Instr.packV0 (Decode.fld (Decode.operands w) 12 6) (Decode.fld (Decode.operands w) 6 6) (Decode.fld (Decode.operands w) 0 6)) = _
  rw [h_d, h_a, h_b]

theorem packV1 (x_d x_a x_b : BitVec 6) : Statement (.packV1 x_d x_a x_b) := by
  refine of_slot rfl (fun _ => rfl) fun w hp hg ho hx => ?_
  obtain ⟨h_d, h_a, h_b⟩ := lay1 x_d x_a x_b hx
  rw [decode_of (List.mem_singleton.1 hp) ho]
  show Except.ok (Instr.packV1 (Decode.fld (Decode.operands w) 12 6) (Decode.fld (Decode.operands w) 6 6) (Decode.fld (Decode.operands w) 0 6)) = _
  rw [h_d, h_a, h_b]

theorem setfmtV0 (x_d x_a : BitVec 6) (x_f : BitVec 4) : Statement (.setfmtV0 x_d x_a x_f) := by
  refine of_slot rfl (fun _ => rfl) fun w hp hg ho hx => ?_
  obtain ⟨h_d, h_a, h_f, hm⟩ := lay11 x_d x_a x_f hx
  rw [decode_of (List.mem_singleton.1 hp) ho]
  show Decode.clear 0x3 _ (Instr.setfmtV0 (Decode.fld (Decode.operands w) 12 6) (Decode.fld (Decode.operands w) 6 6) (Decode.fld (Decode.operands w) 2 4)) = _
  rw [clear_ok hm, h_d, h_a, h_f]

theorem setfmtV1 (x_d x_a : BitVec 6) (x_f : BitVec 4) : Statement (.setfmtV1 x_d x_a x_f) := by
  refine of_slot rfl (fun _ => rfl) fun w hp hg ho hx => ?_
  obtain ⟨h_d, h_a, h_f, hm⟩ := lay11 x_d x_a x_f hx
  rw [decode_of (List.mem_singleton.1 hp) ho]
  show Decode.clear 0x3 _ (Instr.setfmtV1 (Decode.fld (Decode.operands w) 12 6) (Decode.fld (Decode.operands w) 6 6) (Decode.fld (Decode.operands w) 2 4)) = _
  rw [clear_ok hm, h_d, h_a, h_f]

theorem vmovV0 (x_d x_a : BitVec 6) : Statement (.vmovV0 x_d x_a) := by
  refine of_slot rfl (fun _ => rfl) fun w hp hg ho hx => ?_
  obtain ⟨h_d, h_a, hm⟩ := lay2 x_d x_a hx
  rw [decode_of (List.mem_singleton.1 hp) ho]
  show Decode.clear 0x3F _ (Instr.vmovV0 (Decode.fld (Decode.operands w) 12 6) (Decode.fld (Decode.operands w) 6 6)) = _
  rw [clear_ok hm, h_d, h_a]

theorem vmovV1 (x_d x_a : BitVec 6) : Statement (.vmovV1 x_d x_a) := by
  refine of_slot rfl (fun _ => rfl) fun w hp hg ho hx => ?_
  obtain ⟨h_d, h_a, hm⟩ := lay2 x_d x_a hx
  rw [decode_of (List.mem_singleton.1 hp) ho]
  show Decode.clear 0x3F _ (Instr.vmovV1 (Decode.fld (Decode.operands w) 12 6) (Decode.fld (Decode.operands w) 6 6)) = _
  rw [clear_ok hm, h_d, h_a]

theorem vmoviV0 (x_d : BitVec 6) (x_i : BitVec 12) : Statement (.vmoviV0 x_d x_i) := by
  refine of_slot rfl (fun _ => rfl) fun w hp hg ho hx => ?_
  obtain ⟨h_d, h_i⟩ := lay3 x_d x_i hx
  rw [decode_of (List.mem_singleton.1 hp) ho]
  show Except.ok (Instr.vmoviV0 (Decode.fld (Decode.operands w) 12 6) (Decode.fld (Decode.operands w) 0 12)) = _
  rw [h_d, h_i]

theorem vmoviV1 (x_d : BitVec 6) (x_i : BitVec 12) : Statement (.vmoviV1 x_d x_i) := by
  refine of_slot rfl (fun _ => rfl) fun w hp hg ho hx => ?_
  obtain ⟨h_d, h_i⟩ := lay3 x_d x_i hx
  rw [decode_of (List.mem_singleton.1 hp) ho]
  show Except.ok (Instr.vmoviV1 (Decode.fld (Decode.operands w) 12 6) (Decode.fld (Decode.operands w) 0 12)) = _
  rw [h_d, h_i]

theorem vbcstV0 (x_d x_a x_b : BitVec 6) : Statement (.vbcstV0 x_d x_a x_b) := by
  refine of_slot rfl (fun _ => rfl) fun w hp hg ho hx => ?_
  obtain ⟨h_d, h_a, h_b⟩ := lay1 x_d x_a x_b hx
  rw [decode_of (List.mem_singleton.1 hp) ho]
  show Except.ok (Instr.vbcstV0 (Decode.fld (Decode.operands w) 12 6) (Decode.fld (Decode.operands w) 6 6) (Decode.fld (Decode.operands w) 0 6)) = _
  rw [h_d, h_a, h_b]

theorem vbcstV1 (x_d x_a x_b : BitVec 6) : Statement (.vbcstV1 x_d x_a x_b) := by
  refine of_slot rfl (fun _ => rfl) fun w hp hg ho hx => ?_
  obtain ⟨h_d, h_a, h_b⟩ := lay1 x_d x_a x_b hx
  rw [decode_of (List.mem_singleton.1 hp) ho]
  show Except.ok (Instr.vbcstV1 (Decode.fld (Decode.operands w) 12 6) (Decode.fld (Decode.operands w) 6 6) (Decode.fld (Decode.operands w) 0 6)) = _
  rw [h_d, h_a, h_b]

theorem vextV0 (x_d x_a x_b : BitVec 6) : Statement (.vextV0 x_d x_a x_b) := by
  refine of_slot rfl (fun _ => rfl) fun w hp hg ho hx => ?_
  obtain ⟨h_d, h_a, h_b⟩ := lay1 x_d x_a x_b hx
  rw [decode_of (List.mem_singleton.1 hp) ho]
  show Except.ok (Instr.vextV0 (Decode.fld (Decode.operands w) 12 6) (Decode.fld (Decode.operands w) 6 6) (Decode.fld (Decode.operands w) 0 6)) = _
  rw [h_d, h_a, h_b]

theorem vextV1 (x_d x_a x_b : BitVec 6) : Statement (.vextV1 x_d x_a x_b) := by
  refine of_slot rfl (fun _ => rfl) fun w hp hg ho hx => ?_
  obtain ⟨h_d, h_a, h_b⟩ := lay1 x_d x_a x_b hx
  rw [decode_of (List.mem_singleton.1 hp) ho]
  show Except.ok (Instr.vextV1 (Decode.fld (Decode.operands w) 12 6) (Decode.fld (Decode.operands w) 6 6) (Decode.fld (Decode.operands w) 0 6)) = _
  rw [h_d, h_a, h_b]

theorem vselV0 (x_m : BitVec 3) (x_d x_a x_b : BitVec 6) : Statement (.vselV0 x_m x_d x_a x_b) := by
  refine of_slot rfl (fun _ => rfl) fun w hp hg ho hx => ?_
  obtain ⟨h_d, h_a, h_b⟩ := lay1 x_d x_a x_b hx
  have hg := (congrArg BitVec.toNat hg.symm).trans (cat2 0#1 x_m)
  simp only [BitVec.toNat_ofNat] at hg
  have := x_m.isLt
  rw [decode_of (List.mem_singleton.1 hp) ho]
  have h3 : (Decode.guard w).extractLsb' 3 1 = 0#1 := field_eq (by simp only [BitVec.toNat_ofNat]; omega)
  have h0 : (Decode.guard w).extractLsb' 0 3 = x_m := field_eq (by omega)
  show (if (Decode.guard w).extractLsb' 3 1 = 1#1 then _ else Except.ok (Instr.vselV0 ((Decode.guard w).extractLsb' 0 3) (Decode.fld (Decode.operands w) 12 6) (Decode.fld (Decode.operands w) 6 6) (Decode.fld (Decode.operands w) 0 6))) = _
  rw [h3, if_neg (by decide), h0, h_d, h_a, h_b]

theorem vselV1 (x_m : BitVec 3) (x_d x_a x_b : BitVec 6) : Statement (.vselV1 x_m x_d x_a x_b) := by
  refine of_slot rfl (fun _ => rfl) fun w hp hg ho hx => ?_
  obtain ⟨h_d, h_a, h_b⟩ := lay1 x_d x_a x_b hx
  have hg := (congrArg BitVec.toNat hg.symm).trans (cat2 0#1 x_m)
  simp only [BitVec.toNat_ofNat] at hg
  have := x_m.isLt
  rw [decode_of (List.mem_singleton.1 hp) ho]
  have h3 : (Decode.guard w).extractLsb' 3 1 = 0#1 := field_eq (by simp only [BitVec.toNat_ofNat]; omega)
  have h0 : (Decode.guard w).extractLsb' 0 3 = x_m := field_eq (by omega)
  show (if (Decode.guard w).extractLsb' 3 1 = 1#1 then _ else Except.ok (Instr.vselV1 ((Decode.guard w).extractLsb' 0 3) (Decode.fld (Decode.operands w) 12 6) (Decode.fld (Decode.operands w) 6 6) (Decode.fld (Decode.operands w) 0 6))) = _
  rw [h3, if_neg (by decide), h0, h_d, h_a, h_b]

theorem vpermV0 (x_d x_a x_b : BitVec 6) : Statement (.vpermV0 x_d x_a x_b) := by
  refine of_slot rfl (fun _ => rfl) fun w hp hg ho hx => ?_
  obtain ⟨h_d, h_a, h_b⟩ := lay1 x_d x_a x_b hx
  rw [decode_of (List.mem_singleton.1 hp) ho]
  show Except.ok (Instr.vpermV0 (Decode.fld (Decode.operands w) 12 6) (Decode.fld (Decode.operands w) 6 6) (Decode.fld (Decode.operands w) 0 6)) = _
  rw [h_d, h_a, h_b]

theorem vpermV1 (x_d x_a x_b : BitVec 6) : Statement (.vpermV1 x_d x_a x_b) := by
  refine of_slot rfl (fun _ => rfl) fun w hp hg ho hx => ?_
  obtain ⟨h_d, h_a, h_b⟩ := lay1 x_d x_a x_b hx
  rw [decode_of (List.mem_singleton.1 hp) ho]
  show Except.ok (Instr.vpermV1 (Decode.fld (Decode.operands w) 12 6) (Decode.fld (Decode.operands w) 6 6) (Decode.fld (Decode.operands w) 0 6)) = _
  rw [h_d, h_a, h_b]

theorem vrotV0 (x_d x_a : BitVec 6) (x_n : BitVec 4) : Statement (.vrotV0 x_d x_a x_n) := by
  refine of_slot rfl (fun _ => rfl) fun w hp hg ho hx => ?_
  obtain ⟨h_d, h_a, h_n, hm⟩ := lay12 x_d x_a x_n hx
  rw [decode_of (List.mem_singleton.1 hp) ho]
  show Decode.clear 0x30 _ (Instr.vrotV0 (Decode.fld (Decode.operands w) 12 6) (Decode.fld (Decode.operands w) 6 6) (Decode.fld (Decode.operands w) 0 4)) = _
  rw [clear_ok hm, h_d, h_a, h_n]

theorem vrotV1 (x_d x_a : BitVec 6) (x_n : BitVec 4) : Statement (.vrotV1 x_d x_a x_n) := by
  refine of_slot rfl (fun _ => rfl) fun w hp hg ho hx => ?_
  obtain ⟨h_d, h_a, h_n, hm⟩ := lay12 x_d x_a x_n hx
  rw [decode_of (List.mem_singleton.1 hp) ho]
  show Decode.clear 0x30 _ (Instr.vrotV1 (Decode.fld (Decode.operands w) 12 6) (Decode.fld (Decode.operands w) 6 6) (Decode.fld (Decode.operands w) 0 4)) = _
  rw [clear_ok hm, h_d, h_a, h_n]

theorem xclV0 (x_d x_a : BitVec 6) (x_n : BitVec 3) : Statement (.xclV0 x_d x_a x_n) := by
  refine of_slot rfl (fun _ => rfl) fun w hp hg ho hx => ?_
  obtain ⟨h_d, h_a, h_n, hm⟩ := lay13 x_d x_a x_n hx
  rw [decode_of (List.mem_singleton.1 hp) ho]
  show Decode.clear 0x38 _ (Instr.xclV0 (Decode.fld (Decode.operands w) 12 6) (Decode.fld (Decode.operands w) 6 6) (Decode.fld (Decode.operands w) 0 3)) = _
  rw [clear_ok hm, h_d, h_a, h_n]

theorem xclV1 (x_d x_a : BitVec 6) (x_n : BitVec 3) : Statement (.xclV1 x_d x_a x_n) := by
  refine of_slot rfl (fun _ => rfl) fun w hp hg ho hx => ?_
  obtain ⟨h_d, h_a, h_n, hm⟩ := lay13 x_d x_a x_n hx
  rw [decode_of (List.mem_singleton.1 hp) ho]
  show Decode.clear 0x38 _ (Instr.xclV1 (Decode.fld (Decode.operands w) 12 6) (Decode.fld (Decode.operands w) 6 6) (Decode.fld (Decode.operands w) 0 3)) = _
  rw [clear_ok hm, h_d, h_a, h_n]

theorem xclbV0 (x_d x_a : BitVec 6) (x_n : BitVec 3) : Statement (.xclbV0 x_d x_a x_n) := by
  refine of_slot rfl (fun _ => rfl) fun w hp hg ho hx => ?_
  obtain ⟨h_d, h_a, h_n, hm⟩ := lay13 x_d x_a x_n hx
  rw [decode_of (List.mem_singleton.1 hp) ho]
  show Decode.clear 0x38 _ (Instr.xclbV0 (Decode.fld (Decode.operands w) 12 6) (Decode.fld (Decode.operands w) 6 6) (Decode.fld (Decode.operands w) 0 3)) = _
  rw [clear_ok hm, h_d, h_a, h_n]

theorem xclbV1 (x_d x_a : BitVec 6) (x_n : BitVec 3) : Statement (.xclbV1 x_d x_a x_n) := by
  refine of_slot rfl (fun _ => rfl) fun w hp hg ho hx => ?_
  obtain ⟨h_d, h_a, h_n, hm⟩ := lay13 x_d x_a x_n hx
  rw [decode_of (List.mem_singleton.1 hp) ho]
  show Decode.clear 0x38 _ (Instr.xclbV1 (Decode.fld (Decode.operands w) 12 6) (Decode.fld (Decode.operands w) 6 6) (Decode.fld (Decode.operands w) 0 3)) = _
  rw [clear_ok hm, h_d, h_a, h_n]

theorem vscanV0 (x_d x_a : BitVec 6) (x_x x_e : BitVec 1) (x_o : BitVec 2) : Statement (.vscanV0 x_d x_a x_x x_e x_o) := by
  refine of_slot rfl (fun _ => rfl) fun w hp hg ho hx => ?_
  obtain ⟨h_d, h_a, h_x, h_e, h_o, hm⟩ := lay14 x_d x_a x_x x_e x_o hx
  rw [decode_of (List.mem_singleton.1 hp) ho]
  show Decode.clear 0x30 _ (Instr.vscanV0 (Decode.fld (Decode.operands w) 12 6) (Decode.fld (Decode.operands w) 6 6) (Decode.fld (Decode.operands w) 3 1) (Decode.fld (Decode.operands w) 2 1) (Decode.fld (Decode.operands w) 0 2)) = _
  rw [clear_ok hm, h_d, h_a, h_x, h_e, h_o]

theorem vscanV1 (x_d x_a : BitVec 6) (x_x x_e : BitVec 1) (x_o : BitVec 2) : Statement (.vscanV1 x_d x_a x_x x_e x_o) := by
  refine of_slot rfl (fun _ => rfl) fun w hp hg ho hx => ?_
  obtain ⟨h_d, h_a, h_x, h_e, h_o, hm⟩ := lay14 x_d x_a x_x x_e x_o hx
  rw [decode_of (List.mem_singleton.1 hp) ho]
  show Decode.clear 0x30 _ (Instr.vscanV1 (Decode.fld (Decode.operands w) 12 6) (Decode.fld (Decode.operands w) 6 6) (Decode.fld (Decode.operands w) 3 1) (Decode.fld (Decode.operands w) 2 1) (Decode.fld (Decode.operands w) 0 2)) = _
  rw [clear_ok hm, h_d, h_a, h_x, h_e, h_o]

theorem vredV0 (x_d x_a : BitVec 6) (x_e : BitVec 1) (x_o : BitVec 2) : Statement (.vredV0 x_d x_a x_e x_o) := by
  refine of_slot rfl (fun _ => rfl) fun w hp hg ho hx => ?_
  obtain ⟨h_d, h_a, h_e, h_o, hm⟩ := lay15 x_d x_a x_e x_o hx
  rw [decode_of (List.mem_singleton.1 hp) ho]
  show Decode.clear 0x38 _ (Instr.vredV0 (Decode.fld (Decode.operands w) 12 6) (Decode.fld (Decode.operands w) 6 6) (Decode.fld (Decode.operands w) 2 1) (Decode.fld (Decode.operands w) 0 2)) = _
  rw [clear_ok hm, h_d, h_a, h_e, h_o]

theorem vredV1 (x_d x_a : BitVec 6) (x_e : BitVec 1) (x_o : BitVec 2) : Statement (.vredV1 x_d x_a x_e x_o) := by
  refine of_slot rfl (fun _ => rfl) fun w hp hg ho hx => ?_
  obtain ⟨h_d, h_a, h_e, h_o, hm⟩ := lay15 x_d x_a x_e x_o hx
  rw [decode_of (List.mem_singleton.1 hp) ho]
  show Decode.clear 0x38 _ (Instr.vredV1 (Decode.fld (Decode.operands w) 12 6) (Decode.fld (Decode.operands w) 6 6) (Decode.fld (Decode.operands w) 2 1) (Decode.fld (Decode.operands w) 0 2)) = _
  rw [clear_ok hm, h_d, h_a, h_e, h_o]

theorem vst (x_d : BitVec 6) (x_a : BitVec 4) (x_i : BitVec 8) : Statement (.vst x_d x_a x_i) := by
  refine of_slot rfl (fun _ => rfl) fun w hp hg ho hx => ?_
  obtain ⟨h_d, h_a, h_i⟩ := lay16 x_d x_a x_i hx
  rw [decode_of (List.mem_singleton.1 hp) ho]
  show Except.ok (Instr.vst (Decode.fld (Decode.operands w) 12 6) (Decode.fld (Decode.operands w) 8 4) (Decode.fld (Decode.operands w) 0 8)) = _
  rw [h_d, h_a, h_i]

theorem vsts (x_d : BitVec 6) (x_a x_x : BitVec 4) : Statement (.vsts x_d x_a x_x) := by
  refine of_slot rfl (fun _ => rfl) fun w hp hg ho hx => ?_
  obtain ⟨h_d, h_a, h_x, hm⟩ := lay17 x_d x_a x_x hx
  rw [decode_of (List.mem_singleton.1 hp) ho]
  show Decode.clear 0xF _ (Instr.vsts (Decode.fld (Decode.operands w) 12 6) (Decode.fld (Decode.operands w) 8 4) (Decode.fld (Decode.operands w) 4 4)) = _
  rw [clear_ok hm, h_d, h_a, h_x]

theorem vstx (x_d : BitVec 6) (x_a x_x : BitVec 4) : Statement (.vstx x_d x_a x_x) := by
  refine of_slot rfl (fun _ => rfl) fun w hp hg ho hx => ?_
  obtain ⟨h_d, h_a, h_x, hm⟩ := lay17 x_d x_a x_x hx
  rw [decode_of (List.mem_singleton.1 hp) ho]
  show Decode.clear 0xF _ (Instr.vstx (Decode.fld (Decode.operands w) 12 6) (Decode.fld (Decode.operands w) 8 4) (Decode.fld (Decode.operands w) 4 4)) = _
  rw [clear_ok hm, h_d, h_a, h_x]

theorem vlds (x_d : BitVec 6) (x_a x_x x_f : BitVec 4) : Statement (.vlds x_d x_a x_x x_f) := by
  refine of_slot rfl (fun _ => rfl) fun w hp hg ho hx => ?_
  obtain ⟨h_d, h_a, h_x, h_f⟩ := lay18 x_d x_a x_x x_f hx
  rw [decode_of (List.mem_singleton.1 hp) ho]
  show Except.ok (Instr.vlds (Decode.fld (Decode.operands w) 12 6) (Decode.fld (Decode.operands w) 8 4) (Decode.fld (Decode.operands w) 4 4) (Decode.fld (Decode.operands w) 0 4)) = _
  rw [h_d, h_a, h_x, h_f]

theorem vldx (x_d : BitVec 6) (x_a x_x x_f : BitVec 4) : Statement (.vldx x_d x_a x_x x_f) := by
  refine of_slot rfl (fun _ => rfl) fun w hp hg ho hx => ?_
  obtain ⟨h_d, h_a, h_x, h_f⟩ := lay18 x_d x_a x_x x_f hx
  rw [decode_of (List.mem_singleton.1 hp) ho]
  show Except.ok (Instr.vldx (Decode.fld (Decode.operands w) 12 6) (Decode.fld (Decode.operands w) 8 4) (Decode.fld (Decode.operands w) 4 4) (Decode.fld (Decode.operands w) 0 4)) = _
  rw [h_d, h_a, h_x, h_f]

theorem vldb (x_d : BitVec 6) (x_a x_x x_f : BitVec 4) : Statement (.vldb x_d x_a x_x x_f) := by
  refine of_slot rfl (fun _ => rfl) fun w hp hg ho hx => ?_
  obtain ⟨h_d, h_a, h_x, h_f⟩ := lay18 x_d x_a x_x x_f hx
  rw [decode_of (List.mem_singleton.1 hp) ho]
  show Except.ok (Instr.vldb (Decode.fld (Decode.operands w) 12 6) (Decode.fld (Decode.operands w) 8 4) (Decode.fld (Decode.operands w) 4 4) (Decode.fld (Decode.operands w) 0 4)) = _
  rw [h_d, h_a, h_x, h_f]

theorem vldInt32 (x_d : BitVec 6) (x_a : BitVec 4) (x_i : BitVec 8) : Statement (.vldInt32 x_d x_a x_i) := by
  refine of_slot rfl (fun _ => rfl) fun w hp hg ho hx => ?_
  obtain ⟨h_d, h_a, h_i⟩ := lay16 x_d x_a x_i hx
  rw [decode_of (List.mem_singleton.1 hp) ho]
  show Except.ok (Instr.vldInt32 (Decode.fld (Decode.operands w) 12 6) (Decode.fld (Decode.operands w) 8 4) (Decode.fld (Decode.operands w) 0 8)) = _
  rw [h_d, h_a, h_i]

theorem vldUint32 (x_d : BitVec 6) (x_a : BitVec 4) (x_i : BitVec 8) : Statement (.vldUint32 x_d x_a x_i) := by
  refine of_slot rfl (fun _ => rfl) fun w hp hg ho hx => ?_
  obtain ⟨h_d, h_a, h_i⟩ := lay16 x_d x_a x_i hx
  rw [decode_of (List.mem_singleton.1 hp) ho]
  show Except.ok (Instr.vldUint32 (Decode.fld (Decode.operands w) 12 6) (Decode.fld (Decode.operands w) 8 4) (Decode.fld (Decode.operands w) 0 8)) = _
  rw [h_d, h_a, h_i]

theorem vldFp32 (x_d : BitVec 6) (x_a : BitVec 4) (x_i : BitVec 8) : Statement (.vldFp32 x_d x_a x_i) := by
  refine of_slot rfl (fun _ => rfl) fun w hp hg ho hx => ?_
  obtain ⟨h_d, h_a, h_i⟩ := lay16 x_d x_a x_i hx
  rw [decode_of (List.mem_singleton.1 hp) ho]
  show Except.ok (Instr.vldFp32 (Decode.fld (Decode.operands w) 12 6) (Decode.fld (Decode.operands w) 8 4) (Decode.fld (Decode.operands w) 0 8)) = _
  rw [h_d, h_a, h_i]

theorem vldInt16 (x_d : BitVec 6) (x_a : BitVec 4) (x_i : BitVec 8) : Statement (.vldInt16 x_d x_a x_i) := by
  refine of_slot rfl (fun _ => rfl) fun w hp hg ho hx => ?_
  obtain ⟨h_d, h_a, h_i⟩ := lay16 x_d x_a x_i hx
  rw [decode_of (List.mem_singleton.1 hp) ho]
  show Except.ok (Instr.vldInt16 (Decode.fld (Decode.operands w) 12 6) (Decode.fld (Decode.operands w) 8 4) (Decode.fld (Decode.operands w) 0 8)) = _
  rw [h_d, h_a, h_i]

theorem vldUint16 (x_d : BitVec 6) (x_a : BitVec 4) (x_i : BitVec 8) : Statement (.vldUint16 x_d x_a x_i) := by
  refine of_slot rfl (fun _ => rfl) fun w hp hg ho hx => ?_
  obtain ⟨h_d, h_a, h_i⟩ := lay16 x_d x_a x_i hx
  rw [decode_of (List.mem_singleton.1 hp) ho]
  show Except.ok (Instr.vldUint16 (Decode.fld (Decode.operands w) 12 6) (Decode.fld (Decode.operands w) 8 4) (Decode.fld (Decode.operands w) 0 8)) = _
  rw [h_d, h_a, h_i]

theorem vldFp16 (x_d : BitVec 6) (x_a : BitVec 4) (x_i : BitVec 8) : Statement (.vldFp16 x_d x_a x_i) := by
  refine of_slot rfl (fun _ => rfl) fun w hp hg ho hx => ?_
  obtain ⟨h_d, h_a, h_i⟩ := lay16 x_d x_a x_i hx
  rw [decode_of (List.mem_singleton.1 hp) ho]
  show Except.ok (Instr.vldFp16 (Decode.fld (Decode.operands w) 12 6) (Decode.fld (Decode.operands w) 8 4) (Decode.fld (Decode.operands w) 0 8)) = _
  rw [h_d, h_a, h_i]

theorem vldBf16 (x_d : BitVec 6) (x_a : BitVec 4) (x_i : BitVec 8) : Statement (.vldBf16 x_d x_a x_i) := by
  refine of_slot rfl (fun _ => rfl) fun w hp hg ho hx => ?_
  obtain ⟨h_d, h_a, h_i⟩ := lay16 x_d x_a x_i hx
  rw [decode_of (List.mem_singleton.1 hp) ho]
  show Except.ok (Instr.vldBf16 (Decode.fld (Decode.operands w) 12 6) (Decode.fld (Decode.operands w) 8 4) (Decode.fld (Decode.operands w) 0 8)) = _
  rw [h_d, h_a, h_i]

theorem vldInt8 (x_d : BitVec 6) (x_a : BitVec 4) (x_i : BitVec 8) : Statement (.vldInt8 x_d x_a x_i) := by
  refine of_slot rfl (fun _ => rfl) fun w hp hg ho hx => ?_
  obtain ⟨h_d, h_a, h_i⟩ := lay16 x_d x_a x_i hx
  rw [decode_of (List.mem_singleton.1 hp) ho]
  show Except.ok (Instr.vldInt8 (Decode.fld (Decode.operands w) 12 6) (Decode.fld (Decode.operands w) 8 4) (Decode.fld (Decode.operands w) 0 8)) = _
  rw [h_d, h_a, h_i]

theorem vldUint8 (x_d : BitVec 6) (x_a : BitVec 4) (x_i : BitVec 8) : Statement (.vldUint8 x_d x_a x_i) := by
  refine of_slot rfl (fun _ => rfl) fun w hp hg ho hx => ?_
  obtain ⟨h_d, h_a, h_i⟩ := lay16 x_d x_a x_i hx
  rw [decode_of (List.mem_singleton.1 hp) ho]
  show Except.ok (Instr.vldUint8 (Decode.fld (Decode.operands w) 12 6) (Decode.fld (Decode.operands w) 8 4) (Decode.fld (Decode.operands w) 0 8)) = _
  rw [h_d, h_a, h_i]

theorem vldE4m3 (x_d : BitVec 6) (x_a : BitVec 4) (x_i : BitVec 8) : Statement (.vldE4m3 x_d x_a x_i) := by
  refine of_slot rfl (fun _ => rfl) fun w hp hg ho hx => ?_
  obtain ⟨h_d, h_a, h_i⟩ := lay16 x_d x_a x_i hx
  rw [decode_of (List.mem_singleton.1 hp) ho]
  show Except.ok (Instr.vldE4m3 (Decode.fld (Decode.operands w) 12 6) (Decode.fld (Decode.operands w) 8 4) (Decode.fld (Decode.operands w) 0 8)) = _
  rw [h_d, h_a, h_i]

theorem vldE5m2 (x_d : BitVec 6) (x_a : BitVec 4) (x_i : BitVec 8) : Statement (.vldE5m2 x_d x_a x_i) := by
  refine of_slot rfl (fun _ => rfl) fun w hp hg ho hx => ?_
  obtain ⟨h_d, h_a, h_i⟩ := lay16 x_d x_a x_i hx
  rw [decode_of (List.mem_singleton.1 hp) ho]
  show Except.ok (Instr.vldE5m2 (Decode.fld (Decode.operands w) 12 6) (Decode.fld (Decode.operands w) 8 4) (Decode.fld (Decode.operands w) 0 8)) = _
  rw [h_d, h_a, h_i]

theorem vldE8m0 (x_d : BitVec 6) (x_a : BitVec 4) (x_i : BitVec 8) : Statement (.vldE8m0 x_d x_a x_i) := by
  refine of_slot rfl (fun _ => rfl) fun w hp hg ho hx => ?_
  obtain ⟨h_d, h_a, h_i⟩ := lay16 x_d x_a x_i hx
  rw [decode_of (List.mem_singleton.1 hp) ho]
  show Except.ok (Instr.vldE8m0 (Decode.fld (Decode.operands w) 12 6) (Decode.fld (Decode.operands w) 8 4) (Decode.fld (Decode.operands w) 0 8)) = _
  rw [h_d, h_a, h_i]

theorem mkand (x_d x_a x_b : BitVec 3) : Statement (.mkand x_d x_a x_b) := by
  refine of_slot rfl (fun _ => rfl) fun w hp hg ho hx => ?_
  obtain ⟨h_d, h_a, h_b, hm⟩ := lay19 x_d x_a x_b hx
  rw [decode_of (List.mem_singleton.1 hp) ho]
  show Decode.clear 0x38E38 _ (Instr.mkand (Decode.fld (Decode.operands w) 12 3) (Decode.fld (Decode.operands w) 6 3) (Decode.fld (Decode.operands w) 0 3)) = _
  rw [clear_ok hm, h_d, h_a, h_b]

theorem mkor (x_d x_a x_b : BitVec 3) : Statement (.mkor x_d x_a x_b) := by
  refine of_slot rfl (fun _ => rfl) fun w hp hg ho hx => ?_
  obtain ⟨h_d, h_a, h_b, hm⟩ := lay19 x_d x_a x_b hx
  rw [decode_of (List.mem_singleton.1 hp) ho]
  show Decode.clear 0x38E38 _ (Instr.mkor (Decode.fld (Decode.operands w) 12 3) (Decode.fld (Decode.operands w) 6 3) (Decode.fld (Decode.operands w) 0 3)) = _
  rw [clear_ok hm, h_d, h_a, h_b]

theorem mknot (x_d x_a : BitVec 3) : Statement (.mknot x_d x_a) := by
  refine of_slot rfl (fun _ => rfl) fun w hp hg ho hx => ?_
  obtain ⟨h_d, h_a, hm⟩ := lay20 x_d x_a hx
  rw [decode_of (List.mem_singleton.1 hp) ho]
  show Decode.clear 0x38E3F _ (Instr.mknot (Decode.fld (Decode.operands w) 12 3) (Decode.fld (Decode.operands w) 6 3)) = _
  rw [clear_ok hm, h_d, h_a]

theorem frcp (x_d x_a : BitVec 6) : Statement (.frcp x_d x_a) := by
  refine of_slot rfl (fun _ => rfl) fun w hp hg ho hx => ?_
  obtain ⟨h_d, h_a, hm⟩ := lay2 x_d x_a hx
  rw [decode_of (List.mem_singleton.1 hp) ho]
  show Decode.clear 0x3F _ (Instr.frcp (Decode.fld (Decode.operands w) 12 6) (Decode.fld (Decode.operands w) 6 6)) = _
  rw [clear_ok hm, h_d, h_a]

theorem frsq (x_d x_a : BitVec 6) : Statement (.frsq x_d x_a) := by
  refine of_slot rfl (fun _ => rfl) fun w hp hg ho hx => ?_
  obtain ⟨h_d, h_a, hm⟩ := lay2 x_d x_a hx
  rw [decode_of (List.mem_singleton.1 hp) ho]
  show Decode.clear 0x3F _ (Instr.frsq (Decode.fld (Decode.operands w) 12 6) (Decode.fld (Decode.operands w) 6 6)) = _
  rw [clear_ok hm, h_d, h_a]

theorem fsqrt (x_d x_a : BitVec 6) : Statement (.fsqrt x_d x_a) := by
  refine of_slot rfl (fun _ => rfl) fun w hp hg ho hx => ?_
  obtain ⟨h_d, h_a, hm⟩ := lay2 x_d x_a hx
  rw [decode_of (List.mem_singleton.1 hp) ho]
  show Decode.clear 0x3F _ (Instr.fsqrt (Decode.fld (Decode.operands w) 12 6) (Decode.fld (Decode.operands w) 6 6)) = _
  rw [clear_ok hm, h_d, h_a]

theorem fexp2 (x_d x_a : BitVec 6) : Statement (.fexp2 x_d x_a) := by
  refine of_slot rfl (fun _ => rfl) fun w hp hg ho hx => ?_
  obtain ⟨h_d, h_a, hm⟩ := lay2 x_d x_a hx
  rw [decode_of (List.mem_singleton.1 hp) ho]
  show Decode.clear 0x3F _ (Instr.fexp2 (Decode.fld (Decode.operands w) 12 6) (Decode.fld (Decode.operands w) 6 6)) = _
  rw [clear_ok hm, h_d, h_a]

theorem flog2 (x_d x_a : BitVec 6) : Statement (.flog2 x_d x_a) := by
  refine of_slot rfl (fun _ => rfl) fun w hp hg ho hx => ?_
  obtain ⟨h_d, h_a, hm⟩ := lay2 x_d x_a hx
  rw [decode_of (List.mem_singleton.1 hp) ho]
  show Decode.clear 0x3F _ (Instr.flog2 (Decode.fld (Decode.operands w) 12 6) (Decode.fld (Decode.operands w) 6 6)) = _
  rw [clear_ok hm, h_d, h_a]

theorem ftanh (x_d x_a : BitVec 6) : Statement (.ftanh x_d x_a) := by
  refine of_slot rfl (fun _ => rfl) fun w hp hg ho hx => ?_
  obtain ⟨h_d, h_a, hm⟩ := lay2 x_d x_a hx
  rw [decode_of (List.mem_singleton.1 hp) ho]
  show Decode.clear 0x3F _ (Instr.ftanh (Decode.fld (Decode.operands w) 12 6) (Decode.fld (Decode.operands w) 6 6)) = _
  rw [clear_ok hm, h_d, h_a]

theorem mldw (x_k x_x x_y x_z : BitVec 3) (x_e : BitVec 6) : Statement (.mldw x_k x_x x_y x_z x_e) := by
  refine of_slot rfl (fun _ => rfl) fun w hp hg ho hx => ?_
  obtain ⟨h_k, h_x, h_y, h_z, h_e⟩ := lay21 x_k x_x x_y x_z x_e hx
  rw [decode_of (List.mem_singleton.1 hp) ho]
  show Except.ok (Instr.mldw (Decode.fld (Decode.operands w) 15 3) (Decode.fld (Decode.operands w) 12 3) (Decode.fld (Decode.operands w) 9 3) (Decode.fld (Decode.operands w) 6 3) (Decode.fld (Decode.operands w) 0 6)) = _
  rw [h_k, h_x, h_y, h_z, h_e]

theorem mswap (x_k x_x x_y x_z : BitVec 3) : Statement (.mswap x_k x_x x_y x_z) := by
  refine of_slot rfl (fun _ => rfl) fun w hp hg ho hx => ?_
  obtain ⟨h_k, h_x, h_y, h_z, hm⟩ := lay22 x_k x_x x_y x_z hx
  rw [decode_of (List.mem_singleton.1 hp) ho]
  show Decode.clear 0x3F _ (Instr.mswap (Decode.fld (Decode.operands w) 15 3) (Decode.fld (Decode.operands w) 12 3) (Decode.fld (Decode.operands w) 9 3) (Decode.fld (Decode.operands w) 6 3)) = _
  rw [clear_ok hm, h_k, h_x, h_y, h_z]

theorem mmul (x_k x_x x_y x_z : BitVec 3) (x_e : BitVec 6) : Statement (.mmul x_k x_x x_y x_z x_e) := by
  refine of_slot rfl (fun _ => rfl) fun w hp hg ho hx => ?_
  obtain ⟨h_k, h_x, h_y, h_z, h_e⟩ := lay21 x_k x_x x_y x_z x_e hx
  rw [decode_of (List.mem_singleton.1 hp) ho]
  show Except.ok (Instr.mmul (Decode.fld (Decode.operands w) 15 3) (Decode.fld (Decode.operands w) 12 3) (Decode.fld (Decode.operands w) 9 3) (Decode.fld (Decode.operands w) 6 3) (Decode.fld (Decode.operands w) 0 6)) = _
  rw [h_k, h_x, h_y, h_z, h_e]

theorem mmuls (x_k x_x x_y x_z : BitVec 3) (x_e : BitVec 6) : Statement (.mmuls x_k x_x x_y x_z x_e) := by
  refine of_slot rfl (fun _ => rfl) fun w hp hg ho hx => ?_
  obtain ⟨h_k, h_x, h_y, h_z, h_e⟩ := lay21 x_k x_x x_y x_z x_e hx
  rw [decode_of (List.mem_singleton.1 hp) ho]
  show Except.ok (Instr.mmuls (Decode.fld (Decode.operands w) 15 3) (Decode.fld (Decode.operands w) 12 3) (Decode.fld (Decode.operands w) 9 3) (Decode.fld (Decode.operands w) 6 3) (Decode.fld (Decode.operands w) 0 6)) = _
  rw [h_k, h_x, h_y, h_z, h_e]

theorem mbagAcc (x_k x_x x_y x_z : BitVec 3) (x_e : BitVec 6) : Statement (.mbagAcc x_k x_x x_y x_z x_e) := by
  refine of_slot rfl (fun _ => rfl) fun w hp hg ho hx => ?_
  obtain ⟨h_k, h_x, h_y, h_z, h_e⟩ := lay21 x_k x_x x_y x_z x_e hx
  rw [decode_of (List.mem_singleton.1 hp) ho]
  show Except.ok (Instr.mbagAcc (Decode.fld (Decode.operands w) 15 3) (Decode.fld (Decode.operands w) 12 3) (Decode.fld (Decode.operands w) 9 3) (Decode.fld (Decode.operands w) 6 3) (Decode.fld (Decode.operands w) 0 6)) = _
  rw [h_k, h_x, h_y, h_z, h_e]

theorem mbagSteer (x_k x_x x_y x_z : BitVec 3) (x_e : BitVec 6) : Statement (.mbagSteer x_k x_x x_y x_z x_e) := by
  refine of_slot rfl (fun _ => rfl) fun w hp hg ho hx => ?_
  obtain ⟨h_k, h_x, h_y, h_z, h_e⟩ := lay21 x_k x_x x_y x_z x_e hx
  rw [decode_of (List.mem_singleton.1 hp) ho]
  show Except.ok (Instr.mbagSteer (Decode.fld (Decode.operands w) 15 3) (Decode.fld (Decode.operands w) 12 3) (Decode.fld (Decode.operands w) 9 3) (Decode.fld (Decode.operands w) 6 3) (Decode.fld (Decode.operands w) 0 6)) = _
  rw [h_k, h_x, h_y, h_z, h_e]

theorem mzero (x_k x_x x_y x_z : BitVec 3) (x_e : BitVec 6) : Statement (.mzero x_k x_x x_y x_z x_e) := by
  refine of_slot rfl (fun _ => rfl) fun w hp hg ho hx => ?_
  obtain ⟨h_k, h_x, h_y, h_z, h_e⟩ := lay21 x_k x_x x_y x_z x_e hx
  rw [decode_of (List.mem_singleton.1 hp) ho]
  show Except.ok (Instr.mzero (Decode.fld (Decode.operands w) 15 3) (Decode.fld (Decode.operands w) 12 3) (Decode.fld (Decode.operands w) 9 3) (Decode.fld (Decode.operands w) 6 3) (Decode.fld (Decode.operands w) 0 6)) = _
  rw [h_k, h_x, h_y, h_z, h_e]

theorem manch (x_k x_x x_y x_z : BitVec 3) (x_e : BitVec 6) : Statement (.manch x_k x_x x_y x_z x_e) := by
  refine of_slot rfl (fun _ => rfl) fun w hp hg ho hx => ?_
  obtain ⟨h_k, h_x, h_y, h_z, h_e⟩ := lay21 x_k x_x x_y x_z x_e hx
  rw [decode_of (List.mem_singleton.1 hp) ho]
  show Except.ok (Instr.manch (Decode.fld (Decode.operands w) 15 3) (Decode.fld (Decode.operands w) 12 3) (Decode.fld (Decode.operands w) 9 3) (Decode.fld (Decode.operands w) 6 3) (Decode.fld (Decode.operands w) 0 6)) = _
  rw [h_k, h_x, h_y, h_z, h_e]

theorem mrd (x_k x_x x_y x_z : BitVec 3) (x_e : BitVec 6) : Statement (.mrd x_k x_x x_y x_z x_e) := by
  refine of_slot rfl (fun _ => rfl) fun w hp hg ho hx => ?_
  obtain ⟨h_k, h_x, h_y, h_z, h_e⟩ := lay21 x_k x_x x_y x_z x_e hx
  rw [decode_of (List.mem_singleton.1 hp) ho]
  show Except.ok (Instr.mrd (Decode.fld (Decode.operands w) 15 3) (Decode.fld (Decode.operands w) 12 3) (Decode.fld (Decode.operands w) 9 3) (Decode.fld (Decode.operands w) 6 3) (Decode.fld (Decode.operands w) 0 6)) = _
  rw [h_k, h_x, h_y, h_z, h_e]

theorem mst (x_k x_x x_y x_z : BitVec 3) (x_e : BitVec 6) : Statement (.mst x_k x_x x_y x_z x_e) := by
  refine of_slot rfl (fun _ => rfl) fun w hp hg ho hx => ?_
  obtain ⟨h_k, h_x, h_y, h_z, h_e⟩ := lay21 x_k x_x x_y x_z x_e hx
  rw [decode_of (List.mem_singleton.1 hp) ho]
  show Except.ok (Instr.mst (Decode.fld (Decode.operands w) 15 3) (Decode.fld (Decode.operands w) 12 3) (Decode.fld (Decode.operands w) 9 3) (Decode.fld (Decode.operands w) 6 3) (Decode.fld (Decode.operands w) 0 6)) = _
  rw [h_k, h_x, h_y, h_z, h_e]

theorem maddv (x_k x_x x_y x_z : BitVec 3) (x_e : BitVec 6) : Statement (.maddv x_k x_x x_y x_z x_e) := by
  refine of_slot rfl (fun _ => rfl) fun w hp hg ho hx => ?_
  obtain ⟨h_k, h_x, h_y, h_z, h_e⟩ := lay21 x_k x_x x_y x_z x_e hx
  rw [decode_of (List.mem_singleton.1 hp) ho]
  show Except.ok (Instr.maddv (Decode.fld (Decode.operands w) 15 3) (Decode.fld (Decode.operands w) 12 3) (Decode.fld (Decode.operands w) 9 3) (Decode.fld (Decode.operands w) 6 3) (Decode.fld (Decode.operands w) 0 6)) = _
  rw [h_k, h_x, h_y, h_z, h_e]

theorem mstat (x_k x_x x_y x_z : BitVec 3) (x_e : BitVec 6) : Statement (.mstat x_k x_x x_y x_z x_e) := by
  refine of_slot rfl (fun _ => rfl) fun w hp hg ho hx => ?_
  obtain ⟨h_k, h_x, h_y, h_z, h_e⟩ := lay21 x_k x_x x_y x_z x_e hx
  rw [decode_of (List.mem_singleton.1 hp) ho]
  show Except.ok (Instr.mstat (Decode.fld (Decode.operands w) 15 3) (Decode.fld (Decode.operands w) 12 3) (Decode.fld (Decode.operands w) 9 3) (Decode.fld (Decode.operands w) 6 3) (Decode.fld (Decode.operands w) 0 6)) = _
  rw [h_k, h_x, h_y, h_z, h_e]

theorem mtrl (x_k x_x x_y x_z : BitVec 3) (x_e : BitVec 6) : Statement (.mtrl x_k x_x x_y x_z x_e) := by
  refine of_slot rfl (fun _ => rfl) fun w hp hg ho hx => ?_
  obtain ⟨h_k, h_x, h_y, h_z, h_e⟩ := lay21 x_k x_x x_y x_z x_e hx
  rw [decode_of (List.mem_singleton.1 hp) ho]
  show Except.ok (Instr.mtrl (Decode.fld (Decode.operands w) 15 3) (Decode.fld (Decode.operands w) 12 3) (Decode.fld (Decode.operands w) 9 3) (Decode.fld (Decode.operands w) 6 3) (Decode.fld (Decode.operands w) 0 6)) = _
  rw [h_k, h_x, h_y, h_z, h_e]

theorem mldt (x_k x_x x_y x_z : BitVec 3) (x_e : BitVec 6) : Statement (.mldt x_k x_x x_y x_z x_e) := by
  refine of_slot rfl (fun _ => rfl) fun w hp hg ho hx => ?_
  obtain ⟨h_k, h_x, h_y, h_z, h_e⟩ := lay21 x_k x_x x_y x_z x_e hx
  rw [decode_of (List.mem_singleton.1 hp) ho]
  show Except.ok (Instr.mldt (Decode.fld (Decode.operands w) 15 3) (Decode.fld (Decode.operands w) 12 3) (Decode.fld (Decode.operands w) 9 3) (Decode.fld (Decode.operands w) 6 3) (Decode.fld (Decode.operands w) 0 6)) = _
  rw [h_k, h_x, h_y, h_z, h_e]

theorem mstt (x_k x_x x_y x_z : BitVec 3) (x_e : BitVec 6) : Statement (.mstt x_k x_x x_y x_z x_e) := by
  refine of_slot rfl (fun _ => rfl) fun w hp hg ho hx => ?_
  obtain ⟨h_k, h_x, h_y, h_z, h_e⟩ := lay21 x_k x_x x_y x_z x_e hx
  rw [decode_of (List.mem_singleton.1 hp) ho]
  show Except.ok (Instr.mstt (Decode.fld (Decode.operands w) 15 3) (Decode.fld (Decode.operands w) 12 3) (Decode.fld (Decode.operands w) 9 3) (Decode.fld (Decode.operands w) 6 3) (Decode.fld (Decode.operands w) 0 6)) = _
  rw [h_k, h_x, h_y, h_z, h_e]

theorem mcode (x_k x_x x_y x_z : BitVec 3) (x_e : BitVec 6) : Statement (.mcode x_k x_x x_y x_z x_e) := by
  refine of_slot rfl (fun _ => rfl) fun w hp hg ho hx => ?_
  obtain ⟨h_k, h_x, h_y, h_z, h_e⟩ := lay21 x_k x_x x_y x_z x_e hx
  rw [decode_of (List.mem_singleton.1 hp) ho]
  show Except.ok (Instr.mcode (Decode.fld (Decode.operands w) 15 3) (Decode.fld (Decode.operands w) 12 3) (Decode.fld (Decode.operands w) 9 3) (Decode.fld (Decode.operands w) 6 3) (Decode.fld (Decode.operands w) 0 6)) = _
  rw [h_k, h_x, h_y, h_z, h_e]

theorem cpy (x_k x_x x_y x_z : BitVec 3) (x_e : BitVec 6) : Statement (.cpy x_k x_x x_y x_z x_e) := by
  refine of_slot rfl (fun _ => rfl) fun w hp hg ho hx => ?_
  obtain ⟨h_k, h_x, h_y, h_z, h_e⟩ := lay21 x_k x_x x_y x_z x_e hx
  simp only [List.mem_cons, List.not_mem_nil, or_false] at hp
  rcases hp with hp | hp
  all_goals
    rw [decode_of hp ho]
    show Except.ok (Instr.cpy (Decode.fld (Decode.operands w) 15 3) (Decode.fld (Decode.operands w) 12 3) (Decode.fld (Decode.operands w) 9 3) (Decode.fld (Decode.operands w) 6 3) (Decode.fld (Decode.operands w) 0 6)) = _
    rw [h_k, h_x, h_y, h_z, h_e]

theorem cpym (x_k x_x x_y x_z : BitVec 3) (x_e : BitVec 6) : Statement (.cpym x_k x_x x_y x_z x_e) := by
  refine of_slot rfl (fun _ => rfl) fun w hp hg ho hx => ?_
  obtain ⟨h_k, h_x, h_y, h_z, h_e⟩ := lay21 x_k x_x x_y x_z x_e hx
  simp only [List.mem_cons, List.not_mem_nil, or_false] at hp
  rcases hp with hp | hp
  all_goals
    rw [decode_of hp ho]
    show Except.ok (Instr.cpym (Decode.fld (Decode.operands w) 15 3) (Decode.fld (Decode.operands w) 12 3) (Decode.fld (Decode.operands w) 9 3) (Decode.fld (Decode.operands w) 6 3) (Decode.fld (Decode.operands w) 0 6)) = _
    rw [h_k, h_x, h_y, h_z, h_e]

theorem gath (x_k x_x x_y x_z : BitVec 3) (x_e : BitVec 6) : Statement (.gath x_k x_x x_y x_z x_e) := by
  refine of_slot rfl (fun _ => rfl) fun w hp hg ho hx => ?_
  obtain ⟨h_k, h_x, h_y, h_z, h_e⟩ := lay21 x_k x_x x_y x_z x_e hx
  simp only [List.mem_cons, List.not_mem_nil, or_false] at hp
  rcases hp with hp | hp
  all_goals
    rw [decode_of hp ho]
    show Except.ok (Instr.gath (Decode.fld (Decode.operands w) 15 3) (Decode.fld (Decode.operands w) 12 3) (Decode.fld (Decode.operands w) 9 3) (Decode.fld (Decode.operands w) 6 3) (Decode.fld (Decode.operands w) 0 6)) = _
    rw [h_k, h_x, h_y, h_z, h_e]

theorem scat (x_k x_x x_y x_z : BitVec 3) (x_e : BitVec 6) : Statement (.scat x_k x_x x_y x_z x_e) := by
  refine of_slot rfl (fun _ => rfl) fun w hp hg ho hx => ?_
  obtain ⟨h_k, h_x, h_y, h_z, h_e⟩ := lay21 x_k x_x x_y x_z x_e hx
  simp only [List.mem_cons, List.not_mem_nil, or_false] at hp
  rcases hp with hp | hp
  all_goals
    rw [decode_of hp ho]
    show Except.ok (Instr.scat (Decode.fld (Decode.operands w) 15 3) (Decode.fld (Decode.operands w) 12 3) (Decode.fld (Decode.operands w) 9 3) (Decode.fld (Decode.operands w) 6 3) (Decode.fld (Decode.operands w) 0 6)) = _
    rw [h_k, h_x, h_y, h_z, h_e]

theorem fill (x_k x_x x_y x_z : BitVec 3) (x_e : BitVec 6) : Statement (.fill x_k x_x x_y x_z x_e) := by
  refine of_slot rfl (fun _ => rfl) fun w hp hg ho hx => ?_
  obtain ⟨h_k, h_x, h_y, h_z, h_e⟩ := lay21 x_k x_x x_y x_z x_e hx
  simp only [List.mem_cons, List.not_mem_nil, or_false] at hp
  rcases hp with hp | hp
  all_goals
    rw [decode_of hp ho]
    show Except.ok (Instr.fill (Decode.fld (Decode.operands w) 15 3) (Decode.fld (Decode.operands w) 12 3) (Decode.fld (Decode.operands w) 9 3) (Decode.fld (Decode.operands w) 6 3) (Decode.fld (Decode.operands w) 0 6)) = _
    rw [h_k, h_x, h_y, h_z, h_e]

theorem bulk (x_k x_x x_y x_z : BitVec 3) (x_e : BitVec 6) : Statement (.bulk x_k x_x x_y x_z x_e) := by
  refine of_slot rfl (fun _ => rfl) fun w hp hg ho hx => ?_
  obtain ⟨h_k, h_x, h_y, h_z, h_e⟩ := lay21 x_k x_x x_y x_z x_e hx
  simp only [List.mem_cons, List.not_mem_nil, or_false] at hp
  rcases hp with hp | hp
  all_goals
    rw [decode_of hp ho]
    show Except.ok (Instr.bulk (Decode.fld (Decode.operands w) 15 3) (Decode.fld (Decode.operands w) 12 3) (Decode.fld (Decode.operands w) 9 3) (Decode.fld (Decode.operands w) 6 3) (Decode.fld (Decode.operands w) 0 6)) = _
    rw [h_k, h_x, h_y, h_z, h_e]

theorem au (x_d x_a : BitVec 4) (x_b : BitVec 6) : Statement (.au x_d x_a x_b) := by
  refine of_slot rfl (fun _ => rfl) fun w hp hg ho hx => ?_
  obtain ⟨h_d, h_a, h_b, hm⟩ := lay23 x_d x_a x_b hx
  rw [decode_of (List.mem_singleton.1 hp) ho]
  show Decode.clear 0x30C00 _ (Instr.au (Decode.fld (Decode.operands w) 12 4) (Decode.fld (Decode.operands w) 6 4) (Decode.fld (Decode.operands w) 0 6)) = _
  rw [clear_ok hm, h_d, h_a, h_b]

theorem aui (x_d : BitVec 4) (x_i : BitVec 12) : Statement (.aui x_d x_i) := by
  refine of_slot rfl (fun _ => rfl) fun w hp hg ho hx => ?_
  obtain ⟨h_d, h_i, hm⟩ := lay24 x_d x_i hx
  rw [decode_of (List.mem_singleton.1 hp) ho]
  show Decode.clear 0x30000 _ (Instr.aui (Decode.fld (Decode.operands w) 12 4) (Decode.fld (Decode.operands w) 0 12)) = _
  rw [clear_ok hm, h_d, h_i]

theorem amov (x_d : BitVec 4) (x_a : BitVec 6) : Statement (.amov x_d x_a) := by
  refine of_slot rfl (fun _ => rfl) fun w hp hg ho hx => ?_
  obtain ⟨h_d, h_a, hm⟩ := lay25 x_d x_a hx
  rw [decode_of (List.mem_singleton.1 hp) ho]
  show Decode.clear 0x3003F _ (Instr.amov (Decode.fld (Decode.operands w) 12 4) (Decode.fld (Decode.operands w) 6 6)) = _
  rw [clear_ok hm, h_d, h_a]

theorem aget (x_d : BitVec 6) (x_a : BitVec 4) : Statement (.aget x_d x_a) := by
  refine of_slot rfl (fun _ => rfl) fun w hp hg ho hx => ?_
  obtain ⟨h_d, h_a, hm⟩ := lay26 x_d x_a hx
  rw [decode_of (List.mem_singleton.1 hp) ho]
  show Decode.clear 0xC3F _ (Instr.aget (Decode.fld (Decode.operands w) 12 6) (Decode.fld (Decode.operands w) 6 4)) = _
  rw [clear_ok hm, h_d, h_a]

theorem loop (x_l : BitVec 3) (x_c x_b : BitVec 6) (x_n : BitVec 3) : Statement (.loop x_l x_c x_b x_n) := by
  refine of_slot rfl (fun _ => rfl) fun w hp hg ho hx => ?_
  obtain ⟨h_l, h_c, h_b, h_n⟩ := lay27 x_l x_c x_b x_n hx
  rw [decode_of (List.mem_singleton.1 hp) ho]
  show Except.ok (Instr.loop (Decode.fld (Decode.operands w) 15 3) (Decode.fld (Decode.operands w) 9 6) (Decode.fld (Decode.operands w) 3 6) (Decode.fld (Decode.operands w) 0 3)) = _
  rw [h_l, h_c, h_b, h_n]

theorem lstep (x_a : BitVec 4) (x_l : BitVec 3) (x_s : BitVec 6) : Statement (.lstep x_a x_l x_s) := by
  refine of_slot rfl (fun _ => rfl) fun w hp hg ho hx => ?_
  obtain ⟨h_a, h_l, h_s, hm⟩ := lay28 x_a x_l x_s hx
  rw [decode_of (List.mem_singleton.1 hp) ho]
  show Decode.clear 0x1F _ (Instr.lstep (Decode.fld (Decode.operands w) 14 4) (Decode.fld (Decode.operands w) 11 3) (Decode.fld (Decode.operands w) 5 6)) = _
  rw [clear_ok hm, h_a, h_l, h_s]

theorem pand (x_d x_a x_b : BitVec 4) : Statement (.pand x_d x_a x_b) := by
  refine of_slot rfl (fun _ => rfl) fun w hp hg ho hx => ?_
  obtain ⟨h_d, h_a, h_b, hm⟩ := lay29 x_d x_a x_b hx
  rw [decode_of (List.mem_singleton.1 hp) ho]
  show Decode.clear 0x30C30 _ (Instr.pand (Decode.fld (Decode.operands w) 12 4) (Decode.fld (Decode.operands w) 6 4) (Decode.fld (Decode.operands w) 0 4)) = _
  rw [clear_ok hm, h_d, h_a, h_b]

theorem por (x_d x_a x_b : BitVec 4) : Statement (.por x_d x_a x_b) := by
  refine of_slot rfl (fun _ => rfl) fun w hp hg ho hx => ?_
  obtain ⟨h_d, h_a, h_b, hm⟩ := lay29 x_d x_a x_b hx
  rw [decode_of (List.mem_singleton.1 hp) ho]
  show Decode.clear 0x30C30 _ (Instr.por (Decode.fld (Decode.operands w) 12 4) (Decode.fld (Decode.operands w) 6 4) (Decode.fld (Decode.operands w) 0 4)) = _
  rw [clear_ok hm, h_d, h_a, h_b]

theorem pxor (x_d x_a x_b : BitVec 4) : Statement (.pxor x_d x_a x_b) := by
  refine of_slot rfl (fun _ => rfl) fun w hp hg ho hx => ?_
  obtain ⟨h_d, h_a, h_b, hm⟩ := lay29 x_d x_a x_b hx
  rw [decode_of (List.mem_singleton.1 hp) ho]
  show Decode.clear 0x30C30 _ (Instr.pxor (Decode.fld (Decode.operands w) 12 4) (Decode.fld (Decode.operands w) 6 4) (Decode.fld (Decode.operands w) 0 4)) = _
  rw [clear_ok hm, h_d, h_a, h_b]

theorem pnot (x_d x_a : BitVec 4) : Statement (.pnot x_d x_a) := by
  refine of_slot rfl (fun _ => rfl) fun w hp hg ho hx => ?_
  obtain ⟨h_d, h_a, hm⟩ := lay30 x_d x_a hx
  rw [decode_of (List.mem_singleton.1 hp) ho]
  show Decode.clear 0x30C3F _ (Instr.pnot (Decode.fld (Decode.operands w) 12 4) (Decode.fld (Decode.operands w) 6 4)) = _
  rw [clear_ok hm, h_d, h_a]

theorem pmov (x_d x_a : BitVec 4) : Statement (.pmov x_d x_a) := by
  refine of_slot rfl (fun _ => rfl) fun w hp hg ho hx => ?_
  obtain ⟨h_d, h_a, hm⟩ := lay30 x_d x_a hx
  rw [decode_of (List.mem_singleton.1 hp) ho]
  show Decode.clear 0x30C3F _ (Instr.pmov (Decode.fld (Decode.operands w) 12 4) (Decode.fld (Decode.operands w) 6 4)) = _
  rw [clear_ok hm, h_d, h_a]

theorem pset (x_d : BitVec 4) (x_v : BitVec 1) : Statement (.pset x_d x_v) := by
  refine of_slot rfl (fun _ => rfl) fun w hp hg ho hx => ?_
  obtain ⟨h_d, h_v, hm⟩ := lay31 x_d x_v hx
  rw [decode_of (List.mem_singleton.1 hp) ho]
  show Decode.clear 0x30FFE _ (Instr.pset (Decode.fld (Decode.operands w) 12 4) (Decode.fld (Decode.operands w) 0 1)) = _
  rw [clear_ok hm, h_d, h_v]

theorem stage (x_l : BitVec 3) (x_i : BitVec 12) : Statement (.stage x_l x_i) := by
  refine of_slot rfl (fun _ => rfl) fun w hp hg ho hx => ?_
  obtain ⟨h_l, h_i, hm⟩ := lay32 x_l x_i hx
  rw [decode_of (List.mem_singleton.1 hp) ho]
  show Decode.clear 0x38000 _ (Instr.stage (Decode.fld (Decode.operands w) 12 3) (Decode.fld (Decode.operands w) 0 12)) = _
  rw [clear_ok hm, h_l, h_i]

theorem kclr (x_k : BitVec 3) : Statement (.kclr x_k) := by
  refine of_slot rfl (fun _ => rfl) fun w hp hg ho hx => ?_
  obtain ⟨h_k, hm⟩ := lay33 x_k hx
  rw [decode_of (List.mem_singleton.1 hp) ho]
  show Decode.clear 0x7FFF _ (Instr.kclr (Decode.fld (Decode.operands w) 15 3)) = _
  rw [clear_ok hm, h_k]

theorem probe (x_r : BitVec 3) (x_d : BitVec 6) (x_a : BitVec 4) : Statement (.probe x_r x_d x_a) := by
  refine of_slot rfl (fun _ => rfl) fun w hp hg ho hx => ?_
  obtain ⟨h_r, h_d, h_a, hm⟩ := lay34 x_r x_d x_a hx
  rw [decode_of (List.mem_singleton.1 hp) ho]
  show Decode.clear 0x1F _ (Instr.probe (Decode.fld (Decode.operands w) 15 3) (Decode.fld (Decode.operands w) 9 6) (Decode.fld (Decode.operands w) 5 4)) = _
  rw [clear_ok hm, h_r, h_d, h_a]

theorem probei (x_r : BitVec 3) (x_d : BitVec 6) (x_a : BitVec 4) : Statement (.probei x_r x_d x_a) := by
  refine of_slot rfl (fun _ => rfl) fun w hp hg ho hx => ?_
  obtain ⟨h_r, h_d, h_a, hm⟩ := lay34 x_r x_d x_a hx
  rw [decode_of (List.mem_singleton.1 hp) ho]
  show Decode.clear 0x1F _ (Instr.probei (Decode.fld (Decode.operands w) 15 3) (Decode.fld (Decode.operands w) 9 6) (Decode.fld (Decode.operands w) 5 4)) = _
  rw [clear_ok hm, h_r, h_d, h_a]

theorem pwb (x_a : BitVec 4) : Statement (.pwb x_a) := by
  refine of_slot rfl (fun _ => rfl) fun w hp hg ho hx => ?_
  obtain ⟨h_a, hm⟩ := lay35 x_a hx
  rw [decode_of (List.mem_singleton.1 hp) ho]
  show Decode.clear 0x3F0FF _ (Instr.pwb (Decode.fld (Decode.operands w) 8 4)) = _
  rw [clear_ok hm, h_a]

theorem pinv (x_a : BitVec 4) : Statement (.pinv x_a) := by
  refine of_slot rfl (fun _ => rfl) fun w hp hg ho hx => ?_
  obtain ⟨h_a, hm⟩ := lay35 x_a hx
  rw [decode_of (List.mem_singleton.1 hp) ho]
  show Decode.clear 0x3F0FF _ (Instr.pinv (Decode.fld (Decode.operands w) 8 4)) = _
  rw [clear_ok hm, h_a]

theorem ppin (x_a : BitVec 4) (x_n : BitVec 1) : Statement (.ppin x_a x_n) := by
  refine of_slot rfl (fun _ => rfl) fun w hp hg ho hx => ?_
  obtain ⟨h_a, h_n, hm⟩ := lay36 x_a x_n hx
  rw [decode_of (List.mem_singleton.1 hp) ho]
  show Decode.clear 0x3F0FE _ (Instr.ppin (Decode.fld (Decode.operands w) 8 4) (Decode.fld (Decode.operands w) 0 1)) = _
  rw [clear_ok hm, h_a, h_n]

theorem ldg (x_l : BitVec 2) (x_d : BitVec 6) (x_a : BitVec 4) (x_o : BitVec 5) (x_z : BitVec 3) : Statement (.ldg x_l x_d x_a x_o x_z) := by
  refine of_slot rfl (fun _ => rfl) fun w hp hg ho hx => ?_
  obtain ⟨h_d, h_a, h_o, h_z⟩ := lay37 x_d x_a x_o x_z hx
  rcases two_bits x_l with rfl | rfl | rfl | rfl
  all_goals
    rw [decode_of (List.mem_singleton.1 hp) ho]
    show Except.ok (Instr.ldg _ (Decode.fld (Decode.operands w) 12 6) (Decode.fld (Decode.operands w) 8 4) (Decode.fld (Decode.operands w) 3 5) (Decode.fld (Decode.operands w) 0 3)) = _
    rw [h_d, h_a, h_o, h_z]

theorem ldgi (x_d : BitVec 6) (x_a : BitVec 4) (x_o : BitVec 5) (x_z : BitVec 3) : Statement (.ldgi x_d x_a x_o x_z) := by
  refine of_slot rfl (fun _ => rfl) fun w hp hg ho hx => ?_
  obtain ⟨h_d, h_a, h_o, h_z⟩ := lay37 x_d x_a x_o x_z hx
  rw [decode_of (List.mem_singleton.1 hp) ho]
  show Except.ok (Instr.ldgi (Decode.fld (Decode.operands w) 12 6) (Decode.fld (Decode.operands w) 8 4) (Decode.fld (Decode.operands w) 3 5) (Decode.fld (Decode.operands w) 0 3)) = _
  rw [h_d, h_a, h_o, h_z]

theorem ldgv (x_d : BitVec 6) (x_a : BitVec 4) (x_o : BitVec 5) (x_z : BitVec 3) : Statement (.ldgv x_d x_a x_o x_z) := by
  refine of_slot rfl (fun _ => rfl) fun w hp hg ho hx => ?_
  obtain ⟨h_d, h_a, h_o, h_z⟩ := lay37 x_d x_a x_o x_z hx
  rw [decode_of (List.mem_singleton.1 hp) ho]
  show Except.ok (Instr.ldgv (Decode.fld (Decode.operands w) 12 6) (Decode.fld (Decode.operands w) 8 4) (Decode.fld (Decode.operands w) 3 5) (Decode.fld (Decode.operands w) 0 3)) = _
  rw [h_d, h_a, h_o, h_z]

theorem stg (x_l : BitVec 2) (x_d : BitVec 6) (x_a : BitVec 4) (x_o : BitVec 5) (x_z : BitVec 3) : Statement (.stg x_l x_d x_a x_o x_z) := by
  refine of_slot rfl (fun _ => rfl) fun w hp hg ho hx => ?_
  obtain ⟨h_d, h_a, h_o, h_z⟩ := lay37 x_d x_a x_o x_z hx
  rcases two_bits x_l with rfl | rfl | rfl | rfl
  all_goals
    rw [decode_of (List.mem_singleton.1 hp) ho]
    show Except.ok (Instr.stg _ (Decode.fld (Decode.operands w) 12 6) (Decode.fld (Decode.operands w) 8 4) (Decode.fld (Decode.operands w) 3 5) (Decode.fld (Decode.operands w) 0 3)) = _
    rw [h_d, h_a, h_o, h_z]

theorem stgv (x_d : BitVec 6) (x_a : BitVec 4) (x_o : BitVec 5) (x_z : BitVec 3) : Statement (.stgv x_d x_a x_o x_z) := by
  refine of_slot rfl (fun _ => rfl) fun w hp hg ho hx => ?_
  obtain ⟨h_d, h_a, h_o, h_z⟩ := lay37 x_d x_a x_o x_z hx
  rw [decode_of (List.mem_singleton.1 hp) ho]
  show Except.ok (Instr.stgv (Decode.fld (Decode.operands w) 12 6) (Decode.fld (Decode.operands w) 8 4) (Decode.fld (Decode.operands w) 3 5) (Decode.fld (Decode.operands w) 0 3)) = _
  rw [h_d, h_a, h_o, h_z]

theorem lda (x_d : BitVec 6) (x_a : BitVec 4) (x_z : BitVec 3) : Statement (.lda x_d x_a x_z) := by
  refine of_slot rfl (fun _ => rfl) fun w hp hg ho hx => ?_
  obtain ⟨h_d, h_a, h_z, hm⟩ := lay38 x_d x_a x_z hx
  rw [decode_of (List.mem_singleton.1 hp) ho]
  show Decode.clear 0xF8 _ (Instr.lda (Decode.fld (Decode.operands w) 12 6) (Decode.fld (Decode.operands w) 8 4) (Decode.fld (Decode.operands w) 0 3)) = _
  rw [clear_ok hm, h_d, h_a, h_z]

theorem stl (x_d : BitVec 6) (x_a : BitVec 4) (x_o : BitVec 5) (x_z : BitVec 3) : Statement (.stl x_d x_a x_o x_z) := by
  refine of_slot rfl (fun _ => rfl) fun w hp hg ho hx => ?_
  obtain ⟨h_d, h_a, h_o, h_z⟩ := lay37 x_d x_a x_o x_z hx
  rw [decode_of (List.mem_singleton.1 hp) ho]
  show Except.ok (Instr.stl (Decode.fld (Decode.operands w) 12 6) (Decode.fld (Decode.operands w) 8 4) (Decode.fld (Decode.operands w) 3 5) (Decode.fld (Decode.operands w) 0 3)) = _
  rw [h_d, h_a, h_o, h_z]

theorem aadd (x_d : BitVec 6) (x_a : BitVec 4) (x_w : BitVec 2) (x_c x_z : BitVec 3) : Statement (.aadd x_d x_a x_w x_c x_z) := by
  refine of_slot rfl (fun _ => rfl) fun w hp hg ho hx => ?_
  obtain ⟨h_d, h_a, h_w, h_c, h_z⟩ := lay39 x_d x_a x_w x_c x_z hx
  rw [decode_of (List.mem_singleton.1 hp) ho]
  show Except.ok (Instr.aadd (Decode.fld (Decode.operands w) 12 6) (Decode.fld (Decode.operands w) 8 4) (Decode.fld (Decode.operands w) 6 2) (Decode.fld (Decode.operands w) 3 3) (Decode.fld (Decode.operands w) 0 3)) = _
  rw [h_d, h_a, h_w, h_c, h_z]

theorem aaddf (x_d : BitVec 6) (x_a : BitVec 4) (x_w : BitVec 2) (x_c x_z : BitVec 3) : Statement (.aaddf x_d x_a x_w x_c x_z) := by
  refine of_slot rfl (fun _ => rfl) fun w hp hg ho hx => ?_
  obtain ⟨h_d, h_a, h_w, h_c, h_z⟩ := lay39 x_d x_a x_w x_c x_z hx
  rw [decode_of (List.mem_singleton.1 hp) ho]
  show Except.ok (Instr.aaddf (Decode.fld (Decode.operands w) 12 6) (Decode.fld (Decode.operands w) 8 4) (Decode.fld (Decode.operands w) 6 2) (Decode.fld (Decode.operands w) 3 3) (Decode.fld (Decode.operands w) 0 3)) = _
  rw [h_d, h_a, h_w, h_c, h_z]

theorem aaddqFp32 (x_d : BitVec 6) (x_a : BitVec 4) (x_w : BitVec 2) (x_c x_q : BitVec 3) : Statement (.aaddqFp32 x_d x_a x_w x_c x_q) := by
  refine of_slot rfl (fun _ => rfl) fun w hp hg ho hx => ?_
  obtain ⟨h_d, h_a, h_w, h_c, h_q⟩ := lay39 x_d x_a x_w x_c x_q hx
  rw [decode_of (List.mem_singleton.1 hp) ho]
  show Except.ok (Instr.aaddqFp32 (Decode.fld (Decode.operands w) 12 6) (Decode.fld (Decode.operands w) 8 4) (Decode.fld (Decode.operands w) 6 2) (Decode.fld (Decode.operands w) 3 3) (Decode.fld (Decode.operands w) 0 3)) = _
  rw [h_d, h_a, h_w, h_c, h_q]

theorem aaddqBf16 (x_d : BitVec 6) (x_a : BitVec 4) (x_w : BitVec 2) (x_c x_q : BitVec 3) : Statement (.aaddqBf16 x_d x_a x_w x_c x_q) := by
  refine of_slot rfl (fun _ => rfl) fun w hp hg ho hx => ?_
  obtain ⟨h_d, h_a, h_w, h_c, h_q⟩ := lay39 x_d x_a x_w x_c x_q hx
  rw [decode_of (List.mem_singleton.1 hp) ho]
  show Except.ok (Instr.aaddqBf16 (Decode.fld (Decode.operands w) 12 6) (Decode.fld (Decode.operands w) 8 4) (Decode.fld (Decode.operands w) 6 2) (Decode.fld (Decode.operands w) 3 3) (Decode.fld (Decode.operands w) 0 3)) = _
  rw [h_d, h_a, h_w, h_c, h_q]

theorem aaddqFp16 (x_d : BitVec 6) (x_a : BitVec 4) (x_w : BitVec 2) (x_c x_q : BitVec 3) : Statement (.aaddqFp16 x_d x_a x_w x_c x_q) := by
  refine of_slot rfl (fun _ => rfl) fun w hp hg ho hx => ?_
  obtain ⟨h_d, h_a, h_w, h_c, h_q⟩ := lay39 x_d x_a x_w x_c x_q hx
  rw [decode_of (List.mem_singleton.1 hp) ho]
  show Except.ok (Instr.aaddqFp16 (Decode.fld (Decode.operands w) 12 6) (Decode.fld (Decode.operands w) 8 4) (Decode.fld (Decode.operands w) 6 2) (Decode.fld (Decode.operands w) 3 3) (Decode.fld (Decode.operands w) 0 3)) = _
  rw [h_d, h_a, h_w, h_c, h_q]

theorem amin (x_d : BitVec 6) (x_a : BitVec 4) (x_w : BitVec 2) (x_c x_z : BitVec 3) : Statement (.amin x_d x_a x_w x_c x_z) := by
  refine of_slot rfl (fun _ => rfl) fun w hp hg ho hx => ?_
  obtain ⟨h_d, h_a, h_w, h_c, h_z⟩ := lay39 x_d x_a x_w x_c x_z hx
  rw [decode_of (List.mem_singleton.1 hp) ho]
  show Except.ok (Instr.amin (Decode.fld (Decode.operands w) 12 6) (Decode.fld (Decode.operands w) 8 4) (Decode.fld (Decode.operands w) 6 2) (Decode.fld (Decode.operands w) 3 3) (Decode.fld (Decode.operands w) 0 3)) = _
  rw [h_d, h_a, h_w, h_c, h_z]

theorem amax (x_d : BitVec 6) (x_a : BitVec 4) (x_w : BitVec 2) (x_c x_z : BitVec 3) : Statement (.amax x_d x_a x_w x_c x_z) := by
  refine of_slot rfl (fun _ => rfl) fun w hp hg ho hx => ?_
  obtain ⟨h_d, h_a, h_w, h_c, h_z⟩ := lay39 x_d x_a x_w x_c x_z hx
  rw [decode_of (List.mem_singleton.1 hp) ho]
  show Except.ok (Instr.amax (Decode.fld (Decode.operands w) 12 6) (Decode.fld (Decode.operands w) 8 4) (Decode.fld (Decode.operands w) 6 2) (Decode.fld (Decode.operands w) 3 3) (Decode.fld (Decode.operands w) 0 3)) = _
  rw [h_d, h_a, h_w, h_c, h_z]

theorem aand (x_d : BitVec 6) (x_a : BitVec 4) (x_w : BitVec 2) (x_c x_z : BitVec 3) : Statement (.aand x_d x_a x_w x_c x_z) := by
  refine of_slot rfl (fun _ => rfl) fun w hp hg ho hx => ?_
  obtain ⟨h_d, h_a, h_w, h_c, h_z⟩ := lay39 x_d x_a x_w x_c x_z hx
  rw [decode_of (List.mem_singleton.1 hp) ho]
  show Except.ok (Instr.aand (Decode.fld (Decode.operands w) 12 6) (Decode.fld (Decode.operands w) 8 4) (Decode.fld (Decode.operands w) 6 2) (Decode.fld (Decode.operands w) 3 3) (Decode.fld (Decode.operands w) 0 3)) = _
  rw [h_d, h_a, h_w, h_c, h_z]

theorem aor (x_d : BitVec 6) (x_a : BitVec 4) (x_w : BitVec 2) (x_c x_z : BitVec 3) : Statement (.aor x_d x_a x_w x_c x_z) := by
  refine of_slot rfl (fun _ => rfl) fun w hp hg ho hx => ?_
  obtain ⟨h_d, h_a, h_w, h_c, h_z⟩ := lay39 x_d x_a x_w x_c x_z hx
  rw [decode_of (List.mem_singleton.1 hp) ho]
  show Except.ok (Instr.aor (Decode.fld (Decode.operands w) 12 6) (Decode.fld (Decode.operands w) 8 4) (Decode.fld (Decode.operands w) 6 2) (Decode.fld (Decode.operands w) 3 3) (Decode.fld (Decode.operands w) 0 3)) = _
  rw [h_d, h_a, h_w, h_c, h_z]

theorem axor (x_d : BitVec 6) (x_a : BitVec 4) (x_w : BitVec 2) (x_c x_z : BitVec 3) : Statement (.axor x_d x_a x_w x_c x_z) := by
  refine of_slot rfl (fun _ => rfl) fun w hp hg ho hx => ?_
  obtain ⟨h_d, h_a, h_w, h_c, h_z⟩ := lay39 x_d x_a x_w x_c x_z hx
  rw [decode_of (List.mem_singleton.1 hp) ho]
  show Except.ok (Instr.axor (Decode.fld (Decode.operands w) 12 6) (Decode.fld (Decode.operands w) 8 4) (Decode.fld (Decode.operands w) 6 2) (Decode.fld (Decode.operands w) 3 3) (Decode.fld (Decode.operands w) 0 3)) = _
  rw [h_d, h_a, h_w, h_c, h_z]

theorem axch (x_d : BitVec 6) (x_a : BitVec 4) (x_w : BitVec 2) (x_c x_z : BitVec 3) : Statement (.axch x_d x_a x_w x_c x_z) := by
  refine of_slot rfl (fun _ => rfl) fun w hp hg ho hx => ?_
  obtain ⟨h_d, h_a, h_w, h_c, h_z⟩ := lay39 x_d x_a x_w x_c x_z hx
  rw [decode_of (List.mem_singleton.1 hp) ho]
  show Except.ok (Instr.axch (Decode.fld (Decode.operands w) 12 6) (Decode.fld (Decode.operands w) 8 4) (Decode.fld (Decode.operands w) 6 2) (Decode.fld (Decode.operands w) 3 3) (Decode.fld (Decode.operands w) 0 3)) = _
  rw [h_d, h_a, h_w, h_c, h_z]

theorem acas (x_d : BitVec 6) (x_a : BitVec 4) (x_w : BitVec 2) (x_c x_z : BitVec 3) : Statement (.acas x_d x_a x_w x_c x_z) := by
  refine of_slot rfl (fun _ => rfl) fun w hp hg ho hx => ?_
  obtain ⟨h_d, h_a, h_w, h_c, h_z⟩ := lay39 x_d x_a x_w x_c x_z hx
  rw [decode_of (List.mem_singleton.1 hp) ho]
  show Except.ok (Instr.acas (Decode.fld (Decode.operands w) 12 6) (Decode.fld (Decode.operands w) 8 4) (Decode.fld (Decode.operands w) 6 2) (Decode.fld (Decode.operands w) 3 3) (Decode.fld (Decode.operands w) 0 3)) = _
  rw [h_d, h_a, h_w, h_c, h_z]

theorem drain (x_c : BitVec 3) : Statement (.drain x_c) := by
  refine of_slot rfl (fun _ => rfl) fun w hp hg ho hx => ?_
  obtain ⟨h_c, hm⟩ := lay40 x_c hx
  rw [decode_of (List.mem_singleton.1 hp) ho]
  show Decode.clear 0x3FFF8 _ (Instr.drain (Decode.fld (Decode.operands w) 0 3)) = _
  rw [clear_ok hm, h_c]

theorem bfence (x_a : BitVec 4) (x_s : BitVec 6) : Statement (.bfence x_a x_s) := by
  refine of_slot rfl (fun _ => rfl) fun w hp hg ho hx => ?_
  obtain ⟨h_a, h_s, hm⟩ := lay41 x_a x_s hx
  rw [decode_of (List.mem_singleton.1 hp) ho]
  show Decode.clear 0x3F003 _ (Instr.bfence (Decode.fld (Decode.operands w) 8 4) (Decode.fld (Decode.operands w) 2 6)) = _
  rw [clear_ok hm, h_a, h_s]

theorem twait (x_x x_y x_z : BitVec 3) : Statement (.twait x_x x_y x_z) := by
  refine of_slot rfl (fun _ => rfl) fun w hp hg ho hx => ?_
  obtain ⟨h_x, h_y, h_z, hm⟩ := lay42 x_x x_y x_z hx
  rw [decode_of (List.mem_singleton.1 hp) ho]
  show Decode.clear 0x3803F _ (Instr.twait (Decode.fld (Decode.operands w) 12 3) (Decode.fld (Decode.operands w) 9 3) (Decode.fld (Decode.operands w) 6 3)) = _
  rw [clear_ok hm, h_x, h_y, h_z]

theorem bwait (x_a : BitVec 4) (x_p : BitVec 1) (x_s : BitVec 6) : Statement (.bwait x_a x_p x_s) := by
  refine of_slot rfl (fun _ => rfl) fun w hp hg ho hx => ?_
  obtain ⟨h_a, h_p, h_s, hm⟩ := lay43 x_a x_p x_s hx
  rw [decode_of (List.mem_singleton.1 hp) ho]
  show Decode.clear 0x3F040 _ (Instr.bwait (Decode.fld (Decode.operands w) 8 4) (Decode.fld (Decode.operands w) 7 1) (Decode.fld (Decode.operands w) 0 6)) = _
  rw [clear_ok hm, h_a, h_p, h_s]

theorem badd (x_c : BitVec 3) (x_a : BitVec 4) (x_p : BitVec 1) (x_s : BitVec 6) : Statement (.badd x_c x_a x_p x_s) := by
  refine of_slot rfl (fun _ => rfl) fun w hp hg ho hx => ?_
  obtain ⟨h_c, h_a, h_p, h_s, hm⟩ := lay44 x_c x_a x_p x_s hx
  rw [decode_of (List.mem_singleton.1 hp) ho]
  show Decode.clear 0x38040 _ (Instr.badd (Decode.fld (Decode.operands w) 12 3) (Decode.fld (Decode.operands w) 8 4) (Decode.fld (Decode.operands w) 7 1) (Decode.fld (Decode.operands w) 0 6)) = _
  rw [clear_ok hm, h_c, h_a, h_p, h_s]

theorem phase (x_a : BitVec 6) : Statement (.phase x_a) := by
  refine of_slot rfl (fun _ => rfl) fun w hp hg ho hx => ?_
  obtain ⟨h_a, hm⟩ := lay6 x_a hx
  rw [decode_of (List.mem_singleton.1 hp) ho]
  show Decode.clear 0x3F03F _ (Instr.phase (Decode.fld (Decode.operands w) 6 6)) = _
  rw [clear_ok hm, h_a]

theorem rpkX (x_k x_x x_y x_z : BitVec 3) (x_e : BitVec 6) : Statement (.rpkX x_k x_x x_y x_z x_e) := by
  refine of_slot rfl (fun _ => rfl) fun w hp hg ho hx => ?_
  obtain ⟨h_k, h_x, h_y, h_z, h_e⟩ := lay21 x_k x_x x_y x_z x_e hx
  rw [decode_of (List.mem_singleton.1 hp) ho]
  show Except.ok (Instr.rpkX (Decode.fld (Decode.operands w) 15 3) (Decode.fld (Decode.operands w) 12 3) (Decode.fld (Decode.operands w) 9 3) (Decode.fld (Decode.operands w) 6 3) (Decode.fld (Decode.operands w) 0 6)) = _
  rw [h_k, h_x, h_y, h_z, h_e]

theorem rpkF (x_k x_x x_y x_z : BitVec 3) (x_e : BitVec 6) : Statement (.rpkF x_k x_x x_y x_z x_e) := by
  refine of_slot rfl (fun _ => rfl) fun w hp hg ho hx => ?_
  obtain ⟨h_k, h_x, h_y, h_z, h_e⟩ := lay21 x_k x_x x_y x_z x_e hx
  rw [decode_of (List.mem_singleton.1 hp) ho]
  show Except.ok (Instr.rpkF (Decode.fld (Decode.operands w) 15 3) (Decode.fld (Decode.operands w) 12 3) (Decode.fld (Decode.operands w) 9 3) (Decode.fld (Decode.operands w) 6 3) (Decode.fld (Decode.operands w) 0 6)) = _
  rw [h_k, h_x, h_y, h_z, h_e]

theorem bankld (x_k x_x x_y x_z : BitVec 3) (x_e : BitVec 6) : Statement (.bankld x_k x_x x_y x_z x_e) := by
  refine of_slot rfl (fun _ => rfl) fun w hp hg ho hx => ?_
  obtain ⟨h_k, h_x, h_y, h_z, h_e⟩ := lay21 x_k x_x x_y x_z x_e hx
  rw [decode_of (List.mem_singleton.1 hp) ho]
  show Except.ok (Instr.bankld (Decode.fld (Decode.operands w) 15 3) (Decode.fld (Decode.operands w) 12 3) (Decode.fld (Decode.operands w) 9 3) (Decode.fld (Decode.operands w) 6 3) (Decode.fld (Decode.operands w) 0 6)) = _
  rw [h_k, h_x, h_y, h_z, h_e]

theorem bankgo (x_k x_x x_y x_z : BitVec 3) (x_e : BitVec 6) : Statement (.bankgo x_k x_x x_y x_z x_e) := by
  refine of_slot rfl (fun _ => rfl) fun w hp hg ho hx => ?_
  obtain ⟨h_k, h_x, h_y, h_z, h_e⟩ := lay21 x_k x_x x_y x_z x_e hx
  rw [decode_of (List.mem_singleton.1 hp) ho]
  show Except.ok (Instr.bankgo (Decode.fld (Decode.operands w) 15 3) (Decode.fld (Decode.operands w) 12 3) (Decode.fld (Decode.operands w) 9 3) (Decode.fld (Decode.operands w) 6 3) (Decode.fld (Decode.operands w) 0 6)) = _
  rw [h_k, h_x, h_y, h_z, h_e]

theorem uopRdc (x_a : BitVec 2) (x_o : BitVec 5) (x_f : BitVec 2) : Statement (.uopRdc x_a x_o x_f) := by
  refine of_uop rfl fun t w hw => ?_
  have hw : w.toNat = _ := (congrArg BitVec.toNat (Option.some.inj hw).symm).trans (cat5 2#4 x_a x_o x_f 0#3)
  simp only [BitVec.toNat_ofNat] at hw
  have := x_a.isLt
  have := x_o.isLt
  have := x_f.isLt
  have hk : w.extractLsb' 12 4 = 2#4 := field_eq (by simp only [BitVec.toNat_ofNat]; omega)
  unfold decodeUop
  rw [hk]
  show ∃ u, Decode.clearUop 0x7 w _ (Instr.uopRdc _ _ _) = _ ∧ _
  rw [clearUop_ok [(0, 3)] (by decide) (all_cons (by dsimp only; omega) all_nil)]
  refine ⟨0, ?_, .inr rfl⟩
  congr 3 <;> exact field_eq (by omega)

theorem uopWrc (x_a : BitVec 2) (x_o : BitVec 5) (x_f : BitVec 2) : Statement (.uopWrc x_a x_o x_f) := by
  refine of_uop rfl fun t w hw => ?_
  have hw : w.toNat = _ := (congrArg BitVec.toNat (Option.some.inj hw).symm).trans (cat5 3#4 x_a x_o x_f 0#3)
  simp only [BitVec.toNat_ofNat] at hw
  have := x_a.isLt
  have := x_o.isLt
  have := x_f.isLt
  have hk : w.extractLsb' 12 4 = 3#4 := field_eq (by simp only [BitVec.toNat_ofNat]; omega)
  unfold decodeUop
  rw [hk]
  show ∃ u, Decode.clearUop 0x7 w _ (Instr.uopWrc _ _ _) = _ ∧ _
  rw [clearUop_ok [(0, 3)] (by decide) (all_cons (by dsimp only; omega) all_nil)]
  refine ⟨0, ?_, .inr rfl⟩
  congr 3 <;> exact field_eq (by omega)

theorem uopMac (x_d x_a : BitVec 2) (x_k : BitVec 3) : Statement (.uopMac x_d x_a x_k) := by
  refine of_uop rfl fun t w hw => ?_
  have hw : w.toNat = _ := (congrArg BitVec.toNat (Option.some.inj hw).symm).trans (cat5 4#4 x_d x_a x_k 0#5)
  simp only [BitVec.toNat_ofNat] at hw
  have := x_d.isLt
  have := x_a.isLt
  have := x_k.isLt
  have hk : w.extractLsb' 12 4 = 4#4 := field_eq (by simp only [BitVec.toNat_ofNat]; omega)
  unfold decodeUop
  rw [hk]
  show ∃ u, Decode.clearUop 0x1F w _ (Instr.uopMac _ _ _) = _ ∧ _
  rw [clearUop_ok [(0, 5)] (by decide) (all_cons (by dsimp only; omega) all_nil)]
  refine ⟨0, ?_, .inr rfl⟩
  congr 3 <;> exact field_eq (by omega)

theorem uopAdd (x_d x_a : BitVec 2) : Statement (.uopAdd x_d x_a) := by
  refine of_uop rfl fun t w hw => ?_
  have hw : w.toNat = _ := (congrArg BitVec.toNat (Option.some.inj hw).symm).trans (cat4 5#4 x_d x_a 0#8)
  simp only [BitVec.toNat_ofNat] at hw
  have := x_d.isLt
  have := x_a.isLt
  have hk : w.extractLsb' 12 4 = 5#4 := field_eq (by simp only [BitVec.toNat_ofNat]; omega)
  unfold decodeUop
  rw [hk]
  show ∃ u, Decode.clearUop 0xFF w _ (Instr.uopAdd _ _) = _ ∧ _
  rw [clearUop_ok [(0, 8)] (by decide) (all_cons (by dsimp only; omega) all_nil)]
  refine ⟨0, ?_, .inr rfl⟩
  congr 3 <;> exact field_eq (by omega)

theorem uopScl (x_d x_a : BitVec 2) (x_k : BitVec 3) : Statement (.uopScl x_d x_a x_k) := by
  refine of_uop rfl fun t w hw => ?_
  have hw : w.toNat = _ := (congrArg BitVec.toNat (Option.some.inj hw).symm).trans (cat5 6#4 x_d x_a x_k 0#5)
  simp only [BitVec.toNat_ofNat] at hw
  have := x_d.isLt
  have := x_a.isLt
  have := x_k.isLt
  have hk : w.extractLsb' 12 4 = 6#4 := field_eq (by simp only [BitVec.toNat_ofNat]; omega)
  unfold decodeUop
  rw [hk]
  show ∃ u, Decode.clearUop 0x1F w _ (Instr.uopScl _ _ _) = _ ∧ _
  rw [clearUop_ok [(0, 5)] (by decide) (all_cons (by dsimp only; omega) all_nil)]
  refine ⟨0, ?_, .inr rfl⟩
  congr 3 <;> exact field_eq (by omega)

theorem uopNcol (x_n : BitVec 5) : Statement (.uopNcol x_n) := by
  refine of_uop rfl fun t w hw => ?_
  have hw : w.toNat = _ := (congrArg BitVec.toNat (Option.some.inj hw).symm).trans (cat3 7#4 0#7 x_n)
  simp only [BitVec.toNat_ofNat] at hw
  have := x_n.isLt
  have hk : w.extractLsb' 12 4 = 7#4 := field_eq (by simp only [BitVec.toNat_ofNat]; omega)
  unfold decodeUop
  rw [hk]
  show ∃ u, Decode.clearUop 0xFE0 w _ (Instr.uopNcol _) = _ ∧ _
  rw [clearUop_ok [(5, 7)] (by decide) (all_cons (by dsimp only; omega) all_nil)]
  refine ⟨0, ?_, .inr rfl⟩
  exact congrArg _ (congrArg _ (congrArg _ (field_eq (by omega))))

theorem uopLoopc (x_n : BitVec 7) : Statement (.uopLoopc x_n) := by
  refine of_uop rfl fun t w hw => ?_
  have hw : w.toNat = _ := (congrArg BitVec.toNat (Option.some.inj hw).symm).trans (cat3 8#4 t x_n)
  simp only [BitVec.toNat_ofNat] at hw
  have := x_n.isLt
  have := t.isLt
  have hk : w.extractLsb' 12 4 = 8#4 := field_eq (by simp only [BitVec.toNat_ofNat]; omega)
  unfold decodeUop
  rw [hk]
  show ∃ u, Decode.clearUop 0x0 w _ (Instr.uopLoopc _) = _ ∧ _
  rw [clearUop_ok [] (by decide) all_nil]
  refine ⟨t, ?_, .inl rfl⟩
  rw [show w.extractLsb' 7 5 = t from field_eq (by omega)]
  exact congrArg _ (congrArg _ (congrArg _ (field_eq (by omega))))

theorem nop : Statement .nop := by
  refine of_slot rfl (fun _ => rfl) fun w hp hg ho hx => ?_
  have hm := lay45  hx
  simp only [List.mem_cons, List.not_mem_nil, or_false] at hp
  rcases hp with hp | hp | hp | hp | hp | hp | hp | hp
  all_goals
    rw [decode_of hp ho]
    show Decode.clear 0x3FFFF _ Instr.nop = _
    rw [clear_ok hm]

theorem ret : Statement .ret := by
  refine of_slot rfl (fun _ => rfl) fun w hp hg ho hx => ?_
  have hm := lay45  hx
  rw [decode_of (List.mem_singleton.1 hp) ho]
  show Decode.clear 0x3FFFF _ Instr.ret = _
  rw [clear_ok hm]

theorem halt : Statement .halt := by
  refine of_slot rfl (fun _ => rfl) fun w hp hg ho hx => ?_
  have hm := lay45  hx
  rw [decode_of (List.mem_singleton.1 hp) ho]
  show Decode.clear 0x3FFFF _ Instr.halt = _
  rw [clear_ok hm]

theorem eret : Statement .eret := by
  refine of_slot rfl (fun _ => rfl) fun w hp hg ho hx => ?_
  have hm := lay45  hx
  rw [decode_of (List.mem_singleton.1 hp) ho]
  show Decode.clear 0x3FFFF _ Instr.eret = _
  rw [clear_ok hm]

theorem phwait : Statement .phwait := by
  refine of_slot rfl (fun _ => rfl) fun w hp hg ho hx => ?_
  have hm := lay45  hx
  rw [decode_of (List.mem_singleton.1 hp) ho]
  show Decode.clear 0x3FFFF _ Instr.phwait = _
  rw [clear_ok hm]

theorem uopEnd : Statement .uopEnd := by
  refine of_uop rfl fun t w hw => ?_
  have hw : w.toNat = _ := (congrArg BitVec.toNat (Option.some.inj hw).symm).trans (cat2 0#4 0#12)
  simp only [BitVec.toNat_ofNat] at hw
  have hk : w.extractLsb' 12 4 = 0#4 := field_eq (by simp only [BitVec.toNat_ofNat]; omega)
  unfold decodeUop
  rw [hk]
  show ∃ u, Decode.clearUop 0xFFF w _ (Instr.uopEnd ) = _ ∧ _
  rw [clearUop_ok [(0, 12)] (by decide) (all_cons (by dsimp only; omega) all_nil)]
  refine ⟨0, ?_, .inr rfl⟩
  rfl

theorem uopAct : Statement .uopAct := by
  refine of_uop rfl fun t w hw => ?_
  have hw : w.toNat = _ := (congrArg BitVec.toNat (Option.some.inj hw).symm).trans (cat2 1#4 0#12)
  simp only [BitVec.toNat_ofNat] at hw
  have hk : w.extractLsb' 12 4 = 1#4 := field_eq (by simp only [BitVec.toNat_ofNat]; omega)
  unfold decodeUop
  rw [hk]
  show ∃ u, Decode.clearUop 0xFFF w _ (Instr.uopAct ) = _ ∧ _
  rw [clearUop_ok [(0, 12)] (by decide) (all_cons (by dsimp only; omega) all_nil)]
  refine ⟨0, ?_, .inr rfl⟩
  rfl

theorem uopRowend : Statement .uopRowend := by
  refine of_uop rfl fun t w hw => ?_
  have hw : w.toNat = _ := (congrArg BitVec.toNat (Option.some.inj hw).symm).trans (cat3 9#4 t 0#7)
  simp only [BitVec.toNat_ofNat] at hw
  have := t.isLt
  have hk : w.extractLsb' 12 4 = 9#4 := field_eq (by simp only [BitVec.toNat_ofNat]; omega)
  unfold decodeUop
  rw [hk]
  show ∃ u, Decode.clearUop 0x7F w _ (Instr.uopRowend ) = _ ∧ _
  rw [clearUop_ok [(0, 7)] (by decide) (all_cons (by dsimp only; omega) all_nil)]
  refine ⟨t, ?_, .inl rfl⟩
  rw [show w.extractLsb' 7 5 = t from field_eq (by omega)]

theorem uopWaits : Statement .uopWaits := by
  refine of_uop rfl fun t w hw => ?_
  have hw : w.toNat = _ := (congrArg BitVec.toNat (Option.some.inj hw).symm).trans (cat2 10#4 0#12)
  simp only [BitVec.toNat_ofNat] at hw
  have hk : w.extractLsb' 12 4 = 10#4 := field_eq (by simp only [BitVec.toNat_ofNat]; omega)
  unfold decodeUop
  rw [hk]
  show ∃ u, Decode.clearUop 0xFFF w _ (Instr.uopWaits ) = _ ∧ _
  rw [clearUop_ok [(0, 12)] (by decide) (all_cons (by dsimp only; omega) all_nil)]
  refine ⟨0, ?_, .inr rfl⟩
  rfl

theorem ownCompareAndSwap : Statement .ownCompareAndSwap := of_event rfl fun _ => rfl

theorem handoffWrite : Statement .handoffWrite := of_event rfl fun _ => rfl

theorem ptabWrite : Statement .ptabWrite := of_event rfl fun _ => rfl

theorem partitionChangeStep : Statement .partitionChangeStep := of_event rfl fun _ => rfl

theorem pceilWrite : Statement .pceilWrite := of_event rfl fun _ => rfl

theorem windowEntryWrite : Statement .windowEntryWrite := of_event rfl fun _ => rfl

theorem streamWrite : Statement .streamWrite := of_event rfl fun _ => rfl

theorem controlWindowWrite : Statement .controlWindowWrite := of_event rfl fun _ => rfl

theorem recordClear : Statement .recordClear := of_event rfl fun _ => rfl

theorem packagePowerOn : Statement .packagePowerOn := of_event rfl fun _ => rfl

theorem bringUpStepDone : Statement .bringUpStepDone := of_event rfl fun _ => rfl

theorem epochBoundary : Statement .epochBoundary := of_event rfl fun _ => rfl

theorem budgetInterval : Statement .budgetInterval := of_event rfl fun _ => rfl

theorem sensorRead : Statement .sensorRead := of_event rfl fun _ => rfl

theorem coolantLoss : Statement .coolantLoss := of_event rfl fun _ => rfl

theorem railOutOfRange : Statement .railOutOfRange := of_event rfl fun _ => rfl

theorem readinessRequest : Statement .readinessRequest := of_event rfl fun _ => rfl

theorem waitNodeRead : Statement .waitNodeRead := of_event rfl fun _ => rfl

theorem bulkNodeComplete : Statement .bulkNodeComplete := of_event rfl fun _ => rfl

theorem signalNodeComplete : Statement .signalNodeComplete := of_event rfl fun _ => rfl

theorem submissionStart : Statement .submissionStart := of_event rfl fun _ => rfl

theorem submissionEnd : Statement .submissionEnd := of_event rfl fun _ => rfl

theorem launchRequestSend : Statement .launchRequestSend := of_event rfl fun _ => rfl

theorem slotRecordWrite : Statement .slotRecordWrite := of_event rfl fun _ => rfl

theorem dispatchBind : Statement .dispatchBind := of_event rfl fun _ => rfl

theorem displace : Statement .displace := of_event rfl fun _ => rfl

theorem ageAlarm : Statement .ageAlarm := of_event rfl fun _ => rfl

theorem sliceExpiry : Statement .sliceExpiry := of_event rfl fun _ => rfl

theorem preemption : Statement .preemption := of_event rfl fun _ => rfl

theorem contextSaveComplete : Statement .contextSaveComplete := of_event rfl fun _ => rfl

theorem taskParked : Statement .taskParked := of_event rfl fun _ => rfl

theorem parkBeaconMet : Statement .parkBeaconMet := of_event rfl fun _ => rfl

theorem taskRetire : Statement .taskRetire := of_event rfl fun _ => rfl

theorem cpWatchdog : Statement .cpWatchdog := of_event rfl fun _ => rfl

theorem schWatchdog : Statement .schWatchdog := of_event rfl fun _ => rfl

theorem firmwareRestartDone : Statement .firmwareRestartDone := of_event rfl fun _ => rfl

theorem pipelineWriteback : Statement .pipelineWriteback := of_event rfl fun _ => rfl

theorem landingArrival : Statement .landingArrival := of_event rfl fun _ => rfl

theorem landingWrite : Statement .landingWrite := of_event rfl fun _ => rfl

theorem freezeTimeout : Statement .freezeTimeout := of_event rfl fun _ => rfl

theorem waitPark : Statement .waitPark := of_event rfl fun _ => rfl

theorem beaconPoll : Statement .beaconPoll := of_event rfl fun _ => rfl

theorem engineComplete : Statement .engineComplete := of_event rfl fun _ => rfl

theorem mOperationComplete : Statement .mOperationComplete := of_event rfl fun _ => rfl

theorem gatherRowLand : Statement .gatherRowLand := of_event rfl fun _ => rfl

theorem bagRowStream : Statement .bagRowStream := of_event rfl fun _ => rfl

theorem cacheFillComplete : Statement .cacheFillComplete := of_event rfl fun _ => rfl

theorem atomicHomeApply : Statement .atomicHomeApply := of_event rfl fun _ => rfl

theorem bankgoBeqRelease : Statement .bankgoBeqRelease := of_event rfl fun _ => rfl

theorem rpkRoundCombine : Statement .rpkRoundCombine := of_event rfl fun _ => rfl

theorem roundTimeout : Statement .roundTimeout := of_event rfl fun _ => rfl

theorem ordinaryRequest : Statement .ordinaryRequest := of_event rfl fun _ => rfl

theorem controllerCycle : Statement .controllerCycle := of_event rfl fun _ => rfl

theorem requestAged : Statement .requestAged := of_event rfl fun _ => rfl

theorem refreshDue : Statement .refreshDue := of_event rfl fun _ => rfl

theorem bdcHeartbeat : Statement .bdcHeartbeat := of_event rfl fun _ => rfl

theorem refreshTakeover : Statement .refreshTakeover := of_event rfl fun _ => rfl

theorem refreshHandback : Statement .refreshHandback := of_event rfl fun _ => rfl

theorem bankHoldTimeout : Statement .bankHoldTimeout := of_event rfl fun _ => rfl

theorem bankldApply : Statement .bankldApply := of_event rfl fun _ => rfl

theorem bankProgramStart : Statement .bankProgramStart := of_event rfl fun _ => rfl

theorem actAdmit : Statement .actAdmit := of_event rfl fun _ => rfl

theorem arbitrationWindow : Statement .arbitrationWindow := of_event rfl fun _ => rfl

theorem waitsRelease : Statement .waitsRelease := of_event rfl fun _ => rfl

theorem bankProgramStop : Statement .bankProgramStop := of_event rfl fun _ => rfl

theorem pageRetirement : Statement .pageRetirement := of_event rfl fun _ => rfl

theorem pageMoveLine : Statement .pageMoveLine := of_event rfl fun _ => rfl

theorem pageMoveSwitch : Statement .pageMoveSwitch := of_event rfl fun _ => rfl

theorem flitReceive : Statement .flitReceive := of_event rfl fun _ => rfl

theorem portRetrain : Statement .portRetrain := of_event rfl fun _ => rfl

theorem fabricRequestTimeout : Statement .fabricRequestTimeout := of_event rfl fun _ => rfl

theorem vcStopGo : Statement .vcStopGo := of_event rfl fun _ => rfl

theorem ownerTimeout : Statement .ownerTimeout := of_event rfl fun _ => rfl

theorem bulkheadReset : Statement .bulkheadReset := of_event rfl fun _ => rfl

theorem segmentCommit : Statement .segmentCommit := of_event rfl fun _ => rfl

theorem rewind : Statement .rewind := of_event rfl fun _ => rfl

theorem rerunStart : Statement .rerunStart := of_event rfl fun _ => rfl

theorem walkComplete : Statement .walkComplete := of_event rfl fun _ => rfl

theorem scoreboardEntryRetire : Statement .scoreboardEntryRetire := of_event rfl fun _ => rfl

theorem bfenceMarker : Statement .bfenceMarker := of_event rfl fun _ => rfl

end Sys2Proof.Laws.Encoding
end

