-- ==== Sys2Proof/Tests/Slice0.lean ====
section
/-! SUPPORT. Tests: words from the encoding tables of 06 R120-R126 and 13 R286, reserved values, worked examples of the spec, and for each statement
states and operands that meet its hypotheses. -/

namespace Sys2Proof.Tests

set_option Elab.async false

open Sys2Proof Sys2Proof.Machine Sys2Proof.Claims

/-! ## Decoding: every constructor, with distinct operands -/

/-- Each word decodes to the instruction beside it. -/
def decodes (l : List (Nat × Instr)) : Bool := l.all fun x => decide ((decodeInstr (BitVec.ofNat 32 x.1)).toOption = some x.2)

theorem test_decode_scalar_1 : decodes [
    (0x09045ADA, .add 5 43 26),
    (0x09085ADA, .sub 5 43 26),
    (0x090C5ADA, .mul 5 43 26),
    (0x09105ADA, .mulh 5 43 26),
    (0x09145ADA, .mulhu 5 43 26),
    (0x09185ADA, .div 5 43 26),
    (0x091C5ADA, .divu 5 43 26),
    (0x09205ADA, .rem 5 43 26),
    (0x09245ADA, .remu 5 43 26),
    (0x09285ADA, .and 5 43 26),
    (0x092C5ADA, .or 5 43 26),
    (0x09305ADA, .xor 5 43 26),
    (0x09345ADA, .andn 5 43 26),
    (0x09385ADA, .shl 5 43 26),
    (0x093C5ADA, .shr 5 43 26),
    (0x09405ADA, .sra 5 43 26)] = true := by decide +kernel

theorem test_decode_scalar_2 : decodes [
    (0x09445ADA, .rotl 5 43 26),
    (0x09485ADA, .min 5 43 26),
    (0x094C5ADA, .max 5 43 26),
    (0x09505ADA, .minu 5 43 26),
    (0x09545ADA, .maxu 5 43 26),
    (0x09585AC0, .clz 5 43),
    (0x095C5AC0, .ctz 5 43),
    (0x09605AC0, .popc 5 43),
    (0x09645ADA, .sext 5 43 26),
    (0x09685ADA, .zext 5 43 26),
    (0x096C5ADA, .addi 5 43 26),
    (0x09705ADA, .andi 5 43 26),
    (0x09745ADA, .ori 5 43 26),
    (0x09785ADA, .shli 5 43 26),
    (0x097C5ADA, .shri 5 43 26),
    (0x09805ADA, .srai 5 43 26)] = true := by decide +kernel

theorem test_decode_scalar_3 : decodes [
    (0x09845A5B, .movi 5 2651),
    (0x09885A5B, .movhi 5 2651),
    (0x058EB686, .sel 5 43 26 6),
    (0x0992B686, .cmp 5 3 26 6),
    (0x0996B686, .cmpi 5 3 26 6),
    (0x09985ADA, .lds 5 43 26),
    (0x099C5ADA, .sts 5 43 26),
    (0x09A2A5B1, .br 173489),
    (0x09A40140, .bri 5),
    (0x09AAA5B1, .call 173489),
    (0x09AC0000, .ret),
    (0x09B00140, .launch 5),
    (0x09B40000, .halt),
    (0x09B8016B, .park 5 43),
    (0x09BC0005, .trap 5),
    (0x09C00000, .eret)] = true := by decide +kernel

theorem test_decode_scalar_4 : decodes [
    (0x09C45A5B, .csrr 5 2651),
    (0x09C85A5B, .csrw 5 2651),
    (0x09CC5A5B, .csrs 5 2651),
    (0x09D05AC2, .edw 5 43 2),
    (0x09D45ADA, .edld 5 43 26),
    (0x09DAA5B1, .seg 173489),
    (0x09DEA5B1, .rdv 173489)] = true := by decide +kernel

theorem test_decode_v0_1 : decodes [
    (0x19045ADA, .faddV0 5 43 26),
    (0x19085ADA, .fsubV0 5 43 26),
    (0x190C5ADA, .fmulV0 5 43 26),
    (0x19105ADA, .fmaV0 5 43 26),
    (0x19145ADA, .fmsV0 5 43 26),
    (0x19185ADA, .fminV0 5 43 26),
    (0x191C5ADA, .fmaxV0 5 43 26),
    (0x19205AC0, .fabsV0 5 43),
    (0x19245AC0, .fnegV0 5 43),
    (0x19285ADA, .fcpysV0 5 43 26),
    (0x192EB686, .fcmpV0 5 3 26 6),
    (0x19305ADA, .iaddV0 5 43 26),
    (0x19345ADA, .isubV0 5 43 26),
    (0x19385ADA, .imulV0 5 43 26),
    (0x193C5ADA, .imadV0 5 43 26),
    (0x19405ADA, .iaddwV0 5 43 26)] = true := by decide +kernel

theorem test_decode_v0_2 : decodes [
    (0x19445ADA, .imadwV0 5 43 26),
    (0x19485ADA, .iminV0 5 43 26),
    (0x194C5ADA, .imaxV0 5 43 26),
    (0x19505AC0, .iabsV0 5 43),
    (0x19545ADA, .andV0 5 43 26),
    (0x19585ADA, .orV0 5 43 26),
    (0x195C5ADA, .xorV0 5 43 26),
    (0x19605ADA, .shlV0 5 43 26),
    (0x19645ADA, .shrV0 5 43 26),
    (0x19685ADA, .sraV0 5 43 26),
    (0x196EB686, .icmpV0 5 3 26 6),
    (0x19705AEA, .cvtV0 5 43 10 2),
    (0x19745AEA, .cvtnV0 5 43 10 2),
    (0x19785ADA, .unpklV0 5 43 26),
    (0x197C5ADA, .unpkhV0 5 43 26),
    (0x19805ADA, .packV0 5 43 26)] = true := by decide +kernel

theorem test_decode_v0_3 : decodes [
    (0x19845AE8, .setfmtV0 5 43 10),
    (0x19885AC0, .vmovV0 5 43),
    (0x198C5A5B, .vmoviV0 5 2651),
    (0x19905ADA, .vbcstV0 5 43 26),
    (0x19945ADA, .vextV0 5 43 26),
    (0x159AB686, .vselV0 5 43 26 6),
    (0x199C5ADA, .vpermV0 5 43 26),
    (0x19A05ACA, .vrotV0 5 43 10),
    (0x19A45AC2, .xclV0 5 43 2),
    (0x19A85AC2, .xclbV0 5 43 2),
    (0x19AC5ACF, .vscanV0 5 43 1 1 3),
    (0x19B05AC6, .vredV0 5 43 1 2),
    (0x19B45B1A, .vst 5 11 26),
    (0x19B85BA0, .vsts 5 11 10),
    (0x19BC5BA0, .vstx 5 11 10),
    (0x19C05BA6, .vlds 5 11 10 6)] = true := by decide +kernel

theorem test_decode_v0_4 : decodes [
    (0x19C45BA6, .vldx 5 11 10 6),
    (0x19C85BA6, .vldb 5 11 10 6),
    (0x19D05B1A, .vldInt32 5 11 26),
    (0x19D45B1A, .vldUint32 5 11 26),
    (0x19D85B1A, .vldFp32 5 11 26),
    (0x19DC5B1A, .vldInt16 5 11 26),
    (0x19E05B1A, .vldUint16 5 11 26),
    (0x19E45B1A, .vldFp16 5 11 26),
    (0x19E85B1A, .vldBf16 5 11 26),
    (0x19EC5B1A, .vldInt8 5 11 26),
    (0x19F05B1A, .vldUint8 5 11 26),
    (0x19F45B1A, .vldE4m3 5 11 26),
    (0x19F85B1A, .vldE5m2 5 11 26),
    (0x19FC5B1A, .vldE8m0 5 11 26)] = true := by decide +kernel

theorem test_decode_v1_1 : decodes [
    (0x29045ADA, .faddV1 5 43 26),
    (0x29085ADA, .fsubV1 5 43 26),
    (0x290C5ADA, .fmulV1 5 43 26),
    (0x29105ADA, .fmaV1 5 43 26),
    (0x29145ADA, .fmsV1 5 43 26),
    (0x29185ADA, .fminV1 5 43 26),
    (0x291C5ADA, .fmaxV1 5 43 26),
    (0x29205AC0, .fabsV1 5 43),
    (0x29245AC0, .fnegV1 5 43),
    (0x29285ADA, .fcpysV1 5 43 26),
    (0x292EB686, .fcmpV1 5 3 26 6),
    (0x29305ADA, .iaddV1 5 43 26),
    (0x29345ADA, .isubV1 5 43 26),
    (0x29385ADA, .imulV1 5 43 26),
    (0x293C5ADA, .imadV1 5 43 26),
    (0x29405ADA, .iaddwV1 5 43 26)] = true := by decide +kernel

theorem test_decode_v1_2 : decodes [
    (0x29445ADA, .imadwV1 5 43 26),
    (0x29485ADA, .iminV1 5 43 26),
    (0x294C5ADA, .imaxV1 5 43 26),
    (0x29505AC0, .iabsV1 5 43),
    (0x29545ADA, .andV1 5 43 26),
    (0x29585ADA, .orV1 5 43 26),
    (0x295C5ADA, .xorV1 5 43 26),
    (0x29605ADA, .shlV1 5 43 26),
    (0x29645ADA, .shrV1 5 43 26),
    (0x29685ADA, .sraV1 5 43 26),
    (0x296EB686, .icmpV1 5 3 26 6),
    (0x29705AEA, .cvtV1 5 43 10 2),
    (0x29745AEA, .cvtnV1 5 43 10 2),
    (0x29785ADA, .unpklV1 5 43 26),
    (0x297C5ADA, .unpkhV1 5 43 26),
    (0x29805ADA, .packV1 5 43 26)] = true := by decide +kernel

theorem test_decode_v1_3 : decodes [
    (0x29845AE8, .setfmtV1 5 43 10),
    (0x29885AC0, .vmovV1 5 43),
    (0x298C5A5B, .vmoviV1 5 2651),
    (0x29905ADA, .vbcstV1 5 43 26),
    (0x29945ADA, .vextV1 5 43 26),
    (0x259AB686, .vselV1 5 43 26 6),
    (0x299C5ADA, .vpermV1 5 43 26),
    (0x29A05ACA, .vrotV1 5 43 10),
    (0x29A45AC2, .xclV1 5 43 2),
    (0x29A85AC2, .xclbV1 5 43 2),
    (0x29AC5ACF, .vscanV1 5 43 1 1 3),
    (0x29B05AC6, .vredV1 5 43 1 2),
    (0x29B450C2, .mkand 5 3 2),
    (0x29B850C2, .mkor 5 3 2),
    (0x29BC50C0, .mknot 5 3),
    (0x29C05AC0, .frcp 5 43)] = true := by decide +kernel

theorem test_decode_v1_4 : decodes [
    (0x29C45AC0, .frsq 5 43),
    (0x29C85AC0, .fsqrt 5 43),
    (0x29CC5AC0, .fexp2 5 43),
    (0x29D05AC0, .flog2 5 43),
    (0x29D45AC0, .ftanh 5 43)] = true := by decide +kernel

theorem test_decode_bag_1 : decodes [
    (0x3906B583, .mldw 5 3 2 6 3),
    (0x390AB580, .mswap 5 3 2 6),
    (0x390EB583, .mmul 5 3 2 6 3),
    (0x3912B583, .mmuls 5 3 2 6 3),
    (0x3916B583, .mbagAcc 5 3 2 6 3),
    (0x391AB583, .mbagSteer 5 3 2 6 3),
    (0x391EB583, .mzero 5 3 2 6 3),
    (0x3922B583, .manch 5 3 2 6 3),
    (0x3926B583, .mrd 5 3 2 6 3),
    (0x392AB583, .mst 5 3 2 6 3),
    (0x392EB583, .maddv 5 3 2 6 3),
    (0x3932B583, .mstat 5 3 2 6 3),
    (0x3936B583, .mtrl 5 3 2 6 3),
    (0x393AB583, .mldt 5 3 2 6 3),
    (0x393EB583, .mstt 5 3 2 6 3),
    (0x3942B583, .mcode 5 3 2 6 3)] = true := by decide +kernel

theorem test_decode_copy_y_1 : decodes [
    (0x5905ACC1, .cpy 3 2 6 3 1),
    (0x5909ACC1, .cpym 3 2 6 3 1),
    (0x590DACC1, .gath 3 2 6 3 1),
    (0x5911ACC1, .scat 3 2 6 3 1),
    (0x5915ACC1, .fill 3 2 6 3 1),
    (0x5919ACC1, .bulk 3 2 6 3 1)] = true := by decide +kernel

theorem test_decode_address_1 : decodes [
    (0x690452DA, .au 5 11 26),
    (0x69085A5B, .aui 5 2651),
    (0x690C5AC0, .amov 5 43),
    (0x691052C0, .aget 5 11),
    (0x6916D6D6, .loop 5 43 26 6),
    (0x69195B40, .lstep 5 3 26),
    (0x691C52CA, .pand 5 11 10),
    (0x692052CA, .por 5 11 10),
    (0x692452CA, .pxor 5 11 10),
    (0x692852C0, .pnot 5 11),
    (0x692C52C0, .pmov 5 11),
    (0x69305001, .pset 5 1),
    (0x69345A5B, .stage 5 2651),
    (0x693A8000, .kclr 5)] = true := by decide +kernel

theorem test_decode_memory_1 : decodes [
    (0x79000000, .nop),
    (0x7906D740, .probe 5 43 10),
    (0x790AD740, .probei 5 43 10),
    (0x790C0500, .pwb 5),
    (0x79100500, .pinv 5),
    (0x79140501, .ppin 5 1),
    (0x7926BA33, .ldg 1 43 10 6 3),
    (0x79305BD6, .ldgi 5 11 26 6),
    (0x79345BD6, .ldgv 5 11 26 6),
    (0x7946BA33, .stg 1 43 10 6 3),
    (0x79505BD6, .stgv 5 11 26 6),
    (0x79545B02, .lda 5 11 2),
    (0x79585BD6, .stl 5 11 26 6),
    (0x79605BB3, .aadd 5 11 2 6 3),
    (0x79645BB3, .aaddf 5 11 2 6 3),
    (0x79685BB3, .aaddqFp32 5 11 2 6 3)] = true := by decide +kernel

theorem test_decode_memory_2 : decodes [
    (0x796C5BB3, .aaddqBf16 5 11 2 6 3),
    (0x79705BB3, .aaddqFp16 5 11 2 6 3),
    (0x79745BB3, .amin 5 11 2 6 3),
    (0x79785BB3, .amax 5 11 2 6 3),
    (0x797C5BB3, .aand 5 11 2 6 3),
    (0x79805BB3, .aor 5 11 2 6 3),
    (0x79845BB3, .axor 5 11 2 6 3),
    (0x79885BB3, .axch 5 11 2 6 3),
    (0x798C5BB3, .acas 5 11 2 6 3),
    (0x79A00005, .drain 5),
    (0x79A405AC, .bfence 5 43),
    (0x79A85680, .twait 5 3 2),
    (0x79AC059A, .bwait 5 1 26),
    (0x79B05B86, .badd 5 11 1 6),
    (0x79B40140, .phase 5),
    (0x79B80000, .phwait)] = true := by decide +kernel

theorem test_decode_memory_3 : decodes [
    (0x79C2B583, .rpkX 5 3 2 6 3),
    (0x79C6B583, .rpkF 5 3 2 6 3),
    (0x79CAB583, .bankld 5 3 2 6 3),
    (0x79CEB583, .bankgo 5 3 2 6 3)] = true := by decide +kernel

/-- The worked encodings of 06 R121 and 07. -/
theorem test_decode_worked : decodes [
    (0x006C2048, .addi 2 1 8), (0x10043042, .faddV0 3 1 2), (0x20000000, .nop), (0xB0000000, .nop), (0x60140E15, .loop 0 7 2 5),
    (0x7020A32B, .ldg 0 10 3 5 3), (0x19044042, .faddV0 4 1 2), (0x0090A105, .cmp 1 2 4 5), (0x04A3FFFD, .br (-3)), (0x00B00240, .launch 9),
    (0x00C44012, .csrr 4 0x012), (0x6014B010, .loop 1 24 2 0), (0x60184800, .lstep 1 1 0), (0x62340000, .stage 0 0), (0x603A8000, .kclr 5)]
    = true := by decide +kernel

/-- 13 R286: a word of every micro-op. -/
theorem test_decode_uops : ([
    (0x0000, .uopEnd),
    (0x1000, .uopAct),
    (0x2570, .uopRdc 1 11 2),
    (0x3570, .uopWrc 1 11 2),
    (0x4740, .uopMac 1 3 2),
    (0x5700, .uopAdd 1 3),
    (0x6740, .uopScl 1 3 2),
    (0x7005, .uopNcol 5),
    (0x8005, .uopLoopc 5),
    (0x9000, .uopRowend),
    (0xA000, .uopWaits)] : List (Nat × Instr)).all
    (fun x => decide (((decodeUop (BitVec.ofNat 16 x.1)).map UopSlot.instr).toOption = some x.2)) = true := by decide +kernel

/-- 14 R298: the words of the worked micro-program. -/
theorem test_decode_halfscale : ([0x1000, 0x2000, 0x6000, 0x3000, 0x7001, 0x8090, 0x9000, 0x0000] : List (BitVec 16)).map (fun w => (decodeUop w).toOption) =
    [some ⟨0, .uopAct⟩, some ⟨0, .uopRdc 0 0 0⟩, some ⟨0, .uopScl 0 0 0⟩, some ⟨0, .uopWrc 0 0 0⟩, some ⟨0, .uopNcol 1⟩, some ⟨1, .uopLoopc 16⟩,
     some ⟨0, .uopRowend⟩, some ⟨0, .uopEnd⟩] := by decide +kernel

/-- 06 R118, R122, 18 R347: unassigned codes, and reserved operand bits that are set. -/
theorem test_decode_refuses :
    ([0x00FC0000, 0x10CC0000, 0x20D80000, 0x40200000, 0x70D40000] : List (BitVec 32)).map (fun w => match decodeSlot w with
      | .error e => some e
      | .ok _ => none) = List.replicate 5 (some .unassigned)
    ∧ ([0x00000001, 0x00581001, 0x18980000] : List (BitVec 32)).map (fun w => match decodeSlot w with
      | .error e => some e
      | .ok _ => none) = List.replicate 3 (some .reserved) := by decide +kernel

/-! ## Reserved values (18 R347, 0x1005) -/

/-- Every term holds a reserved value of one field, one term for each check. -/
theorem test_ill_formed : ([
    .cmp 0 0 1 2, .cmp 1 6 1 2, .cmp 1 7 1 2, .cmpi 0 0 1 2, .cmpi 1 6 1 2, .csrr 1 0x003, .csrr 1 0x00F, .csrr 1 0x01D, .csrr 1 0x022, .csrr 1 0x031,
    .csrr 1 0x044, .csrr 1 0x04F, .csrr 1 0x060, .csrw 1 0x003, .csrs 1 0x003, .seg 0, .seg 4097, .fcmpV0 0 7 1 2, .fcmpV1 0 7 1 2, .icmpV0 0 6 1 2,
    .icmpV1 0 6 1 2, .cvtV0 1 2 12 0, .cvtV1 1 2 12 0, .cvtnV0 1 2 12 0, .cvtnV1 1 2 12 0, .setfmtV0 1 2 12, .setfmtV1 1 2 12, .vscanV0 1 2 0 0 3,
    .vscanV1 1 2 0 0 3, .vredV0 1 2 0 3, .vredV1 1 2 0 3, .vlds 1 2 3 12, .vldx 1 2 3 12, .vldb 1 2 3 12, .loop 6 1 2 3, .lstep 1 6 2, .stage 6 1,
    .probe 0 1 2, .probei 0 1 2, .ldg 0 1 2 3 4, .ldgi 1 2 3 4, .ldgv 1 2 3 4, .stg 0 1 2 3 4, .stgv 1 2 3 4, .lda 1 2 6, .stl 1 2 3 6,
    .aadd 1 2 0 6 2, .aadd 1 2 0 0 4, .aaddf 1 2 0 6 4, .aaddf 1 2 0 0 3, .aaddqFp32 1 2 0 6 0, .aaddqBf16 1 2 0 6 0, .aaddqFp16 1 2 0 6 0,
    .amin 1 2 0 6 2, .amin 1 2 0 0 1, .amin 1 2 0 0 7, .amax 1 2 0 6 2, .amax 1 2 0 0 1, .aand 1 2 0 6 2, .aand 1 2 0 0 4, .aor 1 2 0 6 2,
    .aor 1 2 0 0 4, .axor 1 2 0 6 2, .axor 1 2 0 0 4, .axch 1 2 0 6 2, .axch 1 2 0 0 4, .acas 2 2 0 6 2, .acas 2 2 0 0 4, .drain 6, .badd 6 1 0 2,
    .uopRdc 0 0 1, .uopWrc 0 0 1] : List Instr).all (fun i => !i.wellFormed) = true := by decide +kernel

/-- The nearest legal values are taken. -/
theorem test_well_formed : ([
    .cmp 1 5 1 2, .csrr 1 0x01C, .csrr 1 0x05F, .seg 1, .seg 4096, .fcmpV0 0 6 1 2, .icmpV0 0 5 1 2, .cvtV0 1 2 11 0, .setfmtV0 1 2 11, .vscanV0 1 2 0 0 2,
    .loop 5 1 2 3, .ldg 0 1 2 3 3, .lda 1 2 5, .aadd 1 2 0 5 3, .aaddf 1 2 0 0 6, .amin 1 2 0 0 2, .amin 1 2 0 0 6, .drain 5, .uopRdc 0 0 3] : List Instr).all
    Instr.wellFormed = true := by decide +kernel

/-! ## States to test on -/

/-- Core 0 runs a task, its context and pool changed by `f`; virtual memory maps one to one, and the core keeps the page's translation. -/
def on (f : Core → Core) : State :=
  { (State.reset.setCore 0 (f Place.core)) with mem := Place.tables [], tlb := mapSet [] [] (coreKey 0) Place.cached }

/-- The columns of the tables on a walk, as served to an agent. -/
def readCols (l : List Nat) : List GotCol := l.map fun a => { place := .stack (BitVec.ofNat 39 a), write := false, code := false, lost := false }
def tableCols : List GotCol := readCols [0, 0x40000, 0x44000]

/-- Scalar registers by number. -/
def withS (l : List (Nat × BitVec 64)) (c : Core) : Core := { c with ctx := l.foldl (fun x r => x.write (.s r.1 r.2)) c.ctx }
def withA (l : List (Nat × AReg)) (c : Core) : Core := { c with ctx := l.foldl (fun x r => x.write (.a r.1 r.2)) c.ctx }
def withV (l : List (Nat × VReg × Tag)) (c : Core) : Core := { c with ctx := l.foldl (fun x r => x.write (.v r.1 r.2.1 r.2.2)) c.ctx }
def withE (l : List (Nat × Desc)) (c : Core) : Core := { c with ctx := l.foldl (fun x r => x.write (.e r.1 r.2)) c.ctx }

/-- The core after one instruction that is its bundle's last. -/
def ran (s : State) (i : Instr) : Core := match exec i s with
  | .next t => t.core s.cur
  | _ => Init.core

/-- The result that an instruction leaves in the pipelines. -/
def pending (s : State) (i : Instr) : List (Nat × RegWrite) := (ran s i).pipe.map fun r => (r.left, r.write)

/-! ## What instructions do: corners of their entries -/

/-- 07 R140: quotients by 0, and −2^63 by −1; the remainder has the sign of x. -/
theorem test_div : pending (on (withS [(1, 7)])) (.div 3 1 2) = [(19, .s 3 (BitVec.allOnes 64))]
    ∧ pending (on (withS [(1, 0x8000000000000000), (2, -1)])) (.div 3 1 2) = [(19, .s 3 0x8000000000000000)] := by decide +kernel
theorem test_rem : pending (on (withS [(1, -7), (2, 2)])) (.rem 3 1 2) = [(19, .s 3 (-1))]
    ∧ pending (on (withS [(1, 7)])) (.remu 3 1 2) = [(19, .s 3 7)] := by decide +kernel
theorem test_mulh : pending (on (withS [(1, -1), (2, 2)])) (.mulh 3 1 2) = [(2, .s 3 (-1))]
    ∧ pending (on (withS [(1, -1), (2, 2)])) (.mulhu 3 1 2) = [(2, .s 3 1)] := by decide +kernel
theorem test_sub_wraps : (ran (on (withS [(2, 1)])) (.sub 3 1 2)).ctx.getS 3 = BitVec.allOnes 64 := by decide +kernel
theorem test_shift : (ran (on (withS [(1, 0x8000000000000000), (2, 0x41)])) (.sra 3 1 2)).ctx.getS 3 = 0xC000000000000000
    ∧ (ran (on (withS [(1, 1), (2, 0x43)])) (.rotl 3 1 2)).ctx.getS 3 = 8 := by decide +kernel
theorem test_counts : (ran (on (withS [])) (.clz 3 1)).ctx.getS 3 = 64 ∧ (ran (on (withS [(1, 8)])) (.ctz 3 1)).ctx.getS 3 = 3
    ∧ (ran (on (withS [(1, -1)])) (.popc 3 1)).ctx.getS 3 = 64 := by decide +kernel
/-- 07 R141: SEXT of bits [7:0]. -/
theorem test_sext : (ran (on (withS [(1, 0x180)])) (.sext 3 1 7)).ctx.getS 3 = 0xFFFFFFFFFFFFFF80
    ∧ (ran (on (withS [(1, 0x1FF)])) (.zext 3 1 7)).ctx.getS 3 = 0xFF := by decide +kernel
/-- 07 R142: MOVI s6, 0x1C8 and then MOVHI s6, 0x000 give 0x1C_8000. -/
theorem test_movhi : (ran (on (withS [(6, 0x1C8)])) (.movhi 6 0)).ctx.getS 6 = 0x1C8000 := by decide +kernel
/-- 07 R143: SEL takes s(b) under p1. -/
theorem test_sel : (ran (on (withS [(1, 5), (2, 9)])) (.sel 1 3 1 2)).ctx.getS 3 = 9 ∧ (ran (on (withS [(1, 5), (2, 9)])) (.sel 0 3 1 2)).ctx.getS 3 = 5 := by
  decide +kernel
/-- 07 R144: −1 is below 1 signed, not unsigned. -/
theorem test_cmp : (ran (on (withS [(4, -1), (5, 1)])) (.cmp 1 2 4 5)).ctx.getP 2 = true
    ∧ (ran (on (withS [(4, -1), (5, 1)])) (.cmp 1 4 4 5)).ctx.getP 2 = false ∧ (ran (on (withS [(4, -1), (5, 1)])) (.cmp 1 4 4 5)).ctx.getP 3 = true := by
  decide +kernel
/-- 03 R66: s0 keeps 0, p1 keeps false. -/
theorem test_fixed : (ran (on (withS [(1, 5)])) (.add 0 1 1)).ctx.getS 0 = 0 ∧ (ran (on id) (.pset 1 1)).ctx.getP 1 = false
    ∧ (ran (on id) (.pset 0 0)).ctx.getP 0 = true := by decide +kernel
/-- 07 R145: STS stores the lowest byte at the lowest address; a negative offset. -/
theorem test_sts : readBytes (ran (on (withS [(1, 0x100), (2, 0x0102030405060708)])) (.sts 2 1 (-1))).pool.sp 0xF8 1 = 8 := by decide +kernel
theorem test_lds_misaligned : (ran (on (fun c => { (withS [(1, 0x104)] c) with ctx := { (withS [(1, 0x104)] c).ctx with tvec := 0x4000 } })) (.lds 2 1 0)).ctx.tcause
    = 0x1201 := by decide +kernel
/-- 07 R147: CALL leaves the address of the next bundle in s31. -/
theorem test_call : (ran (on fun c => { c with iss := { c.iss with size := 16 } }) (.call 4)).ctx.getS 31 = 0x100010
    ∧ (ran (on fun c => { c with iss := { c.iss with size := 16 } }) (.call 4)).ctx.pc = 0x100040 := by decide +kernel
/-- 07 R153: CSRS ORs, and FFLAGS keeps 5 bits. -/
theorem test_csrs : (ran (on fun c => withS [(1, 0xFF8)] { c with ctx := { c.ctx with fflags := 1 } }) (.csrs 1 1)).ctx.fflags = 0x19 := by decide +kernel
/-- 07 R152: ERET. -/
theorem test_eret : (ran (on fun c => { c with ctx := { c.ctx with tpc := 0x200, tcause := 0x1501 } }) .eret).ctx.pc = 0x200
    ∧ (ran (on fun c => { c with ctx := { c.ctx with tpc := 0x200, tcause := 0x1501 } }) .eret).ctx.tcause = 0 := by decide +kernel
theorem test_trap : (ran (on fun c => { c with ctx := { c.ctx with tvec := 0x4000 }, iss := { c.iss with size := 16 } }) (.trap 0x123)).ctx.tval = 0x123
    ∧ (ran (on fun c => { c with ctx := { c.ctx with tvec := 0x4000 }, iss := { c.iss with size := 16 } }) (.trap 0x123)).ctx.tpc = 0x100010
    ∧ (ran (on fun c => { c with ctx := { c.ctx with tvec := 0x4000 }, iss := { c.iss with size := 16 } }) (.trap 0x123)).ctx.pc = 0x4000 := by
  decide +kernel
/-- 07 R163: the worked STAGE: in trip 4 of C = 10, N = 3, STAGE 0 leaves C = 5 and T = 7. -/
theorem test_stage :
    let l : Level := { active := true, c := 10, t := 12, n := 3, body := 1, trips := 4, first := 0, last := 0 }
    let m := (ran (on fun c => { c with ctx := c.ctx.setLevel 0 l }) (.stage 0 0)).ctx.getLevel 0
    (m.c, m.t) = (5, 7) := by decide +kernel
/-- 07 R161: C = 2, N = 3 runs 4 trips. -/
theorem test_loop : ((ran (on (withS [(7, 0x100000002)])) (.loop 0 7 2 3)).ctx.getLevel 0).t = 4 := by decide +kernel
/-- 07 R159: addresses wrap at 2^48. -/
theorem test_au : (ran (on fun c => withA [(1, 0xFFFFFFFFFFFF)] (withS [(2, 3)] c)) (.au 3 1 2)).ctx.getA 3 = 2
    ∧ (ran (on (withA [(1, 1)])) (.aui 1 0xFFE)).ctx.getA 1 = 0xFFFFFFFFFFFF := by decide +kernel
/-- 08 R169: 1 + 2 = 3 in FP32, four cycles on. -/
theorem test_fadd : ((pending (on (withV [(1, 0x3F800000, 2), (2, 0x40000000, 2)])) (.faddV0 3 1 2)).map fun x => match x with
    | (n, .v d x t) => (n, d, x.extractLsb' 0 32, t)
    | _ => (0, 0, 0, 0)) = [(3, 3, (0x40400000 : BitVec 32), 2)] := by decide +kernel
/-- 08 R174: INT8 addition wraps in every element. -/
theorem test_iadd : ((pending (on (withV [(1, 0x7F01, 7), (2, 0x0101, 7)])) (.iaddV1 3 1 2)).map fun x => match x with
    | (_, .v _ x t) => (x.extractLsb' 0 16, t)
    | _ => (0, 0)) = [((0x8002 : BitVec 16), 7)] := by decide +kernel
/-- 08 R178: a tag is set without changing bits. -/
theorem test_setfmt : (ran (on (withV [(1, 0x1234, 0)])) (.setfmtV0 3 1 6)).ctx.getVTag 3 = 6 ∧ (ran (on (withV [(1, 0x1234, 0)])) (.setfmtV0 3 1 6)).ctx.getV 3 = 0x1234 := by
  decide +kernel
/-- 08 R187. -/
theorem test_mknot : (ran (on id) (.mknot 1 2)).ctx.getMk 1 = 0 := by decide +kernel
/-- 08 R168, 18 R347: FABS takes no integer tag. -/
theorem test_tag_fault : (ran (on fun c => { c with ctx := { c.ctx with tvec := 0x4000 } }) (.fabsV0 3 5)).ctx.tcause = 0x11203
    ∧ (ran (on fun c => { c with ctx := { c.ctx with tvec := 0x4000 } }) (.fabsV0 3 5)).ctx.tval = 69 := by decide +kernel
/-- 18 R348: a reserved value traps behind a guard that reads false. -/
theorem test_reserved_guarded : (ran (on fun c => { c with ctx := { c.ctx with tvec := 0x4000 }, iss := { c.iss with guard := 1 } }) (.seg 0)).ctx.tcause
    = 0x1005 := by decide +kernel
/-- 03 R73: with its guard false an instruction has no effect. -/
theorem test_guard_false : (ran (on fun c => withS [(1, 5)] { c with iss := { c.iss with guard := 1 } }) (.add 3 1 1)).ctx.getS 3 = 0 := by decide +kernel
/-- A word placed at the fetch runs as the first instruction (log 6): the pc passes its bundle; a micro-op moves its bank on. -/
theorem test_place : (match step (State.reset.withFetchWord 32 0x00041083) with
      | .next t => (t.core 0).ctx.pc
      | _ => 0) = 0x100010
    ∧ (match step (State.reset.withFetchWord 16 0x7003) with
      | .next t => (((t.chan 0 0).bank 0).colp, ((t.chan 0 0).bank 0).mpc)
      | _ => (0, 0)) = (3, 1) := by decide +kernel

/-! ## Witnesses: states and operands that meet the statements' hypotheses -/

/-- `State.Ready`, decided. -/
def readyB (s : State) (i : Instr) (more : List Use := []) : Bool :=
  let c := s.core s.cur
  decide (c.iss.rest = 0) && decide (c.iss.fault = none) && decide (c.iss.freezes = []) && decide (c.iss.rdv = false) && !c.iss.duty && !c.acquiring
    && decide (walkPoisonOf c.iss.effects = none ∧ poisonOf c.iss.effects = none ∧ trapOf c.iss.effects = none)
    && decide (c.ctx.bad = [] ∧ gateStopsOf c.iss.effects = []) && (c.land.all fun l => !l.due && !l.psn) && decide (c.ctx.deferred = []) && !c.prot && i.wellFormed
    && (isSelector i || c.ctx.getP c.iss.guard.toNat && ((rd 2 c.iss.guard).exempt || !c.pending 2 (c.ctx.physP c.iss.guard.toNat)))
    && ((instrUses i ++ more).all fun u => decide (u.file = 7) || u.exempt || !c.pending (c.ctx.physUse u).1 (c.ctx.physUse u).2)
    && ((instrUses i ++ more).all fun u => decide (u.file ≠ 7) || c.ctx.tokenDone (c.ctx.physK u.num))

/-- What `readyB` decides: the instruction is ready, whatever its effects and whether or not a segment ends before it, the member being unprotected. -/
theorem ready_of {s : State} {i : Instr} {bnd : Bool} {more : List Use} {es : List Effect} (h : readyB s i more = true) : s.Ready i bnd more es := by
  unfold readyB at h
  simp only [Bool.and_eq_true, decide_eq_true_eq, List.all_eq_true, Bool.or_eq_true, Bool.not_eq_true'] at h
  obtain ⟨⟨⟨⟨⟨⟨⟨⟨⟨⟨⟨⟨⟨⟨h1, h2⟩, h3⟩, h4⟩, hd⟩, ha⟩, h5⟩, hb⟩, h6⟩, h7⟩, h8⟩, h9⟩, h10⟩, h11⟩, h12⟩ := h
  exact {
    quiet := { last := h1, faultless := h2, unfrozen := h3, apart := h4, working := hd, acquired := ha, sound := h5, healthy := hb.1, passed := hb.2, landings := h6, deferred := h7 }
    segment := fun hp _ => absurd hp (by simp [h8])
    legal := h9
    guard := fun hs => by
      rcases h10 with h | h
      · simp [hs] at h
      · exact h.1
    guardFree := fun hs => by
      rcases h10 with h | h
      · simp [hs] at h
      · exact h.2
    free := fun u hu h7 hx => by
      rcases h11 u hu with (h | h) | h
      · exact absurd h h7
      · simp [h] at hx
      · exact h
    tokens := fun _ u hu h7 => by
      rcases h12 u hu with h | h
      · exact absurd h7 h
      · exact h }

/-- Core 0 at a bundle of one slot. -/
def base : State := on id

/-- One of every instruction whose registers are all named in its fields. -/
def slots : List Instr := [
    .add 1 2 3, .sub 1 2 3, .mul 1 2 3, .mulh 1 2 3, .mulhu 1 2 3, .div 1 2 3, .divu 1 2 3, .rem 1 2 3, .remu 1 2 3, .and 1 2 3, .or 1 2 3, .xor 1 2 3,
    .andn 1 2 3, .shl 1 2 3, .shr 1 2 3, .sra 1 2 3, .rotl 1 2 3, .min 1 2 3, .max 1 2 3, .minu 1 2 3, .maxu 1 2 3, .clz 1 2, .ctz 1 2, .popc 1 2,
    .sext 1 2 63, .zext 1 2 0, .addi 1 2 63, .andi 1 2 3, .ori 1 2 3, .shli 1 2 63, .shri 1 2 0, .srai 1 2 3, .movi 1 0xFFF, .movhi 1 0xFFF,
    .sel 1 1 2 3, .cmp 7 5 1 2, .cmpi 1 0 1 63, .lds 1 2 3, .sts 1 2 3, .br 1, .bri 1, .call 1, .ret, .launch 1, .park 1 2, .trap 7, .eret, .halt,
    .csrr 1 0, .csrw 1 0x5F, .csrs 1 0x42, .edw 63 1 3, .edld 63 1 0, .seg 4096, .rdv 0, .nop, .au 1 2 3, .aui 15 1, .amov 1 2, .aget 1 2, .lstep 1 5 2,
    .loop 5 1 0 7, .stage 5 0, .pand 15 8 1, .por 2 3 4, .pxor 2 3 4, .pnot 2 3, .pmov 2 3, .pset 2 1, .kclr 7, .vst 1 2 3, .vsts 1 2 3, .vstx 1 2 3,
    .vlds 1 2 3 11, .vldx 1 2 3 0, .vldb 1 2 3 0, .vldInt32 1 2 3, .mkand 1 2 3, .mkor 1 2 3, .mknot 1 2, .frcp 1 2, .frsq 1 2, .fsqrt 1 2, .fexp2 1 2,
    .flog2 1 2, .ftanh 1 2, .faddV0 1 2 3, .fsubV1 1 2 3, .fmulV0 1 2 3, .fmaV1 1 2 3, .fmsV0 1 2 3, .fminV0 1 2 3, .fmaxV1 1 2 3, .fabsV0 1 2, .fnegV0 1 2,
    .fcpysV1 1 2 3, .fcmpV0 1 6 2 3, .iaddV0 1 2 3, .imadV1 1 2 3, .iaddwV0 1 2 3, .imadwV1 1 2 3, .icmpV0 1 5 2 3, .iabsV0 1 2, .cvtV0 1 2 11 3,
    .cvtnV1 1 2 0 2, .unpklV0 1 2 3, .packV1 1 2 3, .setfmtV0 1 2 11, .vmovV0 1 2, .vmoviV1 1 0xFFF, .vbcstV0 1 2 3, .vextV1 1 2 3, .vselV0 1 1 2 3,
    .vpermV0 1 2 3, .vrotV1 1 2 15, .xclV0 1 2 7, .xclbV1 1 2 0, .vscanV0 1 2 1 1 2, .vredV1 1 2 0 0, .ldg 3 1 2 31 3, .ldgi 1 2 0 0, .ldgv 1 2 0 3,
    .stg 0 1 2 31 0, .stgv 1 2 0 0, .lda 1 2 4, .stl 1 2 0 0, .aadd 1 2 3 4 3, .axch 1 2 0 0 2, .acas 62 2 0 0 3, .aaddqFp32 1 2 0 0 7, .drain 5,
    .bfence 1 2, .twait 1 2 7, .bwait 1 0 2, .badd 0 1 1 2, .phase 1, .phwait, .probe 7 1 2, .probei 1 1 2, .pwb 1, .pinv 1, .ppin 1 1, .mswap 7 1 2 3]

/-- Every one of them is ready in `base`, with any effects, as a boundary of segments or not: the hypotheses of what they complete with, of their
frames and of the traps they do not take. -/
theorem witness_ready : ∀ i ∈ slots, ∀ bnd es, base.Ready i bnd [] es := by
  intro i hi bnd es
  have h : (slots.all fun i => readyB base i) = true := by decide +kernel
  exact ready_of (List.all_eq_true.1 h i hi)

theorem witness_alone : Alone base := by
  refine ⟨rfl, rfl, rfl, rfl, rfl, ?_⟩
  intro j hj h
  exact absurd h (by rw [show ((here base).ctx.getLevel j).active = false from rfl]; decide)

theorem witness_plain : Plain base := ⟨witness_alone, rfl⟩

theorem witness_idle : Idle base := ⟨witness_ready .nop (by decide +kernel) false [], rfl, rfl⟩

/-- The same at the last bundle of the body of level 0, in a trip that is not its last. -/
def looping : State :=
  let l : Level := { active := true, c := 2, t := 3, n := 2, body := 1, trips := 0, first := 0x100000, last := 0x100000 }
  on fun c => { c with ctx := c.ctx.setLevel 0 l }

theorem witness_back_edge : Idle looping ∧ ((here looping).ctx.getLevel 0).active = true ∧ ((here looping).ctx.getLevel 0).last = (here looping).ctx.pc
    ∧ ∀ j < 6, j ≠ 0 → ((here looping).ctx.getLevel j).active = true → ((here looping).ctx.getLevel j).last ≠ (here looping).ctx.pc := by
  refine ⟨⟨ready_of (by decide +kernel), rfl, rfl⟩, by decide +kernel, by decide +kernel, by decide +kernel⟩

/-- A member that can take a trap in a handler. -/
def guarded : State := on fun c => { c with ctx := { c.ctx with tvec := 0x4000 } }

theorem witness_handled : Handled (here guarded) ∧ LastSlot (here guarded) :=
  ⟨⟨by decide +kernel, by decide +kernel, fun _ h => nomatch h⟩, ⟨rfl, rfl, rfl, (fun _ h => (nomatch h)), rfl, rfl, rfl, rfl⟩⟩

/-- A member that cannot: TVEC is 0; and one in a handler. -/
theorem witness_killed : (∀ l ∈ (here base).land, l.data.isSome = true ∧ l.psn = false) ∧ (∃ b, (here base).task = some b)
    ∧ (drained (here base)).ctx.tvec = 0 ∧ (drained (here (on fun c => { c with ctx := { c.ctx with tvec := 4, tcause := 0x1501 } }))).ctx.tcause.truncate 16
      ≠ (0 : BitVec 16) := ⟨fun _ h => (nomatch h), ⟨_, rfl⟩, by decide +kernel, by decide +kernel⟩

/-- A landing that is outstanding. -/
def away : Landing := { id := 0, file := 0, dest := 1, left := 0, due := false, sz := 3, data := none, need := 1, part := 0, psn := false }

theorem witness_landing : ∃ l ∈ (here (on fun c => { c with land := [away] })).land, l.data.isSome = false := ⟨_, List.mem_singleton.2 rfl, rfl⟩

theorem witness_trap_running : (here (base.issued (.trap 7) [.trap 7])).run = .running ∧ Handled (here (guarded.issued (.trap 7) [.trap 7])) :=
  ⟨by decide +kernel, by decide +kernel, by decide +kernel, by decide +kernel⟩

/-- A slot word with a reserved value; a guard that reads false, pending and not; a pending register. -/
theorem witness_slot_faults : (Instr.seg 0).slotParts.isSome = true ∧ (Instr.seg 0).wellFormed = false
    ∧ (let s := on fun c => { c with iss := { c.iss with guard := 2 } }
       (here s).ctx.getP 2 = false ∧ (here s).pending 2 ((here s).ctx.physP 2) = false)
    ∧ (let s := on fun c => { c with iss := { c.iss with guard := 2 }, pipe := [{ left := 1, write := .p 2 true, flags := 0 }] }
       (here s).ctx.getP 2 = false ∧ (here s).pending 2 ((here s).ctx.physP 2) = true)
    ∧ (let s := on fun c => { c with ctx := { c.ctx with tvec := 0x4000 }, pipe := [{ left := 3, write := .s 2 5, flags := 0 }] }
       (here s).pending 0 ((here s).ctx.physS 2) = true ∧ (here s).pending 0 ((here s).ctx.physS 1) = false ∧ Handled (here s))
    ∧ (let s := on fun c => { c with iss := { c.iss with guard := 2 }, pipe := [{ left := 1, write := .p 2 false, flags := 0 }], ctx := c.ctx.write (.p 2 true) }
       (here s).ctx.getP 2 = true ∧ (here s).pending 2 ((here s).ctx.physP 2) = true ∧ Instr.add 1 2 3 ∈ plainArithmetic 1 2 3) := by
  refine ⟨by decide +kernel, by decide +kernel, by decide +kernel, by decide +kernel,
    ⟨by decide +kernel, by decide +kernel, ⟨by decide +kernel, by decide +kernel, fun _ h => nomatch h⟩⟩, by decide +kernel⟩

/-! ### Operands of the slots' statements -/

/-- Every instruction of a list is ready. -/
def readyAll (s : State) (l : List Instr) : Bool := l.all fun i => readyB s i

/-- Registers v1 to v3 hold the same tag; v4 and v5 another. -/
def tagged (t u : Tag) : State := on (withV [(1, 0x3F80, t), (2, 1, t), (3, 2, t), (4, 5, u), (5, 6, u)])

/-- Each floating-point tag; the arithmetic forms are ready on it. -/
theorem witness_float : ∀ t ∈ [Fmt.fp32, Fmt.fp16, Fmt.bf16],
    fpTag (vtag (tagged t 0) 1) = true ∧ vtag (tagged t 0) 2 = vtag (tagged t 0) 1 ∧ vtag (tagged t 0) 3 = vtag (tagged t 0) 1
    ∧ readyAll (tagged t 0) [.faddV0 3 1 2, .faddV1 3 1 2, .fmaV0 3 1 2, .fmsV1 3 1 2, .fcpysV0 3 1 2, .fabsV0 3 1, .fnegV1 3 1, .frcp 3 1, .fminV0 3 1 2,
        .fcmpV1 7 6 1 2, .vredV0 3 1 1 0] = true := by decide +kernel

/-- A special function's special cases: every format, a number that is not 0. -/
theorem witness_cases : (FFmt.bf16 = .fp32 ∨ FFmt.bf16 = .fp16 ∨ FFmt.bf16 = .bf16) ∧ (1 : Nat) ≠ 0 := by decide

/-- Rounding a number that is not 0: to one of the format, past its largest, and in BF16 to 0, where its subnormals would lie. -/
theorem witness_rounding : ∀ mode ∈ [Mode.rne, .rtz, .rdn, .rup],
    (let r := roundTo .bf16 .ieee mode (.fin false 3 (-1))
     r.2 &&& FFlag.ovf = 0 ∧ r.1 % FFmt.bf16.signBit ≠ 0)
    ∧ (roundTo .fp16 .ieee mode (.fin true 1 17)).2 &&& FFlag.ovf ≠ 0
    ∧ (roundTo .bf16 .ieee .rne (.fin false 1 (-150))).1 % FFmt.bf16.signBit = 0 := by decide +kernel

/-- Each integer tag. -/
theorem witness_int : ∀ t ∈ [Fmt.int32, Fmt.uint32, Fmt.int16, Fmt.uint16, Fmt.int8, Fmt.uint8],
    Fmt.isInt (vtag (tagged t 0) 1) = true ∧ vtag (tagged t 0) 2 = vtag (tagged t 0) 1 ∧ vtag (tagged t 0) 3 = vtag (tagged t 0) 1
    ∧ readyAll (tagged t 0) [.iaddV0 3 1 2, .imadV1 3 1 2, .iabsV0 3 1, .sraV0 3 1 2, .icmpV0 7 5 1 2, .vscanV1 3 1 1 0 2] = true := by decide +kernel

/-- Wide accumulators and narrow operands; a repack's tags. -/
theorem witness_widening : ∀ t ∈ [Fmt.int32, Fmt.uint32], ∀ u ∈ [Fmt.int16, Fmt.uint16, Fmt.int8, Fmt.uint8],
    (vtag (tagged t u) 1 = 0 ∨ vtag (tagged t u) 1 = 1) ∧ (Fmt.isInt (vtag (tagged t u) 4) = true ∧ width (vtag (tagged t u) 4) < 32)
    ∧ width (vtag (tagged t u) 5) = width (vtag (tagged t u) 4) ∧ width (vtag (tagged t u) 4) ≤ 16
    ∧ readyAll (tagged t u) [.iaddwV0 3 1 4, .imadwV1 3 4 5, .unpklV0 3 4 5, .packV1 3 4 5, .cvtV0 3 4 2 2] = true := by decide +kernel

/-- A prefix: the last of three elements at the ends of their range. -/
theorem witness_prefix_numbers : (∀ x ∈ [0x7F81, 0x7FC0], x < 2 ^ width Fmt.bf16) ∧ (∀ x ∈ [0x7F81, 0x7FC0], ((fpFmt Fmt.bf16).decode x).isNan = true)
    ∧ ∃ z ∈ [0x7F81, 0x8000], ((fpFmt Fmt.bf16).decode z).isNan = false := by decide
/-- 08 R170, R186: −0 is below +0, and a signalling NaN beside numbers raises NV alone. -/
theorem test_prefix_max : (prefixes Fmt.bf16 1 .rne [0x8000, 0x0000, 0x7F81]).1 = [(0x8000, 0), (0x0000, 0), (0x0000, FFlag.nv)]
    ∧ (prefixes Fmt.bf16 2 .rne [0x7FC1, 0x0000, 0x8000]).1 = [(0x7FC0, 0), (0x0000, 0), (0x8000, 0)] := by decide +kernel
theorem witness_prefix : 2 < [0, 255, 128].length ∧ (∀ x ∈ [0, 255, 128], x < 2 ^ width Fmt.int8) ∧ Fmt.isInt Fmt.int8 = true ∧ fpTag Fmt.bf16 = true := by
  decide

/-- Doublewords, descriptors, registers and lanes at the two ends of the offset space. -/
def ends : State := on fun c => withA [(1, BitVec.ofNat 48 (spSize (here base).ctx.pw - 512)), (2, 4)] (withV [(2, 0, 0), (3, 0, 1), (4, 0, 2)]
  (withS [(1, BitVec.ofNat 64 (spSize (here base).ctx.pw - 8)), (2, 0), (3, BitVec.ofNat 64 (spSize (here base).ctx.pw - 32)), (4, BitVec.ofNat 64 (2 ^ 64 - 8))] c))

theorem witness_scratchpad : ∀ a ∈ [(1 : BitVec 6), 2], spFree ends 8 (spAddr ends a 0) 8 ∧ spSound ends (spAddr ends a 0) 8
    ∧ readyAll ends [.lds 5 a 0, .sts 5 a 0] = true := by
  unfold spFree spSound; decide +kernel
theorem witness_edld : ∀ a ∈ [(2 : BitVec 6), 3], ((edldAddr ends a 0).toNat : Int) = edldAddr ends a 0 ∧ spFree ends 32 (edldAddr ends a 0).toNat 32
    ∧ spSound ends (edldAddr ends a 0).toNat 32
    ∧ readyAll ends [.edld 5 a 0] = true := by
  unfold spFree spSound; decide +kernel
theorem witness_vector_whole : ∀ a ∈ [(0 : BitVec 4), 1], spFree ends 64 (((areg ends a).toNat + 0 * 512) % 2 ^ 48) 512
    ∧ spSound ends (((areg ends a).toNat + 0 * 512) % 2 ^ 48) 512 ∧ readyAll ends [.vldE8m0 5 a 0, .vst 5 a 0] = true := by
  unfold spFree spSound; decide +kernel
theorem witness_strided : lanesFree ends (stridedAt ends 2 2) ∧ lanesSound ends (stridedAt ends 2 2)
    ∧ readyAll ends [.vlds 5 2 2 7, .vsts 5 2 2] = true := by
  unfold lanesFree lanesSound spFree spSound; decide +kernel
theorem witness_indexed : ∀ x ∈ [(2 : BitVec 4), 3], lanesFree ends (indexedAt ends 2 x) ∧ lanesSound ends (indexedAt ends 2 x)
    ∧ ((here ends).ctx.getVTag x.toNat = 0 ∨ (here ends).ctx.getVTag x.toNat = 1) ∧ readyAll ends [.vldx 5 2 x 7, .vstx 5 2 x] = true := by
  unfold lanesFree lanesSound spFree spSound; decide +kernel
theorem witness_vldb : spFree ends 4 (((areg ends 2).toNat + ((here ends).ctx.getS 2).toInt) % 2 ^ 48).toNat 4
    ∧ spSound ends (((areg ends 2).toNat + ((here ends).ctx.getS 2).toInt) % 2 ^ 48).toNat 4 := by unfold spFree spSound; decide +kernel

/-- Aligned targets; a nest that LOOP may enter: nothing active, and a body within that of an outer level. -/
theorem witness_loop : (sreg base 1).toNat % 16 = 0 ∧ (sreg base 31).toNat % 16 = 0
    ∧ (∀ s ∈ [base, on fun c => { c with ctx := c.ctx.setLevel 5 { active := true, c := 2, t := 2, n := 0, body := 64, trips := 0, first := 0x100000
                                                                   last := 0x200000 } }],
      let next := (here s).ctx.pc + BitVec.ofNat 64 (here s).iss.size
      let ends := s.bundlesOn s.cur 0 next
      ∀ j < 6, ((here s).ctx.getLevel j).active = true →
        (4 : BitVec 3).toNat < j ∧ ((here s).ctx.getLevel j).first.toNat ≤ next.toNat ∧ ends.1.toNat ≤ ((here s).ctx.getLevel j).last.toNat) := by
  decide +kernel

/-- An aligned node; no beacon, and one that translates. -/
theorem witness_task_control : (sreg base 1).toNat % 64 = 0 ∧ sreg base 1 = 0
    ∧ (let s := on (withS [(1, 0x1008)])
       (sreg s 1).toNat % 8 = 0 ∧ s.xlateCore s.cur .read (sreg s 1).toNat = .ok (.stack 0x1008))
    ∧ (here base).prot = false ∧ readyB base (.rdv 1) = true := by decide +kernel

/-! ### The memory port and the cache -/

/-- The pieces of an access that the state's one-to-one tables give. -/
def flat (va n : Nat) : List Piece := (pieces 64 (n / 64 + 2) va n).map fun x => { target := .stack (BitVec.ofNat 39 x.1), off := x.1 - va, n := x.2 }

/-- A line, and the last line, that the tables map. -/
def lines : State := on fun c => withA [(1, 0x1000), (2, BitVec.ofNat 48 (2 ^ 36 - 512))] (withS [(1, 8), (2, 0x8000), (3, 1), (4, 2 ^ 23 - 8)] c)

theorem witness_loads : ∀ a ∈ [(1 : BitVec 4), 2], ∀ z ∈ [(0 : BitVec 3), 3],
    landingFree lines ∧ loadFree lines (flat (addr lines a) (2 ^ z.toNat)) ∧ loadFree lines (flat (addr lines a) (512 / 2 ^ z.toNat))
    ∧ loadFree lines (flat (addr lines a) 8)
    ∧ placed lines .read (2 ^ z.toNat) (addr lines a) (addr lines a) (2 ^ z.toNat) (flat (addr lines a) (2 ^ z.toNat))
    ∧ placed lines .read 64 (addr lines a) (addr lines a) (512 / 2 ^ z.toNat) (flat (addr lines a) (512 / 2 ^ z.toNat))
    ∧ placed lines .read 8 (addr lines a) (addr lines a) 8 (flat (addr lines a) 8) ∧ z ≠ 5
    ∧ readyAll lines [.ldg 3 5 a 0 z, .ldgi 5 a 0 z, .ldgv 5 a 0 z, .lda 5 a z] = true := by
  unfold landingFree loadFree placed; decide +kernel
theorem witness_stores : ∀ z ∈ [(0 : BitVec 3), 3], ∀ ps, ps = flat (addr lines 1 + 31 * 2 ^ z.toNat) (2 ^ z.toNat)
      ∨ ps = flat (addr lines 1 + 31 * (512 / 2 ^ z.toNat)) (512 / 2 ^ z.toNat) ∨ ps = flat (addr lines 1 + 31 * 8) 8 → queueFree lines ps.length := by
  intro z hz ps h
  have k : ∀ z ∈ [(0 : BitVec 3), 3], queueFree lines (flat (addr lines 1 + 31 * 2 ^ z.toNat) (2 ^ z.toNat)).length
      ∧ queueFree lines (flat (addr lines 1 + 31 * (512 / 2 ^ z.toNat)) (512 / 2 ^ z.toNat)).length ∧ queueFree lines (flat (addr lines 1 + 31 * 8) 8).length := by
    unfold queueFree; decide +kernel
  rcases h with h | h | h <;> subst h
  · exact (k z hz).1
  · exact (k z hz).2.1
  · exact (k z hz).2.2
theorem witness_stores_placed : ∀ z ∈ [(0 : BitVec 3), 3],
    placed lines .write (2 ^ z.toNat) (addr lines 1) (addr lines 1 + 31 * 2 ^ z.toNat) (2 ^ z.toNat) (flat (addr lines 1 + 31 * 2 ^ z.toNat) (2 ^ z.toNat))
    ∧ placed lines .write 64 (addr lines 1) (addr lines 1 + 31 * (512 / 2 ^ z.toNat)) (512 / 2 ^ z.toNat)
      (flat (addr lines 1 + 31 * (512 / 2 ^ z.toNat)) (512 / 2 ^ z.toNat))
    ∧ placed lines .write 8 (addr lines 1) (addr lines 1 + 31 * 8) 8 (flat (addr lines 1 + 31 * 8) 8)
    ∧ readyAll lines [.stg 3 5 1 31 z, .stgv 5 1 31 z, .stl 5 1 31 z] = true := by unfold placed; decide +kernel

/-- An atomic's element, a quantising one's doubleword. -/
def one (va n : Nat) : Piece := { target := .stack (BitVec.ofNat 39 va), off := 0, n := n }
theorem witness_atomics : ∀ z ∈ [(2 : BitVec 3), 3], queueFree lines 1 ∧ (4 : BitVec 3) ≠ 5 ∧ landingFree lines
    ∧ placed lines .write (atomBytes z) (addr lines 1) (addr lines 1) (atomBytes z) [one (addr lines 1) (atomBytes z)]
    ∧ (2 : BitVec 6).toNat % 2 = 0 ∧ (2 : BitVec 6) ≠ 0 ∧ readyB lines (.axch 2 1 3 4 z) = true ∧ readyB lines (.acas 2 1 0 4 z) = true
    ∧ (atomicForms 2 1 1 4 z).all (fun f => f.2 == .addf || readyB lines f.1) = true
    ∧ (atomicForms 2 1 1 4 4).any (fun f => f.2 == .addf && readyB lines f.1) = true ∧ (quantForms 2 1 0 4 7).all (fun f => readyB lines f.1) = true
    ∧ placed lines .write 8 (addr lines 1) (addr lines 1) 8 [one (addr lines 1) 8] := by
  unfold queueFree landingFree placed; decide +kernel

/-- A block in a way, dirty or not; a block in none, with a victim and, every way dirty, without. -/
def cacheEntry (dirty : Bool) : TagEntry := { st := 2, dirty := dirty, pin := false, blk := 0, drop := false, inv := false, home := .stack 0 }
def cached (dirty : Bool) : State := on fun c => withA [(1, 0x1000)]
  { c with pool := { c.pool with tagt := mapSet Init.tagEntry c.pool.tagt (tagKey 1 0) (cacheEntry dirty) } }
def full : State := on fun c => withA [(1, 0x1000)]
  { c with pool := { c.pool with tagt := (List.range (cacheWays c.ctx.pw)).foldl (fun m w =>
      mapSet Init.tagEntry m (tagKey 1 w) { cacheEntry true with blk := 9 }) c.pool.tagt } }

theorem witness_cache : ∀ d ∈ [true, false],
    blockPlaced (cached d) .read 1 (.stack 0x1000) ∧ blockPlaced (cached d) .write 1 (.stack 0x1000) ∧ (here (cached d)).findBlock 0x1000 = some 0
    ∧ ((here (cached d)).tag 1 0).st = 2 ∧ ((here (cached d)).tag 1 0).dirty = d ∧ (here (cached d)).sbUsed < 32
    ∧ readyAll (cached d) [.probe 7 2 1, .probei 1 2 1, .pwb 1, .pinv 1, .ppin 1 1] = true := by unfold blockPlaced; decide +kernel
theorem witness_cache_miss : blockPlaced lines .read 1 (.stack 0x1000) ∧ (here lines).findBlock 0x1000 = none ∧ (here lines).victim 1 = some 0
    ∧ blockPlaced full .read 1 (.stack 0x1000) ∧ (here full).findBlock 0x1000 = none ∧ (here full).victim 1 = none
    ∧ readyAll full [.probe 7 2 1, .pinv 1, .pwb 1] = true := by unfold blockPlaced; decide +kernel

/-! ### Drains, fences, waits, beacons, phases -/

/-- No write outstanding; a fence of no bytes, and of bytes whose markers are placed; waits that hold; beacons in both spaces, at the end of each. -/
def fenced : State := on fun c => withA [(1, 0x1000)] (withS [(1, 0x8000)] { c with fence := some (0x1000, 0x8000, true) })
theorem witness_fence : sreg base 1 = 0 ∧ sreg fenced 1 ≠ 0
    ∧ fenceWalk fenced ((sreg fenced 1).toNat / 2 ^ 14 + 2) (addr fenced 1) (sreg fenced 1).toNat = none
    ∧ (here fenced).fence = some (addr fenced 1, (sreg fenced 1).toNat, true) ∧ fenced.markersOf fenced.cur = false ∧ (here fenced).drained = true
    ∧ readyB fenced (.bfence 1 1) = true ∧ readyB fenced (.drain 5) = true := by decide +kernel
def beacons : State := on fun c => withA [(1, 0x1000), (2, BitVec.ofNat 48 (spSize c.ctx.pw - 8))] (withS [(2, 1)] { c with poll := some 0 })
theorem witness_waits :
    ((here base).ctx.tokenDone ((here base).ctx.physK 1) && (here base).ctx.tokenDone ((here base).ctx.physK 7)) = true
    ∧ addr beacons 2 % 8 = 0 ∧ addr beacons 2 % 2 ^ 23 + 8 ≤ spSize (here beacons).ctx.pw ∧ (sreg beacons 1).toNat ≤ readBytes (here beacons).pool.sp 0 8
    ∧ placed beacons .read 8 (addr beacons 1) (addr beacons 1) 8 [one 0x1000 8] ∧ placed beacons .write 8 (addr beacons 1) (addr beacons 1) 8 [one 0x1000 8]
    ∧ (here beacons).polled (sreg beacons 1).toNat = true ∧ (here beacons).ownWrite (.stack 0x1000) = false ∧ spSound beacons 0 8 ∧ queueFree beacons 1
    ∧ base.phaseMet (cbOf base.cur) (here base).ctx (localOf base.cur) = true
    ∧ readyAll beacons [.twait 1 7 7, .bwait 2 1 1, .badd 1 2 1 2, .bwait 1 0 1, .badd 1 1 0 2, .phwait] = true := by
  unfold placed queueFree spSound; decide +kernel
/-- A header of kind 2 whose group is core 0 alone, at the last 32 bytes. -/
def phased : State := on fun c =>
  let c := withS [(1, BitVec.ofNat 64 (spSize c.ctx.pw - 32))] c
  { c with pool := { c.pool with sp := writeBytes c.pool.sp (spSize c.ctx.pw - 32) 32 0x10002 } }
theorem witness_phase :
    let o := (sreg phased 1).toNat
    let h : BitVec 256 := BitVec.ofNat 256 (readBytes (here phased).pool.sp o 32)
    spFree phased 32 o 32 ∧ spSound phased o 32 ∧ 2 ≤ (h.extractLsb' 0 2).toNat ∧ h.extractLsb' 2 14 = 0 ∧ h.extractLsb' 32 32 = 0 ∧ h.extractLsb' 192 64 = 0
    ∧ h.getLsbD (16 + phased.cur.toNat % 16) = true ∧ readyB phased (.phase 1) = true := by unfold spFree spSound; decide +kernel

/-! ### Operands that fault -/

/-- What `Traps` supposes of an instruction. -/
def faultsB (s : State) (i : Instr) (more : List Use := []) : Bool :=
  readyB s i more && !(here s).prot && decide ((drained (here s)).ctx.tvec ≠ 0) && decide ((drained (here s)).ctx.tcause.truncate 16 = (0 : BitVec 16))
    && (here s).land.isEmpty && (here s).sb.isEmpty

/-- The first `x` of a list that meets a condition is `y`. -/
def firstIs (l : List Nat) (f : Nat → Bool) (y : Nat) : Bool := l.find? f == some y

/-- A core with a handler, and a column of each table on the walk of 2^36, which no leaf maps; 2 × 2^36 on, a fabric page; 3 × 2^36 on, one without WR. -/
def handling (f : Core → Core) : State :=
  let s := on fun c => f { c with ctx := { c.ctx with tvec := 0x4000 }, got := tableCols }
  { s with tlb := mapSet [] [] (coreKey 0) (Place.cached ++ [{ asid := 0, base := 2, size := 36, leaf := 0x002F + 8 * 2 ^ 52 },
      { asid := 0, base := 3, size := 36, leaf := 0x17 }]) }

/-- Addresses one off, the first byte outside, the lanes' ends, an index register of either tag or of none. -/
def wrong : State := handling fun c =>
  let n := spSize c.ctx.pw
  withA [(1, 0x1001), (2, BitVec.ofNat 48 (n - 256)), (3, BitVec.ofNat 48 (n - 256)), (4, 2), (5, BitVec.ofNat 48 n)]
    (withS [(1, 4), (2, BitVec.ofNat 64 n), (3, 8), (4, 4)] (withV [(1, 0, 11), (2, 0, 0), (3, 0, 1)] c))
theorem witness_scratchpad_faults :
    let n := spEnd wrong
    spAddr wrong 1 0 % 8 ≠ 0 ∧ spAddr wrong 2 0 % 8 = 0 ∧ n < spAddr wrong 2 0 + 8
    ∧ edldAddr wrong 3 0 % 32 ≠ 0 ∧ edldAddr wrong 2 0 % 32 = 0 ∧ (n : Int) < edldAddr wrong 2 0 + 32 ∧ edldAddr wrong 5 (-1) % 32 = 0 ∧ edldAddr wrong 5 (-1) < 0
    ∧ ((areg wrong 1).toNat + 0 * 512) % 2 ^ 48 % 64 ≠ 0 ∧ ((areg wrong 3).toNat + 0 * 512) % 2 ^ 48 % 64 = 0 ∧ n < ((areg wrong 3).toNat + 0 * 512) % 2 ^ 48 + 512
    ∧ [.lds 5 1 0, .sts 5 1 0, .lds 5 2 0, .edld 5 3 0, .edld 5 2 0, .edld 5 5 (-1), .vst 5 1 0, .vldE8m0 5 1 0, .vst 5 3 0, .vldE8m0 5 3 0].all
        (fun i => faultsB wrong i) = true := by decide +kernel
theorem witness_lane_faults :
    let n := spEnd wrong
    let strideOut := stridedAt wrong 2 4
    firstIs (stridedAt wrong 4 4) (fun a => decide (a % 4 ≠ 0)) 2 = true ∧ (∀ b ∈ strideOut, b % 4 = 0) ∧ firstIs strideOut (fun a => decide (n < a + 4)) n = true
    ∧ ((here wrong).ctx.getVTag 2 = 0 ∧ (here wrong).ctx.getVTag 3 = 1)
    ∧ firstIs (indexedAt wrong 4 2) (fun a => decide (a % 4 ≠ 0)) 2 = true
    ∧ (∀ b ∈ indexedAt wrong 5 3, b % 4 = 0) ∧ firstIs (indexedAt wrong 5 3) (fun a => decide (n < a + 4)) n = true
    ∧ (here wrong).ctx.getVTag 1 ≠ 0 ∧ (here wrong).ctx.getVTag 1 ≠ 1 ∧ (∀ sg ∈ [true, false], lanesFree wrong (indexedAs wrong 2 1 sg))
    ∧ [.vlds 5 4 4 7, .vsts 5 4 4, .vlds 5 2 4 7, .vsts 5 2 4, .vldx 5 4 2 7, .vstx 5 4 2, .vldx 5 5 3 7, .vstx 5 5 3, .vldx 5 2 1 7, .vstx 5 2 1, .vldb 5 4 3 7, .vldb 5 5 3 7].all
        (fun i => faultsB wrong i) = true := by
  unfold lanesFree spFree; decide +kernel

/-- Targets one off, a beacon outside, places that a walk does not give. -/
def astray : State := handling fun c =>
  let n := spSize c.ctx.pw
  let c := withA [(1, 0x1001), (2, 2 ^ 36), (3, BitVec.ofNat 48 n), (4, 2 * 2 ^ 36), (5, 3 * 2 ^ 36), (6, 0x1000)]
    (withS [(1, 4), (2, 2 ^ 36), (3, 8), (4, 2), (5, BitVec.ofNat 64 n), (6, BitVec.ofNat 64 (n - 32)), (31, 8)] c)
  { c with pool := { c.pool with sp := writeBytes c.pool.sp (n - 32) 32 0x20002 } }
theorem witness_target_faults :
    let n := spEnd astray
    let h : BitVec 256 := BitVec.ofNat 256 (readBytes (here astray).pool.sp (sreg astray 6).toNat 32)
    let h0 : BitVec 256 := BitVec.ofNat 256 (readBytes (here astray).pool.sp (sreg astray 0).toNat 32)
    (sreg astray 3).toNat % 16 ≠ 0 ∧ (sreg astray 31).toNat % 16 ≠ 0 ∧ (sreg astray 3).toNat % 64 ≠ 0 ∧ (sreg astray 4).toNat % 8 ≠ 0
    ∧ (sreg astray 2).toNat % 8 = 0 ∧ sreg astray 2 ≠ 0 ∧ astray.xlateCore astray.cur .read (sreg astray 2).toNat = .fault 1
    ∧ addr astray 1 % 8 ≠ 0 ∧ addr astray 3 % 8 = 0 ∧ n < addr astray 3 % 2 ^ 23 + 8 ∧ addr astray 2 % 8 = 0 ∧ queueFree astray 1
    ∧ (∀ w ∈ [Want.read, .write], astray.xlateCore astray.cur w (addr astray 2) = .fault 1)
    ∧ addr astray 5 % 8 = 0 ∧ astray.xlateCore astray.cur .write (addr astray 5) = .fault 2
    ∧ astray.xlateCore astray.cur .read (addr astray 4) = .ok (.fabric 8 0)
    ∧ (sreg astray 4).toNat % 32 ≠ 0 ∧ (sreg astray 5).toNat % 32 = 0 ∧ n < (sreg astray 5).toNat + 32
    ∧ spFree astray 32 (sreg astray 6).toNat 32 ∧ spFree astray 32 (sreg astray 0).toNat 32
    ∧ ¬ (2 ≤ (h0.extractLsb' 0 2).toNat)
    ∧ (2 ≤ (h.extractLsb' 0 2).toNat ∧ h.extractLsb' 2 14 = 0 ∧ h.extractLsb' 32 32 = 0 ∧ h.extractLsb' 192 64 = 0) ∧ h.getLsbD (16 + astray.cur.toNat % 16) = false
    ∧ [.bri 3, .ret, .launch 3, .park 4 1, .park 2 1, .bwait 1 0 1, .bwait 1 1 1, .badd 1 1 1 1, .bwait 3 1 1, .badd 1 3 1 1, .badd 1 1 0 1, .badd 1 2 0 1, .badd 1 5 0 1,
        .bwait 2 0 1, .bfence 2 1, .bfence 4 1, .phase 4, .phase 5, .phase 0, .phase 6].all (fun i => faultsB astray i) = true := by
  unfold queueFree spFree; decide +kernel

/-- The memory port: each form one off, at a place that no leaf maps, or that may not be written, and at bank scope; ACAS of an odd register. -/
theorem witness_port_faults : ∀ z ∈ [(2 : BitVec 3), 3],
    landingFree astray ∧ queueFree astray 1 ∧ addr astray 1 % 4 ≠ 0 ∧ addr astray 1 % 64 ≠ 0 ∧ addr astray 2 % 512 = 0
    ∧ (∀ w ∈ [Want.read, .write], astray.xlateCore astray.cur w (addr astray 2) = .fault 1)
    ∧ loadFree astray [one 0x1000 8] ∧ placed astray .read 8 (addr astray 6) (addr astray 6) 8 [one 0x1000 8]
    ∧ placed astray .write 8 (addr astray 6) (addr astray 6 + 0 * 8) 8 [one 0x1000 8]
    ∧ placed astray .write (atomBytes z) (addr astray 6) (addr astray 6) (atomBytes z) [one 0x1000 (atomBytes z)] ∧ addr astray 1 % atomBytes z ≠ 0
    ∧ block astray 2 = 2 ^ 36 ∧ (here astray).sbUsed < 32
    ∧ [.ldg 0 5 1 0 z, .ldgi 5 1 0 z, .ldg 0 5 2 0 z, .ldgi 5 2 0 z, .lda 5 1 z, .lda 5 2 z, .ldgv 5 1 0 z, .ldgv 5 2 0 z, .lda 5 6 5, .stg 0 5 1 0 z, .stg 0 5 2 0 z,
        .stl 5 1 0 z, .stl 5 2 0 z, .stl 5 6 0 5, .stgv 5 1 0 z, .stgv 5 2 0 z, .axch 5 1 0 4 z, .axch 5 2 0 4 z, .acas 2 1 0 4 z, .acas 2 2 0 4 z, .acas 3 6 0 4 z,
        .acas 0 6 0 4 z, .probe 7 2 2, .probei 7 2 2, .pinv 2, .ppin 2 1].all (fun i => faultsB astray i) = true
    ∧ ((atomicForms 5 1 0 4 z).all fun f => f.2 == .addf || faultsB astray f.1) = true ∧ ((atomicForms 5 6 0 5 z).all fun f => f.2 == .addf || faultsB astray f.1) = true
    ∧ ((quantForms 5 1 0 4 7).all fun f => faultsB astray f.1 (scaleReads 7)) = true := by
  unfold landingFree queueFree loadFree placed; decide +kernel
/-- A row whose second line no leaf maps. -/
def halfRow : State := handling (withA [(7, BitVec.ofNat 48 (2 ^ 36 - 64))])
theorem witness_row_faults : ∀ z ∈ [(0 : BitVec 3), 2],
    let last : PAddr := .stack (BitVec.ofNat 39 (2 ^ 36 - 64))
    addr halfRow 7 % 64 = 0 ∧ 64 * 1 < 512 / 2 ^ z.toNat ∧ queueFree halfRow 1
    ∧ (halfRow.xlateCore halfRow.cur .read (addr halfRow 7 + 64 * 0) = .ok last ∧ halfRow.loadHeld (halfRow.partOfCore halfRow.cur) last = false)
    ∧ halfRow.xlateCore halfRow.cur .write (addr halfRow 7 + 0 * (512 / 2 ^ z.toNat) + 64 * 0) = .ok last
    ∧ halfRow.xlateCore halfRow.cur .read (addr halfRow 7 + 64 * 1) = .fault 1
    ∧ halfRow.xlateCore halfRow.cur .write (addr halfRow 7 + 0 * (512 / 2 ^ z.toNat) + 64 * 1) = .fault 1
    ∧ faultsB halfRow (.ldgv 5 7 0 z) = true ∧ faultsB halfRow (.stgv 5 7 0 z) = true := by unfold queueFree; decide +kernel

/-- Tags: the first source of no kind that the form takes, the second of another, the addend of another. -/
def mistagged : State := handling (withV [(1, 0, 11), (2, 0, 2), (3, 0, 5), (4, 0, 4), (5, 0, 7)])
theorem witness_tag_faults :
    fpTag (vtag mistagged 1) = false ∧ Fmt.isInt (vtag mistagged 1) = false ∧ fpTag (vtag mistagged 2) = true ∧ vtag mistagged 3 ≠ vtag mistagged 2
    ∧ Fmt.isInt (vtag mistagged 4) = true ∧ vtag mistagged 5 ≠ vtag mistagged 4 ∧ 16 < width (vtag mistagged 2)
    ∧ (fpSingles 6 1 ++ fpPairs 6 1 2 1 0 ++ fpTriples 6 1 2 ++ fpPairs 6 2 3 1 0 ++ fpTriples 6 2 3 ++ fpTriples 3 2 2 ++ intPairs 6 1 4 1 0
        ++ intPairs 6 4 5 1 0 ++ [Instr.iabsV0 6 1, .iabsV1 6 1, .vscanV0 6 1 0 1 2, .vredV1 6 1 1 2, .unpklV0 6 2 3, .packV1 6 2 3]).all (fun i => faultsB mistagged i) = true := by decide +kernel

/-- A level not below an active one; a body of 3 bundles that leaves the active body of level 5. -/
theorem witness_nest_fault : ((here looping).ctx.getLevel 0).active = true ∧ (5 : BitVec 3).toNat < 6
    ∧ (let s := on fun c => { c with ctx := c.ctx.setLevel 5 { active := true, c := 2, t := 2, n := 0, body := 2, trips := 0, first := 0x100000
                                                               last := 0x100010 } }
       ((here s).ctx.getLevel 5).active = true
       ∧ ((here s).ctx.getLevel 5).last.toNat < (s.bundlesOn s.cur (3 - 1) ((here s).ctx.pc + BitVec.ofNat 64 (here s).iss.size)).1.toNat) := by
  decide +kernel

/-! ### Engine operations -/

/-- `Issues`' hypotheses, decided. -/
def issuesB (s : State) (i : Instr) (kind : Nat) (e : BitVec 6) (p : EngPart) : Bool :=
  readyB s i (engineMore s e p)
    && decide (descField (ereg s e) 0 3 0 = kind ∧ kindReserved kind (ereg s e) = false ∧ word0Faults (here s) (ereg s e) e = [] ∧ p.faults = [] ∧ p.waits = []
      ∧ (here s).sbUsed + p.ranges.length ≤ 32 ∧ ∀ b ∈ p.banks, b ∉ (here s).iss.banks)

theorem issues_of {s : State} {i : Instr} {kind : Nat} {e : BitVec 6} {p : EngPart} (h : issuesB s i kind e p = true) :
    (∀ es, s.Ready i p.boundary (engineMore s e p) es) ∧ engineFree s e kind p := by
  unfold issuesB at h
  simp only [Bool.and_eq_true, decide_eq_true_eq] at h
  exact ⟨fun _ => ready_of h.1, h.2⟩

/-- A descriptor: word, lowest bit and value of each field. -/
def fields (l : List (Nat × Nat × Nat)) : Desc := BitVec.ofNat 256 (l.foldl (fun x f => x + f.2.2 * 2 ^ (64 * f.1 + f.2.1)) 0)

/-- Copies: from global to the scratchpad, with a beacon at its end; to itself by CPYM; a fill; a bulk move; a gather and a scatter of one row. -/
def copies : State := on fun c => withS [(1, 0x1000), (2, 0x2000), (3, BitVec.ofNat 64 (spSize c.ctx.pw - 8))] (withE [
  (1, fields [(0, 0, 1), (0, 8, 3), (0, 14, 1), (1, 0, 1), (1, 9, 1), (1, 25, 2), (2, 0, 4), (2, 16, 128), (3, 0, 128), (3, 32, 128)]),
  (2, fields [(0, 0, 1), (1, 0, 1), (1, 9, 1), (1, 25, 2), (1, 34, 1), (2, 0, 4), (2, 16, 128)]),
  (3, fields [(0, 0, 1), (1, 25, 2), (2, 0, 1), (2, 16, 0xFFFF)]),
  (4, fields [(0, 0, 3), (1, 0, 1), (1, 9, 1), (1, 16, 1), (1, 25, 2)]),
  (5, fields [(0, 0, 2), (1, 0, 1), (1, 9, 1), (1, 25, 2), (2, 0, 1), (2, 16, 1)]),
  (6, fields [(0, 0, 2), (1, 0, 1), (1, 9, 1), (1, 25, 2), (2, 0, 1), (2, 16, 1), (2, 32, 0x4000)])] c)

theorem witness_copies :
    let c := here copies
    issuesB copies (.cpy 1 7 7 7 1) 1 1 (copyPart false 1 copies c (ereg copies 1)) = true
    ∧ issuesB copies (.cpym 1 7 7 7 2) 1 2 (copyPart true 2 copies c (ereg copies 2)) = true
    ∧ issuesB copies (.fill 1 7 7 7 3) 1 3 (fillPart 3 copies c (ereg copies 3)) = true
    ∧ issuesB copies (.bulk 1 7 7 7 4) 3 4 (bulkPart 4 copies c (ereg copies 4)) = true
    ∧ issuesB copies (.gath 1 7 7 7 5) 2 5 (gatherPart false 5 copies c (ereg copies 5)) = true
    ∧ issuesB copies (.scat 1 7 7 7 6) 2 6 (gatherPart true 6 copies c (ereg copies 6)) = true
    ∧ [Instr.cpy 1 7 7 7 1, .cpym 1 7 7 7 2, .fill 1 7 7 7 3, .bulk 1 7 7 7 4, .gath 1 7 7 7 5, .scat 1 7 7 7 6].all
      (fun i => decide ((here copies).portOps (slotPort i (here copies).iss.port) < 8)) = true := by
  decide +kernel

/-- Packets of tree 0, whose one member is core 0; bank launches of the channel at 0. -/
def launching : State :=
  { on (withE [(1, fields [(0, 0, 6)]), (2, fields [(0, 0, 7), (2, 0, 10922), (2, 16, 1)])]) with trees := mapSet 0 [] 0 (BitVec.ofNat 256 (1 * 2 ^ 16)) }

theorem witness_packets :
    let c := here launching
    issuesB launching (.rpkX 1 7 7 7 1) 6 1 (packetPart 1 launching c (ereg launching 1)) = true
    ∧ issuesB launching (.rpkF 1 7 7 7 1) 6 1 (packetPart 1 launching c (ereg launching 1)) = true
    ∧ (launching.bankLeaf launching.cur (descS c (ereg launching 2) 1 5 0).toNat).2 = .ok (.stack 0)
    ∧ issuesB launching (.bankld 1 7 7 7 2) 7 2 (bankldPart 2 launching c (ereg launching 2)) = true
    ∧ issuesB launching (.bankgo 1 7 7 7 2) 7 2 (bankgoPart 2 launching c (ereg launching 2)) = true := by decide +kernel

/-- The bag array: operands at s1 with rows 128 bytes apart, E4M3 by E4M3; an output at s3; tile 2 of BF16. -/
def bags : State := on fun c =>
  let c := withS [(1, 0), (2, 128), (3, 0x4000)] (withE [
    (1, fields [(0, 0, 4), (1, 4, 1), (1, 10, 2), (1, 20, 9), (1, 24, 9), (2, 16, 2)]),
    (2, fields [(0, 0, 5), (1, 4, 1), (1, 10, 2), (1, 24, 9)]),
    (3, fields [(0, 0, 5), (1, 0, 1), (1, 1, 2), (1, 24, 6)]),
    (4, fields [(0, 0, 4), (1, 1, 2), (1, 4, 1), (1, 10, 2), (1, 20, 6), (1, 24, 6), (2, 16, 2), (2, 36, 1), (2, 50, 6), (3, 6, 3), (3, 16, 61), (3, 22, 1)]),
    (5, fields [(0, 0, 4), (1, 4, 1), (1, 10, 2), (1, 20, 9), (1, 24, 9), (2, 16, 128), (2, 50, 2), (3, 6, 3), (3, 12, 6)])] (withV [(1, 0, 2)] c))
  { c with pool := { c.pool with afmt := Fmt.e4m3, ttag := mapSet Fmt.int16 (mapSet Fmt.int16 (mapSet Fmt.int16 c.pool.ttag 2 6) 0 4) 1 4 } }

theorem witness_bags_multiply :
    let c := here bags
    let p (e : BitVec 6) := operandPart bags c e (ereg bags e) (tileRows 9 (tileRow (ops1 c (ereg bags e)) (ops2 c (ereg bags e)) 0))
    (∀ e ∈ [(1 : BitVec 6), 2, 3], plainArrival bags e)
    ∧ issuesB bags (.mmul 1 7 7 7 1) 4 1 (mulPart false 1 bags c (ereg bags 1)) = true
    ∧ issuesB bags (.mmuls 1 7 7 7 1) 4 1 (mulPart true 1 bags c (ereg bags 1)) = true
    ∧ issuesB bags (.mbagAcc 1 7 7 7 1) 4 1 (bagPart 1 bags c (ereg bags 1)) = true
    ∧ issuesB bags (.mbagSteer 1 7 7 7 1) 4 1 (bagPart 1 bags c (ereg bags 1)) = true
    ∧ issuesB bags (.mldw 1 7 7 7 2) 5 2 { p 2 with s1 := ops1 c (ereg bags 2), s2 := ops2 c (ereg bags 2) } = true
    ∧ (matDesc (ereg bags 2)).opt = false ∧ weightFmt (matDesc (ereg bags 2)).wfmt = true
    ∧ (matDesc (ereg bags 3)).opt = true ∧ mapGet Fmt.int16 c.pool.ttag (matDesc (ereg bags 3)).treg = (matDesc (ereg bags 3)).wfmt
    ∧ issuesB bags (.mldw 1 7 7 7 3) 5 3 { s1 := ops1 c (ereg bags 3), s2 := ops2 c (ereg bags 3) } = true
    ∧ (ops1 c (ereg bags 2)).toNat % 2 ^ 32 % 1024 = 0 ∧ (ops1 c (ereg bags 2)).toNat % 2 ^ 32 + 1024 ≤ spSize c.ctx.pw
    ∧ issuesB bags (.mcode 1 7 7 7 2) 5 2 { s1 := ops1 c (ereg bags 2), reads := [rdD 0 1], ranges := [(0, 1023, false)] } = true
    ∧ readyB bags (.mswap 1 7 7 7) = true ∧ roomFor bags (.mswap 1 7 7 7) 16 := by
  unfold plainArrival Claims.roomFor; decide +kernel

theorem witness_bags_rows :
    let c := here bags
    let d := ereg bags 4
    let m := matDesc d
    plainArrival bags 4 ∧ m.arow + m.nrow ≤ windowRows c.ctx.pw ∧ adef m.afmt m.wfmt ≠ .reserved ∧ (adef m.afmt m.wfmt = .named → m.qsv = true)
    ∧ anchorOk (zeroAnchor m (c.ctx.getQs m.qs)) = true ∧ m.nrow ≤ 128 ∧ readFmt m.ofmt = true ∧ (is32 m.ofmt = true → m.otreg % 2 = 0) ∧ m.vd ≤ 61
    ∧ (outs c d).toNat % 2 = 0 ∧ (ops2 c d).toNat % 2 ^ 16 % 2 = 0 ∧ mapGet Fmt.int16 c.pool.ttag m.treg = m.ofmt ∧ is32 m.ofmt = false
    ∧ (c.ctx.getVTag m.vb = Fmt.fp32 ∨ c.ctx.getVTag m.vb = Fmt.int32)
    ∧ issuesB bags (.mzero 1 7 7 7 4) 4 4 { reads := [rdD 8 0] } = true ∧ issuesB bags (.manch 1 7 7 7 4) 4 4 {} = true
    ∧ issuesB bags (.maddv 1 7 7 7 4) 4 4 { reads := [rdD 1 m.vb], v := c.ctx.getV m.vb, vtag := c.ctx.getVTag m.vb } = true
    ∧ issuesB bags (.mrd 1 7 7 7 4) 4 4 { effects := [.ttag m.otreg m.ofmt] } = true
    ∧ issuesB bags (.mst 1 7 7 7 4) 4 4 { rowsPart c.ctx.pw (outRows (outs c d) (ops2 c d) m.nrow 256) true true with
        reads := [rdD 0 2, rdD 0 3], s2 := ops2 c d, s3 := outs c d } = true
    ∧ issuesB bags (.mstat 1 7 7 7 4) 4 4 { reads := [wrD 1 61, wrD 1 62, wrD 1 63] } = true
    ∧ issuesB bags (.mldt 1 7 7 7 4) 4 4 (moveIn false 4 bags c d) = true ∧ issuesB bags (.mtrl 1 7 7 7 4) 4 4 (moveIn true 4 bags c d) = true
    ∧ issuesB bags (.mstt 1 7 7 7 4) 4 4 { rowsPart c.ctx.pw (tileOut m (outs c d) (ops2 c d)) true true with
        reads := [rdD 0 2, rdD 0 3], s2 := ops2 c d, s3 := outs c d } = true := by
  unfold plainArrival; decide +kernel

/-- The same with 32-bit elements: a tile pair, an even register, all 128 rows. -/
theorem witness_bags_pair :
    let c := here bags
    let m := matDesc (ereg bags 5)
    is32 m.ofmt = true ∧ m.otreg % 2 = 0 ∧ m.nrow = 128 ∧ (outs c (ereg bags 5)).toNat % 4 = 0 ∧ (ops2 c (ereg bags 5)).toNat % 2 ^ 16 % 4 = 0
    ∧ m.treg % 2 = 0 ∧ mapGet Fmt.int16 c.pool.ttag m.treg = Fmt.uint16 ∧ mapGet Fmt.int16 c.pool.ttag (m.treg + 1) = Fmt.uint16
    ∧ issuesB bags (.mrd 1 7 7 7 5) 4 5 { effects := [.ttag m.otreg Fmt.uint16, .ttag (m.otreg + 1) Fmt.uint16] } = true := by
  decide +kernel

/-! ### Descriptors that fault -/

/-- What `EngineTraps` supposes. -/
def engineB (s : State) (j : Instr) (kind : Nat) (e : BitVec 6) (reads : List Use) : Bool :=
  faultsB s j ((if descField (ereg s e) 0 13 8 = 0 then [] else [rdD 0 (descField (ereg s e) 0 13 8)]) ++ reads)
    && decide (descField (ereg s e) 0 3 0 = kind ∧ word0Faults (here s) (ereg s e) e = [] ∧ (here s).sbUsed + 4 ≤ 32)

/-- Copies: no KIND; a fill with a field that must be 0, one below its space and one that leaves it in its last row; both sides global with a peer; a reserved
space; a multicast to global memory, and one to a quad position without a member; a bulk copy from the scratchpad. -/
def badCopies : State := handling fun c => withS [(2, BitVec.ofNat 64 (spSize c.ctx.pw - 64)), (3, 0)] (withE [
  (2, fields [(0, 0, 1), (1, 0, 1), (1, 16, 1)]), (3, fields [(0, 0, 1), (1, 25, 3), (2, 0, 2), (2, 16, 64), (3, 32, 2 ^ 32 - 64)]),
  (4, fields [(0, 0, 1), (1, 25, 2), (2, 0, 2), (2, 16, 64), (3, 32, 1)]),
  (5, fields [(0, 0, 1), (1, 0, 1), (1, 16, 1), (1, 34, 1)]), (6, fields [(0, 0, 1), (1, 0, 3), (1, 16, 1)]),
  (7, fields [(0, 0, 1), (1, 0, 1), (1, 16, 1)]), (8, fields [(0, 0, 1), (1, 0, 1), (1, 34, 8), (2, 0, 1), (2, 16, 1)]), (9, fields [(0, 0, 3), (1, 16, 1)])] c)
theorem witness_copy_faults :
    let d (e : BitVec 6) := ereg badCopies e
    let n := spEnd badCopies
    let at_ (e : BitVec 6) (i : Nat) : Int := (inSpace 0 (copyTo (here badCopies) (d e)) : Int) + i * (copyDesc (d e)).toPitch
    let uses (e : BitVec 6) := fromUses (d e) ++ toUses (d e)
    (∀ j ∈ engineKinds 1 7 7 7 1, descField (d 1) 0 3 0 ≠ j.2.1 ∧ roomFor badCopies j.1 j.2.2 ∧ faultsB badCopies j.1 = true) ∧ word0Faults (here badCopies) (d 1) 1 = []
    ∧ descField (d 2) 1 19 16 = 1 ∧ descField (d 2) 1 14 0 ≠ 0 ∧ engineB badCopies (.fill 1 7 7 7 2) 1 2 (toUses (d 2)) = true
    ∧ (copyDesc (d 3)).rows = 2 ∧ 0 ≤ at_ 3 0 ∧ at_ 3 0 + (copyDesc (d 3)).width ≤ n ∧ at_ 3 1 < 0 ∧ engineB badCopies (.fill 1 7 7 7 3) 1 3 (toUses (d 3)) = true
    ∧ (copyDesc (d 4)).rows = 2 ∧ 0 ≤ at_ 4 0 ∧ at_ 4 0 + (copyDesc (d 4)).width ≤ n ∧ n < at_ 4 1 + (copyDesc (d 4)).width
    ∧ engineB badCopies (.fill 1 7 7 7 4) 1 4 (toUses (d 4)) = true
    ∧ (descField (d 5) 1 3 0 = 1 ∧ descField (d 5) 1 19 16 = 1 ∧ descField (d 5) 1 37 34 ≠ 0) ∧ engineB badCopies (.cpy 1 7 7 7 5) 1 5 (uses 5) = true
    ∧ (3 ≤ descField (d 6) 1 3 0 ∧ descField (d 6) 1 19 16 = 1 ∧ descField (d 6) 1 37 34 = 0 ∧ kindReserved 1 (d 6) = false)
    ∧ engineB badCopies (.cpy 1 7 7 7 6) 1 6 (uses 6) = true
    ∧ (descField (d 7) 1 3 0 = 1 ∧ descField (d 7) 1 19 16 = 1 ∧ kindReserved 1 (d 7) = false) ∧ engineB badCopies (.cpym 1 7 7 7 7) 1 7 (uses 7) = true
    ∧ (descField (d 8) 1 3 0 = 1 ∧ descField (d 8) 1 19 16 = 0 ∧ kindReserved 1 (d 8) = false
      ∧ blockFault (here badCopies).ctx.pw (inSpace 0 (copyTo (here badCopies) (d 8))) (copyDesc (d 8)).toPitch (copyDesc (d 8)).rows (copyDesc (d 8)).width = []
      ∧ (∃ p < 4, (descField (d 8) 1 37 34).testBit p = true ∧ p ≠ badCopies.cur.toNat % 4 ∧ badCopies.peerMember badCopies.cur p = false))
    ∧ engineB badCopies (.cpym 1 7 7 7 8) 1 8 (uses 8) = true
    ∧ (¬ (descField (d 9) 1 3 0 = 1 ∧ descField (d 9) 1 19 16 = 1) ∧ kindReserved 3 (d 9) = false) ∧ engineB badCopies (.bulk 1 7 7 7 9) 3 9 (uses 9) = true := by
  unfold Claims.roomFor; decide +kernel

/-- Gathers of a reserved space and past the landing rows; packets off a line, outside, and of a tree without the core; launches through a page that is no
channel, of too many columns, and of an image off a line. -/
def badLaunches : State :=
  let s := handling fun c => withS [(1, 64), (2, BitVec.ofNat 64 (spSize c.ctx.pw)), (3, 2 ^ 36 * 4), (4, 32)] (withE [
    (1, fields [(0, 0, 2), (1, 0, 2), (1, 16, 1), (2, 0, 1)]), (2, fields [(0, 0, 2), (1, 16, 1), (2, 0, 1), (2, 32, landRows c.ctx.pw)]),
    (3, fields [(0, 0, 6), (1, 0, 1)]), (4, fields [(0, 0, 6), (1, 0, 2)]), (5, fields [(0, 0, 6)]), (6, fields [(0, 0, 7), (1, 0, 3), (2, 16, 1)]),
    (7, fields [(0, 0, 7), (2, 0, 10923), (2, 16, 1)]), (8, fields [(0, 0, 7), (1, 6, 4)])] c)
  { s with tlb := mapUpd [] s.tlb (coreKey 0) (· ++ [{ asid := 0, base := 4 * 2 ^ 11, size := 25, leaf := 0x1F }]) }
theorem witness_launch_faults :
    let s := badLaunches
    let c := here s
    let d (e : BitVec 6) := ereg s e
    let uses (e : BitVec 6) := fromUses (d e) ++ toUses (d e)
    let off (e : BitVec 6) := (descS c (d e) 1 5 0).toNat
    let leaf (e : BitVec 6) := s.bankLeaf s.cur (off e)
    (2 ≤ (gatherDesc (d 1)).tblSp ∧ (gatherDesc (d 1)).lstSp = 1 ∧ kindReserved 2 (d 1) = false ∧ descField (d 1) 2 63 48 = 0)
    ∧ engineB s (.gath 1 7 7 7 1) 2 1 (uses 1) = true
    ∧ ((gatherDesc (d 2)).tblSp < 2 ∧ (gatherDesc (d 2)).policy ≠ 3 ∧ landRows c.ctx.pw < (gatherDesc (d 2)).row0 + (gatherDesc (d 2)).nent)
    ∧ engineB s (.gath 1 7 7 7 2) 2 2 (uses 2) = true
    ∧ off 3 % 128 ≠ 0 ∧ off 4 % 128 = 0 ∧ spEnd s < off 4 + 128 ∧ off 5 % 128 = 0 ∧ off 5 + 128 ≤ spEnd s
    ∧ (treeMemb (s.tree (s.cur.toNat / 16) (packetTree (d 5)))).testBit (s.cur.toNat % 16) = false
    ∧ (∀ e ∈ [(3 : BitVec 6), 4, 5], ∀ j ∈ [Instr.rpkX 1 7 7 7 e, .rpkF 1 7 7 7 e],
        engineB s j 6 e [rdD 0 (descField (d e) 1 5 0), rdD 0 (descField (d e) 1 15 10)] = true)
    ∧ leaf 6 = (none, .ok (.stack 0)) ∧ descField (d 6) 2 15 0 + count16 (descField (d 6) 2 31 16) ≤ 10923 ∧ kindReserved 7 (d 6) = false
    ∧ engineB s (.bankgo 1 7 7 7 6) 7 6 [rdD 0 (descField (d 6) 1 5 0)] = true
    ∧ (leaf 7).2 = .ok (.stack 0) ∧ 10923 < descField (d 7) 2 15 0 + count16 (descField (d 7) 2 31 16) ∧ kindReserved 7 (d 7) = false
    ∧ engineB s (.bankgo 1 7 7 7 7) 7 7 [rdD 0 (descField (d 7) 1 5 0)] = true
    ∧ (leaf 8).2 = .ok (.stack 0) ∧ (descS c (d 8) 1 11 6).toNat % 64 ≠ 0
    ∧ engineB s (.bankld 1 7 7 7 8) 7 8 [rdD 0 (descField (d 8) 1 5 0), rdD 0 (descField (d 8) 1 11 6)] = true := by decide +kernel

/-- The M and W ports: rows outside, an arrival, formats that name no anchor, one that asks for it, an anchor out of range, a register of another tag, an odd tile
pair, a table off its size. -/
def badBags : State := handling fun c =>
  let c := withS [(1, 512)] (withE [
    (1, fields [(0, 0, 4), (2, 0, windowRows c.ctx.pw), (2, 16, 1)]), (2, fields [(0, 0, 4), (0, 36, 1), (2, 16, 1)]), (3, fields [(0, 0, 4), (1, 20, 5), (1, 24, 6), (2, 16, 1)]),
    (4, fields [(0, 0, 4), (1, 20, 6), (1, 24, 6), (2, 16, 1)]), (5, fields [(0, 0, 4), (1, 20, 9), (1, 24, 9), (2, 16, 1), (2, 36, 1)]),
    (6, fields [(0, 0, 4), (2, 16, 1), (3, 22, 1)]), (7, fields [(0, 0, 4), (2, 16, 1), (2, 50, 2), (3, 12, 1)]), (8, fields [(0, 0, 5), (1, 4, 1)])] (withV [(1, 0, 5)] c))
  { c with ctx := { c.ctx with qs := mapSet 0 c.ctx.qs 0 0x800 } }
theorem witness_bag_faults :
    let s := badBags
    let c := here s
    let d (e : BitVec 6) := ereg s e
    let m (e : BitVec 6) := matDesc (d e)
    let inWindow (e : BitVec 6) := (m e).arow + (m e).nrow ≤ windowRows c.ctx.pw
    (∀ e ∈ [(1 : BitVec 6), 2, 3, 4, 5], kindReserved 4 (d e) = false)
    ∧ ¬ inWindow 1 ∧ engineB s (.manch 1 7 7 7 1) 4 1 [] = true ∧ inWindow 2 ∧ descField (d 2) 0 36 35 ≠ 0 ∧ engineB s (.manch 1 7 7 7 2) 4 2 [] = true
    ∧ inWindow 3 ∧ adef (m 3).afmt (m 3).wfmt = .reserved ∧ (m 3).qsv = false ∧ engineB s (.mzero 1 7 7 7 3) 4 3 [] = true
    ∧ inWindow 4 ∧ adef (m 4).afmt (m 4).wfmt = .named ∧ (m 4).qsv = false ∧ engineB s (.mzero 1 7 7 7 4) 4 4 [] = true
    ∧ inWindow 5 ∧ adef (m 5).afmt (m 5).wfmt ≠ .reserved ∧ (m 5).qsv = true ∧ anchorOk (zeroAnchor (m 5) (c.ctx.getQs (m 5).qs)) = false
    ∧ engineB s (.mzero 1 7 7 7 5) 4 5 [rdD 8 (m 5).qs] = true
    ∧ (m 6).vb = 1 ∧ c.ctx.getVTag 1 ≠ 2 ∧ c.ctx.getVTag 1 ≠ 0 ∧ engineB s (.maddv 1 7 7 7 6) 4 6 [rdD 1 1] = true
    ∧ is32 (m 7).ofmt = true ∧ (m 7).otreg % 2 = 1 ∧ engineB s (.mrd 1 7 7 7 7) 4 7 [] = true
    ∧ (ops1 c (d 8)).toNat % 2 ^ 32 % 1024 ≠ 0 ∧ engineB s (.mcode 1 7 7 7 8) 5 8 [rdD 0 (descField (d 8) 1 9 4)] = true := by decide +kernel

/-! ### Banks -/

/-- A program of two rows with stores allowed, in bank 0 of channel 0 of stack 0, the other banks ended. -/
def launched : BankLaunch :=
  { core := 0, op := 1, go := true, part := 0, rasid := 0, rcb := 0, uops := [], scal := [], row0 := 5, nrow := 2, entry := 0, wr := true, chs := 0
    node := 0, tidx := 0, memb := 0, away := none }
def program : Program := { launch := launched, num := 0, stopping := false }
def bankIn (b : Bank) : State :=
  State.reset.updChan 0 0 fun p => { p with prog := some program, banks := mapSet Init.bank p.banks 0 b }
def atWork : Bank := { Init.bank with ended := false }

/-- The last column of row 5 is poison. -/
def atPoison (s : State) : State := { s with poison := mapSet false s.poison (colOffset 0 0 5 31 / 32) true }

/-- A row open with its last slot free, and with no slot left; no row open; the launch's rows run. -/
theorem witness_bank_work :
    (let s := bankIn { atWork with row := some 5, slots := 31 }
     bankOn s program ∧ (∃ c, bankRuns s false program c) ∧ (∃ c, bankRuns s true program c ∧ c.row = some 5 ∧ (bankHere s).row = some 5
       ∧ s.wrcWaits 0 0 0 c = false)
     ∧ (∃ t x, (s.chargeEngine 0 0 0).colLatest 0 0 0 5 ((atWork.colp + 31).toNat) = (t, x, false))
     ∧ ∃ t x, ((atPoison s).chargeEngine 0 0 0).colLatest 0 0 0 5 ((atWork.colp + 31).toNat) = (t, x, true)) := by
  refine ⟨⟨rfl, rfl⟩, ?_, ?_, ?_, ?_⟩
  · exact ⟨_, ⟨⟨rfl, rfl⟩, rfl⟩⟩
  · exact ⟨_, ⟨⟨rfl, rfl⟩, rfl⟩, rfl, rfl, by decide +kernel⟩
  · exact ⟨_, _, Prod.ext rfl (Prod.ext rfl (by decide +kernel))⟩
  · exact ⟨_, _, Prod.ext rfl (Prod.ext rfl (by decide +kernel))⟩
theorem witness_bank_stops :
    (let s := bankIn { atWork with row := some 5, slots := 32, group := 3 }
     bankOn s program ∧ (bankHere s).row ≠ none ∧ 32 ≤ (bankHere s).slots ∧ (bankHere s).group = 3 ∧ (bankHere s).slotEnd ≤ s.ns)
    ∧ (let s := bankIn { atWork with rowi := 2 }
       bankOn s program ∧ (bankHere s).row = none ∧ program.launch.nrow ≤ (bankHere s).rowi) := by
  unfold bankOn; decide +kernel
theorem witness_bank_opens :
    (let s := bankIn { atWork with rowi := 1 }
     bankOn s program ∧ (bankHere s).rowi < program.launch.nrow ∧ (bankHere s).row = none ∧ mapGet 0 (s.chan 0 0).rows 0 = 0
     ∧ s.boundary 0 0 0 program = .ready ∧ (s.chan 0 0).openRows s.ns + s.readyBelow 0 0 0 program < 24 ∧ (s.chan 0 0).actsWait = false)
    ∧ (let s : State := { bankIn { atWork with row := some 5, rowi := 1, group := 3 } with ns := 100000 }
       bankOn s program ∧ (bankHere s).rowi < program.launch.nrow ∧ (bankHere s).row ≠ none ∧ s.mayClose 0 0 0 = true)
    ∧ (let s : State := { bankIn { atWork with row := some 5, group := 4 } with ns := 100000 }
       bankOn s program ∧ s.mayClose 0 0 0 = true ∧ ((bankHere s).row ≠ none → (bankHere s).group ≠ 3)) := by
  unfold bankOn; decide +kernel

/-! ### The control window and bring-up -/

/-- An event's input. -/
def given (s : State) (f : Input → Input) : State := { s with inp := f s.inp }
/-- Bring-up is complete, and device 7 has just written as the package's owner; a second later. -/
def owned : State := { State.reset with ctl := { Init.ctl with bootst := 0x501, own := 0x10007, ownerAt := 2000000000 }, ns := 2000000000 }
def silent : State := { owned with ns := 3000000000 }

/-- The owner's writes: a hand-off, a legal START and one that is not, a share, the last stream. -/
theorem witness_window_writes :
    (let s := given owned fun i => { i with fid := 7, v := 0x101, off := 0x00B8, p := 63, flag := false }
     heard s ∧ s.ctl.bootst.getLsbD 0 = true ∧ s.owner = some s.inp.fid ∧ heldOwn s ∧ s.ctl.pcfgst.getLsbD 0 = false ∧ s.inp.flag = false ∧ s.inp.off.toNat % 8 = 0
     ∧ 0x0080 ≤ s.inp.off.toNat ∧ s.inp.off.toNat ≤ 0x00B8 ∧ s.inp.p < 64 ∧ startLegal (s.inp.v.toNat % 256) = true)
    ∧ startLegal ((given owned fun i => { i with v := 0xFE }).inp.v.toNat % 256) = false
    ∧ ({ owned with ctl := { owned.ctl with pcfgst := 1 } } : State).ctl.pcfgst.getLsbD 0 = true := by unfold heard heldOwn; decide +kernel
/-- A compare-and-swap that takes and one that does not; a record cleared by its SEQ; an owner silent for a second. -/
theorem witness_ownership :
    (let s : State := { State.reset with ctl := { Init.ctl with bootst := 1 } }
     heard s ∧ s.ctl.bootst.getLsbD 0 = true ∧ s.inp.off = 0 ∧ s.owner = none ∧ s.ctl.own = s.inp.v ∧ s.ctl.own.getLsbD 16 = false)
    ∧ owned.ctl.own ≠ owned.inp.v ∧ owned.ctl.own.getLsbD 16 = true ∧ heldOwn owned
    ∧ (let s := given owned fun i => { i with fid := 7, b := 32, id := recordCount 32 - 1 }
       s.owner = some s.inp.fid ∧ heldOwn s ∧ s.inp.b.toNat ≤ 32 ∧ s.inp.id < recordCount s.inp.b.toNat ∧ s.inp.v = (s.record s.inp.b.toNat s.inp.id).extractLsb' 192 64)
    ∧ (let s := given silent fun i => { i with fid := 7 }
       s.owner = some 7 ∧ s.ctl.ownerAt + 1000000000 ≤ s.ns ∧ heard s ∧ s.ctl.bootst.getLsbD 0 = true ∧ s.inp.fid = 7) := by
  unfold heard heldOwn; decide +kernel
/-- The four steps of a partition change; power-on with good images and bad ones; bring-up's steps. -/
def atStep (n : Nat) : State := { owned with ctl := { owned.ctl with pstep := n, pnew := 2 } }
theorem witness_steps : (∀ n ∈ [1, 2, 3, 4], (atStep n).ctl.pstep = n) ∧ (given State.reset fun i => { i with flag := true }).inp.flag = true
    ∧ State.reset.inp.flag = false ∧ (∀ n ∈ [2, 3, 4], ∃ s : State, s.stage = n ∧ s.ctl.bootst.getLsbD 0 = false) := by
  refine ⟨by decide +kernel, rfl, rfl, ?_⟩
  have h : ∀ n ∈ [2, 3, 4], ({ State.reset with ctl := { Init.ctl with bootst := BitVec.ofNat 64 (n * 256) } } : State).stage = n
      ∧ ({ State.reset with ctl := { Init.ctl with bootst := BitVec.ofNat 64 (n * 256) } } : State).ctl.bootst.getLsbD 0 = false := by decide +kernel
  exact fun n hn => ⟨_, h n hn⟩

/-! ### Power, pages and the fabric -/

theorem witness_power : owned.ctl.epochAt = 0 ∧ owned.ctl.sensedAt = 0 ∧ owned.start = 1 ∧ owned.inp.watts = [] ∧ owned.inp.b.toNat < 32 ∧ owned.fw.cpDown = false ∧ owned.fw.schDown = false
    ∧ ({ owned with pools := mapSet [] [] 0 [.wave 0] } : State).anyReady = true ∧ owned.inp.flag2 = false ∧ 3 ≤ owned.stage
    ∧ (given owned fun i => { i with flag2 := true }).inp.flag2 = true := by decide +kernel
theorem witness_pages :
    (let s : State := { (State.reset.updStack 0 fun t => { t with badPages := [reserveFirst - 1] }) with inp := { ({} : Input) with page := BitVec.ofNat _ (reserveFirst - 1) } }
     (s.stack 0).freeReserve = some reserveFirst ∧ (s.stack 0).move = none ∧ (s.stack 0).retire.length < 64 ∧ s.inp.page.toNat < reserveFirst
     ∧ ((s.stack 0).retire.any fun x => decide (x.1 = s.inp.page.toNat)) = false ∧ (s.stack 0).failing s.inp.page.toNat = true
     ∧ (s.stack 0).programHolds s.inp.page.toNat = false)
    ∧ (let m : Move := { old := 5, new := reserveFirst, line := 0, dirty := [], todo := [0], passes := 0 }
       ((State.reset.updStack 0 fun t => { t with move := some m }).stack 0).move = some m ∧ m.todo = 0 :: []
       ∧ ((State.reset.updStack 0 fun t => { t with move := some { m with todo := [], dirty := [255] } }).stack 0).move = some { m with todo := [], dirty := [255] }) := by
  decide +kernel

/-- A request to device 9 that has waited 2 ms, and a port that trains. -/
def waiting : FabReq := { tag := 0, core := 0, req := 1, fid := 9, raddr := 0, n := 8, write := false, data := 0, sentAt := 0, port := 0 }
theorem witness_fabric :
    (let s := State.reset
     (s.port 0).down = false ∧ (s.port 0).training = false ∧ s.inp.flag = false ∧ s.owner = none)
    ∧ (let s := given (State.reset.updPort 0 fun p => { p with training := true }) id
       (s.port 0).training = true ∧ s.inp.flag = false)
    ∧ (let s : State := { State.reset with fab := [waiting], ns := 2000001 }
       s.fabReq s.inp.id = some waiting ∧ waiting.sentAt + 2000000 < s.ns)
    ∧ (let s := { given base fun i => { i with flag := true, b := 31 } with got := mapSet [] [] 31 tableCols }
       s.inp.p ≠ 1 ∧ s.inp.b.toNat < 32 ∧ s.inp.flag2 = false ∧ s.inp.flag = true ∧ s.walk s.inp.b.toNat (s.partOf (octantOf s.inp.b.toNat)) s.inp.asid s.inp.va.toNat = .leaf 0x1F 1) := by
  decide +kernel

/-! ### The graph and dispatch -/

def request : Request := { node := 0x200000, launch := false, stream := 0, recd := 64, part := 0, asid := 0 }
def region : Region :=
  { part := 0, rasid := 0, va := 0x210000, place := .stack 0x210000, asid := 0, parent := 0, pasid := 0, depth := 0, bmask := 1, cquota := 255, beq := 8, mempg := 0, pwrw := 0
    prio := 0, prot := false, kill := 0, pcls := 0, save := false, agecap := 1, slice := 1, vx := 1, vy := 1, vz := 1, savebase := 0x10000000, bound := 0
    bankact := 0, live := 1, children := 0, epochw := 0 }
def wave : Wave :=
  { req := request, rcb := 0x210000, rasid := 0, prio := 0, vx := 1, vy := 1, vz := 1, entry := 0x100000, partw := Place.partw, gran := 0, karg := 0
    dataVa := 0, dataLen := 0, treeVa := 0, trees := 0, asid := 0, next := 0, done := 0, ended := false }
def submission : Submission := { recd := 64, part := 0, root := 0x200000, asid := 0, done := 0, doneinc := 0, stopped := false, failed := false }
/-- A wave of one task waits in the pool of its region, under a submission of stream 0; the spine has been served the tables and what it reads through them,
and the engines of bulkhead 0 keep the page's translation. -/
def world (f : Core → Core) : State :=
  { on f with tlb := mapSet [] (on f).tlb 0 Place.cached, got := mapSet [] [] spineCb (tableCols ++ readCols [64, 96, 0x1000]), cp := { Init.cp with regions := [region], waves := [wave], subs := [(0, submission)] }, pools := [(0, [.wave 0x200000])]
              ctl := { Init.ctl with bootst := 1 } }

/-- A node's words: type, successors none, words 4 to 7. -/
def node (ty w4 w5 w6 w7 : Nat) : Active :=
  { req := request, rcb := 0x210000, rasid := 0, w := BitVec.ofNat 512 (ty + w4 * 2 ^ 256 + w5 * 2 ^ 320 + w6 * 2 ^ 384 + w7 * 2 ^ 448) }
def acting (a : Active) : State :=
  let s := world id
  { given s fun i => { i with node := 0x200000 } with cp := { s.cp with active := [a] } }
theorem witness_nodes :
    (let a := node 5 0x1000 0 0 0
     (acting a).eventNode = some (a, submission, 5) ∧ ((acting a).cpBlock 0 0 0x1000 8).2 = some 0 ∧ nodeWord a.w 5 ≤ 0)
    ∧ (let a := node 2 0x1000 0x2000 64 0
       (acting a).eventNode = some (a, submission, 2) ∧ (acting a).bulkEngine 0 0 0x210000 0 = true
       ∧ ((acting a).bulkNode 0 0 0 4 0x1000 0x2000 64).2 = true ∧ nodeWord a.w 7 = 0)
    ∧ (let a := node 2 0x1000 0x2000 64 0x3000
       (acting a).eventNode = some (a, submission, 2) ∧ nodeWord a.w 7 ≠ 0
       ∧ (((acting a).bulkNode 0 0 0 4 0x1000 0x2000 64).1.bulkAdd 0 0 0 (nodeWord a.w 7)).2 = true)
    ∧ (let a := node 6 0x1000 1 0 0
       (acting a).eventNode = some (a, submission, 6)) := by decide +kernel

/-- An access of a requester on a channel whose columns have been served. -/
def served (who : Requester) (vc : Nat) (s : State) : Ask := { who := who, vc := vc, todo := [], out := 0, readyAt := 0, spots := [], win := s.ctl.win }

/-- A state in which it stands. -/
def servedColumns (who : Requester) (vc : Nat) (s : State) : State := { s with asks := [served who vc s] }

/-- A BULK node's copy goes on once its columns have been served, and at once when it moves nothing; its accesses are held by nothing. -/
theorem witness_node_goes_on :
    (let a := node 2 0x1000 0x2000 64 0x3000
     let s := servedColumns (.node request 0) 3 (acting a)
     nodeGoesOn s a 0 (s.bulkPlaces 0 0 0 .read 0x1000 64) (s.bulkPlaces 0 0 0 .write 0x2000 64 ++ s.bulkPlaces 0 0 0 .write 0x3000 8) id
       ((s.dropAsk (.node request 0)).underAsk (served (.node request 0) 3 s) id))
    ∧ (let a := node 2 0x1000 0x2000 0 0
       let s := acting a
       nodeGoesOn s a 0 (s.bulkPlaces 0 0 0 .read 0x1000 0) (s.bulkPlaces 0 0 0 .write 0x2000 0) id s) := by
  unfold nodeGoesOn columnsServed
  refine ⟨⟨by decide +kernel, by decide +kernel, by decide +kernel, by decide +kernel, .inl ⟨_, rfl, by decide +kernel, by decide +kernel, .inl rfl, rfl⟩⟩,
    ⟨by decide +kernel, by decide +kernel, by decide +kernel, by decide +kernel, .inr ⟨by decide +kernel, by decide +kernel, by decide +kernel, by decide +kernel, rfl⟩⟩⟩

/-- An access that reads a fabric page: what it finds when it acts: 1, or 0 in an abort. -/
def farAccess (s : State) : State :=
  s.withAccess 0 5 0 0 [(some (.fabric 8 0x40), 64)] [] fun t => { t with nfree := if t.inp.aborts.isEmpty then 1 else 0 }

/-- 11 R256, 20 R392, R393: the request leaves on a port with a sequence number; a response within 2 ms is taken, and after them it is aborted. -/
theorem test_far_access :
    let s := farAccess (world id)
    (s.asks.map fun a => a.far.map fun f => (f.lb, f.port)) = [[(24, some 0)]] ∧ (s.port 0).txSeq = 1
      ∧ (farAccess { s with ns := 2000000 }).nfree = 1 ∧ (farAccess { s with ns := 2000001 }).nfree = 0 := by decide +kernel

/-- 20 R392, R396: when its port goes down a read is sent again on the next working port, and its 2 ms run on; with no port left it is aborted. -/
theorem test_far_moves :
    let s := farAccess (world id)
    let t := { s with ns := 1000 }.portDown 0
    (t.asks.map fun a => (a.far.map fun f => f.port, a.sentAt)) = [([some 1], 0)] ∧ (t.port 1).txSeq = 1
      ∧ (farAccess (((t.portDown 1).portDown 2).portDown 3)).nfree = 0 := by decide +kernel
theorem witness_graph :
    (world id).fw.cpDown = false
    ∧ (let d : Due := { req := request, rcb := 0x210000, rasid := 0 }
       let s : State := { world id with cp := { Init.cp with due := [d] } }
       s.cp.due = d :: [])
    ∧ (let s : State := { world id with cp := { Init.cp with reqs := [request] } }
       s.cp.due = [] ∧ s.cp.reqs = request :: [])
    ∧ (let s : State := { given (world id) fun i => { i with p := 63 } with cp := { Init.cp with queue := [(63, 64)] } }
       (∀ x ∈ s.cp.subs, x.1 ≠ BitVec.ofNat 6 s.inp.p) ∧ (s.cp.queue.find? fun x => decide (x.1 = BitVec.ofNat 6 s.inp.p)) = some (63, 64) ∧ s.stackDown (64 / 2 ^ 36) = false
       ∧ submissionReserved (s.physRead 64 64) = false
       ∧ submissionReserved (readBytes (writeBytes s.mem 64 64 (2 ^ 512 - 1)) 64 64) = true)
    ∧ (let s : State := { world id with cp := { Init.cp with subs := [(0, submission)] } }
       (s.cp.subs.find? fun x => decide (x.1 = BitVec.ofNat 6 s.inp.p)) = some (BitVec.ofNat 6 s.inp.p, submission)
       ∧ s.submissionIdle (BitVec.ofNat 6 s.inp.p) submission.recd = true ∧ submission.done = 0)
    ∧ (let s := world fun c => { c with launches := [(0x300000, 0)] }
       ((s.core s.inp.c).launches.find? fun l => decide (l.2 = s.inp.id)) = some (0x300000, 0) ∧ (s.core s.inp.c).task = some Place.binding
       ∧ (s.core s.inp.c).launchReady 0 = true ∧ s.wave Place.binding.part Place.binding.node = some wave) := by decide +kernel

/-- Core 0 idle, with a bind record for the wave's task; and an empty slot. -/
def binding : State := { world (fun _ => Init.core) with slots := mapSet 0 [] 0 (BitVec.ofNat 256 (1 + 1 * 2 + 1 * 2 ^ 32 + 0x200000 * 2 ^ 64)) }
theorem witness_bind :
    binding.inp.flag = false ∧ (∀ o ∈ binding.owns, o.cores.contains 0 = false) ∧ slotPresents (binding.slotLo 0) 1 = true ∧ slotReserved (binding.slotLo 0) = false
    ∧ (∃ pl, binding.plan 0 (slotNode (binding.slotLo 0)) (slotTidx (binding.slotLo 0)) = some pl ∧ binding.judge pl (slotSeq (binding.slotLo 0)) = .apply) := by
  refine ⟨rfl, (fun _ h => nomatch h), by decide +kernel, by decide +kernel, ?_⟩
  have h : ((binding.plan 0 (slotNode (binding.slotLo 0)) (slotTidx (binding.slotLo 0))).any fun pl =>
      decide (binding.judge pl (slotSeq (binding.slotLo 0)) = .apply)) = true := by decide +kernel
  match h' : binding.plan 0 (slotNode (binding.slotLo 0)) (slotTidx (binding.slotLo 0)), h with
  | some pl, h => exact ⟨pl, rfl, of_decide_eq_true h⟩
/-- A first bind without a data image reads no column; a save's columns have been served. -/
theorem witness_contexts :
    (∃ pl, binding.plan 0 (slotNode (binding.slotLo 0)) (slotTidx (binding.slotLo 0)) = some pl ∧ ∀ f, contextsRead binding pl f (f binding))
    ∧ (let a := served (.save 0) 0 (world id)
       let s := servedColumns (.save 0) 0 (world id)
       contextsSaved s Place.binding false (((s.farHeard a).dropAsk (.save 0)).underAsk a fun u => u.saveAll Place.binding false)) := by
  constructor
  · have h : ((binding.plan 0 (slotNode (binding.slotLo 0)) (slotTidx (binding.slotLo 0))).any fun pl => (binding.contextSpots pl).isEmpty
        && (binding.ask (.restore ((pl.leads.map (·.1)).headD 0))).isNone) = true := by decide +kernel
    match h' : binding.plan 0 (slotNode (binding.slotLo 0)) (slotTidx (binding.slotLo 0)), h with
    | some pl, h =>
      refine ⟨pl, rfl, fun f => ?_⟩
      simp only [Option.any_some, Bool.and_eq_true, List.isEmpty_iff, Option.isNone_iff_eq_none] at h
      unfold contextsRead
      rw [h.1]
      exact ⟨(fun _ h => nomatch h), .inr ⟨h.2, rfl, rfl, rfl, rfl⟩⟩
  · exact ⟨by decide +kernel, .inl ⟨_, rfl, by decide +kernel, by decide +kernel, .inl rfl, rfl⟩⟩
theorem witness_slots :
    slotValid ((world id).slotLo 0) = false
    ∧ (let s : State := { given (world id) fun i => { i with flag := true } with fw := { Init.firmware with schDown := true } }
       s.inp.flag = true ∧ s.fw.schDown = true) := by decide +kernel
/-- A displacement of core 0's task; an age of its cap; a slice that is over; a pre-emption. -/
theorem witness_displace :
    let s : State := { world id with slots := mapSet 0 [] 0 (BitVec.ofNat 256 (1 + 2 * 2)) }
    slotPresents (s.slotLo 0) 2 = true ∧ slotReserved (s.slotLo 0) = false ∧ s.taskAt 0 = some (0, Place.binding) ∧ Place.binding.preempt = false := by decide +kernel
def aged : State := { world (fun _ => Init.core) with age := [{ part := 0, node := 0x200000, tidx := 0, since := 0 }], ns := 1000 }
theorem witness_age : aged.head 0 = some (wave, region, 0) := by decide +kernel
theorem witness_age_due : (aged.age.find? fun a => decide (a.part = 0) && decide (a.node = wave.req.node) && decide (a.tidx = 0))
      = some { part := 0, node := 0x200000, tidx := 0, since := 0 } ∧ 0 + region.agecap * 1000 ≤ aged.ns := by decide +kernel
theorem witness_slice :
    let b : Binding := { Place.binding with pcls := 2, slice := 1 }
    let s : State := { on (fun c => { c with task := some b }) with ns := 1000 }
    s.taskAt 0 = some (0, b) ∧ b.pcls = 2 ∧ b.boundAt + b.slice * 1000 ≤ s.ns := by decide +kernel
theorem witness_preemption :
    ((on fun c => { c with task := some { Place.binding with preempt := true, save := true } }).core 0).mayPreempt = true := by decide +kernel
/-- Members at rest: draining, parked; a parked task whose beacon holds; members that have halted, and one killed. -/
theorem witness_retire :
    (let s := on fun c => { c with run := .draining }
     s.atRest 0 = some (Place.binding, [.draining]))
    ∧ (let s := on fun c => { c with run := .parked none }
       s.atRest 0 = some (Place.binding, [.parked none]) ∧ (∀ d ∈ Place.binding.cores, (s.core d).land = []) ∧ ([Run.parked none].any Run.isParked) = true)
    ∧ (let t : TaskRec := { part := 0, node := 0x200000, tidx := 0, ready := false, conds := [(0, .beacon 0x1000 0)], halted := [], lands := [], progs := []
                            parked := [], rounds := [], links := [], dying := none }
       let s : State := { given (world id) fun i => { i with node := 0x200000 } with tasks := [t] }
       s.taskRec 0 s.inp.node s.inp.tidx.toNat = some t ∧ s.wave 0 s.inp.node = some wave ∧ t.ready = false
       ∧ s.condRead 0 wave.asid (.beacon 0x1000 0) = some (.val 0) ∧ (t.conds.all fun x => s.condMet 0 wave.asid (forMember t.progs x.1 []) x.2) = true)
    ∧ (let s := on fun c => { c with run := .halted }
       (s.core 0).task = some Place.binding ∧ ((Place.binding.cores.map s.core).all Core.retired) = true)
    ∧ (let s := on fun c => { c with run := .killed 0x0601 }
       ((Place.binding.cores.map s.core).all Core.retired) = false ∧ (s.core 0).run.killCode = some 0x0601
       ∧ ((Place.binding.cores.map s.core).all Core.killEnded) = true ∧ s.killedBefore Place.binding = false) := by decide +kernel

/-! ### A core's events -/

/-- An engine operation with number `n`. -/
def anOp (n : Nat) (name : OpName) (port : BitVec 3) (d : Desc) : EngineOp :=
  { id := n, name := name, port := port, snap := { d := d }, tok := 0, cap := none, list := none, walked := [], rows := [], winners := [], touched := [], psn := [], fault := none
    held := false, sent := false, m := 0, flags := 0, late := [], done := false, age := 0
    occ := 0, wait := 0 }
/-- A request of the memory port. -/
def aReq (kind : ReqKind) (sent : Bool) : MemReq :=
  { id := 0, po := 0, kind := kind, cls := 0, piece := { target := .stack 0x1000, off := 0, n := 8 }, data := 0, scope := 4, merges := false, entry := 0, acq := false
    rel := false, sent := sent, left := 0, readyAt := 0, psn := false }
/-- A protected member with an open segment. -/
def paired (f : Segment → Segment) (g : Core → Core) : State :=
  on fun c => g { c with task := some { Place.binding with prot := true }, seg := f { Init.segment with openSeg := true, ck := some (c.ctx, c.pool.tagt, c.pool.plru) } }
def arrived : Landing := { away with due := true, data := some 5 }

theorem witness_core_events :
    ((on fun c => { c with run := .halted }).core 0).settling = true
    ∧ (let k := (on fun c => { c with land := [away], mq := [aReq (.load 0) true] }).core 0
       (k.mq.find? fun r => decide (r.id = 0)) = some (aReq (.load 0) true) ∧ (aReq (.load 0) true).kind = .load 0 ∧ (aReq (.load 0) true).sent = true
       ∧ (aReq (.load 0) true).left = 0 ∧ (aReq (.load 0) true).readyAt ≤ base.ns ∧ base.stopped (cbOf 0) 1 = false
       ∧ (aReq (.load 0) true).piece.target = .stack 0x1000 ∧ base.stopped (16 + 0x1000 / 2 ^ 36) 1 = false)
    ∧ (let k := (on fun c => { c with land := [arrived] }).core 0
       (∀ l ∈ k.land, l.psn = false) ∧ k.run = .running ∧ k.land = [arrived] ∧ arrived.due = true ∧ arrived.data = some 5 ∧ arrived.file = 0 ∧ arrived.dest ≠ 0)
    ∧ (let k := (on fun c => { c with land := [{ away with due := true }], frozeLand := 16777216 }).core 0
       k.timeout k.standing = some { code := 0x1701, port := 0, tval := 0 } ∧ k.issues = true ∧ k.trap = none
       ∧ (k.prot = false ∨ k.seg.openSeg = false))
    ∧ (let k := (paired id fun c => { c with land := [{ away with due := true }], frozeLand := 16777216 }).core 0
       (k.timeout k.standing).isSome = true ∧ k.issues = true ∧ k.trap = none ∧ k.prot = true ∧ k.seg.openSeg = true) := by
  decide +kernel
/-- The bundle at the pc is BWAIT a1, 0, s1: a global beacon below its target, waited for as long as its limit. -/
def bwaiting : State :=
  let s := on fun c => withA [(1, 0x1000)] (withS [(1, 1)] { c with waitLimit := 1, waited := 1 })
  { s with mem := (Place.bundle 0x70AC0101).foldl (fun (m : Nat × FMap Byte) w => (m.1 + 4, writeBytes m.2 m.1 4 w.toNat)) (Place.entry, s.mem) |>.2 }
theorem witness_wait : ((bwaiting.core 0).issues = true ∧ (bwaiting.core 0).trap = none ∧ (bwaiting.core 0).waitExpired = true ∧ bwaiting.waitsMet 0 = false)
    ∧ bwaiting.waitSlots 0 = [.bwait 1 0 1] ∧ bwaiting.xlateCore 0 .read (gaddr (bwaiting.core 0) 1) = .ok (.stack 0x1000)
    ∧ (bwaiting.core 0).mayPoll (.stack 0x1000) = true ∧ bwaiting.ahead.readAt (bwaiting.partOfCore 0) (.stack 0x1000) 8 = .val 0 := by decide +kernel

/-- The beacon's column has been served. -/
theorem witness_poll :
    let who := Requester.work 0 0 (pollPart (.stack 0x1000))
    let s := (servedColumns who 0 bwaiting).dropPolls 0 (pollPart (.stack 0x1000))
    let a := served who 0 bwaiting
    workGoesOn s 0 0 (pollPart (.stack 0x1000)) [(some (.stack 0x1000), 8)] [] (fun u => u.readPoll 0 (.stack 0x1000))
      (((s.farHeard a).dropAsk who).underAsk a fun u => u.readPoll 0 (.stack 0x1000)) := by
  exact ⟨by decide +kernel, by decide +kernel, by decide +kernel, .inl ⟨_, rfl, by decide +kernel, by decide +kernel, .inl rfl, rfl⟩⟩

/-! ### Engines -/

/-- One operation of core 0. -/
def working (o : EngineOp) (f : Core → Core) : State := on fun c => f { c with ops := [o] }
theorem witness_engines : ∀ o ∈ [anOp 0 .cpy 5 0, anOp 0 .cpym 5 0, anOp 0 .fill 5 0, anOp 0 .bulk 5 0, { anOp 0 .scat 5 0 with list := some [] }, { anOp 0 .gath 5 (fields [(2, 0, 1)]) with rows := [0] },
      { anOp 0 .rpkX 6 0 with done := true }, { anOp 0 .rpkF 6 0 with done := true }, { anOp 0 .bankld 6 0 with done := true },
      { anOp 0 .bankgo 6 0 with done := true }],
    (working o id).eventOp = some o ∧ ((working o id).core 0).mayStart o = true := by decide +kernel
theorem witness_gather : let o := { anOp 0 .gath 5 (fields [(2, 0, 1)]) with list := some [.row invalidEntry] }
    (working o id).eventOp = some o ∧ ((working o id).core 0).mayStart o = true ∧ 0 < (gatherDesc o.snap.d).nent ∧ o.rows.contains 0 = false ∧ o.list.isSome = true
    ∧ ({ o with rows := [0] } : EngineOp).settled = true := by decide +kernel
/-- MSWAP, which touches no window row, when it may begin and when it completes; a bag of one row that has landed. -/
theorem witness_bag_operation :
    (let o := { anOp 0 .mswap 3 0 with age := 2 }
     let s := working o id
     s.eventOp = some o ∧ o.done = false ∧ (s.core 0).bagDue o = true ∧ o.isBag = false ∧ s.opPoison 0 o = none
     ∧ ((readRows o).any fun w => (s.core 0).residueBad w) = false)
    ∧ (let o := { anOp 0 .mswap 3 0 with age := 2, done := true, wait := 1 }
       let s := working o id
       s.eventOp = some o ∧ o.held = false ∧ ((checkedRows o).any fun w => (s.core 0).residueBad w) = false) := by decide +kernel
def aBag : EngineOp := { anOp 0 .mbagAcc 3 (fields [(0, 0, 4), (1, 20, 9), (1, 24, 9), (2, 16, 1)]) with age := 2 }
theorem witness_bag_row :
    let s := working aBag fun c => { c with clock := 1, pool := { c.pool with land := mapSet Init.landRow [] 0 { Init.landRow with state := 1 } } }
    s.eventOp = some aBag ∧ (s.core 0).rowDue aBag 0 = true ∧ (s.core 0).pool.bad = [] ∧ (matDesc aBag.snap.d).nrow = 1 := by decide +kernel
/-- A fill, a write-back, and the range of an operation. -/
def fillEntry : SbEntry := { op := 0, slot := some 5, lo := 0, hi := 4095, dest := true, home := none }
theorem witness_entries :
    (let k := (on fun c => { c with sb := [fillEntry] }).core 0
     k.sb[0]? = some fillEntry ∧ fillEntry.slot = some 5 ∧ fillEntry.home = none
     ∧ k.fillReady 0 (mapGet Init.tagEntry k.pool.tagt 5).inv (mapGet Init.tagEntry k.pool.tagt 5).home = true ∧ (mapGet Init.tagEntry k.pool.tagt 5).drop = false
     ∧ base.placeHeld (base.partOfCore 0) (mapGet Init.tagEntry k.pool.tagt 5).home = false
     ∧ base.fillRefused 0 (mapGet Init.tagEntry k.pool.tagt 5).home = none
     ∧ (base.placeBlk (base.partOfCore 0) (mapGet Init.tagEntry k.pool.tagt 5).home 4096).2.isSome = true)
    ∧ (let e := { fillEntry with home := some (.stack 0x1000) }
       ((on fun c => { c with sb := [e] }).core 0).sb[0]? = some e ∧ e.slot = some 5 ∧ e.home = some (.stack 0x1000))
    ∧ (let e := { fillEntry with slot := none }
       ((working (anOp 0 .cpy 5 0) fun c => { c with sb := [e] }).core 0).sb[0]? = some e
       ∧ ((working (anOp 0 .cpy 5 0) fun c => { c with sb := [e] }).core 0).op e.op = some (anOp 0 .cpy 5 0)) := by decide +kernel

/-! ### Segments -/

/-- Its segment, and the trailing core's: both cores of the pair run it. -/
def pair (f : Segment → Segment) (g : Segment → Segment := id) : State :=
  let s := paired f fun c => { c with ctx := { c.ctx with cycle := 8 } }
  { s with twins := mapSet none [] 0 (some { s.core 0 with seg := g (s.core 0).seg }) }
theorem witness_segments :
    (let s := pair (fun g => { g with sigs := [7, 8], sigAt := [5, 5] }) fun g => { g with sigs := [7, 9] }
     (s.core 0).killed = false ∧ ((s.twin 0).map fun h => (h.killed, h.seg.bad, h.seg.sigs[0]?, h.seg.sigs[1]?)) = some (false, 0, some 7, some 9)
     ∧ (s.core 0).seg.openSeg = true ∧ (s.core 0).seg.restoring = false ∧ (s.core 0).seg.bad = 0 ∧ 1 < (s.core 0).comparedTo
     ∧ (s.core 0).seg.sigs[1]? = some 8 ∧ (s.core 0).seg.sigs[0]? = some 7)
    ∧ (let s := pair fun g => { g with sigs := [7], sigAt := [5] }
       (s.core 0).seg.sigs[s.inp.p]? = some 7 ∧ s.inp.v ≠ 7 ∧ (s.core 0).seg.bad = 0 ∧ s.inp.p < (s.core 0).comparedTo
       ∧ ((s.core 0).compare s.inp).seg.bad ≠ 0 ∧ (given s fun i => { i with v := 7 }).inp.v = 7) := by decide +kernel
theorem witness_segment_ends :
    ∀ b ∈ [false, true], let s := pair fun g => { g with ending := true, rerun := b }
       let k := s.core 0
       k.prot = true ∧ k.seg.openSeg = true ∧ k.seg.ending = true ∧ k.seg.bad = 0 ∧ k.seg.restoring = false ∧ s.pairDone 0 = true
       ∧ ((s.twin 0).map fun h => h.seg.done) = some k.seg.done ∧ k.landingPoison (fun _ => true) = false ∧ k.seg.rerun = b := by decide +kernel
theorem witness_rewind :
    (∀ b ∈ [(1 : BitVec 2), 3], ∀ r ∈ [false, true], let s := pair fun g => { g with bad := b, rerun := r }
       (s.core 0).prot = true ∧ (s.core 0).seg.openSeg = true ∧ (s.core 0).seg.restoring = false ∧ ((s.core 0).compare s.inp).seg.bad = b
       ∧ (s.core 0).seg.rerun = r ∧ ∀ o ∈ (s.core 0).ops, o.blocks = true → o.id < (s.core 0).seg.first)
    ∧ ((pair fun g => { g with restoring := true }).core 0).seg.restoring = true := by decide +kernel

/-! ### Channels, bank programs and routers -/

/-- A store of one line by core 0, before and after it enters channel 0's queue; an add of 8 bytes at its home. -/
def storing : State := { on (fun c => { c with mq := [aReq .store false] }) with powered := true }
theorem witness_requests :
    (storing.core 0).req 0 = some (aReq .store false) ∧ storing.reqReady 0 (aReq .store false) = true
    ∧ (aReq .store false).piece.target = .stack 0x1000 ∧ storing.stackDown (0x1000 / 2 ^ 36) = false
    ∧ storing.gatePasses (storing.partOfCore 0) 0x1000 false true = true ∧ storing.crosses (storing.partOfCore 0) 0x1000 = false
    ∧ (let r := aReq (.atomic .add 3 0 none) true
       let s := on fun c => { c with mq := [r] }
       (s.core 0).req 0 = some r ∧ s.atomicReady 0 r = true ∧ r.piece.target = .stack 0x1000 ∧ inErrorPage 0x1000 = false
       ∧ (s.physPoisoned 0x1000 (atomBytes 3) || r.psn) = false) := by decide +kernel
def column (bank : Nat) : ColReq := { who := .port 0 0, bank := bank, row := 5, pa := 0x1000, write := false, at_ := 0, aged := false, win := false }
/-- Its column stands in a queue, its row open. -/
theorem witness_store_served :
    let q : ColReq := { who := .port 0 0, bank := 0, row := 0, pa := 0x1000, write := true, at_ := 0, aged := false, win := false }
    let s : State := { storing.updChan 0 16 fun p => { p with queue := [q], rows := mapSet 0 p.rows 0 1 } with ns := 1000 }
    let u := s.retryAsks
    s.inp.err = 0 ∧ u.choose 0 (u.chan 0 16) = some 0 ∧ (u.chan 0 16).queue[0]? = some q ∧ (u.chan 0 16).commandFor q = .column ∧ q.who = .port 0 0
    ∧ (s.core 0).req 0 = some (aReq .store false) ∧ (aReq .store false).piece.target = .stack 0x1000
    ∧ inErrorPage (0x1000 + (partIn 0x1000 8 q.pa).1) = false := by decide +kernel
theorem witness_channels :
    (let s := { State.reset.updChan 0 191 fun p => { p with queue := [column 31] } with ns := 1000000 }
     (191 : Nat) < 192 ∧ (s.retryAsks.choose 0 (s.retryAsks.chan 0 191)).isSome = true ∧ (s.chan 0 191).queue[0]? = some (column 31) ∧ 0 + (s.stack 0).ageCap ≤ s.ns)
    ∧ (let b := { atWork with row := some 5 }
       (((bankIn b).chan 0 0).bank 0).row ≠ none)
    ∧ (let s := bankIn atWork
       ((s.chan 0 0).bank 0).row = none ∧ ((s.chan 0 0).bank 0).winLeft = 0 ∧ mapGet 0 (s.chan 0 0).rows 0 = 0)
    ∧ (let s := State.reset.updChan 0 0 fun p => { p with rows := mapSet 0 p.rows 0 6 }
       ((s.chan 0 0).bank 0).row = none ∧ ((s.chan 0 0).bank 0).winLeft = 0 ∧ mapGet 0 (s.chan 0 0).rows 0 ≠ 0 ∧ s.rasMet 0 0 0 = true)
    ∧ (let s : State := { State.reset with ns := takeoverAfter }
       (s.stack 0).takeover = none ∧ (s.stack 0).beat + takeoverAfter ≤ s.ns)
    ∧ (let s : State := { State.reset.updStack 0 fun t => { t with takeover := some 0, beat := 11000 } with ns := 11700 }
       (s.stack 0).takeover ≠ none ∧ (s.stack 0).beatsFrom + handbackAfter ≤ s.ns ∧ s.ns < (s.stack 0).beat + takeoverAfter ∧ s.ns % 3900 = 0) := by decide +kernel

/-- Bank operations of core 0 that may be sent. -/
theorem witness_bank_launch :
    (let o := anOp 0 .bankgo 6 0
     let s : State := { working o id with cp := { Init.cp with regions := [region] } }
     (s.core 0).op 0 = some o ∧ o.sent = false ∧ (s.core 0).mayStart o = true ∧ (s.core 0).bankTurn o = true ∧ o.done = false ∧ s.storesDone 0 o = true ∧ s.stopped (16 + o.bankPlace.1) 0 = false
     ∧ s.beqRoom (s.launchOf 0 o 0).part (s.launchOf 0 o 0).rasid (s.launchOf 0 o 0).rcb = true)
    ∧ (let o := anOp 0 .bankld 6 0
       let s := working o id
       (s.core 0).op 0 = some o ∧ o.sent = false ∧ (s.core 0).mayStart o = true ∧ (s.core 0).bankTurn o = true ∧ s.inp.flag = false ∧ s.stopped (16 + o.bankPlace.1) 0 = false
       ∧ (spBlk ((s.core 0).source o).1 ((s.core 0).source o).2 o.snap.s2.toNat 96).psn = 0 ∧ o.badBytes 0 96 = 0) := by decide +kernel
theorem witness_programs :
    (let s := State.reset.updChan 0 0 fun p => { p with waiting := [launched], uops := (List.range 32).map fun i => (i, 0xA000) }
     (s.chan 0 0).waiting = launched :: [] ∧ launched.go = true ∧ s.channelFree 0 0 = true ∧ ((s.dropHead 0 0).chan 0 0).lost = false
     ∧ (s.dropHead 0 0).startRefused 0 0 launched = false ∧ s.startRefused 0 0 launched = false ∧ (s.chan 0 0).lost = false ∧ s.rowsMayClose 0 0 = true)
    ∧ (let s := bankIn { atWork with window := true, ranRow := true, actWait := some 0 }
       (s.chan 0 0).prog = some program ∧ (s.chan 0 0).runs 0 = true ∧ ((s.chan 0 0).bank 0).actWait ≠ none ∧ s.boundary 0 0 0 program ≠ .ready
       ∧ ((s.chan 0 0).bank 0).winLeft = 0 ∧ s.windowDue 0 0 0 = true ∧ mapGet 0 (s.chan 0 0).rows 0 = 0)
    ∧ (let s := (bankIn { atWork with window := true, ranRow := true }).updChan 0 0 fun p =>
         { p with rows := mapSet 0 p.rows 0 6, refDue := mapSet 0 p.refDue 0 1 }
       (s.chan 0 0).runs 0 = true ∧ ((s.chan 0 0).bank 0).winLeft = 0 ∧ s.windowDue 0 0 0 = true ∧ mapGet 0 (s.chan 0 0).rows 0 ≠ 0
       ∧ mapGet 0 (s.chan 0 0).refDue 0 ≠ 0 ∧ s.rasMet 0 0 0 = true)
    ∧ (let s := bankIn { atWork with winLeft := 1, susp := true }
       (s.chan 0 0).runs 0 = true ∧ ((s.chan 0 0).bank 0).winLeft ≠ 0
       ∧ (((s.chan 0 0).queue.filter fun q => decide (q.bank = 0) && q.win).all s.colHeld) = true)
    ∧ (let u := bankIn { atWork with actWait := some 0 }
       u.boundary 0 0 0 program = .ready ∧ (u.chan 0 0).firstWaiting 0 = true ∧ (u.chan 0 0).openRows u.ns < 24 ∧ (u.chan 0 0).runs 0 = true
       ∧ ((u.chan 0 0).bank 0).actWait ≠ none)
    ∧ (let s := bankIn { atWork with atWaits := true }
       (s.chan 0 0).prog ≠ none ∧ (s.stack 0).takeover = none ∧ ∀ b < 32, ((s.chan 0 0).bank b).ended = true ∨ ((s.chan 0 0).bank b).atWaits = true)
    ∧ (let s : State := { State.reset.updStack 0 fun t => { t with takeover := some 0 } with ns := 5000000 }
       (s.stack 0).takeover = some 0 ∧ 0 + 5000000 ≤ s.ns ∧ (s.stack 0).holdOver = false)
    ∧ ((on fun c => { c with fence := some (0x1000, 64, false) }).core 0).fence = some (0x1000, 64, false) := by decide +kernel
/-- A packet of core 0, and a round of tree 0, whose one member is core 0, into which it has been sent. -/
def packet (x : Bool) : Packet := { core := 0, op := 0, exactMode := x, elems := List.replicate 32 0x3F800000, destVa := 0x1000, psn := false }
def started (x : Bool) : Round :=
  { b := 0, tree := 0, m := 0, sent := [packet x], at_ := 0, exact := [], rounded := [], flags := 0, ended := 0, tval := 0, part := 0, node := 0x200000 }
def inRound (r : Round) (ns : Nat) : State :=
  { working (anOp 0 .rpkX 6 0) id with rounds := [r], trees := mapSet 0 [] 0 (BitVec.ofNat 256 (1 * 2 ^ 16)), ns := ns }

/-- A router that can combine, in each mode; the root with its windows, whose columns have been served; a round whose timer has run out. -/
theorem witness_round : (∀ x ∈ [true, false],
    let s := inRound (started x) 0
    s.round 0 0 0 = some (started x) ∧ (started x).ended = 0 ∧ s.roundLate (started x) = false ∧ ((started x).sent.find? fun p => decide (p.core.toNat = 0)) = some (packet x)
    ∧ (packet x).exactMode = x ∧ (packet x).psn = false ∧ (started x).exact.find? (fun y => decide (y.1.toNat = 0)) = none
    ∧ (started x).rounded.find? (fun y => decide (y.1.toNat = 0)) = none ∧ childrenOf (s.tree 0 0) 0 = [] ∧ treeRoot (s.tree 0 0) = 0)
    ∧ (let ws := (packet true).elems.map (leafWindow (treeAnchor ((inRound (started true) 0).tree 0 0)))
       let r := { started true with exact := [(0, ws)] }
       r.exact.find? (fun y => decide (y.1.toNat = 0)) = some (0, ws) ∧ (packet true).core = 0 ∧ (anOp 0 .rpkX 6 0).id = (packet true).op)
    ∧ (let s := inRound (started true) 16777216000
       (started true).sent ≠ [] ∧ (started true).at_ + roundTimer ≤ (mapGet Init.island s.islands 0).milli s.ns) := by decide +kernel
/-- Work whose columns have been served, and work that touches none. -/
theorem witness_work_goes_on :
    let o := anOp 0 .rpkX 6 0
    let s := servedColumns (.work 0 0 0) 0 (inRound (started true) 0)
    workGoesOn s 0 0 0 [] (s.rangePlaces 0 .write 0x1000 128) id ((s.dropAsk (.work 0 0 0)).underAsk (served (.work 0 0 0) 0 s) id)
    ∧ workGoesOn (working o id) 0 0 0 [] ((working o id).beaconPlaces 0 o) id (working o id) := by
  unfold workGoesOn columnsServed
  refine ⟨⟨by decide +kernel, by decide +kernel, by decide +kernel, .inl ⟨_, rfl, by decide +kernel, by decide +kernel, .inl rfl, rfl⟩⟩,
    ⟨by decide +kernel, by decide +kernel, by decide +kernel, .inr ⟨by decide +kernel, by decide +kernel, by decide +kernel, by decide +kernel, rfl⟩⟩⟩

/-! ### Steps -/

/-- `exec` answers a next state; of every form that the frames cover. -/
def answers (s : State) (i : Instr) : Bool := match exec i s with
  | .next _ => true
  | _ => false
theorem witness_frames : ∀ i ∈ [Instr.add 1 2 3, .vmovV0 1 2, .faddV0 1 2 3, .cvtV0 1 2 2 2, .cmp 1 0 2 3, .fcmpV0 1 0 2 3, .mknot 1 2, .aui 1 1, .pset 2 1,
    .lstep 1 0 2, .edw 1 2 0, .nop, .br 1, .call 1, .loop 1 2 1 0, .sts 1 2 0, .vst 1 2 0, .vsts 1 2 3, .vstx 1 2 3, .vldx 1 2 3 0, .lds 1 2 0, .ldg 0 1 2 0 0, .drain 5, .bfence 1 2, .twait 1 2 7, .bwait 1 0 2, .seg 1,
    .rdv 1, .kclr 7, .csrw 1 0x5F, .csrs 1 0x42, .phase 1, .phwait, .launch 1, .halt, .park 1 2, .probe 7 1 2, .probei 1 1 2, .pwb 1, .pinv 1, .ppin 1 1, .badd 0 1 1 2,
    .badd 0 1 0 2],
    answers base i = true := by decide +kernel

/-- Core 0's turn at the bundle that holds ADD s1, s2, s3; and one of a bundle that would have to be removed, did anything wait. -/
def atAdd : State := State.reset.withFetchWord 32 0x00041083
theorem witness_issue_turn :
    atAdd.turns = .issue 0 :: [] ∧ atAdd.twins = [] ∧ ((atTurn atAdd 0).core 0).prot = false ∧ ((atTurn atAdd 0).core 0).issues = true ∧ ((atTurn atAdd 0).core 0).trap = none
    ∧ (let t := atTurn atAdd 0
       let ws := Place.bundle 0x00041083
       t.fetchWords 0 (t.core 0).ctx.pc 8 0 = (ws, none) ∧ framingFault ws true = none
       ∧ (match decodeBundle [] ws with
          | .ok slots => !(t.core 0).removable slots && decide (slots.map (·.instr) = [.add 1 2 3, .nop, .nop, .nop])
          | .error _ => false) = true) := by decide +kernel
theorem witness_slot_next : answers (atBundle (atTurn atAdd 0) 0 16) (.add 1 2 3) = true := by decide +kernel
/-- A bank's turn at RDC; an event's. -/
def atRdc : State := State.reset.withFetchWord 16 0x2000
theorem witness_uop_turn : atRdc.turns = .uop 0 0 0 :: [] ∧ atRdc.bankWaits 0 0 0 = false ∧ (atRdc.stack 0).suspends = false
    ∧ decodeUop (mapGet 0 (atRdc.chan 0 0).uops ((atRdc.chan 0 0).bank 0).mpc.toNat) = .ok ⟨0, .uopRdc 0 0 0⟩ := by decide +kernel
theorem witness_event_turn : ({ State.reset with turns := [.event .bdcHeartbeat {}] } : State).turns = .event .bdcHeartbeat {} :: []
    ∧ isEvent .bdcHeartbeat = true := by decide +kernel

/-- A canonical state steps on. -/
theorem witness_canonical : State.Canonical State.reset ∧ ∃ t, step State.reset = .next t := by
  refine ⟨⟨by decide +kernel, by decide +kernel⟩, ?_⟩
  match h : step State.reset, (by decide +kernel : (match step State.reset with
    | .next _ => true
    | _ => false) = true) with
  | .next t, _ => exact ⟨t, rfl⟩

/-- An instruction, each of its ports; a micro-op that has a word. -/
theorem witness_encode : ((Instr.nop).slotParts.any fun q => q.ports.contains 7) = true ∧ (encodeUop ⟨1, .uopLoopc 16⟩).isSome = true := by decide +kernel

end Sys2Proof.Tests
end

/-! SUPPORT. The register files: which physical register a name reaches, what a file reads back after a write, and what a rotation does to the names
(03 R66, R68). -/

namespace Sys2Proof.Proofs

open Sys2Proof Sys2Proof.Machine Sys2Proof.Laws

/-! ## The rotated number of a register -/

section
variable {first size base n m : Nat}

theorem rotated_of_lt (h : n < first) : rotated first size base n = n := if_pos h

theorem rotated_of_le (h : first ≤ n) : rotated first size base n = first + (n - first + base) % size := if_neg (by omega)

theorem rotated_lt_first : rotated first size base n < first ↔ n < first := by
  by_cases h : n < first
  · rw [rotated_of_lt h]
  · rw [rotated_of_le (by omega)]
    omega

theorem rotated_lt (hsize : 0 < size) (hn : n < first + size) : rotated first size base n < first + size := by
  by_cases h : n < first
  · rwa [rotated_of_lt h]
  · rw [rotated_of_le (by omega)]
    exact Nat.add_lt_add_left (Nat.mod_lt _ hsize) first

/-- Two names of a file reach one physical register only when they are the same name. -/
theorem rotated_inj (hn : n < first + size) (hm : m < first + size) : rotated first size base n = rotated first size base m ↔ n = m := by
  refine ⟨fun h => ?_, congrArg _⟩
  by_cases hlt : n < first
  · have hlt' : m < first := rotated_lt_first.mp (h ▸ rotated_lt_first.mpr hlt)
    rwa [rotated_of_lt hlt, rotated_of_lt hlt'] at h
  · have hle' : first ≤ m := not_lt.mp fun hm => hlt (rotated_lt_first.mp (h ▸ rotated_lt_first.mpr hm))
    rw [rotated_of_le (not_lt.mp hlt), rotated_of_le hle'] at h
    have hmod : n - first ≡ m - first [MOD size] := Nat.ModEq.add_right_cancel' base (Nat.add_left_cancel h)
    have := hmod.eq_of_lt_of_lt (by omega) (by omega)
    omega

end

theorem physS_inj (x : Ctx) {n m : Nat} (hn : n < 64) (hm : m < 64) : x.physS n = x.physS m ↔ n = m := rotated_inj hn hm
theorem physV_inj (x : Ctx) {n m : Nat} (hn : n < 64) (hm : m < 64) : x.physV n = x.physV m ↔ n = m := rotated_inj hn hm
theorem physP_inj (x : Ctx) {n m : Nat} (hn : n < 16) (hm : m < 16) : x.physP n = x.physP m ↔ n = m := rotated_inj hn hm

/-- Physical register 0 of the scalar file is s0, which does not rotate. -/
theorem physS_eq_zero (x : Ctx) {n : Nat} (hn : n < 64) : x.physS n = 0 ↔ n = 0 := physS_inj x hn (m := 0) (by omega)

/-- The fixed predicates p0 and p1 do not rotate. -/
theorem physP_le_one (x : Ctx) {n : Nat} : x.physP n ≤ 1 ↔ n ≤ 1 := by
  by_cases h : n < 8
  · rw [Ctx.physP, rotated_of_lt h]
  · rw [Ctx.physP, rotated_of_le (by omega)]
    omega

theorem physP_lt (x : Ctx) {n : Nat} (hn : n < 16) : x.physP n < 16 := rotated_lt (by omega) hn

/-! ## Reading back what was written -/

/-- No register write moves a rotation base. -/
theorem write_bases (x : Ctx) (w : RegWrite) : (x.write w).sB = x.sB ∧ (x.write w).vB = x.vB ∧ (x.write w).pB = x.pB := by
  cases w
  case s n v => by_cases h : n = 0 <;> simp [Ctx.write, Ctx.heal, Ctx.put, h]
  case p n b => by_cases h : n ≤ 1 <;> simp [Ctx.write, Ctx.heal, Ctx.put, Ctx.setPhysP, h]
  all_goals exact ⟨rfl, rfl, rfl⟩

@[simp] theorem write_physS (x : Ctx) (w : RegWrite) (n : Nat) : (x.write w).physS n = x.physS n := by
  rw [Ctx.physS, (write_bases x w).1, Ctx.physS]
@[simp] theorem write_physV (x : Ctx) (w : RegWrite) (n : Nat) : (x.write w).physV n = x.physV n := by
  rw [Ctx.physV, (write_bases x w).2.1, Ctx.physV]
@[simp] theorem write_physP (x : Ctx) (w : RegWrite) (n : Nat) : (x.write w).physP n = x.physP n := by
  rw [Ctx.physP, (write_bases x w).2.2, Ctx.physP]

theorem mapGet_mapSet {α : Type} [DecidableEq α] (d : α) (m : FMap α) (k i : Nat) (v : α) :
    mapGet d (mapSet d m k v) i = if i = k then v else mapGet d m i := by
  split
  case isTrue h => rw [h, mapGet_set_same]
  case isFalse h => exact mapGet_set_other v h

/-- The scalar file after a write of physical register `n`, anywhere but at s0. -/
theorem write_s_file (x : Ctx) (n i : Nat) (v : BitVec 64) (hi : i ≠ 0) :
    mapGet 0 (x.write (.s n v)).s i = if i = n then v else mapGet 0 x.s i := by
  by_cases hn : n = 0
  · simp [Ctx.write, Ctx.heal, Ctx.put, hn, hi]
  · simp [Ctx.write, Ctx.heal, Ctx.put, hn, mapGet_mapSet]

/-- The predicate file after a write of physical register `n`, anywhere but at p0 and p1. -/
theorem write_p_file (x : Ctx) (n i : Nat) (b : Bool) (hi : 1 < i) (hi' : i < 16) :
    (x.write (.p n b)).p.getLsbD i = if i = n then b else x.p.getLsbD i := by
  by_cases hn : n ≤ 1
  · have hne : i ≠ n := by omega
    simp [Ctx.write, Ctx.heal, Ctx.put, Ctx.setPhysP, hn, hne]
  · by_cases hin : i = n
    · subst hin
      cases b <;> simp [Ctx.write, Ctx.heal, Ctx.put, Ctx.setPhysP, hn, hi']
    · cases b <;> simp [Ctx.write, Ctx.heal, Ctx.put, Ctx.setPhysP, hn, hi', hin]

theorem getS_write (x : Ctx) {n m : Nat} (hn : n < 64) (hm : m < 64) (v : BitVec 64) :
    (x.write (.s (x.physS n) v)).getS m = if m = 0 then 0 else if m = n then v else x.getS m := by
  by_cases h0 : m = 0
  · simp [Ctx.getS, h0]
  · have hphys : x.physS m ≠ 0 := (physS_eq_zero x hm).not.mpr h0
    simp only [Ctx.getS, h0, if_false, write_physS, write_s_file _ _ _ _ hphys, physS_inj x hm hn]

theorem getV_write (x : Ctx) {n m : Nat} (hn : n < 64) (hm : m < 64) (v : VReg) (t : Tag) :
    (x.write (.v (x.physV n) v t)).getV m = if m = n then v else x.getV m := by
  rw [Ctx.getV, write_physV]
  simp only [Ctx.write, Ctx.heal, Ctx.put, mapGet_mapSet, physV_inj x hm hn, Ctx.getV]

/-- Every cluster's tag is set alike, so cluster 0's reads back (08 R183). -/
theorem getVTag_write (x : Ctx) {n m : Nat} (hn : n < 64) (hm : m < 64) (v : VReg) (t : Tag) :
    (x.write (.v (x.physV n) v t)).getVTag m = if m = n then t else x.getVTag m := by
  have hlow : (BitVec.replicate 8 t).truncate 4 = t := by
    refine BitVec.eq_of_getLsbD_eq fun i hi => ?_
    have hi' : i < 4 * 8 := by omega
    simp only [BitVec.truncate_eq_setWidth, BitVec.getLsbD_setWidth, BitVec.getLsbD_replicate, Nat.mod_eq_of_lt hi, hi, hi', decide_true, Bool.true_and]
  rw [Ctx.getVTag, write_physV]
  simp only [Ctx.write, Ctx.heal, Ctx.put, mapGet_mapSet, physV_inj x hm hn]
  rw [apply_ite (BitVec.truncate 4), hlow, Ctx.getVTag]

theorem getP_write (x : Ctx) {n m : Nat} (hn : n < 16) (hm : m < 16) (b : Bool) :
    (x.write (.p (x.physP n) b)).getP m = if m = 0 then true else if m = 1 then false else if m = n then b else x.getP m := by
  by_cases h0 : m = 0
  · simp [Ctx.getP, h0]
  by_cases h1 : m = 1
  · simp [Ctx.getP, h1]
  have hlow : 1 < x.physP m := not_le.mp ((physP_le_one x).not.mpr (by omega))
  simp [Ctx.getP, h0, h1, write_p_file _ _ _ _ hlow (physP_lt x hm), physP_inj x hm hn]

theorem getA_write (x : Ctx) (n m : Nat) (v : AReg) : (x.write (.a n v)).getA m = if m = n then v else x.getA m := mapGet_mapSet 0 x.a n m v
theorem getMk_write (x : Ctx) (n m : Nat) (v : Mask) : (x.write (.mk n v)).getMk m = if m = n then v else x.getMk m :=
  mapGet_mapSet (BitVec.allOnes 512) x.mks n m v
theorem getE_write (x : Ctx) (n m : Nat) (v : Desc) : (x.write (.e n v)).getE m = if m = n then v else x.getE m := mapGet_mapSet 0 x.e n m v

/-! ## Rotation -/

/-- What each name of a file stands for before a rotation and `now`: names below `first` keep it, each of the `size` rotating names passes it to the
next, and the last to the first (03 R68). -/
structure MovesUp {α : Type} (first size : Nat) (before now : Nat → α) : Prop where
  fixed : ∀ n < first, now n = before n
  next : ∀ n, first ≤ n → now (n + 1) = before n
  wraps : now first = before (first + size - 1)

/-- A base less 1 is congruent to what it was less 1, modulo the size of its file. -/
theorem toNat_sub_one_modEq {w : Nat} (b : BitVec w) : (b - 1).toNat + 1 ≡ b.toNat [MOD 2 ^ w] := by
  have h : (b - 1 + 1).toNat = b.toNat := by rw [BitVec.sub_add_cancel]
  rw [BitVec.toNat_add] at h
  unfold Nat.ModEq
  rw [← h]
  simp

theorem rotated_movesUp (first : Nat) {w : Nat} (b : BitVec w) :
    MovesUp first (2 ^ w) (rotated first (2 ^ w) b.toNat) (rotated first (2 ^ w) (b - 1).toNat) where
  fixed n hn := by rw [rotated_of_lt hn, rotated_of_lt hn]
  next n hn := by
    have h := (toNat_sub_one_modEq b).add_left (n - first)
    rw [rotated_of_le hn, rotated_of_le (by omega), ← h, show n + 1 - first + (b - 1).toNat = n - first + ((b - 1).toNat + 1) by omega]
  wraps := by
    have hpos : 0 < 2 ^ w := Nat.two_pow_pos w
    have h := (toNat_sub_one_modEq b).add_left (2 ^ w - 1)
    rw [rotated_of_le le_rfl, rotated_of_le (by omega), show first + 2 ^ w - 1 - first = 2 ^ w - 1 by omega, ← h,
      show 2 ^ w - 1 + ((b - 1).toNat + 1) = (b - 1).toNat + 2 ^ w by omega, Nat.add_mod_right, Nat.sub_self, Nat.zero_add]

theorem physS_movesUp (x : Ctx) : MovesUp 32 32 x.physS x.rotate.physS := rotated_movesUp 32 x.sB
theorem physV_movesUp (x : Ctx) : MovesUp 48 16 x.physV x.rotate.physV := rotated_movesUp 48 x.vB
theorem physP_movesUp (x : Ctx) : MovesUp 8 8 x.physP x.rotate.physP := rotated_movesUp 8 x.pB
theorem physK_movesUp (x : Ctx) : MovesUp 4 4 x.physK x.rotate.physK := rotated_movesUp 4 x.kB

/-- What is read through names that move up moves up with them: a rotation changes no physical register. A read may treat names below the
rotating ones, and only those, in a way of its own. -/
theorem MovesUp.read {α β : Type} {first size : Nat} {before now : Nat → α} (h : MovesUp first size before now) (hsize : 0 < size) (f : Nat → α → β)
    (g : α → β) (hf : ∀ n a, first ≤ n → f n a = g a) : MovesUp first size (fun n => f n (before n)) (fun n => f n (now n)) where
  fixed n hn := by rw [h.fixed n hn]
  next n hn := by rw [h.next n hn, hf _ _ hn, hf _ _ (by omega)]
  wraps := by rw [h.wraps, hf _ _ le_rfl, hf _ _ (by omega)]

theorem getS_movesUp (x : Ctx) : MovesUp 32 32 x.getS x.rotate.getS :=
  (physS_movesUp x).read (by omega) (fun n i => if n = 0 then 0 else mapGet 0 x.s i) (mapGet 0 x.s) fun _ _ hn => if_neg (by omega)

theorem getV_movesUp (x : Ctx) : MovesUp 48 16 x.getV x.rotate.getV :=
  (physV_movesUp x).read (by omega) (fun _ i => mapGet 0 x.v i) (mapGet 0 x.v) fun _ _ _ => rfl

theorem getP_movesUp (x : Ctx) : MovesUp 8 8 x.getP x.rotate.getP :=
  (physP_movesUp x).read (by omega) (fun n i => if n = 0 then true else if n = 1 then false else x.p.getLsbD i) x.p.getLsbD
    fun n i hn => by rw [if_neg (show n ≠ 0 by omega), if_neg (show n ≠ 1 by omega)]

/-! ## The statement -/

/-- Settles O50: a write is read back by name because two names of a file never share a physical register, and a rotation moves names up because the
base less 1 is the base of the names one lower. -/
theorem registerFiles : Obligations.RegisterFiles := by
  unfold Obligations.RegisterFiles
  intro x n m q r mk mk' tok v vv t b av mv ev
  have hm0 : m.toNat = 0 ↔ m = 0 := BitVec.toNat_inj (y := 0)
  have hr0 : r.toNat = 0 ↔ r = 0 := BitVec.toNat_inj (y := 0)
  have hr1 : r.toNat = 1 ↔ r = 1 := BitVec.toNat_inj (y := 1)
  refine ⟨by decide, rfl, rfl, rfl, rfl, rfl, ?readS, ?readV, ?readTag, ?readP, ?readA, ?readMk, ?readE,
    (getS_movesUp x).fixed _, fun h _ => (getS_movesUp x).next _ h, (getS_movesUp x).wraps,
    (getV_movesUp x).fixed _, fun h _ => (getV_movesUp x).next _ h, (getV_movesUp x).wraps,
    (getP_movesUp x).fixed _, fun h _ => (getP_movesUp x).next _ h, (getP_movesUp x).wraps,
    (physK_movesUp x).fixed _, fun h _ => (physK_movesUp x).next _ h, (physK_movesUp x).wraps⟩
  case readS => simpa only [BitVec.toNat_inj, hm0] using getS_write x n.isLt m.isLt v
  case readV => simpa only [BitVec.toNat_inj] using getV_write x n.isLt m.isLt vv t
  case readTag => simpa only [BitVec.toNat_inj] using getVTag_write x n.isLt m.isLt vv t
  case readP => simpa only [BitVec.toNat_inj, hr0, hr1] using getP_write x q.isLt r.isLt b
  case readA => simpa only [BitVec.toNat_inj] using getA_write x q.toNat r.toNat av
  case readMk => simpa only [BitVec.toNat_inj] using getMk_write x mk.toNat mk'.toNat mv
  case readE => simpa only [BitVec.toNat_inj] using getE_write x n.toNat m.toNat ev

end Sys2Proof.Proofs

/-! SUPPORT. Scalar arithmetic: the values that the S port computes, as operations on bit vectors, and what a slot with one result does (07 R140-R143). -/

namespace Sys2Proof.Proofs

open Sys2Proof Sys2Proof.Machine Sys2Proof.Laws Sys2Proof.Claims

/-! ## Products, quotients and remainders -/

/-- The high half of a word of 128 bits is the integer divided by 2^64, whatever its multiple of 2^128. -/
theorem extractLsb'_high_ofInt (z : Int) : (BitVec.ofInt 128 z).extractLsb' 64 64 = BitVec.ofInt 64 (z / 2 ^ 64) := by
  refine BitVec.eq_of_toNat_eq ?_
  simp only [BitVec.extractLsb'_toNat, BitVec.toNat_ofInt, Nat.shiftRight_eq_div_pow]
  omega

theorem extractLsb'_high_ofNat (n : Nat) : (BitVec.ofNat 128 n).extractLsb' 64 64 = BitVec.ofNat 64 (n / 2 ^ 64) := by
  rw [← BitVec.ofInt_natCast, ← BitVec.ofInt_natCast, extractLsb'_high_ofInt, Int.natCast_ediv]
  rfl

theorem mulHigh_eq (x y : BitVec 64) : mulHigh x y = (x.signExtend 128 * y.signExtend 128).extractLsb' 64 64 := by
  rw [BitVec.signExtend, BitVec.signExtend, ← BitVec.ofInt_mul, extractLsb'_high_ofInt, mulHigh]

theorem mulHighU_eq (x y : BitVec 64) : mulHighU x y = (x.zeroExtend 128 * y.zeroExtend 128).extractLsb' 64 64 := by
  rw [BitVec.zeroExtend_eq_setWidth, BitVec.zeroExtend_eq_setWidth, ← BitVec.ofNat_toNat, ← BitVec.ofNat_toNat,
    ← BitVec.ofNat_mul, extractLsb'_high_ofNat, mulHighU]

theorem ofInt_tdiv {w : Nat} (x y : BitVec w) : BitVec.ofInt w (x.toInt.tdiv y.toInt) = x.sdiv y :=
  BitVec.eq_of_toInt_eq (by rw [BitVec.toInt_sdiv, BitVec.toInt_ofInt])

/-- The truncated remainder is what the truncated quotient leaves of the dividend, taken modulo 2^w. -/
theorem ofInt_tmod {w : Nat} (x y : BitVec w) : BitVec.ofInt w (x.toInt.tmod y.toInt) = x - y * x.sdiv y := by
  refine BitVec.eq_of_toInt_eq ?_
  rw [BitVec.toInt_ofInt, Int.tmod_def, BitVec.toInt_sub, BitVec.toInt_mul, BitVec.toInt_sdiv]
  simp

theorem divS_eq (x y : BitVec 64) : divS x y = if y = 0 then BitVec.allOnes 64 else x.sdiv y := by rw [divS, ofInt_tdiv]

theorem remS_eq (x y : BitVec 64) : remS x y = if y = 0 then x else x - y * x.sdiv y := by rw [remS, ofInt_tmod]

theorem divU_eq (x y : BitVec 64) : divU x y = if y = 0 then BitVec.allOnes 64 else x.udiv y := by
  rw [divU, ← BitVec.udiv_def, BitVec.udiv_eq]

theorem remU_eq (x y : BitVec 64) : remU x y = if y = 0 then x else x.umod y := by
  rw [remU, ← BitVec.umod_def, BitVec.umod_eq]

/-! ## Shifts, minima and maxima -/

theorem amount_eq (y : BitVec 64) : amount y = (y.truncate 6).toNat := (BitVec.toNat_setWidth 6 y).symm

section
variable (x y : BitVec 64)

theorem ite_slt_eq_min : (if x.slt y then x else y) = BitVec.ofInt 64 (min x.toInt y.toInt) := by
  rw [min_def_lt, apply_ite (BitVec.ofInt 64)]
  simp only [BitVec.slt_iff_toInt_lt, BitVec.ofInt_toInt]

theorem ite_slt_eq_max : (if x.slt y then y else x) = BitVec.ofInt 64 (max x.toInt y.toInt) := by
  rw [max_def_lt, apply_ite (BitVec.ofInt 64)]
  simp only [BitVec.slt_iff_toInt_lt, BitVec.ofInt_toInt]

theorem ite_ult_eq_min : (if x.ult y then x else y) = BitVec.ofNat 64 (min x.toNat y.toNat) := by
  rw [min_def_lt, apply_ite (BitVec.ofNat 64)]
  simp only [BitVec.ult_iff_toNat_lt, BitVec.ofNat_toNat, BitVec.setWidth_eq]

theorem ite_ult_eq_max : (if x.ult y then y else x) = BitVec.ofNat 64 (max x.toNat y.toNat) := by
  rw [max_def_lt, apply_ite (BitVec.ofNat 64)]
  simp only [BitVec.ult_iff_toNat_lt, BitVec.ofNat_toNat, BitVec.setWidth_eq]

end

/-! ## Counts of bits -/

/-- The leading one of a word that is not 0 stands where the count of leading zeros leaves it, and so at the word's logarithm. -/
theorem clz64_eq (x : BitVec 64) : clz64 x = x.clz := by
  rw [clz64]
  split
  case isTrue hzero => exact (BitVec.clz_eq_iff_eq_zero.mpr hzero).symm
  case isFalse hzero =>
    have hlt : x.clz.toNat < 64 := BitVec.lt_def.mp (BitVec.clz_lt_iff_ne_zero.mpr hzero)
    have hlog : Nat.log2 x.toNat = 63 - x.clz.toNat := by
      refine (Nat.log2_eq_iff fun h => hzero (BitVec.eq_of_toNat_eq h)).mpr ⟨BitVec.two_pow_sub_clz_le_toNat_of_ne_zero (by omega) hzero, ?_⟩
      rw [show 63 - x.clz.toNat + 1 = 64 - x.clz.toNat by omega]
      exact BitVec.toNat_lt_two_pow_sub_clz
    rw [hlog, show 63 - (63 - x.clz.toNat) = x.clz.toNat by omega, BitVec.ofNat_toNat, BitVec.setWidth_eq]

/-- The first bit found set is the one that the count of trailing zeros names. -/
theorem ctz64_eq (x : BitVec 64) : ctz64 x = x.ctz := by
  rw [ctz64]
  by_cases hzero : x = 0
  · subst hzero
    decide +kernel
  · have hlt : x.ctz.toNat < 64 := BitVec.lt_def.mp (BitVec.ctz_lt_iff_ne_zero.mpr hzero)
    have hfind : ((List.range 64).find? fun i => x.getLsbD i) = some x.ctz.toNat :=
      List.find?_range_eq_some.mpr ⟨BitVec.getLsbD_true_ctz_of_ne_zero hzero, List.mem_range.mpr hlt, fun j hj => by
        simp [BitVec.getLsbD_false_of_lt_ctz hj]⟩
    rw [hfind, Option.getD_some, BitVec.ofNat_toNat, BitVec.setWidth_eq]

/-- The set bits among the lowest `n`, one position after another. -/
theorem length_filter_getLsbD {w : Nat} (x : BitVec w) (n : Nat) : ((List.range n).filter fun i => x.getLsbD i).length = x.cpopNatRec n 0 := by
  induction n with
  | zero => rfl
  | succ n ih =>
    rw [List.range_succ, List.filter_append, List.length_append, ih, BitVec.cpopNatRec_succ, BitVec.cpopNatRec_eq (0 + _), Nat.zero_add]
    cases h : x.getLsbD n <;> simp [h]

theorem popc64_eq (x : BitVec 64) : popc64 x = x.cpop := by rw [popc64, length_filter_getLsbD, BitVec.cpop]

/-! ## Low bits, extended -/

theorem signedOf_toNat {w : Nat} (x : BitVec w) (n : Nat) : signedOf (n + 1) x.toNat = (x.setWidth (n + 1)).toInt := by
  have hhalf : 2 * (x.toNat % 2 ^ (n + 1)) < 2 ^ (n + 1) ↔ x.toNat % 2 ^ (n + 1) < 2 ^ n := by
    conv_lhs => rhs; rw [pow_succ']
    exact Nat.mul_lt_mul_left two_pos
  rw [signedOf, BitVec.toInt_eq_toNat_cond, BitVec.toNat_setWidth, Nat.add_sub_cancel]
  simp only [hhalf]
  push_cast
  rfl

theorem sextLow_eq (x : BitVec 64) (n : BitVec 6) : sextLow x n = (x.setWidth (n.toNat + 1)).signExtend 64 := by
  rw [sextLow, signedOf_toNat, BitVec.signExtend]

theorem zextLow_eq (x : BitVec 64) (n : BitVec 6) : zextLow x n = (x.setWidth (n.toNat + 1)).setWidth 64 :=
  BitVec.eq_of_toNat_eq (by simp [zextLow])

/-! ## A slot with one result -/

section
variable {s : State} {i : Instr} {lat : Nat} {d a b : BitVec 6} {v : BitVec 64}

/-- A slot whose body gives one result and nothing else completes with it: a result is no poison, no trap, and uses no bank. -/
theorem does_result {body : State → Core → SlotOut} {w : RegWrite} {f : FFlags} (hexec : exec i s = issueSlot i body s)
    (hbody : body s (here s) = { effects := [.result lat w f] }) : Does s i [.result lat w f] := fun hready =>
  hexec.trans (issueSlot_ready hready hbody (fun _ h => nomatch h) rfl rfl rfl rfl)

/-- A form of two source registers completes with its function's value of them. -/
theorem does_scalar2 {f : BitVec 64 → BitVec 64 → BitVec 64} (hexec : exec i s = issueSlot i (scalar2 lat d a b f) s)
    (hv : f (sreg s a) (sreg s b) = v) : Does s i [toS s lat d v] := hv ▸ does_result hexec rfl

/-- So does a form of one. -/
theorem does_scalar1 {f : BitVec 64 → BitVec 64} (hexec : exec i s = issueSlot i (scalar1 lat d a f) s) (hv : f (sreg s a) = v) :
    Does s i [toS s lat d v] := hv ▸ does_result hexec rfl

/-- A shift or rotation completes with the value for the low six bits of its second source. -/
theorem does_shift {f : BitVec 64 → Nat → BitVec 64} (hexec : exec i s = issueSlot i (scalar2 lat d a b fun x y => f x (amount y)) s) :
    Does s i [toS s lat d (f (sreg s a) ((sreg s b).truncate 6).toNat)] :=
  does_scalar2 hexec (congrArg (f (sreg s a)) (amount_eq (sreg s b)))

end

/-! ## The statements -/

/-- Settles O1: each form is a function of its source registers, and that function is the table's operation on bit vectors. -/
theorem scalarArithmeticValues : Obligations.ScalarArithmeticValues := by
  unfold Obligations.ScalarArithmeticValues
  intro s d a b x y
  refine ⟨?add, ?sub, ?mul, ?mulh, ?mulhu, ?div, ?divu, ?rem, ?remu, ?and, ?or, ?xor, ?andn, ?shl, ?shr, ?sra, ?rotl, ?min, ?max, ?minu, ?maxu,
    ?clz, ?ctz, ?popc⟩
  case add => exact does_scalar2 rfl rfl
  case sub => exact does_scalar2 rfl rfl
  case mul => exact does_scalar2 rfl rfl
  case mulh => exact does_scalar2 rfl (mulHigh_eq x y)
  case mulhu => exact does_scalar2 rfl (mulHighU_eq x y)
  case div => exact does_scalar2 rfl (divS_eq x y)
  case divu => exact does_scalar2 rfl (divU_eq x y)
  case rem => exact does_scalar2 rfl (remS_eq x y)
  case remu => exact does_scalar2 rfl (remU_eq x y)
  case and => exact does_scalar2 rfl rfl
  case or => exact does_scalar2 rfl rfl
  case xor => exact does_scalar2 rfl rfl
  case andn => exact does_scalar2 rfl rfl
  case shl => exact does_shift (f := fun x n => x <<< n) rfl
  case shr => exact does_shift (f := fun x n => x >>> n) rfl
  case sra => exact does_shift (f := BitVec.sshiftRight) rfl
  case rotl => exact does_shift (f := BitVec.rotateLeft) rfl
  case min => exact does_scalar2 rfl (ite_slt_eq_min x y)
  case max => exact does_scalar2 rfl (ite_slt_eq_max x y)
  case minu => exact does_scalar2 rfl (ite_ult_eq_min x y)
  case maxu => exact does_scalar2 rfl (ite_ult_eq_max x y)
  case clz => exact does_scalar1 rfl (clz64_eq x)
  case ctz => exact does_scalar1 rfl (ctz64_eq x)
  case popc => exact does_scalar1 rfl (popc64_eq x)

/-- Settles O2: the immediate forms are functions of one source, MOVHI of its own destination, and MOVI and SEL give their one result at once. -/
theorem scalarImmediateValues : Obligations.ScalarImmediateValues := by
  unfold Obligations.ScalarImmediateValues
  intro s d a i k q b x
  refine ⟨?addi, ?andi, ?ori, ?shli, ?shri, ?srai, ?sext, ?zext, ?movi, ?movhi, ?sel⟩
  case addi => exact does_scalar1 rfl rfl
  case andi => exact does_scalar1 rfl rfl
  case ori => exact does_scalar1 rfl rfl
  case shli => exact does_scalar1 rfl rfl
  case shri => exact does_scalar1 rfl rfl
  case srai => exact does_scalar1 rfl rfl
  case sext => exact does_scalar1 rfl (sextLow_eq x i)
  case zext => exact does_scalar1 rfl (zextLow_eq x i)
  case movi => exact does_result rfl rfl
  case movhi => exact does_scalar1 rfl rfl
  case sel => exact does_result rfl rfl

end Sys2Proof.Proofs

/-! SUPPORT. Vector operands and comparison: the elements of a register as bit vectors of their width, the tag check of two sources, and what ICMP and the
bitwise forms do (08 R167, R176). -/

namespace Sys2Proof.Proofs

open Sys2Proof Sys2Proof.Machine Sys2Proof.Laws Sys2Proof.Claims

/-! ## Elements and tags -/

theorem width_pos (t : Tag) : 0 < Fmt.width t := by
  unfold Fmt.width
  split_ifs <;> decide

theorem elem_lt (w : Nat) (v : VReg) (k : Nat) : elem w v k < 2 ^ w := Nat.mod_lt _ (Nat.two_pow_pos w)

theorem toNat_ofNat_elem (w : Nat) (v : VReg) (k : Nat) : (BitVec.ofNat w (elem w v k)).toNat = elem w v k := Nat.mod_eq_of_lt (elem_lt w v k)

/-- An element-wise form of two registers may take the elements as bit vectors of their width. -/
theorem zipWith_elems_congr {α : Type} {w : Nat} {g : Nat → Nat → α} {f : BitVec w → BitVec w → α} (h : ∀ p q, g p.toNat q.toNat = f p q) (x y : VReg) :
    List.zipWith g (elems w x) (elems w y) = List.zipWith (fun a b => f (BitVec.ofNat w a) (BitVec.ofNat w b)) (elems w x) (elems w y) := by
  simp only [elems, List.zipWith_map, List.zipWith_self, ← h, toNat_ofNat_elem]

/-- Two sources of one accepted tag raise no tag fault. -/
theorem tagFaults_pair {c : Core} {ok : Tag → Bool} {a b : BitVec 6} (hok : ok (c.ctx.getVTag a.toNat) = true)
    (htag : c.ctx.getVTag b.toNat = c.ctx.getVTag a.toNat) : tagFaults c ok [a, b] = [] := by
  simp [tagFaults, hok, htag]

/-! ## Comparison -/

theorem signedOf_toNat_self {w : Nat} (hw : 0 < w) (p : BitVec w) : signedOf w p.toNat = p.toInt := by
  obtain ⟨n, rfl⟩ := Nat.exists_eq_succ_of_ne_zero hw.ne'
  rw [signedOf_toNat, BitVec.setWidth_eq]

section
variable {w : Nat} (p q : BitVec w)

theorem icmpElem_eq : icmpElem w 0 p.toNat q.toNat = (p == q) := decide_eq_decide.mpr BitVec.toNat_inj

theorem icmpElem_ne : icmpElem w 1 p.toNat q.toNat = (p != q) := by
  show decide (p.toNat ≠ q.toNat) = _
  simp [BitVec.toNat_inj, bne, Bool.beq_eq_decide_eq]

theorem icmpElem_lt (hw : 0 < w) : icmpElem w 2 p.toNat q.toNat = p.slt q := by
  show decide (signedOf w p.toNat < signedOf w q.toNat) = _
  rw [signedOf_toNat_self hw, signedOf_toNat_self hw, BitVec.slt]

theorem icmpElem_ge (hw : 0 < w) : icmpElem w 3 p.toNat q.toNat = q.sle p := by
  show decide (signedOf w q.toNat ≤ signedOf w p.toNat) = _
  rw [signedOf_toNat_self hw, signedOf_toNat_self hw, BitVec.sle]

theorem icmpElem_ltu : icmpElem w 4 p.toNat q.toNat = p.ult q := rfl

theorem icmpElem_geu : icmpElem w 5 p.toNat q.toNat = q.ule p := rfl

end

section
variable {s : State} {i : Instr} {m cc : BitVec 3} {d a b : BitVec 6}

/-- ICMP completes with the mask of the relation that its code says of two elements. -/
theorem does_icmp {f : BitVec (width (vtag s a)) → BitVec (width (vtag s a)) → Bool} (hexec : exec i s = issueSlot i (vicmp m cc a b) s)
    (hint : Fmt.isInt (vtag s a) = true) (htag : vtag s b = vtag s a) (h : ∀ p q, icmpElem (width (vtag s a)) cc p.toNat q.toNat = f p q) :
    Does s i [toM 2 m (maskWhere (width (vtag s a)) f (vreg s a) (vreg s b))] :=
  does_result hexec (by rw [vicmp, tagFaults_pair hint htag, zipWith_elems_congr h]; rfl)

/-- A bitwise form completes with its operation on the whole registers, under the tag of its first source. -/
theorem does_bits {f : VReg → VReg → VReg} (hexec : exec i s = issueSlot i (vbits d a b f) s) :
    Does s i [toV s 2 d (f (vreg s a) (vreg s b)) (vtag s a)] := does_result hexec rfl

end

/-! ## The statement -/

/-- Settles O13: each code of ICMP is its relation on the elements as bit vectors, whatever the tag, and a bitwise form looks at no tag. -/
theorem vectorLogicAndCompare : Obligations.VectorLogicAndCompare := by
  unfold Obligations.VectorLogicAndCompare
  intro s d a b m cc
  refine ⟨?icmp, ⟨does_bits rfl, does_bits rfl⟩, ⟨does_bits rfl, does_bits rfl⟩, ⟨does_bits rfl, does_bits rfl⟩⟩
  intro hint htag mask x hx
  have both {cc : BitVec 3} {f : BitVec (width (vtag s a)) → BitVec (width (vtag s a)) → Bool}
      (h : ∀ p q, icmpElem (width (vtag s a)) cc p.toNat q.toNat = f p q) :
      Both s (.icmpV0 m cc a b) (.icmpV1 m cc a b) [toM 2 m (maskWhere (width (vtag s a)) f (vreg s a) (vreg s b))] :=
    ⟨does_icmp rfl hint htag h, does_icmp rfl hint htag h⟩
  have hw : 0 < width (vtag s a) := width_pos (vtag s a)
  obtain ⟨rfl, rfl⟩ | ⟨rfl, rfl⟩ | ⟨rfl, rfl⟩ | ⟨rfl, rfl⟩ | ⟨rfl, rfl⟩ | ⟨rfl, rfl⟩ := hx
  · exact both icmpElem_eq
  case inr.inl => exact both icmpElem_ne
  case inr.inr.inl => exact both fun p q => icmpElem_lt p q hw
  case inr.inr.inr.inl => exact both fun p q => icmpElem_ge p q hw
  case inr.inr.inr.inr.inl => exact both icmpElem_ltu
  case inr.inr.inr.inr.inr => exact both icmpElem_geu

end Sys2Proof.Proofs

/-! SUPPORT. The canonical form of the machine's maps over a step: slot instructions act through `issueSlot`, micro-ops through `bankUop`, events each
by an operation of their own. -/

namespace Sys2Proof.Proofs

open Sys2Proof Sys2Proof.Machine Sys2Proof.Laws

/-- Every slot instruction contributes to the bundle in issue, and does nothing else. -/
theorem exec_eq_issueSlot {i : Instr} (h : i.slotParts.isSome = true) : ∃ body, ∀ s, exec i s = issueSlot i body s := by
  cases i <;> cases h <;> exact ⟨_, fun _ => rfl⟩

section
variable {s : State}

theorem wf_execUopRdc {a : BitVec 2} {o : BitVec 5} {f : BitVec 2} (h : s.Canonical) : ∀ t, execUopRdc a o f s = .next t → t.Canonical := by
  refine wf_joined (fun k pc bank g b => ?_) h
  split
  case h_1 row hrow =>
    have hc : ((s.chargeEngine k pc bank).colLatest k pc bank row (b.column o)).1.Canonical := wf_colLatest (wf_chargeEngine h)
    exact wf_ite (wf_bankConsumes (wf_setBankAt hc)) (wf_setBankAt hc)
  case h_2 => exact wf_bankFault h

theorem wf_execUopWrc {a : BitVec 2} {o : BitVec 5} {f : BitVec 2} (h : s.Canonical) : ∀ t, execUopWrc a o f s = .next t → t.Canonical := by
  refine wf_joined (fun k pc bank g b => ?_) h
  split
  case h_1 row hrow =>
    have hc : ((s.chargeEngine k pc bank).colLatest k pc bank row (b.column o)).1.Canonical := wf_colLatest (wf_chargeEngine h)
    exact wf_ite h (wf_queueWrite (wf_setBankAt hc))
  case h_2 => exact wf_bankFault h

theorem wf_execUopMac {d a : BitVec 2} {k : BitVec 3} (h : s.Canonical) : ∀ t, execUopMac d a k s = .next t → t.Canonical := by
  unfold execUopMac
  exact wf_laneOp h

theorem wf_execUopAdd {d a : BitVec 2} (h : s.Canonical) : ∀ t, execUopAdd d a s = .next t → t.Canonical := by
  unfold execUopAdd
  exact wf_laneOp h

theorem wf_execUopScl {d a : BitVec 2} {k : BitVec 3} (h : s.Canonical) : ∀ t, execUopScl d a k s = .next t → t.Canonical := by
  unfold execUopScl
  exact wf_laneOp h

theorem wf_execUopLoopc {n : BitVec 7} (h : s.Canonical) : ∀ t, execUopLoopc n s = .next t → t.Canonical := by
  refine wf_joined (fun k pc bank g b => ?_) h
  exact wf_setBankAt h

/-- Whatever the instruction, the canonical forms are kept. -/
theorem wf_exec {i : Instr} (h : s.Canonical) : ∀ t, exec i s = .next t → t.Canonical := by
  by_cases hslot : i.slotParts.isSome = true
  · obtain ⟨body, hbody⟩ := exec_eq_issueSlot hslot
    rw [hbody]
    exact wf_issueSlot h
  cases i
  case uopRdc => exact wf_execUopRdc h
  case uopWrc => exact wf_execUopWrc h
  case uopMac => exact wf_execUopMac h
  case uopAdd => exact wf_execUopAdd h
  case uopScl => exact wf_execUopScl h
  case uopNcol => exact wf_bankStep h
  case uopLoopc => exact wf_execUopLoopc h
  case uopEnd => exact wf_execUopEnd h
  case uopAct => exact wf_execUopAct h
  case uopRowend => exact wf_execUopRowend h
  case uopWaits => exact wf_execUopWaits h
  case ownCompareAndSwap => exact wf_execOwnCompareAndSwap h
  case handoffWrite => exact wf_execHandoffWrite h
  case ptabWrite => exact wf_execPtabWrite h
  case partitionChangeStep => exact wf_execPartitionChangeStep h
  case pceilWrite => exact wf_execPceilWrite h
  case windowEntryWrite => exact wf_execWindowEntryWrite h
  case streamWrite => exact wf_execStreamWrite h
  case controlWindowWrite => exact wf_execControlWindowWrite h
  case recordClear => exact wf_execRecordClear h
  case packagePowerOn => exact wf_execPackagePowerOn h
  case bringUpStepDone => exact wf_execBringUpStepDone h
  case epochBoundary => exact wf_execEpochBoundary h
  case budgetInterval => exact wf_execBudgetInterval h
  case sensorRead => exact wf_execSensorRead h
  case coolantLoss => exact wf_execCoolantLoss h
  case railOutOfRange => exact wf_execRailOutOfRange h
  case readinessRequest => exact wf_execReadinessRequest h
  case waitNodeRead => exact wf_execWaitNodeRead h
  case bulkNodeComplete => exact wf_execBulkNodeComplete h
  case signalNodeComplete => exact wf_execSignalNodeComplete h
  case submissionStart => exact wf_execSubmissionStart h
  case submissionEnd => exact wf_execSubmissionEnd h
  case launchRequestSend => exact wf_execLaunchRequestSend h
  case slotRecordWrite => exact wf_execSlotRecordWrite h
  case dispatchBind => exact wf_execDispatchBind h
  case displace => exact wf_execDisplace h
  case ageAlarm => exact wf_execAgeAlarm h
  case sliceExpiry => exact wf_execSliceExpiry h
  case preemption => exact wf_execPreemption h
  case contextSaveComplete => exact wf_execContextSaveComplete h
  case taskParked => exact wf_execTaskParked h
  case parkBeaconMet => exact wf_execParkBeaconMet h
  case taskRetire => exact wf_execTaskRetire h
  case cpWatchdog => exact wf_execCpWatchdog h
  case schWatchdog => exact wf_execSchWatchdog h
  case firmwareRestartDone => exact wf_execFirmwareRestartDone h
  case pipelineWriteback => exact wf_execPipelineWriteback h
  case landingArrival => exact wf_execLandingArrival h
  case landingWrite => exact wf_execLandingWrite h
  case freezeTimeout => exact wf_execFreezeTimeout h
  case waitPark => exact wf_execWaitPark h
  case beaconPoll => exact wf_execBeaconPoll h
  case engineComplete => exact wf_execEngineComplete h
  case mOperationComplete => exact wf_execMOperationComplete h
  case gatherRowLand => exact wf_execGatherRowLand h
  case bagRowStream => exact wf_execBagRowStream h
  case cacheFillComplete => exact wf_execCacheFillComplete h
  case atomicHomeApply => exact wf_execAtomicHomeApply h
  case bankgoBeqRelease => exact wf_execBankgoBeqRelease h
  case rpkRoundCombine => exact wf_execRpkRoundCombine h
  case roundTimeout => exact wf_execRoundTimeout h
  case ordinaryRequest => exact wf_execOrdinaryRequest h
  case controllerCycle => exact wf_execControllerCycle h
  case requestAged => exact wf_execRequestAged h
  case refreshDue => exact wf_execRefreshDue h
  case bdcHeartbeat => exact wf_execBdcHeartbeat h
  case refreshTakeover => exact wf_execRefreshTakeover h
  case refreshHandback => exact wf_execRefreshHandback h
  case bankHoldTimeout => exact wf_execBankHoldTimeout h
  case bankldApply => exact wf_execBankldApply h
  case bankProgramStart => exact wf_execBankProgramStart h
  case actAdmit => exact wf_execActAdmit h
  case arbitrationWindow => exact wf_execArbitrationWindow h
  case waitsRelease => exact wf_execWaitsRelease h
  case bankProgramStop => exact wf_execBankProgramStop h
  case pageRetirement => exact wf_execPageRetirement h
  case pageMoveLine => exact wf_execPageMoveLine h
  case pageMoveSwitch => exact wf_execPageMoveSwitch h
  case flitReceive => exact wf_execFlitReceive h
  case portRetrain => exact wf_execPortRetrain h
  case fabricRequestTimeout => exact wf_execFabricRequestTimeout h
  case vcStopGo => exact wf_execVcStopGo h
  case ownerTimeout => exact wf_execOwnerTimeout h
  case bulkheadReset => exact wf_execBulkheadReset h
  case segmentCommit => exact wf_execSegmentCommit h
  case rewind => exact wf_execRewind h
  case rerunStart => exact wf_execRerunStart h
  case walkComplete => exact wf_execWalkComplete h
  case scoreboardEntryRetire => exact wf_execScoreboardEntryRetire h
  case bfenceMarker => exact wf_execBfenceMarker h
  all_goals exact absurd rfl hslot

end

/-- Settles O57: a step keeps the canonical forms because every instruction does, the trailing cores' parts included. -/
theorem stepKeepsCanonicalForm : Obligations.StepKeepsCanonicalForm := fun _ _ h hstep => wf_step_of_exec (fun _ _ t h ht => wf_exec h t ht) h hstep

end Sys2Proof.Proofs

/-! SUPPORT. Encoding and decoding: the fields of an encoded word, and what they decode to (06 R116, 13 R286). -/

namespace Sys2Proof.Proofs

open Sys2Proof Sys2Proof.Machine Sys2Proof.Laws

/-- Each constructor has its lemma. -/
theorem encoding_statement (i : Instr) : Encoding.Statement i := match i with
  | .add .. => Encoding.add .. | .sub .. => Encoding.sub .. | .mul .. => Encoding.mul .. | .mulh .. => Encoding.mulh ..
  | .mulhu .. => Encoding.mulhu .. | .div .. => Encoding.div .. | .divu .. => Encoding.divu .. | .rem .. => Encoding.rem ..
  | .remu .. => Encoding.remu .. | .and .. => Encoding.and .. | .or .. => Encoding.or .. | .xor .. => Encoding.xor .. | .andn .. => Encoding.andn ..
  | .shl .. => Encoding.shl .. | .shr .. => Encoding.shr .. | .sra .. => Encoding.sra .. | .rotl .. => Encoding.rotl .. | .min .. => Encoding.min ..
  | .max .. => Encoding.max .. | .minu .. => Encoding.minu .. | .maxu .. => Encoding.maxu .. | .clz .. => Encoding.clz .. | .ctz .. => Encoding.ctz ..
  | .popc .. => Encoding.popc .. | .sext .. => Encoding.sext .. | .zext .. => Encoding.zext .. | .addi .. => Encoding.addi ..
  | .andi .. => Encoding.andi .. | .ori .. => Encoding.ori .. | .shli .. => Encoding.shli .. | .shri .. => Encoding.shri ..
  | .srai .. => Encoding.srai .. | .movi .. => Encoding.movi .. | .movhi .. => Encoding.movhi .. | .sel .. => Encoding.sel ..
  | .cmp .. => Encoding.cmp .. | .cmpi .. => Encoding.cmpi .. | .lds .. => Encoding.lds .. | .sts .. => Encoding.sts .. | .br .. => Encoding.br ..
  | .bri .. => Encoding.bri .. | .call .. => Encoding.call .. | .launch .. => Encoding.launch .. | .park .. => Encoding.park ..
  | .trap .. => Encoding.trap .. | .csrr .. => Encoding.csrr .. | .csrw .. => Encoding.csrw .. | .csrs .. => Encoding.csrs ..
  | .edw .. => Encoding.edw .. | .edld .. => Encoding.edld .. | .seg .. => Encoding.seg .. | .rdv .. => Encoding.rdv ..
  | .faddV0 .. => Encoding.faddV0 .. | .faddV1 .. => Encoding.faddV1 .. | .fsubV0 .. => Encoding.fsubV0 .. | .fsubV1 .. => Encoding.fsubV1 ..
  | .fmulV0 .. => Encoding.fmulV0 .. | .fmulV1 .. => Encoding.fmulV1 .. | .fmaV0 .. => Encoding.fmaV0 .. | .fmaV1 .. => Encoding.fmaV1 ..
  | .fmsV0 .. => Encoding.fmsV0 .. | .fmsV1 .. => Encoding.fmsV1 .. | .fminV0 .. => Encoding.fminV0 .. | .fminV1 .. => Encoding.fminV1 ..
  | .fmaxV0 .. => Encoding.fmaxV0 .. | .fmaxV1 .. => Encoding.fmaxV1 .. | .fabsV0 .. => Encoding.fabsV0 .. | .fabsV1 .. => Encoding.fabsV1 ..
  | .fnegV0 .. => Encoding.fnegV0 .. | .fnegV1 .. => Encoding.fnegV1 .. | .fcpysV0 .. => Encoding.fcpysV0 .. | .fcpysV1 .. => Encoding.fcpysV1 ..
  | .fcmpV0 .. => Encoding.fcmpV0 .. | .fcmpV1 .. => Encoding.fcmpV1 .. | .iaddV0 .. => Encoding.iaddV0 .. | .iaddV1 .. => Encoding.iaddV1 ..
  | .isubV0 .. => Encoding.isubV0 .. | .isubV1 .. => Encoding.isubV1 .. | .imulV0 .. => Encoding.imulV0 .. | .imulV1 .. => Encoding.imulV1 ..
  | .imadV0 .. => Encoding.imadV0 .. | .imadV1 .. => Encoding.imadV1 .. | .iaddwV0 .. => Encoding.iaddwV0 .. | .iaddwV1 .. => Encoding.iaddwV1 ..
  | .imadwV0 .. => Encoding.imadwV0 .. | .imadwV1 .. => Encoding.imadwV1 .. | .iminV0 .. => Encoding.iminV0 .. | .iminV1 .. => Encoding.iminV1 ..
  | .imaxV0 .. => Encoding.imaxV0 .. | .imaxV1 .. => Encoding.imaxV1 .. | .iabsV0 .. => Encoding.iabsV0 .. | .iabsV1 .. => Encoding.iabsV1 ..
  | .andV0 .. => Encoding.andV0 .. | .andV1 .. => Encoding.andV1 .. | .orV0 .. => Encoding.orV0 .. | .orV1 .. => Encoding.orV1 ..
  | .xorV0 .. => Encoding.xorV0 .. | .xorV1 .. => Encoding.xorV1 .. | .shlV0 .. => Encoding.shlV0 .. | .shlV1 .. => Encoding.shlV1 ..
  | .shrV0 .. => Encoding.shrV0 .. | .shrV1 .. => Encoding.shrV1 .. | .sraV0 .. => Encoding.sraV0 .. | .sraV1 .. => Encoding.sraV1 ..
  | .icmpV0 .. => Encoding.icmpV0 .. | .icmpV1 .. => Encoding.icmpV1 .. | .cvtV0 .. => Encoding.cvtV0 .. | .cvtV1 .. => Encoding.cvtV1 ..
  | .cvtnV0 .. => Encoding.cvtnV0 .. | .cvtnV1 .. => Encoding.cvtnV1 .. | .unpklV0 .. => Encoding.unpklV0 .. | .unpklV1 .. => Encoding.unpklV1 ..
  | .unpkhV0 .. => Encoding.unpkhV0 .. | .unpkhV1 .. => Encoding.unpkhV1 .. | .packV0 .. => Encoding.packV0 .. | .packV1 .. => Encoding.packV1 ..
  | .setfmtV0 .. => Encoding.setfmtV0 .. | .setfmtV1 .. => Encoding.setfmtV1 .. | .vmovV0 .. => Encoding.vmovV0 .. | .vmovV1 .. => Encoding.vmovV1 ..
  | .vmoviV0 .. => Encoding.vmoviV0 .. | .vmoviV1 .. => Encoding.vmoviV1 .. | .vbcstV0 .. => Encoding.vbcstV0 .. | .vbcstV1 .. => Encoding.vbcstV1 ..
  | .vextV0 .. => Encoding.vextV0 .. | .vextV1 .. => Encoding.vextV1 .. | .vselV0 .. => Encoding.vselV0 .. | .vselV1 .. => Encoding.vselV1 ..
  | .vpermV0 .. => Encoding.vpermV0 .. | .vpermV1 .. => Encoding.vpermV1 .. | .vrotV0 .. => Encoding.vrotV0 .. | .vrotV1 .. => Encoding.vrotV1 ..
  | .xclV0 .. => Encoding.xclV0 .. | .xclV1 .. => Encoding.xclV1 .. | .xclbV0 .. => Encoding.xclbV0 .. | .xclbV1 .. => Encoding.xclbV1 ..
  | .vscanV0 .. => Encoding.vscanV0 .. | .vscanV1 .. => Encoding.vscanV1 .. | .vredV0 .. => Encoding.vredV0 .. | .vredV1 .. => Encoding.vredV1 ..
  | .vst .. => Encoding.vst .. | .vsts .. => Encoding.vsts .. | .vstx .. => Encoding.vstx .. | .vlds .. => Encoding.vlds ..
  | .vldx .. => Encoding.vldx .. | .vldb .. => Encoding.vldb .. | .vldInt32 .. => Encoding.vldInt32 .. | .vldUint32 .. => Encoding.vldUint32 ..
  | .vldFp32 .. => Encoding.vldFp32 .. | .vldInt16 .. => Encoding.vldInt16 .. | .vldUint16 .. => Encoding.vldUint16 ..
  | .vldFp16 .. => Encoding.vldFp16 .. | .vldBf16 .. => Encoding.vldBf16 .. | .vldInt8 .. => Encoding.vldInt8 ..
  | .vldUint8 .. => Encoding.vldUint8 .. | .vldE4m3 .. => Encoding.vldE4m3 .. | .vldE5m2 .. => Encoding.vldE5m2 ..
  | .vldE8m0 .. => Encoding.vldE8m0 .. | .mkand .. => Encoding.mkand .. | .mkor .. => Encoding.mkor .. | .mknot .. => Encoding.mknot ..
  | .frcp .. => Encoding.frcp .. | .frsq .. => Encoding.frsq .. | .fsqrt .. => Encoding.fsqrt .. | .fexp2 .. => Encoding.fexp2 ..
  | .flog2 .. => Encoding.flog2 .. | .ftanh .. => Encoding.ftanh .. | .mldw .. => Encoding.mldw .. | .mswap .. => Encoding.mswap ..
  | .mmul .. => Encoding.mmul .. | .mmuls .. => Encoding.mmuls .. | .mbagAcc .. => Encoding.mbagAcc .. | .mbagSteer .. => Encoding.mbagSteer ..
  | .mzero .. => Encoding.mzero .. | .manch .. => Encoding.manch .. | .mrd .. => Encoding.mrd .. | .mst .. => Encoding.mst ..
  | .maddv .. => Encoding.maddv .. | .mstat .. => Encoding.mstat .. | .mtrl .. => Encoding.mtrl .. | .mldt .. => Encoding.mldt ..
  | .mstt .. => Encoding.mstt .. | .mcode .. => Encoding.mcode .. | .cpy .. => Encoding.cpy .. | .cpym .. => Encoding.cpym ..
  | .gath .. => Encoding.gath .. | .scat .. => Encoding.scat .. | .fill .. => Encoding.fill .. | .bulk .. => Encoding.bulk ..
  | .au .. => Encoding.au .. | .aui .. => Encoding.aui .. | .amov .. => Encoding.amov .. | .aget .. => Encoding.aget .. | .loop .. => Encoding.loop ..
  | .lstep .. => Encoding.lstep .. | .pand .. => Encoding.pand .. | .por .. => Encoding.por .. | .pxor .. => Encoding.pxor ..
  | .pnot .. => Encoding.pnot .. | .pmov .. => Encoding.pmov .. | .pset .. => Encoding.pset .. | .stage .. => Encoding.stage ..
  | .kclr .. => Encoding.kclr .. | .probe .. => Encoding.probe .. | .probei .. => Encoding.probei .. | .pwb .. => Encoding.pwb ..
  | .pinv .. => Encoding.pinv .. | .ppin .. => Encoding.ppin .. | .ldg .. => Encoding.ldg .. | .ldgi .. => Encoding.ldgi ..
  | .ldgv .. => Encoding.ldgv .. | .stg .. => Encoding.stg .. | .stgv .. => Encoding.stgv .. | .lda .. => Encoding.lda .. | .stl .. => Encoding.stl ..
  | .aadd .. => Encoding.aadd .. | .aaddf .. => Encoding.aaddf .. | .aaddqFp32 .. => Encoding.aaddqFp32 .. | .aaddqBf16 .. => Encoding.aaddqBf16 ..
  | .aaddqFp16 .. => Encoding.aaddqFp16 .. | .amin .. => Encoding.amin .. | .amax .. => Encoding.amax .. | .aand .. => Encoding.aand ..
  | .aor .. => Encoding.aor .. | .axor .. => Encoding.axor .. | .axch .. => Encoding.axch .. | .acas .. => Encoding.acas ..
  | .drain .. => Encoding.drain .. | .bfence .. => Encoding.bfence .. | .twait .. => Encoding.twait .. | .bwait .. => Encoding.bwait ..
  | .badd .. => Encoding.badd .. | .phase .. => Encoding.phase .. | .rpkX .. => Encoding.rpkX .. | .rpkF .. => Encoding.rpkF ..
  | .bankld .. => Encoding.bankld .. | .bankgo .. => Encoding.bankgo .. | .uopRdc .. => Encoding.uopRdc .. | .uopWrc .. => Encoding.uopWrc ..
  | .uopMac .. => Encoding.uopMac .. | .uopAdd .. => Encoding.uopAdd .. | .uopScl .. => Encoding.uopScl .. | .uopNcol .. => Encoding.uopNcol ..
  | .uopLoopc .. => Encoding.uopLoopc .. | .nop => Encoding.nop | .ret => Encoding.ret | .halt => Encoding.halt | .eret => Encoding.eret
  | .phwait => Encoding.phwait | .uopEnd => Encoding.uopEnd | .uopAct => Encoding.uopAct | .uopRowend => Encoding.uopRowend
  | .uopWaits => Encoding.uopWaits | .ownCompareAndSwap => Encoding.ownCompareAndSwap | .handoffWrite => Encoding.handoffWrite
  | .ptabWrite => Encoding.ptabWrite | .partitionChangeStep => Encoding.partitionChangeStep | .pceilWrite => Encoding.pceilWrite
  | .windowEntryWrite => Encoding.windowEntryWrite | .streamWrite => Encoding.streamWrite | .controlWindowWrite => Encoding.controlWindowWrite
  | .recordClear => Encoding.recordClear | .packagePowerOn => Encoding.packagePowerOn | .bringUpStepDone => Encoding.bringUpStepDone
  | .epochBoundary => Encoding.epochBoundary | .budgetInterval => Encoding.budgetInterval | .sensorRead => Encoding.sensorRead
  | .coolantLoss => Encoding.coolantLoss | .railOutOfRange => Encoding.railOutOfRange | .readinessRequest => Encoding.readinessRequest
  | .waitNodeRead => Encoding.waitNodeRead | .bulkNodeComplete => Encoding.bulkNodeComplete | .signalNodeComplete => Encoding.signalNodeComplete
  | .submissionStart => Encoding.submissionStart | .submissionEnd => Encoding.submissionEnd | .launchRequestSend => Encoding.launchRequestSend
  | .slotRecordWrite => Encoding.slotRecordWrite | .dispatchBind => Encoding.dispatchBind | .displace => Encoding.displace
  | .ageAlarm => Encoding.ageAlarm | .sliceExpiry => Encoding.sliceExpiry | .preemption => Encoding.preemption
  | .contextSaveComplete => Encoding.contextSaveComplete | .taskParked => Encoding.taskParked | .parkBeaconMet => Encoding.parkBeaconMet
  | .taskRetire => Encoding.taskRetire | .cpWatchdog => Encoding.cpWatchdog | .schWatchdog => Encoding.schWatchdog
  | .firmwareRestartDone => Encoding.firmwareRestartDone | .pipelineWriteback => Encoding.pipelineWriteback
  | .landingArrival => Encoding.landingArrival | .landingWrite => Encoding.landingWrite | .freezeTimeout => Encoding.freezeTimeout
  | .waitPark => Encoding.waitPark | .beaconPoll => Encoding.beaconPoll | .engineComplete => Encoding.engineComplete
  | .mOperationComplete => Encoding.mOperationComplete | .gatherRowLand => Encoding.gatherRowLand | .bagRowStream => Encoding.bagRowStream
  | .cacheFillComplete => Encoding.cacheFillComplete | .atomicHomeApply => Encoding.atomicHomeApply | .bankgoBeqRelease => Encoding.bankgoBeqRelease
  | .rpkRoundCombine => Encoding.rpkRoundCombine | .roundTimeout => Encoding.roundTimeout | .ordinaryRequest => Encoding.ordinaryRequest
  | .controllerCycle => Encoding.controllerCycle | .requestAged => Encoding.requestAged | .refreshDue => Encoding.refreshDue
  | .bdcHeartbeat => Encoding.bdcHeartbeat | .refreshTakeover => Encoding.refreshTakeover | .refreshHandback => Encoding.refreshHandback
  | .bankHoldTimeout => Encoding.bankHoldTimeout | .bankldApply => Encoding.bankldApply | .bankProgramStart => Encoding.bankProgramStart
  | .actAdmit => Encoding.actAdmit | .arbitrationWindow => Encoding.arbitrationWindow | .waitsRelease => Encoding.waitsRelease
  | .bankProgramStop => Encoding.bankProgramStop | .pageRetirement => Encoding.pageRetirement | .pageMoveLine => Encoding.pageMoveLine
  | .pageMoveSwitch => Encoding.pageMoveSwitch | .flitReceive => Encoding.flitReceive | .portRetrain => Encoding.portRetrain
  | .fabricRequestTimeout => Encoding.fabricRequestTimeout | .vcStopGo => Encoding.vcStopGo | .ownerTimeout => Encoding.ownerTimeout
  | .bulkheadReset => Encoding.bulkheadReset | .segmentCommit => Encoding.segmentCommit | .rewind => Encoding.rewind
  | .rerunStart => Encoding.rerunStart | .walkComplete => Encoding.walkComplete | .scoreboardEntryRetire => Encoding.scoreboardEntryRetire
  | .bfenceMarker => Encoding.bfenceMarker

/-! ## Slot words -/

/-- A slot word as `encode` lays it out. -/
abbrev wordOf (h : SlotHeader) (q : SlotParts) : SlotWord :=
  BitVec.ofBool h.stop ++ h.port ++ q.selector.getD h.guard ++ q.opc ++ q.operands

section
variable (h : SlotHeader) (q : SlotParts)

theorem stop_wordOf : Decode.stop (wordOf h q) = h.stop := by
  have : (wordOf h q).extractLsb' 31 1 = BitVec.ofBool h.stop := by
    refine Encoding.field_eq ?_
    have := h.port.isLt
    have := (q.selector.getD h.guard).isLt
    have := q.opc.isLt
    have := q.operands.isLt
    have := (BitVec.ofBool h.stop).isLt
    rw [wordOf, Encoding.cat5]
    omega
  rw [Decode.stop, this]
  cases h.stop <;> decide

theorem port_wordOf : Decode.port (wordOf h q) = h.port := by
  refine Encoding.field_eq ?_
  have := h.port.isLt
  have := (q.selector.getD h.guard).isLt
  have := q.opc.isLt
  have := q.operands.isLt
  rw [wordOf, Encoding.cat5]
  omega

theorem guard_wordOf : Decode.guard (wordOf h q) = q.selector.getD h.guard := by
  refine Encoding.field_eq ?_
  have := (q.selector.getD h.guard).isLt
  have := q.opc.isLt
  have := q.operands.isLt
  rw [wordOf, Encoding.cat5]
  omega

theorem opc_wordOf : Decode.opc (wordOf h q) = q.opc := by
  refine Encoding.field_eq ?_
  have := q.opc.isLt
  have := q.operands.isLt
  rw [wordOf, Encoding.cat5]
  omega

theorem operands_wordOf : Decode.operands (wordOf h q) = q.operands := by
  refine Encoding.field_eq ?_
  have := q.operands.isLt
  rw [wordOf, Encoding.cat5]
  omega

end

theorem encode_eq_wordOf {i : Instr} {q : SlotParts} {h : SlotHeader} (hq : i.slotParts = some q) (hport : h.port ∈ q.ports) :
    encode ⟨h, i⟩ = some (wordOf h q) := by
  rw [encode, hq, Option.bind_some]
  exact if_pos hport

/-- The word of an instruction decodes to it, under the header whose GUARD field the word holds. -/
theorem decodeSlot_wordOf {i : Instr} {q : SlotParts} {h : SlotHeader} (hq : i.slotParts = some q) (hport : h.port ∈ q.ports) :
    decodeSlot (wordOf h q) = .ok ⟨{ h with guard := q.selector.getD h.guard }, i⟩ := by
  have hselector : q.selector.getD (q.selector.getD h.guard) = q.selector.getD h.guard := by cases q.selector <;> rfl
  have hinstr : decodeInstr (wordOf h q) = .ok i :=
    (encoding_statement i).1 q _ hq (by rwa [port_wordOf]) (by rwa [guard_wordOf]) (opc_wordOf h q) (operands_wordOf h q)
  rw [decodeSlot, hinstr, Decode.header, stop_wordOf, port_wordOf, guard_wordOf]
  rfl

/-! ## Micro-ops -/

/-- The target that a micro-op's word holds: bits [11:7], in the two forms that have one. -/
def wordTarget (i : Instr) (w : BitVec 16) : BitVec 5 := match i with
  | .uopLoopc _ => w.extractLsb' 7 5
  | .uopRowend => w.extractLsb' 7 5
  | _ => 0

theorem clearUop_inv {mask w : BitVec 16} {t : BitVec 5} {i : Instr} {u : UopSlot} (h : Decode.clearUop mask w t i = .ok u) : u = ⟨t, i⟩ := by
  unfold Decode.clearUop at h
  split at h
  · exact (Except.ok.inj h).symm
  · cases h

theorem decodeUop_target {w : BitVec 16} {u : UopSlot} (h : decodeUop w = .ok u) : u.target = wordTarget u.instr w := by
  unfold decodeUop at h
  split at h
  case h_12 => cases h
  all_goals
    obtain rfl := clearUop_inv h
    rfl

theorem wordTarget_encodeUop {t : BitVec 5} {i : Instr} {w : BitVec 16} (h : encodeUop ⟨t, i⟩ = some w) :
    wordTarget i w = if i = .uopRowend ∨ (∃ n, i = .uopLoopc n) then t else 0 := by
  have htarget := t.isLt
  cases i
  case uopLoopc n =>
    obtain rfl := Option.some.inj h
    rw [if_pos (Or.inr ⟨n, rfl⟩)]
    show (8#4 ++ t ++ n).extractLsb' 7 5 = t
    have := n.isLt
    exact Encoding.field_eq (by rw [Encoding.cat3]; omega)
  case uopRowend =>
    obtain rfl := Option.some.inj h
    rw [if_pos (Or.inl rfl)]
    show (9#4 ++ t ++ 0#7).extractLsb' 7 5 = t
    exact Encoding.field_eq (by rw [Encoding.cat3]; omega)
  all_goals
    rw [if_neg (by simp)]
    rfl

theorem decodeUop_encodeUop {t : BitVec 5} {i : Instr} {w : BitVec 16} (h : encodeUop ⟨t, i⟩ = some w) :
    decodeUop w = .ok ⟨if i = .uopRowend ∨ (∃ n, i = .uopLoopc n) then t else 0, i⟩ := by
  obtain ⟨u, hu, -⟩ := (encoding_statement i).2 t w h
  rw [hu, show u = _ from (decodeUop_target hu).trans (wordTarget_encodeUop h)]

/-! ## The statement -/

/-- What is neither a slot instruction nor a micro-op is an event. -/
theorem slot_or_uop_or_event (i : Instr) : i.slotParts.isSome = true ∨ (∃ w, encodeUop ⟨0, i⟩ = some w) ∨ isEvent i = true := by
  cases hslot : i.slotParts with
  | some q => exact Or.inl rfl
  | none =>
    cases huop : encodeUop ⟨0, i⟩ with
    | some w => exact Or.inr (Or.inl ⟨w, rfl⟩)
    | none => exact Or.inr (Or.inr (by rw [isEvent, hslot, huop]; rfl))

/-- Settles O58: the fields of an encoded word are the instruction's, each constructor decodes from its own fields, and a micro-op's target stands in
bits [11:7] of its code where it has one. -/
theorem decodeAfterEncode : Obligations.DecodeAfterEncode :=
  ⟨fun _ q h hq hport => ⟨wordOf h q, encode_eq_wordOf hq hport, decodeSlot_wordOf hq hport⟩, fun _ _ _ h => decodeUop_encodeUop h,
    slot_or_uop_or_event⟩

end Sys2Proof.Proofs

/-! SUPPORT. The end of a bundle that is one slot's alone: what its effects make of the core, and what the end of the cycle adds (03 R69, R73). -/

namespace Sys2Proof.Proofs

open Sys2Proof Sys2Proof.Machine Sys2Proof.Laws Sys2Proof.Claims

/-! ## Completing -/

/-- Effects that neither consume poison nor trap nor stop at a gate. -/
def Clean (es : List Effect) : Prop := walkPoisonOf es = none ∧ poisonOf es = none ∧ trapOf es = none ∧ gateStopsOf es = []

section
variable {s : State} {i : Instr} {es : List Effect} {bnd : Bool} {more : List Use} {bk so : List Nat} {q e : Bool}

/-- A slot whose body gives effects alone, and uses no bank that the bundle uses already, completes with them. -/
theorem does_of_body {body : State → Core → SlotOut} (hexec : exec i s = issueSlot i body s)
    (hbody : body s (here s) = { effects := es, banks := bk, sbOps := so, reads := more, qualifies := q, ends := e, boundary := bnd })
    (hbanks : ∀ b ∈ bk, b ∉ (here s).iss.banks) (hclean : Clean es) : Does s i es bnd more := fun hready => by
  obtain ⟨hwalk, hpoison, htrap, hgate⟩ := hclean
  exact hexec.trans (issueSlot_ready hready hbody hbanks hwalk hpoison htrap hgate)

/-- The same of a slot that does no more than use banks. -/
theorem does_of_access {body : State → Core → SlotOut} (hexec : exec i s = issueSlot i body s)
    (hbody : body s (here s) = { effects := es, banks := bk, reads := more }) (hbanks : ∀ b ∈ bk, b ∉ (here s).iss.banks) (hclean : Clean es) :
    Does s i es false more := does_of_body hexec hbody hbanks hclean

/-- The same of a slot that uses no bank. -/
theorem does_of_effects {body : State → Core → SlotOut} (hexec : exec i s = issueSlot i body s)
    (hbody : body s (here s) = { effects := es, sbOps := so, reads := more, qualifies := q, ends := e, boundary := bnd }) (hclean : Clean es) :
    Does s i es bnd more := does_of_body hexec hbody (fun _ h => nomatch h) hclean

end

/-! ## The end of the bundle -/

/-- The record of the bundle at hand once its last slot has given the effects `es`, alone in it. -/
def lastIssue (s : State) (i : Instr) (es : List Effect) : Issue :=
  { (here s).iss with
    effects := es, guards := (here s).iss.guards ++ [(here s).ctx.getP (here s).iss.guard.toNat]
    predS := (here s).iss.predS ||| predDests (here s).ctx i, predD := (here s).iss.predD ||| predDests (here s).ctx i, rdv := false }

/-- The end of a bundle looks at the bundle it is given, and not at the core's record of one. -/
theorem endBundle_withIss (z w : Issue) (d : Core) : (withIss z d).endBundle w = d.endBundle w := by
  unfold Core.endBundle
  cases setsStaged w.effects <;> rfl

section
variable {s : State} {i : Instr} {es : List Effect}

/-- Such a bundle of a member that is not protected applies its effects, and ends. -/
theorem after_eq (hempty : (here s).iss.effects = []) (hprot : (here s).prot = false) : after s i es = ((inOrder es).foldl Core.apply (here s)).endBundle (lastIssue s i es) := by
  have hiss : (here s).issued i es = (withIss (lastIssue s i es) (here s)).commit := by
    unfold Core.issued lastIssue withIss
    rw [hempty, List.nil_append]
  have hopen : (withIss (lastIssue s i es) (here s)).openSegment = withIss (lastIssue s i es) (here s) := by
    unfold Core.openSegment
    rw [show (withIss (lastIssue s i es) (here s)).prot = false from hprot]
    rfl
  have hall : (inOrder es).foldl Core.apply (withIss (lastIssue s i es) (here s)) =
      withIss (lastIssue s i es) ((inOrder es).foldl Core.apply (here s)) := apart_applyAll (inOrder es) _ _
  have hcore : after s i es = (here s).issued i es := core_setCore_same _ _ _
  rw [hcore, hiss, Core.commit, hopen, show (withIss (lastIssue s i es) (here s)).iss = lastIssue s i es from rfl,
    show (lastIssue s i es).effects = es from rfl, hall, endBundle_withIss]

/-- No effect among `es` transfers control or sets up a level. -/
structure Straight (es : List Effect) : Prop where
  staged : setsStaged es = false
  eret : hasEret es = false
  jump : jumpOf es = none
  skip : skipOf es = none

/-- What the end of a bundle keeps of a core that has no result and no landing outstanding. -/
structure EndedAs (e d : Core) (size : Nat) : Prop where
  ctx : e.ctx = { d.ctx with pc := d.ctx.pc + BitVec.ofNat 64 size, cycle := d.ctx.cycle + 1, waitOk := false }
  pipe : e.pipe = []
  land : e.land = []
  pool : e.pool = d.pool
  sb : e.sb = d.sb
  ops : e.ops = d.ops
  mq : e.mq = d.mq
  launches : e.launches = d.launches
  run : e.run = d.run

/-- Such a bundle, where its effects leave nothing outstanding and the nest as it was. -/
theorem after_straight (h : Plain s) {d : Core} (hd : (inOrder es).foldl Core.apply (here s) = d) (hstraight : Straight es) (hpipe : d.pipe = [])
    (hland : d.land = []) (hprot : d.prot = false) (hlc : d.ctx.lc = (here s).ctx.lc) (hpc : d.ctx.pc = (here s).ctx.pc) :
    EndedAs (after s i es) d (here s).iss.size := by
  have hinside : ∀ l ∈ [0, 1, 2, 3, 4, 5], (d.ctx.getLevel l).active = true → (d.ctx.getLevel l).last ≠ d.ctx.pc := by
    intro l hl
    have hlevel : d.ctx.getLevel l = (here s).ctx.getLevel l := by rw [Ctx.getLevel, hlc, Ctx.getLevel]
    rw [hlevel, hpc]
    exact h.inside l (by simp at hl; omega)
  obtain ⟨hctx, hpipe', hland', hpool, hsb, hops, hmq, hlaunches, hrun⟩ :=
    endBundle_quiet (x := lastIssue s i es) hpipe hland hprot hstraight.staged hstraight.eret hstraight.jump hstraight.skip hinside
  rw [after_eq h.empty h.unprotected, hd]
  exact ⟨hctx, hpipe', hland', hpool, hsb, hops, hmq, hlaunches, hrun⟩

end

/-! ## Poison of registers -/

/-- Where no register holds poison, none goes with a store. -/
theorem badMask_healthy {x : Ctx} (h : x.bad = []) (file n : Nat) : x.badMask file n = 0 := by rw [Ctx.badMask, h]; rfl

end Sys2Proof.Proofs

/-! SUPPORT. Scratchpad access of the S port (07 R145, R146): bytes that are free to access raise no fault and no freeze, and a store's bytes are what the
scratchpad then holds. -/

namespace Sys2Proof.Proofs

open Sys2Proof Sys2Proof.Machine Sys2Proof.Laws Sys2Proof.Claims

section
variable {s : State} {align ea n : Nat}

/-! ## Bytes that are free to access -/

theorem spFaults_free (h : spFree s align ea n) : spFaults (here s).ctx.pw align ea n = [] := by
  obtain ⟨halign, hin, -⟩ := h
  rw [spFaults, if_pos halign, spOutside, if_pos hin]
  rfl

theorem sbOverlap_free (h : spFree s align ea n) : (here s).sbOverlap ea n = [] := by
  obtain ⟨-, -, hsb, -⟩ := h
  rw [Core.sbOverlap, List.filter_eq_nil_iff.mpr fun e he => by simp [hsb e he]]
  rfl

/-- Free bytes cost their banks alone. -/
theorem spAccess_free (h : spFree s align ea n) : spAccess (here s) align ea n = { banks := banksOf (here s).ctx.pw ea n } := by
  rw [spAccess, spFaults_free h, sbOverlap_free h]
  rfl

theorem banks_free (h : spFree s align ea n) : ∀ b ∈ banksOf (here s).ctx.pw ea n, b ∉ (here s).iss.banks := h.2.2.2

/-- Of any alignment that divides the address. -/
theorem spFree_align {align' : Nat} (h : spFree s align ea n) (h' : ea % align' = 0) : spFree s align' ea n := ⟨h', h.2⟩

theorem spPoison_sound (h : spSound s ea n) : spPoison (here s) ea n = [] := by
  rw [spPoison, show (here s).spPoisoned ea n = false from h]
  rfl

/-! ## The forms -/

theorem does_lds {d a i : BitVec 6} (hfree : spFree s 8 (spAddr s a i) 8) (hsound : spSound s (spAddr s a i) 8) :
    Does s (.lds d a i) [toS s 3 d (BitVec.ofNat 64 (readBytes (here s).pool.sp (spAddr s a i) 8))] := by
  refine does_of_access rfl ?_ (banks_free hfree) ⟨rfl, rfl, rfl, rfl⟩
  dsimp only
  rw [show offsetAddr (here s) a i 8 = spAddr s a i from rfl, spAccess_free hfree, spPoison_sound hsound]
  rfl

theorem does_sts {d a i : BitVec 6} (hfree : spFree s 8 (spAddr s a i) 8) :
    Does s (.sts d a i) [.spStore (spAddr s a i) 8 (sreg s d).toNat 0] := fun hready => by
  refine does_of_access rfl ?_ (banks_free hfree) ⟨rfl, rfl, rfl, rfl⟩ hready
  dsimp only
  rw [show offsetAddr (here s) a i 8 = spAddr s a i from rfl, spAccess_free hfree, badMask_healthy hready.quiet.healthy]

theorem does_edld {d a i : BitVec 6} {eb : Nat} (heb : (eb : Int) = edldAddr s a i) (hfree : spFree s 32 eb 32) (hsound : spSound s eb 32) :
    Does s (.edld d a i) [.result 3 (.e d.toNat (BitVec.ofNat 256 (readBytes (here s).pool.sp eb 32))) 0] := by
  refine does_of_access rfl ?_ (banks_free hfree) ⟨rfl, rfl, rfl, rfl⟩
  have halign : eb % 32 = 0 := hfree.1
  have hin : eb + 32 ≤ spSize (here s).ctx.pw := hfree.2.1
  have hea : descEa (here s) a i = (eb : Int) := heb.symm
  have hlo : (max (eb : Int) 0).toNat = eb := by omega
  have hlen : ((eb : Int) + 32).toNat - eb = 32 := by omega
  have hrange : rangeFault (here s).ctx.pw eb (eb + 31) = [] := if_pos (by omega)
  dsimp only
  rw [hea, hlo, hlen, hrange, if_pos (show (eb : Int) % 32 = 0 by omega), spAccess_free (spFree_align hfree (Nat.mod_one eb)), spPoison_sound hsound]
  rfl

/-! ## What a store leaves -/

/-- Once a bundle that only stores has ended, its bytes hold what it stored, and every other byte what it held. -/
theorem sp_after_spStore (h : Plain s) (i : Instr) (off n x b : Nat) : mapGet 0 (after s i [.spStore off n x 0]).pool.sp b =
    if off ≤ b ∧ b < off + n then BitVec.ofNat 8 (x / 256 ^ (b - off)) else mapGet 0 (here s).pool.sp b := by
  obtain ⟨tags, hwrite⟩ := spWrite_keeps h.unprotected off n x false
  have hend := after_straight (i := i) (es := [.spStore off n x 0]) h hwrite ⟨rfl, rfl, rfl, rfl⟩ h.pipe h.land h.unprotected rfl rfl
  rw [hend.pool, get_writeBytes]

end

/-- Settles O3: free bytes raise no fault, freeze or bank conflict, and a store's end writes them and no others. -/
theorem scalarScratchpadAccess : Obligations.ScalarScratchpadAccess := fun _ _ _ _ =>
  ⟨fun hfree => ⟨does_lds hfree, does_sts hfree⟩, fun _ => does_of_effects rfl rfl ⟨rfl, rfl, rfl, rfl⟩,
    fun _ heb hfree hsound => does_edld heb hfree hsound, fun i off n x hplain b => sp_after_spStore hplain i off n x b⟩

end Sys2Proof.Proofs

/-! SUPPORT. The A port and scalar comparison: each form is one result, a comparison two (07 R144, R159, R160, R164). -/

namespace Sys2Proof.Proofs

open Sys2Proof Sys2Proof.Machine Sys2Proof.Laws Sys2Proof.Claims

/-! ## Conditions -/

/-- A code that is not reserved is the relation that its condition says. -/
theorem compareS_iff {cc : BitVec 3} (hcc : cc.toNat ≤ 5) (x y : BitVec 64) : compareS cc x y = true ↔ condition cc x y := by
  have hcode : ∀ cc : BitVec 3, cc.toNat ≤ 5 → cc = 0 ∨ cc = 1 ∨ cc = 2 ∨ cc = 3 ∨ cc = 4 ∨ cc = 5 := by decide
  obtain rfl | rfl | rfl | rfl | rfl | rfl := hcode cc hcc <;>
    simp [condition, compareS, BitVec.slt, BitVec.sle, BitVec.ult, BitVec.ule]

/-- A reserved code says nothing. -/
theorem condition_reserved {cc : BitVec 3} (hcc : ¬cc.toNat ≤ 5) (x y : BitVec 64) : condition cc x y := by
  refine ⟨?_, ?_, ?_, ?_, ?_, ?_⟩ <;> rintro rfl <;> exact absurd (by decide) hcc

section
variable {s : State} {i : Instr}

/-- A comparison writes its pair with the condition and its negation; one with a reserved code completes nowhere. -/
theorem does_compare {r cc : BitVec 3} {x y : BitVec 64} (hlegal : i.wellFormed = true → cc.toNat ≤ 5)
    {body : State → Core → SlotOut} (hexec : exec i s = issueSlot i body s) (hbody : body s (here s) = comparePair (here s) r (compareS cc x y)) :
    ∃ c : Bool, (c = true ↔ condition cc x y) ∧ Does s i [toP s (2 * r.toNat) c, toP s (2 * r.toNat + 1) (!c)] := by
  by_cases hcc : cc.toNat ≤ 5
  · exact ⟨compareS cc x y, compareS_iff hcc x y, does_of_effects hexec hbody ⟨rfl, rfl, rfl, rfl⟩⟩
  · exact ⟨true, iff_of_true rfl (condition_reserved hcc x y), fun hready => absurd (hlegal hready.legal) hcc⟩

end

theorem decide_eq_one (v : BitVec 1) : decide (v = 1) = v.getLsbD 0 := by
  obtain rfl | rfl := BitVec.eq_zero_or_eq_one v <;> rfl

/-- Settles O7: each form is one result of its sources; a comparison's two are its condition, whose code is legal, and its negation. -/
theorem addressAndPredicateValues : Obligations.AddressAndPredicateValues := by
  unfold Obligations.AddressAndPredicateValues
  intro s d a m n lvl p q r v pr cc x y i
  have legal (h : decide (pr ≠ 0 ∧ cc.toNat ≤ 5) = true) : cc.toNat ≤ 5 := (of_decide_eq_true h).2
  refine ⟨?au, ?aui, ?amov, ?aget, ?lstep, ?pand, ?por, ?pxor, ?pnot, ?pmov, ?pset, ?cmp, ?cmpi⟩
  case au => exact does_result rfl rfl
  case aui => exact does_result rfl rfl
  case amov => exact does_result rfl rfl
  case aget => exact does_result rfl rfl
  case lstep => exact does_result rfl rfl
  case pand => exact does_result rfl rfl
  case por => exact does_result rfl rfl
  case pxor => exact does_result rfl rfl
  case pnot => exact does_result rfl rfl
  case pmov => exact does_result rfl rfl
  case pset => exact does_result rfl (by rw [← decide_eq_one]; rfl)
  case cmp => exact does_compare legal rfl rfl
  case cmpi => exact does_compare legal rfl rfl

end Sys2Proof.Proofs

/-! SUPPORT. Control registers: what a written one reads back, and what a write leaves alone (07 R153-R155). -/

namespace Sys2Proof.Proofs

open Sys2Proof Sys2Proof.Machine Sys2Proof.Laws Sys2Proof.Claims

/-! ## Reserved bits -/

/-- The low bits of a word, extended again, are the word with the others cleared. -/
theorem zeroExtend_truncate {k : Nat} (hk : k ≤ 64) (v : BitVec 64) : (v.truncate k).zeroExtend 64 = v &&& BitVec.ofNat 64 (2 ^ k - 1) := by
  have hpow : 2 ^ k ≤ 2 ^ 64 := Nat.pow_le_pow_right (by omega) hk
  have hpos : 0 < 2 ^ k := Nat.two_pow_pos k
  refine BitVec.eq_of_toNat_eq ?_
  simp only [BitVec.truncate_eq_setWidth, BitVec.toNat_setWidth, BitVec.toNat_and, BitVec.toNat_ofNat]
  rw [Nat.mod_eq_of_lt (show 2 ^ k - 1 < 2 ^ 64 by omega), Nat.and_two_pow_sub_one_eq_mod,
    Nat.mod_eq_of_lt ((Nat.mod_lt _ hpos).trans_le hpow)]

/-- The field bits of a scale register (04 R97). -/
theorem zeroExtend_scale (v : BitVec 64) : (v.truncate 16 &&& 0x3FFF : BitVec 16).zeroExtend 64 = v &&& 0x3FFF := by
  have hlow : v.truncate 16 &&& (0x3FFF : BitVec 16) = (v.truncate 14).zeroExtend 16 := by
    refine BitVec.eq_of_toNat_eq ?_
    simp only [BitVec.truncate_eq_setWidth, BitVec.toNat_setWidth, BitVec.toNat_and]
    rw [show (0x3FFF : BitVec 16).toNat = 2 ^ 14 - 1 from rfl, Nat.and_two_pow_sub_one_eq_mod]
    omega
  have hwide : ((v.truncate 14).zeroExtend 16).zeroExtend 64 = (v.truncate 14).zeroExtend 64 := by
    refine BitVec.eq_of_toNat_eq ?_
    simp only [BitVec.truncate_eq_setWidth, BitVec.toNat_setWidth]
    omega
  rw [hlow, hwide, zeroExtend_truncate (by omega)]
  rfl

/-! ## Reading back -/

/-- The numbers of the scale registers' control registers (07 R154). -/
abbrev isScale (n : BitVec 12) : Prop := 0x050 ≤ n.toNat ∧ n.toNat ≤ 0x05F

/-- A write of one of the numbers that can be written, or one that is ignored. -/
inductive CsrWritable : BitVec 12 → Prop where
  | frm : CsrWritable 0x000
  | fflags : CsrWritable 0x001
  | srseed : CsrWritable 0x002
  | waitcap : CsrWritable 0x030
  | tvec : CsrWritable 0x040
  | tpc : CsrWritable 0x041
  | tcause : CsrWritable 0x042
  | tval : CsrWritable 0x043
  | scale (n) (h : isScale n) : CsrWritable n

section
variable (x : Ctx) (c : BitVec 8) (ns : Nat) {n m : BitVec 12} (v : BitVec 64)

theorem csrWrite_ignored (h : ¬CsrWritable n) : x.csrWrite n v = x := by
  have hne (k : BitVec 12) (hk : CsrWritable k) : n ≠ k := fun e => h (e ▸ hk)
  unfold Ctx.csrWrite
  rw [if_neg (hne _ .frm), if_neg (hne _ .fflags), if_neg (hne _ .srseed), if_neg (hne _ .waitcap), if_neg (hne _ .tvec), if_neg (hne _ .tpc),
    if_neg (hne _ .tcause), if_neg (hne _ .tval), if_neg fun hs => h (.scale n hs)]

theorem csrWrite_scale (h : isScale n) : x.csrWrite n v =
    ({ x with qs := mapSet 0 x.qs (n.toNat - 0x050) (v.truncate 16 &&& 0x3FFF) } : Ctx).heal 8 (n.toNat - 0x050) fun _ => true := by
  have hne (k : BitVec 12) (hk : k.toNat < 0x050) : n ≠ k := by
    rintro rfl
    exact absurd h.1 (by omega)
  unfold Ctx.csrWrite
  rw [if_neg (hne _ (by decide)), if_neg (hne _ (by decide)), if_neg (hne _ (by decide)), if_neg (hne _ (by decide)), if_neg (hne _ (by decide)),
    if_neg (hne _ (by decide)), if_neg (hne _ (by decide)), if_neg (hne _ (by decide)), if_pos h]

theorem csrRead_scale (h : isScale n) : x.csrRead c ns n = (x.getQs (n.toNat - 0x050)).zeroExtend 64 := by
  have hne (k : BitVec 12) (hk : k.toNat < 0x050) : (n = k) = False := by
    refine eq_false ?_
    rintro rfl
    exact absurd h.1 (by omega)
  unfold Ctx.csrRead
  simp [hne, h.1, h.2]

theorem csrRead_csrWrite_other (h : m ≠ n) : (x.csrWrite n v).csrRead c ns m = x.csrRead c ns m := by
  by_cases hn : CsrWritable n
  case neg => rw [csrWrite_ignored x v hn]
  cases hn
  case scale hs =>
    rw [csrWrite_scale x v hs]
    by_cases hm : isScale m
    · have hne : m.toNat - 0x050 ≠ n.toNat - 0x050 := fun e => h (BitVec.eq_of_toNat_eq (by have := hm.1; have := hs.1; omega))
      rw [csrRead_scale _ _ _ hm, csrRead_scale _ _ _ hm]
      exact congrArg (BitVec.setWidth 64) (mapGet_set_other _ hne)
    · unfold Ctx.csrRead Ctx.heal
      simp only [if_neg hm]
  all_goals
    simp only [Ctx.csrRead, h, if_false]
    rfl

/-- A written register reads back what its bits hold of the value. -/
theorem csrRead_csrWrite_same (hn : CsrWritable n) : (x.csrWrite n v).csrRead c ns n =
      if n = 0x000 then v &&& 3
      else if n = 0x001 then v &&& 0x1F
      else if n = 0x002 ∨ n = 0x030 then v &&& 0xFFFFFFFF
      else if n = 0x040 ∨ n = 0x041 ∨ n = 0x043 then v
      else if n = 0x042 then v &&& 0x7FFFF
      else v &&& 0x3FFF := by
  cases hn
  case frm => exact zeroExtend_truncate (k := 2) (by omega) v
  case fflags => exact zeroExtend_truncate (k := 5) (by omega) v
  case srseed => exact zeroExtend_truncate (k := 32) (by omega) v
  case waitcap => exact zeroExtend_truncate (k := 32) (by omega) v
  case tvec => rfl
  case tpc => rfl
  case tcause => exact zeroExtend_truncate (k := 19) (by omega) v
  case tval => rfl
  case scale hs =>
    have hne (k : BitVec 12) (hk : k.toNat < 0x050) : (n = k) = False := by
      refine eq_false ?_
      rintro rfl
      exact absurd hs.1 (by omega)
    have hread : (x.csrWrite n v).getQs (n.toNat - 0x050) = v.truncate 16 &&& 0x3FFF := by
      rw [csrWrite_scale x v hs]
      exact mapGet_set_same _ _
    rw [csrRead_scale _ _ _ hs, hread, zeroExtend_scale]
    simp [hne]

theorem csrRead_csrWrite : (x.csrWrite n v).csrRead c ns m =
      if m ≠ n then x.csrRead c ns m
      else if n = 0x000 then v &&& 3
      else if n = 0x001 then v &&& 0x1F
      else if n = 0x002 ∨ n = 0x030 then v &&& 0xFFFFFFFF
      else if n = 0x040 ∨ n = 0x041 ∨ n = 0x043 then v
      else if n = 0x042 then v &&& 0x7FFFF
      else if isScale n then v &&& 0x3FFF
      else x.csrRead c ns m := by
  by_cases hm : m = n
  case neg => rw [if_pos hm, csrRead_csrWrite_other x c ns v hm]
  subst hm
  rw [if_neg (not_not.mpr rfl)]
  by_cases hn : CsrWritable m
  · rw [csrRead_csrWrite_same x c ns v hn]
    cases hn
    case scale hs => rw [if_pos hs]
    all_goals rfl
  · have hne (k : BitVec 12) (hk : CsrWritable k) : (m = k) = False := eq_false fun e => hn (e ▸ hk)
    rw [csrWrite_ignored x v hn]
    simp only [hne _ .frm, hne _ .fflags, hne _ .srseed, hne _ .waitcap, hne _ .tvec, hne _ .tpc, hne _ .tcause, hne _ .tval, or_self, if_false,
      if_neg fun hs => hn (.scale m hs)]

/-- No control register is a level, the pc or the count of cycles. -/
theorem csrWrite_nest : (x.csrWrite n v).lc = x.lc ∧ (x.csrWrite n v).pc = x.pc ∧ (x.csrWrite n v).cycle = x.cycle := by
  by_cases hn : CsrWritable n
  · cases hn
    case scale hs =>
      rw [csrWrite_scale x v hs]
      exact ⟨rfl, rfl, rfl⟩
    all_goals exact ⟨rfl, rfl, rfl⟩
  · rw [csrWrite_ignored x v hn]
    exact ⟨rfl, rfl, rfl⟩

end

/-! ## The statement -/

theorem ctx_after_csrWrite {s : State} (h : Plain s) (i : Instr) (n : BitVec 12) (v : BitVec 64) :
    (after s i [.csrWrite n v]).ctx = goesOn s ((here s).ctx.csrWrite n v) := by
  obtain ⟨hlc, hpc, hcycle⟩ := csrWrite_nest (here s).ctx v (n := n)
  have hend := after_straight (i := i) (es := [.csrWrite n v]) h rfl ⟨rfl, rfl, rfl, rfl⟩ h.pipe h.land h.unprotected hlc hpc
  rw [hend.ctx]
  show ({ (here s).ctx.csrWrite n v with pc := ((here s).ctx.csrWrite n v).pc + _, cycle := ((here s).ctx.csrWrite n v).cycle + 1, waitOk := _ } : Ctx) = _
  rw [hpc, hcycle]

/-- Settles O6: each form gives one effect, and what is written is read back through one register's field and no other's. -/
theorem csrAccess : Obligations.CsrAccess :=
  ⟨fun _ _ _ => ⟨does_of_effects rfl rfl ⟨rfl, rfl, rfl, rfl⟩, does_of_effects rfl rfl ⟨rfl, rfl, rfl, rfl⟩,
    does_of_effects rfl rfl ⟨rfl, rfl, rfl, rfl⟩⟩, fun x c ns _ _ v => csrRead_csrWrite x c ns v, fun _ i n v h => ctx_after_csrWrite h i n v⟩

end Sys2Proof.Proofs

/-! SUPPORT. Task control: RDV outside protected mode, and what the end of a bundle leaves of a context (07 R149-R151, R157, R158). -/

namespace Sys2Proof.Proofs

open Sys2Proof Sys2Proof.Machine Sys2Proof.Laws Sys2Proof.Claims

/-! ## A bundle that nothing keeps back -/

/-- Nothing keeps a bundle whose slots have all acted from taking effect. -/
structure Goes (s : State) : Prop where
  faultless : (here s).iss.fault = none
  unfrozen : (here s).iss.freezes ++ s.bundleFreezes (here s) = []
  clean : Clean (here s).iss.effects
  healthy : (here s).ctx.nestBad = false
  landings : ((here s).tickLand.landingPoison fun l => l.due) = false

theorem finishIssue_goes {s : State} (h : Goes s) : finishIssue s = s.setCore s.cur (here s).commit := by
  obtain ⟨hwalk, hpoison, htrap, hgate⟩ := h.clean
  unfold finishIssue
  simp only [h.faultless, h.unfrozen, h.healthy, h.landings, hwalk, hpoison, htrap, hgate, ne_eq, not_true_eq_false, if_false, Bool.false_eq_true,
    List.append_nil, List.foldl_nil]

theorem Clean.append {es fs : List Effect} (h : Clean es) (h' : Clean fs) : Clean (es ++ fs) := by
  obtain ⟨hwalk, hpoison, htrap, hgate⟩ := h
  obtain ⟨hwalk', hpoison', htrap', hgate'⟩ := h'
  refine ⟨findSome_append_none hwalk hwalk', findSome_append_none hpoison hpoison', findSome_append_none htrap htrap', ?_⟩
  rw [gateStopsOf, List.filterMap_append]
  exact List.append_eq_nil_iff.mpr ⟨hgate, hgate'⟩

theorem clean_of_quiet {c : Core} (h : c.Quiet) : Clean c.iss.effects := ⟨h.sound.1, h.sound.2.1, h.sound.2.2, h.passed⟩

theorem nestBad_healthy {x : Ctx} (h : x.bad = []) : x.nestBad = false := by rw [Ctx.nestBad, h]; rfl

/-- Where no landing is poisoned, none that falls due is. -/
theorem landingPoison_sound {c : Core} (h : ∀ l ∈ c.land, l.psn = false) : (c.tickLand.landingPoison fun l => l.due) = false := by
  refine List.any_eq_false.mpr fun l hl => ?_
  obtain ⟨m, hm, rfl⟩ := List.mem_map.mp hl
  split_ifs <;> simp [h m hm]

/-! ## What the end of a bundle leaves of a context -/

/-- Only what a bundle's end may change differs: registers, FFLAGS, rotation, the nest and the pc. -/
def EndChanges (x y : Ctx) : Prop :=
  y = { x with
    s := y.s, v := y.v, vtag := y.vtag, p := y.p, mks := y.mks, a := y.a, e := y.e, step := y.step, bad := y.bad, fflags := y.fflags
    sB := y.sB, vB := y.vB, pB := y.pB, kB := y.kB, lc := y.lc, pc := y.pc }

theorem EndChanges.refl (x : Ctx) : EndChanges x x := rfl

theorem EndChanges.trans {x y z : Ctx} (hxy : EndChanges x y) (hyz : EndChanges y z) : EndChanges x z := by
  unfold EndChanges at *
  rw [hyz, hxy]

theorem EndChanges.segLeft {x y : Ctx} (h : EndChanges x y) : y.segLeft = x.segLeft := by rw [h]

theorem endChanges_foldl {β : Type} {f : Ctx → β → Ctx} (hf : ∀ x b, EndChanges x (f x b)) (l : List β) (x : Ctx) : EndChanges x (l.foldl f x) := by
  induction l generalizing x with
  | nil => exact .refl x
  | cons b l ih => exact (hf x b).trans (ih (f x b))

theorem endChanges_setPhysP (x : Ctx) (n : Nat) (b : Bool) : EndChanges x (x.setPhysP n b) := by
  unfold Ctx.setPhysP
  split <;> exact rfl

theorem endChanges_write (x : Ctx) (w : RegWrite) : EndChanges x (x.write w) := by
  refine EndChanges.trans (y := x.put w) ?_ rfl
  cases w with
  | s n v =>
    show EndChanges x (if n = 0 then x else _)
    split <;> exact rfl
  | p n b => exact endChanges_setPhysP x n b
  | _ => exact rfl

theorem endChanges_landWrite (x : Ctx) (l : Landing) (n : Nat) : EndChanges x (x.landWrite l n) := by
  unfold Ctx.landWrite
  dsimp only
  split
  · exact endChanges_write x _
  · exact rfl

theorem endChanges_result (x : Ctx) (w : RegWrite) (f : FFlags) : EndChanges x ((x.write w).orFlags f) := (endChanges_write x w).trans rfl

theorem endChanges_stageInit (x : Ctx) : EndChanges x x.stageInit :=
  (endChanges_setPhysP x _ _).trans (endChanges_foldl (fun x _ => endChanges_setPhysP x _ _) _ _)

theorem endChanges_addSteps (x : Ctx) (lvl : Nat) : EndChanges x (x.addSteps lvl) := by
  refine endChanges_foldl (fun x n => ?_) _ _
  dsimp only
  split <;> exact rfl

theorem endChanges_backEdge (x : Ctx) (lvl : Nat) : EndChanges x (x.backEdge lvl).1 := by
  have hstages : ∀ (y : Ctx) (n : Nat) (b : Ctx → Bool), EndChanges y (if 1 ≤ n then (y.rotate).setPhysP (y.rotate.physP 8) (b y) else y) := by
    intro y n b
    split
    · exact EndChanges.trans (y := y.rotate) rfl (endChanges_setPhysP _ _ _)
    · exact .refl y
  have hlevel : EndChanges x _ := (endChanges_addSteps x lvl).trans (hstages (x.addSteps lvl) (x.getLevel lvl).n fun _ =>
    decide ((x.getLevel lvl).trips + 1 < (x.getLevel lvl).c))
  unfold Ctx.backEdge
  dsimp only
  split
  · exact hlevel.trans rfl
  · exact hlevel.trans rfl

theorem endChanges_backEdges (x : Ctx) (pc next : BitVec 64) (ls : List Nat) : EndChanges x (x.backEdges pc next ls).1 := by
  induction ls generalizing x with
  | nil => exact .refl x
  | cons lvl ls ih =>
    unfold Ctx.backEdges
    dsimp only
    split
    · split
      · exact endChanges_backEdge x lvl
      · exact (endChanges_backEdge x lvl).trans (ih _)
    · exact ih x

theorem endChanges_leaveLevels (x : Ctx) (t : BitVec 64) : EndChanges x (x.leaveLevels t) := by
  refine endChanges_foldl (fun x n => ?_) _ _
  dsimp only
  split <;> exact rfl

theorem endChanges_advance (x : Ctx) (es : List Effect) (size : Nat) : EndChanges x (x.advance es size) := by
  unfold Ctx.advance
  dsimp only
  split
  · exact rfl
  · split
    · exact (endChanges_leaveLevels x _).trans rfl
    · split <;> exact (endChanges_backEdges x _ _ _).trans rfl

/-- Results and landings that fall due change registers alone. -/
theorem endChanges_fall (c : Core) : EndChanges c.ctx (c.tickPipe.tickLand.writeLandings fun l => l.due).ctx :=
  (endChanges_foldl (fun x _ => endChanges_result x _ _) _ _).trans (endChanges_foldl (fun x _ => endChanges_landWrite x _ _) _ _)

/-- The core at a bundle's end before execution goes on: what falls due is written, and the stage predicates of a LOOP are set. -/
def staged (c : Core) (x : Issue) : Core :=
  if setsStaged x.effects then { c.tickPipe.tickLand.writeLandings (fun l => l.due) with
    ctx := (c.tickPipe.tickLand.writeLandings fun l => l.due).ctx.stageInit }
  else c.tickPipe.tickLand.writeLandings fun l => l.due

theorem staged_task (c : Core) (x : Issue) : (staged c x).task = c.task := by
  unfold staged
  split <;> rfl

theorem prot_of_task {c d : Core} (h : c.task = d.task) : c.prot = d.prot := by rw [Core.prot, h, Core.prot]

theorem staged_ctx (c : Core) (x : Issue) : (staged c x).ctx =
    if setsStaged x.effects then (c.tickPipe.tickLand.writeLandings fun l => l.due).ctx.stageInit
    else (c.tickPipe.tickLand.writeLandings fun l => l.due).ctx := by rw [staged, apply_ite Core.ctx]

theorem endChanges_staged (c : Core) (x : Issue) : EndChanges c.ctx (staged c x).ctx := by
  rw [staged_ctx]
  split
  · exact (endChanges_fall c).trans (endChanges_stageInit _)
  · exact endChanges_fall c

/-- The context once execution has gone on and the cycle is counted. -/
def wentOn (c : Core) (x : Issue) : Ctx :=
  { (staged c x).ctx.advance x.effects x.size with cycle := (staged c x).ctx.cycle + 1, waitOk := false }

theorem endBundle_ctx (c : Core) (x : Issue) :
    (c.endBundle x).ctx = if c.prot then { wentOn c x with segLeft := (wentOn c x).segLeft - 1 } else wentOn c x := by
  rw [← prot_of_task (staged_task c x)]
  rfl

/-- A bundle of a protected member counts toward its segment. -/
theorem endBundle_segLeft {c : Core} {x : Issue} (h : c.prot = true) : (c.endBundle x).ctx.segLeft = c.ctx.segLeft - 1 := by
  rw [endBundle_ctx, if_pos h]
  exact congrArg (· - 1) ((endChanges_staged c x).trans (endChanges_advance _ _ _)).segLeft

/-! ## The forms -/

section
variable {s : State}

/-- The end of RDV's bundle outside protected mode is that of any other bundle. -/
theorem exec_rdv {n : BitVec 18} (hprot : (here s).prot = false) (h : s.Ready (.rdv n) true [] [.rdv n.toNat]) :
    exec (.rdv n) s = .next (s.setCore s.cur ((here s).issued (.rdv n) [.rdv n.toNat] true)) := by
  have hcontribute := contribute_ready (r := true) (body := fun _ _ => { effects := [.rdv n.toNat], boundary := true, rdv := true }) (bk := []) (so := [])
    (q := false) (e := false) h rfl fun _ h => nomatch h
  show issueSlot _ _ s = _
  unfold issueSlot
  rw [hcontribute]
  generalize hx : ({ (here s).iss with
      effects := (here s).iss.effects ++ [.rdv n.toNat], fault := none, banks := (here s).iss.banks ++ [], freezes := []
      sbOps := (here s).iss.sbOps ++ [], guards := (here s).iss.guards ++ [(here s).ctx.getP (here s).iss.guard.toNat]
      predS := (here s).iss.predS ||| predDests (here s).ctx (.rdv n), predD := (here s).iss.predD ||| predDests (here s).ctx (.rdv n)
      boundary := (here s).iss.boundary || true, rdv := true } : Issue) = x
  have hcore : here (s.setCore s.cur (withIss x (here s))) = withIss x (here s) := core_setCore_same _ _ _
  have hprot' : (withIss x (here s)).prot = false := hprot
  have hlast : x.rest = 0 := hx ▸ h.quiet.last
  have heffects : x.effects = (here s).iss.effects ++ [.rdv n.toNat] := hx ▸ rfl
  have hgoes : Goes (s.setCore s.cur (withIss x (here s))) := by
    refine ⟨?_, ?_, ?_, ?_, ?_⟩ <;> rw [hcore]
    · exact hx ▸ rfl
    · have hfreezes : (withIss x (here s)).iss.freezes = [] := hx ▸ rfl
      have hduty : (withIss x (here s)).iss.duty = false := hx ▸ h.quiet.working
      have hseg : (withIss x (here s)).segmentEnds = false := by rw [Core.segmentEnds, hprot']; rfl
      have hland : ((withIss x (here s)).land.find? fun l => l.due) = none :=
        List.find?_eq_none.mpr fun l hl => by simp [(h.quiet.landings l hl).1]
      rw [hfreezes, State.bundleFreezes, hland, hduty, hseg, hprot']
      cases (withIss x (here s)).task <;> rfl
    · exact heffects ▸ (clean_of_quiet h.quiet).append ⟨rfl, rfl, rfl, rfl⟩
    · exact nestBad_healthy h.quiet.healthy
    · exact landingPoison_sound (c := withIss x (here s)) fun l hl => (h.quiet.landings l hl).2
  dsimp only
  rw [show State.core _ _ = withIss x (here s) from hcore, if_pos (show (withIss x (here s)).iss.rest = 0 from hlast), finishIssue_goes hgoes, hcore, setCore_cur, setCore_setCore]
  congr 2
  exact commit_withIss (y := { (here s).iss with
      effects := (here s).iss.effects ++ [.rdv n.toNat], guards := (here s).iss.guards ++ [(here s).ctx.getP (here s).iss.guard.toNat]
      predS := (here s).iss.predS ||| predDests (here s).ctx (.rdv n), predD := (here s).iss.predD ||| predDests (here s).ctx (.rdv n)
      rdv := true }) (here s) heffects (hx ▸ rfl) (hx ▸ rfl) (hx ▸ rfl) (hx ▸ rfl) (hx ▸ rfl)

theorem segLeft_after_seg {i : Instr} {n : Nat} (hempty : (here s).iss.effects = []) (hprot : (here s).prot = true) :
    (after s i [.seg n]).ctx.segLeft = BitVec.ofNat 13 n - 1 := by
  have hcore : after s i [.seg n] = (here s).issued i [.seg n] := core_setCore_same _ _ _
  rw [hcore]
  unfold Core.issued
  rw [hempty, List.nil_append]
  generalize hd : ({ here s with iss := _ } : Core) = d
  have hprot' : d.openSegment.prot = true := by
    unfold Core.openSegment
    subst hd
    split <;> exact hprot
  have heffects : d.iss.effects = [.seg n] := hd ▸ rfl
  have happly : d.openSegment.apply (.seg n) = { d.openSegment with ctx := { d.openSegment.ctx with segLeft := BitVec.ofNat 13 n } } := by
    show (if d.openSegment.prot then _ else _) = _
    rw [if_pos hprot']
  rw [Core.commit, heffects, show inOrder [.seg n] = [.seg n] from rfl, List.foldl_cons, List.foldl_nil, happly, endBundle_segLeft]
  exact hprot'

end

/-- Settles O5: each form's one effect is all that its bundle does, and the end of the bundle of a protected member counts it. -/
theorem taskControlCompletes : Obligations.TaskControlCompletes := by
  unfold Obligations.TaskControlCompletes
  intro s a b n
  refine ⟨?nop, ?launch, ?halt, ?park, ?seg, exec_rdv, ?ends, fun i hempty hprot => segLeft_after_seg hempty hprot⟩
  case nop => exact does_of_effects rfl rfl ⟨rfl, rfl, rfl, rfl⟩
  case launch =>
    intro halign
    refine does_of_effects (q := true) (e := false) (so := []) rfl ?_ ⟨rfl, rfl, rfl, rfl⟩
    dsimp only
    rw [if_pos halign]
  case halt => exact does_of_effects rfl rfl ⟨rfl, rfl, rfl, rfl⟩
  case park =>
    intro hbeacon
    refine does_of_effects (q := true) (e := true) (so := []) rfl ?_ ⟨rfl, rfl, rfl, rfl⟩
    dsimp only
    obtain h0 | ⟨halign, p, hp⟩ := hbeacon
    · rw [if_pos h0]
    · by_cases h0 : sreg s a = 0
      · rw [if_pos h0]
      · rw [if_neg h0, if_neg (not_not.mpr halign), translated, hp]
  case seg => exact does_of_effects rfl rfl ⟨rfl, rfl, rfl, rfl⟩
  case ends =>
    intro i hplain c
    have hends {e : Effect} {d : Core} (hd : (inOrder [e]).foldl Core.apply (here s) = d) (hstraight : Straight [e]) (hpipe : d.pipe = (here s).pipe)
        (hland : d.land = (here s).land) (hprot : d.prot = (here s).prot) (hctx : d.ctx = (here s).ctx) :
        (after s i [e]).ctx = goesOn s c.ctx ∧ (after s i [e]).run = d.run ∧ (after s i [e]).launches = d.launches := by
      have h := after_straight (i := i) (es := [e]) hplain hd hstraight (hpipe.trans hplain.pipe) (hland.trans hplain.land)
        (hprot.trans hplain.unprotected) (congrArg Ctx.lc hctx) (congrArg Ctx.pc hctx)
      exact ⟨by rw [h.ctx, hctx], h.run, h.launches⟩
    have hsame {e : Effect} (happly : (here s).apply e = here s) (hlast : inOrder [e] = [e]) (hstraight : Straight [e]) :
        (after s i [e]).ctx = goesOn s c.ctx ∧ (after s i [e]).run = c.run ∧ (after s i [e]).launches = c.launches :=
      hends (by rw [hlast]; exact happly) hstraight rfl rfl rfl rfl
    have hhalt := hends (e := .halt) rfl ⟨rfl, rfl, rfl, rfl⟩ rfl rfl rfl rfl
    have hpark (x y : BitVec 64) := hends (e := .park x y) rfl ⟨rfl, rfl, rfl, rfl⟩ rfl rfl rfl rfl
    have hlaunch (x : BitVec 64) := hends (e := .launch x) rfl ⟨rfl, rfl, rfl, rfl⟩ rfl rfl rfl rfl
    have hseg := hsame (e := .seg n.toNat) (by show (if (here s).prot then _ else _) = _; rw [if_neg (by rw [hplain.unprotected]; decide)]) rfl
      ⟨rfl, rfl, rfl, rfl⟩
    have hrdv := hsame (e := .rdv n.toNat) rfl rfl ⟨rfl, rfl, rfl, rfl⟩
    refine ⟨hhalt.2.1, fun x y => (hpark x y).2.1, ?_, fun x => ⟨(hlaunch x).2.2, (hlaunch x).1⟩, ?_⟩
    · simp only [List.forall_mem_cons, List.not_mem_nil, false_imp_iff, implies_true, and_true]
      exact ⟨hhalt.1, (hpark _ _).1, hseg.1, hrdv.1⟩
    · simp only [List.forall_mem_cons, List.not_mem_nil, false_imp_iff, implies_true, and_true]
      exact ⟨(hlaunch _).2.1, hseg.2.1, hrdv.2.1⟩

end Sys2Proof.Proofs

/-! SUPPORT. Transfers and the loop nest: which levels a transfer leaves, what LOOP and STAGE make of their level, and what KCLR makes of its token
(03 R78-R80, 07 R147, R148, R161-R165). -/

namespace Sys2Proof.Proofs

open Sys2Proof Sys2Proof.Machine Sys2Proof.Laws Sys2Proof.Claims

/-! ## Levels, tokens and predicates that are written -/

theorem getLevel_setLevel (x : Ctx) (j l : Nat) (y : Level) : (x.setLevel j y).getLevel l = if l = j then y else x.getLevel l :=
  mapGet_mapSet _ _ _ _ _

theorem tokenDone_setToken (x : Ctx) (k m : Nat) : (x.setToken k none).tokenDone m = (decide (m = k) || x.tokenDone m) := by
  unfold Ctx.setToken Ctx.tokenDone
  split
  case isTrue hk => subst hk; by_cases hm : m = 0 <;> simp [hm]
  case isFalse hk => by_cases hm : m = k <;> simp [mapGet_mapSet, hm]

theorem getP_setPhysP (x : Ctx) {n m : Nat} (hn : n < 16) (hm : m < 16) (b : Bool) :
    (x.setPhysP (x.physP n) b).getP m = if m = 0 then true else if m = 1 then false else if m = n then b else x.getP m := getP_write x hn hm b

theorem setPhysP_pB (x : Ctx) (n : Nat) (b : Bool) : (x.setPhysP n b).pB = x.pB := by
  unfold Ctx.setPhysP
  split <;> rfl

theorem getP_fixed (x : Ctx) {m : Nat} : (m = 0 → x.getP m = true) ∧ (m = 1 → x.getP m = false) := by
  constructor <;> rintro rfl <;> rfl

/-- Predicates cleared one after another. -/
theorem getP_clear (ls : List Nat) (x : Ctx) {m : Nat} (hls : ∀ j ∈ ls, j < 7) (hm : m < 16) :
    (ls.foldl (fun x j => x.setPhysP (x.physP (9 + j)) false) x).getP m = if ∃ j ∈ ls, m = 9 + j then false else x.getP m := by
  induction ls generalizing x with
  | nil => simp
  | cons j ls ih =>
    have hj : j < 7 := hls j (List.mem_cons_self ..)
    rw [List.foldl_cons, ih _ fun k hk => hls k (List.mem_cons_of_mem _ hk), getP_setPhysP x (by omega) hm]
    obtain ⟨h0, h1⟩ := getP_fixed x (m := m)
    by_cases hmem : ∃ k ∈ ls, m = 9 + k
    · rw [if_pos hmem, if_pos (by obtain ⟨k, hk, e⟩ := hmem; exact ⟨k, List.mem_cons_of_mem _ hk, e⟩)]
    · rw [if_neg hmem]
      by_cases hmj : m = 9 + j
      · rw [if_neg (by omega), if_neg (by omega), if_pos hmj, if_pos ⟨j, List.mem_cons_self .., hmj⟩]
      · rw [if_neg (c := ∃ k ∈ j :: ls, m = 9 + k) (by simpa [hmj] using hmem), if_neg hmj]
        split_ifs with hm0 hm1
        · exact (h0 hm0).symm
        · exact (h1 hm1).symm
        · rfl

/-- At the setting up of a staged level p8 is true and p9-p15 are false. -/
theorem getP_stageInit (x : Ctx) {m : Nat} (hm : m < 16) : x.stageInit.getP m = if 8 ≤ m then decide (m = 8) else x.getP m := by
  obtain ⟨h0, h1⟩ := getP_fixed x (m := m)
  unfold Ctx.stageInit
  rw [getP_clear _ _ (fun j hj => List.mem_range.mp hj) hm, getP_setPhysP x (by omega) hm]
  by_cases hhigh : 9 ≤ m
  · rw [if_pos ⟨m - 9, List.mem_range.mpr (by omega), by omega⟩, if_pos (by omega)]
    exact (decide_eq_false (by omega)).symm
  · rw [if_neg (by rintro ⟨j, -, rfl⟩; omega)]
    by_cases h8 : m = 8
    · simp [h8]
    · simp only [h8, show ¬8 ≤ m by omega, if_false]
      split_ifs with hm0 hm1
      · exact (h0 hm0).symm
      · exact (h1 hm1).symm
      · rfl

/-! ## The nest after a transfer -/

/-- Whether a transfer to `u` leaves a level's body (07 R148). -/
abbrev Leaves (u : BitVec 64) (l : Level) : Prop := l.active = true ∧ (u.toNat < l.first.toNat ∨ l.last.toNat < u.toNat)

/-- A level, once idle. -/
def idle (l : Level) : Level := { l with active := false }

theorem getLevel_leaveLevels_list (u : BitVec 64) (ls : List Nat) (x : Ctx) (j : Nat) :
    (ls.foldl (fun x lvl => if Leaves u (x.getLevel lvl) then x.setLevel lvl (idle (x.getLevel lvl)) else x) x).getLevel j =
      if j ∈ ls ∧ Leaves u (x.getLevel j) then idle (x.getLevel j) else x.getLevel j := by
  induction ls generalizing x with
  | nil => simp
  | cons lvl ls ih =>
    rw [List.foldl_cons, ih]
    by_cases hleaves : Leaves u (x.getLevel lvl)
    · rw [if_pos hleaves, getLevel_setLevel]
      by_cases hj : j = lvl
      · subst hj
        rw [if_pos rfl, if_neg (c := j ∈ ls ∧ Leaves u (idle _)) fun h => Bool.false_ne_true h.2.1, if_pos ⟨List.mem_cons_self .., hleaves⟩]
      · simp [hj]
    · rw [if_neg hleaves]
      by_cases hj : j = lvl
      · subst hj
        rw [if_neg fun h => hleaves h.2, if_neg fun h => hleaves h.2]
      · simp [hj]

theorem getLevel_leaveLevels (u : BitVec 64) (x : Ctx) {j : Nat} (hj : j < 6) :
    (x.leaveLevels u).getLevel j = if Leaves u (x.getLevel j) then idle (x.getLevel j) else x.getLevel j := by
  refine (getLevel_leaveLevels_list u (List.range 6) x j).trans ?_
  simp [hj]

/-! ## The end of a bundle that is one slot's alone -/

section
variable {s : State} {i : Instr} {es : List Effect}

/-- Where no landing is outstanding, only results fall due. -/
theorem fall_ctx {d : Core} (hland : d.land = []) : (d.tickPipe.tickLand.writeLandings fun l => l.due).ctx =
    (d.pipe.filter fun r => decide (r.left ≤ 1)).foldl (fun x r => (x.write r.write).orFlags r.flags) d.ctx := by
  have hl : d.tickPipe.tickLand.land = [] := by
    show d.land.map _ = []
    rw [hland, List.map_nil]
  show ((d.tickPipe.tickLand.land.filter _).foldl _ d.tickPipe.ctx) = _
  rw [hl]
  rfl

/-- The context that such a bundle leaves in a member that is not protected, in terms of that at its end before execution goes on. -/
theorem ctx_after (h : Plain s) {d : Core} (hd : (inOrder es).foldl Core.apply (here s) = d) (hprot : d.prot = false) :
    (after s i es).ctx = { (staged d (lastIssue s i es)).ctx.advance es (here s).iss.size with
      cycle := (staged d (lastIssue s i es)).ctx.cycle + 1, waitOk := false } := by
  rw [after_eq h.empty h.unprotected, hd, endBundle_ctx, hprot]
  rfl

theorem staged_ctx_quiet {d : Core} (hpipe : d.pipe = []) (hland : d.land = []) :
    (staged d (lastIssue s i es)).ctx = if setsStaged es then d.ctx.stageInit else d.ctx := by
  rw [staged_ctx, fall_ctx hland, hpipe]
  rfl

theorem advance_jump (x : Ctx) {u : BitVec 64} (size : Nat) (heret : hasEret es = false) (hjump : jumpOf es = some u) :
    x.advance es size = { x.leaveLevels u with pc := u } := by
  rw [Ctx.advance, heret, hjump]
  rfl

theorem advance_skip (x : Ctx) {last past : BitVec 64} (size : Nat) (heret : hasEret es = false) (hjump : jumpOf es = none)
    (hskip : skipOf es = some (last, past)) (hinside : ∀ j < 6, (x.getLevel j).active = true → (x.getLevel j).last ≠ last) :
    x.advance es size = { x with pc := past } := by
  rw [Ctx.advance, heret, hjump, hskip]
  simp only [Bool.false_eq_true, if_false]
  rw [backEdges_none fun j hj => hinside j (by simp at hj; omega)]

theorem advance_next (x : Ctx) (size : Nat) (heret : hasEret es = false) (hjump : jumpOf es = none) (hskip : skipOf es = none)
    (hinside : ∀ j < 6, (x.getLevel j).active = true → (x.getLevel j).last ≠ x.pc) :
    x.advance es size = { x with pc := x.pc + BitVec.ofNat 64 size } := by
  rw [Ctx.advance, heret, hjump, hskip]
  simp only [Bool.false_eq_true, if_false]
  rw [backEdges_none fun j hj => hinside j (by simp at hj; omega)]

/-- What every step of a fold keeps, the fold keeps. -/
theorem foldl_keeps {α β γ : Type} {f : α → γ} {g : α → β → α} (h : ∀ x b, f (g x b) = f x) (l : List β) (x : α) : f (l.foldl g x) = f x := by
  induction l generalizing x with
  | nil => rfl
  | cons b l ih => rw [List.foldl_cons, ih, h]

/-- The predicates of a context whose nest alone is set up, and what else of it its stage predicates leave. -/
theorem stageInit_keeps (x : Ctx) : x.stageInit.lc = x.lc ∧ x.stageInit.pc = x.pc ∧ x.stageInit.cycle = x.cycle := by
  have hset (y : Ctx) (n : Nat) (b : Bool) : (y.setPhysP n b).lc = y.lc ∧ (y.setPhysP n b).pc = y.pc ∧ (y.setPhysP n b).cycle = y.cycle := by
    unfold Ctx.setPhysP
    split <;> exact ⟨rfl, rfl, rfl⟩
  unfold Ctx.stageInit
  refine ⟨?_, ?_, ?_⟩
  · rw [foldl_keeps (f := Ctx.lc) fun y j => (hset y _ false).1, (hset x _ true).1]
  · rw [foldl_keeps (f := Ctx.pc) fun y j => (hset y _ false).2.1, (hset x _ true).2.1]
  · rw [foldl_keeps (f := Ctx.cycle) fun y j => (hset y _ false).2.2, (hset x _ true).2.2]

/-! ## Transfers -/

/-- A transfer goes to its target, and leaves the levels whose bodies do not hold it. -/
theorem after_jump (h : Plain s) {u : BitVec 64} {d : Core} (hd : (inOrder es).foldl Core.apply (here s) = d) (hprot : d.prot = false)
    (hlc : (staged d (lastIssue s i es)).ctx.lc = (here s).ctx.lc) (heret : hasEret es = false) (hjump : jumpOf es = some u) :
    (after s i es).ctx.pc = u ∧ ∀ j < 6, (after s i es).ctx.getLevel j =
      if Leaves u ((here s).ctx.getLevel j) then idle ((here s).ctx.getLevel j) else (here s).ctx.getLevel j := by
  have hlevel (j : Nat) : (staged d (lastIssue s i es)).ctx.getLevel j = (here s).ctx.getLevel j := by rw [Ctx.getLevel, hlc, Ctx.getLevel]
  rw [ctx_after h hd hprot, advance_jump _ _ heret hjump]
  refine ⟨rfl, fun j hj => ?_⟩
  rw [← hlevel j, ← getLevel_leaveLevels u _ hj]
  unfold Ctx.getLevel
  rfl

theorem after_br (h : Plain s) (u : BitVec 64) : (after s i [.jump u]).ctx.pc = u ∧ ∀ j < 6, (after s i [.jump u]).ctx.getLevel j =
      if Leaves u ((here s).ctx.getLevel j) then idle ((here s).ctx.getLevel j) else (here s).ctx.getLevel j :=
  after_jump h (d := here s) rfl h.unprotected (by rw [staged_ctx_quiet h.pipe h.land]; rfl) rfl rfl

/-- CALL's result, which falls due at once, leaves the nest. -/
theorem after_call (h : Plain s) (u r : BitVec 64) : (after s i [.jump u, .result 1 (.s 31 r) 0]).ctx.pc = u ∧
    ∀ j < 6, (after s i [.jump u, .result 1 (.s 31 r) 0]).ctx.getLevel j =
      if Leaves u ((here s).ctx.getLevel j) then idle ((here s).ctx.getLevel j) else (here s).ctx.getLevel j := by
  refine after_jump h (d := (here s).apply (.result 1 (.s 31 r) 0)) rfl h.unprotected ?_ rfl rfl
  have hpipe : ((here s).apply (.result 1 (.s 31 r) 0)).pipe = [{ left := 1, write := .s 31 r, flags := 0 }] := by
    show (here s).pipe ++ _ = _
    rw [h.pipe]
    rfl
  rw [staged_ctx, fall_ctx (d := (here s).apply (.result 1 (.s 31 r) 0)) h.land, hpipe]
  exact (write_nest (here s).ctx (.s 31 r)).1

/-! ## LOOP, STAGE and KCLR -/

/-- The level that a LOOP sets up (07 R161). -/
def newLevel (body n count : Nat) (first last : BitVec 64) : Level :=
  { active := true, c := count, t := if 1 ≤ n then count + n - 1 else count, n := n, body := body, trips := 0, first := first, last := last }

theorem apply_loop (c : Core) (j body n : Nat) {count : Nat} (first last past : BitVec 64) (h : count ≠ 0) :
    c.apply (.loop j body n count first last past) =
      { c with ctx := (c.ctx.setLevel j (newLevel body n count first last)).heal 9 j fun _ => true } := if_neg h

theorem skipOf_loop (j body n : Nat) {count : Nat} (first last past : BitVec 64) (h : count ≠ 0) :
    skipOf [.loop j body n count first last past] = none := by
  obtain ⟨k, rfl⟩ := Nat.exists_eq_succ_of_ne_zero h
  rfl

theorem after_loop (h : Plain s) (j body n : Nat) {count : Nat} (first last past : BitVec 64) (hcount : count ≠ 0) (hlast : last ≠ (here s).ctx.pc) :
    let d := after s i [.loop j body n count first last past]
    d.ctx.getLevel j = newLevel body n count first last ∧ (∀ l ≠ j, d.ctx.getLevel l = (here s).ctx.getLevel l)
      ∧ d.ctx.pc = (here s).ctx.pc + BitVec.ofNat 64 (here s).iss.size
      ∧ ∀ p < 16, d.ctx.getP p = if 1 ≤ n ∧ 8 ≤ p then decide (p = 8) else (here s).ctx.getP p := by
  intro d
  let x := ((here s).ctx.setLevel j (newLevel body n count first last)).heal 9 j fun _ => true
  have hset : setsStaged [.loop j body n count first last past] = decide (1 ≤ n ∧ count ≠ 0) := Bool.or_false _
  have hstaged : (staged { here s with ctx := x } (lastIssue s i [.loop j body n count first last past])).ctx = if 1 ≤ n then x.stageInit else x := by
    rw [staged_ctx_quiet (d := { here s with ctx := x }) h.pipe h.land, hset]
    by_cases hn : 1 ≤ n <;> simp [hn, hcount]
  obtain ⟨hlc, hpc, -⟩ := stageInit_keeps x
  have hlevel (l : Nat) : (if 1 ≤ n then x.stageInit else x).getLevel l = if l = j then newLevel body n count first last else (here s).ctx.getLevel l := by
    refine Eq.trans ?_ (getLevel_setLevel (here s).ctx j l _)
    split
    · rw [Ctx.getLevel, hlc]
      rfl
    · rfl
  have hpc' : (if 1 ≤ n then x.stageInit else x).pc = (here s).ctx.pc := by
    split
    · exact hpc
    · rfl
  have hinside : ∀ l < 6, ((if 1 ≤ n then x.stageInit else x).getLevel l).active = true →
      ((if 1 ≤ n then x.stageInit else x).getLevel l).last ≠ (if 1 ≤ n then x.stageInit else x).pc := by
    intro l hl
    rw [hlevel, hpc']
    split
    · exact fun _ => hlast
    · exact h.inside l hl
  have hctx : d.ctx = _ := ctx_after h (apply_loop (here s) j body n first last past hcount) h.unprotected
  rw [hctx, hstaged, advance_next _ _ rfl rfl (skipOf_loop j body n first last past hcount) hinside]
  refine ⟨(hlevel j).trans (if_pos rfl), fun l hl => (hlevel l).trans (if_neg hl), congrArg (· + _) hpc', fun p hp => ?_⟩
  show (if 1 ≤ n then x.stageInit else x).getP p = _
  by_cases hn : 1 ≤ n
  · rw [if_pos hn, getP_stageInit x hp]
    simp only [hn, true_and]
    rfl
  · simp only [hn, false_and, if_false]
    rfl

/-- A LOOP with count 0 passes its body. -/
theorem after_loop_skip (h : Plain s) (j body n : Nat) (first last past : BitVec 64)
    (hinside : ∀ l < 6, ((here s).ctx.getLevel l).active = true → ((here s).ctx.getLevel l).last ≠ last) :
    (after s i [.loop j body n 0 first last past]).ctx = { goesOn s (here s).ctx with pc := past } := by
  have hset : setsStaged [.loop j body n 0 first last past] = false := by simp [setsStaged]
  rw [ctx_after h (d := here s) rfl h.unprotected, staged_ctx_quiet h.pipe h.land, hset]
  simp only [Bool.false_eq_true, if_false]
  rw [advance_skip _ _ rfl rfl (show skipOf _ = some (last, past) from rfl) hinside]

/-- What STAGE makes of its level (07 R163). -/
def cutLevel (n : Nat) (l : Level) : Level :=
  if l.active = true then
    { l with c := min l.c (l.trips + 1 + n), t := if 1 ≤ l.n then min l.c (l.trips + 1 + n) + l.n - 1 else min l.c (l.trips + 1 + n) }
  else l

theorem getLevel_stage (x : Ctx) (j n l : Nat) : (x.stage j n).getLevel l = if l = j then cutLevel n (x.getLevel j) else x.getLevel l := by
  unfold Ctx.stage cutLevel
  dsimp only
  split
  · exact getLevel_setLevel x j l _
  · split
    case isTrue hl => rw [hl]
    case isFalse => rfl

theorem cutLevel_keeps (n : Nat) (l : Level) : (cutLevel n l).active = l.active ∧ (cutLevel n l).last = l.last := by
  unfold cutLevel
  split <;> exact ⟨rfl, rfl⟩

theorem stage_pc (x : Ctx) (j n : Nat) : (x.stage j n).pc = x.pc := by
  unfold Ctx.stage
  dsimp only
  split <;> rfl

theorem after_stage (h : Plain s) (j n : Nat) :
    (after s i [.stage j n]).ctx.pc = (here s).ctx.pc + BitVec.ofNat 64 (here s).iss.size
      ∧ (after s i [.stage j n]).ctx.getLevel j = cutLevel n ((here s).ctx.getLevel j)
      ∧ ∀ m ≠ j, (after s i [.stage j n]).ctx.getLevel m = (here s).ctx.getLevel m := by
  let d : Core := { here s with ctx := (here s).ctx.stage j n }
  have hinside : ∀ l < 6, (d.ctx.getLevel l).active = true → (d.ctx.getLevel l).last ≠ d.ctx.pc := by
    intro l hl
    rw [getLevel_stage, stage_pc]
    split
    case isTrue hj =>
      subst hj
      rw [(cutLevel_keeps n _).1, (cutLevel_keeps n _).2]
      exact h.inside l hl
    case isFalse => exact h.inside l hl
  rw [ctx_after h (d := d) rfl h.unprotected, staged_ctx_quiet (d := d) h.pipe h.land, if_neg (show ¬setsStaged [Effect.stage j n] = true from Bool.false_ne_true), advance_next _ _ rfl rfl rfl hinside]
  exact ⟨congrArg (· + _) (stage_pc _ j n), (getLevel_stage _ j n j).trans (if_pos rfl), fun m hm => (getLevel_stage _ j n m).trans (if_neg hm)⟩

theorem after_kclr (h : Plain s) (tok : Nat) :
    (after s i [.kclr tok]).ctx.tokenDone tok = true ∧ ∀ m ≠ tok, (after s i [.kclr tok]).ctx.tokenDone m = (here s).ctx.tokenDone m := by
  have hset : ((here s).ctx.setToken tok none).lc = (here s).ctx.lc ∧ ((here s).ctx.setToken tok none).pc = (here s).ctx.pc := by
    unfold Ctx.setToken
    split <;> exact ⟨rfl, rfl⟩
  have hend := after_straight (i := i) (es := [.kclr tok]) h rfl ⟨rfl, rfl, rfl, rfl⟩ h.pipe h.land h.unprotected hset.1 hset.2
  have hdone (m : Nat) : (after s i [.kclr tok]).ctx.tokenDone m = (decide (m = tok) || (here s).ctx.tokenDone m) := by
    rw [hend.ctx]
    exact tokenDone_setToken (here s).ctx tok m
  exact ⟨by rw [hdone]; simp, fun m hm => by rw [hdone]; simp [hm]⟩

end

/-- The new body obeys the nest where every active level is outside it (03 R78). -/
theorem nestOk_of {x : Ctx} {lvl : Nat} {first last : BitVec 64} (h : ∀ j < 6, (x.getLevel j).active = true →
    lvl < j ∧ (x.getLevel j).first.toNat ≤ first.toNat ∧ last.toNat ≤ (x.getLevel j).last.toNat) : x.nestOk lvl first last = true := by
  refine List.all_eq_true.mpr fun j hj => ?_
  cases hactive : (x.getLevel j).active with
  | false => simp [hactive]
  | true => simp [hactive, h j (List.mem_range.mp hj) hactive]

/-- Settles O4: each form's one effect, and what the end of its bundle makes of the pc, the nest, the predicates and the tokens. -/
theorem transfersAndLoops : Obligations.TransfersAndLoops := by
  unfold Obligations.TransfersAndLoops
  intro s t a cnt len lvl stg n k
  refine ⟨?br, ?bri, ?call, ?ret, ?loop, ?stage, ?kclr, fun i es hplain => ⟨?jumps, ?loops, ?stages, ?kclrs⟩⟩
  case br => exact does_of_effects rfl rfl ⟨rfl, rfl, rfl, rfl⟩
  case bri =>
    intro halign
    refine does_of_effects (q := false) (e := false) (so := []) rfl ?_ ⟨rfl, rfl, rfl, rfl⟩
    rw [targetFault, if_pos halign]
  case call => exact does_of_effects rfl rfl ⟨rfl, rfl, rfl, rfl⟩
  case ret =>
    intro halign
    refine does_of_effects (q := false) (e := false) (so := []) rfl ?_ ⟨rfl, rfl, rfl, rfl⟩
    rw [targetFault, if_pos (show ((here s).ctx.getS 31).toNat % 16 = 0 from halign)]
    rfl
  case loop =>
    intro body ends hnest
    refine does_of_effects (q := false) (e := false) (so := []) rfl ?_ ⟨rfl, rfl, rfl, rfl⟩
    dsimp only
    rw [if_pos]
    · rfl
    · exact nestOk_of hnest
  case stage => exact does_of_effects rfl rfl ⟨rfl, rfl, rfl, rfl⟩
  case kclr => exact does_of_effects rfl rfl ⟨rfl, rfl, rfl, rfl⟩
  case jumps =>
    rintro u (rfl | ⟨r, rfl⟩)
    · exact after_br hplain u
    · exact after_call hplain u r
  case loops =>
    rintro j body n count first last past rfl
    refine ⟨after_loop hplain j body n first last past, ?_⟩
    rintro rfl hinside
    exact after_loop_skip hplain j body n first last past hinside
  case stages =>
    rintro j n rfl
    exact after_stage hplain j n
  case kclrs =>
    rintro tok rfl
    exact after_kclr hplain tok

end Sys2Proof.Proofs

/-! SUPPORT. The end of a bundle: what falls due is written and the rest comes nearer (03 R69, R70), and a back-edge of one loop level (07 R162). -/

namespace Sys2Proof.Proofs

open Sys2Proof Sys2Proof.Machine Sys2Proof.Laws Sys2Proof.Claims

/-! ## What falls due -/

theorem landWrite_due (x : Ctx) (l : Landing) (n : Nat) (d : Bool) : x.landWrite { l with due := d } n = x.landWrite l n := rfl

/-- A landing a bundle nearer, which is due only if this was its bundle. -/
def nearer (l : Landing) : Landing := if l.left = 0 then { l with due := true } else { l with left := l.left - 1 }

theorem due_nearer {l : Landing} (h : l.due = false) : (nearer l).due = decide (l.left = 0) := by
  unfold nearer
  split <;> simp [*]

theorem data_nearer (l : Landing) : (nearer l).data = l.data := by
  unfold nearer
  split <;> rfl

theorem landWrite_nearer (x : Ctx) (l : Landing) (n : Nat) : x.landWrite (nearer l) n = x.landWrite l n := by
  unfold nearer
  split <;> rfl

section
variable {c : Core} (hdue : ∀ l ∈ c.land, l.due = false)
include hdue

theorem tickLand_land : c.tickLand.land = c.land.map nearer :=
  List.map_congr_left fun l hl => if_neg (by simp [hdue l hl])

/-- Of the landings, those of this bundle's distance that have arrived are written. -/
theorem filter_due (keep : Bool → Bool) : (c.land.map nearer).filter (fun l => keep (l.due && l.data.isSome)) =
    (c.land.filter fun l => keep (decide (l.left = 0) && l.data.isSome)).map nearer := by
  rw [List.filter_map]
  congr 1
  refine List.filter_congr fun l hl => ?_
  show keep ((nearer l).due && (nearer l).data.isSome) = _
  rw [due_nearer (hdue l hl), data_nearer]

theorem fall_land : (c.tickPipe.tickLand.writeLandings fun l => l.due).land =
    (c.land.filter fun l => !(decide (l.left = 0) && l.data.isSome)).map nearer := by
  show (c.tickLand.land.filter fun l => !(l.due && l.data.isSome)) = _
  rw [tickLand_land hdue, filter_due hdue]

theorem fall_eq_fallen : (c.tickPipe.tickLand.writeLandings fun l => l.due).ctx = fallen c := by
  show (c.tickLand.land.filter fun l => l.due && l.data.isSome).foldl (fun x l => x.landWrite l (l.data.getD 0)) c.tickPipe.ctx = _
  rw [tickLand_land hdue, show List.filter (fun l : Landing => l.due && l.data.isSome) _ = _ from filter_due hdue id, List.foldl_map]
  simp only [data_nearer, landWrite_nearer]
  rfl

end

/-- What falls due writes registers, and keeps the nest, the pc and the count of cycles. -/
theorem fallen_nest (c : Core) : (fallen c).lc = c.ctx.lc ∧ (fallen c).pc = c.ctx.pc ∧ (fallen c).cycle = c.ctx.cycle := by
  have hland (x : Ctx) (l : Landing) : (x.landWrite l (l.data.getD 0)).lc = x.lc ∧ (x.landWrite l (l.data.getD 0)).pc = x.pc
      ∧ (x.landWrite l (l.data.getD 0)).cycle = x.cycle := by
    unfold Ctx.landWrite
    dsimp only
    split
    · exact write_nest x _
    · exact ⟨rfl, rfl, rfl⟩
  obtain ⟨hlc, hpc, hcycle⟩ := results_nest (c.pipe.filter fun r : Pending => decide (r.left ≤ 1)) Pending.write Pending.flags c.ctx
  unfold fallen
  refine ⟨?_, ?_, ?_⟩
  · rw [foldl_keeps (f := Ctx.lc) fun x l => (hland x l).1, hlc]
  · rw [foldl_keeps (f := Ctx.pc) fun x l => (hland x l).2.1, hpc]
  · rw [foldl_keeps (f := Ctx.cycle) fun x l => (hland x l).2.2, hcycle]

/-! ## A NOP's bundle -/

section
variable {s : State}

/-- A NOP's bundle ends with what falls due. -/
theorem exec_idle (h : Idle s) : exec .nop s = .next (s.issued .nop []) := does_of_effects rfl rfl ⟨rfl, rfl, rfl, rfl⟩ h.ready

theorem after_idle (h : Idle s) : after s .nop [] = (here s).endBundle (lastIssue s .nop []) := after_eq h.empty h.unprotected

theorem idle_landings (h : Idle s) : ∀ l ∈ (here s).land, l.due = false := fun l hl => (h.ready.quiet.landings l hl).1

theorem ctx_after_idle (h : Idle s) : (after s .nop []).ctx =
    { (fallen (here s)).advance [] (here s).iss.size with cycle := (fallen (here s)).cycle + 1, waitOk := false } := by
  rw [after_idle h, endBundle_ctx, h.unprotected, ← fall_eq_fallen (idle_landings h)]
  rfl

theorem getLevel_fallen (c : Core) (j : Nat) : (fallen c).getLevel j = c.ctx.getLevel j := by rw [Ctx.getLevel, (fallen_nest c).1, Ctx.getLevel]

/-- With no body ending here the next bundle in order follows. -/
theorem ctx_after_idle_inside (h : Idle s)
    (hinside : ∀ j < 6, ((here s).ctx.getLevel j).active = true → ((here s).ctx.getLevel j).last ≠ (here s).ctx.pc) : (after s .nop []).ctx =
    { fallen (here s) with pc := (here s).ctx.pc + BitVec.ofNat 64 (here s).iss.size, cycle := (here s).ctx.cycle + 1, waitOk := false } := by
  obtain ⟨-, hpc, hcycle⟩ := fallen_nest (here s)
  rw [ctx_after_idle h, advance_next _ _ rfl rfl rfl fun j hj => by rw [getLevel_fallen, hpc]; exact hinside j hj, hpc, hcycle]

/-! ## Results of the bundle's own -/

/-- Effects that are results alone. -/
abbrev results (rs : List (Nat × RegWrite × FFlags)) : List Effect := rs.map fun r => .result r.1 r.2.1 r.2.2

/-- Results enter the pipeline, one after another. -/
theorem foldl_results (c : Core) (rs : List (Nat × RegWrite × FFlags)) : (results rs).foldl Core.apply c =
    { c with pipe := c.pipe ++ rs.map fun r => { left := r.1, write := r.2.1, flags := r.2.2 } } := by
  induction rs generalizing c with
  | nil => simp
  | cons r rs ih =>
    rw [results, List.map_cons, List.foldl_cons, ih]
    simp [Core.apply]

theorem effectOrder_results (rs : List (Nat × RegWrite × FFlags)) : ∀ e ∈ results rs, effectOrder e = 2 := by
  intro e he
  obtain ⟨r, -, rfl⟩ := List.mem_map.mp he
  rfl

theorem straight_results (rs : List (Nat × RegWrite × FFlags)) : Straight (results rs) := by
  induction rs with
  | nil => exact ⟨rfl, rfl, rfl, rfl⟩
  | cons r rs ih => exact ⟨ih.staged, ih.eret, ih.jump, ih.skip⟩

theorem after_results (h : Plain s) (i : Instr) (rs : List (Nat × RegWrite × FFlags)) :
    let d := after s i (rs.map fun r => .result r.1 r.2.1 r.2.2)
    d.ctx = goesOn s ((rs.filter fun r => decide (r.1 ≤ 1)).foldl (fun x r => (x.write r.2.1).orFlags r.2.2) (here s).ctx)
    ∧ d.pipe = (rs.filter fun r => decide (1 < r.1)).map (fun r => { left := r.1 - 1, write := r.2.1, flags := r.2.2 })
    ∧ d.pool = (here s).pool ∧ d.run = (here s).run := by
  intro d
  have hd : (inOrder (results rs)).foldl Core.apply (here s) =
      { here s with pipe := rs.map fun r => { left := r.1, write := r.2.1, flags := r.2.2 } } := by
    rw [inOrder_plain (effectOrder_results rs), foldl_results, h.pipe, List.nil_append]
  obtain ⟨hstaged, heret, hjump, hskip⟩ := straight_results rs
  have hfall := fall_ctx (d := { here s with pipe := rs.map fun r => { left := r.1, write := r.2.1, flags := r.2.2 } }) h.land
  have hdue : ((rs.map fun r => ({ left := r.1, write := r.2.1, flags := r.2.2 } : Pending)).filter fun r => decide (r.left ≤ 1)).foldl
      (fun x r => (x.write r.write).orFlags r.flags) (here s).ctx =
      (rs.filter fun r => decide (r.1 ≤ 1)).foldl (fun x r => (x.write r.2.1).orFlags r.2.2) (here s).ctx := by
    rw [List.filter_map, List.foldl_map]
    rfl
  obtain ⟨hlc, hpc, hcycle⟩ := results_nest (rs.filter fun r : Nat × RegWrite × FFlags => decide (r.1 ≤ 1)) (fun r => r.2.1) (fun r => r.2.2) (here s).ctx
  have hinside : ∀ j ∈ [0, 1, 2, 3, 4, 5], _ → _ := fun j hj => h.inside j (by simp at hj; omega)
  obtain ⟨hctx, hpipe, -, hpool, -, -, -, -, hrun⟩ := endBundle_plain
    (c := { here s with pipe := rs.map fun r => { left := r.1, write := r.2.1, flags := r.2.2 } }) (x := lastIssue s i (results rs)) h.unprotected
    hstaged heret hjump hskip (by
      rw [hfall, hdue]
      simp only [Ctx.getLevel, hlc, hpc]
      exact hinside)
  have hafter : d = _ := (after_eq h.empty h.unprotected).trans (congrArg (fun c : Core => c.endBundle _) hd)
  rw [hafter]
  refine ⟨?_, hpipe.trans ?_, hpool, hrun⟩
  · rw [hctx, hfall, hdue, hpc, hcycle]
    rfl
  · show ((rs.map _).filter _).map _ = _
    rw [List.filter_map, List.map_map]
    rfl

end

/-! ## Back-edges -/

theorem getA_addSteps_list (lvl : Nat) (ls : List Nat) (hnodup : ls.Nodup) (x : Ctx) (n : Nat) :
    (ls.foldl (fun x n => if x.getStep lvl n = 0 then x else { x with a := mapUpd 0 x.a n (· + x.getStep lvl n) }) x).getA n =
      if n ∈ ls then x.getA n + x.getStep lvl n else x.getA n := by
  induction ls generalizing x with
  | nil => simp
  | cons m ls ih =>
    obtain ⟨hm, hnodup⟩ := List.nodup_cons.mp hnodup
    rw [List.foldl_cons, ih hnodup]
    have hstep : (if x.getStep lvl m = 0 then x else { x with a := mapUpd 0 x.a m (· + x.getStep lvl m) }).getStep lvl n = x.getStep lvl n := by
      split <;> rfl
    have ha : (if x.getStep lvl m = 0 then x else { x with a := mapUpd 0 x.a m (· + x.getStep lvl m) }).getA n =
        if n = m then x.getA n + x.getStep lvl n else x.getA n := by
      by_cases hn : n = m
      · subst hn
        rw [if_pos rfl]
        split
        case isTrue h0 => rw [h0]; simp
        case isFalse => exact mapGet_set_same _ _
      · rw [if_neg hn]
        split
        case isTrue => rfl
        case isFalse => exact mapGet_set_other _ hn
    rw [hstep, ha]
    by_cases hn : n = m
    · subst hn
      simp [hm]
    · simp [hn]

/-- Every address register adds its step of the level. -/
theorem getA_addSteps (x : Ctx) (lvl : Nat) {n : Nat} (hn : n < 16) : (x.addSteps lvl).getA n = x.getA n + x.getStep lvl n := by
  refine (getA_addSteps_list lvl (List.range 16) List.nodup_range x n).trans ?_
  rw [if_pos (List.mem_range.mpr hn)]

/-- Only address registers change so. -/
theorem addSteps_eq (x : Ctx) (lvl : Nat) : x.addSteps lvl = { x with a := (x.addSteps lvl).a } := by
  unfold Ctx.addSteps
  generalize List.range 16 = ls
  induction ls generalizing x with
  | nil => rfl
  | cons n ls ih =>
    rw [List.foldl_cons, ih]
    dsimp only
    split <;> rfl

theorem getP_congr {x y : Ctx} {n : Nat} (hp : x.p = y.p) (hpB : x.pB = y.pB) : x.getP n = y.getP n := by
  rw [Ctx.getP, Ctx.physP, hp, hpB, ← Ctx.physP, ← Ctx.getP]

/-- A back-edge but for its level: the address registers become `a`; with stages the files rotate and p8 becomes `b`. -/
def edgeFrom (x : Ctx) (a : FMap AReg) (stages b : Bool) : Ctx :=
  if stages then ({ x with a := a } : Ctx).rotate.setPhysP (x.rotate.physP 8) b else { x with a := a }

theorem edgeFrom_flat (x : Ctx) (a : FMap AReg) (b : Bool) : (edgeFrom x a false b).sB = x.sB ∧ (edgeFrom x a false b).vB = x.vB
    ∧ (edgeFrom x a false b).pB = x.pB ∧ (edgeFrom x a false b).kB = x.kB ∧ (edgeFrom x a false b).p = x.p := ⟨rfl, rfl, rfl, rfl, rfl⟩

/-- What a back-edge leaves of a context. -/
theorem edgeFrom_keeps (x : Ctx) (a : FMap AReg) (stages b : Bool) : (edgeFrom x a stages b).a = a ∧ (edgeFrom x a stages b).s = x.s
    ∧ (edgeFrom x a stages b).v = x.v ∧ (edgeFrom x a stages b).mks = x.mks ∧ (edgeFrom x a stages b).e = x.e ∧ (edgeFrom x a stages b).step = x.step
    ∧ (edgeFrom x a stages b).fflags = x.fflags ∧ (edgeFrom x a stages b).lc = x.lc := by
  unfold edgeFrom Ctx.setPhysP
  split
  · split <;> exact ⟨rfl, rfl, rfl, rfl, rfl, rfl, rfl, rfl⟩
  · exact ⟨rfl, rfl, rfl, rfl, rfl, rfl, rfl, rfl⟩

theorem edgeFrom_bases (x : Ctx) (a : FMap AReg) (b : Bool) : (edgeFrom x a true b).sB = x.sB - 1 ∧ (edgeFrom x a true b).vB = x.vB - 1
    ∧ (edgeFrom x a true b).pB = x.pB - 1 ∧ (edgeFrom x a true b).kB = x.kB - 1 := by
  unfold edgeFrom Ctx.setPhysP
  rw [if_pos rfl]
  split <;> exact ⟨rfl, rfl, rfl, rfl⟩

/-- With stages p8 tells whether another item begins, and every other predicate is as rotated. -/
theorem getP_edgeFrom (x : Ctx) (a : FMap AReg) (b : Bool) {m : Nat} (hm : m < 16) :
    (edgeFrom x a true b).getP m = if m = 8 then b else x.rotate.getP m := by
  have hset := getP_setPhysP ({ x with a := a } : Ctx).rotate (n := 8) (by omega) hm b
  obtain ⟨h0, h1⟩ := getP_fixed x.rotate (m := m)
  refine hset.trans ?_
  by_cases h8 : m = 8
  · simp [h8]
  · simp only [h8, if_false]
    split_ifs with hm0 hm1
    · exact (h0 hm0).symm
    · exact (h1 hm1).symm
    · rfl

/-- The context of a back-edge of a level but for the level itself. -/
def edgeCtx (x : Ctx) (lvl : Nat) : Ctx :=
  edgeFrom x (x.addSteps lvl).a (decide (1 ≤ (x.getLevel lvl).n)) (decide ((x.getLevel lvl).trips + 1 < (x.getLevel lvl).c))

theorem edgeCtx_keeps (x : Ctx) (lvl : Nat) : (edgeCtx x lvl).a = (x.addSteps lvl).a ∧ (edgeCtx x lvl).s = x.s ∧ (edgeCtx x lvl).v = x.v
    ∧ (edgeCtx x lvl).mks = x.mks ∧ (edgeCtx x lvl).e = x.e ∧ (edgeCtx x lvl).step = x.step ∧ (edgeCtx x lvl).fflags = x.fflags
    ∧ (edgeCtx x lvl).lc = x.lc := edgeFrom_keeps x _ _ _

theorem edgeCtx_eq (x : Ctx) (lvl : Nat) : (if 1 ≤ (x.getLevel lvl).n then
    (x.addSteps lvl).rotate.setPhysP ((x.addSteps lvl).rotate.physP 8) (decide ((x.getLevel lvl).trips + 1 < (x.getLevel lvl).c))
    else x.addSteps lvl) = edgeCtx x lvl := by
  unfold edgeCtx edgeFrom
  rw [addSteps_eq]
  generalize (x.addSteps lvl).a = a
  simp only [decide_eq_true_iff]
  rfl

/-- The level that a back-edge leaves: a trip more, and idle after its last. -/
def edgeLevel (l : Level) : Level := { l with trips := l.trips + 1, active := decide (l.trips + 1 < l.t) }

theorem backEdge_eq (x : Ctx) {lvl : Nat} (h : (x.getLevel lvl).active = true) :
    x.backEdge lvl = ((edgeCtx x lvl).setLevel lvl (edgeLevel (x.getLevel lvl)), decide ((x.getLevel lvl).trips + 1 < (x.getLevel lvl).t)) := by
  rw [← edgeCtx_eq]
  unfold Ctx.backEdge edgeLevel
  dsimp only
  by_cases hmore : (x.getLevel lvl).trips + 1 < (x.getLevel lvl).t
  · rw [if_pos hmore, h, decide_eq_true hmore]
  · rw [if_neg hmore, decide_eq_false hmore]

/-- Where one level alone ends at the bundle, its back-edge is all that occurs. -/
theorem backEdges_one {lvl : Nat} {pc next : BitVec 64} (ls : List Nat) (hnodup : ls.Nodup) (hmem : lvl ∈ ls) (x : Ctx)
    (hactive : (x.getLevel lvl).active = true) (hlast : (x.getLevel lvl).last = pc)
    (hothers : ∀ j ∈ ls, j ≠ lvl → (x.getLevel j).active = true → (x.getLevel j).last ≠ pc) :
    x.backEdges pc next ls = ((edgeCtx x lvl).setLevel lvl (edgeLevel (x.getLevel lvl)),
      if (x.getLevel lvl).trips + 1 < (x.getLevel lvl).t then (x.getLevel lvl).first else next) := by
  induction ls with
  | nil => cases hmem
  | cons j ls ih =>
    obtain ⟨hj, hnodup⟩ := List.nodup_cons.mp hnodup
    unfold Ctx.backEdges
    dsimp only
    by_cases hjl : j = lvl
    · subst hjl
      rw [if_pos ⟨hactive, hlast⟩, backEdge_eq x hactive]
      by_cases hmore : (x.getLevel j).trips + 1 < (x.getLevel j).t
      · simp only [hmore, decide_true, if_true]
      · simp only [hmore, decide_false, Bool.false_eq_true, if_false]
        refine backEdges_none fun k hk => ?_
        have hkj : k ≠ j := fun e => hj (e ▸ hk)
        rw [getLevel_setLevel, if_neg hkj, Ctx.getLevel, (edgeCtx_keeps x j).2.2.2.2.2.2.2]
        exact hothers k (List.mem_cons_of_mem _ hk) hkj
    · rw [if_neg fun h => hothers j (List.mem_cons_self ..) hjl h.1 h.2]
      exact ih hnodup (List.mem_of_ne_of_mem (Ne.symm hjl) hmem) fun k hk => hothers k (List.mem_cons_of_mem _ hk)

/-! ## The statements -/

/-- Settles O51: a NOP's bundle ends with what falls due and nothing else, and results of the bundle's own go through the same end. -/
theorem bundleEnds : Obligations.BundleEnds := by
  refine ⟨fun s h => ⟨_, exec_idle h, ?_, ?_⟩, fun s i rs h => after_results h i rs⟩
  · rw [State.issued, core_setCore_same]
  · refine ⟨?_, ?_, ?_, ?_, ?_, ?_, ?_, ?_, ctx_after_idle_inside h⟩ <;> rw [show State.core _ _ = _ from after_idle h]
    case refine_2 => exact fall_land (idle_landings h)
    all_goals rfl

/-- Settles O52: where one level ends at the bundle its back-edge alone occurs, on what has fallen due. -/
theorem loopBackEdges : Obligations.LoopBackEdges := by
  unfold Obligations.LoopBackEdges
  intro s lvl h hlvl c l hactive hlast hothers
  refine ⟨_, exec_idle h, ?_⟩
  intro x y more
  obtain ⟨hlc, hpc, hcycle⟩ := fallen_nest c
  have hlevel : x.getLevel lvl = l := getLevel_fallen c lvl
  have hedges := backEdges_one (pc := x.pc) (next := x.pc + BitVec.ofNat 64 c.iss.size) [0, 1, 2, 3, 4, 5] (by decide)
    (show lvl ∈ [0, 1, 2, 3, 4, 5] by simp; omega) x (by rw [hlevel]; exact hactive) (by rw [hlevel, hpc]; exact hlast) fun j hj hne => by
      rw [getLevel_fallen, hpc]
      exact hothers j (by simp at hj; omega) hne
  have hmore : (l.trips + 1 < l.t) ↔ more = true := decide_eq_true_iff.symm
  have hy : y = { (edgeCtx x lvl).setLevel lvl (edgeLevel l) with
      pc := if more then l.first else c.ctx.pc + BitVec.ofNat 64 c.iss.size, cycle := x.cycle + 1, waitOk := false } := by
    have hadvance : x.advance [] c.iss.size = { (edgeCtx x lvl).setLevel lvl (edgeLevel l) with
        pc := if more then l.first else c.ctx.pc + BitVec.ofNat 64 c.iss.size } := by
      show ({ (x.backEdges x.pc (x.pc + BitVec.ofNat 64 c.iss.size) [0, 1, 2, 3, 4, 5]).1 with
        pc := (x.backEdges x.pc (x.pc + BitVec.ofNat 64 c.iss.size) [0, 1, 2, 3, 4, 5]).2 } : Ctx) = _
      rw [hedges, hlevel, hpc]
      simp only [hmore]
    exact (ctx_after_idle h).trans (by rw [hadvance])
  rw [hy]
  obtain ⟨ha, hs, hv, hmks, he, hstep, hfflags, hlc'⟩ := edgeCtx_keeps x lvl
  refine ⟨?addr, ?level, ?levels, rfl, hs, hv, hmks, he, hstep, hfflags, ?flat, ?staged⟩
  case addr =>
    intro n hn
    refine Eq.trans ?_ (getA_addSteps x lvl hn)
    exact congrArg (fun m => mapGet 0 m n) ha
  case level => exact (getLevel_setLevel (edgeCtx x lvl) lvl lvl (edgeLevel l)).trans (if_pos rfl)
  case levels =>
    intro j _ hne
    refine ((getLevel_setLevel (edgeCtx x lvl) lvl j (edgeLevel l)).trans (if_neg hne)).trans ?_
    rw [Ctx.getLevel, hlc', hlc, Ctx.getLevel]
  case flat =>
    intro hn
    have hflat : decide (1 ≤ (x.getLevel lvl).n) = false := by rw [hlevel]; simp [hn]
    have hkeeps := edgeFrom_flat x (x.addSteps lvl).a (decide ((x.getLevel lvl).trips + 1 < (x.getLevel lvl).c))
    rw [← hflat] at hkeeps
    exact hkeeps
  case staged =>
    intro hn
    have hstaged : edgeCtx x lvl = edgeFrom x (x.addSteps lvl).a true (decide (l.trips + 1 < l.c)) := by
      rw [edgeCtx, hlevel, decide_eq_true (show 1 ≤ l.n from hn)]
    obtain ⟨hsB, hvB, hpB, hkB⟩ := edgeFrom_bases x (x.addSteps lvl).a (decide (l.trips + 1 < l.c))
    have hp {n : Nat} (hn : n < 16) := getP_edgeFrom x (x.addSteps lvl).a (decide (l.trips + 1 < l.c)) hn
    rw [← hstaged] at hsB hvB hpB hkB
    simp only [← hstaged] at hp
    exact ⟨hsB, hvB, hpB, hkB, (getP_congr (y := edgeCtx x lvl) rfl rfl).trans ((hp (by omega)).trans (if_pos rfl)),
      fun n hn hne => (getP_congr (y := edgeCtx x lvl) rfl rfl).trans ((hp hn).trans (if_neg hne))⟩

end Sys2Proof.Proofs

/-! SUPPORT. What writing error records leaves of the cores, and a LOOP with count 0 whose body ends where an outer level's does: the outer level's
back-edge occurs at its bundle's end (07 R161, R162). -/

namespace Sys2Proof.Proofs

open Sys2Proof Sys2Proof.Machine Sys2Proof.Laws Sys2Proof.Claims

/-! ## Error records leave the cores -/

/-- The same cores, and the same one at hand. -/
structure SameCores (s t : State) : Prop where
  cores : t.cores = s.cores
  cur : t.cur = s.cur

theorem SameCores.refl (s : State) : SameCores s s := ⟨rfl, rfl⟩

theorem SameCores.trans {s t u : State} (h : SameCores s t) (h' : SameCores t u) : SameCores s u := ⟨h'.cores.trans h.cores, h'.cur.trans h.cur⟩

theorem SameCores.core {s t : State} (h : SameCores s t) (c : BitVec 8) : t.core c = s.core c := by rw [State.core, h.cores, State.core]

theorem sameCores_foldl {β : Type} {f : State → β → State} (hf : ∀ s b, SameCores s (f s b)) (l : List β) (s : State) : SameCores s (l.foldl f s) := by
  induction l generalizing s with
  | nil => exact .refl s
  | cons b l ih => exact (hf s b).trans (ih (f s b))

theorem sameCores_markDirty (s : State) (pa n : Nat) : SameCores s (s.markDirty pa n) := by
  unfold State.markDirty
  dsimp only
  split
  · split
    · exact ⟨rfl, rfl⟩
    · exact .refl s
  · exact .refl s

theorem sameCores_setRecord (s : State) (b n : Nat) (r : BitVec 256) : SameCores s (s.setRecord b n r) := by
  unfold State.setRecord State.mirrorRecord
  refine SameCores.trans (t := { s with recs := mapSet 0 s.recs (256 * b + n) r }) ⟨rfl, rfl⟩ (sameCores_foldl (fun t a => ?_) _ _)
  have hmark (u : State) (hu : SameCores t u) : SameCores t (u.markDirty (a + 32 * n) 32) := hu.trans (sameCores_markDirty _ _ _)
  exact hmark _ ⟨rfl, rfl⟩

theorem sameCores_logError (s : State) (b n : Nat) (e : ErrInfo) : SameCores s (s.logError b n e) := by
  unfold State.logError
  dsimp only
  split <;> exact (sameCores_setRecord s b n _).trans ⟨rfl, rfl⟩

theorem sameCores_gateStops (s : State) (pas : List Nat) : SameCores s (pas.foldl State.gateStops s) :=
  sameCores_foldl (fun s _ => sameCores_logError s _ _ _) pas s

/-! ## A bundle that does not take effect leaves the address registers -/

theorem settle_quiet {c : Core} (hpipe : c.pipe = []) (hland : c.land = []) : c.settle.ctx = c.ctx ∧ c.settle.run = c.run := by
  unfold Core.settle Core.flushPipe Core.writeLandings
  simp only [hpipe, hland, List.filter_nil, List.foldl_nil]
  exact ⟨trivial, trivial⟩

/-- A trap that a handler takes, of a member with no result and no landing outstanding, leaves the address registers. -/
theorem raiseTrap_handled {s : State} {k : BitVec 8} (t : Trap) (hprot : (s.core k).prot = false) (hpipe : (s.core k).pipe = [])
    (hland : (s.core k).land = []) (hhandles : (s.core k).ctx.handles = true) (hrun : (s.core k).killed = false) :
    ((s.raiseTrap k t).core k).ctx.a = (s.core k).ctx.a := by
  obtain ⟨hctx, hrun'⟩ := settle_quiet hpipe hland
  have htake : s.takeTrap k t (s.core k).ctx.pc = s.setCore k ((s.core k).settle.enterHandler t (s.core k).ctx.pc) := by
    unfold State.takeTrap State.finishTrap Core.landingPoison
    simp only [hland, List.all_nil, List.any_nil, if_true, Bool.false_eq_true, if_false, hctx, hhandles]
  unfold State.raiseTrap State.withPeers
  simp only [hprot, Bool.false_eq_true, if_false, htake, core_setCore_same]
  have halive : ((s.core k).settle.enterHandler t (s.core k).ctx.pc).killed = false := by
    rw [← hrun]
    unfold Core.killed Core.enterHandler
    dsimp only
    rw [hrun']
  rw [halive, Bool.false_and]
  simp only [Bool.false_eq_true, if_false, core_setCore_same]
  show (s.core k).settle.ctx.a = _
  rw [hctx]

theorem walkPoison_free {s : State} {k : BitVec 8} (pa : Nat) (h : (s.core k).task = none) : (s.walkPoison k pa).core k = s.core k := by
  have hsame := sameCores_logError s (cbOf k) 65 { cls := 3, code := 0x0502, atype := 2, addr := pa }
  unfold State.walkPoison State.killCore
  rw [hsame.core, h]
  exact hsame.core k

/-- The member runs outside a task, with a trap handler, and nothing outstanding. -/
structure Unbound (s : State) : Prop extends Alone s where
  task : (here s).task = none
  handles : (here s).ctx.handles = true
  alive : (here s).killed = false

theorem stopped_a {s t : State} (h : Unbound s) (hstopped : Stopped s t) : (t.core s.cur).ctx.a = (here s).ctx.a := by
  have hstops (x : Issue) (pas : List Nat) :
      (pas.foldl State.gateStops (s.setCore s.cur { here s with iss := x })).core s.cur = { here s with iss := x } :=
    ((sameCores_gateStops _ pas).core s.cur).trans (core_setCore_same _ _ _)
  obtain ⟨x, d, tr, pas, rfl⟩ | ⟨x, fz, -, rfl⟩ | rfl | ⟨x, pa, pas, rfl⟩ := hstopped
  · have hcore := core_setCore_same (pas.foldl State.gateStops (s.setCore s.cur { here s with iss := x })) s.cur
      { here s with iss := x, ctx := { (here s).ctx with deferred := d } }
    have hprot : ({ here s with iss := x, ctx := { (here s).ctx with deferred := d } } : Core).prot = false := by
      rw [Core.prot, show ({ here s with iss := x, ctx := _ } : Core).task = none from h.task]
    refine (raiseTrap_handled tr ?_ ?_ ?_ ?_ ?_).trans ?_ <;> rw [hcore]
    · exact hprot
    · exact h.pipe
    · exact h.land
    · exact h.handles
    · exact h.alive
  · rw [core_setCore_same]
    rfl
  · rw [core_setCore_same]
  · rw [walkPoison_free pa (by rw [hstops]; exact h.task), hstops]

/-! ## The refuting state -/

/-- Level 1 runs over the bundles from 0 to 16 with 10 trips to go, and adds 1 to a1 at each; the bundle at 0 holds a LOOP of level 0 whose body is
the bundle at 16, with the count s0, which is 0. -/
def innerLoop : State :=
  State.reset.setCore 0 { Init.core with
    ctx := { Init.ctx with
      tvec := 0x1000, lc := mapSet Init.level [] 1 { active := true, c := 10, t := 10, n := 0, body := 2, trips := 0, first := 0, last := 16 }
      step := mapSet 0 [] (16 * 1 + 1) 1 } }

theorem innerLoop_unbound : Unbound innerLoop := ⟨⟨rfl, rfl, rfl, rfl, rfl, by decide +kernel⟩, rfl, rfl, rfl⟩

/-- An address register after an instruction. -/
def addressAfter (s : State) (i : Instr) (n : Nat) : AReg := match exec i s with
  | .next t => (t.core s.cur).ctx.getA n
  | _ => 0

/-- The LOOP passes its body, whose end is level 1's: a1 becomes 1. -/
theorem innerLoop_adds : ∃ t, exec (.loop 0 0 1 0) innerLoop = .next t ∧ (t.core innerLoop.cur).ctx.getA 1 ≠ (here innerLoop).ctx.getA 1 := by
  obtain ⟨t, ht⟩ : ∃ t, exec (.loop 0 0 1 0) innerLoop = .next t := ⟨_, rfl⟩
  have hran : addressAfter innerLoop (.loop 0 0 1 0) 1 = 1 := by decide +kernel
  have hbefore : (here innerLoop).ctx.getA 1 = 0 := rfl
  rw [addressAfter, ht] at hran
  exact ⟨t, ht, by rw [show (t.core innerLoop.cur).ctx.getA 1 = 1 from hran, hbefore]; decide⟩

/-- Refutes O53: the last bundle of a body that a LOOP with count 0 passes may end an enclosing body too. The outer level's back-edge then adds its
step to an address register, and LOOP's frame leaves every address register as it was. -/
theorem not_registerFrames : ¬ Obligations.RegisterFrames := by
  unfold Obligations.RegisterFrames
  intro hframes
  obtain ⟨-, -, -, -, -, -, -, -, -, -, -, -, -, -, hloop, -⟩ :=
    hframes innerLoop 0 0 0 1 0 0 0 0 0 0 0 0 0 0 0 0 0 0 0 0 0 0 innerLoop_unbound.toAlone
  obtain ⟨t, ht, hchanged⟩ := innerLoop_adds
  rcases hloop t ht with hstopped | ⟨-, -, -, -, -, -, -, -, -, -, ⟨-, -, -, haddresses, -⟩, -⟩
  · exact hchanged (congrArg (fun a => mapGet 0 a 1) (stopped_a innerLoop_unbound hstopped))
  · exact hchanged (haddresses 1 List.not_mem_nil)

end Sys2Proof.Proofs

/-! SUPPORT. Reset, and words of the encoding tables. -/

namespace Sys2Proof.Proofs

open Sys2Proof Sys2Proof.Machine Sys2Proof.Laws Sys2Proof.Claims

/-- Settles O59: each word decodes by evaluation. -/
theorem decodeWords : Obligations.DecodeWords := by
  unfold Obligations.DecodeWords
  refine ⟨?_, ?_, ?_, ?_, ?_, ?_, ?_, ?_, ?_, ?_, ?_, ?_⟩ <;> decide +kernel

/-- A predicate register of the first bind: p0 alone is true. -/
theorem getP_firstBind (n : Nat) : Init.ctx.getP n = decide (n = 0) := by
  have hphys : Init.ctx.physP n = 0 → n = 0 := by
    unfold Ctx.physP rotated
    split <;> omega
  have hbit (m : Nat) : Init.ctx.p.getLsbD m = decide (m = 0) := by
    show (1 : BitVec 16).getLsbD m = _
    simp
  unfold Ctx.getP
  split_ifs with h0 h1
  · simp [h0]
  · simp [h1]
  · rw [hbit, decide_eq_false h0, decide_eq_false fun h => h0 (hphys h)]

/-- Settles O56: each value is that of reset. -/
theorem resetValues : Obligations.ResetValues := by
  unfold Obligations.ResetValues
  intro s x
  refine ⟨rfl, rfl, rfl, rfl, rfl, by decide +kernel, rfl, rfl, fun c => ⟨rfl, rfl, rfl, rfl, rfl⟩, fun n => ⟨?_, rfl, rfl, rfl, rfl, rfl, rfl⟩, getP_firstBind,
    fun n => rfl, fun n => ?_, rfl, rfl, rfl, rfl, wf_reset⟩
  · exact ite_self (0 : BitVec 64)
  · show Ctx.tokenDone Init.ctx n = true
    unfold Ctx.tokenDone
    exact Bool.or_true _

end Sys2Proof.Proofs

/-! SUPPORT. A turn runs what is decoded: the words of a bundle that decode, and what each kind of turn comes to (02 R52, 06 R116-R118). -/

namespace Sys2Proof.Proofs

open Sys2Proof Sys2Proof.Machine Sys2Proof.Laws Sys2Proof.Claims

/-- A word without an encoding fault decodes to a well-formed slot. -/
theorem decodeSlot_of_faultless {acc : List Slot} {w : BitVec 32} (h : encodingFault acc w = none) :
    ∃ sl, decodeSlot w = .ok sl ∧ sl.instr.wellFormed = true := by
  unfold encodingFault at h
  dsimp only at h
  split at h
  · cases h
  · cases h
  · next sl hsl =>
    refine ⟨sl, hsl, ?_⟩
    split at h
    · cases h
    · split at h
      · assumption
      · cases h

/-- The slots of a bundle that decodes are those of its words, each well formed. -/
theorem decodeBundle_ok {acc slots : List Slot} {ws : List (BitVec 32)} (h : decodeBundle acc ws = .ok slots) :
    ∃ more, slots = acc ++ more ∧ ws.map decodeSlot = more.map .ok ∧ ∀ sl ∈ more, sl.instr.wellFormed = true := by
  induction ws generalizing acc with
  | nil =>
    cases h
    exact ⟨[], (List.append_nil _).symm, rfl, fun _ h => nomatch h⟩
  | cons w ws ih =>
    unfold decodeBundle at h
    cases hfault : encodingFault acc w with
    | some t => rw [hfault] at h; cases h
    | none =>
      obtain ⟨sl, hsl, hwf⟩ := decodeSlot_of_faultless hfault
      rw [hfault, hsl] at h
      obtain ⟨more, rfl, hmap, hall⟩ := ih h
      refine ⟨sl :: more, by simp, by simp [hsl, hmap], ?_⟩
      rintro x (_ | ⟨_, hx⟩)
      · exact hwf
      · exact hall x hx

/-- The start of an issue cycle in which a bundle stands at issue. -/
theorem beginIssue_bundle {s : State} {c : BitVec 8} {ws : List (BitVec 32)} {slots : List Slot} :
    let t : State := { s with cur := c }
    (t.core c).issues = true → (t.core c).trap = none → ((t.core c).prot = false ∨ (t.core c).mayPreempt = false) →
    t.fetchWords c (t.core c).ctx.pc 8 0 = (ws, none) → framingFault ws true = none → decodeBundle [] ws = .ok slots →
    (t.core c).removable slots = false → s.beginIssue c = (atBundle t c (bundleBytes ws.length), slots) := by
  intro t hissues htrap hpreempt hfetch hframe hdecode hremovable
  have hstays : ((t.core c).prot && !(t.core c).seg.openSeg && (t.core c).mayPreempt) = false := by
    rcases hpreempt with h | h <;> simp [h]
  unfold State.beginIssue
  dsimp only
  rw [show ({ s with cur := c } : State) = t from rfl, hstays, hissues, htrap, hfetch]
  simp only [Bool.false_eq_true, if_false, Bool.not_true, fetchHeld, Option.map_none, reduceCtorEq, Option.isNone_none, hframe, hdecode, hremovable,
    decide_false]
  unfold atBundle
  dsimp only
  rw [htrap]

theorem issueTurn_of_begin {s t : State} {c : BitVec 8} {slots : List Slot} (h : (s.coreCycle c).beginIssue c = (t, slots)) :
    issueTurn s c = orStalls (s.coreCycle c) c (runSlots slots t) := by
  unfold issueTurn
  dsimp only
  rw [h]
  cases runSlots slots t <;> rfl

/-- A bank that may execute, and a micro-op that decodes. -/
theorem beginUop_ok {s : State} {k : BitVec 3} {pc : BitVec 8} {bank : BitVec 5} {u : UopSlot} :
    let p := s.chan k.toNat pc.toNat
    let b := p.bank bank.toNat
    s.bankWaits k.toNat pc.toNat bank.toNat = false → (b.row ≠ none ∨ (s.stack k.toNat).suspends = false) →
    decodeUop (mapGet 0 p.uops b.mpc.toNat) = .ok u →
    s.beginUop k pc bank = ({ s with curBank := (k, pc, bank), uopT := u.target }, some u) := by
  intro p b hwaits hrow hdecode
  have hsusp : ¬(b.row.isNone ∧ (s.stack k.toNat).suspends = true ∧ (p.prog.any (·.stopping)) = false) := by
    rintro ⟨hnone, hsuspends, -⟩
    rcases hrow with h | h
    · exact h (Option.isNone_iff_eq_none.mp hnone)
    · exact Bool.false_ne_true (h.symm.trans hsuspends)
  unfold State.beginUop
  dsimp only
  rw [hwaits, if_neg Bool.false_ne_true]
  refine (if_neg hsusp).trans ?_
  rw [hdecode]

/-- Settles O60: each kind of turn, unfolded to the `exec` of what is decoded. -/
theorem stepRunsDecoded : Obligations.StepRunsDecoded := by
  refine ⟨?turns, ?bundle, fun s => rfl, ?slot, ?uop, ?event, fun s t => rfl⟩
  case turns =>
    intro s x ts hturns u
    have hstep : step s = takeTurn u x := by rw [step, hturns]
    refine ⟨fun htwins => ?_, fun t hact => ?_⟩
    · rw [hstep, takeTurn]
      cases hact : act u x with
      | next t =>
        show Host.Outcome.next _ = _
        rw [State.followed, show u.twins = [] from htwins]
        rfl
      | fault f => rfl
      | refused r => rfl
    · rw [hstep, takeTurn, hact]
  case bundle =>
    intro s c ws slots t hissues htrap hpreempt hfetch hframe hdecode hremovable
    obtain ⟨more, hmore, hmap, hall⟩ := decodeBundle_ok hdecode
    rw [List.nil_append] at hmore
    subst hmore
    refine ⟨?_, hmap, hall⟩
    exact congrArg (held s) (issueTurn_of_begin (beginIssue_bundle hissues htrap hpreempt hfetch hframe hdecode hremovable))
  case slot =>
    intro s t sl rest hexec
    rw [runSlots, hexec]
  case uop =>
    intro s k pc bank u p b hpc hwaits hrow hdecode
    show held s (uopTurn { s with blocked := false } k pc bank) = _
    have hbegin : ({ s with blocked := false } : State).beginUop k pc bank = _ := beginUop_ok hwaits hrow hdecode
    rw [uopTurn, if_neg (by omega), hbegin]
  case event =>
    intro s i inp hevent
    show (if isEvent i then held s (eventTurn s i inp) else .next s) = _
    rw [if_pos hevent]
    congr 1
    unfold eventTurn
    cases exec i { s with inp := inp, blocked := false } <;> rfl

end Sys2Proof.Proofs

/-! SUPPORT. A trap's delivery: the handler that takes over, the wait for landings, and the trap that kills (18 R343-R345). -/

namespace Sys2Proof.Proofs

open Sys2Proof Sys2Proof.Machine Sys2Proof.Laws Sys2Proof.Claims

theorem settle_eq_drained (c : Core) : c.settle = drained c := by
  unfold Core.settle Core.writeLandings Core.flushPipe drained
  simp only [Bool.true_and]
  congr 1
  exact List.filter_congr fun l _ => by cases l.data <;> rfl

theorem landingPoison_none {c : Core} (h : ∀ l ∈ c.land, l.psn = false) (f : Landing → Bool) : c.landingPoison f = false :=
  List.any_eq_false.mpr fun l hl => by simp [h l hl]

/-- The handler takes over in the drained core. -/
theorem handles_enterHandler (d : Core) (t : Trap) (tpc : BitVec 64) : Handles d t.code t.port t.tval tpc (d.enterHandler t tpc) :=
  ⟨rfl, rfl, rfl, rfl, rfl, rfl, rfl, rfl, rfl, rfl, rfl⟩

theorem handles_of_handled {c : Core} (h : Handled c) : (drained c).ctx.handles = true := by
  unfold Ctx.handles Ctx.inTrap
  rw [decide_eq_true h.tvec, decide_eq_false (not_not_intro h.outside)]
  rfl

section
variable {s : State} {k : BitVec 8}

/-- With every landing arrived a trap is delivered at once. -/
theorem takeTrap_arrived (h : ∀ l ∈ (s.core k).land, l.data.isSome = true) (t : Trap) (tpc : BitVec 64) : s.takeTrap k t tpc = s.finishTrap k t tpc := by
  unfold State.takeTrap
  rw [if_pos (List.all_eq_true.mpr h)]

/-- With a landing outstanding its delivery waits. -/
theorem takeTrap_waits (h : ∃ l ∈ (s.core k).land, l.data.isSome = false) (t : Trap) (tpc : BitVec 64) :
    s.takeTrap k t tpc = s.setCore k { s.core k with trap := some (t, tpc), iss := Init.issue } := by
  obtain ⟨l, hl, hdata⟩ := h
  unfold State.takeTrap
  rw [if_neg]
  exact fun hall => Bool.false_ne_true (hdata.symm.trans (List.all_eq_true.mp hall l hl))

theorem takeTrap_handled (h : Handled (s.core k)) (t : Trap) (tpc : BitVec 64) :
    s.takeTrap k t tpc = s.setCore k ((drained (s.core k)).enterHandler t tpc) := by
  rw [takeTrap_arrived fun l hl => (h.arrived l hl).1]
  unfold State.finishTrap
  dsimp only
  rw [landingPoison_none fun l hl => (h.arrived l hl).2, settle_eq_drained, handles_of_handled h]
  rfl

/-- The core as a trap that kills is reported. -/
def reported (c : Core) (t : Trap) (tpc : BitVec 64) : Core := { c with ctx := c.ctx.recordTrap t tpc, trap := none, iss := Init.issue }

theorem reportTrap_bound {b : Binding} (htask : (s.core k).task = some b) (t : Trap) (tpc : BitVec 64) :
    let x := reported (s.core k) t tpc
    s.reportTrap k t tpc = (s.setCore k x).corePut k (saveArea b.savebase b.save x.ctx.id.tidx x.ctx.id.tgran b.memb + 0x620) 72 x.ctx.csrBlock := by
  intro x
  unfold State.reportTrap
  dsimp only
  split
  · next hnone => rw [htask] at hnone; cases hnone
  · next b' hsome =>
    rw [htask] at hsome
    cases hsome
    rw [core_setCore_same]
    rfl

theorem takeTrap_kills (harrived : ∀ l ∈ (s.core k).land, l.data.isSome = true ∧ l.psn = false) {b : Binding} (htask : (s.core k).task = some b)
    (hkills : (drained (s.core k)).ctx.handles = false) (t : Trap) (tpc : BitVec 64) :
    let d := drained (s.core k)
    let x := reported d (d.ctx.delivered t) tpc
    s.takeTrap k t tpc =
      ((s.setCore k x).corePut k (saveArea b.savebase b.save x.ctx.id.tidx x.ctx.id.tgran b.memb + 0x620) 72 x.ctx.csrBlock).killTask b
        (d.ctx.delivered t).code := by
  intro d x
  have hcore : (s.setCore k d).core k = d := core_setCore_same _ _ _
  have hbound : d.task = some b := htask
  rw [takeTrap_arrived fun l hl => (harrived l hl).1]
  unfold State.finishTrap
  dsimp only
  rw [landingPoison_none fun l hl => (harrived l hl).2, settle_eq_drained, hkills]
  simp only [Bool.false_eq_true, if_false]
  have hreport := reportTrap_bound (s := s.setCore k d) (by rw [hcore]; exact hbound) (d.ctx.delivered t) tpc
  rw [hcore] at hreport
  dsimp only at hreport
  rw [setCore_setCore] at hreport
  unfold State.trapKill
  split
  · next hnone => rw [hcore, hbound] at hnone; cases hnone
  · next b' hsome =>
    rw [hcore, hbound] at hsome
    cases hsome
    exact congrArg (fun u : State => u.killTask b _) hreport

end

theorem delivered_eq (x : Ctx) (t : Trap) : x.delivered t =
    if x.tcause.truncate 16 ≠ (0 : BitVec 16) then { t with code := 0x1502, tval := t.code.zeroExtend 64 } else t := by
  unfold Ctx.delivered Ctx.inTrap
  simp only [decide_eq_true_eq]

/-- Settles O46: a trap is delivered to its handler, waits for landings, or is reported and kills. -/
theorem trapDelivery : Obligations.TrapDelivery := by
  unfold Obligations.TrapDelivery
  intro s tr tpc
  refine ⟨fun h => ?_, fun h => takeTrap_waits h tr tpc, ?_⟩
  · rw [takeTrap_handled h]
    refine ⟨?_, ?_⟩ <;> rw [core_setCore_same]
    exact handles_enterHandler _ tr tpc
  · intro b d nested harrived htask hkills
    have hhandles : d.ctx.handles = false := by
      unfold Ctx.handles Ctx.inTrap
      rcases hkills with h | h
      · simp [h]
      · rw [decide_eq_true (show d.ctx.tcause.truncate 16 ≠ (0 : BitVec 16) from h)]
        exact Bool.and_false _
    refine ⟨reported d (d.ctx.delivered tr) tpc, ?_, ?_⟩
    · rw [delivered_eq]
      by_cases hn : nested
      · simp only [hn, if_true]
        rw [if_pos (show d.ctx.tcause.truncate 16 ≠ (0 : BitVec 16) from hn)]
        rfl
      · simp only [hn, if_false]
        rw [if_neg (show ¬ d.ctx.tcause.truncate 16 ≠ (0 : BitVec 16) from hn)]
        rfl
    · have hcode : (d.ctx.delivered tr).code = if nested then 0x1502 else tr.code := by
        rw [delivered_eq]
        exact apply_ite Trap.code _ _ _
      rw [← hcode]
      exact takeTrap_kills harrived htask hhandles tr tpc

end Sys2Proof.Proofs

/-! SUPPORT. TRAP and ERET: what the end of a bundle that traps after it has taken effect comes to, and the return (07 R152, 18 R343). -/

namespace Sys2Proof.Proofs

open Sys2Proof Sys2Proof.Machine Sys2Proof.Laws Sys2Proof.Claims

/-! ## A ready slot ends its bundle -/

section
variable {s : State} {i : Instr} {es : List Effect} {bnd : Bool} {more : List Use} {bk so : List Nat} {q e : Bool}

/-- A ready slot completes its bundle's record, of which nothing faults or freezes. -/
theorem issueSlot_finish {body : State → Core → SlotOut} (h : s.Ready i bnd more es)
    (hbody : body s (here s) = { effects := es, banks := bk, sbOps := so, reads := more, qualifies := q, ends := e, boundary := bnd })
    (hbanks : ∀ b ∈ bk, b ∉ (here s).iss.banks) : ∃ x : Issue,
    issueSlot i body s = .next (finishIssue (s.setCore s.cur (withIss x (here s)))) ∧ x.effects = (here s).iss.effects ++ es ∧ x.fault = none
    ∧ x.freezes ++ (s.setCore s.cur (withIss x (here s))).bundleFreezes (withIss x (here s)) = []
    ∧ (withIss x (here s)).commit = (here s).issued i es := by
  have hcontribute := contribute_ready (r := false) h hbody hbanks
  generalize hx : ({ (here s).iss with
        effects := (here s).iss.effects ++ es, fault := none, banks := (here s).iss.banks ++ bk, freezes := []
        sbOps := (here s).iss.sbOps ++ so, guards := (here s).iss.guards ++ [(here s).ctx.getP (here s).iss.guard.toNat]
        predS := (here s).iss.predS ||| predDests (here s).ctx i
        predD := (here s).iss.predD ||| predDests (here s).ctx i, boundary := (here s).iss.boundary || bnd, rdv := false } : Issue) = x at hcontribute
  have hlast : x.rest = 0 := hx ▸ h.quiet.last
  have heffects : x.effects = (here s).iss.effects ++ es := hx ▸ rfl
  have hcommit : (withIss x (here s)).commit = (here s).issued i es := commit_withIss (y := { (here s).iss with
      effects := (here s).iss.effects ++ es, guards := (here s).iss.guards ++ [(here s).ctx.getP (here s).iss.guard.toNat]
      predS := (here s).iss.predS ||| predDests (here s).ctx i
      predD := (here s).iss.predD ||| predDests (here s).ctx i, rdv := false }) _ heffects (hx ▸ rfl) (hx ▸ rfl) (hx ▸ rfl) (hx ▸ rfl) (hx ▸ rfl)
  have hcore : here (s.setCore s.cur (withIss x (here s))) = withIss x (here s) := core_setCore_same _ _ _
  refine ⟨x, ?_, heffects, hx ▸ rfl, ?_, hcommit⟩
  · unfold issueSlot
    rw [hcontribute]
    simp only [hcore]
    exact if_pos hlast
  · have hfind : ((withIss x (here s)).land.find? fun l => l.due) = none :=
      List.find?_eq_none.mpr fun l hl => by simp [(h.quiet.landings l hl).1]
    have hfreezes : x.freezes = [] := hx ▸ rfl
    have hrdv : (withIss x (here s)).iss.rdv = false := hx ▸ rfl
    have hduty : (withIss x (here s)).iss.duty = false := hx ▸ h.quiet.working
    unfold State.bundleFreezes
    rw [hfreezes, hfind, hduty, hrdv, segmentEnds_goesOn h.segment (hx ▸ rfl) hcommit]
    cases (withIss x (here s)).task <;> simp

end

/-! ## TRAP -/

/-- The state once the bundles that the nullifier removes after the bundle at hand have been passed. -/
def passed (v : State) (k : BitVec 8) : State := v.setCore k ((({ v with peek := true } : State).skipRemoved k 2).core k)

theorem passed_none {v : State} {k : BitVec 8} (h : ({ v with peek := true } : State).removedNext k = none) : (passed v k).core k = v.core k := by
  have hskip : ({ v with peek := true } : State).skipRemoved k 2 = { v with peek := true } := by
    unfold State.skipRemoved
    rw [h]
  unfold passed
  rw [core_setCore_same, hskip]
  rfl

/-- TRAP's trap. -/
def trapOfImm (imm : BitVec 12) : Trap := { code := 0x1501, port := 0, tval := imm.zeroExtend 64 }

/-- A bundle with a TRAP that nothing else keeps back takes effect, and traps. -/
theorem finishIssue_trap {s : State} {imm : BitVec 12} (hfault : (here s).iss.fault = none)
    (hunfrozen : (here s).iss.freezes ++ s.bundleFreezes (here s) = []) (hwalk : walkPoisonOf (here s).iss.effects = none)
    (hpoison : poisonOf (here s).iss.effects = none) (htrap : trapOf (here s).iss.effects = some imm) (hgate : gateStopsOf (here s).iss.effects = [])
    (hhealthy : (here s).ctx.nestBad = false) (hlandings : ((here s).tickLand.landingPoison fun l => l.due) = false) :
    let u := passed (s.setCore s.cur (here s).commit) s.cur
    finishIssue s = if (here u).run = .running then u.raiseAfter s.cur (trapOfImm imm) else u := by
  unfold finishIssue
  simp only [hfault, hunfrozen, hhealthy, hlandings, hwalk, hpoison, htrap, hgate, ne_eq, not_true_eq_false, if_false, Bool.false_eq_true,
    List.append_nil, List.foldl_nil]
  rfl

theorem exec_trap {s : State} {imm : BitVec 12} (h : s.Ready (.trap imm) true [] [.trap imm]) :
    let u := passed (s.issued (.trap imm) [.trap imm]) s.cur
    exec (.trap imm) s = .next (if (here u).run = .running then u.raiseAfter s.cur (trapOfImm imm) else u) := by
  obtain ⟨x, hissue, heffects, hfault, hunfrozen, hcommit⟩ := issueSlot_finish (body := fun _ _ => { effects := [.trap imm], boundary := true })
    (bk := []) (so := []) (q := false) (e := false) h rfl fun _ h => nomatch h
  have hcore : here (s.setCore s.cur (withIss x (here s))) = withIss x (here s) := core_setCore_same _ _ _
  obtain ⟨hwalk, hpoison, htrap⟩ := h.quiet.sound
  refine (show exec (.trap imm) s = _ from hissue).trans (congrArg Host.Outcome.next ?_)
  have hfinish := finishIssue_trap (s := s.setCore s.cur (withIss x (here s))) (imm := imm)
  rw [hcore, show (withIss x (here s)).iss.effects = _ from heffects, hcommit] at hfinish
  refine (hfinish hfault hunfrozen (findSome_append_none hwalk rfl) (findSome_append_none hpoison rfl) ?_ ?_ (nestBad_healthy h.quiet.healthy)
    (landingPoison_sound fun l hl => (h.quiet.landings l hl).2)).trans ?_
  · rw [trapOf, List.findSome?_append, show List.findSome? _ (here s).iss.effects = none from htrap]
    rfl
  · rw [gateStopsOf, List.filterMap_append, show List.filterMap _ (here s).iss.effects = [] from h.quiet.passed]
    rfl
  · rw [setCore_cur, setCore_setCore]
    rfl

/-- The delivery of a trap that a handler takes is that of the trap alone. -/
theorem withPeers_handled {u : State} {k : BitVec 8} {t : Trap} {tpc : BitVec 64} (h : Handled (u.core k)) (hrun : (u.core k).run = .running) :
    u.withPeers k (fun x => x.takeTrap k t tpc) = u.setCore k ((drained (u.core k)).enterHandler t tpc) := by
  have halive : ((drained (u.core k)).enterHandler t tpc).killed = false := by
    unfold Core.killed
    rw [show ((drained (u.core k)).enterHandler t tpc).run = .running from hrun]
  unfold State.withPeers
  simp only [takeTrap_handled h, core_setCore_same, halive, Bool.false_and, Bool.false_eq_true, if_false]

theorem trapsTo_handled {u : State} {t : Trap} {tpc : BitVec 64} (h : Handled (here u)) (hrun : (here u).run = .running) :
    TrapsTo u (u.withPeers u.cur fun x => x.takeTrap u.cur t tpc) t.code t.port t.tval tpc := by
  rw [withPeers_handled h hrun]
  refine ⟨?_, ?_⟩ <;> rw [core_setCore_same]
  exact handles_enterHandler _ t tpc

theorem raiseAfter_free {u : State} {k : BitVec 8} {t : Trap} (h : (u.core k).prot = false ∨ (u.core k).seg.openSeg = false) :
    u.raiseAfter k t = u.withPeers k fun x => x.takeTrap k t (u.core k).ctx.pc := if_neg (by rcases h with h | h <;> simp [h])

theorem raiseAfter_held {u : State} {k : BitVec 8} {t : Trap} (hprot : (u.core k).prot = true) (hopen : (u.core k).seg.openSeg = true) :
    u.raiseAfter k t = u.setCore k { u.core k with trap := some (t, (u.core k).ctx.pc), seg := { (u.core k).seg with ending := true } } :=
  if_pos (by simp [hprot, hopen])

/-- What a bundle with a TRAP leaves, where `u` is the state in which the bundles after it have been passed. -/
theorem trap_delivered {s u : State} {imm : BitVec 12} (hcur : u.cur = s.cur)
    (hexec : exec (.trap imm) s = .next (if (here u).run = .running then u.raiseAfter s.cur (trapOfImm imm) else u)) (hrun : (here u).run = .running) :
    (((here u).prot = false ∨ (here u).seg.openSeg = false) →
      exec (.trap imm) s = .next (u.withPeers s.cur fun x => x.takeTrap s.cur (trapOfImm imm) (here u).ctx.pc)
      ∧ (Handled (here u) → ∃ t, exec (.trap imm) s = .next t ∧ TrapsTo u t 0x1501 0 (imm.zeroExtend 64) (here u).ctx.pc))
    ∧ ((here u).prot = true → (here u).seg.openSeg = true → ∃ t, exec (.trap imm) s = .next t ∧ here t =
        { here u with trap := some (trapOfImm imm, (here u).ctx.pc), seg := { (here u).seg with ending := true } }) := by
  rw [if_pos hrun, ← hcur] at hexec
  rw [← hcur]
  refine ⟨fun hfree => ?_, fun hprot hopen => ?_⟩
  · rw [raiseAfter_free hfree] at hexec
    exact ⟨hexec, fun hhandled => ⟨_, hexec, trapsTo_handled hhandled hrun⟩⟩
  · rw [raiseAfter_held hprot hopen] at hexec
    exact ⟨_, hexec, core_setCore_same _ _ _⟩

/-! ## ERET -/

/-- ERET's bundle ends with the pc at TPC and TCAUSE 0. -/
theorem after_eret {s : State} (hempty : (here s).iss.effects = []) (hpipe : (here s).pipe = []) (hland : (here s).land = [])
    (hprot : (here s).prot = false) : (after s .eret [.eret]).ctx =
      { (here s).ctx with pc := (here s).ctx.tpc, tcause := 0, cycle := (here s).ctx.cycle + 1, waitOk := false }
    ∧ (after s .eret [.eret]).pool = (here s).pool := by
  let d : Core := { here s with ctx := { (here s).ctx with tcause := 0 } }
  have hstaged : (staged d (lastIssue s .eret [.eret])).ctx = d.ctx := by rw [staged_ctx_quiet (d := d) hpipe hland]; rfl
  rw [after_eq hempty hprot, show (inOrder [Effect.eret]).foldl Core.apply (here s) = d from rfl]
  refine ⟨?_, rfl⟩
  rw [endBundle_ctx, show d.prot = false from hprot]
  unfold wentOn
  rw [hstaged]
  rfl

/-- Settles O47: TRAP's bundle takes effect and traps once its segment lets it, and ERET's end goes on at TPC. -/
theorem trapAndReturn : Obligations.TrapAndReturn := by
  unfold Obligations.TrapAndReturn
  intro s
  refine ⟨?trap, does_of_effects rfl rfl ⟨rfl, rfl, rfl, rfl⟩, ?eret⟩
  case trap =>
    intro imm hready v u tr
    have hexec : exec (.trap imm) s = .next (if (here u).run = .running then u.raiseAfter s.cur (trapOfImm imm) else u) := exec_trap hready
    have hvcur : v.cur = s.cur := rfl
    have hu : u = passed v s.cur := rfl
    clear_value u v
    subst hu
    have hcur : (passed v s.cur).cur = s.cur := hvcur
    refine ⟨fun hnone => ?_, trap_delivered hcur hexec⟩
    rw [here, hcur, passed_none hnone, ← hvcur]
  case eret =>
    intro hready hempty hpipe hland hprot
    have hdoes : Does s .eret [.eret] := does_of_effects rfl rfl ⟨rfl, rfl, rfl, rfl⟩
    refine ⟨_, hdoes { hready with segment := ?_ }, ?_, after_eret hempty hpipe hland hprot⟩
    · intro hprot'
      rw [show (here s).prot = true from hprot'] at hprot
      cases hprot
    · rw [State.issued, core_setCore_same]

end Sys2Proof.Proofs

/-! SUPPORT. A bundle whose guard is pending, and whose earlier slot met a gate that stopped poison: the trap is delivered, and the poison recorded
as well (17 R333, 18 R348). -/

namespace Sys2Proof.Proofs

open Sys2Proof Sys2Proof.Machine Sys2Proof.Laws Sys2Proof.Claims

/-- The last slot of a bundle whose guard p2 is pending and reads false; a gate has stopped a poisoned table entry on a walk of an earlier slot. -/
def stoppedBundle : State :=
  State.reset.setCore 0 { Init.core with
    ctx := { Init.ctx with tvec := 0x1000 }, pipe := [{ left := 3, write := .p 2 true, flags := 0 }]
    iss := { Init.issue with guard := 2, effects := [.gateStop 0] } }

theorem stoppedBundle_last : LastSlot (here stoppedBundle) :=
  ⟨rfl, rfl, rfl, fun _ h => (nomatch h), rfl, rfl, rfl, rfl⟩

theorem stoppedBundle_handled : Handled (here stoppedBundle) := ⟨by decide, by decide, fun _ h => (nomatch h)⟩

/-- Events numbered once an instruction has acted. -/
def seqAfter (s : State) (i : Instr) : Nat := match exec i s with
  | .next t => t.seq
  | _ => 0

/-- The record of the stopped poison is an event. -/
theorem stoppedBundle_records : seqAfter stoppedBundle .nop = 1 := by decide +kernel

/-- Refutes O48: the trap of a pending guard is said to change nothing outside the core, but the poison that a gate has stopped on a walk of an earlier
slot of the bundle is recorded all the same. -/
theorem not_slotFaults : ¬ Obligations.SlotFaults := by
  unfold Obligations.SlotFaults
  intro hfaults
  obtain ⟨-, hguard, -⟩ := hfaults stoppedBundle .nop rfl stoppedBundle_last stoppedBundle_handled
  obtain ⟨t, hexec, hhome, -⟩ := hguard rfl rfl (by decide) (by decide) (.inl (by decide))
  have hseq : t.seq = 1 := by
    have h := stoppedBundle_records
    rwa [seqAfter, hexec] at h
  rw [hhome] at hseq
  exact absurd (show stoppedBundle.seq = 1 from hseq) (by decide)

end Sys2Proof.Proofs

/-! SUPPORT. What becomes of a bundle once its last slot has acted: it does not take effect, or all that it does is its effects and its end
(03 R60, R73, 18 R346). -/

namespace Sys2Proof.Proofs

open Sys2Proof Sys2Proof.Machine Sys2Proof.Laws Sys2Proof.Claims

/-! ## A slot's contribution -/

/-- A slot adds to the record of the bundle in issue, and changes nothing else. -/
theorem contribute_adds (i : Instr) (body : State → Core → SlotOut) (s : State) : ∃ x : Issue,
    contribute i body s = s.setCore s.cur (withIss x (here s)) ∧ (∃ es, x.effects = (here s).iss.effects ++ es) ∧ x.rest = (here s).iss.rest := by
  unfold contribute
  dsimp only
  split
  · exact ⟨_, rfl, ⟨_, rfl⟩, rfl⟩
  · exact ⟨_, rfl, ⟨_, by simp only [List.append_assoc]; rfl⟩, rfl⟩

/-! ## The end of an issue cycle -/

section
variable {s : State} {x : Issue}

/-- A trap of the bundle at hand, with poison that gates have stopped recorded and a pending fault delivered. -/
theorem stopped_of_trap (d : List Deferred) (tr : Trap) (pas : List Nat) :
    Stopped s (((pas.foldl State.gateStops (s.setCore s.cur (withIss x (here s)))).setCore s.cur
      { here s with iss := x, ctx := { (here s).ctx with deferred := d } }).raiseTrap s.cur tr) := .inl ⟨x, d, tr, pas, rfl⟩

theorem stopped_of_raiseTrap (tr : Trap) : Stopped s ((s.setCore s.cur (withIss x (here s))).raiseTrap s.cur tr) := by
  have h := stopped_of_trap (s := s) (x := x) (here s).ctx.deferred tr []
  rwa [List.foldl_nil, setCore_setCore] at h

theorem stopped_of_raise (pas : List Nat) (tr : Trap) :
    Stopped s (((pas.foldl State.gateStops (s.setCore s.cur (withIss x (here s)))).setCore s.cur (withIss x (here s))).raiseTrap s.cur tr) :=
  stopped_of_trap (x := x) (here s).ctx.deferred tr pas

theorem stopped_of_freeze {fz : List (Freeze × BitVec 64)} (h : fz ≠ []) :
    Stopped s ((s.setCore s.cur (withIss x (here s))).setCore s.cur ((withIss x (here s)).freezeCycle fz)) := by
  rw [setCore_setCore]
  exact .inr (.inl ⟨x, fz, h, rfl⟩)

theorem stopped_of_park : Stopped s ((s.setCore s.cur (withIss x (here s))).setCore s.cur
    { withIss x (here s) with run := .parked none, iss := Init.issue }) := by
  rw [setCore_setCore]
  exact .inr (.inr (.inl rfl))

/-- A bundle with a freeze does not take effect. -/
theorem finishIssue_frozen (hrank : ∀ t, x.fault ≠ some (2, t))
    (hfrozen : x.freezes ++ (s.setCore s.cur (withIss x (here s))).bundleFreezes (withIss x (here s)) ≠ []) :
    Stopped s (finishIssue (s.setCore s.cur (withIss x (here s)))) := by
  have hcore : (s.setCore s.cur (withIss x (here s))).core (s.setCore s.cur (withIss x (here s))).cur = withIss x (here s) := core_setCore_same _ _ _
  have hfz : (withIss x (here s)).iss.freezes ++ (s.setCore s.cur (withIss x (here s))).bundleFreezes (withIss x (here s)) ≠ [] := hfrozen
  unfold finishIssue
  simp only [hcore]
  split
  · next t h => exact absurd h (hrank t)
  · rw [if_pos hfz, if_pos hfz]
    split
    · split
      · exact stopped_of_freeze (by simp)
      · exact stopped_of_park
    · split
      · exact stopped_of_raiseTrap _
      · exact stopped_of_freeze hfrozen

/-- A bundle at fault does not take effect. -/
theorem finishIssue_fault {r : Nat} {t : Trap} (hfault : x.fault = some (r, t)) : Stopped s (finishIssue (s.setCore s.cur (withIss x (here s)))) := by
  have hcore : (s.setCore s.cur (withIss x (here s))).core (s.setCore s.cur (withIss x (here s))).cur = withIss x (here s) := core_setCore_same _ _ _
  have hfault' : (withIss x (here s)).iss.fault = some (r, t) := hfault
  by_cases hrank : r = 2
  · subst hrank
    unfold finishIssue
    simp only [hcore, hfault']
    exact stopped_of_raiseTrap t
  · by_cases hfrozen : (withIss x (here s)).iss.freezes ++ (s.setCore s.cur (withIss x (here s))).bundleFreezes (withIss x (here s)) = []
    · unfold finishIssue
      simp only [hcore]
      split
      · next u h => rw [hfault'] at h; cases h; exact absurd rfl hrank
      · rw [if_neg (not_not.mpr hfrozen), if_neg (not_not.mpr hfrozen), hfault']
        dsimp only
        rw [(sameCores_gateStops _ _).cur, setCore_cur]
        split
        · split
          · exact stopped_of_trap (x := x) _ t _
          · exact stopped_of_raise _ t
        · exact stopped_of_raise _ t
    · refine finishIssue_frozen (fun u h => hrank ?_) hfrozen
      rw [hfault] at h
      cases h
      rfl

/-- A bundle of which nothing faults or freezes takes effect, but for a poisoned table entry or poison that it consumes. -/
theorem finishIssue_cases : Stopped s (finishIssue (s.setCore s.cur (withIss x (here s)))) ∨
    (x.fault = none ∧ x.freezes ++ (s.setCore s.cur (withIss x (here s))).bundleFreezes (withIss x (here s)) = [] ∧ walkPoisonOf x.effects = none
      ∧ (Clean x.effects → (here s).ctx.nestBad = false → ((withIss x (here s)).tickLand.landingPoison fun l => l.due) = false →
          finishIssue (s.setCore s.cur (withIss x (here s))) = s.setCore s.cur (withIss x (here s)).commit)) := by
  have hcore : here (s.setCore s.cur (withIss x (here s))) = withIss x (here s) := core_setCore_same _ _ _
  cases hfault : x.fault with
  | some f => exact .inl (finishIssue_fault hfault)
  | none =>
    by_cases hfrozen : (withIss x (here s)).iss.freezes ++ (s.setCore s.cur (withIss x (here s))).bundleFreezes (withIss x (here s)) = []
    · cases hwalk : walkPoisonOf x.effects with
      | some pa =>
        refine .inl (.inr (.inr (.inr ⟨x, pa, gateStopsOf x.effects, ?_⟩)))
        have hfault' : (withIss x (here s)).iss.fault = none := hfault
        have hwalk' : walkPoisonOf (withIss x (here s)).iss.effects = some pa := hwalk
        unfold finishIssue
        simp only [hcore, hfault', hwalk']
        rw [if_neg (not_not.mpr hfrozen), if_neg (not_not.mpr hfrozen), (sameCores_gateStops _ _).cur]
        rfl
      | none =>
        refine .inr ⟨rfl, hfrozen, rfl, fun hclean hnest hlandings => ?_⟩
        have hgoes : Goes (s.setCore s.cur (withIss x (here s))) := by
          refine ⟨?_, ?_, ?_, ?_, ?_⟩ <;> rw [hcore]
          · exact hfault
          · exact hfrozen
          · exact hclean
          · exact hnest
          · exact hlandings
        rw [finishIssue_goes hgoes, hcore]
        exact setCore_setCore _ _ _ _
    · exact .inl (finishIssue_frozen (fun t h => by rw [hfault] at h; cases h) hfrozen)

end

/-- What an instruction of a slot does, whatever its body: it adds to the bundle's record, and its bundle's last one ends the bundle. -/
theorem slot_acts (i : Instr) (body : State → Core → SlotOut) (hexec : ∀ s, exec i s = issueSlot i body s) (s t : State) (ht : exec i s = .next t) :
    let x := ((contribute i body s).core s.cur).iss
    contribute i body s = s.setCore s.cur { here s with iss := x } ∧ (∃ es, x.effects = (here s).iss.effects ++ es)
      ∧ ((here s).iss.rest ≠ 0 → t = s.setCore s.cur { here s with iss := { x with rest := (here s).iss.rest - 1 } })
      ∧ ((here s).iss.rest = 0 → Stopped s t ∨
          (walkPoisonOf x.effects = none
            ∧ (poisonOf x.effects = none → trapOf x.effects = none → gateStopsOf x.effects = [] → (here s).ctx.bad = [] →
                (∀ l ∈ (here s).land, l.psn = false) → t = s.setCore s.cur (Core.commit { here s with iss := x }) ∧ t.mem = s.mem))) := by
  obtain ⟨y, hcontribute, heffects, hrest⟩ := contribute_adds i body s
  intro x
  have hx : x = y := by
    show ((contribute i body s).core s.cur).iss = y
    rw [hcontribute, core_setCore_same]
    rfl
  have hissue : issueSlot i body s = .next t := (hexec s).symm.trans ht
  have hcore : (s.setCore s.cur (withIss y (here s))).core (s.setCore s.cur (withIss y (here s))).cur = withIss y (here s) := core_setCore_same _ _ _
  unfold issueSlot at hissue
  simp only [hcontribute, hcore] at hissue
  rw [hx]
  refine ⟨hcontribute, heffects, fun hmore => ?_, fun hlast => ?_⟩
  · rw [if_neg (show ¬(withIss y (here s)).iss.rest = 0 from hrest ▸ hmore)] at hissue
    cases hissue
    refine (setCore_setCore _ _ _ _).trans ?_
    rw [← hrest]
    rfl
  · rw [if_pos (show (withIss y (here s)).iss.rest = 0 from hrest.trans hlast)] at hissue
    cases hissue
    rcases finishIssue_cases (s := s) (x := y) with hstopped | ⟨-, -, hwalk, hgoes⟩
    · exact .inl hstopped
    · refine .inr ⟨hwalk, fun hpoison htrap hgate hbad hland => ?_⟩
      have hend := hgoes ⟨hwalk, hpoison, htrap, hgate⟩ (nestBad_healthy hbad) (landingPoison_sound hland)
      exact ⟨hend, by rw [hend, setCore_mem]⟩

end Sys2Proof.Proofs

/-! SUPPORT. The bundle of one slot alone: either it does not take effect, or its slot's effects, where the guard reads true, and the end of the bundle
are all that happens; what the end of a bundle leaves of a core, in protected mode too (03 R69, R73, 19 R366). -/

namespace Sys2Proof.Proofs

open Sys2Proof Sys2Proof.Machine Sys2Proof.Laws Sys2Proof.Claims

/-! ## What a slot alone contributes -/

theorem firstFault_none {a b : Option (Nat × Trap)} (h : firstFault a b = none) : a = none ∧ b = none := by
  unfold firstFault at h
  split at h
  · exact ⟨rfl, h⟩
  · exact ⟨h, rfl⟩
  · split at h <;> cases h

theorem lowestFault_none {l : List (BitVec 16 × BitVec 64)} (h : lowestFault l = none) : l = [] := by
  have hsome (l : List (BitVec 16 × BitVec 64)) (f : BitVec 16 × BitVec 64) : l.foldl (fun b f => match b with
      | none => some f
      | some g => if f.1.toNat < g.1.toNat then some f else some g) (some f) ≠ none := by
    induction l generalizing f with
    | nil => exact Option.some_ne_none f
    | cons g l ih =>
      rw [List.foldl_cons]
      dsimp only
      split
      · exact ih g
      · exact ih f
  cases l with
  | nil => rfl
  | cons f l => exact absurd h (hsome l f)

/-- What a slot that is its bundle's alone adds to its record: nothing where its guard reads false; else its body's effects, whose faults and freezes
would keep the bundle from taking effect. -/
structure Adds (s : State) (out : SlotOut) (x : Issue) : Prop where
  effects : x.effects = [] ∨ x.effects = out.effects ∧ (x.fault = none → out.faults = []) ∧ (x.freezes = [] → out.freezes = [])
  size : x.size = (here s).iss.size

theorem contribute_alone {s : State} (i : Instr) (body : State → Core → SlotOut) (h : Alone s) : ∃ x : Issue,
    contribute i body s = s.setCore s.cur (withIss x (here s)) ∧ Adds s (body s (here s)) x ∧ x.rest = 0 := by
  have hbad (us : List Use) : (us.any fun u => !u.write && (here s).ctx.isBad ((here s).ctx.physUse u).1 ((here s).ctx.physUse u).2) = false := by
    unfold Ctx.isBad
    rw [h.healthy]
    simp
  unfold contribute
  simp only [hbad, Bool.false_eq_true, if_false, ite_self, List.append_nil, h.empty, List.nil_append]
  split
  · exact ⟨_, rfl, ⟨.inl rfl, rfl⟩, h.last⟩
  · refine ⟨_, rfl, ⟨.inr ⟨rfl, fun hfault => ?_, fun hfreezes => ?_⟩, rfl⟩, h.last⟩
    · have hlow := (firstFault_none (firstFault_none (firstFault_none hfault).2).2).2
      exact lowestFault_none (Option.map_eq_none_iff.mp hlow)
    · exact (List.append_eq_nil_iff.mp (List.append_eq_nil_iff.mp (List.append_eq_nil_iff.mp hfreezes).1).1).2

/-- A bundle of one slot alone: it does not take effect, or its effects and its end are all that happens. -/
theorem alone_cases {s t : State} {i : Instr} {body : State → Core → SlotOut} (h : Alone s) (hexec : exec i s = issueSlot i body s)
    (ht : exec i s = .next t) : Stopped s t ∨ ∃ x : Issue,
      (x.effects = [] ∨ x.effects = (body s (here s)).effects ∧ (body s (here s)).faults = [] ∧ (body s (here s)).freezes = [])
      ∧ walkPoisonOf x.effects = none ∧ (Clean x.effects → t = s.setCore s.cur (withIss x (here s)).commit) := by
  obtain ⟨x, hcontribute, ⟨heffects, -⟩, hlast⟩ := contribute_alone i body h
  have hissue : issueSlot i body s = .next t := hexec.symm.trans ht
  have hcore : (s.setCore s.cur (withIss x (here s))).core (s.setCore s.cur (withIss x (here s))).cur = withIss x (here s) := core_setCore_same _ _ _
  unfold issueSlot at hissue
  simp only [hcontribute, hcore] at hissue
  rw [if_pos (show (withIss x (here s)).iss.rest = 0 from hlast)] at hissue
  cases hissue
  rcases finishIssue_cases (s := s) (x := x) with hstopped | ⟨hfault, hfreezes, hwalk, hgoes⟩
  · exact .inl hstopped
  · refine .inr ⟨x, ?_, hwalk, fun hclean => hgoes hclean (nestBad_healthy h.healthy) (landingPoison_sound fun l hl => ?_)⟩
    · rcases heffects with hnone | ⟨heffects, hfaults, hfz⟩
      · exact .inl hnone
      · exact .inr ⟨heffects, hfaults hfault, hfz (List.append_eq_nil_iff.mp hfreezes).1⟩
    · rw [show (withIss x (here s)).land = [] from h.land] at hl
      cases hl

/-! ## The end of a bundle -/

/-- What falls due leaves the nest, the pc and the count of cycles. -/
theorem fall_nest (c : Core) : (c.tickPipe.tickLand.writeLandings fun l => l.due).ctx.lc = c.ctx.lc
    ∧ (c.tickPipe.tickLand.writeLandings fun l => l.due).ctx.pc = c.ctx.pc := by
  have hland (x : Ctx) (l : Landing) : (x.landWrite l (l.data.getD 0)).lc = x.lc ∧ (x.landWrite l (l.data.getD 0)).pc = x.pc := by
    unfold Ctx.landWrite
    dsimp only
    split
    · exact ⟨(write_nest x _).1, (write_nest x _).2.1⟩
    · exact ⟨rfl, rfl⟩
  obtain ⟨hlc, hpc, -⟩ := results_nest (c.pipe.filter fun r : Pending => decide (r.left ≤ 1)) Pending.write Pending.flags c.ctx
  unfold Core.writeLandings Core.tickLand Core.tickPipe
  dsimp only
  exact ⟨by rw [foldl_keeps (f := Ctx.lc) fun x l => (hland x l).1, hlc], by rw [foldl_keeps (f := Ctx.pc) fun x l => (hland x l).2, hpc]⟩

/-- Of a context, nothing has changed but what every bundle's end changes. -/
def Ended (x y : Ctx) : Prop := y = { x with pc := y.pc, cycle := y.cycle, segLeft := y.segLeft, waitOk := y.waitOk }

/-- The end of a bundle of effects that go straight on, where no body ends. -/
structure Ends (e d : Core) : Prop where
  ctx : Ended (d.tickPipe.tickLand.writeLandings fun l => l.due).ctx e.ctx
  pipe : e.pipe = d.tickPipe.pipe
  land : e.land = (d.tickPipe.tickLand.writeLandings fun l => l.due).land
  pool : e.pool = d.pool
  sb : e.sb = d.sb
  ops : e.ops = d.ops
  mq : e.mq = d.mq
  launches : e.launches = d.launches
  run : e.run = d.run
  task : e.task = d.task

theorem endBundle_ends {d : Core} {x : Issue} (h : Straight x.effects)
    (hinside : ∀ j < 6, (d.ctx.getLevel j).active = true → (d.ctx.getLevel j).last ≠ d.ctx.pc) : Ends (d.endBundle x) d := by
  obtain ⟨hstaged, heret, hjump, hskip⟩ := h
  obtain ⟨hlc, hpc⟩ := fall_nest d
  have hs : staged d x = d.tickPipe.tickLand.writeLandings fun l => l.due := by rw [staged, hstaged]; rfl
  have hin : ∀ j < 6, ((staged d x).ctx.getLevel j).active = true → ((staged d x).ctx.getLevel j).last ≠ (staged d x).ctx.pc := by
    intro j hj
    rw [hs, Ctx.getLevel, hlc, hpc]
    exact hinside j hj
  refine ⟨?_, ?_, ?_, ?_, ?_, ?_, ?_, ?_, ?_, ?_⟩
  · rw [endBundle_ctx]
    unfold wentOn
    rw [advance_next _ _ heret hjump hskip hin, hs]
    split <;> exact rfl
  all_goals
    unfold Core.endBundle
    simp only [hstaged, Bool.false_eq_true, if_false]
    rfl

/-- A bundle's own record apart, a segment that opens at it changes the segment and the count that is left of it alone. -/
theorem openSegment_keeps (c : Core) : c.openSegment = { c with ctx := { c.ctx with segLeft := c.openSegment.ctx.segLeft }, seg := c.openSegment.seg } := by
  unfold Core.openSegment
  split <;> rfl

/-- The core in which a bundle's effects act: its own record, and a segment that has opened at it, apart, as it was. -/
def Opened (c o : Core) : Prop := ∃ (x : Issue) (l : BitVec 13) (g : Segment), o = { c with iss := x, ctx := { c.ctx with segLeft := l }, seg := g }

theorem opened_withIss (c : Core) (x : Issue) : Opened c (withIss x c).openSegment := ⟨x, _, _, openSegment_keeps (withIss x c)⟩

/-- Effects that go straight on, keep their order, and neither trap nor consume poison but by a walk. -/
structure Calm (es : List Effect) : Prop where
  straight : Straight es
  poison : poisonOf es = none
  trap : trapOf es = none
  order : ∀ e ∈ es, effectOrder e = 2

theorem Calm.nil : Calm [] := ⟨⟨rfl, rfl, rfl, rfl⟩, rfl, rfl, fun _ h => (nomatch h)⟩

/-- An effect that is calm by itself is calm before others. -/
theorem Calm.cons {e : Effect} {es : List Effect} (he : Calm [e]) (hes : Calm es) : Calm (e :: es) := by
  obtain ⟨⟨hstaged, heret, hjump, hskip⟩, hpoison, htrap, horder⟩ := he
  refine ⟨⟨?_, ?_, ?_, ?_⟩, findSome_append_none hpoison hes.poison, findSome_append_none htrap hes.trap, ?_⟩
  · exact (List.any_append (xs := [e])).trans (by rw [show [e].any _ = _ from hstaged, show es.any _ = _ from hes.straight.staged]; rfl)
  · exact (List.any_append (xs := [e])).trans (by rw [show [e].any _ = _ from heret, show es.any _ = _ from hes.straight.eret]; rfl)
  · exact findSome_append_none hjump hes.straight.jump
  · exact findSome_append_none hskip hes.straight.skip
  · exact List.forall_mem_cons.mpr ⟨horder e (List.mem_singleton_self e), hes.order⟩

/-- A bundle of one slot alone whose effects, if any, are of a kind `P` that is calm and leaves the nest: it does not take effect, or they and the
bundle's end are all that happens. -/
theorem alone_ends {s t : State} {i : Instr} {body : State → Core → SlotOut} {P : List Effect → Prop} (h : Alone s)
    (hexec : exec i s = issueSlot i body s) (ht : exec i s = .next t) (hnil : P [])
    (hout : (body s (here s)).faults = [] → (body s (here s)).freezes = [] → walkPoisonOf (body s (here s)).effects = none → P (body s (here s)).effects)
    (hcalm : ∀ es, P es → Calm es ∧ gateStopsOf es = [])
    (hnest : ∀ es, P es → ∀ o, Opened (here s) o → (es.foldl Core.apply o).ctx.lc = o.ctx.lc ∧ (es.foldl Core.apply o).ctx.pc = o.ctx.pc) :
    Stopped s t ∨ ∃ es o e, P es ∧ Opened (here s) o ∧ Ends e (es.foldl Core.apply o) ∧ t = s.setCore s.cur e := by
  rcases alone_cases h hexec ht with hstopped | ⟨x, heffects, hwalk, hnext⟩
  · exact .inl hstopped
  · have hP : P x.effects := by
      rcases heffects with hnone | ⟨hsome, hfaults, hfreezes⟩
      · rw [hnone]
        exact hnil
      · rw [hsome] at hwalk ⊢
        exact hout hfaults hfreezes hwalk
    obtain ⟨hquiet, hgates⟩ := hcalm _ hP
    have hopened := opened_withIss (here s) x
    refine .inr ⟨x.effects, _, _, hP, hopened, endBundle_ends (x := x) hquiet.straight ?_, ?_⟩
    · obtain ⟨hlc, hpc⟩ := hnest _ hP _ hopened
      obtain ⟨y, l, g, ho⟩ := hopened
      intro j hj
      rw [Ctx.getLevel, hlc, hpc, ho]
      exact h.inside j hj
    · rw [hnext ⟨hwalk, hquiet.poison, hquiet.trap, hgates⟩, Core.commit, show (withIss x (here s)).iss = x from rfl, inOrder_plain hquiet.order]

end Sys2Proof.Proofs

/-! SUPPORT. Loads, stores, atomics and engine operations at issue: what entering the core's queues leaves of it (03 R73, 10 R227, 09 R190). -/

namespace Sys2Proof.Proofs

open Sys2Proof Sys2Proof.Machine Sys2Proof.Laws Sys2Proof.Claims

/-! ## Entering the core's queues -/

/-- No landing falls due with its data at this bundle's end, and none of a later number stands in the buffer. -/
def Waiting (c : Core) : Prop := ∀ l ∈ c.land, l.id < c.nid ∧ l.due = false ∧ (l.data = none ∨ l.left ≠ 0)

/-- What entering the queues leaves: registers but FFLAGS, tokens and the links of deferred faults, rounds; the scratchpad's bytes, the member's run. -/
structure Enters (c d : Core) : Prop where
  sp : d.pool.sp = c.pool.sp
  run : d.run = c.run
  task : d.task = c.task
  pipe : d.pipe = c.pipe
  waiting : Waiting c → Waiting d
  ctx : d.ctx = { c.ctx with fflags := d.ctx.fflags, k := d.ctx.k, deferred := d.ctx.deferred, rounds := d.ctx.rounds, bad := d.ctx.bad }
  bad : c.ctx.bad = [] → d.ctx.bad = []

theorem Enters.refl (c : Core) : Enters c c := ⟨rfl, rfl, rfl, rfl, id, rfl, id⟩

theorem Enters.trans {c d e : Core} (h : Enters c d) (h' : Enters d e) : Enters c e :=
  ⟨h'.sp.trans h.sp, h'.run.trans h.run, h'.task.trans h.task, h'.pipe.trans h.pipe, fun hw => h'.waiting (h.waiting hw), by rw [h'.ctx, h.ctx],
    fun hb => h'.bad (h.bad hb)⟩

theorem enters_foldl {β : Type} {f : Core → β → Core} (hf : ∀ c b, Enters c (f c b)) (l : List β) (c : Core) : Enters c (l.foldl f c) := by
  induction l generalizing c with
  | nil => exact .refl c
  | cons b l ih => exact (hf c b).trans (ih (f c b))

/-- A change of the memory port, the scoreboard, the operations, the segment, or of numbers given out, alone. -/
theorem enters_queues {c d : Core} (hnid : c.nid ≤ d.nid) (hland : d.land = c.land)
    (h : d = { c with nid := d.nid, land := d.land, sb := d.sb, ops := d.ops, mq := d.mq, seg := d.seg }) : Enters c d := by
  rw [h]
  refine ⟨rfl, rfl, rfl, rfl, fun hw l hl => ?_, rfl, id⟩
  obtain ⟨hid, hrest⟩ := hw l (hland ▸ hl)
  exact ⟨Nat.lt_of_lt_of_le hid hnid, hrest⟩

theorem enters_closeLine (c : Core) (p : Piece) (kind : ReqKind) (scope : BitVec 3) (ord : BitVec 2) : Enters c (c.closeLine p kind scope ord) :=
  enters_queues (Nat.le_refl _) rfl rfl

theorem enters_enqueue (c : Core) (r : MemReq) (hold : Bool) : Enters c (c.enqueue r hold) := enters_queues (Nat.le_succ _) rfl rfl

theorem enters_mq (c : Core) (mq : List MemReq) : Enters c { c with mq := mq } := enters_queues (Nat.le_refl _) rfl rfl

theorem enters_seg (c : Core) (g : Segment) : Enters c { c with seg := g } := enters_queues (Nat.le_refl _) rfl rfl

/-- The old value of an atomic reaches its landing, which is not the present bundle's. -/
theorem enters_fillLanding (c : Core) (l x : Nat) (psn : Bool) (h : ∀ e ∈ c.land, e.id = l → e.left ≠ 0) : Enters c (c.fillLanding l x psn) := by
  refine ⟨rfl, rfl, rfl, rfl, fun hw e he => ?_, rfl, id⟩
  obtain ⟨f, hf, rfl⟩ := List.mem_map.mp he
  obtain ⟨hid, hdue, hdata⟩ := hw f hf
  split
  · next hl => exact ⟨hid, hdue, .inr (h f hf hl)⟩
  · exact ⟨hid, hdue, hdata⟩

/-- A landing that an atomic names is not the present bundle's. -/
def FillsLater (c : Core) (kind : ReqKind) : Prop := ∀ op sz x2 l, kind = .atomic op sz x2 (some l) → ∀ e ∈ c.land, e.id = l → e.left ≠ 0

theorem enters_resumeAtomic {c : Core} {kind : ReqKind} (h : FillsLater c kind) (sent : Nat × Option Nat) : Enters c (c.resumeAtomic kind sent) := by
  unfold Core.resumeAtomic
  dsimp only
  split
  · exact (enters_seg c _).trans (enters_fillLanding _ _ _ _ fun e he => h _ _ _ _ rfl e he)
  · exact enters_queues (Nat.le_refl _) rfl rfl
  · exact enters_seg c _

theorem enters_pushReq {c : Core} {kind : ReqKind} (h : FillsLater c kind) (cls : Nat) (p : Piece) (data : Nat) (scope : BitVec 3) (ord : BitVec 2) :
    Enters c (c.pushReq kind cls p data scope ord) := by
  have hclose := enters_closeLine c p kind scope ord
  unfold Core.pushReq
  dsimp only
  split
  · exact hclose.trans (enters_enqueue _ _ _)
  · split
    · split
      · exact hclose.trans (enters_resumeAtomic (c := c.closeLine p kind scope ord) h _)
      · exact (hclose.trans (enters_seg _ _)).trans (enters_enqueue _ _ _)
    · exact hclose.trans (enters_enqueue _ _ _)

theorem fillsLater_load (c : Core) (l : Nat) : FillsLater c (.load l) := fun _ _ _ _ h => nomatch h

theorem fillsLater_store (c : Core) : FillsLater c .store := fun _ _ _ _ h => nomatch h

theorem fillsLater_none (c : Core) (op : AtomOp) (sz : BitVec 3) (x2 : BitVec 64) : FillsLater c (.atomic op sz x2 none) :=
  fun _ _ _ _ h => nomatch h

theorem enters_pushStore (c : Core) (cls : Nat) (p : Piece) (data psn : Nat) (scope : BitVec 3) (ord : BitVec 2) :
    Enters c (c.pushStore cls p data psn scope ord) := by
  have hpush := enters_pushReq (fillsLater_store c) cls p (bytesOf data p.off p.n) scope ord
  unfold Core.pushStore
  dsimp only
  split
  · exact hpush.trans (enters_mq _ _)
  · exact hpush

theorem enters_pushLanding (c : Core) (file dest dist : Nat) (sz : BitVec 3) (need : Nat) : Enters c (c.pushLanding file dest dist sz need) := by
  refine ⟨rfl, rfl, rfl, rfl, fun hw l hl => ?_, rfl, id⟩
  rcases List.mem_append.mp hl with hl | hl
  · obtain ⟨hid, hrest⟩ := hw l hl
    exact ⟨Nat.lt_succ_of_lt hid, hrest⟩
  · obtain rfl := List.mem_singleton.mp hl
    exact ⟨Nat.lt_succ_self _, rfl, .inl rfl⟩

theorem enters_pushAtomic (c : Core) (op : AtomOp) (sz : BitVec 3) (p : Piece) (data : Nat) (scope : BitVec 3) :
    Enters c (c.pushAtomic op sz p data scope) := by
  have hpush := enters_pushReq (fillsLater_none c op sz 0) 4 p data scope 0
  unfold Core.pushAtomic
  dsimp only
  split
  · exact (enters_closeLine c p _ scope 0).trans (enters_mq _ _)
  · split
    · exact hpush
    · exact hpush.trans (enters_mq _ _)

theorem enters_logLine (c : Core) (a l : Nat) : Enters c (c.logLine a l) := by
  unfold Core.logLine
  dsimp only
  split
  · exact enters_seg c _
  · exact .refl c

/-- A change of the pool that leaves the scratchpad's bytes. -/
theorem enters_pool {c : Core} (q : Pool) (h : q.sp = c.pool.sp) : Enters c { c with pool := q } := ⟨h, rfl, rfl, rfl, id, rfl, id⟩

theorem enters_clearRows (c : Core) (first n : Nat) : Enters c (c.clearRows first n) := by
  unfold Core.clearRows
  refine enters_foldl (fun c r => ?_) _ c
  exact (enters_foldl (fun c i => enters_logLine c _ _) _ c).trans (enters_pool _ rfl)

theorem setToken_keeps (x : Ctx) (tok : Nat) (op : Option Nat) : ∃ k, x.setToken tok op = { x with k := k } := by
  unfold Ctx.setToken
  split
  · exact ⟨x.k, rfl⟩
  · exact ⟨_, rfl⟩

theorem enters_enterEngine (c : Core) (name : OpName) (port : BitVec 3) (snap : Snap) (tok : Nat) (ranges : List (Nat × Nat × Bool)) :
    Enters c (c.enterEngine name port snap tok ranges) := by
  obtain ⟨k, hk⟩ := setToken_keeps c.ctx tok (some c.nid)
  unfold Core.enterEngine
  dsimp only
  rw [hk]
  refine ⟨rfl, rfl, rfl, rfl, fun hw l hl => ?_, rfl, fun hb => ?_⟩
  rotate_left
  · show c.ctx.bad.filter _ = []
    rw [hb]
    rfl
  obtain ⟨hid, hrest⟩ := hw l hl
  exact ⟨Nat.lt_succ_of_lt hid, hrest⟩

theorem enters_startEngine (c : Core) (name : OpName) (port : BitVec 3) (snap : Snap) (tok : Nat) (ranges : List (Nat × Nat × Bool)) :
    Enters c (c.startEngine name port snap tok ranges) := by
  have henter := enters_enterEngine c name port snap tok ranges
  unfold Core.startEngine
  dsimp only
  split
  · exact henter.trans (enters_clearRows _ _ _)
  · exact henter

/-! ## Effects that enter the queues -/

/-- The effects of loads, stores, atomics and engine operations. -/
def Enqueues : Effect → Prop
  | .load _ _ _ _ _ _ _ => True
  | .store _ _ _ _ _ => True
  | .atomic _ _ _ _ _ _ _ _ => True
  | .orFlags _ => True
  | .engine _ _ _ _ _ => True
  | .ttag _ _ => True
  | .walkPoison _ => True
  | .gateStop _ => True
  | _ => False

theorem enters_apply {e : Effect} (h : Enqueues e) {c : Core} (hw : Waiting c) : Enters c (c.apply e) := by
  cases e
  case load ps cls file dest dist sz scope =>
    exact (enters_pushLanding c file dest dist sz ps.length).trans (enters_foldl (fun c p => enters_pushReq (fillsLater_load c _) cls p 0 scope _) ps _)
  case store ps cls data psn scope => exact enters_foldl (fun c p => enters_pushStore c cls p data psn scope _) ps c
  case atomic op sz p data x2 dest scope ord =>
    cases dest with
    | none =>
      show Enters c (if ord = 0 then c.pushAtomic op sz p data scope else c.pushReq (.atomic op sz x2 none) 4 p data scope ord)
      split
      · exact enters_pushAtomic c op sz p data scope
      · exact enters_pushReq (fillsLater_none c op sz x2) 4 p data scope ord
    | some d =>
      refine (enters_pushLanding c 0 d 31 (if p.n = 4 then 2 else 3) 1).trans (enters_pushReq (fun _ _ _ l hl e he hid => ?_) 4 p data scope ord)
      cases hl
      rcases List.mem_append.mp he with he | he
      · exact absurd hid (Nat.ne_of_lt (hw e he).1)
      · obtain rfl := List.mem_singleton.mp he
        exact Nat.succ_ne_zero 30
  case orFlags f => exact ⟨rfl, rfl, rfl, rfl, id, rfl, id⟩
  case engine name port snap tok ranges => exact enters_startEngine c name port snap tok ranges
  case ttag t tag => exact (enters_logLine c 1 _).trans (enters_pool _ rfl)
  case walkPoison pa => exact .refl c
  case gateStop pa => exact .refl c
  all_goals exact h.elim

theorem enters_applyAll {es : List Effect} (h : ∀ e ∈ es, Enqueues e) {c : Core} (hw : Waiting c) : Enters c (es.foldl Core.apply c) := by
  induction es generalizing c with
  | nil => exact .refl c
  | cons e es ih =>
    have happly := enters_apply (h e (List.mem_cons_self ..)) hw
    exact happly.trans (ih (fun f hf => h f (List.mem_cons_of_mem _ hf)) (happly.waiting hw))

theorem enqueues_order {e : Effect} (h : Enqueues e) : effectOrder e = 2 := by
  cases e
  case rng => exact h.elim
  case csrWrite => exact h.elim
  all_goals rfl

/-- Such effects go straight on, and neither trap nor consume poison but by a walk. -/
theorem enqueues_calm {es : List Effect} (h : ∀ e ∈ es, Enqueues e) : Calm es := by
  induction es with
  | nil => exact Calm.nil
  | cons e es ih =>
    refine Calm.cons ?_ (ih fun f hf => h f (List.mem_cons_of_mem _ hf))
    have he := h e (List.mem_cons_self ..)
    have hkind : Straight [e] ∧ poisonOf [e] = none ∧ trapOf [e] = none := by
      cases e
      case loop => exact he.elim
      case eret => exact he.elim
      case jump => exact he.elim
      case poison => exact he.elim
      case badReg => exact he.elim
      case trap => exact he.elim
      all_goals exact ⟨⟨rfl, rfl, rfl, rfl⟩, rfl, rfl⟩
    exact ⟨hkind.1, hkind.2.1, hkind.2.2, fun f hf => (List.mem_singleton.mp hf) ▸ enqueues_order he⟩

/-! ## What a bundle of such a slot leaves -/

/-- A slot's contribution enters the queues alone, and where a gate has stopped a walk it is at fault. -/
structure Home (out : SlotOut) : Prop where
  effects : ∀ e ∈ out.effects, Enqueues e
  gates : out.faults = [] → gateStopsOf out.effects = []

/-- With no result outstanding, and no landing that falls due with its data, registers stay. -/
theorem fall_waiting {d : Core} (hpipe : d.pipe = []) (hw : Waiting d) : (d.tickPipe.tickLand.writeLandings fun l => l.due).ctx = d.ctx := by
  have hnone : d.tickPipe.tickLand.land.filter (fun l => l.due && l.data.isSome) = [] := by
    refine List.filter_eq_nil_iff.mpr fun l hl => ?_
    obtain ⟨m, hm, rfl⟩ := List.mem_map.mp (show l ∈ d.land.map _ from hl)
    obtain ⟨-, hdue, hdata⟩ := hw m hm
    rw [hdue, if_neg Bool.false_ne_true]
    rcases hdata with hdata | hleft
    · split <;> simp [hdata]
    · rw [if_neg hleft]
      simp
  unfold Core.writeLandings
  dsimp only
  rw [hnone]
  unfold Core.tickLand Core.tickPipe
  simp only [hpipe, List.filter_nil, List.foldl_nil]

/-- A context that has entered the queues of a member without poison, and ended its bundle. -/
theorem issued_ctx {x y z : Ctx} {l : BitVec 13} (hbad : x.bad = []) (hy : y = { { x with segLeft := l } with
      fflags := y.fflags, k := y.k, deferred := y.deferred, rounds := y.rounds, bad := y.bad }) (hybad : y.bad = []) (hz : Ended y z) :
    z = { x with
      fflags := z.fflags, k := z.k, deferred := z.deferred, rounds := z.rounds, pc := z.pc, cycle := z.cycle, segLeft := z.segLeft
      waitOk := z.waitOk } := by
  have hy' : y = { x with segLeft := l, fflags := y.fflags, k := y.k, deferred := y.deferred, rounds := y.rounds } := by
    rw [hybad, ← hbad] at hy
    exact hy
  unfold Ended at hz
  rw [hz, hy']

theorem keptIssue_of_home {s t : State} {i : Instr} {body : State → Core → SlotOut} (h : Alone s) (hexec : exec i s = issueSlot i body s)
    (ht : exec i s = .next t) (hhome : Home (body s (here s))) : Stopped s t ∨ KeptIssue s t := by
  have hwaits {o : Core} (ho : Opened (here s) o) : Waiting o := by
    obtain ⟨x, l, g, rfl⟩ := ho
    intro e he
    rw [show ({ here s with iss := x, ctx := _, seg := g } : Core).land = [] from h.land] at he
    cases he
  have hends := alone_ends (P := fun es => (∀ e ∈ es, Enqueues e) ∧ gateStopsOf es = []) h hexec ht ⟨fun _ h => (nomatch h), rfl⟩
    (fun hfaults _ _ => ⟨hhome.effects, hhome.gates hfaults⟩) (fun es hes => ⟨enqueues_calm hes.1, hes.2⟩) fun es hes o ho => by
      rw [(enters_applyAll hes.1 (hwaits ho)).ctx]
      exact ⟨rfl, rfl⟩
  rcases hends with hstopped | ⟨es, o, e, ⟨henqueue, -⟩, ho, hends, rfl⟩
  · exact .inl hstopped
  · obtain ⟨hsp, hrun, htask, hpipe, hwaiting, hctx, hbad⟩ := enters_applyAll henqueue (hwaits ho)
    have hw := hwaiting (hwaits ho)
    obtain ⟨x, l, g, rfl⟩ := ho
    generalize es.foldl Core.apply _ = d at hends hsp hrun htask hpipe hctx hbad hw
    have hpipe' : d.pipe = [] := hpipe.trans h.pipe
    refine .inr ⟨?_, ?_, ?_, ?_, ?_, ?_⟩ <;> rw [core_setCore_same]
    · rw [hends.pipe]
      unfold Core.tickPipe
      simp only [hpipe', List.filter_nil, List.map_nil]
    · rw [hends.pool, hsp]
    · rw [hends.run, hrun]
    · rw [hends.task, htask]
    · have hended := hends.ctx
      rw [fall_waiting hpipe' hw] at hended
      exact issued_ctx h.healthy hctx (hbad h.healthy) hended

end Sys2Proof.Proofs

/-! SUPPORT. Each load, store, atomic and engine operation enters the core's queues alone (10 R215, R227-R231, 09 R190). -/

namespace Sys2Proof.Proofs

open Sys2Proof Sys2Proof.Machine Sys2Proof.Laws Sys2Proof.Claims

/-! ## The memory port -/

theorem Home.none : Home {} := ⟨fun _ h => (nomatch h), fun _ => rfl⟩

/-- An access's translation: what stops it at a gate is a fault. -/
theorem home_translated (s : State) (c : BitVec 8) (want : Want) (va : Nat) : Home (translated s c want va).2 := by
  unfold translated
  split
  · exact Home.none
  · exact ⟨fun _ h => (nomatch h), fun _ => rfl⟩
  · exact ⟨by simp [Enqueues], fun _ => rfl⟩
  · exact ⟨by simp [Enqueues], fun h => nomatch h⟩
  · exact ⟨fun _ h => (nomatch h), fun _ => rfl⟩

theorem home_translatePieces (s : State) (want : Want) (base : Nat) (l : List (Nat × Nat)) : Home (translatePieces s want base l).2 := by
  induction l with
  | nil => exact Home.none
  | cons x rest ih =>
    have hx := home_translated s s.cur want x.1
    unfold translatePieces
    dsimp only
    split
    · exact ih
    · next out hout =>
      rw [hout] at hx
      exact hx

theorem home_gaccess (s : State) (want : Want) (align ea va n : Nat) : Home (gaccess s want align ea va n).2 := by
  unfold gaccess
  split
  · exact ⟨fun _ h => (nomatch h), fun _ => rfl⟩
  · exact home_translatePieces s want va _

theorem gateStopsOf_append (es fs : List Effect) : gateStopsOf (es ++ fs) = gateStopsOf es ++ gateStopsOf fs := List.filterMap_append

/-- More effects that enter the queues, more faults, and anything else. -/
theorem Home.more {out : SlotOut} (h : Home out) {es : List Effect} (hes : ∀ e ∈ es, Enqueues e) (hgates : gateStopsOf es = [])
    {fs : List (BitVec 16 × BitVec 64)} {out' : SlotOut} (heffects : out'.effects = out.effects ++ es) (hfaults : out'.faults = out.faults ++ fs) :
    Home out' := by
  refine ⟨fun e he => ?_, fun hnone => ?_⟩
  · rw [heffects] at he
    rcases List.mem_append.mp he with he | he
    · exact h.effects e he
    · exact hes e he
  · rw [hfaults] at hnone
    rw [heffects, gateStopsOf_append, hgates, h.gates (List.append_eq_nil_iff.mp hnone).1, List.nil_append]

theorem home_gload (a : BitVec 4) (align n cls file dest dist : Nat) (sz scope : BitVec 3) (s : State) (c : Core) :
    Home (gload a align n cls file dest dist sz scope s c) :=
  (home_gaccess s .read align (gaddr c a) (gaddr c a) n).more (es := [.load _ cls file dest dist sz scope]) (fs := []) (by simp [Enqueues]) rfl rfl
    (List.append_nil _).symm

theorem home_gstore (a : BitVec 4) (off unit align n cls data psn : Nat) (scope : BitVec 3) (s : State) (c : Core) :
    Home (gstore a off unit align n cls data psn scope s c) :=
  (home_gaccess s .write align (gaddr c a) (gaddr c a + off * unit) n).more (es := [.store _ cls data psn scope]) (fs := []) (by simp [Enqueues]) rfl rfl
    (List.append_nil _).symm

theorem home_gatomic (i : Instr) (op : AtomOp) (a : BitVec 4) (ord : BitVec 2) (scope sz : BitVec 3) (x : Nat) (x2 : BitVec 64) (dest : Option Nat)
    (s : State) (c : Core) : Home (gatomic i op a ord scope sz x x2 dest s c) := by
  refine (home_gaccess s .write (atomBytes sz) (gaddr c a) (gaddr c a) (atomBytes sz)).more (es := List.map _ _) ?_ ?_ rfl rfl
  · intro e he
    obtain ⟨p, -, rfl⟩ := List.mem_map.mp he
    trivial
  · rw [gateStopsOf, List.filterMap_map]
    exact List.filterMap_eq_nil_iff.mpr fun _ _ => rfl

theorem home_gquant (i : Instr) (f : FFmt) (d : BitVec 6) (a : BitVec 4) (ord : BitVec 2) (scope q : BitVec 3) (s : State) (c : Core) :
    Home (gquant i f d a ord scope q s c) :=
  (home_gatomic i .add a ord scope 3 _ 0 none s c).more (es := [.orFlags _]) (fs := []) (by simp [Enqueues]) rfl rfl (List.append_nil _).symm

/-- The same contribution with more faults. -/
theorem Home.faults {out : SlotOut} (h : Home out) (fs : List (BitVec 16 × BitVec 64)) : Home { out with faults := out.faults ++ fs } :=
  h.more (es := []) (fs := fs) (fun _ h => nomatch h) rfl (List.append_nil _).symm rfl

/-! ## The engines -/

/-- An engine's part of a contribution enters the queues alone. -/
structure PartHome (p : EngPart) : Prop where
  effects : ∀ e ∈ p.effects, Enqueues e
  gates : p.faults = [] → gateStopsOf p.effects = []

theorem partHome_none {p : EngPart} (h : p.effects = []) : PartHome p :=
  ⟨fun e he => (nomatch (h ▸ he : e ∈ [])), fun _ => by rw [h]; rfl⟩

theorem home_engineSlot (i : Instr) (name : OpName) (kind : Nat) (e : BitVec 6) (k : BitVec 3) (full : Core → BitVec 3 → Bool)
    {part : State → Core → Desc → EngPart} {s : State} {c : Core} (h : PartHome (part s c (c.ctx.getE e.toNat))) :
    Home (engineSlot i name kind e k full part s c) := by
  unfold engineSlot
  dsimp only
  split
  · exact ⟨fun _ h => (nomatch h), fun _ => rfl⟩
  · refine ⟨fun f hf => ?_, fun hnone => h.gates (List.append_eq_nil_iff.mp hnone).2⟩
    rcases List.mem_cons.mp hf with rfl | hf
    · trivial
    · exact h.effects f hf

theorem home_bagSlot (i : Instr) (name : OpName) (kind : Nat) (e : BitVec 6) (k : BitVec 3) {part : State → Core → Desc → EngPart} {s : State} {c : Core}
    (h : PartHome (part s c (c.ctx.getE e.toNat))) : Home (bagSlot i name kind e k part s c) :=
  home_engineSlot i name kind e k bagFull ⟨h.effects, fun hnone => h.gates (List.append_eq_nil_iff.mp hnone).2⟩

theorem join_effects {a b : EngPart} (ha : a.effects = []) (hb : b.effects = []) : (a.join b).effects = [] := by
  show a.effects ++ b.effects = []
  rw [ha, hb]
  rfl

theorem ite_effects {p : Prop} [Decidable p] {a b : EngPart} (ha : a.effects = []) (hb : b.effects = []) : (if p then a else b).effects = [] := by
  split
  · exact ha
  · exact hb

theorem partHome_mul (sparse : Bool) (e : BitVec 6) (s : State) (c : Core) (d : Desc) : PartHome (mulPart sparse e s c d) :=
  partHome_none (join_effects (join_effects (join_effects rfl (ite_effects rfl rfl)) (ite_effects rfl rfl)) (ite_effects rfl rfl))

theorem partHome_bag (e : BitVec 6) (s : State) (c : Core) (d : Desc) : PartHome (bagPart e s c d) :=
  partHome_none (join_effects rfl (ite_effects rfl rfl))

theorem partHome_tags {p : EngPart} {ts : List (Nat × Tag)} (h : p.effects = ts.map fun t => .ttag t.1 t.2) : PartHome p := by
  refine ⟨fun e he => ?_, fun _ => ?_⟩
  · rw [h] at he
    obtain ⟨t, -, rfl⟩ := List.mem_map.mp he
    trivial
  · rw [h, gateStopsOf, List.filterMap_map]
    exact List.filterMap_eq_nil_iff.mpr fun _ _ => rfl

/-- The leaf of a bank launch: a gate that stops its walk leaves none, which is a fault. -/
theorem bankLeaf_stopped {s : State} {c : BitVec 8} {va pa : Nat} (h : (s.bankLeaf c va).2 = .stopped pa) : (s.bankLeaf c va).1 = none := by
  unfold State.bankLeaf at h ⊢
  split at h
  · cases h
  · rfl

theorem partHome_bank (e : BitVec 6) (s : State) (c : Core) (d : Desc) : PartHome (bankPart e s c d) := by
  unfold bankPart
  dsimp only
  cases hx : (s.bankLeaf s.cur (descS c d 1 5 0).toNat).2 with
  | stopped pa =>
    refine ⟨by simp [Enqueues], fun hnone => ?_⟩
    dsimp only at hnone
    rw [bankLeaf_stopped hx] at hnone
    cases hnone
  | poison pa => exact ⟨by simp [Enqueues], fun _ => rfl⟩
  | _ => exact ⟨fun _ h => (nomatch h), fun _ => rfl⟩

theorem partHome_bankld (e : BitVec 6) (s : State) (c : Core) (d : Desc) : PartHome (bankldPart e s c d) := by
  have h := partHome_bank e s c d
  exact ⟨h.effects, fun hnone => h.gates (List.append_eq_nil_iff.mp hnone).1⟩

theorem partHome_bankgo (e : BitVec 6) (s : State) (c : Core) (d : Desc) : PartHome (bankgoPart e s c d) := by
  have h := partHome_bank e s c d
  exact ⟨h.effects, fun hnone => h.gates (List.append_eq_nil_iff.mp hnone).1⟩

/-! ## The forms -/

section
variable {s t : State}

theorem keptIssue_port (h : Alone s) (l r : BitVec 2) (d : BitVec 6) (a : BitVec 4) (o : BitVec 5) (z w : BitVec 3) :
    ∀ i ∈ portForms l d a o z w r, exec i s = .next t → Stopped s t ∨ KeptIssue s t := by
  have hkept {i : Instr} {body : State → Core → SlotOut} (hexec : exec i s = issueSlot i body s) (hhome : Home (body s (here s)))
      (ht : exec i s = .next t) : Stopped s t ∨ KeptIssue s t := keptIssue_of_home h hexec ht hhome
  simp only [portForms, atomicForms, quantForms, List.map_cons, List.map_nil, List.cons_append, List.nil_append, List.forall_mem_cons,
    List.not_mem_nil, false_imp_iff, implies_true, and_true]
  refine ⟨hkept rfl (home_gload ..), hkept rfl (home_gload ..), hkept rfl (home_gload ..), hkept rfl (home_gstore ..), hkept rfl (home_gstore ..),
    hkept rfl (.faults (home_gload ..) _), hkept rfl (.faults (home_gstore ..) _), hkept rfl (home_gatomic ..), hkept rfl ?_,
    hkept rfl (home_gatomic ..), hkept rfl (home_gatomic ..), hkept rfl (home_gatomic ..), hkept rfl (home_gatomic ..), hkept rfl (home_gatomic ..),
    hkept rfl (home_gatomic ..), hkept rfl (home_gatomic ..), hkept rfl (home_gquant ..), hkept rfl (home_gquant ..), hkept rfl (home_gquant ..)⟩
  dsimp only
  split
  · exact .faults (home_gatomic ..) _
  · exact home_gatomic ..

theorem keptIssue_engine (h : Alone s) (k x y z : BitVec 3) (e : BitVec 6) :
    ∀ i ∈ engineForms k x y z e, exec i s = .next t → Stopped s t ∨ KeptIssue s t := by
  have hkept {i : Instr} {body : State → Core → SlotOut} (hexec : exec i s = issueSlot i body s) (hhome : Home (body s (here s)))
      (ht : exec i s = .next t) : Stopped s t ∨ KeptIssue s t := keptIssue_of_home h hexec ht hhome
  have hbag {i : Instr} {name : OpName} {kind : Nat} {part : State → Core → Desc → EngPart}
      (hexec : exec i s = issueSlot i (bagSlot i name kind e k part) s) (hpart : PartHome (part s (here s) (ereg s e))) (ht : exec i s = .next t) :
      Stopped s t ∨ KeptIssue s t := hkept hexec (home_bagSlot i name kind e k hpart) ht
  have hengine {i : Instr} {name : OpName} {kind : Nat} {full : Core → BitVec 3 → Bool} {part : State → Core → Desc → EngPart}
      (hexec : exec i s = issueSlot i (engineSlot i name kind e k full part) s) (hpart : PartHome (part s (here s) (ereg s e)))
      (ht : exec i s = .next t) : Stopped s t ∨ KeptIssue s t := hkept hexec (home_engineSlot i name kind e k full hpart) ht
  simp only [engineForms, List.forall_mem_cons, List.not_mem_nil, false_imp_iff, implies_true, and_true]
  refine ⟨?mldw, ?mswap, hbag rfl (partHome_mul ..), hbag rfl (partHome_mul ..), hbag rfl (partHome_bag ..), hbag rfl (partHome_bag ..),
    hbag rfl (partHome_none rfl), hbag rfl (partHome_none rfl), ?mrd, hbag rfl (partHome_none rfl), hbag rfl (partHome_none rfl),
    hbag rfl (partHome_none rfl), hbag rfl (partHome_tags (ts := [(_, _)]) rfl), hbag rfl (partHome_tags (ts := [(_, _)]) rfl),
    hbag rfl (partHome_none rfl), hbag rfl (partHome_none rfl), hengine rfl (partHome_none rfl), hengine rfl (partHome_none rfl),
    hengine rfl (partHome_none rfl), hengine rfl (partHome_none rfl), hengine rfl (partHome_none rfl), hengine rfl (partHome_none rfl),
    hengine rfl (partHome_none rfl), hengine rfl (partHome_none rfl), hengine rfl (partHome_bankld ..), hengine rfl (partHome_bankgo ..)⟩
  case mldw => exact hbag rfl (partHome_none (join_effects rfl (ite_effects rfl rfl)))
  case mswap => exact hkept rfl ⟨by simp [Enqueues], fun _ => rfl⟩
  case mrd =>
    refine hbag rfl ?_
    by_cases h32 : is32 (matDesc (ereg s e)).ofmt = true
    · exact partHome_tags (ts := [(_, _), (_, _)]) (if_pos h32)
    · exact partHome_tags (ts := [(_, _)]) (if_neg h32)

end

/-- Settles O55: the forms enter the queues alone, and every slot's bundle is its record's. -/
theorem slotsActAtHome : Obligations.SlotsActAtHome := by
  refine ⟨fun s t l r d e a o z w k x y i h ht hi => ?_, fun i hi => ?_⟩
  · rcases List.mem_append.mp hi with hi | hi
    · exact keptIssue_port h l r d a o z w i hi ht
    · exact keptIssue_engine h k x y z e i hi ht
  · obtain ⟨body, hexec⟩ := exec_eq_issueSlot hi
    exact ⟨body, hexec, fun s t ht => slot_acts i body hexec s t ht⟩

end Sys2Proof.Proofs

/-! SUPPORT. Frames of the scratchpad, software cache and beacon accesses: a store changes its bytes alone, a load its register, a cache slot its tag
(07 R145, R146, 08 R184, R185, 10 R224-R226, R237). -/

namespace Sys2Proof.Proofs

open Sys2Proof Sys2Proof.Machine Sys2Proof.Laws Sys2Proof.Claims

/-! ## Loads -/

/-- With no result that falls due and no landing outstanding, registers stay. -/
theorem fall_late {d : Core} (hpipe : ∀ r ∈ d.pipe, 1 < r.left) (hland : d.land = []) :
    (d.tickPipe.tickLand.writeLandings fun l => l.due).ctx = d.ctx := by
  rw [fall_ctx hland, List.filter_eq_nil_iff.mpr fun r hr => by simpa using hpipe r hr]
  rfl

theorem fall_land_nil {d : Core} (hland : d.land = []) : (d.tickPipe.tickLand.writeLandings fun l => l.due).land = [] := by
  have hnone : d.tickPipe.tickLand.land = [] := by
    show d.land.map _ = []
    rw [hland]
    rfl
  unfold Core.writeLandings
  rw [hnone]
  rfl

/-- Registers that nothing but a bundle's end has touched. -/
theorem sameRegs_ended {x y : Ctx} {l : BitVec 13} (h : Ended { x with segLeft := l } y) (w : Writes) : SameRegs x y w := by
  unfold Ended at h
  rw [h]
  exact ⟨fun _ _ => rfl, fun _ _ => ⟨rfl, rfl⟩, fun _ _ => rfl, fun _ _ => rfl, fun _ _ => rfl, fun _ _ => rfl, fun _ _ _ => rfl, fun _ => rfl,
    fun _ => rfl, fun _ => rfl⟩

section
variable {s : State} {i : Instr} {body : State → Core → SlotOut}

/-- A slot whose one effect is a result of latency 2 or more writes the register that the result names alone. -/
theorem frame_of_result {w : Writes} {lat : Nat} {r : RegWrite} (h : Alone s) (hexec : exec i s = issueSlot i body s) (hlat : 1 < lat)
    (hnames : Names (here s).ctx w r.target) (hout : (body s (here s)).faults = [] → (body s (here s)).effects = [.result lat r 0]) : Frame s i w := by
  intro t ht
  have happly {es : List Effect} (hes : es = [] ∨ es = [.result lat r 0]) (o : Core) :
      ∃ rs : List Pending, es.foldl Core.apply o = { o with pipe := o.pipe ++ rs } ∧ ∀ p ∈ rs, p = { left := lat, write := r, flags := 0 } := by
    rcases hes with rfl | rfl
    · exact ⟨[], by rw [List.append_nil]; rfl, fun _ h => (nomatch h)⟩
    · exact ⟨[_], rfl, fun p hp => List.mem_singleton.mp hp⟩
  rcases alone_ends (P := fun es => es = [] ∨ es = [.result lat r 0]) h hexec ht (.inl rfl) (fun hfaults _ _ => .inr (hout hfaults)) (by
      rintro es (rfl | rfl)
      · exact ⟨Calm.nil, rfl⟩
      · exact ⟨⟨⟨rfl, rfl, rfl, rfl⟩, rfl, rfl, fun e he => by rw [List.mem_singleton.mp he]; rfl⟩, rfl⟩) (by
      intro es hes o _
      obtain ⟨rs, hd, -⟩ := happly hes o
      rw [hd]
      exact ⟨rfl, rfl⟩) with hstopped | ⟨es, o, e, hes, ⟨x, l, g, rfl⟩, hends, rfl⟩
  · exact .inl hstopped
  · obtain ⟨rs, hd, hrs⟩ := happly hes { here s with iss := x, ctx := { (here s).ctx with segLeft := l }, seg := g }
    generalize es.foldl Core.apply _ = d at hends hd
    have hpipe : ∀ p ∈ d.pipe, p = { left := lat, write := r, flags := 0 } := by
      rw [hd]
      show ∀ p ∈ (here s).pipe ++ rs, _
      rw [h.pipe]
      exact hrs
    have hland : d.land = [] := by
      rw [hd]
      exact h.land
    have hctx := hends.ctx
    rw [fall_late (fun p hp => by rw [hpipe p hp]; exact hlat) hland, hd] at hctx
    refine .inr ⟨?_, ?_, ?_, ?_, ?_, ?_, ?_, ?_, ?_, ?_, ?_, ?_⟩ <;> rw [core_setCore_same]
    · rw [hends.pool, hd]
    · rw [hends.land, fall_land_nil hland, h.land]
    · rw [hends.sb, hd]
    · rw [hends.ops, hd]
    · rw [hends.mq, hd]
    · rw [hends.launches, hd]
    · rw [hends.run, hd]
    · rw [hends.task, hd]
    · unfold Ended at hctx
      rw [hctx]
    · exact sameRegs_ended hctx w
    · intro p hp
      rw [hends.pipe] at hp
      obtain ⟨q, hq, rfl⟩ := List.mem_map.mp hp
      have hq' := hpipe q (List.mem_filter.mp hq).1
      rw [hq']
      exact ⟨hnames, fun _ => rfl⟩

/-! ## Stores -/

/-- Only bytes of `stored` have changed in the scratchpad, and of the tag table only DIRTY marks. -/
structure KeepsSp (stored : Nat → Prop) (c d : Core) : Prop where
  bytes : ∀ a, ¬ stored a → mapGet 0 d.pool.sp a = mapGet 0 c.pool.sp a
  tags : ∀ n, mapGet Init.tagEntry d.pool.tagt n = { mapGet Init.tagEntry c.pool.tagt n with dirty := (mapGet Init.tagEntry d.pool.tagt n).dirty }
  rest : d = { c with pool := { c.pool with sp := d.pool.sp, psn := d.pool.psn, tagt := d.pool.tagt }, seg := d.seg }

variable {stored stored' : Nat → Prop} {c d e : Core}

theorem KeepsSp.refl (stored : Nat → Prop) (c : Core) : KeepsSp stored c c := ⟨fun _ _ => rfl, fun _ => rfl, rfl⟩

theorem KeepsSp.trans (h : KeepsSp stored c d) (h' : KeepsSp stored d e) : KeepsSp stored c e :=
  ⟨fun a ha => (h'.bytes a ha).trans (h.bytes a ha), fun n => by rw [h'.tags n, h.tags n], by rw [h'.rest, h.rest]⟩

theorem KeepsSp.mono (h : KeepsSp stored c d) (hsub : ∀ a, stored a → stored' a) : KeepsSp stored' c d :=
  ⟨fun a ha => h.bytes a fun hs => ha (hsub a hs), h.tags, h.rest⟩

theorem keepsSp_foldl {β : Type} {f : Core → β → Core} (l : List β) (hf : ∀ b ∈ l, ∀ c, KeepsSp stored c (f c b)) (c : Core) :
    KeepsSp stored c (l.foldl f c) := by
  induction l generalizing c with
  | nil => exact .refl stored c
  | cons b l ih => exact (hf b (List.mem_cons_self ..) c).trans (ih (fun b hb => hf b (List.mem_cons_of_mem _ hb)) _)

theorem keepsSp_logLine (stored : Nat → Prop) (c : Core) (a l : Nat) : KeepsSp stored c (c.logLine a l) := by
  unfold Core.logLine
  dsimp only
  split
  · exact ⟨fun _ _ => rfl, fun _ => rfl, rfl⟩
  · exact .refl stored c

theorem keepsSp_markSlots (stored : Nat → Prop) (c : Core) (off n : Nat) : KeepsSp stored c (c.markSlots off n) := by
  unfold Core.markSlots
  refine keepsSp_foldl _ (fun i _ c => ?_) c
  dsimp only
  split
  · refine ⟨fun _ _ => rfl, fun m => ?_, rfl⟩
    by_cases hm : m = i
    · subst hm
      rw [mapGet_set_same]
    · rw [mapGet_set_other _ hm]
  · exact .refl stored c

theorem keepsSp_spWrite (c : Core) (off n x : Nat) (p : Bool) : KeepsSp (inBytes off n) c (c.spWrite off n x p) := by
  have hwrite (q : Core) : KeepsSp (inBytes off n) q
      { q with pool := { q.pool with sp := writeBytes q.pool.sp off n x, psn := markSpPoison q.pool.psn off n p } } :=
    ⟨fun a ha => (get_writeBytes ..).trans (if_neg ha), fun _ => rfl, rfl⟩
  exact (keepsSp_foldl (f := fun c l => c.logLine 0 l) _ (fun l _ c => keepsSp_logLine _ c 0 l) c).trans ((hwrite _).trans (keepsSp_markSlots _ _ off n))

/-- A bundle whose effects only store to bytes of `stored`. -/
theorem keptSp_of_stores {t : State} (h : Alone s) (hexec : exec i s = issueSlot i body s) (ht : exec i s = .next t)
    (hout : (body s (here s)).faults = [] → Calm (body s (here s)).effects ∧ gateStopsOf (body s (here s)).effects = []
      ∧ ∀ o, Opened (here s) o → KeepsSp stored o ((body s (here s)).effects.foldl Core.apply o)) : Stopped s t ∨ KeptSp s t stored := by
  rcases alone_ends (P := fun es => Calm es ∧ gateStopsOf es = [] ∧ ∀ o, Opened (here s) o → KeepsSp stored o (es.foldl Core.apply o)) h hexec ht
      ⟨Calm.nil, rfl, fun o _ => .refl stored o⟩ (fun hfaults _ _ => hout hfaults) (fun es hes => ⟨hes.1, hes.2.1⟩) (by
      intro es hes o ho
      rw [(hes.2.2 o ho).rest]
      exact ⟨rfl, rfl⟩) with hstopped | ⟨es, o, e, ⟨-, -, hkeeps⟩, ho, hends, rfl⟩
  · exact .inl hstopped
  · obtain ⟨hbytes, htags, hrest⟩ := hkeeps o ho
    obtain ⟨x, l, g, rfl⟩ := ho
    generalize es.foldl Core.apply _ = d at hends hbytes htags hrest
    have hpipe : d.pipe = [] := by
      rw [hrest]
      exact h.pipe
    have hland : d.land = [] := by
      rw [hrest]
      exact h.land
    have hctx := hends.ctx
    rw [fall_late (fun p hp => by rw [hpipe] at hp; cases hp) hland, hrest] at hctx
    refine .inr ⟨?_, ?_, ?_, ?_, ?_, ?_, ?_, ?_, ?_, ?_, ?_, ?_, ?_⟩ <;> rw [core_setCore_same]
    · rw [hends.pool]
      exact hbytes
    · rw [hends.pool, hrest]
    · rw [hends.pool]
      exact htags
    · rw [hends.pipe]
      unfold Core.tickPipe
      simp only [hpipe, List.filter_nil, List.map_nil]
    · rw [hends.land, fall_land_nil hland]
    · rw [hends.sb, hrest]
    · rw [hends.ops, hrest]
    · rw [hends.mq, hrest]
    · rw [hends.launches, hrest]
    · rw [hends.run, hrest]
    · rw [hends.task, hrest]
    · unfold Ended at hctx
      rw [hctx]

/-! ## Slots of the software cache, and beacons in global memory -/

/-- A core that differs in its pool, its queues and its segment alone. -/
def QueuesOnly (c d : Core) : Prop := d = { c with pool := d.pool, nid := d.nid, mq := d.mq, sb := d.sb, seg := d.seg }

/-- A bundle whose effects, of a kind `Q`, change the pool and the queues alone. -/
theorem queues_bundle {t : State} {Q : Core → Core → Prop} (hQ : ∀ c d, Q c d → QueuesOnly c d) (hrefl : ∀ c, Q c c) (h : Alone s)
    (hexec : exec i s = issueSlot i body s) (ht : exec i s = .next t)
    (hout : (body s (here s)).faults = [] → (body s (here s)).freezes = [] → walkPoisonOf (body s (here s)).effects = none →
      Calm (body s (here s)).effects ∧ gateStopsOf (body s (here s)).effects = []
      ∧ ∀ o, Opened (here s) o → Q o ((body s (here s)).effects.foldl Core.apply o)) :
    Stopped s t ∨ ∃ o d e, Opened (here s) o ∧ Q o d ∧ Ends e d ∧ t = s.setCore s.cur e ∧ e.pipe = [] ∧ e.land = []
      ∧ ∃ l, Ended { (here s).ctx with segLeft := l } e.ctx := by
  rcases alone_ends (P := fun es => Calm es ∧ gateStopsOf es = [] ∧ ∀ o, Opened (here s) o → Q o (es.foldl Core.apply o)) h hexec ht
      ⟨Calm.nil, rfl, fun o _ => hrefl o⟩ hout (fun es hes => ⟨hes.1, hes.2.1⟩) (by
      intro es hes o ho
      rw [show es.foldl Core.apply o = _ from hQ _ _ (hes.2.2 o ho)]
      exact ⟨rfl, rfl⟩) with hstopped | ⟨es, o, e, ⟨-, -, hacts⟩, ho, hends, rfl⟩
  · exact .inl hstopped
  · have hact := hacts o ho
    have hrest := hQ _ _ hact
    refine .inr ⟨o, _, e, ho, hact, hends, rfl, ?_⟩
    obtain ⟨x, l, g, rfl⟩ := ho
    generalize es.foldl Core.apply _ = d at hends hrest
    unfold QueuesOnly at hrest
    have hpipe : d.pipe = [] := by
      rw [hrest]
      exact h.pipe
    have hland : d.land = [] := by
      rw [hrest]
      exact h.land
    refine ⟨?_, ?_, l, ?_⟩
    · rw [hends.pipe]
      unfold Core.tickPipe
      simp only [hpipe, List.filter_nil, List.map_nil]
    · rw [hends.land, fall_land_nil hland]
    · have hctx := hends.ctx
      rwa [fall_late (fun p hp => by rw [hpipe] at hp; cases hp) hland, hrest] at hctx

/-- Of such a bundle the context stays, and the pool is as `g` says. -/
theorem keptState_of {o d e : Core} {l : BitVec 13} {g : Pool → Pool} (ho : Opened (here s) o) (hact : QueuesOnly o d) (hends : Ends e d)
    (hpipe : e.pipe = []) (hland : e.land = []) (hctx : Ended { (here s).ctx with segLeft := l } e.ctx) (hpool : d.pool = g d.pool) :
    KeptState s (s.setCore s.cur e) (fun _ => (here s).ctx) g ∧ ((s.setCore s.cur e).core s.cur).run = (here s).run := by
  unfold QueuesOnly at hact
  obtain ⟨x, l', g', rfl⟩ := ho
  refine ⟨⟨?_, ?_, ?_, ?_, ?_, ?_, ?_⟩, ?_⟩ <;> rw [core_setCore_same]
  · exact hpipe
  · exact hland
  · rw [hends.ops, hact]
  · rw [hends.task, hact]
  · rw [hends.pool]
    exact hpool
  · unfold Ended at hctx
    rw [hctx]
  · rw [hends.run, hact]

/-- Only the tag table has changed in the pool. -/
structure TagsOnly (c d : Core) : Prop where
  pool : d.pool = { c.pool with tagt := d.pool.tagt }
  rest : QueuesOnly c d

theorem TagsOnly.refl (c : Core) : TagsOnly c c := ⟨rfl, rfl⟩

theorem tagsOnly_closeBlock (c : Core) (a : PAddr) : TagsOnly c (c.closeBlock a) := ⟨rfl, rfl⟩

theorem TagsOnly.trans {c d e : Core} (h : TagsOnly c d) (h' : TagsOnly d e) : TagsOnly c e := by
  have hrest := h.rest
  have hrest' := h'.rest
  unfold QueuesOnly at hrest hrest'
  refine ⟨by rw [h'.pool, h.pool], ?_⟩
  unfold QueuesOnly
  rw [hrest', hrest]

theorem tagsOnly_applyPwb (c : Core) (set way : Nat) (home : PAddr) : TagsOnly c (c.applyPwb set way home) := by
  unfold Core.applyPwb
  dsimp only
  split
  · exact ⟨rfl, rfl⟩
  · exact .refl c

/-- The tag table, and nothing else, has changed. -/
structure TagsAlone (c d : Core) : Prop where
  eq : d = { c with pool := { c.pool with tagt := d.pool.tagt } }

theorem tagsAlone_applyPinv (c : Core) (set way : Nat) : TagsAlone c (c.applyPinv set way) := by
  unfold Core.applyPinv
  dsimp only
  split <;> exact ⟨rfl⟩

theorem tagsAlone_applyPpin (c : Core) (set way : Nat) (pin : Bool) : TagsAlone c (c.applyPpin set way pin) := ⟨rfl⟩

/-- A translation that neither faults, waits nor meets poison adds nothing else. -/
theorem translated_ok {want : Want} {va : Nat} (hfaults : (translated s s.cur want va).2.faults = [])
    (hfreezes : (translated s s.cur want va).2.freezes = []) (hwalk : walkPoisonOf (translated s s.cur want va).2.effects = none) :
    ∃ p, translated s s.cur want va = (some p, {}) := by
  cases hx : s.xlateCore s.cur want va with
  | ok p => exact ⟨p, by rw [translated, hx]⟩
  | fault n => rw [translated, hx] at hfaults; cases hfaults
  | poison pa => rw [translated, hx] at hwalk; cases hwalk
  | stopped pa => rw [translated, hx] at hfaults; cases hfaults
  | held => rw [translated, hx] at hfreezes; cases hfreezes

/-- A calm effect alone. -/
theorem calm_single {e : Effect} (hstraight : Straight [e]) (hpoison : poisonOf [e] = none) (htrap : trapOf [e] = none) (horder : effectOrder e = 2) :
    Calm [e] := ⟨hstraight, hpoison, htrap, fun f hf => by rw [List.mem_singleton.mp hf]; exact horder⟩

end

end Sys2Proof.Proofs

/-! SUPPORT. PROBE's results and its way; beacons in global memory enter the memory port alone (10 R224, R225, R237). -/

namespace Sys2Proof.Proofs

open Sys2Proof Sys2Proof.Machine Sys2Proof.Laws Sys2Proof.Claims

/-! ## Writes in a member without poison -/

theorem write_s_healthy {x : Ctx} (hbad : x.bad = []) (n : Nat) (v : BitVec 64) : x.write (.s n v) = { x with s := (x.write (.s n v)).s } := by
  unfold Ctx.write Ctx.put Ctx.heal
  dsimp only
  split <;> simp only [hbad, List.filter_nil]

theorem write_p_healthy {x : Ctx} (hbad : x.bad = []) (n : Nat) (b : Bool) : x.write (.p n b) = { x with p := (x.write (.p n b)).p } := by
  unfold Ctx.write Ctx.put Ctx.setPhysP Ctx.heal
  dsimp only
  split <;> simp only [hbad, List.filter_nil]

/-- The register and the pair of predicates that a PROBE writes (10 R224). -/
def probeWrites (x : Ctx) (d : BitVec 6) (r : BitVec 3) (miss : Bool) (v : BitVec 64) : Ctx :=
  ((x.write (.s (x.physS d.toNat) v)).write (.p (x.physP (2 * r.toNat)) miss)).write (.p (x.physP (2 * r.toNat + 1)) (!miss))

section
variable {x : Ctx} (hbad : x.bad = []) (d : BitVec 6) (r : BitVec 3) (miss : Bool) (v : BitVec 64)
include hbad

theorem probeWrites_eq : probeWrites x d r miss v = { x with s := (x.write (.s (x.physS d.toNat) v)).s, p := (probeWrites x d r miss v).p } := by
  have hs := write_s_healthy hbad (x.physS d.toNat) v
  have hsbad : (x.write (.s (x.physS d.toNat) v)).bad = [] := by rw [hs]; exact hbad
  have hp := write_p_healthy hsbad (x.physP (2 * r.toNat)) miss
  have hpbad : ((x.write (.s (x.physS d.toNat) v)).write (.p (x.physP (2 * r.toNat)) miss)).bad = [] := by rw [hp]; exact hsbad
  have hq := write_p_healthy hpbad (x.physP (2 * r.toNat + 1)) (!miss)
  unfold probeWrites
  rw [hq, hp, hs]

theorem getS_probeWrites {n : BitVec 6} (hn : n ≠ d) : (probeWrites x d r miss v).getS n.toNat = x.getS n.toNat := by
  have hs := write_s_healthy hbad (x.physS d.toNat) v
  have hsame : (probeWrites x d r miss v).getS n.toNat = (x.write (.s (x.physS d.toNat) v)).getS n.toNat := by
    rw [probeWrites_eq hbad, hs]
    rfl
  rw [hsame, getS_write x d.isLt n.isLt]
  split_ifs with h0 hd
  · rw [Ctx.getS, if_pos h0]
  · exact absurd (BitVec.eq_of_toNat_eq hd) hn
  · rfl

theorem getP_probeWrites {n : BitVec 4} (hn : n.toNat ≠ 2 * r.toNat) (hn' : n.toNat ≠ 2 * r.toNat + 1) :
    (probeWrites x d r miss v).getP n.toNat = x.getP n.toNat := by
  have hr : r.toNat < 8 := r.isLt
  have hs := write_s_healthy hbad (x.physS d.toNat) v
  obtain ⟨h0, h1⟩ := getP_fixed x (m := n.toNat)
  have hother (y : Ctx) (hy : y.pB = x.pB) (m : Nat) (hm : m < 16) (b : Bool) (hne : n.toNat ≠ m) :
      (y.write (.p (x.physP m) b)).getP n.toNat = y.getP n.toNat := by
    have hphys : x.physP m = y.physP m := by rw [Ctx.physP, ← hy, ← Ctx.physP]
    obtain ⟨h0, h1⟩ := getP_fixed y (m := n.toNat)
    rw [hphys, getP_write y hm n.isLt]
    split_ifs with hz ho
    · exact (h0 hz).symm
    · exact (h1 ho).symm
    · rfl
  have hpB : ∀ (y : Ctx) (m : Nat) (b : Bool), (y.write (.p m b)).pB = y.pB := fun y m b => setPhysP_pB y m b
  have hsB : (x.write (.s (x.physS d.toNat) v)).pB = x.pB := by rw [hs]
  unfold probeWrites
  rw [hother _ ((hpB _ _ _).trans hsB) _ (by omega) _ hn', hother _ hsB _ (by omega) _ hn, hs]
  rfl

end

/-! ## A PROBE's bundle -/

/-- The results of a PROBE. -/
def probeResults (x : Ctx) (d : BitVec 6) (r : BitVec 3) (miss : Bool) (v : BitVec 64) : List (Nat × RegWrite × FFlags) :=
  [(1, .s (x.physS d.toNat) v, 0), (1, .p (x.physP (2 * r.toNat)) miss, 0), (1, .p (x.physP (2 * r.toNat + 1)) (!miss), 0)]

/-- Only the tag table and the ages of ways have changed in the pool. -/
structure WaysOnly (c d : Core) : Prop where
  pool : d.pool = { c.pool with tagt := d.pool.tagt, plru := d.pool.plru }
  rest : QueuesOnly c d

/-- A PROBE touches a way or not. -/
def Touches (pre : List Effect) : Prop := pre = [] ∨ ∃ set way fill blk inv, pre = [.probe set way fill blk inv]

theorem waysOnly_touches {pre : List Effect} (h : Touches pre) (c : Core) : WaysOnly c (pre.foldl Core.apply c) := by
  obtain rfl | ⟨set, way, fill, blk, inv, rfl⟩ := h
  · exact ⟨rfl, rfl⟩
  · cases fill <;> exact ⟨rfl, rfl⟩

/-- What a PROBE's bundle does, unless it does not take effect. -/
def Probed (x : Ctx) (d : BitVec 6) (r : BitVec 3) (es : List Effect) : Prop :=
  es = [] ∨ ∃ pre miss v, Touches pre ∧ es = pre ++ results (probeResults x d r miss v)

theorem calm_results (rs : List (Nat × RegWrite × FFlags)) : Calm (results rs) ∧ gateStopsOf (results rs) = [] := by
  induction rs with
  | nil => exact ⟨Calm.nil, rfl⟩
  | cons r rs ih => exact ⟨Calm.cons (calm_single ⟨rfl, rfl, rfl, rfl⟩ rfl rfl rfl) ih.1, ih.2⟩

theorem calm_probed {x : Ctx} {d : BitVec 6} {r : BitVec 3} {es : List Effect} (h : Probed x d r es) : Calm es ∧ gateStopsOf es = [] := by
  obtain rfl | ⟨pre, miss, v, rfl | ⟨set, way, fill, blk, inv, rfl⟩, rfl⟩ := h
  · exact ⟨Calm.nil, rfl⟩
  · exact calm_results _
  · exact ⟨Calm.cons (calm_single ⟨rfl, rfl, rfl, rfl⟩ rfl rfl rfl) (calm_results _).1, rfl⟩

/-- The results are all that a PROBE's bundle adds to the queues and the pool. -/
theorem apply_probed {x : Ctx} {d : BitVec 6} {r : BitVec 3} {es : List Effect} (h : Probed x d r es) (c : Core) : ∃ (q : Core)
    (rs : List (Nat × RegWrite × FFlags)), WaysOnly c q ∧ (rs = [] ∨ ∃ miss v, rs = probeResults x d r miss v)
      ∧ es.foldl Core.apply c = { q with pipe := q.pipe ++ rs.map fun r => { left := r.1, write := r.2.1, flags := r.2.2 } } := by
  obtain rfl | ⟨pre, miss, v, hpre, rfl⟩ := h
  · exact ⟨c, [], ⟨rfl, rfl⟩, .inl rfl, by simp⟩
  · have hadd := foldl_results (pre.foldl Core.apply c) (probeResults x d r miss v)
    rw [← List.foldl_append] at hadd
    exact ⟨pre.foldl Core.apply c, probeResults x d r miss v, waysOnly_touches hpre c, .inr ⟨miss, v, rfl⟩, hadd⟩

theorem orFlags_zero (x : Ctx) : x.orFlags 0 = x := by
  unfold Ctx.orFlags
  rw [show x.fflags ||| (0 : FFlags) = x.fflags from BitVec.or_zero]

theorem foldl_probeResults (z : Ctx) (d : BitVec 6) (r : BitVec 3) (miss : Bool) (v : BitVec 64) :
    (probeResults z d r miss v).foldl (fun x r => (x.write r.2.1).orFlags r.2.2) z = probeWrites z d r miss v := by
  unfold probeResults probeWrites
  simp only [List.foldl_cons, List.foldl_nil, orFlags_zero]

/-- A PROBE's registers once its results are written: its own and its pair alone have changed. -/
theorem probed_ctx {x y : Ctx} {d : BitVec 6} {r : BitVec 3} {rs : List (Nat × RegWrite × FFlags)} {l : BitVec 13} (hbad : x.bad = [])
    (hrs : rs = [] ∨ ∃ miss v, rs = probeResults x d r miss v)
    (hy : Ended (rs.foldl (fun x r => (x.write r.2.1).orFlags r.2.2) { x with segLeft := l }) y) :
    y = { x with s := y.s, p := y.p, pc := y.pc, cycle := y.cycle, segLeft := y.segLeft, waitOk := y.waitOk }
      ∧ SameRegs x y { s := [d], p := [r.zeroExtend 4 * 2, r.zeroExtend 4 * 2 + 1] } := by
  obtain rfl | ⟨miss, v, rfl⟩ := hrs
  · refine ⟨?_, sameRegs_ended hy _⟩
    unfold Ended at hy
    rw [hy]
    rfl
  · let z : Ctx := { x with segLeft := l }
    have hz : z.bad = [] := hbad
    rw [show Ended (List.foldl _ { x with segLeft := l } (probeResults x d r miss v)) y = Ended (List.foldl _ z (probeResults z d r miss v)) y from rfl,
      foldl_probeResults] at hy
    have hS {n : BitVec 6} := getS_probeWrites hz d r miss v (n := n)
    have hP {n : BitVec 4} := getP_probeWrites hz d r miss v (n := n)
    have heq := probeWrites_eq hz d r miss v
    generalize probeWrites z d r miss v = w at hy hS hP heq
    have hr : r.toNat < 8 := r.isLt
    have hlow : (r.zeroExtend 4 * 2 : BitVec 4).toNat = 2 * r.toNat := by
      rw [BitVec.toNat_mul, BitVec.toNat_setWidth]
      show r.toNat % 16 * 2 % 16 = _
      omega
    have hhigh : (r.zeroExtend 4 * 2 + 1 : BitVec 4).toNat = 2 * r.toNat + 1 := by
      rw [BitVec.toNat_add, hlow]
      show (2 * r.toNat + 1) % 16 = _
      omega
    unfold Ended at hy
    refine ⟨by rw [hy, heq], ?_⟩
    rw [hy]
    refine ⟨fun n hn => ?_, fun n _ => ?_, fun n hn => ?_, fun n _ => ?_, fun n _ => ?_, fun n _ => ?_, fun l n _ => ?_, fun _ => ?_, fun _ => ?_, fun _ => ?_⟩
    · exact hS fun h => hn (List.mem_singleton.mpr h)
    · rw [heq]
      exact ⟨rfl, rfl⟩
    · refine hP (fun h => hn ?_) fun h => hn ?_
      · exact List.mem_cons.mpr (.inl (BitVec.eq_of_toNat_eq (h.trans hlow.symm)))
      · exact List.mem_cons.mpr (.inr (List.mem_singleton.mpr (BitVec.eq_of_toNat_eq (h.trans hhigh.symm))))
    · rw [heq]; rfl
    · rw [heq]; rfl
    · rw [heq]; rfl
    · rw [heq]; rfl
    all_goals rw [heq]

theorem probe_bundle {s t : State} {i : Instr} {body : State → Core → SlotOut} {d : BitVec 6} {r : BitVec 3} (h : Alone s)
    (hexec : exec i s = issueSlot i body s) (ht : exec i s = .next t)
    (hout : (body s (here s)).faults = [] → (body s (here s)).freezes = [] → walkPoisonOf (body s (here s)).effects = none →
      Probed (here s).ctx d r (body s (here s)).effects) : Stopped s t ∨
      (KeptState s t (fun y => { (here s).ctx with s := y.s, p := y.p }) (fun q => { (here s).pool with tagt := q.tagt, plru := q.plru })
        ∧ SameRegs (here s).ctx (t.core s.cur).ctx { s := [d], p := [r.zeroExtend 4 * 2, r.zeroExtend 4 * 2 + 1] } ∧ (t.core s.cur).run = (here s).run) := by
  rcases alone_ends (P := Probed (here s).ctx d r) h hexec ht (.inl rfl) hout (fun es hes => calm_probed hes) (by
      intro es hes o _
      obtain ⟨q, rs, ⟨-, hrest⟩, -, hd⟩ := apply_probed hes o
      unfold QueuesOnly at hrest
      rw [hd, hrest]
      exact ⟨rfl, rfl⟩) with hstopped | ⟨es, o, e, hes, ⟨x, l, g, rfl⟩, hends, rfl⟩
  · exact .inl hstopped
  · obtain ⟨q, rs, ⟨hpool, hrest⟩, hrs, hd⟩ := apply_probed hes { here s with iss := x, ctx := { (here s).ctx with segLeft := l }, seg := g }
    unfold QueuesOnly at hrest
    generalize es.foldl Core.apply _ = w at hends hd
    have hdue : ∀ r ∈ rs, r.1 = 1 := by
      obtain rfl | ⟨miss, v, rfl⟩ := hrs
      · exact fun _ h => nomatch h
      · simp [probeResults]
    have hwpipe : w.pipe = rs.map fun r => { left := r.1, write := r.2.1, flags := r.2.2 } := by
      rw [hd, hrest]
      show (here s).pipe ++ _ = _
      rw [h.pipe, List.nil_append]
    have hwland : w.land = [] := by rw [hd, hrest]; exact h.land
    have hwctx : w.ctx = { (here s).ctx with segLeft := l } := by rw [hd, hrest]
    have hwkept : w.ops = (here s).ops ∧ w.task = (here s).task ∧ w.run = (here s).run := by rw [hd, hrest]; exact ⟨rfl, rfl, rfl⟩
    have hwpool : w.pool = { (here s).pool with tagt := w.pool.tagt, plru := w.pool.plru } := by rw [hd]; exact hpool
    obtain ⟨hops, htask, hrun⟩ := hwkept
    have hctx := hends.ctx
    rw [fall_ctx hwland, hwpipe, hwctx] at hctx
    simp only [List.filter_map, List.foldl_map] at hctx
    rw [List.filter_eq_self.mpr fun r hr => by simp [hdue r hr]] at hctx
    obtain ⟨hy, hregs⟩ := probed_ctx h.healthy hrs hctx
    refine .inr ⟨⟨?_, ?_, ?_, ?_, ?_, ?_, ?_⟩, ?_, ?_⟩ <;> rw [core_setCore_same]
    · rw [hends.pipe]
      unfold Core.tickPipe
      dsimp only
      rw [hwpipe, List.filter_eq_nil_iff.mpr]
      · rfl
      · intro p hp
        obtain ⟨r, hr, rfl⟩ := List.mem_map.mp hp
        simp [hdue r hr]
    · rw [hends.land, fall_land_nil hwland]
    · rw [hends.ops, hops]
    · rw [hends.task, htask]
    · rw [hends.pool, hwpool]
    · exact hy
    · exact hregs
    · rw [hends.run, hrun]

end Sys2Proof.Proofs

/-! SUPPORT. The addresses of vector accesses in the words of the statements about them (08 R184). -/

namespace Sys2Proof.Proofs

open Sys2Proof Sys2Proof.Machine Sys2Proof.Laws Sys2Proof.Claims

section
variable (s : State) (a x : BitVec 4)

theorem vaddr_eq (i : Int) : vaddr (here s) a i = (((areg s a).toNat + i) % 2 ^ 48).toNat := rfl

theorem vwide_eq (i : BitVec 8) : vwide (here s) a i = ((areg s a).toNat + i.toNat * 512) % 2 ^ 48 := by
  rw [vwide, vaddr_eq]
  omega

theorem strided_eq : strided (here s) a x = stridedAt s a x := rfl

variable {s a x}

/-- Under an index tag that is accepted, lanes' indices are signed under INT32 and unsigned under UINT32. -/
theorem indexed_eq (h : (here s).ctx.getVTag x.toNat = 0 ∨ (here s).ctx.getVTag x.toNat = 1) : indexed (here s) a x = indexedAt s a x := by
  unfold indexed indexedAt
  refine List.map_congr_left fun j _ => ?_
  have hsigned := signedOf_toNat_self (w := 32) (by omega) (BitVec.ofNat 32 (elem 32 ((here s).ctx.getV x.toNat) j))
  rw [toNat_ofNat_elem] at hsigned
  rw [vaddr_eq]
  dsimp only
  rw [toNat_ofNat_elem]
  rcases h with h | h
  · rw [h, if_pos (show indexSigned 0 = true from rfl), if_pos rfl, hsigned]
  · rw [h, if_neg (show ¬ indexSigned 1 = true from Bool.false_ne_true), if_neg (by decide)]

theorem indexFault_none : indexFault (here s) x = [] ↔ (here s).ctx.getVTag x.toNat = 0 ∨ (here s).ctx.getVTag x.toNat = 1 := by
  rw [indexFault]
  split
  · next h => exact ⟨fun _ => h, fun _ => rfl⟩
  · next h => exact ⟨fun hnil => (nomatch hnil), fun h' => absurd h' h⟩

end

end Sys2Proof.Proofs

/-! SUPPORT. O54: each scratchpad access's slot, and the frame that its effects give. -/

namespace Sys2Proof.Proofs

open Sys2Proof Sys2Proof.Machine Sys2Proof.Laws Sys2Proof.Claims

section
variable {s t : State}

/-! ## Stores -/

/-- Stores, each within `stored`. -/
def StoresIn (stored : Nat → Prop) : Effect → Prop
  | .spStore off n _ psn => psn = 0 ∧ ∀ b, inBytes off n b → stored b
  | .spAdd off _ => ∀ b, inBytes off 8 b → stored b
  | _ => False

variable {stored : Nat → Prop} {es : List Effect}

theorem calm_stores (h : ∀ e ∈ es, StoresIn stored e) : Calm es ∧ gateStopsOf es = [] := by
  induction es with
  | nil => exact ⟨Calm.nil, rfl⟩
  | cons e es ih =>
    obtain ⟨hcalm, hgates⟩ := ih fun f hf => h f (List.mem_cons_of_mem _ hf)
    have he := h e (List.mem_cons_self ..)
    cases e
    case spStore => exact ⟨Calm.cons (calm_single ⟨rfl, rfl, rfl, rfl⟩ rfl rfl rfl) hcalm, hgates⟩
    case spAdd => exact ⟨Calm.cons (calm_single ⟨rfl, rfl, rfl, rfl⟩ rfl rfl rfl) hcalm, hgates⟩
    all_goals exact he.elim

theorem keepsSp_stores (h : ∀ e ∈ es, StoresIn stored e) (c : Core) : KeepsSp stored c (es.foldl Core.apply c) := by
  refine keepsSp_foldl es (fun e he c => ?_) c
  have hin := h e he
  cases e
  case spStore off n x psn =>
    obtain ⟨rfl, hsub⟩ := hin
    exact (keepsSp_spWrite c off n x false).mono hsub
  case spAdd off x => exact (keepsSp_spWrite c off 8 _ _).mono hin
  all_goals exact hin.elim

theorem keptSp_storesIn {i : Instr} {body : State → Core → SlotOut} (h : Alone s) (hexec : exec i s = issueSlot i body s) (ht : exec i s = .next t)
    (hout : (body s (here s)).faults = [] → ∀ e ∈ (body s (here s)).effects, StoresIn stored e) : Stopped s t ∨ KeptSp s t stored :=
  keptSp_of_stores h hexec ht fun hfaults =>
    ⟨(calm_stores (hout hfaults)).1, (calm_stores (hout hfaults)).2, fun o _ => keepsSp_stores (hout hfaults) o⟩

theorem storesIn_lanes (h : Alone s) (d : BitVec 6) (addrs : List Nat) :
    ∀ e ∈ (vlaneStore (here s) d addrs).effects, StoresIn (fun b => ∃ ea ∈ addrs, inBytes ea 4 b) e := by
  intro e he
  obtain ⟨j, hj, rfl⟩ := List.mem_mapIdx.mp he
  refine ⟨?_, fun b hb => ⟨_, List.getElem_mem hj, hb⟩⟩
  rw [badMask_healthy h.healthy, Nat.zero_shiftRight]

theorem keptSp_sts (h : Alone s) (d a i : BitVec 6) (ht : exec (.sts d a i) s = .next t) : Stopped s t ∨ KeptSp s t (inBytes (spAddr s a i) 8) :=
  keptSp_storesIn h rfl ht fun _ e he => by
    rw [List.mem_singleton.mp he]
    exact ⟨badMask_healthy h.healthy .., fun _ => id⟩

theorem keptSp_vst (h : Alone s) (d : BitVec 6) (a : BitVec 4) (i : BitVec 8) (ht : exec (.vst d a i) s = .next t) :
    Stopped s t ∨ KeptSp s t (inBytes (((areg s a).toNat + i.toNat * 512) % 2 ^ 48) 512) :=
  keptSp_storesIn h rfl ht fun _ e he => by
    rw [List.mem_singleton.mp he, vwide_eq]
    exact ⟨badMask_healthy h.healthy .., fun _ => id⟩

theorem keptSp_vsts (h : Alone s) (d : BitVec 6) (a x : BitVec 4) (ht : exec (.vsts d a x) s = .next t) :
    Stopped s t ∨ KeptSp s t fun b => ∃ ea ∈ stridedAt s a x, inBytes ea 4 b :=
  keptSp_storesIn h rfl ht fun _ => by
    rw [strided_eq]
    exact storesIn_lanes h d (stridedAt s a x)

theorem keptSp_vstx (h : Alone s) (d : BitVec 6) (a x : BitVec 4) (ht : exec (.vstx d a x) s = .next t) :
    Stopped s t ∨ KeptSp s t fun b => ∃ ea ∈ indexedAt s a x, inBytes ea 4 b :=
  keptSp_storesIn h rfl ht fun hfaults => by
    have htag := indexFault_none.mp (List.append_eq_nil_iff.mp hfaults).2
    dsimp only
    rw [indexed_eq htag]
    exact storesIn_lanes h d (indexedAt s a x)

theorem keptSp_badd (h : Alone s) (k : BitVec 3) (a : BitVec 4) (x : BitVec 6) (hsound : spSound s ((areg s a).toNat % 2 ^ 23) 8)
    (ht : exec (.badd k a 1 x) s = .next t) : Stopped s t ∨ KeptSp s t (inBytes ((areg s a).toNat % 2 ^ 23) 8) :=
  keptSp_storesIn h rfl ht fun _ e he => by
    have hpoison : spPoison (here s) (gaddr (here s) a % 2 ^ 23) 8 = [] := spPoison_sound hsound
    dsimp only at he
    rw [if_pos rfl, hpoison, ite_self] at he
    rw [List.mem_singleton.mp he]
    exact fun _ => id

/-! ## Loads -/

theorem frame_toV {i : Instr} {body : State → Core → SlotOut} (h : Alone s) (hexec : exec i s = issueSlot i body s) {lat : Nat} {d : BitVec 6} {v : VReg}
    {tag : Tag} (hlat : 1 < lat) (hout : (body s (here s)).faults = [] → (body s (here s)).effects = [.result lat (.v ((here s).ctx.physV d.toNat) v tag) 0]) :
    Frame s i { v := [d] } :=
  frame_of_result (r := .v ((here s).ctx.physV d.toNat) v tag) h hexec hlat ⟨d, List.mem_singleton_self d, rfl⟩ hout

/-- What a contribution holds unless its access is at fault. -/
theorem effects_of_sound {out : SlotOut} {es : List Effect}
    (h : (if !out.faults.isEmpty then out else { out with effects := es }).faults = []) :
    (if !out.faults.isEmpty then out else { out with effects := es }).effects = es := by
  by_cases hf : (!out.faults.isEmpty) = true
  · rw [if_pos hf] at h
    rw [h] at hf
    cases hf
  · rw [if_neg hf]

theorem frame_lds (h : Alone s) (d a i : BitVec 6) (hsound : spSound s (spAddr s a i) 8) : Frame s (.lds d a i) { s := [d] } := by
  refine frame_of_result (lat := 3) (r := .s ((here s).ctx.physS d.toNat) (BitVec.ofNat 64 ((here s).spRead (spAddr s a i) 8))) h rfl (by omega) ⟨d, List.mem_singleton_self d, rfl⟩ fun hfaults => ?_
  refine (effects_of_sound hfaults).trans ?_
  rw [show offsetAddr (here s) a i 8 = spAddr s a i from rfl, spPoison_sound hsound]

theorem frame_edld (h : Alone s) (d a i : BitVec 6) (hsound : ∀ eb : Nat, (eb : Int) = edldAddr s a i → spSound s eb 32) :
    Frame s (.edld d a i) { e := [d] } := by
  refine frame_of_result (lat := 3) (r := .e d.toNat (BitVec.ofNat 256 ((here s).spRead (max (descEa (here s) a i) 0).toNat 32))) h rfl (by omega) ⟨d, List.mem_singleton_self d, rfl⟩ fun hfaults => ?_
  dsimp only at hfaults ⊢
  generalize hfs : _ ++ rangeFault _ _ _ = fs at hfaults ⊢
  cases fs with
  | cons f fs =>
    rw [if_pos (show (!(f :: fs).isEmpty) = true from rfl)] at hfaults
    cases hfaults
  | nil =>
    have hrange := (List.append_eq_nil_iff.mp hfs).2
    have hlow : 0 ≤ descEa (here s) a i := by
      unfold rangeFault at hrange
      split at hrange
      · next hin => exact hin.1
      · split at hrange <;> cases hrange
    have hlo : (max (descEa (here s) a i) 0).toNat = (descEa (here s) a i).toNat := by omega
    have hpoison := spPoison_sound (hsound (descEa (here s) a i).toNat (Int.toNat_of_nonneg hlow))
    rw [if_neg (by simp), hlo, hpoison]

theorem frame_vld (h : Alone s) {i : Instr} {d : BitVec 6} {a : BitVec 4} {i8 : BitVec 8} {tag : Tag} (hexec : exec i s = issueSlot i (vld d a i8 tag) s)
    (hsound : spSound s (((areg s a).toNat + i8.toNat * 512) % 2 ^ 48) 512) : Frame s i { v := [d] } := by
  refine frame_toV (v := BitVec.ofNat 4096 ((here s).spRead (vwide (here s) a i8) 512)) (tag := tag) h hexec (lat := 4) (by omega) fun hfaults => ?_
  refine (effects_of_sound hfaults).trans ?_
  rw [vwide_eq, spPoison_sound hsound]
  rfl

theorem frame_vldForms (h : Alone s) (d : BitVec 6) (a : BitVec 4) (i : BitVec 8) (hsound : spSound s (((areg s a).toNat + i.toNat * 512) % 2 ^ 48) 512) :
    ∀ j ∈ vldForms d a i, Frame s j.1 { v := [d] } := by
  simp only [vldForms, List.forall_mem_cons, List.not_mem_nil, false_imp_iff, implies_true, and_true]
  exact ⟨frame_vld h rfl hsound, frame_vld h rfl hsound, frame_vld h rfl hsound, frame_vld h rfl hsound, frame_vld h rfl hsound, frame_vld h rfl hsound,
    frame_vld h rfl hsound, frame_vld h rfl hsound, frame_vld h rfl hsound, frame_vld h rfl hsound, frame_vld h rfl hsound, frame_vld h rfl hsound⟩

theorem lanesPoison_sound {addrs : List Nat} (h : lanesSound s addrs) : addrs.flatMap (fun a => spPoison (here s) a 4) = [] :=
  List.flatMap_eq_nil_iff.mpr fun a ha => spPoison_sound (h a ha)

/-- A lane-granular load whose lanes are sound, and at no fault, has its result alone as an effect. -/
theorem vlaneLoad_effects {addrs : List Nat} (h : lanesSound s addrs) {lat : Nat} {d : BitVec 6} {tag : Tag}
    (hfaults : (vlaneLoad (here s) lat d tag addrs).faults = []) :
    (vlaneLoad (here s) lat d tag addrs).effects = [.result lat (.v ((here s).ctx.physV d.toNat) (lanesAt s addrs) tag) 0] := by
  refine (effects_of_sound hfaults).trans ?_
  rw [lanesPoison_sound h]
  rfl

theorem frame_vlds (h : Alone s) (d : BitVec 6) (a x f : BitVec 4) (hsound : lanesSound s (stridedAt s a x)) : Frame s (.vlds d a x f) { v := [d] } :=
  frame_toV h rfl (lat := 8) (by omega) fun hfaults => vlaneLoad_effects hsound hfaults

theorem frame_vldx (h : Alone s) (d : BitVec 6) (a x f : BitVec 4) (hsound : lanesSound s (indexedAt s a x)) : Frame s (.vldx d a x f) { v := [d] } :=
  frame_toV h rfl (lat := 8) (v := lanesAt s (indexedAt s a x)) (by omega) fun hfaults => by
    obtain ⟨hlanes, htag⟩ := List.append_eq_nil_iff.mp hfaults
    have hx := indexed_eq (a := a) (indexFault_none.mp htag)
    rw [hx] at hlanes
    dsimp only
    rw [hx]
    exact vlaneLoad_effects hsound hlanes

theorem frame_vldb (h : Alone s) (d : BitVec 6) (a x f : BitVec 4)
    (hsound : spSound s (((areg s a).toNat + ((here s).ctx.getS x.toNat).toInt) % 2 ^ 48).toNat 4) : Frame s (.vldb d a x f) { v := [d] } :=
  frame_toV h rfl (lat := 4) (by omega) fun hfaults => by
    refine (effects_of_sound hfaults).trans ?_
    rw [vaddr_eq, spPoison_sound hsound]
    rfl

/-! ## The software cache -/

theorem walkPoisonOf_left {es fs : List Effect} (h : walkPoisonOf (es ++ fs) = none) : walkPoisonOf es = none := by
  unfold walkPoisonOf at h ⊢
  rw [List.findSome?_append, Option.or_eq_none_iff] at h
  exact h.1

theorem probed_body {d : BitVec 6} {r : BitVec 3} {a : BitVec 4} {inv : Bool} (hfaults : (probe r d a inv s (here s)).faults = [])
    (hfreezes : (probe r d a inv s (here s)).freezes = []) (hwalk : walkPoisonOf (probe r d a inv s (here s)).effects = none) :
    Probed (here s).ctx d r (probe r d a inv s (here s)).effects := by
  have hok : (translated s s.cur .read (blockAddr (here s) a)).2.faults = [] → (translated s s.cur .read (blockAddr (here s) a)).2.freezes = [] →
      walkPoisonOf (translated s s.cur .read (blockAddr (here s) a)).2.effects = none →
      ∃ p, translated s s.cur .read (blockAddr (here s) a) = (some p, {}) := translated_ok
  unfold probe at hfaults hfreezes hwalk ⊢
  dsimp only at hfaults hfreezes hwalk ⊢
  cases hfind : (here s).findBlock (blockAddr (here s) a) with
  | some w =>
    rw [hfind] at hfaults hfreezes hwalk
    obtain ⟨p, hp⟩ := hok hfaults hfreezes (walkPoisonOf_left hwalk)
    dsimp only
    rw [hp]
    exact .inr ⟨[_], false, _, .inr ⟨_, _, _, _, _, rfl⟩, rfl⟩
  | none =>
    rw [hfind] at hfaults hfreezes hwalk
    dsimp only at hfaults hfreezes hwalk ⊢
    cases hvictim : (here s).victim (blockSet (blockAddr (here s) a)) with
    | none =>
      rw [hvictim] at hfaults hfreezes hwalk
      obtain ⟨p, hp⟩ := hok hfaults hfreezes (walkPoisonOf_left hwalk)
      dsimp only
      rw [hp]
      exact .inr ⟨[], true, _, .inl rfl, rfl⟩
    | some w =>
      rw [hvictim] at hfaults hfreezes hwalk
      obtain ⟨p, hp⟩ := hok hfaults (List.append_eq_nil_iff.mp hfreezes).1 (walkPoisonOf_left hwalk)
      dsimp only
      rw [hp]
      exact .inr ⟨[_], true, _, .inr ⟨_, _, _, _, _, rfl⟩, rfl⟩

/-- A block instruction's effect, if it has one, where its translation succeeds. -/
theorem blockOp_effects {a : BitVec 4} {e : Nat → Nat → Effect} (hfaults : (blockOp a e s (here s)).faults = [])
    (hfreezes : (blockOp a e s (here s)).freezes = []) (hwalk : walkPoisonOf (blockOp a e s (here s)).effects = none) :
    (blockOp a e s (here s)).effects = [] ∨ ∃ set way, (blockOp a e s (here s)).effects = [e set way] := by
  unfold blockOp at hfaults hfreezes hwalk ⊢
  dsimp only at hfaults hfreezes hwalk ⊢
  cases hfind : (here s).findBlock (blockAddr (here s) a) with
  | some w =>
    rw [hfind] at hfaults hfreezes hwalk
    obtain ⟨p, hp⟩ := translated_ok hfaults hfreezes (walkPoisonOf_left hwalk)
    dsimp only
    rw [hp]
    exact .inr ⟨_, _, rfl⟩
  | none =>
    rw [hfind] at hfaults hfreezes hwalk
    obtain ⟨p, hp⟩ := translated_ok hfaults hfreezes hwalk
    dsimp only
    rw [hp]
    exact .inl rfl

theorem queuesOnly_of_tagsAlone {c d : Core} (h : TagsAlone c d) : QueuesOnly c d := by
  unfold QueuesOnly
  rw [h.eq]

theorem frameOf_blockOp {i : Instr} {a : BitVec 4} {e : Nat → Nat → Effect} (h : Alone s) (hexec : exec i s = issueSlot i (blockOp a e) s)
    (hcalm : ∀ set way, Calm [e set way] ∧ gateStopsOf [e set way] = []) (hact : ∀ set way c, TagsAlone c (c.apply (e set way))) :
    FrameOf s i (fun _ => (here s).ctx) (fun q => { (here s).pool with tagt := q.tagt }) := by
  intro t ht
  rcases queues_bundle (Q := TagsAlone) (fun _ _ => queuesOnly_of_tagsAlone) (fun c => ⟨rfl⟩) h hexec ht (fun hfaults hfreezes hwalk => by
    rcases blockOp_effects hfaults hfreezes hwalk with hnone | ⟨set, way, hone⟩
    · rw [hnone]
      exact ⟨Calm.nil, rfl, fun o _ => ⟨rfl⟩⟩
    · rw [hone]
      exact ⟨(hcalm set way).1, (hcalm set way).2, fun o _ => hact set way o⟩) with hstopped | ⟨o, d, e, ho, hd, hends, rfl, hpipe, hland, l, hctx⟩
  · exact .inl hstopped
  · have hpool : d.pool = { (here s).pool with tagt := d.pool.tagt } := by
      obtain ⟨x, l', g', rfl⟩ := ho
      rw [hd.eq]
    obtain ⟨hkept, hrun⟩ := keptState_of (g := fun q => { (here s).pool with tagt := q.tagt }) ho (queuesOnly_of_tagsAlone hd) hends hpipe hland hctx hpool
    obtain ⟨x, l', g', rfl⟩ := ho
    have heq := hd.eq
    refine .inr ⟨hkept, ?_, ?_, ?_, hrun⟩ <;> rw [core_setCore_same]
    · rw [hends.sb, heq]
    · rw [hends.mq, heq]
    · rw [hends.launches, heq]

/-- A PWB's effect, if it has one. -/
theorem pwb_effects {way : Option Nat} {at_ : Option PAddr} {set : Nat} {out : SlotOut} {fr : List (Freeze × BitVec 64)}
    {pwb : SlotOut} (hpwb : pwb = match way, at_ with
      | some w, some home => { out with effects := [.pwb set w home], freezes := fr }
      | _, _ => out) (hout : out.faults = [] → out.freezes = [] → walkPoisonOf out.effects = none → out.effects = [])
    (hfaults : pwb.faults = []) (hfreezes : pwb.freezes = []) (hwalk : walkPoisonOf pwb.effects = none) :
    pwb.effects = [] ∨ ∃ w home, pwb.effects = [.pwb set w home] := by
  subst hpwb
  cases way <;> cases at_
  case some.some => exact .inr ⟨_, _, rfl⟩
  all_goals exact .inl (hout hfaults hfreezes hwalk)

theorem pwb_acts {es : List Effect} {set : Nat} (h : es = [] ∨ ∃ w home, es = [.pwb set w home]) :
    Calm es ∧ gateStopsOf es = [] ∧ ∀ o, TagsOnly o (es.foldl Core.apply o) := by
  obtain rfl | ⟨w, home, rfl⟩ := h
  · exact ⟨Calm.nil, rfl, fun o => .refl o⟩
  · exact ⟨calm_single ⟨rfl, rfl, rfl, rfl⟩ rfl rfl rfl, rfl, fun o => (tagsOnly_closeBlock o home).trans (tagsOnly_applyPwb _ _ w home)⟩

theorem translated_effects {want : Want} {va : Nat} (hfaults : (translated s s.cur want va).2.faults = [])
    (hfreezes : (translated s s.cur want va).2.freezes = []) (hwalk : walkPoisonOf (translated s s.cur want va).2.effects = none) :
    (translated s s.cur want va).2.effects = [] := by
  obtain ⟨p, hp⟩ := translated_ok hfaults hfreezes hwalk
  rw [hp]

theorem frame_pwb (h : Alone s) (a : BitVec 4) (ht : exec (.pwb a) s = .next t) : Stopped s t ∨
    KeptState s t (fun _ => (here s).ctx) (fun q => { (here s).pool with tagt := q.tagt }) ∧ (t.core s.cur).run = (here s).run := by
  rcases queues_bundle (Q := TagsOnly) (fun _ _ h => h.rest) TagsOnly.refl h rfl ht (fun hfaults hfreezes hwalk => by
    obtain ⟨hcalm, hgates, hacts⟩ := pwb_acts (pwb_effects rfl translated_effects hfaults hfreezes hwalk)
    exact ⟨hcalm, hgates, fun o _ => hacts o⟩) with hstopped | ⟨o, d, e, ho, hd, hends, rfl, hpipe, hland, l, hctx⟩
  · exact .inl hstopped
  · have hpool : d.pool = { (here s).pool with tagt := d.pool.tagt } := by
      obtain ⟨x, l', g', rfl⟩ := ho
      exact hd.pool
    exact .inr (keptState_of (g := fun q => { (here s).pool with tagt := q.tagt }) ho hd.rest hends hpipe hland hctx hpool)

/-! ## A beacon in global memory -/

/-- Only the memory port and the segment have changed. -/
def PortOnly (c d : Core) : Prop := d = { c with nid := d.nid, mq := d.mq, seg := d.seg }

theorem PortOnly.refl (c : Core) : PortOnly c c := rfl

theorem PortOnly.trans {c d e : Core} (h : PortOnly c d) (h' : PortOnly d e) : PortOnly c e := by
  unfold PortOnly at *
  rw [h', h]

theorem PortOnly.queues {c d : Core} (h : PortOnly c d) : QueuesOnly c d := by
  unfold PortOnly at h
  unfold QueuesOnly
  rw [h]

theorem portOnly_resumeAtomic (c : Core) (op : AtomOp) (sz : BitVec 3) (x2 : BitVec 64) (sent : Nat × Option Nat) :
    PortOnly c (c.resumeAtomic (.atomic op sz x2 none) sent) := by
  unfold Core.resumeAtomic
  cases sent.2 <;> rfl

theorem portOnly_pushReq (c : Core) (op : AtomOp) (sz : BitVec 3) (x2 : BitVec 64) (cls : Nat) (p : Piece) (data : Nat) (scope : BitVec 3) (ord : BitVec 2) :
    PortOnly c (c.pushReq (.atomic op sz x2 none) cls p data scope ord) := by
  unfold Core.pushReq
  dsimp only
  split
  · exact rfl
  · split
    · split
      · exact PortOnly.trans (d := c.closeLine p _ scope ord) rfl (portOnly_resumeAtomic ..)
      · exact rfl
    · exact rfl

theorem portOnly_mq (c : Core) (mq : List MemReq) : PortOnly c { c with mq := mq } := rfl

theorem portOnly_pushAtomic (c : Core) (op : AtomOp) (sz : BitVec 3) (p : Piece) (data : Nat) (scope : BitVec 3) :
    PortOnly c (c.pushAtomic op sz p data scope) := by
  have hpush := portOnly_pushReq c op sz 0 4 p data scope 0
  unfold Core.pushAtomic
  dsimp only
  split
  · exact rfl
  · split
    · exact hpush
    · exact hpush.trans (portOnly_mq _ _)

/-- What a beacon's add in global memory does: nothing, or an atomic for each place. -/
def AddsOnly : Effect → Prop
  | .atomic _ _ _ _ _ none _ ord => ord = 0
  | .walkPoison _ => True
  | .gateStop _ => True
  | _ => False

/-- The effects of an access's translation. -/
theorem addsOnly_translated (s : State) (c : BitVec 8) (want : Want) (va : Nat) : ∀ e ∈ (translated s c want va).2.effects, AddsOnly e := by
  unfold translated
  split <;> simp [AddsOnly]

theorem addsOnly_translatePieces (s : State) (want : Want) (base : Nat) (l : List (Nat × Nat)) :
    ∀ e ∈ (translatePieces s want base l).2.effects, AddsOnly e := by
  induction l with
  | nil => exact fun _ h => nomatch h
  | cons x rest ih =>
    have hx := addsOnly_translated s s.cur want x.1
    unfold translatePieces
    dsimp only
    split
    · exact ih
    · next out hout =>
      rw [hout] at hx
      exact hx

theorem addsOnly_gaccess (s : State) (want : Want) (align ea va n : Nat) : ∀ e ∈ (gaccess s want align ea va n).2.effects, AddsOnly e := by
  unfold gaccess
  split
  · exact fun _ h => nomatch h
  · exact addsOnly_translatePieces s want va _

theorem addsOnly_enqueues {e : Effect} (h : AddsOnly e) : Enqueues e := by
  cases e
  case atomic => trivial
  case walkPoison => trivial
  case gateStop => trivial
  all_goals exact h.elim

theorem portOnly_adds {es : List Effect} (h : ∀ e ∈ es, AddsOnly e) (c : Core) : PortOnly c (es.foldl Core.apply c) := by
  induction es generalizing c with
  | nil => exact .refl c
  | cons e es ih =>
    refine PortOnly.trans ?_ (ih (fun f hf => h f (List.mem_cons_of_mem _ hf)) _)
    have he := h e (List.mem_cons_self ..)
    cases e
    case atomic op sz p data x2 dest scope ord =>
      cases dest with
      | some d => exact he.elim
      | none =>
        show PortOnly c (if ord = 0 then c.pushAtomic op sz p data scope else _)
        rw [if_pos (show ord = 0 from he)]
        exact portOnly_pushAtomic ..
    case walkPoison => exact .refl c
    case gateStop => exact .refl c
    all_goals exact he.elim

theorem frame_badd (h : Alone s) (k : BitVec 3) (a : BitVec 4) (x : BitVec 6) (ht : exec (.badd k a 0 x) s = .next t) : Stopped s t ∨
    KeptState s t (fun _ => (here s).ctx) (fun _ => (here s).pool) ∧ (t.core s.cur).sb = (here s).sb ∧ (t.core s.cur).run = (here s).run := by
  have hhome := home_gaccess s .write 8 (gaddr (here s) a) (gaddr (here s) a) 8
  have hacc := addsOnly_gaccess s .write 8 (gaddr (here s) a) (gaddr (here s) a) 8
  rcases queues_bundle (Q := PortOnly) (fun _ _ => PortOnly.queues) PortOnly.refl h rfl ht (fun hfaults _ _ => by
    dsimp only at hfaults ⊢
    rw [if_neg (by decide)] at hfaults ⊢
    have hadds : ∀ e ∈ (gaccess s .write 8 (gaddr (here s) a) (gaddr (here s) a) 8).2.effects ++
        (gaccess s .write 8 (gaddr (here s) a) (gaddr (here s) a) 8).1.map fun q =>
          Effect.atomic .add 3 q ((here s).ctx.getS x.toNat).toNat 0 none k 0, AddsOnly e := by
      intro e he
      rcases List.mem_append.mp he with he | he
      · exact hacc e he
      · obtain ⟨q, -, rfl⟩ := List.mem_map.mp he
        exact rfl
    refine ⟨enqueues_calm fun e he => addsOnly_enqueues (hadds e he), ?_, fun o _ => portOnly_adds hadds o⟩
    rw [gateStopsOf_append, hhome.gates hfaults, List.nil_append, gateStopsOf, List.filterMap_map]
    exact List.filterMap_eq_nil_iff.mpr fun _ _ => rfl) with hstopped | ⟨o, d, e, ho, hd, hends, rfl, hpipe, hland, l, hctx⟩
  · exact .inl hstopped
  · have heq : d = { o with nid := d.nid, mq := d.mq, seg := d.seg } := hd
    have hkept := keptState_of (g := fun _ => (here s).pool) ho hd.queues hends hpipe hland hctx (by
      obtain ⟨y, l', g', rfl⟩ := ho
      rw [heq])
    refine .inr ⟨hkept.1, ?_, hkept.2⟩
    obtain ⟨y, l', g', rfl⟩ := ho
    rw [core_setCore_same, hends.sb, heq]

end

/-- Settles O54: a store changes the bytes it names, a load its register, a cache slot its tag and its results, a global beacon the memory port. -/
theorem scratchpadFrames : Obligations.ScratchpadFrames := fun s d a i ar x f i8 h =>
  ⟨fun _ => keptSp_sts h d a i, fun _ => keptSp_vst h d ar i8, fun _ => keptSp_vsts h d ar x, fun _ => keptSp_vstx h d ar x, frame_vldx h d ar x f,
    frame_lds h d a i, frame_edld h d a i, frame_vldForms h d ar i8, frame_vlds h d ar x f, frame_vldb h d ar x f, fun r k t6 n =>
      ⟨by
        simp only [List.forall_mem_cons, List.not_mem_nil, false_imp_iff, implies_true, and_true]
        exact ⟨fun t ht => probe_bundle h rfl ht probed_body, fun t ht => probe_bundle h rfl ht probed_body⟩,
        fun _ => frame_pwb h ar,
        frameOf_blockOp h rfl (fun _ _ => ⟨calm_single ⟨rfl, rfl, rfl, rfl⟩ rfl rfl rfl, rfl⟩) fun set way c => tagsAlone_applyPinv c set way,
        frameOf_blockOp h rfl (fun _ _ => ⟨calm_single ⟨rfl, rfl, rfl, rfl⟩ rfl rfl rfl, rfl⟩) fun set way c => tagsAlone_applyPpin c set way _,
        fun hsound _ => keptSp_badd h k ar t6 hsound, fun _ => frame_badd h k ar t6⟩⟩

end Sys2Proof.Proofs

/-! SUPPORT. Vector access to the scratchpad: lanes that are free to access raise no fault and no freeze, and of a bundle's stores to one byte the last
stands (08 R184, R185). -/

namespace Sys2Proof.Proofs

open Sys2Proof Sys2Proof.Machine Sys2Proof.Laws Sys2Proof.Claims

section
variable {s : State} {d : BitVec 6} {a x f : BitVec 4}

/-! ## Whole registers -/

theorem does_vld {i : Instr} {i8 : BitVec 8} {tag : Tag} (hexec : exec i s = issueSlot i (vld d a i8 tag) s)
    (hfree : spFree s 64 (((areg s a).toNat + i8.toNat * 512) % 2 ^ 48) 512) (hsound : spSound s (((areg s a).toNat + i8.toNat * 512) % 2 ^ 48) 512) :
    Does s i [toV s 4 d (BitVec.ofNat 4096 (readBytes (here s).pool.sp (((areg s a).toNat + i8.toNat * 512) % 2 ^ 48) 512)) tag] := by
  refine does_of_access hexec ?_ (banks_free hfree) ⟨rfl, rfl, rfl, rfl⟩
  unfold vld
  dsimp only
  rw [vwide_eq, spAccess_free hfree, spPoison_sound hsound]
  rfl

theorem does_vst {i8 : BitVec 8} (hfree : spFree s 64 (((areg s a).toNat + i8.toNat * 512) % 2 ^ 48) 512) :
    Does s (.vst d a i8) [.spStore (((areg s a).toNat + i8.toNat * 512) % 2 ^ 48) 512 (vreg s d).toNat 0] := fun hready => by
  refine does_of_access rfl ?_ (banks_free hfree) ⟨rfl, rfl, rfl, rfl⟩ hready
  dsimp only
  rw [vwide_eq, spAccess_free hfree, badMask_healthy hready.quiet.healthy]

/-! ## Lanes -/

theorem vlaneAccess_free {addrs : List Nat} (h : lanesFree s addrs) :
    vlaneAccess (here s) addrs = { banks := (addrs.flatMap fun a => banksOf (here s).ctx.pw a 4).dedup } := by
  have hsb : addrs.flatMap (fun a => (here s).sbOverlap a 4) = [] := List.flatMap_eq_nil_iff.mpr fun a ha => sbOverlap_free (h a ha)
  have halign : addrs.filter (fun a => decide (a % 4 ≠ 0)) = [] := List.filter_eq_nil_iff.mpr fun a ha => by simp [(h a ha).1]
  have hinside : addrs.filter (fun a => (spOutside (here s).ctx.pw a 4).isSome) = [] := List.filter_eq_nil_iff.mpr fun a ha => by
    rw [spOutside, if_pos (h a ha).2.1]
    exact Bool.false_ne_true
  unfold vlaneAccess
  dsimp only
  rw [hsb, halign, hinside]
  rfl

theorem laneBanks_free {addrs : List Nat} (h : lanesFree s addrs) : ∀ b ∈ (addrs.flatMap fun a => banksOf (here s).ctx.pw a 4).dedup, b ∉ (here s).iss.banks := by
  intro b hb
  obtain ⟨a, ha, hab⟩ := List.mem_flatMap.mp (List.mem_dedup.mp hb)
  exact banks_free (h a ha) b hab

theorem vlaneLoad_free {addrs : List Nat} (h : lanesFree s addrs) (hsound : lanesSound s addrs) (lat : Nat) (d : BitVec 6) (tag : Tag) :
    vlaneLoad (here s) lat d tag addrs =
      { effects := [toV s lat d (lanesAt s addrs) tag], banks := (addrs.flatMap fun a => banksOf (here s).ctx.pw a 4).dedup } := by
  unfold vlaneLoad
  dsimp only
  rw [vlaneAccess_free h, lanesPoison_sound hsound]
  rfl

theorem vlaneStore_free {addrs : List Nat} (h : lanesFree s addrs) (hbad : (here s).ctx.bad = []) (d : BitVec 6) :
    vlaneStore (here s) d addrs = { effects := laneStores s d addrs, banks := (addrs.flatMap fun a => banksOf (here s).ctx.pw a 4).dedup } := by
  unfold vlaneStore
  dsimp only
  rw [vlaneAccess_free h, badMask_healthy hbad]
  simp only [Nat.zero_shiftRight]
  rfl

theorem clean_result (lat : Nat) (r : RegWrite) (f : FFlags) : Clean [.result lat r f] := ⟨rfl, rfl, rfl, rfl⟩

theorem clean_all {es : List Effect} (h : ∀ e ∈ es, Clean [e]) : Clean es := by
  induction es with
  | nil => exact ⟨rfl, rfl, rfl, rfl⟩
  | cons e es ih => exact Clean.append (h e (List.mem_cons_self ..)) (ih fun f hf => h f (List.mem_cons_of_mem _ hf))

theorem clean_stores (addrs : List Nat) : Clean (laneStores s d addrs) := clean_all fun e he => by
  obtain ⟨j, hj, rfl⟩ := List.mem_mapIdx.mp he
  exact ⟨rfl, rfl, rfl, rfl⟩

theorem does_lanes {i : Instr} {body : State → Core → SlotOut} {addrs : List Nat} {es : List Effect} (hexec : exec i s = issueSlot i body s)
    (hfree : lanesFree s addrs) (hclean : Clean es)
    (hbody : body s (here s) = { effects := es, banks := (addrs.flatMap fun a => banksOf (here s).ctx.pw a 4).dedup }) : Does s i es :=
  does_of_access hexec hbody (laneBanks_free hfree) hclean

theorem does_vlds (hfree : lanesFree s (stridedAt s a x)) (hsound : lanesSound s (stridedAt s a x)) :
    Does s (.vlds d a x f) [toV s 8 d (lanesAt s (stridedAt s a x)) f] :=
  does_lanes rfl hfree ⟨rfl, rfl, rfl, rfl⟩ (vlaneLoad_free hfree hsound 8 d f)

theorem does_vsts (hfree : lanesFree s (stridedAt s a x)) : Does s (.vsts d a x) (laneStores s d (stridedAt s a x)) := fun hready =>
  does_lanes rfl hfree (clean_stores _) (vlaneStore_free hfree hready.quiet.healthy d) hready

section
variable (htag : (here s).ctx.getVTag x.toNat = 0 ∨ (here s).ctx.getVTag x.toNat = 1)
include htag

theorem does_vldx (hfree : lanesFree s (indexedAt s a x)) (hsound : lanesSound s (indexedAt s a x)) :
    Does s (.vldx d a x f) [toV s 8 d (lanesAt s (indexedAt s a x)) f] := by
  refine does_lanes rfl hfree ⟨rfl, rfl, rfl, rfl⟩ ?_
  dsimp only
  rw [indexed_eq htag, indexFault_none.mpr htag, vlaneLoad_free hfree hsound]
  rfl

theorem does_vstx (hfree : lanesFree s (indexedAt s a x)) : Does s (.vstx d a x) (laneStores s d (indexedAt s a x)) := fun hready => by
  refine does_lanes rfl hfree (clean_stores _) ?_ hready
  dsimp only
  rw [indexed_eq htag, indexFault_none.mpr htag, vlaneStore_free hfree hready.quiet.healthy, List.append_nil]

end

theorem does_vldb {ea : Nat} (hea : ea = (((areg s a).toNat + ((here s).ctx.getS x.toNat).toInt) % 2 ^ 48).toNat) (hfree : spFree s 4 ea 4)
    (hsound : spSound s ea 4) : Does s (.vldb d a x f) [toV s 4 d (ofElems 32 (List.replicate 128 (readBytes (here s).pool.sp ea 4))) f] := by
  have hfree' : lanesFree s [ea] := fun b hb => by rw [List.mem_singleton.mp hb]; exact hfree
  have hexec : exec (.vldb d a x f) s = issueSlot (.vldb d a x f) _ s := rfl
  generalize hv : ofElems 32 (List.replicate 128 (readBytes (here s).pool.sp ea 4)) = v
  refine does_lanes hexec hfree' (clean_result ..) ?_
  dsimp only
  rw [vaddr_eq, ← hea, vlaneAccess_free hfree', spPoison_sound hsound, ← hv]
  rfl

/-! ## Several stores to one byte -/

/-- The stores of a bundle, each with its address, its size and its data. -/
def stores (l : List (Nat × Nat × Nat)) : List Effect := l.map fun q => .spStore q.1 q.2.1 q.2.2 0

/-- The byte at `b` after the stores: of the last that reaches it. -/
def storedByte (l : List (Nat × Nat × Nat)) (b : Nat) (old : BitVec 8) : BitVec 8 :=
  match l.reverse.find? fun q => decide (q.1 ≤ b) && decide (b < q.1 + q.2.1) with
  | some q => BitVec.ofNat 8 (q.2.2 / 256 ^ (b - q.1))
  | none => old

theorem storedByte_append (l : List (Nat × Nat × Nat)) (q : Nat × Nat × Nat) (b : Nat) (old : BitVec 8) : storedByte (l ++ [q]) b old =
    if q.1 ≤ b ∧ b < q.1 + q.2.1 then BitVec.ofNat 8 (q.2.2 / 256 ^ (b - q.1)) else storedByte l b old := by
  unfold storedByte
  rw [List.reverse_append, List.reverse_singleton, List.singleton_append, List.find?_cons]
  by_cases h : q.1 ≤ b ∧ b < q.1 + q.2.1
  · rw [if_pos h, show (decide (q.1 ≤ b) && decide (b < q.1 + q.2.1)) = true by simp [h]]
  · rw [if_neg h, show (decide (q.1 ≤ b) && decide (b < q.1 + q.2.1)) = false by simpa using h]

end

end Sys2Proof.Proofs

/-! SUPPORT. Registers made of elements: an element that is written is read back modulo 2^w (04 R82, 08 R167). -/

namespace Sys2Proof.Proofs

open Sys2Proof Sys2Proof.Machine Sys2Proof.Laws Sys2Proof.Claims

/-! ## Registers from elements -/

/-- The elements side by side, the first lowest. -/
def packed (w : Nat) (l : List Nat) : Nat := l.foldr (fun x acc => x % 2 ^ w + acc <<< w) 0

theorem ofElems_eq_packed (w : Nat) (l : List Nat) : ofElems w l = BitVec.ofNat 4096 (packed w l) := rfl

/-- A register looks at its elements modulo 2^w. -/
theorem ofElems_congr {w : Nat} {l l' : List Nat} (h : l.map (· % 2 ^ w) = l'.map (· % 2 ^ w)) : ofElems w l = ofElems w l' := by
  have hfold (l : List Nat) : packed w l = (l.map (· % 2 ^ w)).foldr (fun x acc => x + acc <<< w) 0 := by
    rw [List.foldr_map]
    rfl
  rw [ofElems_eq_packed, ofElems_eq_packed, hfold, hfold, h]

theorem packed_shift (w : Nat) (l : List Nat) (k : Nat) : packed w l >>> (w * k) = packed w (l.drop k) := by
  induction k generalizing l with
  | zero => rfl
  | succ k ih =>
    cases l with
    | nil => simp [packed]
    | cons x l =>
      rw [List.drop_succ_cons, ← ih l, Nat.mul_succ, Nat.add_comm, Nat.shiftRight_add]
      congr 1
      show (x % 2 ^ w + packed w l <<< w) >>> w = packed w l
      rw [Nat.shiftLeft_eq, Nat.shiftRight_eq_div_pow, Nat.add_mul_div_right _ _ (Nat.two_pow_pos w), Nat.div_eq_of_lt (Nat.mod_lt _ (Nat.two_pow_pos w)),
        Nat.zero_add]

theorem packed_mod (w : Nat) (l : List Nat) : packed w l % 2 ^ w = l.headD 0 % 2 ^ w := by
  cases l with
  | nil => rfl
  | cons x l =>
    show (x % 2 ^ w + packed w l <<< w) % 2 ^ w = x % 2 ^ w
    rw [Nat.shiftLeft_eq, Nat.add_mul_mod_self_right, Nat.mod_mod]

theorem packed_elem {n w k : Nat} (h : w * (k + 1) ≤ n) (l : List Nat) :
    (BitVec.ofNat n (packed w l)).toNat >>> (w * k) % 2 ^ w = l.getD k 0 % 2 ^ w := by
  have hdvd : 2 ^ (w * k) * 2 ^ w ∣ 2 ^ n := by
    rw [← pow_add]
    exact pow_dvd_pow 2 (by rw [Nat.mul_succ] at h; exact h)
  have hdiv (x : Nat) : (x % 2 ^ n) >>> (w * k) % 2 ^ w = x >>> (w * k) % 2 ^ w := by
    rw [Nat.shiftRight_eq_div_pow, Nat.shiftRight_eq_div_pow, ← Nat.mod_mul_right_div_self, ← Nat.mod_mul_right_div_self, Nat.mod_mod_of_dvd _ hdvd]
  rw [BitVec.toNat_ofNat, hdiv, packed_shift, packed_mod, List.headD_eq_head?_getD, List.head?_drop, List.getD_eq_getElem?_getD]

/-- An element that fits in the register is the one written, modulo 2^w. -/
theorem elem_ofElems {w k : Nat} (h : w * (k + 1) ≤ 4096) (l : List Nat) : elem w (ofElems w l) k = l.getD k 0 % 2 ^ w := packed_elem h l

/-- A register of as many elements as it holds has them, modulo 2^w. -/
theorem elems_ofElems {w : Nat} {l : List Nat} (h : l.length = 4096 / w) : elems w (ofElems w l) = l.map (· % 2 ^ w) := by
  refine List.ext_getElem (by simp [elems, h]) fun k hk hk' => ?_
  have hlt : k < l.length := by simpa using hk'
  have hfits : w * (k + 1) ≤ 4096 := (Nat.mul_le_mul_left w (show k + 1 ≤ 4096 / w by omega)).trans (Nat.mul_div_le 4096 w)
  simp only [elems, List.getElem_map, List.getElem_range]
  rw [elem_ofElems hfits, List.getD_eq_getElem _ _ hlt]

/-! ## Element-wise forms -/

theorem length_elems (w : Nat) (v : VReg) : (elems w v).length = 4096 / w := by simp [elems]

theorem elems_mod (w : Nat) (v : VReg) : (elems w v).map (· % 2 ^ w) = elems w v := by
  rw [elems, List.map_map]
  exact List.map_congr_left fun k _ => Nat.mod_eq_of_lt (elem_lt w v k)

/-- An element-wise form of two registers is one of their elements as bit vectors of their width, where it is so modulo 2^w. -/
theorem ofElems_zipWith {w : Nat} {g : Nat → Nat → Nat} {f : BitVec w → BitVec w → BitVec w} (h : ∀ p q, g p.toNat q.toNat % 2 ^ w = (f p q).toNat)
    (x y : VReg) : ofElems w (List.zipWith g (elems w x) (elems w y)) = each2 w f x y := by
  refine ofElems_congr ?_
  rw [List.map_zipWith, List.map_zipWith, zipWith_elems_congr (f := fun p q => (f p q).toNat) h]
  simp only [Nat.mod_eq_of_lt (BitVec.isLt _)]

theorem ofElems_map {w : Nat} {g : Nat → Nat} {f : BitVec w → BitVec w} (h : ∀ p, g p.toNat % 2 ^ w = (f p).toNat) (x : VReg) :
    ofElems w ((elems w x).map g) = each2 w (fun p _ => f p) x x := by
  rw [← ofElems_zipWith (g := fun p _ => g p) (fun p _ => h p), List.zipWith_self]

theorem elems_each2 {w : Nat} (f : BitVec w → BitVec w → BitVec w) (x y : VReg) :
    elems w (each2 w f x y) = List.zipWith (fun a b => (f (BitVec.ofNat w a) (BitVec.ofNat w b)).toNat) (elems w x) (elems w y) := by
  rw [each2, elems_ofElems (by rw [List.length_zipWith, length_elems, length_elems, Nat.min_self]), List.map_zipWith]
  simp only [Nat.mod_eq_of_lt (BitVec.isLt _)]

/-! ## Tags -/

theorem tagFaults_one {c : Core} {ok : Tag → Bool} {a : BitVec 6} (hok : ok (c.ctx.getVTag a.toNat) = true) : tagFaults c ok [a] = [] := by
  simp [tagFaults, hok]

theorem tagFaults_three {c : Core} {ok : Tag → Bool} {a b d : BitVec 6} (hok : ok (c.ctx.getVTag a.toNat) = true)
    (hb : c.ctx.getVTag b.toNat = c.ctx.getVTag a.toNat) (hd : c.ctx.getVTag d.toNat = c.ctx.getVTag a.toNat) : tagFaults c ok [a, b, d] = [] := by
  simp [tagFaults, hok, hb, hd]

end Sys2Proof.Proofs

/-! SUPPORT. The integer vector forms and the widening sums: each element's value modulo 2^w is that of the operation on bit vectors (08 R174, R175). -/

namespace Sys2Proof.Proofs

open Sys2Proof Sys2Proof.Machine Sys2Proof.Laws Sys2Proof.Claims

/-! ## Elements -/

theorem wrapTo_toNat (w : Nat) (x : Int) : wrapTo w x % 2 ^ w = (BitVec.ofInt w x).toNat := by
  have hpos := Nat.two_pow_pos w
  rw [wrapTo, BitVec.toNat_ofInt, Nat.mod_eq_of_lt]
  have hlt := Int.emod_lt_of_pos x (b := ((2 ^ w : Nat) : Int)) (by exact_mod_cast hpos)
  omega

section
variable (t : Tag) (p q : BitVec (width t))

theorem intElem_toNat : intElem t p.toNat = if Fmt.isSigned t then p.toInt else (p.toNat : Int) := by
  rw [intElem, signedOf_toNat_self (width_pos t)]

theorem ipickElem_toNat (max : Bool) : ipickElem t max p.toNat q.toNat =
    (if (if Fmt.isSigned t then p.slt q else p.ult q) != max then p else q).toNat := by
  have hlt : decide (intElem t p.toNat < intElem t q.toNat) = if Fmt.isSigned t then p.slt q else p.ult q := by
    rw [intElem_toNat, intElem_toNat]
    split
    · rfl
    · rw [BitVec.ult, decide_eq_decide, Nat.cast_lt]
  rw [ipickElem, hlt]
  exact (apply_ite BitVec.toNat _ p q).symm

theorem imin_toNat : ipickElem t false p.toNat q.toNat % 2 ^ width t = (if (if Fmt.isSigned t then p.slt q else p.ult q) then p else q).toNat := by
  rw [ipickElem_toNat, Nat.mod_eq_of_lt (BitVec.isLt _), Bool.bne_false]

theorem imax_toNat : ipickElem t true p.toNat q.toNat % 2 ^ width t = (if (if Fmt.isSigned t then p.slt q else p.ult q) then q else p).toNat := by
  rw [ipickElem_toNat, Nat.mod_eq_of_lt (BitVec.isLt _), Bool.bne_true]
  cases (if Fmt.isSigned t then p.slt q else p.ult q) <;> rfl

theorem isub_toNat : (p.toNat + 2 ^ width t - q.toNat) % 2 ^ width t = (p - q).toNat := by
  rw [BitVec.toNat_sub]
  congr 1
  omega

theorem sra_toNat : wrapTo (width t) (signedOf (width t) p.toNat >>> (q.toNat % width t)) % 2 ^ width t = (p.sshiftRight (q.toNat % width t)).toNat := by
  rw [wrapTo_toNat, signedOf_toNat_self (width_pos t), BitVec.sshiftRight]

theorem shr_toNat {w : Nat} (p : BitVec w) (n : Nat) : p.toNat >>> n % 2 ^ w = (p >>> n).toNat := by
  rw [BitVec.toNat_ushiftRight, Nat.mod_eq_of_lt]
  exact (Nat.shiftRight_le p.toNat n).trans_lt p.isLt

theorem iabs_toNat : iabsElem t p.toNat % 2 ^ width t = (if Fmt.isSigned t then p.abs else p).toNat := by
  rw [iabsElem, wrapTo_toNat, intElem_toNat]
  split
  · rw [BitVec.ofInt_natCast, BitVec.toNat_ofNat, BitVec.toNat_abs, BitVec.toInt_eq_msb_cond]
    split
    · have hneg : ((p.toNat : Int) - (2 ^ width t : Nat)).natAbs = 2 ^ width t - p.toNat := by omega
      have hge := BitVec.toNat_ge_of_msb_true ‹p.msb = true›
      have hpos := Nat.two_pow_pos (width t - 1)
      rw [hneg, Nat.mod_eq_of_lt (show _ < 2 ^ width t by omega)]
    · rw [Int.natAbs_natCast, Nat.mod_eq_of_lt (BitVec.isLt _)]
  · rw [Int.natAbs_natCast, BitVec.ofInt_natCast, BitVec.ofNat_toNat, BitVec.setWidth_eq]

end

theorem imad_elems (w : Nat) (x y z : VReg) : ofElems w (List.zipWith (· + ·) (elems w z) (List.zipWith (· * ·) (elems w x) (elems w y))) =
    each2 w (· + ·) z (each2 w (· * ·) x y) := by
  rw [← ofElems_zipWith (g := (· + ·)) (fun p q => (BitVec.toNat_add p q).symm), elems_each2]
  refine ofElems_congr ?_
  simp only [elems, List.zipWith_map, List.zipWith_self, List.map_map]
  refine List.map_congr_left fun k _ => ?_
  simp only [Function.comp_apply, BitVec.toNat_mul, toNat_ofNat_elem, Nat.add_mod_mod]

section
variable {s : State} {i : Instr} {lat : Nat} {d a b : BitVec 6}

/-- An integer form completes with its operation on bit vectors, where it is that modulo 2^w. -/
theorem does_int2 {g : Tag → Nat → Nat → Nat} {f : (w : Nat) → Bool → BitVec w → BitVec w → BitVec w} (hexec : exec i s = issueSlot i (vi2 lat d a b g) s)
    (hint : Fmt.isInt (vtag s a) = true) (htag : vtag s b = vtag s a)
    (h : ∀ t (p q : BitVec (width t)), g t p.toNat q.toNat % 2 ^ width t = (f (width t) (Fmt.isSigned t) p q).toNat) : Does s i (int2 s lat d a b f) :=
  does_result hexec (by rw [vi2, tagFaults_pair hint htag, ofElems_zipWith (h (vtag s a))]; rfl)

theorem does_imad (hexec : exec i s = issueSlot i (vimad d a b) s) (hint : Fmt.isInt (vtag s a) = true) (htag : vtag s b = vtag s a)
    (htag' : vtag s d = vtag s a) : Does s i
      [toV s 4 d (each2 (width (vtag s a)) (· + ·) (vreg s d) (each2 (width (vtag s a)) (· * ·) (vreg s a) (vreg s b))) (vtag s a)] := by
  refine does_result hexec ?_
  rw [vimad, tagFaults_three hint htag htag', imad_elems]
  rfl

theorem does_iabs (hexec : exec i s = issueSlot i (viabs d a) s) (hint : Fmt.isInt (vtag s a) = true) : Does s i
    [toV s 2 d (each2 (width (vtag s a)) (fun x _ => if Fmt.isSigned (vtag s a) then x.abs else x) (vreg s a) (vreg s a)) (vtag s a)] :=
  does_result hexec (by rw [viabs, tagFaults_one hint, ofElems_map (iabs_toNat (vtag s a))]; rfl)

end

/-- Settles O12: each form's element is that of its operation on bit vectors, modulo 2^w. -/
theorem integerVectorValues : Obligations.IntegerVectorValues := by
  intro s d a b hint
  refine ⟨fun htag => ?_, does_iabs rfl hint, does_iabs rfl hint⟩
  have both {i j : Instr} {lat : Nat} {g : Tag → Nat → Nat → Nat} {f : (w : Nat) → Bool → BitVec w → BitVec w → BitVec w}
      (hi : exec i s = issueSlot i (vi2 lat d a b g) s) (hj : exec j s = issueSlot j (vi2 lat d a b g) s)
      (h : ∀ t (p q : BitVec (width t)), g t p.toNat q.toNat % 2 ^ width t = (f (width t) (Fmt.isSigned t) p q).toNat) :
      Both s i j (int2 s lat d a b f) := ⟨does_int2 hi hint htag h, does_int2 hj hint htag h⟩
  exact ⟨both rfl rfl fun _ p q => (BitVec.toNat_add p q).symm, both rfl rfl fun t p q => isub_toNat t p q,
    both rfl rfl fun _ p q => (BitVec.toNat_mul p q).symm, both rfl rfl fun t p q => imin_toNat t p q, both rfl rfl fun t p q => imax_toNat t p q,
    both rfl rfl fun _ p q => (BitVec.toNat_shiftLeft (x := p)).symm, both rfl rfl fun _ p q => shr_toNat p _, both rfl rfl fun t p q => sra_toNat t p q,
    fun htag' => ⟨does_imad rfl hint htag htag', does_imad rfl hint htag htag'⟩⟩

end Sys2Proof.Proofs

/-! SUPPORT. The widening sums: the elements of a lane, extended by their own tag (08 R175). -/

namespace Sys2Proof.Proofs

open Sys2Proof Sys2Proof.Machine Sys2Proof.Laws Sys2Proof.Claims

theorem wrapTo_eq (w : Nat) (x : Int) : wrapTo w x = (BitVec.ofInt w x).toNat := (BitVec.toNat_ofInt ..).symm

/-- The narrow integer tags are those of width 8 and 16. -/
theorem narrowTag_of {t : Tag} (hint : Fmt.isInt t = true) (hwidth : width t < 32) : narrowTag t = true := by
  revert t
  decide

theorem width_mul_perLane (t : Tag) : width t * (32 / width t) = 32 := by
  revert t
  decide

theorem extended_elem (t : Tag) (v : VReg) (k : Nat) : extended t (elem (width t) v k) = intElem t (elem (width t) v k) := by
  have h := intElem_toNat t (BitVec.ofNat (width t) (elem (width t) v k))
  rw [toNat_ofNat_elem] at h
  rw [h, extended, toNat_ofNat_elem]

theorem laneInts_eq (t : Tag) (v : VReg) {l : Nat} (hl : l < 128) : laneInts t v l = laneElems t v l := by
  have hn := width_mul_perLane t
  have hfits : l * (32 / width t) + 32 / width t ≤ 4096 / width t := by
    rw [Nat.le_div_iff_mul_le (width_pos t), ← Nat.succ_mul, Nat.mul_assoc, Nat.mul_comm (32 / width t), hn]
    omega
  unfold laneInts laneElems
  refine List.ext_getElem ?_ fun i hi _ => ?_
  · simp only [List.length_map, List.length_range, List.length_take, List.length_drop, length_elems]
    show 32 / width t = _
    omega
  · simp only [List.getElem_map, List.getElem_range, List.getElem_take, List.getElem_drop, elems, extended_elem]
    rfl

section
variable {s : State} {i : Instr} {d a b : BitVec 6}

theorem does_iaddw (hexec : exec i s = issueSlot i (viaddw d a b) s) (hwide : vtag s a = 0 ∨ vtag s a = 1) (hint : Fmt.isInt (vtag s b) = true)
    (hnarrow : width (vtag s b) < 32) : Does s i [toV s 3 d (ofElems 32 ((List.range 128).map fun l =>
      (BitVec.ofInt 32 ((elem 32 (vreg s a) l : Int) + (laneElems (vtag s b) (vreg s b) l).sum)).toNat)) (vtag s a)] := by
  refine does_result hexec ?_
  have hsum : ((List.range 128).map fun j => wrapTo 32 ((elem 32 (vreg s a) j : Int) + (laneInts (vtag s b) (vreg s b) j).sum)) =
      (List.range 128).map fun l => (BitVec.ofInt 32 ((elem 32 (vreg s a) l : Int) + (laneElems (vtag s b) (vreg s b) l).sum)).toNat :=
    List.map_congr_left fun l hl => by rw [wrapTo_eq, laneInts_eq _ _ (List.mem_range.mp hl)]
  rw [viaddw, hsum, firstBadTag, show wideTag (vtag s a) = true from decide_eq_true hwide, narrowTag_of hint hnarrow]
  rfl

theorem does_imadw (hexec : exec i s = issueSlot i (vimadw d a b) s) (hwide : vtag s d = 0 ∨ vtag s d = 1) (hint : Fmt.isInt (vtag s a) = true)
    (hnarrow : width (vtag s a) < 32) (hint' : Fmt.isInt (vtag s b) = true) (hnarrow' : width (vtag s b) < 32) (hsame : width (vtag s b) = width (vtag s a)) :
    Does s i [toV s 4 d (ofElems 32 ((List.range 128).map fun l => (BitVec.ofInt 32 ((elem 32 (vreg s d) l : Int) +
      (List.zipWith (· * ·) (laneElems (vtag s a) (vreg s a) l) (laneElems (vtag s b) (vreg s b) l)).sum)).toNat)) (vtag s d)] := by
  refine does_result hexec ?_
  have hsum : ((List.range 128).map fun j => wrapTo 32 ((elem 32 (vreg s d) j : Int) +
        (List.zipWith (· * ·) (laneInts (vtag s a) (vreg s a) j) (laneInts (vtag s b) (vreg s b) j)).sum)) =
      (List.range 128).map fun l => (BitVec.ofInt 32 ((elem 32 (vreg s d) l : Int) +
        (List.zipWith (· * ·) (laneElems (vtag s a) (vreg s a) l) (laneElems (vtag s b) (vreg s b) l)).sum)).toNat :=
    List.map_congr_left fun l hl => by rw [wrapTo_eq, laneInts_eq _ _ (List.mem_range.mp hl), laneInts_eq _ _ (List.mem_range.mp hl)]
  rw [vimadw, hsum, firstBadTag, show wideTag (vtag s d) = true from decide_eq_true hwide, narrowTag_of hint hnarrow, narrowTag_of hint' hnarrow',
    show decide (Fmt.width (vtag s b) = Fmt.width (vtag s a)) = true from decide_eq_true hsame]
  rfl

end

/-- Settles O14: a lane's sum is that of its elements, each extended by its tag, modulo 2^32. -/
theorem wideningSums : Obligations.WideningSums := fun _ _ _ _ =>
  ⟨fun hwide ⟨hint, hnarrow⟩ => ⟨does_iaddw rfl hwide hint hnarrow, does_iaddw rfl hwide hint hnarrow⟩,
    fun hwide ⟨hint, hnarrow⟩ ⟨hint', hnarrow'⟩ hsame =>
      ⟨does_imadw rfl hwide hint hnarrow hint' hnarrow' hsame, does_imadw rfl hwide hint hnarrow hint' hnarrow' hsame⟩⟩

end Sys2Proof.Proofs

/-! SUPPORT. Moves of bits within registers, scans and reductions of their sequences, and masks (08 R178-R183, R186, R187). -/

namespace Sys2Proof.Proofs

open Sys2Proof Sys2Proof.Machine Sys2Proof.Laws Sys2Proof.Claims

section
variable {s : State} {i : Instr} {d a b : BitVec 6}

/-! ## Moves -/

theorem getD_laneBytes (x y : VReg) (l : Nat) {q : Nat} (hq : q < 8) :
    (laneBytes x l ++ laneBytes y l).getD q 0 = if q < 4 then elem 8 x (4 * l + q) else elem 8 y (4 * l + (q - 4)) := by
  have hlen (v : VReg) : (laneBytes v l).length = 4 := rfl
  have hbyte (v : VReg) {r : Nat} (hr : r < 4) : (laneBytes v l).getD r 0 = elem 8 v (4 * l + r) := by
    rw [List.getD_eq_getElem _ _ (by rw [hlen]; exact hr)]
    simp [laneBytes]
  split
  · next h => rw [List.getD_append _ _ _ _ (by rw [hlen]; exact h), hbyte x h]
  · next h => rw [List.getD_append_right _ _ _ _ (by rw [hlen]; omega), hlen, hbyte y (by omega)]

theorem picks_eq (x y : VReg) {sel : List Nat} (h : ∀ q ∈ sel, q < 8) :
    ofElems 8 ((List.range 128).flatMap fun l => sel.map fun q => (laneBytes x l ++ laneBytes y l).getD q 0) = picked x y sel := by
  have hpick (l : Nat) : (sel.map fun q => (laneBytes x l ++ laneBytes y l).getD q 0) =
      sel.map fun q => if q < 4 then elem 8 x (4 * l + q) else elem 8 y (4 * l + (q - 4)) :=
    List.map_congr_left fun q hq => getD_laneBytes x y l (h q hq)
  unfold picked
  simp only [hpick]

/-- A repacking completes with the bytes it picks. -/
theorem does_pick {wide narrow : List Nat} (hexec : exec i s = issueSlot i (vpick d a b wide narrow) s) (hwide : ∀ q ∈ wide, q < 8)
    (hnarrow : ∀ q ∈ narrow, q < 8) (hwidth : width (vtag s a) ≤ 16) (htag : vtag s b = vtag s a) :
    Does s i [toV s 2 d (picked (vreg s a) (vreg s b) (if decide (width (vtag s a) = 16) then wide else narrow)) (vtag s a)] := by
  refine does_result hexec ?_
  have hpicks := picks_eq (vreg s a) (vreg s b) (sel := if decide (width (vtag s a) = 16) then wide else narrow) (by split <;> assumption)
  rw [vpick, tagFaults_pair (decide_eq_true hwidth) htag, ← hpicks]
  simp only [decide_eq_true_eq]
  rfl

/-- A move of whole lanes completes with the lanes it names. -/
theorem does_move {lat : Nat} {f g : Nat → Nat} {body : State → Core → SlotOut} (hexec : exec i s = issueSlot i body s)
    (hbody : body s (here s) = vmoveLanes lat d a f s (here s)) (h : f = g) : Does s i [toV s lat d (moved (vreg s a) g) (vtag s a)] :=
  h ▸ does_result hexec (hbody.trans rfl)

theorem does_vsel {m : BitVec 3} (hexec : exec i s = issueSlot i (vsel m d a b) s) (htag : vtag s b = vtag s a) :
    Does s i [toV s 1 d (ofElems 8 ((List.range 512).map fun q => elem 8 (if (mreg s m).getLsbD q then vreg s a else vreg s b) q)) (vtag s a)] := by
  refine does_result hexec ?_
  have hbyte (q : Nat) : (if (mreg s m).getLsbD q then elem 8 (vreg s a) q else elem 8 (vreg s b) q) =
      elem 8 (if (mreg s m).getLsbD q then vreg s a else vreg s b) q := (apply_ite (fun v => elem 8 v q) _ _ _).symm
  rw [vsel, tagFaults_pair rfl htag]
  simp only [hbyte]
  rfl

/-! ## Scans and reductions -/

theorem extents_eq (e : BitVec 1) {w : Nat} (hw : w = 8 ∨ w = 16 ∨ w = 32) (v : VReg) : extents e (elems w v) = sequences e w v := by
  unfold extents sequences
  split
  · rfl
  · refine List.map_congr_left fun k hk => ?_
    have hk := List.mem_range.mp hk
    have hn : 4096 / w / 8 = 512 / w := by rcases hw with rfl | rfl | rfl <;> rfl
    have hin : 4096 / w = 8 * (512 / w) := by rcases hw with rfl | rfl | rfl <;> rfl
    have hle : k * (512 / w) + 512 / w ≤ 8 * (512 / w) := by
      rw [← Nat.succ_mul]
      exact Nat.mul_le_mul_right _ hk
    refine List.ext_getElem ?_ fun j hj _ => ?_
    · simp only [List.length_take, List.length_drop, length_elems, List.length_map, List.length_range, hn]
      omega
    · simp only [elems, List.getElem_take, List.getElem_drop, List.getElem_map, List.getElem_range, List.length_map, List.length_range, hn]

theorem scanTag_width {t : Tag} (h : Fmt.isInt t = true ∨ fpTag t = true) : scanTag t = true ∧ (width t = 8 ∨ width t = 16 ∨ width t = 32) := by
  revert t
  decide

theorem does_vscan {x e : BitVec 1} {o : BitVec 2} (hexec : exec i s = issueSlot i (vscan d a x e o) s)
    (h : Fmt.isInt (vtag s a) = true ∨ fpTag (vtag s a) = true) :
    let t := vtag s a
    let z := fromElems (width t) ((sequences e (width t) (vreg s a)).flatMap fun l =>
      let ps := prefixes t o (Mode.ofFrm (here s).ctx.frm) l
      if x = 1 then (ps.2, 0) :: ps.1.dropLast else ps.1)
    Does s i [toV s (if e = 1 then 8 else 4) d z.1 t z.2] := by
  obtain ⟨htag, hw⟩ := scanTag_width h
  refine does_result hexec ?_
  rw [vscan, tagFaults_one htag, ← extents_eq e hw]
  rfl

theorem does_vred {e : BitVec 1} {o : BitVec 2} (hexec : exec i s = issueSlot i (vred d a e o) s)
    (h : Fmt.isInt (vtag s a) = true ∨ fpTag (vtag s a) = true) :
    let t := vtag s a
    let z := fromElems (width t) ((sequences e (width t) (vreg s a)).flatMap fun l =>
      let last := (prefixes t o (Mode.ofFrm (here s).ctx.frm) l).1.getLastD (0, 0)
      l.map fun _ => last)
    Does s i [toV s (if e = 1 then 8 else 4) d z.1 t z.2] := by
  obtain ⟨htag, hw⟩ := scanTag_width h
  refine does_result hexec ?_
  simp only [List.map_const']
  rw [vred, tagFaults_one htag, ← extents_eq e hw]
  rfl

end

/-- Settles O16: each form's picks, lanes or bytes are those of its entry. -/
theorem vectorMoves : Obligations.VectorMoves := by
  intro s d a b f n k m imm
  refine ⟨fun hwidth htag => ⟨⟨?_, ?_⟩, ⟨?_, ?_⟩, ?_, ?_⟩, ⟨does_result rfl rfl, does_result rfl rfl⟩, ⟨does_result rfl rfl, does_result rfl rfl⟩,
    ⟨does_result rfl rfl, does_result rfl rfl⟩, ⟨does_move rfl rfl rfl, does_move rfl rfl rfl⟩, ⟨does_result rfl rfl, does_result rfl rfl⟩,
    fun htag => ⟨does_vsel rfl htag, does_vsel rfl htag⟩, ⟨does_move rfl rfl rfl, does_move rfl rfl rfl⟩, ?_,
    ⟨does_move rfl rfl rfl, does_move rfl rfl rfl⟩, ⟨does_move rfl rfl rfl, does_move rfl rfl rfl⟩⟩
  case refine_7 =>
    have hrot : (fun j => j / 16 * 16 + (j + n.toNat) % 16) = fun j => j / 16 * 16 + (j % 16 + n.toNat) % 16 := funext fun j => by omega
    exact ⟨does_move rfl rfl hrot, does_move rfl rfl hrot⟩
  all_goals exact does_pick rfl (by decide) (by decide) hwidth htag

/-- Settles O17: a scan's sequences are those of its extent, and a mask's operation is bitwise. -/
theorem scansReductionsMasks : Obligations.ScansReductionsMasks := fun _ _ _ _ _ _ _ _ _ =>
  ⟨fun h => ⟨⟨does_vscan rfl h, does_vscan rfl h⟩, does_vred rfl h, does_vred rfl h⟩, does_result rfl rfl, does_result rfl rfl, does_result rfl rfl⟩

end Sys2Proof.Proofs

/-! SUPPORT. Floating-point forms: an element's result under the sources' tag, the pick of one of two, and comparison (08 R168-R173). -/

namespace Sys2Proof.Proofs

open Sys2Proof Sys2Proof.Machine Sys2Proof.Laws Sys2Proof.Claims

section
variable {s : State} {i : Instr} {lat : Nat} {d a b : BitVec 6}

/-! ## Forms -/

theorem does_float1 {f : FFmt → Mode → Nat → Flagged Nat} (hexec : exec i s = issueSlot i (vf1 lat d a f) s) (hfp : fpTag (vtag s a) = true) :
    Does s i (float1 s lat d a f) := does_result hexec (by rw [vf1, tagFaults_one hfp]; rfl)

theorem does_float2 {f : FFmt → Mode → Nat → Nat → Flagged Nat} (hexec : exec i s = issueSlot i (vf2 lat d a b f) s) (hfp : fpTag (vtag s a) = true)
    (htag : vtag s b = vtag s a) : Does s i (float2 s lat d a b f) := does_result hexec (by rw [vf2, tagFaults_pair hfp htag]; rfl)

theorem zip_zip_map {α : Type} (g : Nat → Nat → Nat → α) (xs ys zs : List Nat) : ((xs.zip (ys.zip zs)).map fun e => g e.1 e.2.1 e.2.2) =
    List.zipWith (fun g z => g z) (List.zipWith g xs ys) zs := by
  induction xs generalizing ys zs with
  | nil => rfl
  | cons x xs ih =>
    cases ys with
    | nil => rfl
    | cons y ys =>
      cases zs with
      | nil => rfl
      | cons z zs => exact congrArg _ (ih ys zs)

theorem does_float3 {f : FFmt → Mode → Nat → Nat → Nat → Flagged Nat} (hexec : exec i s = issueSlot i (vf3 lat d a b f) s)
    (hfp : fpTag (vtag s a) = true) (htag : vtag s b = vtag s a) (htag' : vtag s d = vtag s a) : Does s i (float3 s lat d a b f) :=
  does_result hexec (by rw [vf3, tagFaults_three hfp htag htag', zip_zip_map]; rfl)

/-! ## Selection -/

/-- FMIN or FMAX of two elements: a NaN is never chosen over a number, and numbers are ordered with −0 below +0. -/
theorem fpickElem_nan_nan {f : FFmt} {max : Bool} {x y : Nat} (hx : (f.decode x).isNan = true) (hy : (f.decode y).isNan = true) :
    (fpickElem f max x y).1 = f.nanBits := by
  simp [fpickElem, hx, hy]

theorem fpickElem_nan_left {f : FFmt} {max : Bool} {x y : Nat} (hx : (f.decode x).isNan = true) (hy : (f.decode y).isNan = false) :
    (fpickElem f max x y).1 = asRead f y := by
  simp [fpickElem, hx, hy]

theorem fpickElem_nan_right {f : FFmt} {max : Bool} {x y : Nat} (hx : (f.decode x).isNan = false) (hy : (f.decode y).isNan = true) :
    (fpickElem f max x y).1 = asRead f x := by
  simp [fpickElem, hx, hy]

theorem fpickElem_numbers {f : FFmt} {max : Bool} {x y : Nat} (hx : (f.decode x).isNan = false) (hy : (f.decode y).isNan = false) :
    (fpickElem f max x y).1 = if totalBefore (f.decode x) (f.decode y) != max then asRead f x else asRead f y := by
  simp [fpickElem, hx, hy]

theorem fpickElem_flags (f : FFmt) (max : Bool) (x y : Nat) :
    (fpickElem f max x y).2 = if (f.decode x).isSig || (f.decode y).isSig then FFlag.nv else 0 := by
  unfold fpickElem
  dsimp only
  split
  · rfl
  · split
    · rfl
    · split <;> rfl

theorem totalBefore_lt {p q : Machine.Num} (h : p.order q < 0) : totalBefore p q = true := by simp [totalBefore, h]

theorem totalBefore_gt {p q : Machine.Num} (h : 0 < p.order q) : totalBefore p q = false := by
  simp [totalBefore, show ¬ p.order q < 0 by omega, show p.order q ≠ 0 by omega]

theorem totalBefore_eq {p q : Machine.Num} (h : p.order q = 0) : totalBefore p q = (p.sign && !q.sign) := by simp [totalBefore, h]

/-! ## Comparison -/

theorem fcmpElem_nan {f : FFmt} {cc : BitVec 3} {x y : Nat} (h : (f.decode x).isNan = true ∨ (f.decode y).isNan = true) :
    fcmpElem f cc x y = (decide (cc = 1 ∨ cc = 6),
      if ¬ (cc = 0 ∨ cc = 1 ∨ cc = 6) ∨ (f.decode x).isSig = true ∨ (f.decode y).isSig = true then FFlag.nv else 0) := by
  unfold fcmpElem
  dsimp only
  rw [if_pos (by simpa using h)]

theorem fcmpElem_numbers {f : FFmt} {cc : BitVec 3} {x y : Nat} (hx : (f.decode x).isNan = false) (hy : (f.decode y).isNan = false) :
    fcmpElem f cc x y =
      (if cc = 0 then decide ((f.decode x).order (f.decode y) = 0) else if cc = 1 then decide ((f.decode x).order (f.decode y) ≠ 0)
       else if cc = 2 then decide ((f.decode x).order (f.decode y) < 0) else if cc = 3 then decide (0 ≤ (f.decode x).order (f.decode y))
       else if cc = 4 then decide ((f.decode x).order (f.decode y) ≤ 0) else if cc = 5 then decide (0 < (f.decode x).order (f.decode y)) else false, 0) := by
  unfold fcmpElem
  dsimp only
  rw [if_neg (by simp [hx, hy])]

theorem does_fcmp {m cc : BitVec 3} (hexec : exec i s = issueSlot i (vfcmp m cc a b) s) (hfp : fpTag (vtag s a) = true) (htag : vtag s b = vtag s a) :
    let r := List.zipWith (fcmpElem (fpFmt (vtag s a)) cc) (elems (width (vtag s a)) (vreg s a)) (elems (width (vtag s a)) (vreg s b))
    Does s i [.result 2 (.mk m.toNat (maskOf (width (vtag s a)) (r.map (·.1)))) (r.foldl (fun f x => f ||| x.2) 0)] :=
  does_result hexec (by rw [vfcmp, tagFaults_pair hfp htag]; rfl)

end

section
variable {s : State} {i : Instr} {d a b : BitVec 6} {max : Bool}

theorem does_fpick (hexec : exec i s = issueSlot i (vf2 2 d a b fun f _ => fpickElem f max) s) (hfp : fpTag (vtag s a) = true) (htag : vtag s b = vtag s a) :
    Does s i (float2 s 2 d a b fun _ _ => fpickElem (fpFmt (vtag s a)) max) := by
  have h := does_float2 hexec hfp htag
  unfold float2 at h ⊢
  exact h

end

/-! ## The statements -/

/-- Settles O11: numbers are ordered by value, and where they are equal by sign; a NaN decides before them. -/
theorem floatSelectionAndComparison : Obligations.FloatSelectionAndComparison := by
  intro s d a b m cc hfp htag
  refine ⟨⟨fpickElem (fpFmt (vtag s a)) false, ⟨does_fpick rfl hfp htag, does_fpick rfl hfp htag⟩, fun x y => ?_⟩,
    ⟨fpickElem (fpFmt (vtag s a)) true, ⟨does_fpick rfl hfp htag, does_fpick rfl hfp htag⟩, fun x y => ?_⟩,
    ⟨fcmpElem (fpFmt (vtag s a)) cc, ⟨does_fcmp rfl hfp htag, does_fcmp rfl hfp htag⟩, fun x y => ⟨fun h => ?_, fun hx hy => ?_⟩⟩⟩
  · refine ⟨fpickElem_nan_nan, fpickElem_nan_left, fun hx h => ?_, fun hx hy h => ?_, fun hx hy h => ?_, fpickElem_flags ..⟩
    · cases hy : ((fpFmt (vtag s a)).decode y).isNan with
      | true => exact fpickElem_nan_right hx hy
      | false =>
        rw [fpickElem_numbers hx hy, totalBefore_lt (h.resolve_left (by rw [hy]; exact Bool.false_ne_true))]
        rfl
    · rw [fpickElem_numbers hx hy, totalBefore_gt h]
      rfl
    · rw [fpickElem_numbers hx hy, totalBefore_eq h, Bool.bne_false]
  · refine ⟨fpickElem_nan_nan, fpickElem_nan_left, fun hx h => ?_, fun hx hy h => ?_, fun hx hy h => ?_, fpickElem_flags ..⟩
    · cases hy : ((fpFmt (vtag s a)).decode y).isNan with
      | true => exact fpickElem_nan_right hx hy
      | false =>
        rw [fpickElem_numbers hx hy, totalBefore_gt (h.resolve_left (by rw [hy]; exact Bool.false_ne_true))]
        rfl
    · rw [fpickElem_numbers hx hy, totalBefore_lt h]
      rfl
    · rw [fpickElem_numbers hx hy, totalBefore_eq h, Bool.bne_true]
      cases ((fpFmt (vtag s a)).decode x).sign && !((fpFmt (vtag s a)).decode y).sign <;> rfl
  · rw [fcmpElem_nan h]
    refine ⟨decide_eq_true_iff, ?_⟩
    dsimp only
    split
    · next hnv => simpa using hnv
    · next hnv => simpa [FFlag.nv] using hnv
  · rw [fcmpElem_numbers hx hy]
    refine ⟨rfl, ?_, ?_, ?_, ?_, ?_, ?_, ?_⟩ <;> rintro rfl
    case refine_7 => rfl
    all_goals exact decide_eq_true_iff

/-- Settles O9: each special function is a form of one source. -/
theorem specialFunctionsComplete : Obligations.SpecialFunctionsComplete := fun _ _ _ hfp =>
  ⟨does_float1 rfl hfp, does_float1 rfl hfp, does_float1 rfl hfp, does_float1 rfl hfp, does_float1 rfl hfp, does_float1 rfl hfp⟩

end Sys2Proof.Proofs

/-! SUPPORT. The special functions where their value is a zero, an infinity, one or a NaN: rounding leaves those as they are (08 R173, 04 R90). -/

namespace Sys2Proof.Proofs

open Sys2Proof Sys2Proof.Machine Sys2Proof.Laws Sys2Proof.Claims

/-! ## Values that rounding leaves -/

section
variable (f : FFmt) (m : Mode) (fl : FFlags)

theorem rounded_nan (q : Bool) : rounded f m (.nan q, fl) = (f.nanBits, fl) := congrArg (Prod.mk _) (BitVec.or_zero ..)

theorem rounded_inf (n : Bool) : rounded f m (.inf n, fl) = (f.withSign n f.infBits, fl) := congrArg (Prod.mk _) (BitVec.or_zero ..)

theorem rounded_zero (n : Bool) (e : Int) : rounded f m (.fin n 0 e, fl) = (f.withSign n 0, fl) := congrArg (Prod.mk _) (BitVec.or_zero ..)

end

/-- The bits of one in the formats of registers. -/
def oneBits (f : FFmt) : Nat := if f = .fp32 then 0x3F800000 else if f = .fp16 then 0x3C00 else 0x3F80

theorem rounded_one {f : FFmt} (h : f = .fp32 ∨ f = .fp16 ∨ f = .bf16) (frm : BitVec 2) (n : Bool) :
    rounded f (Mode.ofFrm frm) (.fin n 1 0, 0) = (f.withSign n (oneBits f), 0) := by
  revert frm n
  rcases h with rfl | rfl | rfl <;> decide

/-! ## The functions' special cases -/

theorem special_nan (mode : Mode) (q : Bool) : ∀ g ∈ [divNum (.fin false 1 0), rsqrtNum, sqrtNum, exp2Num, log2Num mode, tanhNum],
    g (.nan q) = (.nan false, if q then FFlag.nv else 0) := by
  simp only [List.forall_mem_cons, List.not_mem_nil, false_imp_iff, implies_true, and_true]
  exact ⟨rfl, rfl, rfl, rfl, rfl, rfl⟩

section
variable {k : Nat} (hk : k ≠ 0) (e : Int) (mode : Mode)
include hk

theorem rsqrtNum_neg : rsqrtNum (.fin true k e) = (.nan false, FFlag.nv) := by
  unfold rsqrtNum
  dsimp only
  rw [if_neg hk, if_pos rfl]

theorem sqrtNum_neg : sqrtNum (.fin true k e) = (.nan false, FFlag.nv) := by
  unfold sqrtNum
  dsimp only
  rw [if_neg hk, if_pos rfl]

theorem log2Num_neg : log2Num mode (.fin true k e) = (.nan false, FFlag.nv) := by
  unfold log2Num
  dsimp only
  rw [if_neg hk, if_pos rfl]

end

theorem log2Num_one (mode : Mode) : log2Num mode (.fin false 1 0) = (.fin (decide (mode = .rdn)) 0 0, 0) := by
  have hlog : Nat.log2 1 = 0 := by decide
  unfold log2Num
  simp [hlog]

theorem divNum_inf (n : Bool) : divNum (.fin false 1 0) (.inf n) = (.fin n 0 0, 0) := by cases n <;> rfl

theorem divNum_zero (n : Bool) : divNum (.fin false 1 0) (.fin n 0 0) = (.inf n, FFlag.dz) := by cases n <;> rfl

/-- Settles O10: each special value is a NaN, an infinity, a zero or one, which rounding leaves as it is. -/
theorem specialFunctionCases : Obligations.SpecialFunctionCases := by
  intro f frm n k e hf hk one m zero nan inf rcp fn
  have hnan (fl : FFlags) (q : Bool) : rounded f m (.nan q, fl) = (f.nanBits, fl) := rounded_nan f m fl q
  have hinf (fl : FFlags) (n : Bool) : rounded f m (.inf n, fl) = (inf n, fl) := rounded_inf f m fl n
  have hzero (fl : FFlags) (n : Bool) (e : Int) : rounded f m (.fin n 0 e, fl) = (f.withSign n 0, fl) := rounded_zero f m fl n e
  have hone (n : Bool) : rounded f m (.fin n 1 0, 0) = (one n, 0) := rounded_one hf frm n
  have hval {x : Flagged Machine.Num} {y : Flagged Machine.Num} {z : Flagged Nat} (hx : x = y) (hy : rounded f m y = z) : rounded f m x = z := hx ▸ hy
  exact ⟨hval (divNum_zero n) (hinf _ _), hval (divNum_inf n) (hzero _ _ _), hinf _ _, hzero _ _ _, hnan _ _, hval (rsqrtNum_neg hk e) (hnan _ _),
    hzero _ _ _, hinf _ _, hnan _ _, hval (sqrtNum_neg hk e) (hnan _ _), hone _, hinf _ _, hzero _ _ _, hinf _ _, hinf _ _, hnan _ _,
    hval (log2Num_neg hk e m) (hnan _ _), hval (log2Num_one m) (hzero _ _ _), hzero _ _ _, hone _,
    fun q g hg => hval (special_nan m q g hg) (hnan _ _)⟩

end Sys2Proof.Proofs

/-! SUPPORT. Conversions: the modes that RND names, and the generators that an SR conversion leaves (08 R177, 04 R93). -/

namespace Sys2Proof.Proofs

open Sys2Proof Sys2Proof.Machine Sys2Proof.Laws Sys2Proof.Claims

section
variable {s : State} {i : Instr} {d a : BitVec 6} {f : BitVec 4} {rnd : BitVec 2} {sat : Bool}

/-! ## The effects -/

theorem advanced_eq (s : State) : (here s).advanced = (List.range 128).map fun l => rngStep (mapGet 0 (generators s) l) := rfl

theorem getD_advanced {l : Nat} (hl : l < 128) : (here s).advanced.getD l 0 = rngStep (mapGet 0 (generators s) l) := by
  rw [advanced_eq, List.getD_eq_getElem _ _ (by simpa using hl), List.getElem_map, List.getElem_range]

/-- A conversion's contribution is its effects alone. -/
theorem vcvt_eq : vcvt d a f rnd sat s (here s) = { effects := converted s d a f rnd sat } := by
  have hgens {l : Nat} (hl : l < 128) (hrnd : rnd = 2) : (if rnd = 2 then (here s).advanced else []).getD l 0 = rngStep (mapGet 0 (generators s) l) := by
    rw [if_pos hrnd, getD_advanced hl]
  have hmode (i : Nat) {l : Nat} (hl : l < 128) :
      (if rnd = 0 then Mode.rne else if rnd = 1 then .rtz
        else if rnd = 2 then .sr (((if rnd = 2 then (here s).advanced else []).getD l 0).rotateLeft (8 * i)) else (here s).ctx.mode) =
      if rnd = 0 then .rne else if rnd = 1 then .rtz
        else if rnd = 2 then .sr ((rngStep (mapGet 0 (generators s) l)).rotateLeft (8 * i)) else Mode.ofFrm (here s).ctx.frm := by
    by_cases hrnd : rnd = 2
    · rw [hgens hl hrnd]
      rfl
    · simp only [if_neg hrnd]
      rfl
  have helems : ((List.range (128 * Fmt.perLane f)).map fun k =>
        if k % Fmt.perLane f < Fmt.perLane (vtag s a) then
          convert f sat (if rnd = 0 then Mode.rne else if rnd = 1 then .rtz
            else if rnd = 2 then .sr (((if rnd = 2 then (here s).advanced else []).getD (k / Fmt.perLane f) 0).rotateLeft (8 * (k % Fmt.perLane f)))
            else (here s).ctx.mode)
            (Fmt.num (vtag s a) (elem (Fmt.width (vtag s a)) (vreg s a) (k / Fmt.perLane f * Fmt.perLane (vtag s a) + k % Fmt.perLane f)))
        else (0, 0)) =
      (List.range (128 * Fmt.perLane f)).map fun k =>
        if k % Fmt.perLane f < Fmt.perLane (vtag s a) then
          convert f sat (if rnd = 0 then Mode.rne else if rnd = 1 then .rtz
            else if rnd = 2 then .sr ((rngStep (mapGet 0 (generators s) (k / Fmt.perLane f))).rotateLeft (8 * (k % Fmt.perLane f)))
            else Mode.ofFrm (here s).ctx.frm)
            (Fmt.num (vtag s a) (elem (Fmt.width (vtag s a)) (vreg s a) (k / Fmt.perLane f * Fmt.perLane (vtag s a) + k % Fmt.perLane f)))
        else (0, 0) := by
    refine List.map_congr_left fun k hk => ?_
    rw [hmode _ (Nat.div_lt_of_lt_mul (Nat.mul_comm _ _ ▸ List.mem_range.mp hk))]
  unfold vcvt converted
  dsimp only
  rw [helems]
  by_cases hrnd : rnd = 2
  · have hlist : ((List.range 128).map fun l => (l, (here s).advanced.getD l 0)) =
        (List.range 128).map fun l => (l, rngStep (mapGet 0 (generators s) l)) :=
      List.map_congr_left fun l hl => by rw [getD_advanced (List.mem_range.mp hl)]
    simp only [if_pos hrnd, hlist]
    rfl
  · simp only [if_neg hrnd]
    rfl

theorem clean_converted : Clean (converted s d a f rnd sat) := by
  unfold converted
  refine Clean.append (es := [_]) (fs := if rnd = 2 then _ else _) (clean_result ..) ?_
  split
  · exact ⟨rfl, rfl, rfl, rfl⟩
  · exact ⟨rfl, rfl, rfl, rfl⟩

theorem does_cvt (hexec : exec i s = issueSlot i (vcvt d a f rnd sat) s) : Does s i (converted s d a f rnd sat) :=
  does_of_effects hexec vcvt_eq clean_converted

/-! ## The generators once the bundle has ended -/

theorem write_rng (x : Ctx) (w : RegWrite) : (x.write w).rng = x.rng := by
  cases w with
  | s n v =>
    show (x.put (.s n v)).rng = _
    unfold Ctx.put
    dsimp only
    split <;> rfl
  | p n b =>
    show (x.setPhysP n b).rng = _
    unfold Ctx.setPhysP
    split <;> rfl
  | _ => rfl

theorem results_rng (l : List Pending) (x : Ctx) : (l.foldl (fun x r => (x.write r.write).orFlags r.flags) x).rng = x.rng := by
  induction l generalizing x with
  | nil => rfl
  | cons r l ih => exact (ih _).trans (write_rng x r.write)

/-- The generators as a list of them leaves them. -/
theorem mapGet_setAll {α : Type} [DecidableEq α] (d : α) (g : Nat → α) (n : Nat) (m : FMap α) {l : Nat} (hl : l < n) :
    mapGet d (((List.range n).map fun l => (l, g l)).foldl (fun m x => mapSet d m x.1 x.2) m) l = g l := by
  induction n with
  | zero => exact absurd hl (Nat.not_lt_zero l)
  | succ n ih =>
    rw [List.range_succ, List.map_append, List.foldl_append]
    show mapGet d (mapSet d _ n (g n)) l = g l
    by_cases h : l = n
    · rw [h, mapGet_set_same]
    · rw [mapGet_set_other _ h]
      exact ih (by omega)

theorem rng_after (h : Plain s) (i : Instr) (lat : Nat) (w : RegWrite) (x : FFlags) (g : Nat → BitVec 32) {l : Nat} (hl : l < 128) :
    mapGet 0 (after s i [.result lat w x, .rng ((List.range 128).map fun l => (l, g l))]).ctx.rng l = g l := by
  generalize hg : ((List.range 128).map fun l => (l, g l)) = gs
  let r := gs.foldl (fun m x => mapSet 0 m x.1 x.2) (here s).ctx.rng
  let c : Core := { here s with ctx := { (here s).ctx with rng := r }, pipe := [{ left := lat, write := w, flags := x }] }
  have hc : (inOrder [.result lat w x, .rng gs]).foldl Core.apply (here s) = c := by
    show ({ here s with ctx := { (here s).ctx with rng := r }, pipe := (here s).pipe ++ _ } : Core) = c
    rw [h.pipe]
    rfl
  have hfall : (c.tickPipe.tickLand.writeLandings fun l => l.due).ctx = _ := fall_ctx (d := c) h.land
  obtain ⟨hlc, hpc, -⟩ := results_nest (c.pipe.filter fun r : Pending => decide (r.left ≤ 1)) (fun r => r.write) (fun r => r.flags) c.ctx
  obtain ⟨hctx, -⟩ := endBundle_plain (c := c) (x := lastIssue s i [.result lat w x, .rng gs]) h.unprotected rfl rfl rfl rfl (by
    rw [hfall]
    simp only [Ctx.getLevel, hlc, hpc]
    exact fun j hj => h.inside j (by simp at hj; omega))
  rw [after_eq h.empty h.unprotected, hc, hctx, hfall]
  show mapGet 0 (List.foldl _ c.ctx _).rng l = g l
  rw [results_rng, ← mapGet_setAll 0 g 128 (here s).ctx.rng hl, hg]

end

/-- Settles O15: a conversion's mode is that of RND, under SR with its lane's generator one step on, which is left so. -/
theorem conversionValues : Obligations.ConversionValues := fun _ _ _ _ _ =>
  ⟨⟨does_cvt rfl, does_cvt rfl⟩, ⟨does_cvt rfl, does_cvt rfl⟩, fun i lat w x g hplain _ hl => rng_after hplain i lat w x g hl⟩

end Sys2Proof.Proofs

/-! SUPPORT. Rounding to a format (04 R90, R92): the members around a value, the unit in which it is rounded, and the bits of the result. -/

namespace Sys2Proof.Proofs

open Sys2Proof Sys2Proof.Machine Sys2Proof.Laws Sys2Proof.Claims

/-! ## Rounding to whole units -/

/-- `x` lies in the cell of `k` whole units `u`. -/
structure Cell (x u : ℚ) (k : Nat) : Prop where
  low : k * u ≤ x
  high : x < (k + 1) * u

/-- What rounding a value in the cell of `k` to whole units gives: `n` units, and whether that is inexact. -/
structure Units (mode : Mode) (neg : Bool) (x u : ℚ) (k n : Nat) (inex : Bool) : Prop where
  exact : inex = false → n = k ∧ k * u = x
  inexact : inex = true → k * u ≠ x
  rtz : mode = .rtz → n = k
  rdn : mode = .rdn → n = k ∧ (neg = true → inex = false) ∨ n = k + 1 ∧ neg = true
  rup : mode = .rup → n = k ∧ (neg = false → inex = false) ∨ n = k + 1 ∧ neg = false
  rne : mode = .rne → (n = k ∧ 2 * (x - k * u) ≤ u ∧ (2 * (x - k * u) = u → k % 2 = 0))
    ∨ (n = k + 1 ∧ u ≤ 2 * (x - k * u) ∧ (2 * (x - k * u) = u → k % 2 = 1))

/-- Of the modes of FRM, a value rounds to one of the two ends of its cell. -/
theorem Units.ends {mode : Mode} {neg : Bool} {x u : ℚ} {k n : Nat} {inex : Bool} (h : Units mode neg x u k n inex)
    (hmode : mode ∈ [Mode.rne, .rtz, .rdn, .rup]) : n = k ∨ n = k + 1 := by
  simp only [List.mem_cons, List.not_mem_nil, or_false] at hmode
  rcases hmode with rfl | rfl | rfl | rfl
  · exact (h.rne rfl).imp (·.1) (·.1)
  · exact .inl (h.rtz rfl)
  · exact (h.rdn rfl).imp (·.1) (·.1)
  · exact (h.rup rfl).imp (·.1) (·.1)

theorem zpow_split {a b : Int} (h : a ≤ b) : (2 : ℚ) ^ b = ((2 ^ (b - a).toNat : Nat) : ℚ) * 2 ^ a := by
  rw [Nat.cast_pow, Nat.cast_ofNat, ← zpow_natCast, ← zpow_add₀ two_ne_zero]
  congr 1
  omega

theorem roundUnits_spec (mode : Mode) (neg : Bool) (m : Nat) (e q : Int) : ∃ k, Cell (m * 2 ^ e) (2 ^ q) k
    ∧ (mode ∈ [Mode.rne, .rtz, .rdn, .rup] →
      Units mode neg (m * 2 ^ e) (2 ^ q) k (roundUnits mode neg m e q).1 (roundUnits mode neg m e q).2) := by
  have hu : (0 : ℚ) < 2 ^ q := zpow_pos two_pos q
  have he : (0 : ℚ) < 2 ^ e := zpow_pos two_pos e
  unfold roundUnits
  split
  · next hle =>
    have hx : ((m <<< (e - q).toNat : Nat) : ℚ) * 2 ^ q = m * 2 ^ e := by
      rw [Nat.shiftLeft_eq, Nat.cast_mul, mul_assoc, ← zpow_split hle]
    refine ⟨m <<< (e - q).toNat, ⟨hx.le, ?_⟩, fun _ => ⟨fun _ => ⟨rfl, hx⟩, fun h => (nomatch h), fun _ => rfl, fun _ => .inl ⟨rfl, fun _ => rfl⟩,
      fun _ => .inl ⟨rfl, fun _ => rfl⟩, fun _ => .inl ⟨rfl, ?_, fun h => ?_⟩⟩⟩
    · rw [← hx]
      linarith
    · rw [hx]
      linarith
    · rw [hx] at h
      linarith
  · next hlt =>
    have hq : (2 : ℚ) ^ q = ((2 ^ (q - e).toNat : Nat) : ℚ) * 2 ^ e := zpow_split (by omega)
    generalize hsh : (q - e).toNat = sh at hq
    have hm := Nat.div_add_mod m (2 ^ sh)
    have hr := Nat.mod_lt m (Nat.two_pow_pos sh)
    dsimp only
    rw [Nat.shiftRight_eq_div_pow m]
    generalize m / 2 ^ sh = k at hm
    generalize m % 2 ^ sh = r at hm hr
    generalize 2 ^ sh = S at hm hr hq
    have hS : (0 : ℚ) < S := by
      rw [hq] at hu
      exact pos_of_mul_pos_left hu he.le
    have hx : (m : ℚ) * 2 ^ e - k * 2 ^ q = r * 2 ^ e := by
      rw [hq, ← hm]
      push_cast
      ring
    have hr' : (r : ℚ) < S := by exact_mod_cast hr
    refine ⟨k, ⟨?_, ?_⟩, fun hmode => ?_⟩
    · have : (0 : ℚ) ≤ r * 2 ^ e := by positivity
      linarith
    · have : (r : ℚ) * 2 ^ e < S * 2 ^ e := mul_lt_mul_of_pos_right hr' he
      rw [add_mul, one_mul]
      linarith
    · split
      · next h0 =>
        rw [h0, Nat.cast_zero, zero_mul, sub_eq_zero] at hx
        refine ⟨fun _ => ⟨rfl, hx.symm⟩, fun h => (nomatch h), fun _ => rfl, fun _ => .inl ⟨rfl, fun _ => rfl⟩, fun _ => .inl ⟨rfl, fun _ => rfl⟩,
          fun _ => .inl ⟨rfl, ?_, fun h => ?_⟩⟩
        · rw [hx]
          linarith
        · rw [hx] at h
          linarith
      · next h0 =>
        have hpos : (0 : ℚ) < r * 2 ^ e := mul_pos (by exact_mod_cast Nat.pos_of_ne_zero h0) he
        refine ⟨fun h => (nomatch h), fun _ h => by linarith, ?_, ?_, ?_, ?_⟩ <;> rintro rfl
        · rfl
        · cases neg
          · exact .inl ⟨rfl, fun h => (nomatch h)⟩
          · exact .inr ⟨rfl, rfl⟩
        · cases neg
          · exact .inr ⟨rfl, rfl⟩
          · exact .inl ⟨rfl, fun h => (nomatch h)⟩
        · have hhalf : 2 * ((m : ℚ) * 2 ^ e - k * 2 ^ q) - 2 ^ q = ((2 * r : Nat) - (S : ℚ)) * 2 ^ e := by
            rw [hx, hq]
            push_cast
            ring
          rcases lt_trichotomy (2 * r) S with hlt | heq | hgt
          · have : ((2 * r : Nat) : ℚ) < S := by exact_mod_cast hlt
            have hneg := mul_neg_of_neg_of_pos (sub_neg.mpr this) he
            refine .inl ⟨?_, by linarith, fun h => by linarith⟩
            rw [if_neg]
            simp [show ¬ S < 2 * r by omega, show 2 * r ≠ S by omega]
          · have hzero : ((2 * r : Nat) - (S : ℚ)) * 2 ^ e = 0 := by rw [heq, sub_self, zero_mul]
            rcases Nat.mod_two_eq_zero_or_one k with hk | hk
            · refine .inl ⟨?_, by linarith, fun _ => hk⟩
              rw [if_neg]
              simp [show ¬ S < 2 * r by omega, hk]
            · refine .inr ⟨?_, by linarith, fun _ => hk⟩
              rw [if_pos]
              simp [heq, hk]
          · have : (S : ℚ) < ((2 * r : Nat) : ℚ) := by exact_mod_cast hgt
            have hneg := mul_pos (sub_pos.mpr this) he
            refine .inr ⟨?_, by linarith, fun h => by linarith⟩
            rw [if_pos]
            simp [hgt]

/-! ## Members of a format -/

/-- A finite member has no more significant bits than the format, and no bit below its lowest. -/
theorem decode_member {f : FFmt} {b m : Nat} {neg : Bool} {e : Int} (h : f.decode b = .fin neg m e) : m < 2 ^ (f.f + 1) ∧ f.low ≤ e := by
  have hfr := Nat.mod_lt (b % f.signBit) (Nat.two_pow_pos f.f)
  have hpow : 2 ^ (f.f + 1) = 2 ^ f.f + 2 ^ f.f := by rw [pow_succ]; omega
  unfold FFmt.decode at h
  dsimp only at h
  generalize b % f.signBit / 2 ^ f.f = ex at h
  split at h
  · cases h
  · split at h
    · split at h <;> cases h
    · split at h
      · split at h
        · cases h
          exact ⟨Nat.two_pow_pos _, le_refl _⟩
        · cases h
          exact ⟨by omega, le_refl _⟩
      · next hex =>
        cases h
        exact ⟨by omega, by omega⟩

/-- No member lies between the ends of a cell whose unit is the last place of its values, or the lowest of the format. -/
theorem member_gap {q e low : Int} {k m F : Nat} (hm : m < 2 ^ (F + 1)) (hlow : low ≤ e) (hq : q = low ∨ 2 ^ F ≤ k) :
    (m : ℚ) * 2 ^ e ≤ k * 2 ^ q ∨ (k + 1) * 2 ^ q ≤ (m : ℚ) * 2 ^ e := by
  have hu : (0 : ℚ) < 2 ^ q := zpow_pos two_pos q
  rcases le_or_gt q e with hle | hgt
  · have hunits : (m : ℚ) * 2 ^ e = ((m * 2 ^ (e - q).toNat : Nat) : ℚ) * 2 ^ q := by rw [zpow_split hle, Nat.cast_mul, mul_assoc]
    rw [hunits]
    rcases Nat.lt_or_ge k (m * 2 ^ (e - q).toNat) with h | h
    · exact .inr (mul_le_mul_of_nonneg_right (by exact_mod_cast h) hu.le)
    · exact .inl (mul_le_mul_of_nonneg_right (by exact_mod_cast h) hu.le)
  · have hk : 2 ^ F ≤ k := hq.resolve_left (by omega)
    have he : (0 : ℚ) < 2 ^ e := zpow_pos two_pos e
    have htwo : 2 ≤ 2 ^ (q - e).toNat := Nat.le_self_pow (by omega) 2
    have hle : m ≤ k * 2 ^ (q - e).toNat := by
      calc m ≤ 2 ^ F * 2 := by rw [← pow_succ]; exact hm.le
        _ ≤ k * 2 ^ (q - e).toNat := Nat.mul_le_mul hk htwo
    left
    rw [zpow_split hgt.le, ← mul_assoc]
    exact mul_le_mul_of_nonneg_right (by exact_mod_cast hle) he.le

/-! ## The unit in which a number is rounded -/

/-- The exponent of the last place of a number in a format. -/
def lastPlace (f : FFmt) (m : Nat) (e : Int) : Int := max (e + Nat.log2 m - f.f) f.low

theorem roundMag_eq (f : FFmt) (mode : Mode) (neg : Bool) (m : Nat) (e : Int) : roundMag f mode neg m e =
    ((lastPlace f m e - f.low).toNat * 2 ^ f.f + (roundUnits mode neg m e (lastPlace f m e)).1, (roundUnits mode neg m e (lastPlace f m e)).2) := rfl

/-- A number has as many whole units as the format's precision allows, and where the unit is not the format's lowest, all of them. -/
theorem cell_units {f : FFmt} {m k : Nat} {e : Int} (hm : m ≠ 0) (hcell : Cell (m * 2 ^ e) (2 ^ lastPlace f m e) k) :
    k < 2 ^ (f.f + 1) ∧ (lastPlace f m e = f.low ∨ 2 ^ f.f ≤ k) := by
  obtain ⟨hlow, hhigh⟩ := hcell
  have hu : (0 : ℚ) < 2 ^ lastPlace f m e := zpow_pos two_pos _
  have he : (0 : ℚ) < 2 ^ e := zpow_pos two_pos e
  have hlog : 2 ^ Nat.log2 m ≤ m := Nat.log2_self_le hm
  have hlog' : m < 2 ^ (Nat.log2 m + 1) := Nat.lt_log2_self
  have hpow (n : Nat) : (2 : ℚ) ^ n * 2 ^ e = 2 ^ (n + e) := by rw [zpow_add₀ two_ne_zero, zpow_natCast]
  have hpow' (n : Nat) (q : Int) : (2 : ℚ) ^ (n + q) = 2 ^ n * 2 ^ q := by rw [zpow_add₀ two_ne_zero, zpow_natCast]
  constructor
  · have hx : (m : ℚ) * 2 ^ e < 2 ^ (f.f + 1) * 2 ^ lastPlace f m e := by
      calc (m : ℚ) * 2 ^ e < 2 ^ (Nat.log2 m + 1) * 2 ^ e := mul_lt_mul_of_pos_right (by exact_mod_cast hlog') he
        _ = 2 ^ (((Nat.log2 m + 1 : Nat) : Int) + e) := hpow _
        _ ≤ 2 ^ (((f.f + 1 : Nat) : Int) + lastPlace f m e) := zpow_le_zpow_right₀ one_le_two (by unfold lastPlace; omega)
        _ = 2 ^ (f.f + 1) * 2 ^ lastPlace f m e := hpow' _ _
    have hlt := lt_of_mul_lt_mul_right (hlow.trans_lt hx) hu.le
    exact_mod_cast hlt
  · by_cases hq : lastPlace f m e = f.low
    · exact .inl hq
    · right
      have hplace : lastPlace f m e = e + Nat.log2 m - f.f := by
        unfold lastPlace at hq ⊢
        omega
      have hx : (2 : ℚ) ^ f.f * 2 ^ lastPlace f m e ≤ m * 2 ^ e := by
        calc (2 : ℚ) ^ f.f * 2 ^ lastPlace f m e = 2 ^ ((f.f : Int) + lastPlace f m e) := (hpow' _ _).symm
          _ = 2 ^ ((Nat.log2 m : Int) + e) := by rw [hplace]; congr 1; omega
          _ = 2 ^ Nat.log2 m * 2 ^ e := hpow' _ _
          _ ≤ m * 2 ^ e := mul_le_mul_of_nonneg_right (by exact_mod_cast hlog) he.le
      have hlt := lt_of_mul_lt_mul_right (hx.trans_lt hhigh) hu.le
      have hnat : 2 ^ f.f < k + 1 := by exact_mod_cast hlt
      omega

/-! ## The bits of a magnitude -/

theorem signBit_pos (f : FFmt) : 0 < f.signBit := Nat.two_pow_pos _

theorem maxBits_lt (f : FFmt) : f.maxBits < f.signBit := by cases f <;> decide

theorem withSign_mod {f : FFmt} {b : Nat} (hb : b < f.signBit) (neg : Bool) : f.withSign neg b % f.signBit = b := by
  cases neg
  · exact Nat.mod_eq_of_lt hb
  · show (f.signBit + b) % f.signBit = b
    rw [Nat.add_mod_left, Nat.mod_eq_of_lt hb]

theorem withSign_sign {f : FFmt} {b : Nat} (hb : b < f.signBit) (neg : Bool) : decide (f.withSign neg b / f.signBit % 2 = 1) = neg := by
  cases neg
  · show decide (b / f.signBit % 2 = 1) = false
    rw [Nat.div_eq_of_lt hb]
    rfl
  · show decide ((f.signBit + b) / f.signBit % 2 = 1) = true
    rw [Nat.add_div_left _ (signBit_pos f), Nat.div_eq_of_lt hb]
    rfl

/-- A magnitude up to the largest finite one, with its sign. -/
theorem decode_withSign {f : FFmt} {b : Nat} (hb : b ≤ f.maxBits) (neg : Bool) : f.decode (f.withSign neg b) =
    if b / 2 ^ f.f = 0 then (if f = .bf16 then .fin neg 0 f.low else .fin neg b f.low)
    else .fin neg (2 ^ f.f + b % 2 ^ f.f) (f.low + (b / 2 ^ f.f : Nat) - 1) := by
  have hlt := hb.trans_lt (maxBits_lt f)
  have hnan : ¬ (f = .e4m3 ∧ b = 0x7F) := by
    rintro ⟨rfl, rfl⟩
    exact absurd hb (by decide)
  have hinf : ¬ (f ≠ .e4m3 ∧ b / 2 ^ f.f = 2 ^ f.x - 1) := by
    rintro ⟨hne, hex⟩
    have hdiv : b / 2 ^ f.f ≤ f.maxBits / 2 ^ f.f := Nat.div_le_div_right hb
    revert hne hex hdiv
    generalize b / 2 ^ f.f = ex
    cases f
    case e4m3 => exact fun hne => absurd rfl hne
    all_goals
      intro _ hex hdiv
      rw [hex] at hdiv
      exact absurd hdiv (by decide)
  unfold FFmt.decode
  simp only [withSign_mod hlt, withSign_sign hlt, if_neg hnan, if_neg hinf]
  split
  · next hzero =>
    rw [Nat.mod_eq_of_lt (Nat.lt_of_div_eq_zero (Nat.two_pow_pos _) hzero)]
  · rfl

/-- The bits of `n` units of 2^q stand for that number. -/
theorem decode_units {f : FFmt} {q : Int} {n : Nat} (hlow : f.low ≤ q) (hn : n ≤ 2 ^ (f.f + 1)) (hq : q = f.low ∨ 2 ^ f.f ≤ n)
    (hmax : (q - f.low).toNat * 2 ^ f.f + n ≤ f.maxBits) (hbf : f = .bf16 → 2 ^ f.f ≤ (q - f.low).toNat * 2 ^ f.f + n) (neg : Bool) :
    ∃ m e, f.decode (f.withSign neg ((q - f.low).toNat * 2 ^ f.f + n)) = .fin neg m e ∧ (m : ℚ) * 2 ^ e = n * 2 ^ q := by
  have hF := Nat.two_pow_pos f.f
  have hpow : 2 ^ (f.f + 1) = 2 ^ f.f + 2 ^ f.f := by rw [pow_succ]; omega
  rw [decode_withSign hmax]
  generalize hj : (q - f.low).toNat = j at *
  rcases Nat.lt_or_ge n (2 ^ f.f) with hsub | hnorm
  · have hq0 : q = f.low := hq.resolve_right (by omega)
    obtain rfl : j = 0 := by omega
    have hnbf : f ≠ .bf16 := fun h => by have := hbf h; omega
    rw [Nat.zero_mul, Nat.zero_add, if_pos (Nat.div_eq_of_lt hsub), if_neg hnbf]
    exact ⟨n, f.low, rfl, by rw [hq0]⟩
  · rcases Nat.lt_or_ge n (2 ^ f.f + 2 ^ f.f) with hin | hover
    · have hbits : j * 2 ^ f.f + n = (n - 2 ^ f.f) + 2 ^ f.f * (j + 1) := by
        rw [Nat.mul_succ, Nat.mul_comm]
        omega
      have hdiv : (j * 2 ^ f.f + n) / 2 ^ f.f = j + 1 := by
        rw [hbits, Nat.add_mul_div_left _ _ hF, Nat.div_eq_of_lt (by omega), Nat.zero_add]
      have hmod : (j * 2 ^ f.f + n) % 2 ^ f.f = n - 2 ^ f.f := by
        rw [hbits, Nat.add_mul_mod_self_left, Nat.mod_eq_of_lt (by omega)]
      rw [hdiv, hmod, if_neg (Nat.succ_ne_zero j)]
      refine ⟨_, _, rfl, ?_⟩
      rw [show 2 ^ f.f + (n - 2 ^ f.f) = n by omega, show f.low + ((j + 1 : Nat) : Int) - 1 = q by omega]
    · have hbits : j * 2 ^ f.f + n = 2 ^ f.f * (j + 2) := by
        rw [Nat.mul_add, Nat.mul_comm]
        omega
      have hdiv : (j * 2 ^ f.f + n) / 2 ^ f.f = j + 2 := by rw [hbits, Nat.mul_div_cancel_left _ hF]
      have hmod : (j * 2 ^ f.f + n) % 2 ^ f.f = 0 := by rw [hbits, Nat.mul_mod_right]
      rw [hdiv, hmod, if_neg (by omega)]
      refine ⟨_, _, rfl, ?_⟩
      rw [show f.low + ((j + 2 : Nat) : Int) - 1 = q + 1 by omega, zpow_add_one₀ two_ne_zero, show n = 2 ^ f.f + 2 ^ f.f by omega]
      push_cast
      ring

/-- More bits than a normal magnitude's mean a greater number. -/
theorem units_le_bits {F j n ex M : Nat} {q E low : Int} (hj : (j : Int) = q - low) (hex : (ex : Int) = E - low) (hn : n ≤ 2 ^ (F + 1))
    (hq : q = low ∨ 2 ^ F ≤ n) (hM : 2 ^ F ≤ M) (hM' : M < 2 ^ (F + 1)) (hle : (n : ℚ) * 2 ^ q ≤ M * 2 ^ E) : j * 2 ^ F + n ≤ ex * 2 ^ F + M := by
  have hpow : 2 ^ (F + 1) = 2 ^ F * 2 := pow_succ 2 F
  have hE : (0 : ℚ) < 2 ^ E := zpow_pos two_pos E
  rcases lt_trichotomy q E with hlt | heq | hgt
  · have hsucc : (j + 1) * 2 ^ F ≤ ex * 2 ^ F := Nat.mul_le_mul_right _ (by omega)
    rw [Nat.succ_mul] at hsucc
    omega
  · subst heq
    have hnM : n ≤ M := by exact_mod_cast le_of_mul_le_mul_right hle hE
    obtain rfl : j = ex := by omega
    omega
  · have hn' : 2 ^ F ≤ n := hq.resolve_left (by omega)
    have htwo : 2 ≤ 2 ^ (q - E).toNat := Nat.le_self_pow (by omega) 2
    rw [zpow_split hgt.le, ← mul_assoc] at hle
    have hnat : n * 2 ^ (q - E).toNat ≤ M := by exact_mod_cast le_of_mul_le_mul_right hle hE
    have := Nat.mul_le_mul hn' htwo
    omega

end Sys2Proof.Proofs

/-! SUPPORT. Floating-point arithmetic: the arithmetic and sign forms, and what rounding to a format gives (08 R168-R171, 04 R90, R92). -/

namespace Sys2Proof.Proofs

open Sys2Proof Sys2Proof.Machine Sys2Proof.Laws Sys2Proof.Claims

/-! ## Signs -/

/-- The sign of a number as a factor. -/
abbrev signFactor (neg : Bool) : ℚ := if neg then -1 else 1

theorem signFactor_false : signFactor false = 1 := rfl

theorem signFactor_true : signFactor true = -1 := rfl

theorem ratio_fin (neg : Bool) (m : Nat) (e : Int) : ratio (.fin neg m e) = signFactor neg * (m * 2 ^ e) := mul_assoc ..

theorem signFactor_sq (neg : Bool) : signFactor neg * signFactor neg = 1 := by cases neg <;> norm_num [signFactor]

theorem abs_signFactor (neg : Bool) (a : ℚ) : |signFactor neg * a| = |a| := by cases neg <;> simp [signFactor]

theorem abs_sub_signFactor (neg : Bool) (a c : ℚ) : |signFactor neg * a - c| = |a - signFactor neg * c| := by
  rw [← abs_signFactor neg (a - signFactor neg * c), mul_sub, ← mul_assoc, signFactor_sq, one_mul]

/-! ## What rounding gives -/

/-- A number at or outside the ends of a cell. -/
def OutsideCell (u : ℚ) (k : Nat) (w : ℚ) : Prop := w ≤ k * u ∨ (k + 1) * u ≤ w

theorem cell_floor {x u w : ℚ} {k : Nat} (h : Cell x u k) (hw : OutsideCell u k w) (hle : w ≤ x) : w ≤ k * u :=
  hw.resolve_right fun hge => absurd (h.high.trans_le hge) (not_lt.mpr hle)

/-- The end of a cell at or above a value. -/
theorem cell_ceil {x u w : ℚ} {k n : Nat} (h : Cell x u k) (hn : n = k ∧ k * u = x ∨ n = k + 1 ∧ k * u ≠ x) :
    x ≤ n * u ∧ (OutsideCell u k w → x ≤ w → n * u ≤ w) := by
  rcases hn with ⟨rfl, hx⟩ | ⟨rfl, hx⟩
  · exact ⟨hx.ge, fun _ hle => hx.trans_le hle⟩
  · rw [Nat.cast_succ]
    refine ⟨h.high.le, fun hw hle => hw.resolve_left fun hge => hx ?_⟩
    exact le_antisymm h.low (hle.trans hge)

section
variable {f : FFmt} {mode : Mode} {neg inex : Bool} {m k n b : Nat} {e : Int}

/-- Seen with the value's sign, a member lies at or outside the ends of the value's cell. -/
theorem signed_gap (hplace : lastPlace f m e = f.low ∨ 2 ^ f.f ≤ k) {c : Nat} (hc : finite f c) :
    OutsideCell (2 ^ lastPlace f m e) k (signFactor neg * ratio (f.decode c)) := by
  have hu : (0 : ℚ) < 2 ^ lastPlace f m e := zpow_pos two_pos _
  obtain ⟨-, neg', mc, ec, hdec⟩ := hc
  obtain ⟨hmc, hec⟩ := decode_member hdec
  have hgap := member_gap hmc hec hplace
  have hpos : (0 : ℚ) ≤ mc * 2 ^ ec := by positivity
  have hk : (0 : ℚ) ≤ k * 2 ^ lastPlace f m e := by positivity
  rw [hdec, ratio_fin]
  unfold OutsideCell
  by_cases hneg : neg' = neg
  · rwa [hneg, ← mul_assoc, signFactor_sq, one_mul]
  · left
    rw [← mul_assoc, show signFactor neg * signFactor neg' = -1 by revert hneg; cases neg <;> cases neg' <;> simp [signFactor]]
    linarith

theorem rounds_units (hcell : Cell (m * 2 ^ e) (2 ^ lastPlace f m e) k) (hplace : lastPlace f m e = f.low ∨ 2 ^ f.f ≤ k)
    (hunits : Units mode neg (m * 2 ^ e) (2 ^ lastPlace f m e) k n inex)
    (hy : ratio (f.decode b) = signFactor neg * (n * 2 ^ lastPlace f m e)) (hparity : b % 2 = n % 2) : Rounds f mode (ratio (.fin neg m e)) b := by
  have ceil_end {neg' : Bool} (hn : n = k ∧ (neg = neg' → inex = false) ∨ n = k + 1 ∧ neg = neg') (hneg : neg = neg') :
      n = k ∧ k * (2 : ℚ) ^ lastPlace f m e = m * 2 ^ e ∨ n = k + 1 ∧ k * (2 : ℚ) ^ lastPlace f m e ≠ m * 2 ^ e := by
    rcases hn with ⟨hk, hex⟩ | ⟨hk, -⟩
    · exact .inl ⟨hk, (hunits.exact (hex hneg)).2⟩
    · refine .inr ⟨hk, hunits.inexact ?_⟩
      cases hinex : inex with
      | true => rfl
      | false => exact absurd ((hunits.exact hinex).1.symm.trans hk) (Nat.succ_ne_self k).symm
  have hgap {c : Nat} (hc : finite f c) := signed_gap (neg := neg) hplace hc
  have hfloor {w : ℚ} := cell_floor (w := w) hcell
  have hceil {w : ℚ} := cell_ceil (w := w) (n := n) hcell
  obtain ⟨hlow, hhigh⟩ := hcell
  obtain ⟨hexact, hinexact, hrtz, hrdn, hrup, hrne⟩ := hunits
  have hu : (0 : ℚ) < 2 ^ lastPlace f m e := zpow_pos two_pos _
  generalize (2 : ℚ) ^ lastPlace f m e = u at *
  have hx0 : (0 : ℚ) ≤ m * 2 ^ e := by positivity
  have hk0 : (0 : ℚ) ≤ k * u := by positivity
  rw [ratio_fin]
  generalize (m : ℚ) * 2 ^ e = x at *
  have hhigh' : x < k * u + u := by rw [add_mul, one_mul] at hhigh; exact hhigh
  have hsucc : ((k : ℚ) + 1) * u = k * u + u := by rw [add_mul, one_mul]
  have hcast : ((k + 1 : Nat) : ℚ) * u = k * u + u := by rw [Nat.cast_succ, hsucc]
  unfold Rounds
  dsimp only
  rw [hy]
  have hdist : |signFactor neg * x - signFactor neg * (n * u)| = |x - n * u| := by rw [abs_sub_signFactor, ← mul_assoc, signFactor_sq, one_mul]
  rw [hdist]
  refine ⟨?_, ?_, ?_, ?_⟩
  · intro hmode c hc
    rw [abs_sub_signFactor]
    have hne (hw : signFactor neg * ratio (f.decode c) = n * u) : ratio (f.decode c) = signFactor neg * (n * u) := by
      rw [← hw, ← mul_assoc, signFactor_sq, one_mul]
    have hgapc := hgap hc
    unfold OutsideCell at hgapc
    rw [hsucc] at hgapc
    generalize signFactor neg * ratio (f.decode c) = w at *
    rcases hrne hmode with ⟨rfl, hhalf, htie⟩ | ⟨rfl, hhalf, htie⟩
    · rw [abs_of_nonneg (by linarith : 0 ≤ x - n * u)]
      rcases hgapc with hw | hw
      · rw [abs_of_nonneg (by linarith : 0 ≤ x - w)]
        exact ⟨by linarith, fun heq h => absurd (hne (by linarith)) h⟩
      · rw [abs_of_nonpos (by linarith : x - w ≤ 0)]
        exact ⟨by linarith, fun heq _ => hparity.trans (htie (by linarith))⟩
    · rw [hcast] at hne ⊢
      rw [abs_of_nonpos (by linarith : x - (k * u + u) ≤ 0)]
      rcases hgapc with hw | hw
      · rw [abs_of_nonneg (by linarith : 0 ≤ x - w)]
        exact ⟨by linarith, fun heq _ => hparity.trans (by have := htie (by linarith); omega)⟩
      · rw [abs_of_nonpos (by linarith : x - w ≤ 0)]
        exact ⟨by linarith, fun heq h => absurd (hne (by linarith)) h⟩
  · intro hmode
    obtain rfl := hrtz hmode
    rw [abs_signFactor, abs_signFactor, abs_of_nonneg hx0, abs_of_nonneg hk0, abs_of_nonneg (by linarith : 0 ≤ x - n * u)]
    refine ⟨hlow, fun c hc hle => ?_⟩
    rw [abs_sub_signFactor]
    rw [← abs_signFactor neg] at hle
    have hw := hfloor (hgap hc) (abs_le.mp hle).2
    rw [abs_of_nonneg (by linarith)]
    linarith
  · intro hmode
    have hn := hrdn hmode
    cases neg with
    | false =>
      obtain ⟨rfl, -⟩ := hn.resolve_right (by simp)
      simp only [signFactor_false, one_mul] at hgap ⊢
      exact ⟨hlow, fun c hc hle => hfloor (hgap hc) hle⟩
    | true =>
      have hends := hceil (w := 0) (ceil_end hn rfl)
      simp only [signFactor_true, neg_one_mul, neg_le_neg_iff] at hgap ⊢
      exact ⟨hends.1, fun c hc hle => le_neg_of_le_neg ((hceil (ceil_end hn rfl)).2 (hgap hc) (le_neg_of_le_neg hle))⟩
  · intro hmode
    have hn := hrup hmode
    cases neg with
    | true =>
      obtain ⟨rfl, -⟩ := hn.resolve_right (by simp)
      simp only [signFactor_true, neg_one_mul, neg_le_neg_iff] at hgap ⊢
      exact ⟨hlow, fun c hc hle => neg_le_of_neg_le (hfloor (hgap hc) (neg_le_of_neg_le hle))⟩
    | false =>
      have hends := hceil (w := 0) (ceil_end hn rfl)
      simp only [signFactor_false, one_mul] at hgap ⊢
      exact ⟨hends.1, fun c hc hle => (hceil (ceil_end hn rfl)).2 (hgap hc) hle⟩

theorem roundTo_eq (hm : m ≠ 0) (hmode : mode ∈ [Mode.rne, .rtz, .rdn, .rup]) : roundTo f .ieee mode (.fin neg m e) =
    if f.maxBits < (roundMag f mode neg m e).1 then (overflowBits f .ieee mode neg, FFlag.ovf ||| FFlag.nx)
    else if f = .bf16 ∧ (roundMag f mode neg m e).1 < 2 ^ f.f ∧ (roundMag f mode neg m e).1 ≠ 0 then (f.withSign neg 0, FFlag.uf ||| FFlag.nx)
    else (f.withSign neg (roundMag f mode neg m e).1, (if (roundMag f mode neg m e).2 then FFlag.nx else 0)
      ||| (if (roundMag f mode neg m e).2 && tinyAfter f mode neg m e then FFlag.uf else 0)) := by
  obtain ⟨m, rfl⟩ := Nat.exists_eq_succ_of_ne_zero hm
  simp only [List.mem_cons, List.not_mem_nil, or_false] at hmode
  rcases hmode with rfl | rfl | rfl | rfl <;> rfl

/-- The cell of a number, its units, and the bits they make. -/
theorem roundMag_spec (f : FFmt) (neg : Bool) (e : Int) (hm : m ≠ 0) (hmode : mode ∈ [Mode.rne, .rtz, .rdn, .rup]) : ∃ k n,
    Cell (m * 2 ^ e) (2 ^ lastPlace f m e) k ∧ k < 2 ^ (f.f + 1) ∧ (lastPlace f m e = f.low ∨ 2 ^ f.f ≤ k)
      ∧ Units mode neg (m * 2 ^ e) (2 ^ lastPlace f m e) k n (roundMag f mode neg m e).2 ∧ (n = k ∨ n = k + 1)
      ∧ (roundMag f mode neg m e).1 = (lastPlace f m e - f.low).toNat * 2 ^ f.f + n := by
  obtain ⟨k, hcell, hunits⟩ := roundUnits_spec mode neg m e (lastPlace f m e)
  obtain ⟨hk, hplace⟩ := cell_units hm hcell
  exact ⟨k, _, hcell, hk, hplace, hunits hmode, (hunits hmode).ends hmode, rfl⟩

theorem lastPlace_low (f : FFmt) (m : Nat) (e : Int) : f.low ≤ lastPlace f m e := le_max_right _ _

/-- The largest finite magnitude as a normal number. -/
theorem maxBits_normal (f : FFmt) : 1 ≤ f.maxBits / 2 ^ f.f ∧ f.maxBits = (f.maxBits / 2 ^ f.f - 1) * 2 ^ f.f + (2 ^ f.f + f.maxBits % 2 ^ f.f) := by
  cases f <;> decide

/-- A number whose bits exceed those of the largest finite magnitude is greater than it. -/
theorem largest_lt (hm : m ≠ 0) (hmode : mode ∈ [Mode.rne, .rtz, .rdn, .rup]) (hover : f.maxBits < (roundMag f mode neg m e).1) :
    ratio (.fin false (2 ^ f.f + f.maxBits % 2 ^ f.f) (f.low + (f.maxBits / 2 ^ f.f : Nat) - 1)) < |ratio (.fin neg m e)| := by
  obtain ⟨k, n, hcell, hk, hplace, hunits, hends, hbits⟩ := roundMag_spec f neg e hm hmode
  obtain ⟨hex, hmax⟩ := maxBits_normal f
  have hfr := Nat.mod_lt f.maxBits (Nat.two_pow_pos f.f)
  have hpow : 2 ^ (f.f + 1) = 2 ^ f.f + 2 ^ f.f := by rw [pow_succ]; omega
  have hx0 : (0 : ℚ) ≤ m * 2 ^ e := by positivity
  have hu : (0 : ℚ) < 2 ^ lastPlace f m e := zpow_pos two_pos _
  rw [ratio_fin, ratio_fin, signFactor_false, one_mul, abs_signFactor, abs_of_nonneg hx0]
  have hM : 2 ^ f.f ≤ 2 ^ f.f + f.maxBits % 2 ^ f.f ∧ 2 ^ f.f + f.maxBits % 2 ^ f.f < 2 ^ (f.f + 1) := by omega
  generalize 2 ^ f.f + f.maxBits % 2 ^ f.f = M at hmax hM ⊢
  by_contra hge
  rw [not_lt] at hge
  generalize hE : f.low + (f.maxBits / 2 ^ f.f : Nat) - 1 = E at hge
  have hgap := member_gap hM.2 (show f.low ≤ E by omega) hplace
  have hle : (n : ℚ) * 2 ^ lastPlace f m e ≤ M * 2 ^ E := by
    rcases hgap with hbelow | habove
    · have hx := le_antisymm hcell.low (hge.trans hbelow)
      have hinex : (roundMag f mode neg m e).2 = false := by
        cases h : (roundMag f mode neg m e).2 with
        | false => rfl
        | true => exact absurd hx (hunits.inexact h)
      rw [(hunits.exact hinex).1, hx]
      exact hge
    · rcases hends with rfl | rfl
      · exact hcell.low.trans hge
      · rw [Nat.cast_succ]
        exact habove
  have hbound := units_le_bits (j := (lastPlace f m e - f.low).toNat) (ex := f.maxBits / 2 ^ f.f - 1) (low := f.low)
    (by have := lastPlace_low f m e; omega) (by omega) (show n ≤ 2 ^ (f.f + 1) by omega) (hplace.imp id (by omega)) hM.1 hM.2 hle
  omega

theorem nx_of_exactness (inex tiny : Bool) :
    ((if inex then FFlag.nx else 0) ||| (if inex && tiny then FFlag.uf else 0)) &&& FFlag.ovf = 0
    ∧ (((if inex then FFlag.nx else 0) ||| (if inex && tiny then FFlag.uf else 0)) &&& FFlag.nx = 0 ↔ inex = false) := by
  revert inex tiny
  decide

theorem finite_withSign (hb : b ≤ f.maxBits) (neg : Bool) {m : Nat} {e : Int} (hdec : f.decode (f.withSign neg b) = .fin neg m e) :
    finite f (f.withSign neg b) := by
  have hlt := hb.trans_lt (maxBits_lt f)
  have hwidth : 2 ^ f.width = f.signBit + f.signBit := by
    rw [FFmt.width, Nat.add_assoc, Nat.add_comm, pow_succ, Nat.mul_two]
    rfl
  refine ⟨?_, neg, m, e, hdec⟩
  cases neg
  · exact hlt.trans_le (by omega)
  · show f.signBit + b < _
    omega

theorem withSign_parity (neg : Bool) (b : Nat) : f.withSign neg b % 2 = b % 2 := by
  cases neg
  · rfl
  · have heven : f.signBit % 2 = 0 := by cases f <;> decide
    show (f.signBit + b) % 2 = _
    omega

theorem overflowBits_eq (hmode : mode ∈ [Mode.rne, .rtz, .rdn, .rup]) : overflowBits f .ieee mode neg =
    f.withSign neg (if mode = .rne ∨ (mode = .rup ∧ neg = false) ∨ (mode = .rdn ∧ neg = true) then f.infBits else f.maxBits) := by
  simp only [List.mem_cons, List.not_mem_nil, or_false] at hmode
  rcases hmode with rfl | rfl | rfl | rfl <;> cases neg <;> rfl

/-- A result within the format is its value's nearest member of those that the mode allows. -/
theorem rounds_in_range (hm : m ≠ 0) (hmode : mode ∈ [Mode.rne, .rtz, .rdn, .rup]) (hmax : (roundMag f mode neg m e).1 ≤ f.maxBits)
    (hbf : f = .bf16 → 2 ^ f.f ≤ (roundMag f mode neg m e).1) :
    finite f (f.withSign neg (roundMag f mode neg m e).1) ∧ Rounds f mode (ratio (.fin neg m e)) (f.withSign neg (roundMag f mode neg m e).1)
      ∧ ((roundMag f mode neg m e).2 = false ↔ ratio (f.decode (f.withSign neg (roundMag f mode neg m e).1)) = ratio (.fin neg m e)) := by
  obtain ⟨k, n, hcell, hk, hplace, hunits, hends, hbits⟩ := roundMag_spec f neg e hm hmode
  rw [hbits] at hmax hbf ⊢
  obtain ⟨m', e', hdec, hval⟩ := decode_units (lastPlace_low f m e) (show n ≤ 2 ^ (f.f + 1) by omega) (hplace.imp id (by omega)) hmax hbf neg
  have hratio : ratio (f.decode (f.withSign neg ((lastPlace f m e - f.low).toNat * 2 ^ f.f + n))) = signFactor neg * (n * 2 ^ lastPlace f m e) := by
    rw [hdec, ratio_fin, hval]
  have hparity : f.withSign neg ((lastPlace f m e - f.low).toNat * 2 ^ f.f + n) % 2 = n % 2 := by
    have heven : 2 ^ f.f % 2 = 0 := by cases f <;> decide
    rw [withSign_parity, Nat.add_mod, Nat.mul_mod, heven]
    simp
  refine ⟨finite_withSign hmax neg hdec, rounds_units hcell hplace hunits hratio hparity, ?_⟩
  have hu : (0 : ℚ) < 2 ^ lastPlace f m e := zpow_pos two_pos _
  have hcancel {a c : ℚ} : signFactor neg * a = signFactor neg * c ↔ a = c := mul_right_inj' (by cases neg <;> norm_num [signFactor])
  rw [hratio, ratio_fin, hcancel]
  constructor
  · intro hinex
    rw [(hunits.exact hinex).1]
    exact (hunits.exact hinex).2
  · intro heq
    cases hinex : (roundMag f mode neg m e).2 with
    | false => rfl
    | true =>
      rcases hends with rfl | rfl
      · exact absurd heq (hunits.inexact hinex)
      · rw [Nat.cast_succ] at heq
        exact absurd heq (ne_of_gt hcell.high)

end

/-! ## The sign forms -/

theorem signOf_eq (f : FFmt) (y : Nat) : signOf f y = decide (f.signBit ≤ y % (2 * f.signBit)) := by
  have hpos := signBit_pos f
  have hmod : y % (2 * f.signBit) = y % f.signBit + f.signBit * (y / f.signBit % 2) := by rw [Nat.mul_comm 2, Nat.mod_mul]
  have hlt := Nat.mod_lt y hpos
  rw [signOf, hmod, decide_eq_decide]
  rcases Nat.mod_two_eq_zero_or_one (y / f.signBit) with h | h <;> rw [h] <;> simp [hlt]

theorem not_signOf_eq (f : FFmt) (y : Nat) : (!signOf f y) = decide (y % (2 * f.signBit) < f.signBit) := by
  rw [signOf_eq, ← decide_not, decide_eq_decide, not_le]

theorem fsignElem_eq (f : FFmt) (x : Nat) (neg : Bool) : fsignElem f x neg = withSignBit f x neg := by
  unfold fsignElem withSignBit FFmt.withSign
  cases neg
  · rfl
  · simp only [if_true, Nat.add_comm]

section
variable {s : State} {i : Instr} {d a b : BitVec 6}

theorem does_fabs (hexec : exec i s = issueSlot i (vf1 2 d a fun f _ x => (fsignElem f x false, 0)) s) (hfp : fpTag (vtag s a) = true) :
    Does s i (float1 s 2 d a fun f _ x => (withSignBit f x false, 0)) := by
  have h := does_float1 hexec hfp
  simp only [fsignElem_eq] at h
  exact h

theorem does_fneg (hexec : exec i s = issueSlot i (vf1 2 d a fun f _ x => (fsignElem f x (!signOf f x), 0)) s) (hfp : fpTag (vtag s a) = true) :
    Does s i (float1 s 2 d a fun f _ x => (withSignBit f x (decide (x % (2 * f.signBit) < f.signBit)), 0)) := by
  have h := does_float1 hexec hfp
  simp only [fsignElem_eq, not_signOf_eq] at h
  exact h

theorem does_fcpys (hexec : exec i s = issueSlot i (vf2 2 d a b fun f _ x y => (fsignElem f x (signOf f y), 0)) s) (hfp : fpTag (vtag s a) = true)
    (htag : vtag s b = vtag s a) : Does s i (float2 s 2 d a b fun f _ x y => (withSignBit f x (decide (f.signBit ≤ y % (2 * f.signBit))), 0)) := by
  have h := does_float2 hexec hfp htag
  simp only [fsignElem_eq, signOf_eq] at h
  exact h

end

/-- What rounding gives: a member as the mode says, an overflow, or in BF16 no subnormal. -/
theorem rounding_values (f : FFmt) (mode : Mode) (neg : Bool) (m : Nat) (e : Int) (hm : m ≠ 0) (hmode : mode ∈ [Mode.rne, .rtz, .rdn, .rup]) :
    let x := ratio (.fin neg m e)
    let r := roundTo f .ieee mode (.fin neg m e)
    let largest := ratio (.fin false (2 ^ f.f + f.maxBits % 2 ^ f.f) (f.low + (f.maxBits / 2 ^ f.f : Nat) - 1))
    (r.2 &&& FFlag.ovf = 0 → (f = .bf16 → r.1 % f.signBit ≠ 0) →
      finite f r.1 ∧ Rounds f mode x r.1 ∧ (r.2 &&& FFlag.nx = 0 ↔ ratio (f.decode r.1) = x))
    ∧ (r.2 &&& FFlag.ovf ≠ 0 → largest < |x| ∧ r.2 = FFlag.ovf ||| FFlag.nx
        ∧ r.1 = f.withSign neg (if mode = .rne ∨ (mode = .rup ∧ neg = false) ∨ (mode = .rdn ∧ neg = true) then f.infBits else f.maxBits))
    ∧ (f = .bf16 → r.1 % f.signBit = 0 ∨ 2 ^ f.f ≤ r.1 % f.signBit) := by
  intro x r largest
  have hr : r = _ := roundTo_eq hm hmode
  have hzero : f.withSign neg 0 % f.signBit = 0 := withSign_mod (signBit_pos f) neg
  clear_value r
  split at hr
  · next hover =>
    rw [hr]
    refine ⟨fun h => absurd h (show ¬ (FFlag.ovf ||| FFlag.nx) &&& FFlag.ovf = 0 by decide), fun _ => ⟨largest_lt hm hmode hover, rfl, overflowBits_eq hmode⟩, fun hbf => .inr ?_⟩
    subst hbf
    rw [overflowBits_eq hmode]
    dsimp only
    split
    · rw [withSign_mod (by decide)]
      decide
    · rw [withSign_mod (by decide)]
      decide
  · next hin =>
    split at hr
    · next hflush =>
      rw [hr]
      exact ⟨fun _ h => absurd hzero (h hflush.1), fun h => absurd h (show ¬ (FFlag.uf ||| FFlag.nx) &&& FFlag.ovf ≠ 0 by decide), fun _ => .inl hzero⟩
    · next hkeep =>
      have hmax : (roundMag f mode neg m e).1 ≤ f.maxBits := Nat.le_of_not_lt hin
      have hmod : f.withSign neg (roundMag f mode neg m e).1 % f.signBit = (roundMag f mode neg m e).1 := withSign_mod (hmax.trans_lt (maxBits_lt f)) neg
      have hbf (h : f = .bf16) : (roundMag f mode neg m e).1 = 0 ∨ 2 ^ f.f ≤ (roundMag f mode neg m e).1 := by
        by_contra hno
        exact hkeep ⟨h, by omega, by omega⟩
      obtain ⟨hovf, hnx⟩ := nx_of_exactness (roundMag f mode neg m e).2 (tinyAfter f mode neg m e)
      rw [hr]
      dsimp only
      rw [hmod]
      refine ⟨fun _ hnonzero => ?_, fun h => absurd hovf h, hbf⟩
      obtain ⟨hfinite, hrounds, hexact⟩ := rounds_in_range hm hmode hmax fun h => (hbf h).resolve_left (hnonzero h)
      exact ⟨hfinite, hrounds, hnx.trans hexact⟩

/-- Settles O8: the forms round an exact result once, and rounding gives an end of the value's cell between the format's members. -/
theorem floatArithmeticValues : Obligations.FloatArithmeticValues :=
  ⟨fun _ _ _ _ hfp => ⟨fun htag => ⟨⟨does_float2 rfl hfp htag, does_float2 rfl hfp htag⟩, ⟨does_float2 rfl hfp htag, does_float2 rfl hfp htag⟩,
    ⟨does_float2 rfl hfp htag, does_float2 rfl hfp htag⟩,
    fun htag' => ⟨⟨does_float3 rfl hfp htag htag', does_float3 rfl hfp htag htag'⟩, does_float3 rfl hfp htag htag', does_float3 rfl hfp htag htag'⟩,
    does_fcpys rfl hfp htag, does_fcpys rfl hfp htag⟩, ⟨does_fabs rfl hfp, does_fabs rfl hfp⟩, does_fneg rfl hfp, does_fneg rfl hfp⟩, rounding_values⟩

end Sys2Proof.Proofs

/-! SUPPORT. Prefixes of a scanned sequence: what each running result is of the elements so far (08 R186, R170). -/

namespace Sys2Proof.Proofs

open Sys2Proof Sys2Proof.Machine Sys2Proof.Laws Sys2Proof.Claims

/-! ## Running results -/

/-- The running result at a place is that of the elements up to it. -/
theorem scanFrom_getElem {α : Type} (g : α → Nat → α) (xs : List Nat) (z : α) (k : Nat) (hk : k < xs.length) :
    (scanFrom g z xs)[k]? = some ((xs.take (k + 1)).foldl g z) := by
  induction xs generalizing z k with
  | nil => exact absurd hk (Nat.not_lt_zero k)
  | cons x xs ih =>
    cases k with
    | zero => rfl
    | succ k => exact ih (g z x) k (Nat.lt_of_succ_lt_succ hk)

theorem scanFrom_map_getD {α : Type} (g : α → Nat → α) (h : α → Flagged Nat) {xs : List Nat} (z : α) {k : Nat} (hk : k < xs.length) :
    ((scanFrom g z xs).map h).getD k (0, 0) = h ((xs.take (k + 1)).foldl g z) := by
  rw [List.getD_eq_getElem?_getD, List.getElem?_map, scanFrom_getElem g xs z k hk]
  rfl

/-! ## Integer tags -/

section
variable {t : Tag}

theorem extended_of_lt {x : Nat} (h : x < 2 ^ width t) : extended t x = intElem t x := by
  have hx := intElem_toNat t (BitVec.ofNat (width t) x)
  rw [BitVec.toNat_ofNat, Nat.mod_eq_of_lt h] at hx
  rw [hx, extended, BitVec.toNat_ofNat, Nat.mod_eq_of_lt h]

theorem extended_inj {x y : Nat} (hx : x < 2 ^ width t) (hy : y < 2 ^ width t) (h : extended t x = extended t y) : x = y := by
  have hbits : BitVec.ofNat (width t) x = BitVec.ofNat (width t) y := by
    unfold extended at h
    split at h
    · exact BitVec.eq_of_toInt_eq h
    · exact BitVec.eq_of_toNat_eq (by exact_mod_cast h)
  have hnat := congrArg BitVec.toNat hbits
  rwa [BitVec.toNat_ofNat, BitVec.toNat_ofNat, Nat.mod_eq_of_lt hx, Nat.mod_eq_of_lt hy] at hnat

theorem extended_range {x : Nat} : (Fmt.range t).1 ≤ extended t x ∧ extended t x ≤ (Fmt.range t).2 := by
  have hlow := BitVec.le_toInt (BitVec.ofNat (width t) x)
  have hhigh := BitVec.toInt_lt (x := BitVec.ofNat (width t) x)
  have hnat := (BitVec.ofNat (width t) x).isLt
  unfold extended Fmt.range
  split
  · push_cast
    exact ⟨hlow, by linarith⟩
  · dsimp only
    unfold width at *
    omega

theorem wrapTo_lt (w : Nat) (v : Int) : wrapTo w v < 2 ^ w := by
  rw [wrapTo_eq]
  exact BitVec.isLt _

/-- A value in the range of a tag is that of its element. -/
theorem extended_wrapTo {v : Int} (hlow : (Fmt.range t).1 ≤ v) (hhigh : v ≤ (Fmt.range t).2) : extended t (wrapTo (width t) v) = v := by
  have hpow : 2 ^ width t = 2 * 2 ^ (width t - 1) := by
    rw [← pow_succ', Nat.sub_add_cancel (width_pos t)]
  unfold extended
  rw [wrapTo_eq, BitVec.ofNat_toNat, BitVec.setWidth_eq]
  unfold Fmt.range at hlow hhigh
  split
  · next hsigned =>
    rw [if_pos hsigned] at hlow hhigh
    rw [BitVec.toInt_ofInt]
    dsimp only at hlow hhigh
    rw [hpow]
    unfold width at *
    exact Int.bmod_eq_of_le (by omega) (by omega)
  · next hsigned =>
    rw [if_neg hsigned] at hlow hhigh
    rw [BitVec.toNat_ofInt]
    dsimp only at hlow hhigh
    unfold width at *
    rw [Int.emod_eq_of_lt hlow (by omega)]
    omega

theorem foldl_sum (w : Nat) (l : List Nat) (z : Nat) (hz : z < 2 ^ w) : l.foldl (fun z x => (z + x) % 2 ^ w) z = (z + l.sum) % 2 ^ w := by
  induction l generalizing z with
  | nil => exact (Nat.mod_eq_of_lt hz).symm
  | cons x l ih =>
    rw [List.foldl_cons, ih _ (Nat.mod_lt _ (Nat.two_pow_pos w)), List.sum_cons, Nat.mod_add_mod, Nat.add_assoc]

/-- A running extreme of elements, from the end of the range. -/
theorem foldl_pick {max : Bool} {start : Nat} (hstart : start < 2 ^ width t)
    (hend : ∀ z < 2 ^ width t, if max then extended t start ≤ extended t z else extended t z ≤ extended t start)
    (l : List Nat) (hl : ∀ x ∈ l, x < 2 ^ width t) : (l = [] ∧ l.foldl (ipickElem t max) start = start)
      ∨ ∃ y ∈ l, l.foldl (ipickElem t max) start = y ∧ ∀ z ∈ l, if max then extended t z ≤ extended t y else extended t y ≤ extended t z := by
  induction l using List.reverseRecOn with
  | nil => exact .inl ⟨rfl, rfl⟩
  | append_singleton l x ih =>
    have hx : x < 2 ^ width t := hl x (by simp)
    have hlt : ∀ z ∈ l, z < 2 ^ width t := fun z hz => hl z (by simp [hz])
    right
    rw [List.foldl_append, List.foldl_cons, List.foldl_nil]
    have hpick {y : Nat} (hy : y < 2 ^ width t) : ipickElem t max y x = if decide (extended t y < extended t x) != max then y else x := by
      rw [extended_of_lt hy, extended_of_lt hx]
      rfl
    rcases ih hlt with ⟨rfl, hfold⟩ | ⟨y, hy, hfold, hbest⟩
    · have hx' : (if max then extended t start ≤ extended t x else extended t x ≤ extended t start) := hend x hx
      have heq (h : extended t x = extended t start) : start = x := (extended_inj hx hstart h).symm
      refine ⟨x, by simp, ?_, fun z hz => ?_⟩
      · rw [hfold, hpick hstart]
        split
        · next hcond =>
          cases max
          · have : extended t start < extended t x := by simpa using hcond
            simp at hx'
            omega
          · have : extended t x ≤ extended t start := by simpa using hcond
            simp at hx'
            exact heq (by omega)
        · rfl
      · obtain rfl : z = x := by simpa using hz
        split <;> exact le_refl _
    · rw [hfold, hpick (hlt y hy)]
      split
      · next hcond =>
        refine ⟨y, by simp [hy], rfl, fun z hz => ?_⟩
        rcases List.mem_append.mp hz with hz | hz
        · exact hbest z hz
        · obtain rfl := List.mem_singleton.mp hz
          cases max
          · have : extended t y < extended t z := by simpa using hcond
            simpa using this.le
          · simpa using hcond
      · next hcond =>
        refine ⟨x, by simp, rfl, fun z hz => ?_⟩
        rcases List.mem_append.mp hz with hz | hz
        · have hz' := hbest z hz
          cases max
          · have : extended t x ≤ extended t y := by simpa using hcond
            simp at hz' ⊢
            omega
          · have : extended t y < extended t x := by simpa using hcond
            simp at hz' ⊢
            omega
        · obtain rfl := List.mem_singleton.mp hz
          split <;> exact le_refl _

theorem isInt_not_fp (h : fpTag t = true) : Fmt.isInt t = false := by
  revert t
  decide

end

/-! ## Exact sums -/

theorem add_comm_right (f : FFmt) (z : ExactSum) (x y : Nat) : (z.add f x).add f y = (z.add f y).add f x := by
  have hcases (w : ExactSum) (u : Nat) : ∃ v p n k nan sig pinf ninf, ∀ w : ExactSum, w.add f u =
      { val := w.val + v, plus := w.plus || p, minus := w.minus || n, nonzero := w.nonzero || k, nan := w.nan || nan, sig := w.sig || sig
        pinf := w.pinf || pinf, ninf := w.ninf || ninf } := by
    unfold ExactSum.add
    cases f.decode u with
    | nan s => exact ⟨0, false, false, false, true, s, false, false, fun w => by simp⟩
    | inf n => cases n <;> [exact ⟨0, false, false, false, false, false, true, false, fun w => by simp⟩;
        exact ⟨0, false, false, false, false, false, false, true, fun w => by simp⟩]
    | fin n m e =>
      by_cases hm : m = 0
      · cases n <;> [exact ⟨0, true, false, false, false, false, false, false, fun w => by simp [hm]⟩;
          exact ⟨0, false, true, false, false, false, false, false, fun w => by simp [hm]⟩]
      · exact ⟨Num.signed n (m <<< (e - f.low).toNat), false, false, true, false, false, false, false, fun w => by simp [hm]⟩
  obtain ⟨v, p, n, k, nan, sig, pinf, ninf, hx⟩ := hcases z x
  obtain ⟨v', p', n', k', nan', sig', pinf', ninf', hy⟩ := hcases z y
  rw [hx, hy, hy, hx]
  simp only [Bool.or_right_comm, Int.add_right_comm]

theorem foldl_add_perm (f : FFmt) {xs ys : List Nat} (h : ys.Perm xs) (z : ExactSum) : ys.foldl (ExactSum.add f) z = xs.foldl (ExactSum.add f) z :=
  haveI : RightCommutative (ExactSum.add f) := ⟨add_comm_right f⟩
  h.foldl_eq z

end Sys2Proof.Proofs

/-! SUPPORT. Order of numbers, and extremes of floating-point sequences (08 R170, R186). -/

namespace Sys2Proof.Proofs

open Sys2Proof Sys2Proof.Machine Sys2Proof.Laws Sys2Proof.Claims

/-! ## The order of numbers -/

/-- Where a number that is no NaN stands among the others. -/
def place : Machine.Num → WithBot (WithTop ℚ)
  | .inf true => ⊥
  | .inf false => ((⊤ : WithTop ℚ) : WithBot (WithTop ℚ))
  | .fin n m e => ((ratio (.fin n m e) : WithTop ℚ) : WithBot (WithTop ℚ))
  | .nan _ => ⊥

theorem order_fin (a b : Bool) (m n : Nat) (e f : Int) :
    ((Machine.Num.fin a m e).order (.fin b n f) < 0 ↔ ratio (.fin a m e) < ratio (.fin b n f))
    ∧ ((Machine.Num.fin a m e).order (.fin b n f) = 0 ↔ ratio (.fin a m e) = ratio (.fin b n f)) := by
  have hvalue (neg : Bool) (m : Nat) (e lo : Int) (h : lo ≤ e) :
      ratio (.fin neg m e) = (Num.signed neg (m <<< (e - lo).toNat) : Int) * (2 : ℚ) ^ lo := by
    rw [ratio_fin, zpow_split h, Nat.shiftLeft_eq, Num.signed]
    cases neg
    · rw [signFactor_false, if_neg Bool.false_ne_true]
      push_cast
      ring
    · rw [signFactor_true, if_pos rfl]
      push_cast
      ring
  have hlo : (0 : ℚ) < 2 ^ min e f := zpow_pos two_pos _
  rw [hvalue a m e _ (min_le_left e f), hvalue b n f _ (min_le_right e f), mul_lt_mul_iff_left₀ hlo, mul_left_inj' hlo.ne', Int.cast_lt, Int.cast_inj]
  unfold Num.order
  dsimp only
  generalize Num.signed a _ = x
  generalize Num.signed b _ = y
  split_ifs with hlt heq
  · exact ⟨by simp [hlt], by simp [hlt.ne]⟩
  · exact ⟨by simp [heq], by simp [heq]⟩
  · exact ⟨by simp [hlt], by simp [heq]⟩

theorem order_place {p q : Machine.Num} (hp : p.isNan = false) (hq : q.isNan = false) :
    (p.order q < 0 ↔ place p < place q) ∧ (p.order q = 0 ↔ place p = place q) := by
  cases p with
  | nan s => cases hp
  | inf a =>
    cases q with
    | nan s => cases hq
    | inf b => cases a <;> cases b <;> simp [Num.order, place]
    | fin b n f => cases a <;> simp [Num.order, place]
  | fin a m e =>
    cases q with
    | nan s => cases hq
    | inf b =>
      cases b
      · have hlt : place (.fin a m e) < place (.inf false) := WithBot.coe_lt_coe.mpr (WithTop.coe_lt_top _)
        exact ⟨iff_of_true (show (-1 : Int) < 0 by decide) hlt, iff_of_false (show ¬ (-1 : Int) = 0 by decide) hlt.ne⟩
      · exact ⟨iff_of_false (show ¬ (1 : Int) < 0 by decide) not_lt_bot, iff_of_false (show ¬ (1 : Int) = 0 by decide) WithBot.coe_ne_bot⟩
    | fin b n f =>
      obtain ⟨hlt, heq⟩ := order_fin a b m n e f
      rw [hlt, heq]
      simp [place]

/-- The same with −0 below +0. -/
def signedPlace (p : Machine.Num) : WithBot (WithTop ℚ) ×ₗ Bool := toLex (place p, !p.sign)

section
variable {p q : Machine.Num} (hp : p.isNan = false) (hq : q.isNan = false)
include hp hq

theorem totalBefore_iff : totalBefore p q = true ↔ signedPlace p < signedPlace q := by
  obtain ⟨hlt, heq⟩ := order_place hp hq
  unfold signedPlace
  rw [Prod.Lex.toLex_lt_toLex, totalBefore]
  simp only [Bool.or_eq_true, Bool.and_eq_true, decide_eq_true_eq, hlt, heq, and_assoc]
  cases p.sign <;> cases q.sign <;> simp

theorem below_iff : (p.order q < 0 ∨ p.order q = 0 ∧ (q.sign = true → p.sign = true)) ↔ signedPlace p ≤ signedPlace q := by
  obtain ⟨hlt, heq⟩ := order_place hp hq
  unfold signedPlace
  rw [Prod.Lex.toLex_le_toLex, hlt, heq]
  cases p.sign <;> cases q.sign <;> simp

end

/-! ## Numbers as they are read -/

theorem decode_bf16_zero {x : Nat} (h : (FFmt.bf16.decode x).isZero = true) : FFmt.bf16.decode x = .fin (FFmt.bf16.decode x).sign 0 FFmt.bf16.low := by
  have hfr := Nat.two_pow_pos FFmt.bf16.f
  unfold FFmt.decode at h ⊢
  dsimp only at h ⊢
  generalize decide (x / FFmt.bf16.signBit % 2 = 1) = neg at h ⊢
  generalize x % FFmt.bf16.signBit = mag at h ⊢
  rw [if_neg (by simp)] at h ⊢
  split_ifs at h ⊢
  · cases h
  · cases h
  · rfl
  · exact absurd rfl ‹¬ FFmt.bf16 = FFmt.bf16›
  · generalize hm : 2 ^ FFmt.bf16.f + mag % 2 ^ FFmt.bf16.f = m at h
    cases m with
    | zero => omega
    | succ m => cases h

theorem decode_asRead (f : FFmt) (x : Nat) : f.decode (asRead f x) = f.decode x := by
  unfold asRead
  split
  · next h =>
    obtain ⟨rfl, hzero⟩ := h
    rw [decode_bf16_zero hzero, decode_withSign (Nat.zero_le _)]
    rfl
  · rfl

theorem asRead_asRead (f : FFmt) (x : Nat) : asRead f (asRead f x) = asRead f x := by
  have h := decode_asRead f x
  unfold asRead at h ⊢
  split
  · next hcond =>
    rw [if_pos hcond] at h
    rw [h, if_pos hcond]
  · rfl

/-! ## Extremes -/

/-- `z` is not beyond `y` in the direction of the extreme. -/
def Within (f : FFmt) (max : Bool) (y z : Nat) : Prop :=
  if max then signedPlace (f.decode z) ≤ signedPlace (f.decode y) else signedPlace (f.decode y) ≤ signedPlace (f.decode z)

theorem Within.refl (f : FFmt) (max : Bool) (y : Nat) : Within f max y y := by
  unfold Within
  split <;> exact le_refl _

theorem Within.trans {f : FFmt} {max : Bool} {x y z : Nat} (h : Within f max x y) (h' : Within f max y z) : Within f max x z := by
  unfold Within at *
  split_ifs at h h' ⊢
  · exact h'.trans h
  · exact h.trans h'

/-- What a running extreme has met: the extreme of its numbers, and whether one of its elements signals. -/
structure Extreme (f : FFmt) (max : Bool) (l : List Nat) (z : Option Nat × Bool) : Prop where
  signals : z.2 = l.any fun x => (f.decode x).isSig
  best : ((∀ x ∈ l, (f.decode x).isNan = true) ∧ z.1 = none)
    ∨ ∃ y ∈ l, (f.decode y).isNan = false ∧ z.1 = some (asRead f y) ∧ ∀ x ∈ l, (f.decode x).isNan = false → Within f max y x

theorem isSig_number {p : Machine.Num} (h : p.isNan = false) : p.isSig = false := by
  cases p with
  | nan s => cases h
  | _ => rfl

theorem pick_number {f : FFmt} {max : Bool} {x y : Nat} (hx : (f.decode x).isNan = false) (hy : (f.decode y).isNan = false) :
    ((fpickElem f max (asRead f y) x).1 = asRead f y ∧ Within f max y x) ∨ ((fpickElem f max (asRead f y) x).1 = asRead f x ∧ Within f max x y) := by
  rw [fpickElem_numbers (by rw [decode_asRead]; exact hy) hx, decode_asRead, asRead_asRead]
  have hbefore := totalBefore_iff hy hx
  unfold Within
  cases max
  · cases h : totalBefore (f.decode y) (f.decode x) with
    | true => exact .inl ⟨rfl, (hbefore.mp h).le⟩
    | false => exact .inr ⟨rfl, not_lt.mp fun hlt => by rw [hbefore.mpr hlt] at h; cases h⟩
  · cases h : totalBefore (f.decode y) (f.decode x) with
    | true => exact .inr ⟨rfl, (hbefore.mp h).le⟩
    | false => exact .inl ⟨rfl, not_lt.mp fun hlt => by rw [hbefore.mpr hlt] at h; cases h⟩

theorem extreme_foldl (f : FFmt) (max : Bool) (l : List Nat) : Extreme f max l (l.foldl (fpBest f max) (none, false)) := by
  induction l using List.reverseRecOn with
  | nil => exact ⟨rfl, .inl ⟨fun _ h => (nomatch h), rfl⟩⟩
  | append_singleton l x ih =>
    rw [List.foldl_append, List.foldl_cons, List.foldl_nil]
    generalize l.foldl (fpBest f max) (none, false) = z at ih
    obtain ⟨hsig, hbest⟩ := ih
    have hany : ((l ++ [x]).any fun x => (f.decode x).isSig) = (z.2 || (f.decode x).isSig) := by simp [hsig]
    unfold fpBest
    dsimp only
    cases hx : (f.decode x).isNan with
    | true =>
      rw [if_pos rfl]
      refine ⟨hany.symm, hbest.imp (fun ⟨hall, hnone⟩ => ⟨fun y hy => ?_, hnone⟩) fun ⟨y, hy, hnum, hsome, hext⟩ =>
        ⟨y, by simp [hy], hnum, hsome, fun u hu hnu => ?_⟩⟩
      · rcases List.mem_append.mp hy with hy | hy
        · exact hall y hy
        · rw [List.mem_singleton.mp hy]
          exact hx
      · rcases List.mem_append.mp hu with hu | hu
        · exact hext u hu hnu
        · rw [List.mem_singleton.mp hu, hx] at hnu
          cases hnu
    | false =>
      rw [if_neg Bool.false_ne_true]
      rw [isSig_number hx, Bool.or_false] at hany
      rcases hbest with ⟨hall, hnone⟩ | ⟨y, hy, hnum, hsome, hext⟩
      · rw [hnone]
        refine ⟨hany.symm, .inr ⟨x, by simp, hx, rfl, fun u hu hnu => ?_⟩⟩
        rcases List.mem_append.mp hu with hu | hu
        · rw [hall u hu] at hnu
          cases hnu
        · rw [List.mem_singleton.mp hu]
          exact .refl f max x
      · rw [hsome]
        rcases pick_number (max := max) hx hnum with ⟨hpick, hwithin⟩ | ⟨hpick, hwithin⟩
        · refine ⟨hany.symm, .inr ⟨y, by simp [hy], hnum, congrArg some hpick, fun u hu hnu => ?_⟩⟩
          rcases List.mem_append.mp hu with hu | hu
          · exact hext u hu hnu
          · rw [List.mem_singleton.mp hu]
            exact hwithin
        · refine ⟨hany.symm, .inr ⟨x, by simp, hx, congrArg some hpick, fun u hu hnu => ?_⟩⟩
          rcases List.mem_append.mp hu with hu | hu
          · exact hwithin.trans (hext u hu hnu)
          · rw [List.mem_singleton.mp hu]
            exact .refl f max x

/-! ## The prefixes of each kind of tag -/

section
variable {t : Tag} (m : Mode) {xs : List Nat} {k : Nat}

theorem prefixes_sum (hint : Fmt.isInt t = true) (hk : k < xs.length) :
    (prefixes t 0 m xs).1.getD k (0, 0) = ((xs.take (k + 1)).sum % 2 ^ width t, 0) := by
  unfold prefixes
  rw [if_pos hint]
  refine (scanFrom_map_getD _ (fun z => (z, 0)) 0 hk).trans ?_
  rw [foldl_sum _ _ _ (Nat.two_pow_pos _), Nat.zero_add]

/-- What a maximum or minimum of integers gives over the first elements. -/
theorem prefixes_pick (hint : Fmt.isInt t = true) (hk : k < xs.length) (hxs : ∀ x ∈ xs, x < 2 ^ width t) :
    (∃ y ∈ xs.take (k + 1), (prefixes t 1 m xs).1.getD k (0, 0) = (y, 0) ∧ ∀ z ∈ xs.take (k + 1), extended t z ≤ extended t y)
    ∧ ∃ y ∈ xs.take (k + 1), (prefixes t 2 m xs).1.getD k (0, 0) = (y, 0) ∧ ∀ z ∈ xs.take (k + 1), extended t y ≤ extended t z := by
  have hne : xs.take (k + 1) ≠ [] := List.ne_nil_of_length_pos (by rw [List.length_take]; omega)
  have hpre : ∀ x ∈ xs.take (k + 1), x < 2 ^ width t := fun x hx => hxs x (List.mem_of_mem_take hx)
  have hrange {z : Nat} := extended_range (t := t) (x := z)
  have hlohi : (Fmt.range t).1 ≤ (Fmt.range t).2 := (hrange (z := 0)).1.trans hrange.2
  have hlo : extended t (wrapTo (width t) (Fmt.range t).1) = (Fmt.range t).1 := extended_wrapTo (le_refl _) hlohi
  have hhi : extended t (wrapTo (width t) (Fmt.range t).2) = (Fmt.range t).2 := extended_wrapTo hlohi (le_refl _)
  constructor
  · have hpick := foldl_pick (max := true) (wrapTo_lt _ (Fmt.range t).1) (fun z _ => by rw [if_pos rfl, hlo]; exact hrange.1) _ hpre
    obtain ⟨y, hy, hfold, hbest⟩ := hpick.resolve_left fun h => hne h.1
    refine ⟨y, hy, ?_, hbest⟩
    unfold prefixes
    rw [if_pos hint]
    exact (scanFrom_map_getD _ (fun z => (z, 0)) _ hk).trans (congrArg (fun z => (z, (0 : FFlags))) hfold)
  · have hpick := foldl_pick (max := false) (wrapTo_lt _ (Fmt.range t).2)
      (fun z _ => by rw [if_neg Bool.false_ne_true, hhi]; exact hrange.2) _ hpre
    obtain ⟨y, hy, hfold, hbest⟩ := hpick.resolve_left fun h => hne h.1
    refine ⟨y, hy, ?_, hbest⟩
    unfold prefixes
    rw [if_pos hint]
    exact (scanFrom_map_getD _ (fun z => (z, 0)) _ hk).trans (congrArg (fun z => (z, (0 : FFlags))) hfold)

theorem prefixes_empty_int (hint : Fmt.isInt t = true) : (prefixes t 0 m xs).2 = 0
    ∧ ∀ z < 2 ^ width t, extended t (prefixes t 1 m xs).2 ≤ extended t z ∧ extended t z ≤ extended t (prefixes t 2 m xs).2 := by
  have hrange {z : Nat} := extended_range (t := t) (x := z)
  have hlohi : (Fmt.range t).1 ≤ (Fmt.range t).2 := (hrange (z := 0)).1.trans hrange.2
  have hlo : extended t (wrapTo (width t) (Fmt.range t).1) = (Fmt.range t).1 := extended_wrapTo (le_refl _) hlohi
  have hhi : extended t (wrapTo (width t) (Fmt.range t).2) = (Fmt.range t).2 := extended_wrapTo hlohi (le_refl _)
  unfold prefixes
  simp only [if_pos hint]
  exact ⟨rfl, fun z _ => ⟨hlo.le.trans hrange.1, hrange.2.trans hhi.ge⟩⟩

theorem prefixes_exact (hfp : fpTag t = true) (hk : k < xs.length) : (prefixes t 0 m xs).1.getD k (0, 0) =
    ExactSum.round (fpFmt t) m ((xs.take (k + 1)).foldl (ExactSum.add (fpFmt t)) ExactSum.start) := by
  unfold prefixes
  simp only [isInt_not_fp hfp, Bool.false_eq_true, if_false]
  exact scanFrom_map_getD _ (ExactSum.round (fpFmt t) m) _ hk

/-- A floating-point extreme over the first elements is that of what has been met. -/
theorem prefixes_extreme (hfp : fpTag t = true) (hk : k < xs.length) {o : BitVec 2} (ho : o ≠ 0) :
    ∃ z, Extreme (fpFmt t) (decide (o = 1)) (xs.take (k + 1)) z
      ∧ (prefixes t o m xs).1.getD k (0, 0) = (z.1.getD (fpFmt t).nanBits, if z.2 then FFlag.nv else 0) := by
  refine ⟨_, extreme_foldl (fpFmt t) (decide (o = 1)) (xs.take (k + 1)), ?_⟩
  unfold prefixes
  simp only [isInt_not_fp hfp, Bool.false_eq_true, if_false, if_neg ho]
  exact scanFrom_map_getD (fpBest (fpFmt t) (decide (o = 1))) (fun z => (z.1.getD (fpFmt t).nanBits, if z.2 then FFlag.nv else 0)) (none, false) hk

theorem prefixes_empty_fp (hfp : fpTag t = true) : (prefixes t 0 m xs).2 = 0 ∧ (prefixes t 1 m xs).2 = (fpFmt t).withSign true (fpFmt t).infBits
    ∧ (prefixes t 2 m xs).2 = (fpFmt t).infBits := by
  unfold prefixes
  simp only [isInt_not_fp hfp, Bool.false_eq_true, if_false]
  exact ⟨rfl, rfl, rfl⟩

end

/-- An extreme of which no element is a number, or of one of them. -/
theorem Extreme.result {f : FFmt} {max : Bool} {l : List Nat} {z : Option Nat × Bool} (h : Extreme f max l z) {r : Flagged Nat}
    (hr : r = (z.1.getD f.nanBits, if z.2 then FFlag.nv else 0)) :
    let flags : FFlags := if l.any fun z => (f.decode z).isSig then FFlag.nv else 0
    ((∀ x ∈ l, (f.decode x).isNan = true) → r = (f.nanBits, flags))
    ∧ ((∃ x ∈ l, (f.decode x).isNan = false) → ∃ y ∈ l, (f.decode y).isNan = false ∧ r = (asRead f y, flags)
        ∧ ∀ x ∈ l, (f.decode x).isNan = false → Within f max y x) := by
  obtain ⟨hsig, hbest⟩ := h
  rw [hr, hsig]
  rcases hbest with ⟨hall, hnone⟩ | ⟨y, hy, hnum, hsome, hext⟩
  · rw [hnone]
    exact ⟨fun _ => rfl, fun ⟨x, hx, hnx⟩ => (by rw [hall x hx] at hnx; cases hnx)⟩
  · rw [hsome]
    exact ⟨fun hall => (by rw [hall y hy] at hnum; cases hnum), fun _ => ⟨y, hy, hnum, rfl, hext⟩⟩

/-- Settles O18: a running sum is the sum of the elements met, in any order; a running extreme is the extreme of its numbers. -/
theorem prefixResults : Obligations.PrefixResults := by
  intro t m xs k hk hxs pre result
  refine ⟨fun hint => ?_, fun hfp => ?_⟩
  · obtain ⟨hmax, hmin⟩ := prefixes_pick m hint hk hxs
    exact ⟨prefixes_sum m hint hk, hmax, hmin, prefixes_empty_int m hint⟩
  · obtain ⟨hzero, hmaxEmpty, hminEmpty⟩ := prefixes_empty_fp m (xs := xs) hfp
    have hexact := prefixes_exact m hfp hk
    obtain ⟨z, hz, hz1⟩ := prefixes_extreme m hfp hk (o := 1) (by decide)
    obtain ⟨u, hu, hu2⟩ := prefixes_extreme m hfp hk (o := 2) (by decide)
    obtain ⟨hnan1, hnum1⟩ := hz.result hz1
    obtain ⟨hnan2, hnum2⟩ := hu.result hu2
    refine ⟨hexact, fun ys hperm => ?_, hzero, fun hall => ⟨hnan1 hall, hnan2 hall⟩, fun hex => ⟨?_, ?_⟩, hmaxEmpty, hminEmpty⟩
    · rw [foldl_add_perm _ hperm]
      exact hexact.symm
    · obtain ⟨y, hy, hnum, hres, hext⟩ := hnum1 hex
      exact ⟨y, hy, hnum, hres, fun x hx hnx => (below_iff hnx hnum).mpr (hext x hx hnx)⟩
    · obtain ⟨y, hy, hnum, hres, hext⟩ := hnum2 hex
      exact ⟨y, hy, hnum, hres, fun x hx hnx => (below_iff hnum hnx).mpr (hext x hx hnx)⟩

end Sys2Proof.Proofs

/-! SUPPORT. Engine slots: a descriptor in order, room in the unit and free banks let an operation issue; how it then stands in its core (10 R215-R222,
09 R190-R213, 13 R290). -/

namespace Sys2Proof.Proofs

open Sys2Proof Sys2Proof.Machine Sys2Proof.Laws Sys2Proof.Claims

section
variable {s : State} {i : Instr} {name : OpName} {kind : Nat} {e : BitVec 6} {k : BitVec 3} {full : Core → BitVec 3 → Bool}

/-! ## Issue -/

/-- An engine slot whose unit has room issues its operation. -/
theorem issues_of {part : State → Core → Desc → EngPart} (hexec : exec i s = issueSlot i (engineSlot i name kind e k full part) s)
    (hroom : full (here s) (slotPort i (here s).iss.port) = false) (hclean : Clean (part s (here s) (ereg s e)).effects) :
    Issues s i name kind e k (part s (here s) (ereg s e)) := by
  rintro ⟨hkind, hreserved, hword, hfaults, hwaits, hsb, hbanks⟩
  refine does_of_body hexec (so := []) (q := false) (e := false) ?_ hbanks (Clean.append (es := [_]) ⟨rfl, rfl, rfl, rfl⟩ hclean)
  unfold engineSlot
  dsimp only
  rw [if_neg (not_not.mpr hkind), hroom, hreserved, hword, hfaults, hwaits, if_neg (Nat.not_lt.mpr hsb)]
  rfl

/-- Contributions that differ in the order and number of their faults alone, where those of the one say of those of the other that there are none. -/
theorem Issues.faults {p : EngPart} {fs : List (BitVec 16 × BitVec 64)} (h : Issues s i name kind e k { p with faults := fs }) (hfs : p.faults = [] → fs = []) :
    Issues s i name kind e k p := by
  rintro ⟨hkind, hreserved, hword, hfaults, hrest⟩
  exact h ⟨hkind, hreserved, hword, hfs hfaults, hrest⟩

theorem room_copy (h : roomFor s i 8) : copyFull (here s) (slotPort i (here s).iss.port) = false := decide_eq_false (Nat.not_le.mpr h)

theorem room_bag (h : roomFor s i 16) : bagFull (here s) (slotPort i (here s).iss.port) = false := decide_eq_false (Nat.not_le.mpr h)

/-- An M slot with room whose descriptor has PHC 0 issues its operation. -/
theorem issues_bag {part : State → Core → Desc → EngPart} (hexec : exec i s = issueSlot i (bagSlot i name kind e k part) s) (hroom : roomFor s i 16)
    (hphc : plainArrival s e) (hclean : Clean (part s (here s) (ereg s e)).effects) : Issues s i name kind e k (part s (here s) (ereg s e)) := by
  have hnone : phcFault (ereg s e) e = [] := by
    unfold phcFault
    rw [show descField (ereg s e) 0 36 35 = 0 from hphc]
    rfl
  have hissues : Issues s i name kind e k _ := issues_of hexec (room_bag hroom) hclean
  refine Issues.faults (p := part s (here s) (ereg s e)) hissues fun hfaults => ?_
  rw [hnone, hfaults]
  rfl

/-- The same with what it contributes written another way, where the conditions `p` states let none of its own faults arise. -/
theorem issues_bag_of {part : State → Core → Desc → EngPart} {p : EngPart} (fs : List (BitVec 16 × BitVec 64))
    (hexec : exec i s = issueSlot i (bagSlot i name kind e k part) s) (hphc : plainArrival s e) (hroom : roomFor s i 16) (hclean : Clean p.effects)
    (hpart : part s (here s) (ereg s e) = { p with faults := fs }) (hfs : p.faults = [] → fs = []) : Issues s i name kind e k p := by
  have hissues : Issues s i name kind e k _ := issues_bag hexec hroom hphc (by rw [hpart]; exact hclean)
  rw [hpart] at hissues
  exact Issues.faults hissues hfs

theorem clean_nil : Clean [] := ⟨rfl, rfl, rfl, rfl⟩

theorem clean_effects {p : EngPart} (h : p.effects = []) : Clean p.effects := by
  rw [h]
  exact clean_nil

end

/-! ## How an issued operation stands in its core -/

theorem tokenDone_pending (x : Ctx) {tok : Nat} (op : Nat) (htok : tok ≠ 0) : (x.setToken tok (some op)).tokenDone tok = false := by
  unfold Ctx.setToken Ctx.tokenDone
  rw [if_neg htok]
  simp only [mapGet_set_same, Option.isNone_some, Bool.or_false, decide_eq_false_iff_not]
  exact htok

theorem tokenDone_other (x : Ctx) {tok j : Nat} (op : Option Nat) (h : j ≠ tok) : (x.setToken tok op).tokenDone j = x.tokenDone j := by
  unfold Ctx.setToken Ctx.tokenDone
  split
  · rfl
  · rw [mapGet_set_other _ h]

/-- Of a member that is not protected, an operation enters the list, the scoreboard and its token; a gather also empties its landing rows. -/
structure Entered (c d : Core) (name : OpName) (port : BitVec 3) (snap : Snap) (tok : Nat) (rs : List (Nat × Nat × Bool)) : Prop where
  ops : ∃ o : EngineOp, d.ops = c.ops ++ [o] ∧ o.id = c.nid ∧ o.name = name ∧ o.port = port ∧ o.snap = snap ∧ o.tok = tok ∧ o.done = false
    ∧ o.fault = none ∧ o.held = false
  sb : d.sb = c.sb ++ rs.map (fun r => { op := c.nid, slot := none, lo := r.1, hi := r.2.1, dest := r.2.2, home := none })
  tokens : ∀ j, d.ctx.tokenDone j = (c.ctx.setToken tok (some c.nid)).tokenDone j
  pool : (name ≠ .gath → d.pool = c.pool) ∧ d.pool.sp = c.pool.sp
  kept : d.pipe = c.pipe ∧ d.land = c.land ∧ d.mq = c.mq ∧ d.prot = c.prot
  nest : d.ctx.lc = c.ctx.lc ∧ d.ctx.pc = c.ctx.pc

theorem entered_startEngine {c : Core} (hprot : c.prot = false) (name : OpName) (port : BitVec 3) (snap : Snap) (tok : Nat) (rs : List (Nat × Nat × Bool)) :
    Entered c (c.startEngine name port snap tok rs) name port snap tok rs := by
  obtain ⟨ks, hks⟩ := setToken_keeps c.ctx tok (some c.nid)
  have henter : Entered c (c.enterEngine name port snap tok rs) name port snap tok rs := by
    unfold Core.enterEngine
    dsimp only
    rw [hks]
    refine ⟨⟨_, rfl, rfl, rfl, rfl, rfl, rfl, rfl, rfl, ?_⟩, rfl, fun j => by rw [hks]; rfl, ⟨fun _ => rfl, rfl⟩, ⟨rfl, rfl, rfl, rfl⟩, rfl, rfl⟩
    dsimp only
    rw [hprot]
    rfl
  have hprot' : (c.enterEngine name port snap tok rs).prot = false := henter.kept.2.2.2.trans hprot
  unfold Core.startEngine
  dsimp only
  split
  · next hgath =>
    obtain ⟨l, hl⟩ := clearRows_keeps hprot' (fieldOf snap.d.toNat 175 160) (if fieldOf snap.d.toNat 143 128 = 0 then 65536 else fieldOf snap.d.toNat 143 128)
    rw [hl]
    obtain ⟨hops, hsb, htokens, hpool, hkept, hnest⟩ := henter
    exact ⟨hops, hsb, htokens, ⟨fun h => absurd hgath h, hpool.2⟩, hkept, hnest⟩
  · exact henter

theorem entered_after {s : State} (h : Plain s) (i : Instr) (name : OpName) (port : BitVec 3) (snap : Snap) (tok : Nat) (rs : List (Nat × Nat × Bool)) :
    let a := after s i [.engine name port snap tok rs]
    (∃ o : EngineOp, a.ops = (here s).ops ++ [o] ∧ o.id = (here s).nid ∧ o.name = name ∧ o.port = port ∧ o.snap = snap ∧ o.tok = tok ∧ o.done = false
      ∧ o.fault = none ∧ o.held = false)
    ∧ (tok ≠ 0 → a.ctx.tokenDone tok = false) ∧ (∀ j ≠ tok, a.ctx.tokenDone j = (here s).ctx.tokenDone j)
    ∧ a.sb = (here s).sb ++ rs.map (fun r => { op := (here s).nid, slot := none, lo := r.1, hi := r.2.1, dest := r.2.2, home := none })
    ∧ (name ≠ .gath → a.pool = (here s).pool) ∧ a.pool.sp = (here s).pool.sp ∧ a.mq = (here s).mq ∧ a.pipe = [] := by
  intro a
  obtain ⟨hops, hsb, htokens, ⟨hpool, hsp⟩, ⟨hpipe, hland, hmq, hprot⟩, hlc, hpc⟩ := entered_startEngine h.unprotected name port snap tok rs
  have hend : EndedAs a _ _ := after_straight (i := i) (es := [.engine name port snap tok rs]) h rfl ⟨rfl, rfl, rfl, rfl⟩ (hpipe.trans h.pipe)
    (hland.trans h.land) (hprot.trans h.unprotected) hlc hpc
  have hdone (j : Nat) : a.ctx.tokenDone j = ((here s).ctx.setToken tok (some (here s).nid)).tokenDone j := by
    rw [hend.ctx]
    exact htokens j
  refine ⟨?_, fun htok => (hdone tok).trans (tokenDone_pending _ _ htok), fun j hj => (hdone j).trans (tokenDone_other _ _ hj), ?_, fun hname => ?_, ?_, ?_,
    hend.pipe⟩
  · rw [hend.ops]
    exact hops
  · rw [hend.sb]
    exact hsb
  · rw [hend.pool]
    exact hpool hname
  · rw [hend.pool]
    exact hsp
  · rw [hend.mq]
    exact hmq

/-- Settles O21: a copy unit with room issues what its descriptor says, and the operation enters the core's list. -/
theorem copiesIssue : Obligations.CopiesIssue := fun _ _ _ _ _ _ =>
  ⟨fun h => issues_of rfl (room_copy h) (clean_effects rfl), fun h => issues_of rfl (room_copy h) (clean_effects rfl),
    fun h => issues_of rfl (room_copy h) (clean_effects rfl), fun h => issues_of rfl (room_copy h) (clean_effects rfl),
    fun h => issues_of rfl (room_copy h) (clean_effects rfl), fun h => issues_of rfl (room_copy h) (clean_effects rfl),
    fun i name port snap tok rs hplain => entered_after hplain i name port snap tok rs⟩

end Sys2Proof.Proofs

/-! SUPPORT. The statements of the P and M ports: packets, bank launches, multiplies, bags, weights, and what prepares, reads out and moves rows and tiles
(10 R245-R247, 13 R290, 09 R190-R213). -/

namespace Sys2Proof.Proofs

open Sys2Proof Sys2Proof.Machine Sys2Proof.Laws Sys2Proof.Claims

/-! ## Packets and bank launches -/

/-- Where the leaf of a bank launch is found, the launch has no effect but its operation. -/
theorem bankPart_effects {e : BitVec 6} {s : State} {c : Core} {d : Desc} {pa : PAddr} (h : (s.bankLeaf s.cur (descS c d 1 5 0).toNat).2 = .ok pa) :
    (bankPart e s c d).effects = [] := by
  unfold bankPart
  dsimp only
  rw [h]

/-- Settles O22: the packet units have no limit, and a found leaf adds no effect of its own. -/
theorem packetsAndBanksIssue : Obligations.PacketsAndBanksIssue := by
  intro s k x y z e
  refine ⟨issues_of rfl rfl clean_nil, issues_of rfl rfl clean_nil, fun ⟨pa, hpa⟩ => ?_⟩
  have heffects : (bankPart e s (here s) (ereg s e)).effects = [] := bankPart_effects hpa
  exact ⟨issues_of rfl rfl (clean_effects heffects), issues_of rfl rfl (clean_effects heffects)⟩

/-! ## Multiplies, bags and weights -/

section
variable {s : State} {e : BitVec 6} {k x y z : BitVec 3}

/-- A fault with the descriptor's number that does not arise. -/
theorem eFault_false (code : BitVec 16) (e : BitVec 6) : eFault code e false = [] := rfl

theorem eFault_of_not {code : BitVec 16} {p : Prop} [Decidable p] (h : ¬ p) : eFault code e (decide p) = [] := by rw [decide_eq_false h, eFault_false]

theorem mulPart_effects (sparse : Bool) (c : Core) (d : Desc) : (mulPart sparse e s c d).effects = [] :=
  join_effects (join_effects (join_effects rfl (ite_effects rfl rfl)) (ite_effects rfl rfl)) (ite_effects rfl rfl)

theorem bagPart_effects (c : Core) (d : Desc) : (bagPart e s c d).effects = [] := join_effects rfl (ite_effects rfl rfl)

/-- MLDW out of a tile of the weights' format. -/
theorem issues_mldw_tile (hphc : plainArrival s e) (hroom : roomFor s (.mldw k x y z e) 16) (hfmt : weightFmt (matDesc (ereg s e)).wfmt = true)
    (hopt : (matDesc (ereg s e)).opt = true)
    (htag : mapGet Fmt.int16 (here s).pool.ttag (matDesc (ereg s e)).treg = (matDesc (ereg s e)).wfmt) :
    Issues s (.mldw k x y z e) .mldw 5 e k { s1 := ops1 (here s) (ereg s e), s2 := ops2 (here s) (ereg s e) } := by
  refine issues_bag_of [] rfl hphc hroom clean_nil ?_ id
  dsimp only
  rw [if_pos hopt, hfmt, tileTagFault, if_pos htag]
  rfl

/-- MLDW out of scratchpad. -/
theorem issues_mldw_rows (hphc : plainArrival s e) (hroom : roomFor s (.mldw k x y z e) 16) (hfmt : weightFmt (matDesc (ereg s e)).wfmt = true)
    (hopt : (matDesc (ereg s e)).opt = false) :
    Issues s (.mldw k x y z e) .mldw 5 e k
      { operandPart s (here s) e (ereg s e) (tileRows (matDesc (ereg s e)).wfmt (tileRow (ops1 (here s) (ereg s e)) (ops2 (here s) (ereg s e)) 0)) with
        s1 := ops1 (here s) (ereg s e), s2 := ops2 (here s) (ereg s e) } := by
  refine issues_bag_of _ rfl hphc hroom clean_nil ?_ id
  dsimp only
  rw [if_neg (Bool.eq_false_iff.mp hopt), hfmt]
  rfl

theorem rowsRange_one (o n : Nat) : rowsRange [(o, n)] = (o, o + n - 1) := by simp [rowsRange]

theorem rowsFault_one {pw o n : Nat} (h : o + n ≤ spSize pw) : rowsFault pw [(o, n)] = [] := by simp [rowsFault, spOutside, h]

/-- MCODE on 1,024 aligned bytes of the offset space. -/
theorem issues_mcode (hphc : plainArrival s e) (hroom : roomFor s (.mcode k x y z e) 16) {o : Nat} (ho : (ops1 (here s) (ereg s e)).toNat % 2 ^ 32 = o)
    (haligned : o % 1024 = 0) (hin : o + 1024 ≤ spSize (here s).ctx.pw) :
    Issues s (.mcode k x y z e) .mcode 5 e k
      { s1 := ops1 (here s) (ereg s e), reads := [rdD 0 (descField (ereg s e) 1 9 4)], ranges := [(o, o + 1023, false)] } := by
  have hfield : fieldOf (ops1 (here s) (ereg s e)).toNat 31 0 = o := by
    rw [← ho]
    unfold fieldOf
    simp
  refine issues_bag_of [] rfl hphc hroom clean_nil ?_ id
  dsimp only
  rw [hfield, rowsPart, rowsRange_one, rowsFault_one hin, if_pos haligned]
  rfl

/-- A slot that has one port only is on it. -/
theorem slotPort_of_single {i : Instr} {q : SlotParts} {n p : BitVec 3} (hparts : i.slotParts = some q) (hports : q.ports = [n]) : slotPort i p = n := by
  unfold slotPort
  rw [hparts]
  dsimp only
  rw [hports]
  by_cases hp : p = n
  · simp [hp]
  · simp [hp]

/-- MSWAP, whose slot is on the M port. -/
theorem does_mswap (hroom : roomFor s (.mswap k x y z) 16) :
    Does s (.mswap k x y z) [.engine .mswap (slotPort (.mswap k x y z) (here s).iss.port) { d := 0 } ((here s).ctx.physK k.toNat) []] := by
  have hfull : bagFull (here s) 3 = false := by
    have hroomThree := room_bag hroom
    rwa [slotPort_of_single rfl rfl] at hroomThree
  refine does_of_effects (so := []) (q := false) (e := false) rfl ?_ ⟨rfl, rfl, rfl, rfl⟩
  rw [hfull]
  rfl

end

/-- Settles O23: an M unit with room issues what the descriptor says. -/
theorem bagMultipliesIssue : Obligations.BagMultipliesIssue := fun _ _ _ _ _ _ =>
  ⟨fun hphc => ⟨fun hroom => issues_bag rfl hroom hphc (clean_effects (mulPart_effects _ _ _)),
      fun hroom => issues_bag rfl hroom hphc (clean_effects (mulPart_effects _ _ _)),
      fun hroom => issues_bag rfl hroom hphc (clean_effects (bagPart_effects _ _)),
      fun hroom => issues_bag rfl hroom hphc (clean_effects (bagPart_effects _ _)),
      fun hroom hfmt => ⟨fun hopt htag => issues_mldw_tile hphc hroom hfmt hopt htag, fun hopt => issues_mldw_rows hphc hroom hfmt hopt⟩,
      fun hroom haligned hin => issues_mcode hphc hroom rfl haligned hin⟩,
    does_mswap⟩

/-! ## Preparing, reading out and moving -/

section
variable {s : State} {e : BitVec 6} {k x y z : BitVec 3}

theorem rowsLimit_free {c : Core} {d : Desc} (h : (matDesc d).arow + (matDesc d).nrow ≤ windowRows c.ctx.pw) : rowsLimit c d e = [] :=
  eFault_of_not (Nat.not_lt.mpr h)

theorem eFault_rows {n : Nat} (h : n ≤ 128) : eFault 0x1304 e (decide (128 < n)) = [] := eFault_of_not (Nat.not_lt.mpr h)

/-- An anchor of 11 bits is in range (09 R208). -/
theorem anchorOk_signedOf (n : Nat) : anchorOk (signedOf 11 n) = true := by
  have := n.mod_lt (show 0 < 2 ^ 11 by decide)
  unfold anchorOk signedOf
  simp only [Bool.and_eq_true, decide_eq_true_eq]
  split <;> omega

theorem issues_mzero (hphc : plainArrival s e) (hroom : roomFor s (.mzero k x y z e) 16)
    (hin : (matDesc (ereg s e)).arow + (matDesc (ereg s e)).nrow ≤ windowRows (here s).ctx.pw)
    (hfmt : adef (matDesc (ereg s e)).afmt (matDesc (ereg s e)).wfmt ≠ .reserved)
    (hnamed : adef (matDesc (ereg s e)).afmt (matDesc (ereg s e)).wfmt = .named → (matDesc (ereg s e)).qsv = true)
    (hanchor : anchorOk (zeroAnchor (matDesc (ereg s e)) ((here s).ctx.getQs (matDesc (ereg s e)).qs)) = true) :
    Issues s (.mzero k x y z e) .mzero 4 e k
      { reads := if (matDesc (ereg s e)).qsv then [rdD 8 (matDesc (ereg s e)).qs] else [], qs := (here s).ctx.getQs (matDesc (ereg s e)).qs } := by
  have hbad : (decide (adef (matDesc (ereg s e)).afmt (matDesc (ereg s e)).wfmt = .named) && !(matDesc (ereg s e)).qsv) = false := by
    simpa using hnamed
  refine issues_bag_of [] rfl hphc hroom clean_nil ?_ id
  dsimp only
  rw [rowsLimit_free hin, eFault_of_not hfmt, hbad, hanchor]
  simp [eFault_false]

theorem issues_manch (hphc : plainArrival s e) (hroom : roomFor s (.manch k x y z e) 16)
    (hin : (matDesc (ereg s e)).arow + (matDesc (ereg s e)).nrow ≤ windowRows (here s).ctx.pw) : Issues s (.manch k x y z e) .manch 4 e k {} := by
  refine issues_bag_of [] rfl hphc hroom clean_nil ?_ id
  dsimp only
  rw [rowsLimit_free hin, show anchorOk (matDesc (ereg s e)).anch = true from anchorOk_signedOf _]
  rfl

theorem issues_maddv (hphc : plainArrival s e) (hroom : roomFor s (.maddv k x y z e) 16)
    (hin : (matDesc (ereg s e)).arow + (matDesc (ereg s e)).nrow ≤ windowRows (here s).ctx.pw)
    (htag : (here s).ctx.getVTag (matDesc (ereg s e)).vb = Fmt.fp32 ∨ (here s).ctx.getVTag (matDesc (ereg s e)).vb = Fmt.int32) :
    Issues s (.maddv k x y z e) .maddv 4 e k
      { reads := [rdD 1 (matDesc (ereg s e)).vb], v := (here s).ctx.getV (matDesc (ereg s e)).vb
        vtag := (here s).ctx.getVTag (matDesc (ereg s e)).vb } := by
  refine issues_bag_of [] rfl hphc hroom clean_nil ?_ id
  dsimp only
  rw [rowsLimit_free hin, if_pos htag]
  rfl

/-- The pair of tiles that an output of 32-bit elements takes begins at an even one. -/
theorem pair_even {n : Nat} {b : Bool} (h : b = true → n % 2 = 0) : ¬ (b = true ∧ n % 2 = 1) := fun ⟨hb, hodd⟩ => by
  have := h hb
  omega

theorem issues_mrd (hphc : plainArrival s e) (hroom : roomFor s (.mrd k x y z e) 16)
    (hin : (matDesc (ereg s e)).arow + (matDesc (ereg s e)).nrow ≤ windowRows (here s).ctx.pw) (hrows : (matDesc (ereg s e)).nrow ≤ 128)
    (hfmt : readFmt (matDesc (ereg s e)).ofmt = true) (heven : is32 (matDesc (ereg s e)).ofmt = true → (matDesc (ereg s e)).otreg % 2 = 0) :
    Issues s (.mrd k x y z e) .mrd 4 e k
      { effects := if is32 (matDesc (ereg s e)).ofmt
          then [.ttag (matDesc (ereg s e)).otreg Fmt.uint16, .ttag ((matDesc (ereg s e)).otreg + 1) Fmt.uint16]
          else [.ttag (matDesc (ereg s e)).otreg (matDesc (ereg s e)).ofmt] } := by
  refine issues_bag_of [] rfl hphc hroom ?_ ?_ id
  · split <;> exact ⟨rfl, rfl, rfl, rfl⟩
  · dsimp only
    rw [rowsLimit_free hin, eFault_rows hrows, hfmt, if_neg (pair_even heven)]
    rfl

/-- An output into scratchpad: its rows at s(OUTS), RPITCH apart. -/
def scratchOut (s : State) (e : BitVec 6) (rows : List (Nat × Nat)) : EngPart :=
  { rowsPart (here s).ctx.pw rows true true with
    reads := [rdD 0 (descField (ereg s e) 1 15 10), rdD 0 (descField (ereg s e) 3 11 6)], s2 := ops2 (here s) (ereg s e)
    s3 := outs (here s) (ereg s e) }

theorem issues_mst (hphc : plainArrival s e) (hroom : roomFor s (.mst k x y z e) 16)
    (hin : (matDesc (ereg s e)).arow + (matDesc (ereg s e)).nrow ≤ windowRows (here s).ctx.pw)
    (hfmt : readFmt (matDesc (ereg s e)).ofmt = true) {w : Nat} (hw : (if is32 (matDesc (ereg s e)).ofmt then 4 else 2) = w)
    (hout : (outs (here s) (ereg s e)).toNat % w = 0) (hpitch : (ops2 (here s) (ereg s e)).toNat % 2 ^ 16 % w = 0) :
    Issues s (.mst k x y z e) .mst 4 e k
      (scratchOut s e (outRows (outs (here s) (ereg s e)) (ops2 (here s) (ereg s e)) (matDesc (ereg s e)).nrow (128 * w))) := by
  have hfield : fieldOf (ops2 (here s) (ereg s e)).toNat 15 0 % w = 0 := by
    unfold fieldOf
    simpa using hpitch
  refine issues_bag_of _ rfl hphc hroom clean_nil ?_ id
  dsimp only
  rw [hw, rowsLimit_free hin, hfmt, if_neg (not_not.mpr hout), if_neg (not_not.mpr hfield)]
  simp [eFault_false, scratchOut]

theorem issues_mstat (hphc : plainArrival s e) (hroom : roomFor s (.mstat k x y z e) 16)
    (hin : (matDesc (ereg s e)).arow + (matDesc (ereg s e)).nrow ≤ windowRows (here s).ctx.pw) (hrows : (matDesc (ereg s e)).nrow ≤ 128)
    (hvd : (matDesc (ereg s e)).vd ≤ 61) :
    Issues s (.mstat k x y z e) .mstat 4 e k
      { reads := [wrD 1 (matDesc (ereg s e)).vd, wrD 1 ((matDesc (ereg s e)).vd + 1), wrD 1 ((matDesc (ereg s e)).vd + 2)]
        s1 := BitVec.ofNat 64 ((here s).ctx.physV (matDesc (ereg s e)).vd), s2 := BitVec.ofNat 64 ((here s).ctx.physV ((matDesc (ereg s e)).vd + 1))
        s3 := BitVec.ofNat 64 ((here s).ctx.physV ((matDesc (ereg s e)).vd + 2)) } := by
  refine issues_bag_of [] rfl hphc hroom clean_nil ?_ id
  dsimp only
  rw [rowsLimit_free hin, eFault_rows hrows, if_neg (Nat.not_lt.mpr hvd)]
  rfl

theorem issues_mstt (hphc : plainArrival s e) (hroom : roomFor s (.mstt k x y z e) 16)
    (htags : if is32 (matDesc (ereg s e)).ofmt then (matDesc (ereg s e)).treg % 2 = 0
        ∧ mapGet Fmt.int16 (here s).pool.ttag (matDesc (ereg s e)).treg = Fmt.uint16
        ∧ mapGet Fmt.int16 (here s).pool.ttag ((matDesc (ereg s e)).treg + 1) = Fmt.uint16
      else mapGet Fmt.int16 (here s).pool.ttag (matDesc (ereg s e)).treg = (matDesc (ereg s e)).ofmt) :
    Issues s (.mstt k x y z e) .mstt 4 e k
      (scratchOut s e (tileOut (matDesc (ereg s e)) (outs (here s) (ereg s e)) (ops2 (here s) (ereg s e)))) := by
  refine issues_bag_of _ rfl hphc hroom clean_nil ?_ id
  dsimp only
  split at htags
  · next h32 =>
    obtain ⟨heven, hlow, hhigh⟩ := htags
    simp [h32, heven, hlow, hhigh, eFault_false, scratchOut]
  · next h32 => simp [h32, htags, eFault_false, scratchOut]

end

/-- Settles O24: an M unit with room issues what the descriptor says, and gives a named tile its tag. -/
theorem bagRowsIssue : Obligations.BagRowsIssue := fun _ _ _ _ _ _ hphc =>
  ⟨issues_mzero hphc, issues_manch hphc, issues_maddv hphc, issues_mrd hphc,
    fun hroom hin hfmt => issues_mst hphc hroom hin hfmt rfl, issues_mstat hphc,
    fun hroom => issues_bag rfl hroom hphc ⟨rfl, rfl, rfl, rfl⟩, fun hroom => issues_bag rfl hroom hphc ⟨rfl, rfl, rfl, rfl⟩, issues_mstt hphc⟩

end Sys2Proof.Proofs

/-! SUPPORT. Loads, stores and atomics: an access that translation passes issues, and the requests that enter the memory port (10 R226-R232). -/

namespace Sys2Proof.Proofs

open Sys2Proof Sys2Proof.Machine Sys2Proof.Laws Sys2Proof.Claims

/-! ## Issue -/

/-- A slot whose body gives effects alone completes with them. -/
theorem does_alone {s : State} {i : Instr} {es : List Effect} {bnd : Bool} {more : List Use} {body : State → Core → SlotOut}
    (hexec : exec i s = issueSlot i body s) (hbody : body s (here s) = { effects := es, reads := more, boundary := bnd }) (hclean : Clean es) :
    Does s i es bnd more := does_of_effects hexec hbody hclean

section
variable {s : State} {want : Want} {align ea va n : Nat} {ps : List Piece}

theorem translatePieces_ok (base : Nat) : ∀ {ps : List Piece} {l : List (Nat × Nat)}, ps.map (fun p => (base + p.off, p.n)) = l →
    (∀ p ∈ ps, s.xlateCore s.cur want (base + p.off) = .ok p.target) → translatePieces s want base l = (ps, {})
  | [], _, rfl, _ => rfl
  | p :: ps, _, rfl, hall => by
    have hrest := translatePieces_ok base (ps := ps) rfl fun q hq => hall q (List.mem_cons_of_mem _ hq)
    simp only [List.map_cons, translatePieces]
    rw [translated, hall p (List.mem_cons_self ..)]
    dsimp only
    rw [hrest, Nat.add_sub_cancel_left]

/-- An access that translation passes line by line has these places and meets nothing. -/
theorem gaccess_placed (h : placed s want align ea va n ps) : gaccess s want align ea va n = (ps, {}) := by
  obtain ⟨haligned, hlines, hpassed⟩ := h
  unfold gaccess
  rw [if_neg (not_not.mpr haligned)]
  exact translatePieces_ok va hlines hpassed

theorem landFreeze_free (h : landingFree s) (va : Nat) : landFreeze (here s) va = [] := if_neg (Nat.not_le.mpr h)

/-- Room for as many entries of the write queue, or more, than the slot takes. -/
theorem queueFreeze_free {m n : Nat} (h : queueFree s m) (hn : n ≤ m) (va : Nat) (now : Bool) : queueFreeze (here s) va n now = [] :=
  if_neg fun hfull => by
    unfold queueFree at h
    have := hfull.1
    omega

theorem scopeFault_none (i : Instr) (c : Core) {k : BitVec 3} (h : k ≠ 5) : scopeFault i c k = [] := if_neg h

theorem gload_placed {a : BitVec 4} (hland : landingFree s) (hfree : loadFree s ps) (h : placed s .read align (addr s a) (addr s a) n ps)
    (cls file dest dist : Nat) (sz scope : BitVec 3) :
    gload a align n cls file dest dist sz scope s (here s) = { effects := [.load ps cls file dest dist sz scope] } := by
  have hheld : (ps.any fun p => s.loadHeld (s.partOfCore s.cur) p.target) = false := by
    rw [List.any_eq_false]
    exact fun p hp => Bool.eq_false_iff.mp (hfree p hp)
  unfold gload
  rw [show gaddr (here s) a = addr s a from rfl]
  dsimp only
  rw [gaccess_placed h]
  dsimp only
  rw [hheld, landFreeze_free hland]
  rfl

theorem gstore_placed {a : BitVec 4} {off unit : Nat} (hfree : queueFree s ps.length)
    (h : placed s .write align (addr s a) (addr s a + off * unit) n ps) (cls data psn : Nat) (scope : BitVec 3) :
    gstore a off unit align n cls data psn scope s (here s) = { effects := [.store ps cls data psn scope] } := by
  unfold gstore
  rw [show gaddr (here s) a = addr s a from rfl]
  dsimp only
  rw [gaccess_placed h]
  dsimp only
  rw [queueFreeze_free hfree (Nat.le_refl _)]
  rfl

theorem atomicEntries_le (c : Core) (op : AtomOp) (sz : BitVec 3) (ps : List Piece) (merges : Bool) (scope : BitVec 3) :
    atomicEntries c op sz ps merges scope ≤ 1 := by
  unfold atomicEntries
  split <;> simp

theorem gatomic_placed {a : BitVec 4} {p : Piece} {sz k : BitVec 3} (hfree : queueFree s 1) (hk : k ≠ 5)
    (h : placed s .write (atomBytes sz) (addr s a) (addr s a) (atomBytes sz) [p]) (i : Instr) (op : AtomOp) (ord : BitVec 2) (x : Nat) (x2 : BitVec 64)
    {dest : Option Nat} (hland : dest.isSome = true → landingFree s) :
    gatomic i op a ord k sz x x2 dest s (here s) =
      { effects := [.atomic op sz p x x2 dest k ord], boundary := ordersSegment ord dest.isSome } := by
  have hroom : (if dest.isSome = true then landFreeze (here s) (addr s a) else []) = [] := by
    split
    · next hdest => exact landFreeze_free (hland hdest) _
    · rfl
  unfold gatomic
  rw [show gaddr (here s) a = addr s a from rfl]
  dsimp only
  rw [gaccess_placed h]
  dsimp only
  rw [queueFreeze_free hfree (atomicEntries_le ..), scopeFault_none i _ hk, hroom]
  rfl

end

/-! ## Requests in the port -/

/-- A request as the statements tell it; and as it stands apart from what may still merge with it. -/
def told (r : MemReq) : ReqKind × Nat × Piece × Nat × BitVec 3 × Bool × Bool := (r.kind, r.cls, r.piece, r.data, r.scope, r.acq, r.rel)
def closed (r : MemReq) : MemReq := { r with merges := false }

/-- The port `mq` has taken in the requests `l`, of which nothing has been sent. -/
def TookIn (mq mq' : List MemReq) (l : List (ReqKind × Nat × Piece × Nat × BitVec 3 × Bool × Bool)) : Prop :=
  ∃ old new : List MemReq, mq' = old ++ new ∧ old.map closed = mq.map closed ∧ new.map told = l ∧ ∀ r ∈ new, r.sent = false ∧ r.psn = false

theorem TookIn.refl (mq : List MemReq) : TookIn mq mq [] := ⟨mq, [], (List.append_nil _).symm, rfl, rfl, fun _ h => nomatch h⟩

/-- Requests that differ at most in what may merge with them are told alike. -/
theorem told_of_closed {q r : MemReq} (h : closed q = closed r) : told q = told r ∧ q.sent = r.sent ∧ q.psn = r.psn := by
  obtain ⟨⟩ := q
  obtain ⟨⟩ := r
  simp only [closed, MemReq.mk.injEq] at h
  simp [told, h]

theorem told_map_of_closed : ∀ {l m : List MemReq}, l.map closed = m.map closed →
    l.map told = m.map told ∧ ((∀ r ∈ m, r.sent = false ∧ r.psn = false) → ∀ r ∈ l, r.sent = false ∧ r.psn = false)
  | [], [], _ => ⟨rfl, id⟩
  | [], _ :: _, h => nomatch h
  | _ :: _, [], h => nomatch h
  | q :: l, r :: m, h => by
    obtain ⟨hhead, htail⟩ := List.cons.inj h
    obtain ⟨htold, hsent, hpsn⟩ := told_of_closed hhead
    obtain ⟨hmap, hall⟩ := told_map_of_closed htail
    refine ⟨congrArg₂ List.cons htold hmap, fun hm => ?_⟩
    obtain ⟨hr, hm'⟩ := List.forall_mem_cons.mp hm
    exact List.forall_mem_cons.mpr ⟨⟨hsent.trans hr.1, hpsn.trans hr.2⟩, hall hm'⟩

/-- One request more. -/
theorem TookIn.push {mq mq' old : List MemReq} {l : List (ReqKind × Nat × Piece × Nat × BitVec 3 × Bool × Bool)} {r : MemReq}
    (h : TookIn mq mq' l) (hold : old.map closed = mq'.map closed) (hr : r.sent = false ∧ r.psn = false) : TookIn mq (old ++ [r]) (l ++ [told r]) := by
  obtain ⟨o, n, rfl, ho, hn, hsent⟩ := h
  rw [List.map_append] at hold
  obtain ⟨o', n', rfl, ho', hn'⟩ := List.map_eq_append_iff.mp hold
  obtain ⟨htold, hall⟩ := told_map_of_closed hn'
  refine ⟨o', n' ++ [r], List.append_assoc .., ho'.trans ho, by rw [List.map_append, htold, hn]; rfl, fun q hq => ?_⟩
  rcases List.mem_append.mp hq with hq | hq
  · exact hall hsent q hq
  · rw [List.mem_singleton.mp hq]
    exact hr

/-- Requests enter the port of a member that is not protected one after another; nothing else changes but the next number. -/
theorem foldl_pushReq {f : Core → Piece → Core} {kind : ReqKind} {cls : Nat} {data : Piece → Nat} {scope : BitVec 3} {ord : BitVec 2}
    (hf : ∀ (c : Core) (p : Piece), c.prot = false → f c p = c.pushReq kind cls p (data p) scope ord) (c : Core) (hprot : c.prot = false) (ps : List Piece) :
    ∃ mq', ps.foldl f c = { c with nid := c.nid + ps.length, mq := mq' }
      ∧ TookIn c.mq mq' (ps.map fun p => (kind, cls, p, data p, scope, ord.getLsbD 0, ord.getLsbD 1)) := by
  induction ps using List.reverseRecOn with
  | nil => exact ⟨c.mq, rfl, .refl _⟩
  | append_singleton ps p ih =>
    obtain ⟨mq', hfold, htook⟩ := ih
    obtain ⟨old, r, hpush, hold, htold, hfresh⟩ := pushReq_takes (c := { c with nid := c.nid + ps.length, mq := mq' }) hprot kind cls p (data p) scope ord
    refine ⟨old ++ [r], ?_, ?_⟩
    · rw [List.foldl_append, hfold, List.foldl_cons, List.foldl_nil, hf { c with nid := c.nid + ps.length, mq := mq' } p hprot, hpush, List.length_append]
      rfl
    · rw [List.map_append, List.map_singleton, ← htold]
      exact htook.push hold hfresh

/-- The lines of a store without poison. -/
theorem pushStore_sound (c : Core) (cls : Nat) (p : Piece) (data : Nat) (scope : BitVec 3) (ord : BitVec 2) :
    c.pushStore cls p data 0 scope ord = c.pushReq .store cls p (bytesOf data p.off p.n) scope ord := by
  have hsound : poisonIn 0 p.off p.n = false := by
    unfold poisonIn
    simp
  unfold Core.pushStore
  dsimp only
  rw [hsound]
  rfl

/-! ## The end of the bundle -/

/-- What the end of a bundle keeps of a core where no landing has its data. -/
structure LandsAs (e d : Core) (size : Nat) : Prop where
  ctx : e.ctx = { d.ctx with pc := d.ctx.pc + BitVec.ofNat 64 size, cycle := d.ctx.cycle + 1, waitOk := false }
  pipe : e.pipe = []
  land : e.land = d.land.map nearer
  pool : e.pool = d.pool
  mq : e.mq = d.mq

/-- Such a bundle, where its effects leave landings without data and the nest as it was. -/
theorem after_landing {s : State} {i : Instr} {es : List Effect} (h : Plain s) {d : Core} (hd : (inOrder es).foldl Core.apply (here s) = d)
    (hstraight : Straight es) (hpipe : d.pipe = []) (hland : ∀ l ∈ d.land, l.due = false ∧ l.data = none) (hprot : d.prot = false) (hlc : d.ctx.lc = (here s).ctx.lc)
    (hpc : d.ctx.pc = (here s).ctx.pc) : LandsAs (after s i es) d (here s).iss.size := by
  have hdue : ∀ l ∈ d.land, l.due = false := fun l hl => (hland l hl).1
  have hctx : (d.tickPipe.tickLand.writeLandings fun l => l.due).ctx = d.ctx := by
    have hnone : d.land.filter (fun l => decide (l.left = 0) && l.data.isSome) = [] :=
      List.filter_eq_nil_iff.mpr fun l hl => by simp [(hland l hl).2]
    rw [fall_eq_fallen hdue]
    unfold fallen
    rw [hpipe, hnone]
    rfl
  have hlands : (d.tickPipe.tickLand.writeLandings fun l => l.due).land = d.land.map nearer := by
    rw [fall_land hdue, List.filter_eq_self.mpr fun l hl => by simp [(hland l hl).2]]
  have hinside : ∀ l ∈ [0, 1, 2, 3, 4, 5], (d.ctx.getLevel l).active = true → (d.ctx.getLevel l).last ≠ d.ctx.pc := by
    intro l hl
    have hlevel : d.ctx.getLevel l = (here s).ctx.getLevel l := by rw [Ctx.getLevel, hlc, Ctx.getLevel]
    rw [hlevel, hpc]
    exact h.inside l (by simp at hl; omega)
  obtain ⟨hend, hpipe', hland', hpool, -, -, hmq, -, -⟩ :=
    endBundle_plain (c := d) (x := lastIssue s i es) hprot hstraight.staged hstraight.eret hstraight.jump hstraight.skip (by rw [hctx]; exact hinside)
  rw [hctx] at hend
  have hempty : (d.tickPipe.tickLand.writeLandings fun l => l.due).pipe = [] := by
    show (d.pipe.filter _).map _ = []
    rw [hpipe]
    rfl
  rw [after_eq h.empty h.unprotected, hd]
  exact ⟨hend, hpipe'.trans hempty, hland'.trans hlands, hpool, hmq⟩

/-! ## Loads -/

section
variable {s : State}

/-- The row accesses' bytes, written as the statements do. -/
theorem rowBytes_eq (z : BitVec 3) : rowBytes z = 512 / 2 ^ z.toNat := Nat.shiftRight_eq_div_pow ..

theorem load_order (cls : Nat) : (if cls = 4 then (1 : BitVec 2) else 0).getLsbD 0 = decide (cls = 4) ∧ (if cls = 4 then (1 : BitVec 2) else 0).getLsbD 1 = false := by
  split <;> simp [*]

theorem store_order (cls : Nat) : (if cls = 4 then (2 : BitVec 2) else 0).getLsbD 0 = false ∧ (if cls = 4 then (2 : BitVec 2) else 0).getLsbD 1 = decide (cls = 4) := by
  split <;> simp [*]

/-- A landing as it enters the buffer. -/
def freshLanding (id file dest dist : Nat) (sz : BitVec 3) (need : Nat) : Landing :=
  { id := id, file := file, dest := dest, left := dist, due := false, sz := sz, data := none, need := need, part := 0, psn := false }

/-- It is the only one in a core that had none. -/
theorem pushLanding_land {c : Core} (h : c.land = []) (file dest dist : Nat) (sz : BitVec 3) (need : Nat) :
    (c.pushLanding file dest dist sz need).land = [freshLanding c.nid file dest dist sz need] := by
  show c.land ++ _ = _
  rw [h]
  rfl

theorem land_fresh {c : Core} (h : c.land = []) (file dest dist : Nat) (sz : BitVec 3) (need : Nat) :
    ∀ l ∈ (c.pushLanding file dest dist sz need).land, l.due = false ∧ l.data = none := by
  rw [pushLanding_land h]
  exact fun l hl => by rw [List.mem_singleton.mp hl]; exact ⟨rfl, rfl⟩

theorem after_load (h : Plain s) (i : Instr) (ps : List Piece) (cls file dest dist : Nat) (z scope : BitVec 3) :
    let a := after s i [.load ps cls file dest dist z scope]
    a.land = [{ id := (here s).nid, file := file, dest := dest, left := dist - 1, due := decide (dist = 0), sz := z, data := none
                need := ps.length, part := 0, psn := false }]
    ∧ Takes s a (ps.map fun p => (.load (here s).nid, cls, p, 0, scope, decide (cls = 4), false))
    ∧ a.pool = (here s).pool ∧ a.pipe = [] ∧ a.ctx = goesOn s (here s).ctx := by
  intro a
  obtain ⟨mq', hfold, htook⟩ := foldl_pushReq (f := fun c p => c.pushReq (.load (here s).nid) cls p 0 scope (if cls = 4 then 1 else 0))
    (data := fun _ => 0) (fun _ _ _ => rfl) ((here s).pushLanding file dest dist z ps.length) h.unprotected ps
  rw [(load_order cls).1, (load_order cls).2] at htook
  obtain ⟨hctx, hpipe, hland', hpool, hmq⟩ : LandsAs a _ _ := after_landing (i := i) (es := [.load ps cls file dest dist z scope]) h hfold ⟨rfl, rfl, rfl, rfl⟩
    h.pipe (land_fresh h.land _ _ _ _ _) h.unprotected rfl rfl
  refine ⟨?_, ?_, hpool, hpipe, hctx⟩
  · rw [hland', pushLanding_land h.land, List.map_singleton, nearer]
    split
    · next h0 => simp [freshLanding, show dist = 0 from h0]
    · next h0 => simp [freshLanding, show dist ≠ 0 from h0]
  · show TookIn (here s).mq a.mq _
    rw [hmq]
    exact htook

end

/-- Settles O25: an access that translation passes line by line issues with its landing, and each line is a request. -/
theorem loadsIssue : Obligations.LoadsIssue := by
  intro s l d a o z ps hland hfree
  refine ⟨fun hplaced => ⟨does_alone rfl (gload_placed hland hfree hplaced ..) ⟨rfl, rfl, rfl, rfl⟩,
      does_alone rfl (gload_placed hland hfree hplaced ..) ⟨rfl, rfl, rfl, rfl⟩⟩, fun hplaced => ?_, fun hplaced hz => ?_, ?_⟩
  · rw [← rowBytes_eq] at hplaced
    exact does_alone rfl (gload_placed hland hfree hplaced ..) ⟨rfl, rfl, rfl, rfl⟩
  · refine does_alone rfl ?_ ⟨rfl, rfl, rfl, rfl⟩
    dsimp only
    rw [gload_placed hland hfree hplaced, scopeFault_none _ _ hz]
    rfl
  · exact fun i ps cls file dest dist scope hplain => after_load hplain i ps cls file dest dist z scope

/-! ## Stores -/

theorem after_store {s : State} (h : Plain s) (i : Instr) (ps : List Piece) (cls data : Nat) (scope : BitVec 3) :
    let a := after s i [.store ps cls data 0 scope]
    Takes s a (ps.map fun p => (.store, cls, p, bytesOf data p.off p.n, scope, false, decide (cls = 4)))
    ∧ a.land = [] ∧ a.pool = (here s).pool ∧ a.pipe = [] ∧ a.ctx = goesOn s (here s).ctx := by
  intro a
  obtain ⟨mq', hfold, htook⟩ := foldl_pushReq (f := fun c p => c.pushStore cls p data 0 scope (if cls = 4 then 2 else 0))
    (data := fun p => bytesOf data p.off p.n) (fun c p _ => pushStore_sound c cls p data scope _) (here s) h.unprotected ps
  rw [(store_order cls).1, (store_order cls).2] at htook
  obtain ⟨hctx, hpipe, hland, hpool, -, -, hmq, -, -⟩ : EndedAs a _ _ := after_straight (i := i) (es := [.store ps cls data 0 scope]) h hfold
    ⟨rfl, rfl, rfl, rfl⟩ h.pipe h.land h.unprotected rfl rfl
  refine ⟨?_, hland, hpool, hpipe, hctx⟩
  show TookIn (here s).mq a.mq _
  rw [hmq]
  exact htook

/-- Settles O26: a store whose lines translate for writing issues, and each line is a request with its bytes. -/
theorem storesIssue : Obligations.StoresIssue := by
  intro s l d a o z ps hfree
  refine ⟨fun hplaced hready => ?_, fun hplaced hready => ?_, fun hplaced hz hready => ?_, ?_⟩
  · refine does_alone rfl ?_ ⟨rfl, rfl, rfl, rfl⟩ hready
    rw [badMask_healthy hready.quiet.healthy]
    exact gstore_placed hfree hplaced ..
  · rw [← rowBytes_eq] at hplaced
    refine does_alone rfl ?_ ⟨rfl, rfl, rfl, rfl⟩ hready
    rw [badMask_healthy hready.quiet.healthy]
    exact gstore_placed hfree hplaced ..
  · refine does_alone rfl ?_ ⟨rfl, rfl, rfl, rfl⟩ hready
    dsimp only
    rw [badMask_healthy hready.quiet.healthy, gstore_placed hfree hplaced, scopeFault_none _ _ hz]
    rfl
  · exact fun i ps cls data scope hplain => after_store hplain i ps cls data scope

/-! ## Atomics -/

section
variable {s : State} {d : BitVec 6} {a : BitVec 4} {w : BitVec 2} {k z q : BitVec 3} {p : Piece}

theorem does_atomic {i : Instr} {op : AtomOp} (hexec : exec i s = issueSlot i (gatomicS i op d a w k z) s) (hfree : queueFree s 1) (hk : k ≠ 5)
    (hplaced : placed s .write (atomBytes z) (addr s a) (addr s a) (atomBytes z) [p]) :
    Does s i [.atomic op z p (sreg s d).toNat 0 none k w] (decide (w ≠ 0)) :=
  does_alone hexec (gatomic_placed hfree hk hplaced i op w _ 0 (fun h => nomatch h)) ⟨rfl, rfl, rfl, rfl⟩

theorem does_exchange {i : Instr} {op : AtomOp} {x2 : BitVec 64} {body : State → Core → SlotOut} (hexec : exec i s = issueSlot i body s)
    (hbody : body s (here s) = gatomic i op a w k z (sreg s d).toNat x2 (some ((here s).ctx.physS d.toNat)) s (here s)) (hfree : queueFree s 1) (hk : k ≠ 5)
    (hplaced : placed s .write (atomBytes z) (addr s a) (addr s a) (atomBytes z) [p]) (hland : landingFree s) :
    Does s i [.atomic op z p (sreg s d).toNat x2 (some ((here s).ctx.physS d.toNat)) k w] true :=
  does_alone hexec (hbody.trans (gatomic_placed hfree hk hplaced i op w _ x2 fun _ => hland)) ⟨rfl, rfl, rfl, rfl⟩

theorem does_quant {i : Instr} {f : FFmt} (hexec : exec i s = issueSlot i (gquant i f d a w k q) s) (hfree : queueFree s 1) (hk : k ≠ 5)
    (hplaced : placed s .write 8 (addr s a) (addr s a) 8 [p]) :
    let r := quantise ((here s).ctx.getQs q.toNat) (f.decode ((sreg s d).toNat % 2 ^ f.width))
    Does s i [.atomic .add 3 p (BitVec.ofInt 64 r.1).toNat 0 none k w, .orFlags r.2] (decide (w ≠ 0)) (scaleReads q.toNat) := by
  intro r
  refine does_alone hexec ?_ ⟨rfl, rfl, rfl, rfl⟩
  unfold gquant
  dsimp only
  rw [gatomic_placed (sz := 3) (dest := none) hfree hk hplaced i .add w _ 0 (fun h => nomatch h), BitVec.toNat_ofInt]
  rfl

/-- An ordered atomic without a result. -/
theorem after_ordered (h : Plain s) (hw : w ≠ 0) (i : Instr) (op : AtomOp) (data : Nat) (x2 : BitVec 64) :
    let a := after s i [.atomic op z p data x2 none k w]
    Takes s a [(.atomic op z x2 none, 4, p, data, k, w.getLsbD 0, w.getLsbD 1)] ∧ a.land = [] ∧ a.ctx = goesOn s (here s).ctx := by
  intro a
  obtain ⟨mq', hfold, htook⟩ := foldl_pushReq (f := fun c p => c.pushReq (.atomic op z x2 none) 4 p data k w) (data := fun _ => data)
    (fun _ _ _ => rfl) (here s) h.unprotected [p]
  have happly : (here s).apply (.atomic op z p data x2 none k w) = (here s).pushReq (.atomic op z x2 none) 4 p data k w := if_neg hw
  obtain ⟨hctx, hpipe, hland, hpool, -, -, hmq, -, -⟩ : EndedAs a _ _ :=
    after_straight (i := i) (es := [.atomic op z p data x2 none k w]) h (happly.trans hfold) ⟨rfl, rfl, rfl, rfl⟩ h.pipe h.land h.unprotected rfl rfl
  refine ⟨?_, hland, hctx⟩
  show TookIn (here s).mq a.mq _
  rw [hmq]
  exact htook

/-- An exchanging atomic. -/
theorem after_exchange (h : Plain s) (i : Instr) (op : AtomOp) (data : Nat) (x2 : BitVec 64) (r : Nat) :
    let a := after s i [.atomic op z p data x2 (some r) k w]
    Takes s a [(.atomic op z x2 (some (here s).nid), 4, p, data, k, w.getLsbD 0, w.getLsbD 1)] ∧ a.ctx = goesOn s (here s).ctx
    ∧ ∃ l : Landing, a.land = [l] ∧ l.id = (here s).nid ∧ l.file = 0 ∧ l.dest = r ∧ l.data = none ∧ l.bytes = if p.n = 4 then 4 else 8 := by
  intro a
  obtain ⟨mq', hfold, htook⟩ := foldl_pushReq (f := fun c p => c.pushReq (.atomic op z x2 (some (here s).nid)) 4 p data k w) (data := fun _ => data)
    (fun _ _ _ => rfl) ((here s).pushLanding 0 r 31 (if p.n = 4 then 2 else 3) 1) h.unprotected [p]
  obtain ⟨hctx, hpipe, hland', hpool, hmq⟩ : LandsAs a _ _ :=
    after_landing (i := i) (es := [.atomic op z p data x2 (some r) k w]) h hfold ⟨rfl, rfl, rfl, rfl⟩ h.pipe (land_fresh h.land _ _ _ _ _) h.unprotected rfl rfl
  refine ⟨?_, hctx, _, by rw [hland', pushLanding_land h.land, List.map_singleton], rfl, rfl, rfl, rfl, ?_⟩
  · show TookIn (here s).mq a.mq _
    rw [hmq]
    exact htook
  · unfold Landing.bytes nearer freshLanding
    split <;> rfl

/-- A relaxed atomic without a result leaves all but the port. -/
theorem pushAtomic_port {c : Core} (hprot : c.prot = false) (op : AtomOp) (z : BitVec 3) (p : Piece) (data : Nat) (k : BitVec 3) :
    ∃ nid mq', c.pushAtomic op z p data k = { c with nid := nid, mq := mq' }
      ∧ ((∀ r ∈ c.mq, lineOf r.piece.target ≠ lineOf p.target) → TookIn c.mq mq' [(.atomic op z 0 none, 4, p, data, k, false, false)]) := by
  obtain ⟨old, r, hpush, hold, htold, hfresh⟩ := pushReq_takes hprot (.atomic op z 0 none) 4 p data k 0
  have htook : TookIn c.mq (old ++ [r]) [(.atomic op z 0 none, 4, p, data, k, false, false)] := by
    have := (TookIn.refl c.mq).push hold hfresh
    rwa [show told r = _ from htold] at this
  have hnew (hline : ∀ r ∈ c.mq, lineOf r.piece.target ≠ lineOf p.target) : c.lineEntry op z p k = [] :=
    List.filter_eq_nil_iff.mpr fun q hq => by simp [hline q hq]
  unfold Core.pushAtomic
  rw [hprot]
  dsimp only
  rw [if_neg Bool.false_ne_true]
  split
  · next q hq =>
    refine ⟨_, _, rfl, fun hline => ?_⟩
    rw [hnew hline] at hq
    cases hq
  · rw [hpush]
    split
    · exact ⟨_, _, rfl, fun _ => htook⟩
    · next q l hl =>
      refine ⟨_, _, rfl, fun hline => ?_⟩
      rw [hnew hline] at hl
      cases hl

theorem after_relaxed (h : Plain s) (i : Instr) (op : AtomOp) (data : Nat) :
    let a := after s i [.atomic op z p data 0 none k 0]
    a.land = [] ∧ a.ctx = goesOn s (here s).ctx
    ∧ ((∀ r ∈ (here s).mq, lineOf r.piece.target ≠ lineOf p.target) → Takes s a [(.atomic op z 0 none, 4, p, data, k, false, false)]) := by
  intro a
  obtain ⟨nid, mq', hpush, htook⟩ := pushAtomic_port h.unprotected op z p data k
  obtain ⟨hctx, hpipe, hland, hpool, -, -, hmq, -, -⟩ : EndedAs a _ _ :=
    after_straight (i := i) (es := [.atomic op z p data 0 none k 0]) h hpush ⟨rfl, rfl, rfl, rfl⟩ h.pipe h.land h.unprotected rfl rfl
  refine ⟨hland, hctx, fun hline => ?_⟩
  show TookIn (here s).mq a.mq _
  rw [hmq]
  exact htook hline

end

/-- Settles O27: an atomic whose element translates for writing issues; how it stands in the port. -/
theorem atomicsIssue : Obligations.AtomicsIssue := by
  intro s d a w k z q p hfree hk
  refine ⟨fun hplaced => ⟨?_, fun hland => ⟨does_exchange rfl rfl hfree hk hplaced hland, fun heven hd => ?_⟩⟩, fun hplaced => ?_, fun i op data x2 p hplain => ?_⟩
  · simp only [atomicForms, List.forall_mem_cons]
    exact ⟨does_atomic rfl hfree hk hplaced, does_atomic rfl hfree hk hplaced, does_atomic rfl hfree hk hplaced, does_atomic rfl hfree hk hplaced,
      does_atomic rfl hfree hk hplaced, does_atomic rfl hfree hk hplaced, does_atomic rfl hfree hk hplaced, fun _ h => nomatch h⟩
  · have hpair : ¬ (d.toNat % 2 = 1 ∨ d = 0) := fun hbad => hbad.elim (by omega) hd
    exact does_exchange rfl (if_neg hpair) hfree hk hplaced hland
  · simp only [quantForms, List.forall_mem_cons]
    exact ⟨does_quant rfl hfree hk hplaced, does_quant rfl hfree hk hplaced, does_quant rfl hfree hk hplaced, fun _ h => nomatch h⟩
  · refine ⟨fun hw => after_ordered hplain hw i op data x2, fun r => after_exchange hplain i op data x2 r, ?_⟩
    rintro rfl rfl
    exact after_relaxed hplain i op data

end Sys2Proof.Proofs

/-! SUPPORT. The block instructions of the P port: what a block that translates gives, and what becomes of its way (10 R223-R225). -/

namespace Sys2Proof.Proofs

open Sys2Proof Sys2Proof.Machine Sys2Proof.Laws Sys2Proof.Claims

/-! ## Issue -/

section
variable {s : State} {r : BitVec 3} {d : BitVec 6} {a : BitVec 4} {home : PAddr} {w : Nat}

theorem translated_placed {want : Want} (h : blockPlaced s want a home) : translated s s.cur want (blockAddr (here s) a) = (some home, {}) := by
  rw [translated, show s.xlateCore s.cur want (blockAddr (here s) a) = .ok home from h]

/-- The register and the pair that a PROBE writes. -/
def probeOut (s : State) (r : BitVec 3) (d : BitVec 6) (miss : Bool) (x : BitVec 64) : List Effect :=
  [toS s 1 d x, toP s (2 * r.toNat) miss, toP s (2 * r.toNat + 1) (!miss)]

/-- A way of the set that a(A) names, and its slot's offset. -/
abbrev slotAt (s : State) (a : BitVec 4) (w : Nat) : BitVec 64 := BitVec.ofNat 64 (slotOffset (here s).ctx.pw (blockSet (block s a)) w)

theorem probe_hit (h : blockPlaced s .read a home) (hfind : (here s).findBlock (block s a) = some w) (inv : Bool) :
    probe r d a inv s (here s) =
      { effects := .probe (blockSet (block s a)) w none (blockTag (block s a)) inv :: probeOut s r d false (slotAt s a w) } := by
  unfold probe
  dsimp only
  rw [translated_placed h, show (here s).findBlock (blockAddr (here s) a) = some w from hfind]
  rfl

theorem probe_fills (h : blockPlaced s .read a home) (hfind : (here s).findBlock (block s a) = none)
    (hvictim : (here s).victim (blockSet (block s a)) = some w) (hroom : (here s).sbUsed < 32) (inv : Bool) :
    probe r d a inv s (here s) =
      { effects := .probe (blockSet (block s a)) w (some home) (blockTag (block s a)) inv :: probeOut s r d true (slotAt s a w) } := by
  unfold probe
  dsimp only
  rw [translated_placed h, show (here s).findBlock (blockAddr (here s) a) = none from hfind]
  dsimp only
  rw [show (here s).victim (blockSet (blockAddr (here s) a)) = some w from hvictim]
  dsimp only
  rw [if_neg (Nat.not_le.mpr hroom)]
  rfl

theorem probe_misses (h : blockPlaced s .read a home) (hfind : (here s).findBlock (block s a) = none)
    (hvictim : (here s).victim (blockSet (block s a)) = none) (inv : Bool) :
    probe r d a inv s (here s) = { effects := probeOut s r d true (BitVec.allOnes 64) } := by
  unfold probe
  dsimp only
  rw [translated_placed h, show (here s).findBlock (blockAddr (here s) a) = none from hfind]
  dsimp only
  rw [show (here s).victim (blockSet (blockAddr (here s) a)) = none from hvictim]
  rfl

theorem blockOp_found (h : blockPlaced s .read a home) (hfind : (here s).findBlock (block s a) = some w) (e : Nat → Nat → Effect) :
    blockOp a e s (here s) = { effects := [e (blockSet (block s a)) w] } := by
  unfold blockOp
  dsimp only
  rw [translated_placed h, show (here s).findBlock (blockAddr (here s) a) = some w from hfind]
  rfl

theorem blockOp_absent (h : blockPlaced s .read a home) (hfind : (here s).findBlock (block s a) = none) (e : Nat → Nat → Effect) :
    blockOp a e s (here s) = {} := by
  unfold blockOp
  dsimp only
  rw [translated_placed h, show (here s).findBlock (blockAddr (here s) a) = none from hfind]

theorem does_pwb_absent (h : blockPlaced s .read a home) (hfind : (here s).findBlock (block s a) = none) : Does s (.pwb a) [] := by
  refine does_alone rfl ?_ clean_nil
  dsimp only
  rw [show (here s).findBlock (blockAddr (here s) a) = none from hfind]
  dsimp only
  rw [if_neg Bool.false_ne_true, translated_placed h]

/-- Whether a way holds a valid DIRTY block. -/
def dirtyAt (c : Core) (set w : Nat) : Bool := decide ((c.tag set w).st = 2) && (c.tag set w).dirty

theorem dirtyAt_iff {c : Core} {set w : Nat} : dirtyAt c set w = true ↔ (c.tag set w).st = 2 ∧ (c.tag set w).dirty = true := by simp [dirtyAt]

theorem does_pwb_found (hfind : (here s).findBlock (block s a) = some w)
    (h : blockPlaced s (if dirtyAt (here s) (blockSet (block s a)) w then .write else .read) a home)
    (hroom : dirtyAt (here s) (blockSet (block s a)) w = true → (here s).sbUsed < 32) : Does s (.pwb a) [.pwb (blockSet (block s a)) w home] := by
  have hfree : (dirtyAt (here s) (blockSet (block s a)) w && decide (32 ≤ (here s).sbUsed)) = false := by
    rw [Bool.and_eq_false_imp]
    exact fun hdirty => decide_eq_false (Nat.not_le.mpr (hroom hdirty))
  refine does_alone rfl ?_ ⟨rfl, rfl, rfl, rfl⟩
  dsimp only
  rw [show (here s).findBlock (blockAddr (here s) a) = some w from hfind]
  dsimp only
  have htranslated : translated s s.cur
      (if decide (((here s).tag (blockSet (blockAddr (here s) a)) w).st = 2) && ((here s).tag (blockSet (blockAddr (here s) a)) w).dirty then .write else .read)
      (blockAddr (here s) a) = (some home, {}) := translated_placed h
  rw [htranslated]
  dsimp only
  rw [show (decide (((here s).tag (blockSet (blockAddr (here s) a)) w).st = 2) && ((here s).tag (blockSet (blockAddr (here s) a)) w).dirty
    && decide (32 ≤ (here s).sbUsed)) = false from hfree]
  rfl

end

/-! ## The way once the bundle has ended -/

section
variable {s : State} (h : Plain s) (i : Instr) {set w : Nat}
include h

/-- A block instruction's bundle: the port's old requests close, and the table and the scoreboard are those of its effect. -/
theorem after_block {e : Effect} {d : Core} (hd : (here s).apply e = d) (hstraight : Straight [e]) (horder : inOrder [e] = [e])
    (hd' : d = { here s with pool := d.pool, sb := d.sb, nid := d.nid, mq := d.mq }) :
    (after s i [e]).pool = d.pool ∧ (after s i [e]).sb = d.sb := by
  have hend : EndedAs (after s i [e]) d (here s).iss.size := after_straight (i := i) h (by rw [horder]; exact hd) hstraight
    (by rw [hd']; exact h.pipe) (by rw [hd']; exact h.land) (by rw [hd']; exact h.unprotected) (by rw [hd']) (by rw [hd'])
  exact ⟨hend.pool, hend.sb⟩

end

/-- The other ways of a table in which one has changed. -/
theorem tag_setTag_other (c : Core) {set w q v : Nat} (e : TagEntry) (hset : set < 64) (hq : q < 64) (h : v ≠ w ∨ q ≠ set) : (c.setTag set w e).tag q v = c.tag q v :=
  mapGet_set_other _ (by unfold tagKey; omega)

theorem tag_setTag_same (c : Core) (set w : Nat) (e : TagEntry) : (c.setTag set w e).tag set w = e := mapGet_set_same ..

/-- The other ways of the table. -/
def OtherWays (c a : Core) (set w : Nat) : Prop := ∀ q v, v ≠ w ∨ q ≠ set → q < 64 → a.tag q v = c.tag q v

/-- Where the table of a core is that of `c` with one way changed, that way, and every other one. -/
theorem tags_of_setTag {c a : Core} {set w : Nat} (hset : set < 64) {e : TagEntry} (ha : a.pool.tagt = (c.setTag set w e).pool.tagt) :
    a.tag set w = e ∧ OtherWays c a set w := by
  have htag (q v : Nat) : a.tag q v = (c.setTag set w e).tag q v := by rw [Core.tag, ha, ← Core.tag]
  exact ⟨(htag set w).trans (tag_setTag_same ..), fun q v hother hq => (htag q v).trans (tag_setTag_other c e hset hq hother)⟩

theorem otherWays_of_pool {c a : Core} (h : a.pool = c.pool) (set w : Nat) : OtherWays c a set w := fun q v _ _ => by rw [Core.tag, h, ← Core.tag]

/-- The scoreboard entry of a slot in flight. -/
def slotEntry (c : Core) (set w : Nat) (dest : Bool) (home : Option PAddr) : SbEntry :=
  { op := c.nid, slot := some (64 * w + set), lo := slotOffset c.ctx.pw set w, hi := slotOffset c.ctx.pw set w + 4095, dest := dest, home := home }

/-- A way as a miss leaves it. -/
def fillingEntry (home : PAddr) (tag : BitVec 34) (inv : Bool) : TagEntry :=
  { st := 1, dirty := false, pin := false, blk := tag, drop := false, inv := inv, home := home }

/-- A miss fills its way. -/
theorem apply_probe_fills (c : Core) (set w : Nat) (home : PAddr) (tag : BitVec 34) (inv : Bool) :
    ∃ mq plru, c.apply (.probe set w (some home) tag inv) =
      { c with nid := c.nid + 1, sb := c.sb ++ [slotEntry c set w true none], mq := mq
               pool := { (c.setTag set w (fillingEntry home tag inv)).pool with plru := plru } } :=
  ⟨(c.closeBlock home).mq, (c.touchWay set w).pool.plru, by
    show (c.closeBlock home).applyProbe set w (some home) tag inv = _
    unfold Core.applyProbe Core.setTag Core.touchWay Core.closeBlock
    rfl⟩

section
variable {s : State} (h : Plain s) (i : Instr) {set : Nat} (w : Nat)
include h

theorem after_probe_hit (tag : BitVec 34) (inv : Bool) :
    (after s i [.probe set w none tag inv]).pool.tagt = (here s).pool.tagt ∧ (after s i [.probe set w none tag inv]).sb = (here s).sb := by
  obtain ⟨hpool, hsb⟩ := after_block h i (e := .probe set w none tag inv) rfl ⟨rfl, rfl, rfl, rfl⟩ rfl rfl
  rw [hpool, hsb]
  exact ⟨rfl, rfl⟩

variable (hset : set < 64)
include hset

theorem after_probe_fills (home : PAddr) (tag : BitVec 34) (inv : Bool) :
    let a := after s i [.probe set w (some home) tag inv]
    a.tag set w = fillingEntry home tag inv ∧ OtherWays (here s) a set w ∧ a.sb = (here s).sb ++ [slotEntry (here s) set w true none] := by
  intro a
  obtain ⟨mq, plru, happly⟩ := apply_probe_fills (here s) set w home tag inv
  obtain ⟨hpool, hsb⟩ := after_block h i happly ⟨rfl, rfl, rfl, rfl⟩ rfl rfl
  obtain ⟨htag, hother⟩ := tags_of_setTag (c := here s) (a := a) (w := w) hset (by rw [hpool])
  exact ⟨htag, hother, hsb⟩

theorem after_pwb (home : PAddr) :
    let a := after s i [.pwb set w home]
    OtherWays (here s) a set w ∧ (¬ dirtyAt (here s) set w = true → a.pool = (here s).pool ∧ a.sb = (here s).sb)
      ∧ (dirtyAt (here s) set w = true → a.tag set w = { (here s).tag set w with st := 3, dirty := false }
        ∧ a.sb = (here s).sb ++ [slotEntry (here s) set w false (some home)]) := by
  intro a
  by_cases hdirty : dirtyAt (here s) set w = true
  · have happly : (here s).apply (.pwb set w home) = { ((here s).closeBlock home).setTag set w { (here s).tag set w with st := 3, dirty := false } with
        nid := (here s).nid + 1, sb := (here s).sb ++ [slotEntry (here s) set w false (some home)] } := if_pos (dirtyAt_iff.mp hdirty)
    obtain ⟨hpool, hsb⟩ := after_block h i happly ⟨rfl, rfl, rfl, rfl⟩ rfl rfl
    obtain ⟨htag, hother⟩ := tags_of_setTag (c := here s) (a := a) (w := w) hset (congrArg Pool.tagt hpool)
    exact ⟨hother, fun hnot => absurd hdirty hnot, fun _ => ⟨htag, hsb⟩⟩
  · have happly : (here s).apply (.pwb set w home) = (here s).closeBlock home := if_neg (mt dirtyAt_iff.mpr hdirty)
    obtain ⟨hpool, hsb⟩ := after_block h i happly ⟨rfl, rfl, rfl, rfl⟩ rfl rfl
    exact ⟨otherWays_of_pool hpool set w, fun _ => ⟨hpool, hsb⟩, fun hyes => absurd hyes hdirty⟩

theorem after_pinv :
    let a := after s i [.pinv set w]
    OtherWays (here s) a set w ∧ a.sb = (here s).sb
      ∧ a.tag set w = if ((here s).tag set w).st = 1 then { (here s).tag set w with drop := true, pin := false } else Init.tagEntry := by
  intro a
  have happly : (here s).apply (.pinv set w) = (here s).setTag set w
      (if ((here s).tag set w).st = 1 then { (here s).tag set w with drop := true, pin := false } else Init.tagEntry) := by
    show (here s).applyPinv set w = _
    unfold Core.applyPinv
    dsimp only
    split <;> rfl
  obtain ⟨hpool, hsb⟩ := after_block h i happly ⟨rfl, rfl, rfl, rfl⟩ rfl rfl
  obtain ⟨htag, hother⟩ := tags_of_setTag (c := here s) (a := a) (w := w) hset (congrArg Pool.tagt hpool)
  exact ⟨hother, hsb, htag⟩

theorem after_ppin (pin : Bool) :
    let a := after s i [.ppin set w pin]
    OtherWays (here s) a set w ∧ a.sb = (here s).sb ∧ a.tag set w = { (here s).tag set w with pin := pin } := by
  intro a
  obtain ⟨hpool, hsb⟩ := after_block h i (e := .ppin set w pin) rfl ⟨rfl, rfl, rfl, rfl⟩ rfl rfl
  obtain ⟨htag, hother⟩ := tags_of_setTag (c := here s) (a := a) (w := w) hset (congrArg Pool.tagt hpool)
  exact ⟨hother, hsb, htag⟩

end

/-- Settles O28: the block's translation and its way decide the slot; one way of the table is all that a bundle's block instruction changes. -/
theorem cacheSlotsComplete : Obligations.CacheSlotsComplete := by
  intro s r d a n home
  have hset : block s a / 4096 % 64 < 64 := Nat.mod_lt _ (by decide)
  refine ⟨fun hplaced => ⟨fun w hfind => ?_, fun hfind => ⟨fun w hvictim hroom => ?_, fun hvictim => ?_, ?_, ?_, ?_⟩⟩, fun w hfind => ?_, fun i w inv pin hplain => ?_⟩
  · exact ⟨does_alone rfl (probe_hit hplaced hfind false) ⟨rfl, rfl, rfl, rfl⟩, does_alone rfl (probe_hit hplaced hfind true) ⟨rfl, rfl, rfl, rfl⟩,
      does_alone rfl (blockOp_found hplaced hfind _) ⟨rfl, rfl, rfl, rfl⟩, does_alone rfl (blockOp_found hplaced hfind _) ⟨rfl, rfl, rfl, rfl⟩⟩
  · exact ⟨does_alone rfl (probe_fills hplaced hfind hvictim hroom false) ⟨rfl, rfl, rfl, rfl⟩,
      does_alone rfl (probe_fills hplaced hfind hvictim hroom true) ⟨rfl, rfl, rfl, rfl⟩⟩
  · exact ⟨does_alone rfl (probe_misses hplaced hfind hvictim false) ⟨rfl, rfl, rfl, rfl⟩,
      does_alone rfl (probe_misses hplaced hfind hvictim true) ⟨rfl, rfl, rfl, rfl⟩⟩
  · exact does_alone rfl (blockOp_absent hplaced hfind _) clean_nil
  · exact does_alone rfl (blockOp_absent hplaced hfind _) clean_nil
  · exact does_pwb_absent hplaced hfind
  · refine ⟨fun hdirty hplaced hroom => does_pwb_found hfind ?_ fun _ => hroom, fun hclean hplaced => does_pwb_found hfind ?_ fun hdirty => ?_⟩
    · have hway := dirtyAt_iff.mpr hdirty
      exact (if_pos hway).symm ▸ hplaced
    · have hway := mt dirtyAt_iff.mp hclean
      exact (if_neg hway).symm ▸ hplaced
    · exact absurd (dirtyAt_iff.mp hdirty) hclean
  · obtain ⟨hother, hclean, hdirty⟩ := after_pwb hplain i w hset home
    exact ⟨after_probe_fills hplain i w hset home _ inv, after_probe_hit hplain i w _ inv,
      ⟨hother, fun hnot => hclean (mt dirtyAt_iff.mp hnot), fun hyes => hdirty (dirtyAt_iff.mpr hyes)⟩, after_pinv hplain i w hset,
      after_ppin hplain i w hset pin⟩

end Sys2Proof.Proofs

/-! SUPPORT. Drains, fences, waits, beacons and phases: when they complete, and what is left of them once the bundle has ended (10 R233-R242). -/

namespace Sys2Proof.Proofs

open Sys2Proof Sys2Proof.Machine Sys2Proof.Laws Sys2Proof.Claims

/-! ## Drains, fences and waits -/

section
variable {s : State} {k x y z : BitVec 3} {a : BitVec 4} {m t : BitVec 6} {p : Piece}

theorem does_drain (h : (here s).drained = true) : Does s (.drain k) [] true := by
  refine does_of_effects (so := []) (q := true) (e := false) rfl ?_ clean_nil
  rw [h]
  rfl

theorem does_bfence_nothing (h : sreg s m = 0) : Does s (.bfence a m) [] := by
  refine does_alone rfl ?_ clean_nil
  dsimp only
  rw [show (here s).ctx.getS m.toNat = 0 from h]
  rfl

theorem does_bfence (h : sreg s m ≠ 0) (hwalk : fenceWalk s ((sreg s m).toNat / 2 ^ 14 + 2) (addr s a) (sreg s m).toNat = none)
    (hfence : (here s).fence = some (addr s a, (sreg s m).toNat, true)) (hmarkers : s.markersOf s.cur = false) : Does s (.bfence a m) [] := by
  have hn : ((here s).ctx.getS m.toNat).toNat ≠ 0 := fun hzero => h (BitVec.eq_of_toNat_eq hzero)
  refine does_alone rfl ?_ clean_nil
  dsimp only
  rw [show fenceWalk s (((here s).ctx.getS m.toNat).toNat / 2 ^ 14 + 2) (gaddr (here s) a) ((here s).ctx.getS m.toNat).toNat = none from hwalk]
  dsimp only
  rw [if_neg hn, hfence]
  dsimp only
  rw [hmarkers]
  rfl

/-- A wait whose condition holds, or that has been marked satisfied, does not freeze. -/
theorem waitFreeze_met {c : Core} {met : Bool} (h : met = true ∨ c.ctx.waitOk = true) : waitFreeze c met = [] :=
  if_pos ((Bool.or_eq_true _ _).mpr h)

theorem does_twait (h : ((here s).ctx.tokenDone ((here s).ctx.physK x.toNat) && (here s).ctx.tokenDone ((here s).ctx.physK y.toNat)
    && (here s).ctx.tokenDone ((here s).ctx.physK z.toNat)) = true ∨ (here s).ctx.waitOk = true) : Does s (.twait x y z) [.waited] := by
  have hall : ([x, y, z].all fun k => (here s).ctx.tokenDone ((here s).ctx.physK k.toNat)) =
      ((here s).ctx.tokenDone ((here s).ctx.physK x.toNat) && (here s).ctx.tokenDone ((here s).ctx.physK y.toNat)
        && (here s).ctx.tokenDone ((here s).ctx.physK z.toNat)) := by simp [Bool.and_assoc]
  refine does_alone rfl ?_ ⟨rfl, rfl, rfl, rfl⟩
  rw [hall, waitFreeze_met h]

/-! ## Beacons -/

theorem spFaults_inside {pw off n : Nat} (h : off + n ≤ spSize pw) : spFaults pw 1 off n = [] := by
  unfold spFaults spOutside
  rw [if_pos (Nat.mod_one _), if_pos h]
  rfl

/-- An aligned doubleword of the offset space is in order as a beacon. -/
theorem spBeaconFaults_free (halign : addr s a % 8 = 0) (hin : addr s a % 2 ^ 23 + 8 ≤ spSize (here s).ctx.pw) : spBeaconFaults (here s) a = [] := by
  have haligned : gaddr (here s) a % 8 = 0 := halign
  have hinside : spFaults (here s).ctx.pw 1 (gaddr (here s) a % 2 ^ 23) 8 = [] := spFaults_inside hin
  unfold spBeaconFaults
  rw [hinside, if_pos haligned, List.append_nil]

theorem does_bwait_sp (halign : addr s a % 8 = 0) (hin : addr s a % 2 ^ 23 + 8 ≤ spSize (here s).ctx.pw)
    (hmet : decide ((sreg s t).toNat ≤ readBytes (here s).pool.sp (addr s a % 2 ^ 23) 8) = true ∨ (here s).ctx.waitOk = true) :
    Does s (.bwait a 1 t) [.waited] := fun hready => by
  refine does_alone rfl ?_ ⟨rfl, rfl, rfl, rfl⟩ hready
  dsimp only
  rw [if_pos rfl, spBeaconFaults_free halign hin, hready.quiet.acquired]
  show ({ effects := [.waited], freezes := waitFreeze (here s) (true && decide _) } : SlotOut) = _
  rw [Bool.true_and, show (here s).spRead (gaddr (here s) a % 2 ^ 23) 8 = readBytes (here s).pool.sp (addr s a % 2 ^ 23) 8 from rfl, waitFreeze_met hmet]

theorem does_badd_sp (halign : addr s a % 8 = 0) (hin : addr s a % 2 ^ 23 + 8 ≤ spSize (here s).ctx.pw) (hsound : spSound s (addr s a % 2 ^ 23) 8) :
    Does s (.badd k a 1 t) [.spAdd (addr s a % 2 ^ 23) (sreg s t)] := fun hready => by
  refine does_alone rfl ?_ ⟨rfl, rfl, rfl, rfl⟩ hready
  dsimp only
  rw [if_pos rfl, spBeaconFaults_free halign hin, acquireFreeze, hready.quiet.acquired,
    show spPoison (here s) (gaddr (here s) a % 2 ^ 23) 8 = [] from spPoison_sound hsound]
  rfl

theorem does_bwait_global (hplaced : placed s .read 8 (addr s a) (addr s a) 8 [p]) (hown : (here s).ownWrite p.target = false)
    (hmet : (here s).polled (sreg s t).toNat = true ∨ (here s).ctx.waitOk = true) : Does s (.bwait a 0 t) [.waited] := fun hready => by
  refine does_alone rfl ?_ ⟨rfl, rfl, rfl, rfl⟩ hready
  dsimp only
  rw [if_neg (by decide), show gaccess s .read 8 (gaddr (here s) a) (gaddr (here s) a) 8 = _ from gaccess_placed hplaced]
  dsimp only
  rw [hready.quiet.acquired, hown]
  show ({ effects := [.waited], freezes := waitFreeze (here s) (true && (here s).polled _) } : SlotOut) = _
  rw [Bool.true_and, waitFreeze_met hmet]

theorem does_badd_global (hplaced : placed s .write 8 (addr s a) (addr s a) 8 [p]) (hfree : queueFree s 1) :
    Does s (.badd k a 0 t) [.atomic .add 3 p (sreg s t).toNat 0 none k 0] := by
  refine does_alone rfl ?_ ⟨rfl, rfl, rfl, rfl⟩
  dsimp only
  rw [if_neg (by decide), show gaccess s .write 8 (gaddr (here s) a) (gaddr (here s) a) 8 = _ from gaccess_placed hplaced]
  dsimp only
  rw [queueFreeze_free hfree (atomicEntries_le ..)]
  rfl

/-! ## Phases -/

/-- Bytes read, lowest first, are below the power of their number. -/
theorem readBytes_lt (m : FMap Byte) (a n : Nat) : readBytes m a n < 256 ^ n := by
  induction n generalizing a with
  | zero => simp [readBytes]
  | succ n ih =>
    have hbyte : (mapGet 0 m a).toNat < 256 := (mapGet 0 m a).isLt
    have hrest := ih (a + 1)
    rw [readBytes, pow_succ]
    omega

/-- Bits of a header, read as a number and as a vector. -/
theorem fieldOf_header {n : Nat} (hn : n < 2 ^ 256) (lo len : Nat) :
    fieldOf n (lo + len) lo = ((BitVec.ofNat 256 n).extractLsb' lo (len + 1)).toNat := by
  rw [fieldOf, BitVec.extractLsb'_toNat, BitVec.toNat_ofNat, Nat.mod_eq_of_lt hn, show lo + len + 1 - lo = len + 1 by omega]

/-- A header in order that has the issuer in its group. -/
theorem headerFaults_free {n off : Nat} (hn : n < 2 ^ 256) {core : BitVec 8} (hcolour : 2 ≤ ((BitVec.ofNat 256 n).extractLsb' 0 2).toNat)
    (hlow : (BitVec.ofNat 256 n).extractLsb' 2 14 = 0) (hmid : (BitVec.ofNat 256 n).extractLsb' 32 32 = 0)
    (hhigh : (BitVec.ofNat 256 n).extractLsb' 192 64 = 0) (hgroup : (BitVec.ofNat 256 n).getLsbD (16 + core.toNat % 16) = true) :
    headerFaults n off core = [] := by
  have hcode : n % 4 = ((BitVec.ofNat 256 n).extractLsb' 0 2).toNat := by
    rw [← fieldOf_header hn 0 1]
    rfl
  have hmember : (fieldOf n 31 16).testBit (localOf core) = true := by
    rw [BitVec.getLsbD_ofNat] at hgroup
    unfold fieldOf localOf
    rw [Nat.testBit_mod_two_pow, Nat.testBit_shiftRight]
    simp only [Bool.and_eq_true, decide_eq_true_eq] at hgroup ⊢
    exact ⟨by omega, hgroup.2⟩
  have hfields : ¬ (n % 4 < 2 ∨ fieldOf n 15 2 ≠ 0 ∨ fieldOf n 63 32 ≠ 0 ∨ fieldOf n 255 192 ≠ 0) := by
    rw [hcode, show fieldOf n 15 2 = _ from fieldOf_header hn 2 13, show fieldOf n 63 32 = _ from fieldOf_header hn 32 31,
      show fieldOf n 255 192 = _ from fieldOf_header hn 192 63, hlow, hmid, hhigh]
    rintro (h | h | h | h)
    · omega
    · exact h rfl
    · exact h rfl
    · exact h rfl
  unfold headerFaults
  rw [if_neg hfields, hmember]
  rfl

theorem does_phase (hfree : spFree s 32 (sreg s t).toNat 32) (hsound : spSound s (sreg s t).toNat 32)
    (hheader : headerFaults (readBytes (here s).pool.sp (sreg s t).toNat 32) (sreg s t).toNat s.cur = []) :
    Does s (.phase t) [.phase (BitVec.ofNat 256 (readBytes (here s).pool.sp (sreg s t).toNat 32))] := by
  refine does_of_access rfl ?_ (banks_free hfree) ⟨rfl, rfl, rfl, rfl⟩
  dsimp only
  rw [show spAccess (here s) 32 ((here s).ctx.getS t.toNat).toNat 32 = _ from spAccess_free hfree]
  dsimp only
  rw [show (here s).spRead ((here s).ctx.getS t.toNat).toNat 32 = readBytes (here s).pool.sp (sreg s t).toNat 32 from rfl, hheader,
    show spPoison (here s) ((here s).ctx.getS t.toNat).toNat 32 = [] from spPoison_sound hsound]
  rfl

theorem does_phwait (h : s.phaseMet (cbOf s.cur) (here s).ctx (localOf s.cur) = true ∨ (here s).ctx.waitOk = true) :
    Does s .phwait [.phwait, .waited] := by
  refine does_alone rfl ?_ ⟨rfl, rfl, rfl, rfl⟩
  rw [waitFreeze_met h]

end

/-! ## What is left -/

theorem apply_spAdd (c : Core) (l : Nat) (v : BitVec 64) :
    c.apply (.spAdd l v) = c.spWrite l 8 ((c.spRead l 8 + v.toNat) % 2 ^ 64) (c.spPoisoned l 8) := by
  unfold Core.apply
  rfl

/-- The effects of a bundle that has one. -/
theorem foldl_single (c : Core) {e : Effect} (h : inOrder [e] = [e]) : (inOrder [e]).foldl Core.apply c = c.apply e := by rw [h, List.foldl_cons, List.foldl_nil]

section
variable {s : State} (h : Plain s) (i : Instr)
include h

theorem sp_after_spAdd (l x : Nat) (v : BitVec 64) : mapGet 0 (after s i [.spAdd l v]).pool.sp x =
    if l ≤ x ∧ x < l + 8 then BitVec.ofNat 8 ((readBytes (here s).pool.sp l 8 + v.toNat) % 2 ^ 64 / 256 ^ (x - l)) else mapGet 0 (here s).pool.sp x := by
  have happly := (foldl_single (here s) (e := .spAdd l v) rfl).trans (apply_spAdd (here s) l v)
  have hread : (here s).spRead l 8 = readBytes (here s).pool.sp l 8 := by unfold Core.spRead; rfl
  rw [hread] at happly
  generalize (readBytes (here s).pool.sp l 8 + v.toNat) % 2 ^ 64 = sum at happly ⊢
  obtain ⟨tags, hwrite⟩ := spWrite_keeps h.unprotected l 8 sum ((here s).spPoisoned l 8)
  have hend := after_straight (i := i) (es := [.spAdd l v]) h (happly.trans hwrite) ⟨rfl, rfl, rfl, rfl⟩ h.pipe h.land h.unprotected rfl rfl
  rw [hend.pool, get_writeBytes]

/-- A bundle whose effects change the context alone, and neither the nest nor the pc. -/
theorem ctx_after_ctx {es : List Effect} {x : Ctx} (hfold : (inOrder es).foldl Core.apply (here s) = { here s with ctx := x }) (hstraight : Straight es)
    (hlc : x.lc = (here s).ctx.lc) (hpc : x.pc = (here s).ctx.pc) :
    (after s i es).ctx = { x with pc := x.pc + BitVec.ofNat 64 (here s).iss.size, cycle := x.cycle + 1, waitOk := false } :=
  (after_straight (i := i) h hfold hstraight h.pipe h.land h.unprotected hlc hpc).ctx

end

/-- The colours of a phase's registers. -/
theorem colour_setColour (x : Ctx) (col other : BitVec 2) (p : Colour) :
    (x.setColour col p).colour other = if (col = 2 ↔ other = 2) then p else x.colour other := by
  unfold Ctx.setColour Ctx.colour
  by_cases hcol : col = 2 <;> by_cases hother : other = 2 <;> simp only [hcol, hother, if_true, iff_true, iff_false, not_true, not_false_iff, if_neg]

theorem setColour_keeps (x : Ctx) (col : BitVec 2) (p : Colour) : ∃ light dark, x.setColour col p = { x with light := light, dark := dark } := by
  unfold Ctx.setColour
  split
  · exact ⟨p, x.dark, rfl⟩
  · exact ⟨x.light, p, rfl⟩

/-- A colour whose phase is posted; and one whose expected counts have been taken. -/
def postedColour (old : Colour) (hdr : BitVec 256) : Colour :=
  { old with hdr := hdr, posted := true, gen := if old.posted then old.gen else !old.gen, held := false }

def settledColour (p : Colour) : Colour :=
  { p with copies := p.copies - p.hdr.extractLsb' 64 32, packets := p.packets - p.hdr.extractLsb' 96 32
           banks := p.banks - p.hdr.extractLsb' 128 32, stores := p.stores - p.hdr.extractLsb' 160 32, posted := false, held := true }

section
variable {s : State} (h : Plain s) (i : Instr)
include h

/-- PHASE's header is the posted phase of its colour. -/
theorem after_phase (hdr : BitVec 256) :
    let a := (after s i [.phase hdr]).ctx
    let col : BitVec 2 := hdr.truncate 2
    a.cur = col ∧ a.colour col = postedColour ((here s).ctx.colour col) hdr
    ∧ ∀ other : BitVec 2, (col = 2 ↔ other ≠ 2) → a.colour other = (here s).ctx.colour other := by
  intro a col
  obtain ⟨light, dark, hset⟩ := setColour_keeps (here s).ctx col (postedColour ((here s).ctx.colour col) hdr)
  have hphase : (here s).ctx.phase hdr = { (here s).ctx.setColour col (postedColour ((here s).ctx.colour col) hdr) with cur := col } := rfl
  have hctx := ctx_after_ctx h i (es := [.phase hdr]) (x := (here s).ctx.phase hdr) (foldl_single _ rfl) ⟨rfl, rfl, rfl, rfl⟩ (by rw [hphase, hset])
    (by rw [hphase, hset])
  rw [hphase] at hctx
  have hcolour (other : BitVec 2) : a.colour other = ((here s).ctx.setColour col (postedColour ((here s).ctx.colour col) hdr)).colour other := by
    show (after s i [.phase hdr]).ctx.colour other = _
    rw [hctx]
    rfl
  refine ⟨?_, ?_, fun other hother => ?_⟩
  · show (after s i [.phase hdr]).ctx.cur = col
    rw [hctx]
  · rw [hcolour, colour_setColour, if_pos Iff.rfl]
  · rw [hcolour, colour_setColour, if_neg fun hsame => by tauto]

/-- PHWAIT takes the expected counts from those of the current colour. -/
theorem after_phwait :
    let a := (after s i [.phwait, .waited]).ctx
    let p := (here s).ctx.colour (here s).ctx.cur
    a.cur = (here s).ctx.cur
    ∧ ((here s).ctx.cur ≠ 0 → p.posted = true → a.colour (here s).ctx.cur = settledColour p)
    ∧ ((here s).ctx.cur = 0 ∨ p.posted = false → a = goesOn s (here s).ctx) := by
  intro a p
  have hctx (x : Ctx) (hx : (here s).ctx.phwait = x) (hlc : x.lc = (here s).ctx.lc) (hpc : x.pc = (here s).ctx.pc) :
      a = { x with pc := x.pc + BitVec.ofNat 64 (here s).iss.size, cycle := x.cycle + 1, waitOk := false } :=
    ctx_after_ctx h i (es := [.phwait, .waited]) (by rw [← hx]; rfl) ⟨rfl, rfl, rfl, rfl⟩ hlc hpc
  by_cases hposted : (here s).ctx.cur ≠ 0 ∧ p.posted = true
  · have hphwait : (here s).ctx.phwait = (here s).ctx.setColour (here s).ctx.cur (settledColour p) := if_pos hposted
    obtain ⟨light, dark, hset⟩ := setColour_keeps (here s).ctx (here s).ctx.cur (settledColour p)
    have ha := hctx _ hphwait (by rw [hset]) (by rw [hset])
    refine ⟨?_, fun _ _ => ?_, fun hnot => ?_⟩
    · rw [ha, hset]
    · rw [ha]
      exact (colour_setColour ..).trans (if_pos Iff.rfl)
    · obtain ⟨hcur, hp⟩ := hposted
      exact hnot.elim (absurd · hcur) fun hfalse => absurd (hp.symm.trans hfalse) (by decide)
  · have ha := hctx _ (if_neg hposted : (here s).ctx.phwait = (here s).ctx) rfl rfl
    refine ⟨?_, fun hcur hp => absurd ⟨hcur, hp⟩ hposted, fun _ => ha⟩
    rw [ha]

end

/-- Settles O29: each wait completes once its condition holds, and the beacons and phases change what they name. -/
theorem synchronisationCompletes : Obligations.SynchronisationCompletes := by
  intro s k x y z a m t p
  refine ⟨does_drain, does_bfence_nothing, does_bfence, does_twait, fun halign hin => ⟨does_bwait_sp halign hin, does_badd_sp halign hin⟩,
    does_bwait_global, does_badd_global, fun hfree hsound hcolour hlow hmid hhigh hgroup => does_phase hfree hsound ?_, does_phwait,
    fun i h => ⟨fun l x v => sp_after_spAdd h i l x v, after_phase h i, after_phwait h i, ?_⟩⟩
  · have hbound := readBytes_lt (here s).pool.sp (sreg s t).toNat 32
    rw [show (256 : Nat) ^ 32 = 2 ^ 256 by norm_num] at hbound
    exact headerFaults_free hbound hcolour hlow hmid hhigh hgroup
  · exact ctx_after_ctx h i (es := [.waited]) rfl ⟨rfl, rfl, rfl, rfl⟩ rfl rfl

end Sys2Proof.Proofs

/-! SUPPORT. Bank micro-ops: a bank that may execute runs its micro-op; lanes of accumulators and fields of columns; what stops a bank (13 R286-R289,
20 R390, R391). -/

namespace Sys2Proof.Proofs

open Sys2Proof Sys2Proof.Machine Sys2Proof.Laws Sys2Proof.Claims

/-! ## Banks in place -/

section
variable (s : State) (k pc bank : Nat)

theorem chan_setChan (x : PChan) : (s.setChan k pc x).chan k pc = x := by
  unfold State.chan State.setChan State.updStack State.setStack State.stack
  rw [mapGet_set_same]
  exact mapGet_set_same ..

theorem bankAt_updChan (f : PChan → PChan) : (s.updChan k pc f).bankAt k pc bank = (f (s.chan k pc)).bank bank := by
  unfold State.bankAt State.updChan
  rw [chan_setChan]

theorem bankAt_setBankAt (b : Bank) : (s.setBankAt k pc bank b).bankAt k pc bank = b := by
  unfold State.setBankAt
  rw [bankAt_updChan]
  exact mapGet_set_same ..

end

/-! ## A bank that may execute -/

section
variable {s : State} {g : Program} {c : Bank} {column : Bool}

theorem bankUop_on (h : bankOn s g) (f : State → Nat → Nat → Nat → Program → Bank → State) :
    bankUop f s = .next (f s s.curBank.1.toNat s.curBank.2.1.toNat s.curBank.2.2.toNat g (bankHere s)) := by
  obtain ⟨hprog, hended⟩ := h
  have hended' : ((s.chan s.curBank.1.toNat s.curBank.2.1.toNat).bank s.curBank.2.2.toNat).ended = false := hended
  unfold bankUop
  dsimp only
  rw [hprog]
  dsimp only
  rw [hended']
  rfl

theorem joined_ok (h : bankRuns s column g c) (f : State → Nat → Nat → Nat → Program → Bank → State) :
    joined column f s = .next (f s s.curBank.1.toNat s.curBank.2.1.toNat s.curBank.2.2.toNat g c) := by
  obtain ⟨hon, hjoin⟩ := h
  unfold joined
  rw [bankUop_on hon, hjoin]

end

/-! ## Accumulators -/

section
variable (b : Bank) (d : BitVec 2) (f : Nat → Nat × Bool)

theorem lane_setAcc_same {j : Nat} (hj : j < 8) : (b.setAcc d f).lane d j = (f j).1 % 2 ^ 32 := by
  have hlanes : ((List.range 8).map f).foldr (fun (l : Nat × Bool) x => l.1 % 2 ^ 32 + x <<< 32) 0 = packed 32 ((List.range 8).map fun j => (f j).1) := by
    rw [packed, List.foldr_map, List.foldr_map]
  unfold Bank.lane Bank.setAcc
  dsimp only
  rw [mapGet_set_same, hlanes, fieldOf, show 32 * j + 31 + 1 - 32 * j = 32 by omega, packed_elem (by omega)]
  simp [hj]

theorem lane_setAcc_other {e : BitVec 2} (he : e ≠ d) (j : Nat) : (b.setAcc d f).lane e j = b.lane e j := by
  have hne : e.toNat ≠ d.toNat := fun h => he (BitVec.eq_of_toNat_eq h)
  unfold Bank.lane Bank.setAcc
  dsimp only
  rw [mapGet_set_other _ hne]

/-- The marks that an accumulator is given. -/
theorem marks_foldl (n : Nat) (g : Nat → Bool) (m : FMap Bool) (base k : Nat) :
    mapGet false ((List.range n).foldl (fun m j => mapSet false m (base + j) (g j)) m) k =
      if base ≤ k ∧ k < base + n then g (k - base) else mapGet false m k := by
  induction n with
  | zero => rw [if_neg (by omega)]; rfl
  | succ n ih =>
    rw [List.range_succ, List.foldl_append, List.foldl_cons, List.foldl_nil]
    by_cases hk : k = base + n
    · rw [hk, mapGet_set_same, if_pos (by omega), Nat.add_sub_cancel_left]
    · rw [mapGet_set_other _ hk, ih]
      by_cases hin : base ≤ k ∧ k < base + n
      · rw [if_pos hin, if_pos (by omega)]
      · rw [if_neg hin, if_neg (by omega)]

theorem bad_setAcc : (b.setAcc d f).bad = (List.range 8).foldl (fun m j => mapSet false m (8 * d.toNat + j) ((((List.range 8).map f).getD j (0, false)).2)) b.bad :=
  rfl

theorem lost_setAcc_same {j : Nat} (hj : j < 8) : (b.setAcc d f).lost d j = (f j).2 := by
  unfold Bank.lost
  rw [bad_setAcc, marks_foldl, if_pos (by omega), Nat.add_sub_cancel_left]
  simp [hj]

theorem lost_setAcc_other {e : BitVec 2} (he : e ≠ d) {j : Nat} (hj : j < 8) : (b.setAcc d f).lost e j = b.lost e j := by
  have hne : e.toNat ≠ d.toNat := fun h => he (BitVec.eq_of_toNat_eq h)
  unfold Bank.lost
  rw [bad_setAcc, marks_foldl, if_neg (by omega)]

theorem setAcc_keeps : ∃ acc bad, b.setAcc d f = { b with acc := acc, bad := bad } := by
  unfold Bank.setAcc
  exact ⟨_, _, rfl⟩

/-- An accumulator written, and the micro-op after it next. -/
theorem setAcc_advance_keeps :
    (b.setAcc d f).advance = { b with acc := (b.setAcc d f).advance.acc, bad := (b.setAcc d f).advance.bad, mpc := b.mpc + 1 } := by
  obtain ⟨acc, bad, h⟩ := setAcc_keeps b d f
  rw [h]
  rfl

theorem lane_advance (a : BitVec 2) (j : Nat) : b.advance.lane a j = b.lane a j := rfl

theorem lost_advance (a : BitVec 2) (j : Nat) : b.advance.lost a j = b.lost a j := rfl

/-- What an accumulator written holds, and what the others do. -/
theorem setAcc_advance_holds : (∀ j < 8, (b.setAcc d f).advance.lane d j = (f j).1 % 2 ^ 32 ∧ (b.setAcc d f).advance.lost d j = (f j).2)
    ∧ ∀ e ≠ d, ∀ j < 8, (b.setAcc d f).advance.lane e j = b.lane e j ∧ (b.setAcc d f).advance.lost e j = b.lost e j := by
  refine ⟨fun j hj => ?_, fun e he j hj => ?_⟩
  · rw [lane_advance, lost_advance]
    exact ⟨lane_setAcc_same b d f hj, lost_setAcc_same b d f hj⟩
  · rw [lane_advance, lost_advance]
    exact ⟨lane_setAcc_other b d f he j, lost_setAcc_other b d f he hj⟩

end

/-! ## Arithmetic -/

section
variable {s : State} {g : Program} {c : Bank} {d : BitVec 2} {reads : List (BitVec 2)} {f : List (BitVec 32) → Bank → Nat → Nat}

theorem accumulates_laneOp {i : Instr} (h : bankRuns s false g c) (hexec : exec i s = laneOp d reads f s) {v : Nat → Nat} {lost : Nat → Bool}
    (hvalue : ∀ j, f ((List.range 8).map fun i => mapGet 0 (s.chan s.curBank.1.toNat s.curBank.2.1.toNat).scal i) c j = v j)
    (hlost : ∀ j, (reads.any fun a => c.lost a j) = lost j) : Accumulates s i c d v lost := by
  obtain ⟨hsame, hother⟩ := setAcc_advance_holds c d fun j => (v j, lost j)
  refine ⟨(c.setAcc d fun j => (v j, lost j)).advance, ?_, hsame, hother, setAcc_advance_keeps ..⟩
  rw [hexec, laneOp, joined_ok h]
  dsimp only
  rw [show (fun j => (f _ c j, reads.any fun a => c.lost a j)) = fun j => (v j, lost j) from funext fun j => Prod.ext (hvalue j) (hlost j)]

/-- A scalar out of the eight of a channel. -/
theorem scalar_getD (s : State) (k : BitVec 3) :
    (((List.range 8).map fun i => mapGet 0 (s.chan s.curBank.1.toNat s.curBank.2.1.toNat).scal i).getD k.toNat 0).toNat = scalar s k := by
  have hk : k.toNat < 8 := k.isLt
  rw [List.getD_eq_getElem?_getD, List.getElem?_map, List.getElem?_range hk]
  rfl

end

/-- Settles O30: the lanes of the accumulator take the rounded values. -/
theorem bankArithmetic : Obligations.BankArithmetic := by
  intro s d a k g c h
  refine ⟨accumulates_laneOp (d := d) (reads := [d, a])
      (f := fun f b j => (fmaElem .fp32 .rne (b.lane a j) (f.getD k.toNat 0).toNat (b.lane d j)).1) h rfl (fun j => ?_) fun j => by simp,
    accumulates_laneOp (d := d) (reads := [d, a]) (f := fun _ b j => (faddElem .fp32 .rne (b.lane d j) (b.lane a j)).1) h rfl (fun j => rfl) fun j => by simp,
    accumulates_laneOp (d := d) (reads := [a]) (f := fun f b j => (fmulElem .fp32 .rne (b.lane a j) (f.getD k.toNat 0).toNat).1) h rfl (fun j => ?_)
      fun j => by simp⟩
  · rw [scalar_getD]
  · rw [scalar_getD]

end Sys2Proof.Proofs

/-! SUPPORT. RDC and WRC: the lanes of a column, whole or in a half, and the fields that a write leaves (13 R287, 20 R391). -/

namespace Sys2Proof.Proofs

open Sys2Proof Sys2Proof.Machine Sys2Proof.Laws Sys2Proof.Claims

/-! ## Fields of a number -/

theorem fieldOf_eq (x lo : Nat) {hi w : Nat} (h : hi + 1 = lo + w) : fieldOf x hi lo = x / 2 ^ lo % 2 ^ w := by
  rw [fieldOf, h, Nat.add_sub_cancel_left, Nat.shiftRight_eq_div_pow]

/-- A bit of a number one field of which has been replaced. -/
theorem testBit_withField (x lo v : Nat) {hi w : Nat} (h : hi + 1 = lo + w) (i : Nat) :
    (withField x hi lo v).testBit i = if i < lo then x.testBit i else if i < lo + w then v.testBit (i - lo) else x.testBit i := by
  have hlow : x % 2 ^ lo < 2 ^ lo := Nat.mod_lt _ (Nat.two_pow_pos lo)
  have hfield : v % 2 ^ w < 2 ^ w := Nat.mod_lt _ (Nat.two_pow_pos w)
  have hsplit : withField x hi lo v = 2 ^ lo * (2 ^ w * (x >>> (lo + w)) + v % 2 ^ w) + x % 2 ^ lo := by
    unfold withField
    rw [h, Nat.add_sub_cancel_left, Nat.shiftLeft_eq, Nat.shiftLeft_eq, pow_add]
    ring
  rw [hsplit, Nat.testBit_two_pow_mul_add _ hlow]
  split
  · next hi => rw [Nat.testBit_mod_two_pow, decide_eq_true hi, Bool.true_and]
  · next hi =>
    rw [Nat.testBit_two_pow_mul_add _ hfield]
    by_cases hin : i < lo + w
    · rw [if_pos (by omega), if_pos hin, Nat.testBit_mod_two_pow, decide_eq_true (by omega), Bool.true_and]
    · rw [if_neg (by omega), if_neg hin, Nat.testBit_shiftRight, show lo + w + (i - lo - w) = i by omega]

theorem testBit_field (x lo w i : Nat) : (x / 2 ^ lo % 2 ^ w).testBit i = (decide (i < w) && x.testBit (lo + i)) := by
  rw [Nat.testBit_mod_two_pow, ← Nat.shiftRight_eq_div_pow, Nat.testBit_shiftRight]

theorem withField_same (x lo v : Nat) {hi w : Nat} (h : hi + 1 = lo + w) : withField x hi lo v / 2 ^ lo % 2 ^ w = v % 2 ^ w := by
  refine Nat.eq_of_testBit_eq fun i => ?_
  rw [testBit_field, testBit_withField x lo v h, Nat.testBit_mod_two_pow]
  by_cases hi : i < w
  · rw [if_neg (by omega), if_pos (by omega), Nat.add_sub_cancel_left]
  · simp [hi]

theorem withField_other (x lo v : Nat) {hi w : Nat} (h : hi + 1 = lo + w) {lo' w' : Nat} (hapart : lo' + w' ≤ lo ∨ lo + w ≤ lo') :
    withField x hi lo v / 2 ^ lo' % 2 ^ w' = x / 2 ^ lo' % 2 ^ w' := by
  refine Nat.eq_of_testBit_eq fun i => ?_
  rw [testBit_field, testBit_field]
  by_cases hi : i < w'
  · rw [testBit_withField x lo v h]
    split_ifs
    · rfl
    · omega
    · rfl
  · simp [hi]

/-! ## Fields side by side -/

/-- `n` fields of `w` bits from bit `base` on, replaced in their order. -/
def setFields (base w : Nat) (g : Nat → Nat) (n x : Nat) : Nat :=
  (List.range n).foldl (fun x j => withField x (base + w * j + (w - 1)) (base + w * j) (g j)) x

section
variable {base w : Nat} (g : Nat → Nat) (n x : Nat)

theorem setFields_succ : setFields base w g (n + 1) x =
    withField (setFields base w g n x) (base + w * n + (w - 1)) (base + w * n) (g n) := by
  rw [setFields, List.range_succ, List.foldl_append]
  rfl

variable (hw : 0 < w)
include hw

theorem setFields_other {lo' w' : Nat} (hapart : lo' + w' ≤ base ∨ base + w * n ≤ lo') :
    setFields base w g n x / 2 ^ lo' % 2 ^ w' = x / 2 ^ lo' % 2 ^ w' := by
  induction n with
  | zero => rfl
  | succ n ih =>
    rw [Nat.mul_succ] at hapart
    rw [setFields_succ, withField_other _ _ _ (w := w) (by omega) (by omega), ih (by omega)]

theorem setFields_same {j : Nat} (hj : j < n) : setFields base w g n x / 2 ^ (base + w * j) % 2 ^ w = g j % 2 ^ w := by
  induction n with
  | zero => exact absurd hj (Nat.not_lt_zero j)
  | succ n ih =>
    rw [setFields_succ]
    rcases Nat.lt_succ_iff_lt_or_eq.mp hj with hlt | rfl
    · have hstep : w * j + w ≤ w * n := by
        rw [← Nat.mul_succ]
        exact Nat.mul_le_mul_left w hlt
      rw [withField_other _ _ _ (w := w) (by omega) (by omega), ih hlt]
    · exact withField_same _ _ _ (by omega)

end

/-! ## The columns of RDC and WRC -/

theorem wrcColumn_whole (b : Bank) (a : BitVec 2) (old : Nat) : wrcColumn 0 b a old = setFields 0 32 (b.lane a) 8 old := by
  unfold wrcColumn setFields
  rw [if_pos rfl]
  simp only [Nat.zero_add]

/-- The half of a column that F names begins at this bit. -/
def halfAt (f : BitVec 2) : Nat := 128 * (f.toNat - 2)

theorem wrcColumn_half {f : BitVec 2} (hf : f ≠ 0) (b : Bank) (a : BitVec 2) (old : Nat) :
    wrcColumn f b a old = setFields (halfAt f) 16 (fun j => (rounded .bf16 .rne (FFmt.decode .fp32 (b.lane a j), 0)).1) 8 old := by
  unfold wrcColumn setFields halfAt
  rw [if_neg hf]

theorem rdcLane_whole (x j : Nat) : rdcLane 0 x j = x / 2 ^ (32 * j) % 2 ^ 32 := by
  unfold rdcLane
  rw [if_pos rfl, fieldOf_eq x (32 * j) (w := 32) (by omega)]

theorem rdcLane_half {f : BitVec 2} (hf : f ≠ 0) (x j : Nat) :
    rdcLane f x j = (rounded .fp32 .rne (FFmt.decode .bf16 (x / 2 ^ (128 * (f.toNat - 2) + 16 * j) % 2 ^ 16), 0)).1 := by
  unfold rdcLane
  rw [if_neg hf]
  dsimp only
  rw [fieldOf_eq x _ (w := 16) (by omega)]

theorem lane_lt (b : Bank) (a : BitVec 2) (j : Nat) : b.lane a j % 2 ^ 32 = b.lane a j := by
  unfold Bank.lane
  rw [fieldOf_eq _ _ (w := 32) (by omega), Nat.mod_mod]

/-! ## The micro-ops -/

section
variable {s t : State} {a : BitVec 2} {o : BitVec 5} {f : BitVec 2} {g : Program} {c : Bank} {row x : Nat} {psn : Bool}
variable (h : bankRuns s true g c) (hrow : c.row = some row)
variable (hlatest : (s.chargeEngine s.curBank.1.toNat s.curBank.2.1.toNat s.curBank.2.2.toNat).colLatest s.curBank.1.toNat s.curBank.2.1.toNat
  s.curBank.2.2.toNat row (c.colp + o).toNat = (t, x, psn))
include h hrow hlatest

theorem exec_rdc : exec (.uopRdc a o f) s = .next
    (if psn then (t.setBankAt s.curBank.1.toNat s.curBank.2.1.toNat s.curBank.2.2.toNat (c.setAcc a fun j => (rdcLane f x j, psn)).advance).bankConsumes
        s.curBank.1.toNat s.curBank.2.1.toNat s.curBank.2.2.toNat row (c.colp + o).toNat g.launch
      else t.setBankAt s.curBank.1.toNat s.curBank.2.1.toNat s.curBank.2.2.toNat (c.setAcc a fun j => (rdcLane f x j, psn)).advance) := by
  show execUopRdc a o f s = _
  rw [execUopRdc, joined_ok h]
  dsimp only
  rw [hrow]
  dsimp only
  rw [Bank.column, hlatest]

theorem exec_wrc (hwaits : s.wrcWaits s.curBank.1.toNat s.curBank.2.1.toNat s.curBank.2.2.toNat c = false) : exec (.uopWrc a o f) s = .next
    ((t.setBankAt s.curBank.1.toNat s.curBank.2.1.toNat s.curBank.2.2.toNat c.advance).queueWrite
      s.curBank.1.toNat s.curBank.2.1.toNat s.curBank.2.2.toNat row (c.colp + o).toNat (wrcColumn f c a x)
      (((List.range 8).any fun j => c.lost a j) || (psn && decide (f ≠ 0)))) := by
  show execUopWrc a o f s = _
  rw [execUopWrc, joined_ok h]
  dsimp only
  rw [hrow]
  dsimp only
  rw [if_neg (Bool.eq_false_iff.mp hwaits), Bank.column, hlatest]

end

/-- What a half of a column that WRC has written holds, and what the other does. -/
theorem wrcColumn_halves {f : BitVec 2} (hf : f = 2 ∨ f = 3) (b : Bank) (a : BitVec 2) (old : Nat) {j : Nat} (hj : j < 8) :
    wrcColumn f b a old / 2 ^ (128 * (f.toNat - 2) + 16 * j) % 2 ^ 16 = (rounded .bf16 .rne (FFmt.decode .fp32 (b.lane a j), 0)).1 % 2 ^ 16
    ∧ wrcColumn f b a old / 2 ^ (128 * (3 - f.toNat) + 16 * j) % 2 ^ 16 = old / 2 ^ (128 * (3 - f.toNat) + 16 * j) % 2 ^ 16 := by
  have hwhole : f ≠ 0 := by rcases hf with rfl | rfl <;> decide
  have hapart : 128 * (3 - f.toNat) + 16 * j + 16 ≤ halfAt f ∨ halfAt f + 16 * 8 ≤ 128 * (3 - f.toNat) + 16 * j := by
    rcases hf with rfl | rfl
    · exact .inr (by show 0 + 16 * 8 ≤ 128 + 16 * j; omega)
    · exact .inl (by show 0 + 16 * j + 16 ≤ 128; omega)
  rw [wrcColumn_half hwhole]
  exact ⟨setFields_same (base := halfAt f) _ 8 old (by decide) hj, setFields_other _ 8 old (by decide) hapart⟩

/-- Settles O31: a column's lanes go into the accumulator, and the accumulator's into the column. -/
theorem bankColumns : Obligations.BankColumns := by
  intro s t a o f g c row x psn h hrow _ k pc bank col hlatest
  obtain ⟨hsame, hother⟩ := setAcc_advance_holds c a fun j => (rdcLane f x j, psn)
  refine ⟨⟨_, exec_rdc h hrow hlatest, fun j hj => ?_, hother, setAcc_advance_keeps ..⟩, fun hwaits => ⟨_, exec_wrc h hrow hlatest hwaits, fun j hj => ⟨?_, ?_⟩⟩⟩
  · obtain ⟨hlane, hlost⟩ := hsame j hj
    refine ⟨hlost, ?_, fun hf => ?_⟩
    · rintro rfl
      rw [hlane, rdcLane_whole, Nat.mod_mod]
    · have hwhole : f ≠ 0 := by rcases hf with rfl | rfl <;> decide
      rw [hlane, rdcLane_half hwhole]
  · rintro rfl
    have hfield := setFields_same (base := 0) (w := 32) (c.lane a) 8 x (by decide) hj
    rw [Nat.zero_add] at hfield
    rw [wrcColumn_whole, hfield, lane_lt]
  · exact fun hf => wrcColumn_halves hf c a x hj

end Sys2Proof.Proofs

/-! SUPPORT. The pointer, loop and row micro-ops, and the faults that stop a bank (13 R286-R289, 20 R390). -/

namespace Sys2Proof.Proofs

open Sys2Proof Sys2Proof.Machine Sys2Proof.Laws Sys2Proof.Claims

section
variable {s : State} {g : Program} {c : Bank}

/-! ## Joining a group -/

theorem join_shut {b : Bank} (h : b.row = none) (column : Bool) (ns tCcd : Nat) : b.join column ns tCcd = .ok b := by
  unfold Bank.join
  rw [h]
  rfl

/-- A 33rd slot of a row. -/
theorem join_full {b : Bank} {column : Bool} {ns : Nat} (hrow : b.row ≠ none) (hslot : column = true ∨ b.group = 3) (hfull : 32 ≤ b.slots)
    (hend : b.slotEnd ≤ ns) (tCcd : Nat) : b.join column ns tCcd = .fault := by
  have hopen : b.row.isNone = false := Option.isNone_eq_false_iff.mpr (Option.isSome_iff_ne_none.mpr hrow)
  have htakes : (column || decide (b.group = 3)) = true := by simpa using hslot
  unfold Bank.join
  rw [hopen, htakes, if_neg (Nat.not_lt.mpr hend), if_pos hfull]
  rfl

theorem exec_joined_fault {i : Instr} {column : Bool} {f : State → Nat → Nat → Nat → Program → Bank → State} (hexec : exec i s = joined column f s)
    (hon : bankOn s g) (hjoin : (bankHere s).join column s.ns (s.stack s.curBank.1.toNat).tCcd = .fault) :
    exec i s = .next (s.bankFault s.curBank.1.toNat s.curBank.2.1.toNat s.curBank.2.2.toNat) := by
  rw [hexec]
  unfold joined
  rw [bankUop_on hon, hjoin]

/-! ## Pointers and loops -/

theorem exec_ncol (h : bankRuns s false g c) (n : BitVec 5) :
    exec (.uopNcol n) s = .next (withBank s { c with colp := c.colp + n, mpc := c.mpc + 1 }) := by
  show execUopNcol n s = _
  rw [execUopNcol, bankStep, joined_ok h]
  rfl

theorem exec_loopc (h : bankRuns s false g c) (m : BitVec 7) : exec (.uopLoopc m) s = .next (withBank s
    (if c.lcnt + 1 < (if m = 0 then 128 else m.toNat) then { c with lcnt := c.lcnt + 1, mpc := s.uopT } else { c with lcnt := 0, mpc := c.mpc + 1 })) := by
  show execUopLoopc m s = _
  rw [execUopLoopc, joined_ok h]
  rfl

/-! ## Rows -/

/-- A ROWEND that is its group's fourth takes a slot. -/
theorem exec_rowend_slot (h : bankRuns s false g c) (hrow : (bankHere s).row ≠ none) (hgroup : (bankHere s).group = 3) :
    exec .uopRowend s = .next (withBank s { c with group := 4 }) := by
  obtain ⟨hon, hjoin⟩ := h
  have hopen : (bankHere s).row.isNone = false := Option.isNone_eq_false_iff.mpr (Option.isSome_iff_ne_none.mpr hrow)
  show execUopRowend s = _
  rw [execUopRowend, bankUop_on hon, hopen, if_neg Bool.false_ne_true, if_pos hgroup, hjoin]

/-- The row ends, and the next one is at hand. -/
theorem exec_rowend (hon : bankOn s g)
    (hmay : (bankHere s).row = none ∨ s.mayClose s.curBank.1.toNat s.curBank.2.1.toNat s.curBank.2.2.toNat = true)
    (hgroup : (bankHere s).row ≠ none → (bankHere s).group ≠ 3) :
    exec .uopRowend s = .next (s.endRow s.curBank.1.toNat s.curBank.2.1.toNat s.curBank.2.2.toNat g) := by
  show execUopRowend s = _
  rw [execUopRowend, bankUop_on hon]
  by_cases hrow : (bankHere s).row = none
  · rw [hrow]
    rfl
  · have hopen : (bankHere s).row.isNone = false := Option.isNone_eq_false_iff.mpr (Option.isSome_iff_ne_none.mpr hrow)
    rw [hopen, if_neg Bool.false_ne_true, if_neg (hgroup hrow), if_pos (hmay.resolve_left hrow)]

theorem exec_act_open (hon : bankOn s g) (hleft : (bankHere s).rowi < g.launch.nrow) (hrow : (bankHere s).row ≠ none)
    (hmay : s.mayClose s.curBank.1.toNat s.curBank.2.1.toNat s.curBank.2.2.toNat = true) :
    exec .uopAct s = .next (s.closeProgramRow s.curBank.1.toNat s.curBank.2.1.toNat s.curBank.2.2.toNat) := by
  show execUopAct s = _
  rw [execUopAct, bankUop_on hon, if_neg (Nat.not_le.mpr hleft), if_pos (Option.isSome_iff_ne_none.mpr hrow), if_pos hmay]

/-- An ACT that nothing keeps from its row. -/
theorem exec_act_ready (hon : bankOn s g) (hleft : (bankHere s).rowi < g.launch.nrow) (hrow : (bankHere s).row = none)
    (hshut : mapGet 0 (s.chan s.curBank.1.toNat s.curBank.2.1.toNat).rows s.curBank.2.2.toNat = 0)
    (hready : s.boundary s.curBank.1.toNat s.curBank.2.1.toNat s.curBank.2.2.toNat g = .ready)
    (hplaces : (s.chan s.curBank.1.toNat s.curBank.2.1.toNat).openRows s.ns
      + s.readyBelow s.curBank.1.toNat s.curBank.2.1.toNat s.curBank.2.2.toNat g < 24)
    (halone : (s.chan s.curBank.1.toNat s.curBank.2.1.toNat).actsWait = false) :
    exec .uopAct s = .next (s.activate s.curBank.1.toNat s.curBank.2.1.toNat s.curBank.2.2.toNat g) := by
  have hfree : ¬ (24 ≤ (s.chan s.curBank.1.toNat s.curBank.2.1.toNat).openRows s.ns
      + s.readyBelow s.curBank.1.toNat s.curBank.2.1.toNat s.curBank.2.2.toNat g ∨ (s.chan s.curBank.1.toNat s.curBank.2.1.toNat).actsWait = true) := by
    rw [halone, not_or]
    exact ⟨Nat.not_le.mpr hplaces, Bool.false_ne_true⟩
  show execUopAct s = _
  rw [execUopAct, bankUop_on hon, if_neg (Nat.not_le.mpr hleft), if_neg (by rw [hrow]; exact Bool.false_ne_true), if_neg (not_not.mpr hshut), State.tryAct,
    hready]
  dsimp only
  rw [if_neg hfree]

/-- The row that an activation opens. -/
theorem row_activate (k pc bank : Nat) : ((s.activate k pc bank g).bankAt k pc bank).row = some (g.launch.row0 + (s.bankAt k pc bank).rowi) := by
  unfold State.activate State.updBankAt
  dsimp only
  rw [bankAt_setBankAt, bankAt_updChan]
  rfl

theorem exec_waits (hon : bankOn s g) (hrow : (bankHere s).row = none) : exec .uopWaits s = .next (withBank s { bankHere s with atWaits := true }) := by
  show execUopWaits s = _
  rw [execUopWaits, bankUop_on hon, if_neg (by rw [hrow]; exact Bool.false_ne_true)]

theorem exec_end (hon : bankOn s g) (hmay : (bankHere s).row = none ∨ s.mayClose s.curBank.1.toNat s.curBank.2.1.toNat s.curBank.2.2.toNat = true) :
    exec .uopEnd s = .next ((s.endBank s.curBank.1.toNat s.curBank.2.1.toNat s.curBank.2.2.toNat).endProgram s.curBank.1.toNat s.curBank.2.1.toNat) := by
  have hends : ¬ ((bankHere s).row.isSome = true ∧ s.mayClose s.curBank.1.toNat s.curBank.2.1.toNat s.curBank.2.2.toNat = false) := by
    rintro ⟨hsome, hfalse⟩
    rcases hmay with hnone | htrue
    · rw [hnone] at hsome
      cases hsome
    · rw [htrue] at hfalse
      cases hfalse
  show execUopEnd s = _
  rw [execUopEnd, bankUop_on hon, if_neg hends]

end

/-- Settles O32: the pointer, loop and row micro-ops of a bank that may execute. -/
theorem bankControl : Obligations.BankControl := by
  intro s n m g hon
  refine ⟨fun c h => ⟨exec_ncol h n, exec_loopc h m, exec_rowend_slot h⟩, fun hmay hgroup => exec_rowend hon hmay hgroup,
    fun hleft => ⟨exec_act_open hon hleft, fun hrow hshut hready hplaces halone => ⟨exec_act_ready hon hleft hrow hshut hready hplaces halone, row_activate ..⟩⟩,
    exec_waits hon, exec_end hon⟩

/-- Settles O33: a 33rd slot, a column without a row, a row too many and a wait with a row open stop the bank. -/
theorem bankFaultsStop : Obligations.BankFaultsStop := by
  intro s d a sc o n f m g hon fault
  refine ⟨fun hrow hfull hend => ⟨?_, ?_, fun hgroup => ?_⟩, fun hrow => ?_, fun hpast => ?_, fun hrow => ?_⟩
  · exact exec_joined_fault (execUopRdc.eq_1 a o f s) hon (join_full hrow (.inl rfl) hfull hend _)
  · exact exec_joined_fault (execUopWrc.eq_1 a o f s) hon (join_full hrow (.inl rfl) hfull hend _)
  · have hjoin : (bankHere s).join false s.ns (s.stack s.curBank.1.toNat).tCcd = .fault := join_full hrow (.inr hgroup) hfull hend _
    have hopen : (bankHere s).row.isNone = false := Option.isNone_eq_false_iff.mpr (Option.isSome_iff_ne_none.mpr hrow)
    have hrowend : exec .uopRowend s = .next fault := by
      show execUopRowend s = _
      rw [execUopRowend, bankUop_on hon, hopen, if_neg Bool.false_ne_true, if_pos hgroup, hjoin]
    simp only [List.forall_mem_cons]
    exact ⟨exec_joined_fault (execUopMac.eq_1 d a sc s) hon hjoin, exec_joined_fault (execUopAdd.eq_1 d a s) hon hjoin,
      exec_joined_fault (execUopScl.eq_1 d a sc s) hon hjoin, exec_joined_fault (execUopNcol.eq_1 n s) hon hjoin,
      exec_joined_fault (execUopLoopc.eq_1 m s) hon hjoin, hrowend, fun _ h => nomatch h⟩
  · have hruns : bankRuns s true g (bankHere s) := ⟨hon, join_shut hrow ..⟩
    refine ⟨?_, ?_⟩
    · show execUopRdc a o f s = _
      rw [execUopRdc, joined_ok hruns, hrow]
    · show execUopWrc a o f s = _
      rw [execUopWrc, joined_ok hruns, hrow]
  · show execUopAct s = _
    rw [execUopAct, bankUop_on hon, if_pos hpast]
  · show execUopWaits s = _
    rw [execUopWaits, bankUop_on hon, if_pos (Option.isSome_iff_ne_none.mpr hrow)]

end Sys2Proof.Proofs

/-! SUPPORT. Accesses to the control window, and what an error report leaves (01 R30-R34, 17 R329, 20 R395, R396). -/

namespace Sys2Proof.Proofs

open Sys2Proof Sys2Proof.Machine Sys2Proof.Laws Sys2Proof.Claims

/-! ## Stacks in place -/

theorem stack_setStack_same (s : State) (k : Nat) (x : Stack) : (s.setStack k x).stack k = x := mapGet_set_same ..

theorem stack_setStack_other (s : State) {k j : Nat} (x : Stack) (h : j ≠ k) : (s.setStack k x).stack j = s.stack j := mapGet_set_other _ h

theorem stack_updStack (s : State) (k j : Nat) (f : Stack → Stack) : (s.updStack k f).stack j = if j = k then f (s.stack k) else s.stack j := by
  unfold State.updStack
  split
  · next h => rw [h, stack_setStack_same]
  · next h => exact stack_setStack_other s _ h

/-! ## Error reports -/

/-- All that the mirror of a record changes: memory and its poison, and the lines that a page move has to copy again. -/
structure Mirrors (s t : State) : Prop where
  eq : t = { s with mem := t.mem, poison := t.poison, stk := t.stk }
  stack : ∀ k, ∃ move, t.stack k = { s.stack k with move := move }

theorem Mirrors.refl (s : State) : Mirrors s s := ⟨rfl, fun k => ⟨(s.stack k).move, rfl⟩⟩

theorem Mirrors.trans {s t u : State} (h : Mirrors s t) (h' : Mirrors t u) : Mirrors s u := by
  refine ⟨by rw [h'.eq, h.eq], fun k => ?_⟩
  obtain ⟨m, hm⟩ := h.stack k
  obtain ⟨m', hm'⟩ := h'.stack k
  exact ⟨m', by rw [hm', hm]⟩

theorem mirrors_markDirty (s : State) (pa n : Nat) : Mirrors s (s.markDirty pa n) := by
  unfold State.markDirty
  dsimp only
  split
  · split
    · refine ⟨rfl, fun k => ?_⟩
      rw [stack_updStack]
      split
      · next h => exact ⟨_, by rw [h]⟩
      · exact ⟨(s.stack k).move, rfl⟩
    · exact .refl s
  · exact .refl s

theorem mirrors_mirrorRecord (s : State) (b n : Nat) (r : BitVec 256) : Mirrors s (s.mirrorRecord b n r) := by
  have hfold (l : List Nat) (s : State) : Mirrors s (l.foldl (fun s a =>
      ({ s with mem := writeBytes s.mem (s.redirect (a + 32 * n)) 32 r.toNat
                poison := mapSet false s.poison (s.redirect (a + 32 * n) / 32) false } : State).markDirty (a + 32 * n) 32) s) := by
    induction l generalizing s with
    | nil => exact .refl s
    | cons a l ih =>
      have hwrite : Mirrors s { s with mem := writeBytes s.mem (s.redirect (a + 32 * n)) 32 r.toNat
                                       poison := mapSet false s.poison (s.redirect (a + 32 * n) / 32) false } := ⟨rfl, fun k => ⟨(s.stack k).move, rfl⟩⟩
      exact (hwrite.trans (mirrors_markDirty _ _ _)).trans (ih _)
  exact hfold _ s

/-- All that an error report changes: what its mirror does, the records, and the events. -/
structure Reports (s t : State) : Prop where
  eq : t = { s with mem := t.mem, poison := t.poison, stk := t.stk, recs := t.recs, ns := t.ns, seq := t.seq, events := t.events }
  stack : ∀ k, ∃ move, t.stack k = { s.stack k with move := move }

theorem Reports.ctl {s t : State} (h : Reports s t) : t.ctl = s.ctl := by rw [h.eq]

theorem Reports.cores {s t : State} (h : Reports s t) : t.cores = s.cores := by rw [h.eq]

theorem Reports.refl (s : State) : Reports s s := ⟨rfl, fun k => ⟨(s.stack k).move, rfl⟩⟩

theorem Reports.trans {s t u : State} (h : Reports s t) (h' : Reports t u) : Reports s u := by
  refine ⟨by rw [h'.eq, h.eq], fun k => ?_⟩
  obtain ⟨m, hm⟩ := h.stack k
  obtain ⟨m', hm'⟩ := h'.stack k
  exact ⟨m', by rw [hm', hm]⟩

theorem reports_foldl {β : Type} {f : State → β → State} (hf : ∀ s b, Reports s (f s b)) (l : List β) (s : State) : Reports s (l.foldl f s) := by
  induction l generalizing s with
  | nil => exact .refl s
  | cons b l ih => exact (hf s b).trans (ih (f s b))

theorem setRecord_eq (s : State) (b n : Nat) (r : BitVec 256) : ∃ t, Mirrors { s with recs := mapSet 0 s.recs (256 * b + n) r } t ∧ s.setRecord b n r = t :=
  ⟨_, mirrors_mirrorRecord _ b n r, rfl⟩

theorem reports_setRecord (s : State) (b n : Nat) (r : BitVec 256) : Reports s (s.setRecord b n r) := by
  obtain ⟨t, hmirror, ht⟩ := setRecord_eq s b n r
  rw [ht]
  exact ⟨by rw [hmirror.eq], hmirror.stack⟩

/-- A record written reads back. -/
theorem record_setRecord (s : State) (b n : Nat) (r : BitVec 256) : (s.setRecord b n r).record b n = r := by
  obtain ⟨t, hmirror, ht⟩ := setRecord_eq s b n r
  rw [ht, State.record, hmirror.eq]
  exact mapGet_set_same ..

theorem reports_post (s : State) (e : EventKind) : Reports s (s.post e) := ⟨rfl, fun k => ⟨(s.stack k).move, rfl⟩⟩

theorem reports_logError (s : State) (b n : Nat) (e : ErrInfo) : Reports s (s.logError b n e) := by
  unfold State.logError
  dsimp only
  split
  · exact (reports_setRecord ..).trans (reports_post ..)
  · exact (reports_setRecord ..).trans (reports_post ..)

/-! ## Accesses -/

section
variable {s : State}

theorem releaseDue_held (h : s.owner = none ∨ heldOwn s) : s.releaseDue = s := by
  unfold State.releaseDue
  split
  · rfl
  · next fid hfid =>
    rcases h with h | h
    · rw [h] at hfid
      cases hfid
    · exact if_pos h

/-- An access that comes in time is sequenced, and the owner's timer starts anew where it is the owner's. -/
theorem access_held (hheard : heard s) (hready : s.ctl.bootst.getLsbD 0 = true) (hown : s.owner = none ∨ heldOwn s) (act : State → State) :
    s.access act = act { s.post (.controlWindow s.inp.fid) with ctl := if s.owner = some s.inp.fid then { s.ctl with ownerAt := s.ns } else s.ctl } := by
  have hown' : (s.post (.controlWindow s.inp.fid)).owner = none ∨ heldOwn (s.post (.controlWindow s.inp.fid)) := by
    refine hown.imp id fun h => ?_
    unfold heldOwn
    rw [post_ns_controlWindow]
    exact h
  unfold State.access
  rw [show s.stopped (24 + s.inp.port.toNat / 4) 2 = false from hheard, hready, releaseDue_held hown]
  simp only [Bool.false_eq_true, if_false, Bool.not_true]
  congr 1
  unfold State.heardFrom
  dsimp only
  rw [releaseDue_held hown']
  by_cases howner : s.owner = some s.inp.fid
  · rw [if_pos howner, if_pos (show (s.post _).owner = some s.inp.fid from howner), post_ns_controlWindow]
    rfl
  · rw [if_neg howner, if_neg (show ¬ (s.post _).owner = some s.inp.fid from howner)]
    rfl

/-- What the owner's access finds. -/
def ownersTurn (s : State) : State := { s.post (.controlWindow s.inp.fid) with ctl := { s.ctl with ownerAt := s.ns } }

theorem ownerWrite_held (hheard : heard s) (hready : s.ctl.bootst.getLsbD 0 = true) (howner : s.owner = some s.inp.fid) (hown : heldOwn s)
    (act : State → State) : s.ownerWrite act = (act (ownersTurn s)).answerCw (some 0) := by
  unfold State.ownerWrite
  rw [access_held hheard hready (.inr hown), if_pos howner]
  exact if_pos howner

theorem written_of_ownerWrite {i : Instr} {act : State → State} {f : Ctl → Ctl} (hexec : exec i s = .next (s.ownerWrite act))
    (hact : act (ownersTurn s) = { s.post (.controlWindow s.inp.fid) with ctl := f { s.ctl with ownerAt := s.ns } }) : Written s i f := by
  intro hheard hready howner hown
  show exec i s = _
  rw [hexec, ownerWrite_held hheard hready howner hown, hact]
  rfl

end

theorem ownersTurn_setOwn (s : State) (x : BitVec 64) :
    (ownersTurn s).setOwn x = { s.post (.controlWindow s.inp.fid) with ctl := { s.ctl with own := x &&& 0x10FFF, ownerAt := s.ns } } := by
  unfold State.setOwn ownersTurn
  dsimp only
  rw [post_ns_controlWindow]

/-- A successor's number is kept as it is written. -/
theorem successor_masked (v : BitVec 64) : (0x10000 ||| (v &&& 0xFFF)) &&& 0x10FFF = (0x10000 ||| (v &&& 0xFFF) : BitVec 64) := by
  have hmask : v &&& 0xFFF &&& 0x10FFF = v &&& 0xFFF := by
    rw [BitVec.and_assoc]
    rfl
  rw [BitVec.and_or_distrib_right, hmask]
  rfl

theorem written_handoff (s : State) :
    Written s .handoffWrite (fun c => { c with own := if s.inp.v.getLsbD 16 then 0 else 0x10000 ||| (s.inp.v &&& 0xFFF) }) := by
  refine written_of_ownerWrite rfl ?_
  show (if s.inp.v.getLsbD 16 = true then (ownersTurn s).setOwn 0 else (ownersTurn s).setOwn (0x10000 ||| (s.inp.v &&& 0xFFF))) = _
  rw [ownersTurn_setOwn, ownersTurn_setOwn, successor_masked]
  split <;> rfl

/-- Settles O34: each write of the owner finds its turn, in which its effect is the register's. -/
theorem controlWindowWrites : Obligations.ControlWindowWrites := by
  intro s v n off j e w
  refine ⟨written_handoff s, fun hbusy hlegal => ?_, fun hbad => ?_, written_of_ownerWrite rfl rfl, fun hflag => ?_, fun hflag => ?_,
    fun hflag halign hlo hhi => ?_, fun hp hheard hready howner hown => ?_⟩
  · have hgood : ¬ (s.ctl.pcfgst.getLsbD 0 = true ∨ startLegal n = false) := by
      rw [hbusy, hlegal]
      simp
    exact written_of_ownerWrite rfl (if_neg hgood)
  · exact written_of_ownerWrite rfl (if_pos hbad)
  · refine written_of_ownerWrite rfl ?_
    show ({ s.post _ with ctl := { s.ctl with ownerAt := s.ns, win := mapSet Init.windowEntry s.ctl.win j (if s.inp.flag = true then _ else _) } } : State) = _
    rw [if_pos hflag]
    rfl
  · refine written_of_ownerWrite rfl ?_
    show ({ s.post _ with ctl := { s.ctl with ownerAt := s.ns, win := mapSet Init.windowEntry s.ctl.win j (if s.inp.flag = true then _ else _) } } : State) = _
    rw [if_neg (Bool.eq_false_iff.mp hflag)]
    rfl
  · refine written_of_ownerWrite (congrArg Host.Outcome.next (if_neg (Bool.eq_false_iff.mp hflag))) ?_
    exact if_pos ⟨halign, hlo, hhi⟩
  · show Host.Outcome.next (s.ownerWrite _) = _
    rw [ownerWrite_held hheard hready howner hown]
    exact congrArg (fun t : State => Host.Outcome.next (t.answerCw (some 0))) (if_pos hp)

end Sys2Proof.Proofs

/-! SUPPORT. Ownership of the control window, record clearing, partition changes and bring-up (01 R31-R34, R21, 17 R331, 20 R395, R396). -/

namespace Sys2Proof.Proofs

open Sys2Proof Sys2Proof.Machine Sys2Proof.Laws Sys2Proof.Claims

/-! ## Ownership -/

section
variable {s : State}

/-- A free OWN has no owner. -/
theorem owner_free (h : s.ctl.own.getLsbD 16 = false) : s.owner = none := if_neg (by rw [h]; exact Bool.false_ne_true)

theorem exec_cas (hheard : heard s) (hready : s.ctl.bootst.getLsbD 0 = true) (hoff : s.inp.off = 0) (hown : s.owner = none ∨ heldOwn s) :
    let seen : State := { s.post (.controlWindow s.inp.fid) with ctl := if s.owner = some s.inp.fid then { s.ctl with ownerAt := s.ns } else s.ctl }
    exec .ownCompareAndSwap s =
      .next ((if s.ctl.own = s.inp.v ∧ s.ctl.own.getLsbD 16 = false then seen.setOwn s.inp.v2 else seen).answerCw (some s.ctl.own)) := by
  intro seen
  have hkept : seen.ctl.own = s.ctl.own := by
    show (if s.owner = some s.inp.fid then { s.ctl with ownerAt := s.ns } else s.ctl).own = s.ctl.own
    split <;> rfl
  show execOwnCompareAndSwap s = _
  rw [execOwnCompareAndSwap, access_held hheard hready hown]
  dsimp only
  rw [if_neg (show ¬ (s.post (.controlWindow s.inp.fid)).inp.off ≠ 0 from not_not.mpr hoff)]
  show Host.Outcome.next ((if seen.ctl.own = s.inp.v ∧ seen.ctl.own.getLsbD 16 = false then seen.setOwn s.inp.v2 else seen).answerCw (some seen.ctl.own)) = _
  rw [hkept]

theorem exec_cas_free (hheard : heard s) (hready : s.ctl.bootst.getLsbD 0 = true) (hoff : s.inp.off = 0) (hmatch : s.ctl.own = s.inp.v)
    (hfree : s.ctl.own.getLsbD 16 = false) : exec .ownCompareAndSwap s = .next
      { s.post (.controlWindow s.inp.fid) with ctl := { s.ctl with own := s.inp.v2 &&& 0x10FFF, ownerAt := s.ns, answer := some s.ctl.own } } := by
  have howner := owner_free hfree
  rw [exec_cas hheard hready hoff (.inl howner), if_pos ⟨hmatch, hfree⟩, howner, if_neg (by simp)]
  unfold State.setOwn State.answerCw
  dsimp only
  rw [post_ns_controlWindow]

/-- The owner's write of a record's SEQ. -/
theorem exec_recordClear (howner : s.owner = some s.inp.fid) (hown : heldOwn s) (hbank : s.inp.b.toNat ≤ 32) (hrecord : s.inp.id < recordCount s.inp.b.toNat)
    (hseq : s.inp.v = (s.record s.inp.b.toNat s.inp.id).extractLsb' 192 64) :
    exec .recordClear s = .next (({ s with ctl := { s.ctl with ownerAt := s.ns } } : State).setRecord s.inp.b.toNat s.inp.id 0) := by
  have hheard : s.heardFrom s.inp.fid = { s with ctl := { s.ctl with ownerAt := s.ns } } := by
    unfold State.heardFrom
    rw [releaseDue_held (.inr hown)]
    exact if_pos howner
  show execRecordClear s = _
  rw [execRecordClear, hheard]
  exact congrArg Host.Outcome.next (if_pos ⟨howner, hbank, hrecord, hseq⟩)

/-- An ownership that is due lapses. -/
theorem releaseDue_due {fid : BitVec 12} (howner : s.owner = some fid) (hdue : s.ctl.ownerAt + 1000000000 ≤ s.ns) :
    s.releaseDue.ctl = { s.ctl with own := 0, ownerAt := s.ns } ∧ s.releaseDue.inp = s.inp := by
  have hrelease : s.releaseDue = (s.setOwn 0).logError spineBank 4 { cls := 1, code := 0x0307, atype := 4, addr := fid.toNat } := by
    unfold State.releaseDue
    rw [howner]
    exact if_neg (Nat.not_lt.mpr hdue)
  have hreport := reports_logError (s.setOwn 0) spineBank 4 { cls := 1, code := 0x0307, atype := 4, addr := fid.toNat }
  rw [hrelease, hreport.eq]
  exact ⟨rfl, rfl⟩

theorem owner_zero (h : s.ctl.own = 0) : s.owner = none := owner_free (by rw [h]; rfl)

theorem heardFrom_unowned (h : s.owner = none) (fid : BitVec 12) : s.heardFrom fid = s := by
  unfold State.heardFrom
  rw [releaseDue_held (.inl h)]
  exact if_neg (by rw [h]; simp)

/-- A write of the owner in the very cycle in which its ownership lapses. -/
theorem ownerWrite_due {fid : BitVec 12} (howner : s.owner = some fid) (hdue : s.ctl.ownerAt + 1000000000 ≤ s.ns) (hheard : heard s)
    (hready : s.ctl.bootst.getLsbD 0 = true) (act : State → State) :
    (s.ownerWrite act).owner = none ∧ (s.ownerWrite act).ctl.answer = none := by
  obtain ⟨hctl, hinp⟩ := releaseDue_due howner hdue
  have hnone : (s.releaseDue.post (.controlWindow s.inp.fid)).owner = none := owner_zero (by rw [post_ctl, hctl])
  have haccess : s.ownerWrite act = (s.releaseDue.post (.controlWindow s.inp.fid)).answerCw none := by
    unfold State.ownerWrite State.access
    rw [show s.stopped (24 + s.inp.port.toNat / 4) 2 = false from hheard, hready]
    simp only [Bool.false_eq_true, if_false, Bool.not_true]
    rw [heardFrom_unowned hnone, if_neg (by rw [hnone]; simp)]
  rw [haccess]
  exact ⟨hnone, rfl⟩

end

/-! ## Bring-up -/

section
variable {s : State}

theorem stage_eq (s : State) : s.stage = s.ctl.bootst.toNat / 2 ^ 8 % 2 ^ 8 := fieldOf_eq _ 8 (w := 8) rfl

theorem mod_field (x : Nat) : x % 2 ^ 64 / 2 ^ 8 % 2 ^ 8 = x / 2 ^ 8 % 2 ^ 8 := by omega

/-- A bring-up step before the last. -/
theorem stage_setStage (s : State) {n : Nat} (hn : n < 5) : (s.setStage n).stage = n := by
  have hfive : n ≠ 5 := Nat.ne_of_lt hn
  rw [stage_eq]
  unfold State.setStage
  dsimp only
  rw [if_neg hfive, Nat.add_zero, BitVec.toNat_ofNat, mod_field, withField_same _ 8 n (w := 8) rfl]
  omega

/-- The last one, which raises READY. -/
theorem setStage_last (h : s.ctl.bootst.getLsbD 0 = false) : (s.setStage 5).stage = 5 ∧ (s.setStage 5).ctl.bootst.getLsbD 0 = true := by
  have hfield := withField_same s.ctl.bootst.toNat 8 5 (w := 8) (hi := 15) rfl
  have hbit := testBit_withField s.ctl.bootst.toNat 8 5 (w := 8) (hi := 15) rfl 0
  have hzero : s.ctl.bootst.toNat.testBit 0 = false := h
  rw [if_pos (by decide), hzero, Nat.testBit_zero, decide_eq_false_iff_not] at hbit
  have hboot : (s.setStage 5).ctl.bootst = BitVec.ofNat 64 (withField s.ctl.bootst.toNat 15 8 5 + 1) := rfl
  constructor
  · rw [stage_eq, hboot, BitVec.toNat_ofNat, mod_field]
    omega
  · rw [hboot, BitVec.getLsbD_ofNat, Nat.testBit_zero]
    simp
    omega

/-- Under an invariant of a fold over a range, what each step sets, and the others keep, holds of each after it. -/
theorem foldl_range_holds {f : State → Nat → State} {inv : State → Prop} {p : Nat → State → Prop} (hinv : ∀ t k, inv t → inv (f t k))
    (hset : ∀ t k, inv t → p k (f t k)) (hkeep : ∀ t j k, j ≠ k → p k t → p k (f t j)) (n : Nat) {t : State} (ht : inv t) :
    inv ((List.range n).foldl f t) ∧ ∀ k < n, p k ((List.range n).foldl f t) := by
  induction n with
  | zero => exact ⟨ht, fun k hk => absurd hk (Nat.not_lt_zero k)⟩
  | succ n ih =>
    obtain ⟨hn, hall⟩ := ih
    rw [List.range_succ, List.foldl_append]
    refine ⟨hinv _ n hn, fun k hk => ?_⟩
    by_cases hlast : k = n
    · rw [hlast]
      exact hset _ n hn
    · exact hkeep _ _ _ (Ne.symm hlast) (hall k (by omega))

/-- Zeroing a stack leaves the last heartbeats. -/
theorem beat_zeroStack (s : State) (k j : Nat) : ((s.zeroStack k).stack j).beat = (s.stack j).beat := by
  have hmem (l : List Nat) (g : State → Nat → FMap Byte) (t : State) :
      (l.foldl (fun (s : State) n => { s with mem := g s n }) t).stack j = t.stack j := by
    induction l generalizing t with
    | nil => rfl
    | cons n l ih => exact ih _
  unfold State.zeroStack
  dsimp only
  rw [hmem, stack_updStack]
  split
  · next h => rw [h]; rfl
  · rfl

theorem zeroStack_ns (s : State) (k : Nat) : (s.zeroStack k).ns = s.ns := by
  have hmem (l : List Nat) (g : State → Nat → FMap Byte) (t : State) : (l.foldl (fun (s : State) n => { s with mem := g s n }) t).ns = t.ns := by
    induction l generalizing t with
    | nil => rfl
    | cons n l ih => exact ih _
  exact hmem _ _ _

/-- Stack `k` takes its memory configuration record; and is zeroed, its first heartbeat counted. -/
def configStep (t : State) (k : Nat) : State :=
  t.updStack k fun x => { x with cfg := if memCfgOk (t.inp.cfg.getD k Init.memCfg) then t.inp.cfg.getD k Init.memCfg else Init.memCfg }

def beatStep (t : State) (k : Nat) : State := (t.zeroStack k).updStack k fun x => { x with beat := t.ns, beatsFrom := t.ns }

theorem exec_configs (hstage : s.stage = 2) : exec .bringUpStepDone s = .next (((List.range 8).foldl configStep s).setStage 3) := by
  show execBringUpStepDone s = _
  unfold execBringUpStepDone
  rw [hstage]
  rfl

theorem exec_beats (hstage : s.stage = 3) : exec .bringUpStepDone s = .next (((List.range 8).foldl beatStep s).setStage 4) := by
  show execBringUpStepDone s = _
  unfold execBringUpStepDone
  rw [hstage]
  rfl

theorem exec_ready (hstage : s.stage = 4) : exec .bringUpStepDone s = .next (s.setStage 5) := by
  show execBringUpStepDone s = _
  unfold execBringUpStepDone
  rw [hstage]
  rfl

theorem stack_setStage (s : State) (n k : Nat) : (s.setStage n).stack k = s.stack k := rfl

theorem cfg_configSteps (s : State) (n : Nat) : ∀ k < n, (((List.range n).foldl configStep s).stack k).cfg =
    if memCfgOk (s.inp.cfg.getD k Init.memCfg) then s.inp.cfg.getD k Init.memCfg else Init.memCfg := by
  refine (foldl_range_holds (f := configStep) (inv := fun t => t.inp = s.inp) (p := fun k t => (t.stack k).cfg = if memCfgOk (s.inp.cfg.getD k Init.memCfg)
    then s.inp.cfg.getD k Init.memCfg else Init.memCfg) (fun t k ht => ht) (fun t k ht => ?_) (fun t j k hne hk => ?_) n rfl).2
  · rw [configStep, stack_updStack, if_pos rfl, ht]
  · rw [configStep, stack_updStack, if_neg hne.symm]
    exact hk

theorem beat_beatSteps (s : State) (n : Nat) : ∀ k < n, (((List.range n).foldl beatStep s).stack k).beat = s.ns := by
  refine (foldl_range_holds (f := beatStep) (inv := fun t => t.ns = s.ns) (p := fun k t => (t.stack k).beat = s.ns)
    (fun t k ht => (zeroStack_ns t k).trans ht) (fun t k ht => ?_) (fun t j k hne hk => ?_) n rfl).2
  · rw [beatStep, stack_updStack, if_pos rfl]
    exact ht
  · rw [beatStep, stack_updStack, if_neg hne.symm, beat_zeroStack]
    exact hk

/-- Step 2 of bring-up: the memory configuration records. -/
theorem bringUp_configs (hstage : s.stage = 2) : ∃ t, Becomes s .bringUpStepDone t ∧ t.stage = 3 ∧ ∀ k < 8, (t.stack k).cfg =
    if memCfgOk (s.inp.cfg.getD k Init.memCfg) then s.inp.cfg.getD k Init.memCfg else Init.memCfg :=
  ⟨_, exec_configs hstage, stage_setStage _ (by decide), fun k hk => by rw [stack_setStage, cfg_configSteps s 8 k hk]⟩

/-- Step 3: the stacks are zeroed, and heartbeats begin. -/
theorem bringUp_beats (hstage : s.stage = 3) : ∃ t, Becomes s .bringUpStepDone t ∧ t.stage = 4 ∧ ∀ k < 8, (t.stack k).beat = s.ns :=
  ⟨_, exec_beats hstage, stage_setStage _ (by decide), fun k hk => by rw [stack_setStage, beat_beatSteps s 8 k hk]⟩

theorem bringUp_ready (hstage : s.stage = 4) (hnot : s.ctl.bootst.getLsbD 0 = false) :
    ∃ t, Becomes s .bringUpStepDone t ∧ t.stage = 5 ∧ t.ctl.bootst.getLsbD 0 = true := ⟨_, exec_ready hstage, setStage_last hnot⟩

/-! ## Power-on -/

theorem record_post (s : State) (e : EventKind) (b n : Nat) : (s.post e).record b n = s.record b n := rfl

/-- The record of an error that none precedes. -/
theorem record_logError {b n : Nat} (hempty : s.record b n = 0) (e : ErrInfo) : ∃ high, (s.logError b n e).record b n =
    BitVec.ofNat 256 (1 + 2 * e.cls + 16 * e.atype + 2 ^ 16 * e.code + 2 ^ 32 + 2 ^ 64 * high) := by
  refine ⟨e.addr % 2 ^ 64 + 2 ^ 64 * (e.synd % 2 ^ 48 + 2 ^ 48 * (e.asid % 2 ^ 14)) + 2 ^ 128 * (s.seq + 1), ?_⟩
  unfold State.logError
  dsimp only
  rw [hempty, if_pos (.inl (show (0 : BitVec 256).toNat % 2 = 0 by decide)), record_post, record_setRecord]
  generalize e.synd % 2 ^ 48 + 2 ^ 48 * (e.asid % 2 ^ 14) = w2
  generalize e.addr % 2 ^ 64 = w1
  exact congrArg (BitVec.ofNat 256) (by ring)

/-- The machine as at reset, with what it has been given. -/
def freshState (s : State) : State := { State.reset with turns := s.turns, inp := s.inp, powered := true }

theorem powerOn_good (hflag : s.inp.flag = true) : ∃ t, Becomes s .packagePowerOn t ∧ t.stage = 2 ∧ t.powered = true
    ∧ t = { State.reset with turns := s.turns, inp := s.inp, powered := true, ctl := t.ctl } := by
  have hexec : exec .packagePowerOn s = .next { freshState s with ctl := { (freshState s).ctl with
      bootst := BitVec.ofNat 64 (2 * 256 + (s.inp.v.toNat % 65536) * 65536) } } := congrArg Host.Outcome.next (if_pos hflag)
  refine ⟨_, hexec, ?_, rfl, rfl⟩
  rw [stage_eq]
  dsimp only
  rw [BitVec.toNat_ofNat, mod_field]
  omega

theorem powerOn_bad (hflag : s.inp.flag = false) : ∃ t, Becomes s .packagePowerOn t ∧ t.stage = 1 ∧ t.cores = State.reset.cores
    ∧ fieldOf (t.record spineBank 5).toNat 31 16 = 0x0901 := by
  have hreport (t : State) := reports_logError t spineBank 5 { cls := 3, code := 0x0901 }
  have hexec : exec .packagePowerOn s = .next (((freshState s).setStage 1).logError spineBank 5 { cls := 3, code := 0x0901 }) :=
    congrArg Host.Outcome.next (if_neg (Bool.eq_false_iff.mp hflag))
  refine ⟨_, hexec, ?_, ?_, ?_⟩
  · rw [stage_eq, (hreport _).ctl, ← stage_eq, stage_setStage _ (by decide)]
  · rw [(hreport _).cores]
    rfl
  · obtain ⟨high, hrecord⟩ := record_logError (s := (freshState s).setStage 1) (b := spineBank) (n := 5) rfl { cls := 3, code := 0x0901 }
    rw [hrecord, fieldOf_eq _ 16 (w := 16) rfl, BitVec.toNat_ofNat]
    dsimp only
    omega

end

/-- Settles O35: ownership, records, partition changes and bring-up, event by event. -/
theorem ownershipAndBringUp : Obligations.OwnershipAndBringUp := by
  intro s c seen nextStep
  refine ⟨fun hheard hready hoff hown => ⟨fun hmatch hfree => exec_cas_free hheard hready hoff hmatch hfree, fun hnot => ?_⟩,
    fun howner hown hbank hrecord hseq => exec_recordClear howner hown hbank hrecord hseq, fun fid howner hdue => ⟨?_, fun hheard hready hfid => ?_⟩,
    fun hstep => ?_, fun hstep => ?_, fun hstep => ?_, fun hstep => ?_, powerOn_good, powerOn_bad, bringUp_configs, bringUp_beats, bringUp_ready⟩
  · have hkeeps : ¬ (s.ctl.own = s.inp.v ∧ s.ctl.own.getLsbD 16 = false) := fun ⟨hmatch, hfree⟩ =>
      hnot.elim (absurd hmatch) fun htrue => absurd (hfree.symm.trans htrue) (by decide)
    show exec .ownCompareAndSwap s = _
    rw [exec_cas hheard hready hoff hown, if_neg hkeeps]
    rfl
  · obtain ⟨hctl, -⟩ := releaseDue_due howner hdue
    exact ⟨s.releaseDue, rfl, by rw [hctl], owner_zero (by rw [hctl])⟩
  · simp only [List.forall_mem_cons]
    have hdone {i : Instr} {act : State → State} (hexec : exec i s = .next (s.ownerWrite act)) : ∃ t, Becomes s i t ∧ t.owner = none ∧ t.ctl.answer = none :=
      ⟨_, hexec, ownerWrite_due howner hdue hheard hready act⟩
    exact ⟨hdone rfl, hdone rfl, hdone rfl, hdone rfl, hdone rfl, fun _ h => nomatch h⟩
  all_goals
    show execPartitionChangeStep s = _
    unfold execPartitionChangeStep
    rw [show s.ctl.pstep = _ from hstep]
    rfl

end Sys2Proof.Proofs

/-! SUPPORT. Page moves, the ports' flits and retrainings, aborted requests and kept walks (20 R381-R384, R392, R393, R396, 11 R251-R254). -/

namespace Sys2Proof.Proofs

open Sys2Proof Sys2Proof.Machine Sys2Proof.Laws Sys2Proof.Claims

/-- A report reads no input of its own. -/
theorem Reports.inp {s t : State} (h : Reports s t) : t.inp = s.inp := by rw [h.eq]

section
variable (s : State)

/-! ## Page moves -/

/-- A page that may begin to move: its records call for it, nothing postpones it, and a reserve page is free. -/
structure PageMoves (s : State) (q : Nat) : Prop where
  reserve : (s.stack s.inp.k.toNat).freeReserve = some q
  still : (s.stack s.inp.k.toNat).move = none
  room : (s.stack s.inp.k.toNat).retire.length < 64
  ordinary : s.inp.page.toNat < reserveFirst
  unretired : ((s.stack s.inp.k.toNat).retire.any fun x => decide (x.1 = s.inp.page.toNat)) = false
  failing : (s.stack s.inp.k.toNat).failing s.inp.page.toNat = true
  free : (s.stack s.inp.k.toNat).programHolds s.inp.page.toNat = false

theorem exec_pageRetirement {q : Nat} (h : PageMoves s q) : exec .pageRetirement s = .next (s.updStack s.inp.k.toNat fun t =>
    { t with move := some { old := s.inp.page.toNat, new := q, line := 0, dirty := [], todo := List.range 256, passes := 0 } }) := by
  show execPageRetirement s = _
  rw [execPageRetirement]
  simp only [h.reserve, h.still, h.unretired, h.failing, h.free, Nat.not_le.mpr h.room, Nat.not_le.mpr h.ordinary, Option.isSome_none,
    Bool.false_eq_true, reduceCtorEq, or_self, if_false]

theorem exec_pageMoveLine {m : Move} {l : Nat} {todo : List Nat} (hm : (s.stack s.inp.k.toNat).move = some m) (ht : m.todo = l :: todo) :
    exec .pageMoveLine s = .next ((s.copyLine s.inp.k.toNat m.old m.new l).updStack s.inp.k.toNat fun t => { t with
      move := some (({ m with line := l + 1, todo := todo, dirty := if m.passes = 0 then m.dirty else m.dirty.filter fun j => decide (j ≠ l) } : Move).endPass) }) := by
  show execPageMoveLine s = _
  rw [execPageMoveLine]
  simp only [hm, ht]

theorem exec_pageMoveSwitch {m : Move} (hm : (s.stack s.inp.k.toNat).move = some m) (ht : m.todo = []) :
    exec .pageMoveSwitch s = .next ((((m.dirty.foldl (fun u l => u.copyLine s.inp.k.toNat m.old m.new l) s).updStack s.inp.k.toNat
      fun t => { t with move := none, retire := t.retire ++ [(m.old, m.new)] }).requeuePage s.inp.k.toNat m.old).logError (stackBank s.inp.k.toNat) 192
        { cls := 1, code := 0x0405, atype := 2, addr := s.inp.k.toNat * 2 ^ 36 + m.old * 2 ^ 14, synd := m.new }) := by
  show execPageMoveSwitch s = _
  rw [execPageMoveSwitch]
  simp only [hm, ht, List.isEmpty_nil, Bool.not_true, Bool.false_eq_true, if_false]

/-! ## Ports -/

theorem exec_flitReceive_again (h : s.inp.flag2 = true) : exec .flitReceive s = .next (s.tryFlit s.inp.id) := by
  show execFlitReceive s = _
  rw [execFlitReceive, if_pos h]

theorem exec_flitReceive (h2 : s.inp.flag2 = false) (hd : (s.port s.inp.port.toNat).down = false) (ht : (s.port s.inp.port.toNat).training = false)
    (hs : s.stopped (portBank s.inp.port.toNat) (flitVc s.inp.flit) = false) : exec .flitReceive s = .next (if s.inp.flag then s.badFlit s.inp.port.toNat
      else ((s.updPort s.inp.port.toNat fun p => { p with replays := 0, rxSeq := p.rxSeq + 1 }).heardFrom (flitFid s.inp.flit)).takeFlit
        (portBank s.inp.port.toNat) s.inp.flit) := by
  show execFlitReceive s = _
  rw [execFlitReceive]
  simp only [h2, hd, ht, hs, Bool.false_eq_true, or_self, if_false]

theorem exec_portRetrain (ht : (s.port s.inp.port.toNat).training = true) (hf : s.inp.flag = false) : exec .portRetrain s = .next
    ((s.portRecord s.inp.port.toNat 0x0302).updPort s.inp.port.toNat fun p => { p with training := false, fails := 0, replays := 0, replayAt := [] }) := by
  show execPortRetrain s = _
  rw [execPortRetrain]
  have hinp : (s.portRecord s.inp.port.toNat 0x0302).inp.flag = false := by
    rw [State.portRecord, (reports_logError ..).inp, hf]
  simp only [ht, hinp, Bool.not_true, Bool.not_false, Bool.false_eq_true, if_false, if_true]

theorem exec_fabricRequestTimeout {q : FabReq} (hq : s.fabReq s.inp.id = some q) (hl : q.sentAt + 2000000 < s.ns) :
    exec .fabricRequestTimeout s = .next (s.fabAbort q) := by
  show execFabricRequestTimeout s = _
  rw [execFabricRequestTimeout]
  simp only [hq, hl, if_true]

theorem exec_walkComplete {e : BitVec 64} {lvl : Nat} (hp : s.inp.p ≠ 1) (hb : s.inp.b.toNat < 32) (h2 : s.inp.flag2 = false) (hf : s.inp.flag = true)
    (hw : s.walk s.inp.b.toNat (s.partOf (octantOf s.inp.b.toNat)) s.inp.asid s.inp.va.toNat = .leaf e lvl) :
    exec .walkComplete s = .next { s with
      tlb := mapSet [] s.tlb s.inp.b.toNat (keepResult 4096
        ((mapGet [] s.tlb s.inp.b.toNat).filter fun e => !(decide (e.asid = s.inp.asid) && decide (s.inp.va.toNat / 2 ^ e.size = e.base)))
        { asid := s.inp.asid, base := s.inp.va.toNat / 2 ^ pageBits lvl, size := pageBits lvl, leaf := e }) } := by
  show execWalkComplete s = _
  rw [execWalkComplete]
  simp only [hp, Nat.not_le.mpr hb, h2, hf, hw, if_false, if_true, and_false, Bool.false_eq_true]

end

/-- Settles O37: each event's function, on the branch that its conditions name. -/
theorem pagesAndFabricEvents : Obligations.PagesAndFabricEvents := by
  unfold Obligations.PagesAndFabricEvents
  intro s
  refine ⟨fun q hreserve hstill hroom hordinary hunretired hfailing hfree => ?_, fun m l todo => exec_pageMoveLine s, fun m => exec_pageMoveSwitch s,
    exec_flitReceive_again s, fun h2 hd ht hs => ⟨fun hf => ?_, fun hf => ?_⟩, exec_portRetrain s, fun q => exec_fabricRequestTimeout s,
    fun hp hb h2 hf e lvl => exec_walkComplete s hp hb h2 hf⟩
  · refine ⟨_, exec_pageRetirement s ⟨hreserve, hstill, hroom, hordinary, hunretired, hfailing, hfree⟩, ?_, updStack_mem ..⟩
    rw [stack_updStack, if_pos rfl]
  · rw [Becomes, exec_flitReceive s h2 hd ht hs, if_pos hf]
  · rw [Becomes, exec_flitReceive s h2 hd ht hs, if_neg (by rw [hf]; exact Bool.false_ne_true)]

end Sys2Proof.Proofs

/-! SUPPORT. Accesses whose columns have been served, writes of the spine, and the command processor's events (15 R297-R304, 02 R50-R54, 07 R149). -/

namespace Sys2Proof.Proofs

open Sys2Proof Sys2Proof.Machine Sys2Proof.Laws Sys2Proof.Claims

/-! ## Accesses that have been served -/

section
variable {s t : State} {who : Requester} {p : Nat} {reads writes : List (PAddr × Nat)} {f : State → State}

/-- An access whose columns have been served acts in the turn that finds them so. -/
theorem withColumns_served (vc : Nat) (h : columnsServed s who p reads writes f t) : s.withColumns who vc p reads writes f = t := by
  unfold State.withColumns
  rcases h with ⟨a, hask, hserved, hheld, hnext, rfl⟩ | ⟨hask, hcols, hreads, hwrites, rfl⟩
  · have hleaves : (!a.next.isEmpty && !a.fails s.ns && !s.inp.extAbort) = false := by
      rcases hnext with hnext | hfails | habort
      · rw [hnext]; rfl
      · rw [hfails, Bool.not_true, Bool.and_false, Bool.false_and]
      · rw [habort, Bool.not_true, Bool.and_false]
    simp only [hask, hserved, hheld, hleaves, Bool.not_true, Bool.or_self, Bool.false_eq_true, if_false]
  · simp only [hask, hcols, hreads, hwrites, List.isEmpty_nil, Bool.and_self, if_true]

/-- It is no longer under way. -/
theorem underWay_served (h : columnsServed s who p reads writes f t) : s.underWay who = false := by
  unfold State.underWay
  rcases h with ⟨a, hask, hserved, hheld, -⟩ | ⟨hask, -⟩
  · simp only [hask, hserved, hheld, Bool.not_true, Bool.or_self]
  · simp only [hask]

end

/-- Spots all of whose walks have ended: none of them waits. -/
theorem spots_known {l : List Spot} (h : ∀ x ∈ l, x.1.isSome = true) : (l.any fun x => x.1.isNone) = false := by
  rw [List.any_eq_false]
  intro x hx
  rw [Option.isNone_eq_false_iff.mpr (h x hx)]
  exact Bool.false_ne_true

/-- No place is held where none is of those that a requester without an access names. -/
theorem none_held {α : Type} {o : Option α} {β : Type} {l : List β} {g : β → Bool} (h : o = none → ∀ x ∈ l, g x = false) : (o.isNone && l.any g) = false := by
  cases o with
  | some _ => rfl
  | none => exact List.any_eq_false.mpr fun x hx => by rw [h rfl x hx]; exact Bool.false_ne_true

/-- A core's work that goes on acts. -/
theorem withAccess_goesOn {s t : State} {c : BitVec 8} {id part : Nat} (vc : Nat) {reads writes : List Spot} {f : State → State}
    (h : workGoesOn s c id part reads writes f t) : s.withAccess c id part vc reads writes f = t := by
  obtain ⟨hknown, hfree, hdirs, hserved⟩ := h
  unfold State.withAccess
  dsimp only
  rw [if_neg (by rw [underWay_served hserved]; exact Bool.false_ne_true), if_neg (by rw [spots_known hknown]; exact Bool.false_ne_true),
    none_held hfree, Bool.false_or, if_neg, withColumns_served vc hserved]
  rw [Bool.not_eq_true, List.any_eq_false]
  intro x hx
  rw [hdirs x hx]
  exact Bool.false_ne_true

/-- A node's copy that goes on acts. -/
theorem withNode_goesOn {s t : State} {a : Active} {b : Nat} {reads writes : List Spot} {f : State → State}
    (h : nodeGoesOn s a b reads writes f t) : s.withNode a b reads writes f = t := by
  obtain ⟨hknown, hfree, hdirs, htaken, hserved⟩ := h
  have hidle : (knownSpots writes).any (fun x => s.dirBusy (fun _ _ => false) x.1 x.2) = false := by
    rw [List.any_eq_false]
    intro x hx
    rw [hdirs x hx]
    exact Bool.false_ne_true
  unfold State.withNode
  dsimp only
  rw [if_neg (by rw [underWay_served hserved]; exact Bool.false_ne_true), if_neg (by rw [spots_known hknown]; exact Bool.false_ne_true),
    none_held hfree, hidle, htaken, if_neg (by decide), withColumns_served 3 hserved]

/-! ## Writes of the spine -/

/-- A write changes memory with its poison marks, the stacks, the translations kept, and whether the turn waits. -/
def Wrote (s t : State) : Prop := t = { s with mem := t.mem, poison := t.poison, stk := t.stk, tlb := t.tlb, blocked := t.blocked }

theorem Wrote.refl (s : State) : Wrote s s := rfl

theorem Wrote.trans {s t u : State} (h : Wrote s t) (h' : Wrote t u) : Wrote s u := by
  unfold Wrote at h h' ⊢
  rw [h', h]

theorem wrote_foldl {β : Type} {f : State → β → State} (hf : ∀ s b, Wrote s (f s b)) (l : List β) (s : State) : Wrote s (l.foldl f s) := by
  induction l generalizing s with
  | nil => exact .refl s
  | cons b l ih => exact (hf s b).trans (ih (f s b))

/-- Either of two writes is one. -/
theorem wrote_ite {s t u : State} {c : Prop} [Decidable c] (ht : Wrote s t) (hu : Wrote s u) : Wrote s (if c then t else u) := by
  split
  · exact ht
  · exact hu

theorem wrote_awaitsAll (s : State) (a : PAddr) (n : Nat) : Wrote s (s.awaitsAll a n) := by
  unfold State.awaitsAll State.awaits
  exact wrote_ite rfl (.refl s)

theorem wrote_awaitsCols (s : State) (key : Nat) (a : PAddr) (n : Nat) : Wrote s (s.awaitsCols key a n) := by
  unfold State.awaitsCols
  exact wrote_ite rfl (wrote_awaitsAll s a n)

theorem wrote_unstage (s : State) (a : Nat) : Wrote s (s.unstage a) := by
  unfold State.unstage
  split
  · exact .refl s
  · exact rfl

theorem wrote_markDirty (s : State) (pa n : Nat) : Wrote s (s.markDirty pa n) := by
  unfold State.markDirty
  dsimp only
  split
  · split <;> exact rfl
  · exact .refl s

theorem wrote_dropAsids (s : State) (pa n : Nat) : Wrote s (s.dropAsids pa n) := by
  unfold State.dropAsids
  dsimp only
  split <;> exact rfl

theorem wrote_physWrite (s : State) (pa n x : Nat) (psn : Bool) : Wrote s (s.physWrite pa n x psn) := by
  unfold State.physWrite
  dsimp only
  split
  · exact .refl s
  · refine (wrote_foldl (fun s i => wrote_unstage s (32 * i)) (s.columnsAt pa n) s).trans ?_
    generalize (s.columnsAt pa n).foldl (fun s i => s.unstage (32 * i)) s = u
    have hbytes : Wrote u { u with mem := writeBytes u.mem (u.redirect pa) n x, poison := markPoison u.poison (u.redirect pa) n psn } := rfl
    exact hbytes.trans ((wrote_markDirty _ pa n).trans (wrote_dropAsids _ pa n))

theorem wrote_writeAt (s : State) (a : PAddr) (n x : Nat) (psn : Bool) : Wrote s (s.writeAt a n x psn).1 := by
  unfold State.writeAt
  cases a with
  | stack pa =>
    dsimp only
    split
    · exact .refl s
    · exact wrote_physWrite s _ n x psn
  | fabric => exact .refl s

theorem wrote_put (s : State) (key : Nat) (a : PAddr) (n x : Nat) (psn : Bool) : Wrote s (s.put key a n x psn).1 := by
  unfold State.put
  split
  · exact .refl s
  · exact (wrote_awaitsCols ..).trans (wrote_writeAt ..)

theorem wrote_spinePut (s : State) (pa n x : Nat) : Wrote s (s.spinePut pa n x) := wrote_put ..

theorem Wrote.cores {s t : State} (h : Wrote s t) : t.cores = s.cores := by rw [h]
theorem Wrote.cp {s t : State} (h : Wrote s t) : t.cp = s.cp := by rw [h]
theorem Wrote.seq {s t : State} (h : Wrote s t) : t.seq = s.seq := by rw [h]

/-- Poison consumed by the spine leaves the cores and the command processor as they are. -/
theorem spineConsumes_keeps (s : State) (pa : Nat) : (s.spineConsumes pa).cores = s.cores ∧ (s.spineConsumes pa).cp = s.cp := by
  have h := (reports_logError s spineBank 0 { cls := 3, code := (Config.consumeCode s.nfree).toNat, atype := 2, addr := pa }).eq
  unfold State.spineConsumes State.unitConsumes State.takeFree
  rw [h]
  exact ⟨rfl, rfl⟩

end Sys2Proof.Proofs

/-! SUPPORT. The command processor's events (15 R297-R304, 02 R50-R54, 07 R149). -/

namespace Sys2Proof.Proofs

open Sys2Proof Sys2Proof.Machine Sys2Proof.Laws Sys2Proof.Claims

section
variable {s : State}

/-! ## Requests and nodes -/

theorem releaseDue_inp (u : State) : u.releaseDue.inp = u.inp := by
  unfold State.releaseDue
  split
  · rfl
  · exact (apply_ite State.inp ..).trans (ite_eq_left_iff.mpr fun _ => (reports_logError ..).inp)

theorem heardFrom_inp (u : State) (fid : BitVec 12) : (u.heardFrom fid).inp = u.inp := by
  unfold State.heardFrom
  rw [← releaseDue_inp u]
  exact (apply_ite State.inp ..).trans (ite_self _)

/-- A device's hearing takes no input. -/
theorem farHeard_inp (a : Ask) : (s.farHeard a).inp = s.inp := by
  have hfold : ∀ (l : List FarReq) (u : State), (l.foldl (fun s f => match f.place with
      | .fabric fid _ => s.heardFrom fid
      | .stack _ => s) u).inp = u.inp := by
    intro l
    induction l with
    | nil => exact fun _ => rfl
    | cons f l ih =>
      intro u
      rw [List.foldl_cons, ih]
      cases f.place with
      | fabric fid ra => exact heardFrom_inp u fid
      | stack pa => rfl
  unfold State.farHeard
  split
  · rfl
  · exact hfold _ s

/-- An access acts in a state of the turn's own bulkhead input, so that only what it does there counts. -/
theorem columnsServed_congr {who : Requester} {p : Nat} {reads writes : List (PAddr × Nat)} {f g : State → State} {t : State}
    (h : ∀ u : State, u.inp.b = s.inp.b → g u = f u) (hf : columnsServed s who p reads writes f t) : columnsServed s who p reads writes g t := by
  rcases hf with ⟨a, hask, hserved, hheld, hnext, rfl⟩ | ⟨hask, hcols, hreads, hwrites, rfl⟩
  · refine .inl ⟨a, hask, hserved, hheld, hnext, ?_⟩
    unfold State.underAsk State.underWindows
    dsimp only
    rw [h _ (by show ((s.farHeard a).dropAsk who).inp.b = _; rw [dropAsk_inp, farHeard_inp])]
  · exact .inr ⟨hask, hcols, hreads, hwrites, (h s rfl).symm⟩

theorem exec_readiness_due (hrun : s.fw.cpDown = false) {r : Due} {rest : List Due} (hdue : s.cp.due = r :: rest) :
    exec .readinessRequest s = .next (({ s with cp := { s.cp with due := rest } } : State).handleDue r) := by
  show execReadinessRequest s = _
  rw [execReadinessRequest, if_neg (by rw [hrun]; exact Bool.false_ne_true), hdue]

theorem exec_readiness_request (hrun : s.fw.cpDown = false) {r : Request} {rest : List Request} (hdue : s.cp.due = []) (hreqs : s.cp.reqs = r :: rest) :
    exec .readinessRequest s = .next (({ s with cp := { s.cp with reqs := rest } } : State).handleRequest r) := by
  show execReadinessRequest s = _
  rw [execReadinessRequest, if_neg (by rw [hrun]; exact Bool.false_ne_true), hdue, hreqs]

theorem exec_waitNodeRead {a : Active} {sub : Submission} {u : State} {x : Nat} (hnode : s.eventNode = some (a, sub, 5))
    (hread : s.cpBlock a.req.part sub.asid (nodeWord a.w 4) 8 = (u, some x)) (hmet : nodeWord a.w 5 ≤ x) :
    exec .waitNodeRead s = .next (u.completeNode a a.succ) := by
  show execWaitNodeRead s = _
  rw [execWaitNodeRead, hnode]
  dsimp only
  rw [if_neg (not_not.mpr rfl), hread]
  dsimp only
  rw [if_pos hmet]

theorem exec_bulkNodeComplete {a : Active} {sub : Submission} {t : State} (hnode : s.eventNode = some (a, sub, 2))
    (hengine : s.bulkEngine a.req.part a.rasid a.rcb s.inp.b.toNat = true)
    (hgo : nodeGoesOn s a s.inp.b.toNat (s.bulkPlaces s.inp.b.toNat a.req.part sub.asid .read (nodeWord a.w 4) (nodeWord a.w 6 % 2 ^ 48))
      (s.bulkPlaces s.inp.b.toNat a.req.part sub.asid .write (nodeWord a.w 5) (nodeWord a.w 6 % 2 ^ 48)
        ++ if nodeWord a.w 7 = 0 then [] else s.bulkPlaces s.inp.b.toNat a.req.part sub.asid .write (nodeWord a.w 7) 8)
      (fun v => v.endBulk a s.inp.b.toNat sub.asid) t) :
    exec .bulkNodeComplete s = .next t := by
  show execBulkNodeComplete s = _
  rw [execBulkNodeComplete, hnode]
  dsimp only
  rw [if_neg (by rw [hengine]; simp)]
  refine congrArg _ (withNode_goesOn ?_)
  obtain ⟨hknown, hfree, hdirs, htaken, hserved⟩ := hgo
  exact ⟨hknown, hfree, hdirs, htaken, columnsServed_congr (fun u hu => by rw [hu]) hserved⟩

theorem exec_signalNodeComplete {a : Active} {sub : Submission} (hnode : s.eventNode = some (a, sub, 6)) :
    exec .signalNodeComplete s = .next (s.completeNode a a.succ) := by
  show execSignalNodeComplete s = _
  rw [execSignalNodeComplete, hnode]
  exact congrArg _ (if_neg (not_not.mpr rfl))

/-- What a BULK node's engines do, in the order of its failures. -/
theorem endBulk_eq (v : State) (a : Active) (b : Nat) (asid : BitVec 14) : v.endBulk a b asid =
    let r := v.bulkNode b a.req.part asid (2 * (nodeWord a.w 6 % 2 ^ 48 / 2 ^ 14) + 4) (nodeWord a.w 4) (nodeWord a.w 5) (nodeWord a.w 6 % 2 ^ 48)
    let q := if nodeWord a.w 7 = 0 then r else r.1.bulkAdd b a.req.part asid (nodeWord a.w 7)
    if r.2 = false then r.1.refuseActive a 0x1604 else if q.2 then q.1.completeNode a a.succ else q.1.refuseActive a 0x1604 := by
  unfold State.endBulk
  dsimp only
  generalize v.bulkNode b a.req.part asid _ _ _ _ = r
  cases r.2
  · rfl
  · rfl

/-! ## Submissions -/

/-- No submission of a stream runs. -/
theorem none_runs {stream : BitVec 6} (h : ∀ x ∈ s.cp.subs, x.1 ≠ stream) : (s.cp.subs.any fun x => decide (x.1 = stream)) = false :=
  List.any_eq_false.mpr fun x hx => by rw [decide_eq_true_eq]; exact h x hx

/-- A change of a stream's submission leaves those of other streams. -/
theorem updSub_other {stream : BitVec 6} {subs : List (BitVec 6 × Submission)} (h : ∀ x ∈ subs, x.1 ≠ stream) (recd : Nat) (f : Submission → Submission) :
    (subs.map fun x => if x.1 = stream ∧ x.2.recd = recd then (x.1, f x.2) else x) = subs := by
  exact (List.map_congr_left fun x hx => if_neg fun hx' => h x hx hx'.1).trans (List.map_id subs)

/-- The submission that the words `x` of a record at `recd` make. -/
def submissionOf (x recd part : Nat) : Submission :=
  { recd := recd, part := part, root := BitVec.ofNat 64 (Machine.wordOf x 1), asid := BitVec.ofNat 14 (Machine.wordOf x 2)
    done := BitVec.ofNat 64 (Machine.wordOf x 3), doneinc := BitVec.ofNat 64 (Machine.wordOf x 4), stopped := false, failed := false }

/-- A submission a node of which has been refused. -/
def refusedSub (x : Submission) : Submission := { x with stopped := true, failed := true }

/-- A submission that may start. -/
structure Starts (s : State) (stream : BitVec 6) (q : BitVec 6 × Nat) : Prop where
  runs : s.fw.cpDown = false
  idle : ∀ x ∈ s.cp.subs, x.1 ≠ stream
  queued : (s.cp.queue.find? fun x => decide (x.1 = stream)) = some q
  up : s.stackDown (q.2 / 2 ^ 36) = false
  served : s.hasCols spineCb (.stack (BitVec.ofNat 39 q.2)) 64 false false = true

/-- Its record is read, its STATUS written, and its first node requested, or refused. -/
theorem startSubmission_starts {stream : BitVec 6} {q : BitVec 6 × Nat} (h : Starts s stream q) :
    ∃ (u : State) (sub : Submission) (r : Request), u.cores = s.cores
      ∧ u.cp = { s.cp with queue := s.cp.queue.erase q, subs := s.cp.subs ++ [(stream, sub)] }
      ∧ (sub.recd = q.2 ∧ sub.stopped = false) ∧ (r.stream = stream ∧ r.launch = false ∧ r.recd = q.2)
      ∧ s.startSubmission stream = if submissionReserved (s.physRead q.2 64) then u.refuseNode r 0x1604 else u.request r := by
  have hfree : ¬ ((s.cp.subs.any fun x => decide (x.1 = stream)) = true ∨ s.fw.cpDown = true) := by
    rw [none_runs h.idle, h.runs]
    decide
  have hconsumed : ∀ c : Bool, (if c then s.spineConsumes q.2 else s).cores = s.cores ∧ (if c then s.spineConsumes q.2 else s).cp = s.cp := by
    intro c
    cases c
    · exact ⟨rfl, rfl⟩
    · exact spineConsumes_keeps s q.2
  have hqueue : (some q).filter (fun x => !s.stackDown (x.2 / 2 ^ 36)) = some q := by rw [Option.filter_some, h.up]; rfl
  unfold State.startSubmission
  rw [if_neg hfree, h.queued, hqueue]
  dsimp only
  rw [h.served, Bool.not_true, if_neg Bool.false_ne_true]
  obtain ⟨hcores, hcp⟩ := hconsumed (s.physPoisoned q.2 64)
  generalize (if s.physPoisoned q.2 64 = true then s.spineConsumes q.2 else s) = v at hcores hcp ⊢
  have hput := wrote_spinePut { v with cp := { v.cp with queue := v.cp.queue.erase q } } (q.2 + 48) 8 1
  generalize State.spinePut { v with cp := { v.cp with queue := v.cp.queue.erase q } } (q.2 + 48) 8 1 = w at hput ⊢
  refine ⟨_, submissionOf (s.physRead q.2 64) q.2 (w.partOf (q.2 / 2 ^ 36)), _, ?_, ?_, ⟨rfl, rfl⟩, ⟨?_, ?_, ?_⟩, rfl⟩
  case refine_1 => exact hput.cores.trans hcores
  case refine_2 =>
    dsimp only
    rw [hput.cp, hcp]
    rfl
  all_goals rfl

/-- A request waits with the others, and an event says so. -/
theorem request_keeps (u : State) (r : Request) : (u.request r).cores = u.cores ∧ (u.request r).cp = { u.cp with reqs := u.cp.reqs ++ [r] } := ⟨rfl, rfl⟩

/-- A refusal stops its submission. -/
theorem refuseNode_keeps (u : State) (r : Request) (code : Nat) : (u.refuseNode r code).cores = u.cores
    ∧ (u.refuseNode r code).cp = { u.cp with subs := u.cp.subs.map fun x => if x.1 = r.stream ∧ x.2.recd = r.recd then (x.1, refusedSub x.2) else x } := ⟨rfl, rfl⟩

theorem exec_submissionStart {q : BitVec 6 × Nat} (h : Starts s (BitVec.ofNat 6 s.inp.p) q) :
    ∃ t : State, exec .submissionStart s = .next t ∧ t.cores = s.cores ∧ ∃ sub : Submission, t.cp.subs = s.cp.subs ++ [(BitVec.ofNat 6 s.inp.p, sub)] ∧ sub.recd = q.2
      ∧ (submissionReserved (s.physRead q.2 64) = false →
          sub.stopped = false ∧ ∃ r : Request, t.cp.reqs = s.cp.reqs ++ [r] ∧ r.stream = BitVec.ofNat 6 s.inp.p ∧ r.launch = false ∧ r.recd = sub.recd)
      ∧ (submissionReserved (s.physRead q.2 64) = true → sub.stopped = true ∧ sub.failed = true ∧ t.cp.reqs = s.cp.reqs) := by
  obtain ⟨u, sub, r, hcores, hcp, ⟨hrecd, hstopped⟩, ⟨hstream, hlaunch, hrrecd⟩, heq⟩ := startSubmission_starts h
  refine ⟨s.startSubmission (BitVec.ofNat 6 s.inp.p), rfl, ?_⟩
  rw [heq]
  cases hres : submissionReserved (s.physRead q.2 64)
  · rw [if_neg Bool.false_ne_true]
    obtain ⟨hcores', hcp'⟩ := request_keeps u r
    generalize u.request r = w at hcores' hcp' ⊢
    refine ⟨hcores'.trans hcores, sub, ?_, hrecd, fun _ => ⟨hstopped, r, ?_, hstream, hlaunch, hrrecd.trans hrecd.symm⟩, fun hc => absurd hc Bool.false_ne_true⟩
    · rw [hcp', hcp]
    · rw [hcp', hcp]
  · rw [if_pos rfl]
    obtain ⟨hcores', hcp'⟩ := refuseNode_keeps u r 0x1604
    generalize u.refuseNode r 0x1604 = w at hcores' hcp' ⊢
    refine ⟨hcores'.trans hcores, refusedSub sub, ?_, hrecd, fun hc => absurd hc.symm Bool.false_ne_true, fun _ => ⟨rfl, rfl, ?_⟩⟩
    · rw [hcp', hcp]
      dsimp only
      rw [List.map_append, hstream, updSub_other h.idle]
      exact congrArg (fun x => s.cp.subs ++ [x]) (if_pos ⟨rfl, hrecd.trans hrrecd.symm⟩)
    · rw [hcp', hcp]

theorem exec_submissionEnd {sub : Submission} (hfind : (s.cp.subs.find? fun x => decide (x.1 = BitVec.ofNat 6 s.inp.p)) = some (BitVec.ofNat 6 s.inp.p, sub))
    (hidle : s.submissionIdle (BitVec.ofNat 6 s.inp.p) sub.recd = true) (hdone : sub.done = 0) :
    ∃ t, exec .submissionEnd s = .next t ∧ t.cores = s.cores ∧ (∀ x ∈ t.cp.subs, x.1 ≠ BitVec.ofNat 6 s.inp.p) ∧ t.seq = s.seq + 1 := by
  refine ⟨s.endSubmission (BitVec.ofNat 6 s.inp.p), rfl, ?_⟩
  generalize BitVec.ofNat 6 s.inp.p = stream at hfind hidle ⊢
  unfold State.endSubmission
  rw [hfind]
  dsimp only
  rw [hidle, Bool.not_true, if_neg Bool.false_ne_true, if_pos hdone]
  have hpost : (s.post (.submissionEnded stream)).cores = s.cores ∧ (s.post (.submissionEnded stream)).seq = s.seq + 1 := ⟨rfl, rfl⟩
  generalize s.post (.submissionEnded stream) = v at hpost ⊢
  have hput := (wrote_spinePut v (sub.recd + 56) 8 v.seq).trans (wrote_spinePut _ (sub.recd + 48) 8 (if sub.failed || !true then 3 else 2))
  generalize (v.spinePut (sub.recd + 56) 8 v.seq).spinePut (sub.recd + 48) 8 (if sub.failed || !true then 3 else 2) = w at hput ⊢
  refine ⟨hput.cores.trans hpost.1, fun x hx => ?_, hput.seq.trans hpost.2⟩
  have hx' := List.mem_filter.mp hx
  exact of_decide_eq_true hx'.2

theorem exec_launchRequestSend {l : BitVec 64 × Nat} {b : Binding} {w : Wave}
    (hlaunch : ((s.core s.inp.c).launches.find? fun l => decide (l.2 = s.inp.id)) = some l) (htask : (s.core s.inp.c).task = some b)
    (hready : (s.core s.inp.c).launchReady l.2 = true) (hwave : s.wave b.part b.node = some w) :
    exec .launchRequestSend s = .next (((s.fenceRan fun x => decide (x.part = b.part ∧ x.node = b.node ∧ x.tidx = (s.core s.inp.c).ctx.id.tidx ∧ x.memb = b.memb)).setCore
      s.inp.c { s.core s.inp.c with launches := (s.core s.inp.c).launches.erase l }).request
        { node := l.1, launch := true, stream := w.req.stream, recd := w.req.recd, part := w.req.part, asid := w.req.asid } (some s.inp.c)) := by
  show execLaunchRequestSend s = _
  rw [execLaunchRequestSend]
  simp only [hlaunch, htask, hready, hwave, Bool.not_true, Bool.false_eq_true, if_false]

end

/-- Settles O38: each event's function on the branch that its conditions name; a submission's start and end through what a write of the spine leaves. -/
theorem graphEvents : Obligations.GraphEvents := by
  unfold Obligations.GraphEvents
  intro s
  refine ⟨fun hrun => ⟨fun r rest => exec_readiness_due hrun, fun r rest => exec_readiness_request hrun⟩, fun a sub ty hnode => ?_,
    ⟨fun hrun hidle q hq hup hserved => exec_submissionStart ⟨hrun, hidle, hq, hup, hserved⟩, fun sub => exec_submissionEnd⟩,
    fun l b w => exec_launchRequestSend⟩
  refine ⟨?_, ?_, ?_⟩
  · rintro rfl u x hread hmet
    exact exec_waitNodeRead hnode hread hmet
  · rintro n b dest ends rfl hengine t hgo
    refine exec_bulkNodeComplete hnode hengine ?_
    rw [show (fun v : State => v.endBulk a s.inp.b.toNat sub.asid) = ends from funext fun v => endBulk_eq v a b sub.asid]
    exact hgo
  · rintro rfl
    exact exec_signalNodeComplete hnode

end Sys2Proof.Proofs

/-! SUPPORT. The events of the scheduler and of dispatch (15 R305-R316, 02 R40, R46-R49, 17 R339). -/

namespace Sys2Proof.Proofs

open Sys2Proof Sys2Proof.Machine Sys2Proof.Laws Sys2Proof.Claims

section
variable {s : State}

/-! ## Slot records -/

theorem exec_slotRecordWrite (h : slotValid (s.slotLo s.inp.c) = false) : exec .slotRecordWrite s =
    .next { s with slots := mapSet 0 s.slots s.inp.c.toNat (BitVec.ofNat 256 (withField s.inp.w.toNat 63 62 0)) } := by
  show execSlotRecordWrite s = _
  rw [execSlotRecordWrite, h]
  rw [if_neg Bool.false_ne_true, Nat.mod_add_div]

/-- A binding for whose contexts everything has been read is made. -/
theorem withContext_read {pl : Plan} {f : State → State} {t : State} (h : contextsRead s pl f t) : s.withContext pl f = t := by
  obtain ⟨hknown, hserved⟩ := h
  unfold State.withContext
  dsimp only
  rw [if_neg (by rw [underWay_served hserved]; exact Bool.false_ne_true), if_neg (by rw [spots_known hknown]; exact Bool.false_ne_true),
    withColumns_served 0 hserved]

/-- A task whose save areas have been served leaves its cores. -/
theorem leave_saved {b : Binding} {parks : Bool} {t : State} (h : contextsSaved s b parks t) : s.leave b parks = t := by
  obtain ⟨hknown, hserved⟩ := h
  unfold State.leave
  dsimp only
  rw [if_neg (by rw [underWay_served hserved]; exact Bool.false_ne_true), if_neg (by rw [spots_known hknown]; exact Bool.false_ne_true),
    withColumns_served 0 hserved]

/-- A bind record that dispatch judges applicable. -/
structure Applies (s : State) (pl : Plan) : Prop where
  unowned : ∀ o ∈ s.owns, o.cores.contains s.inp.c = false
  presents : slotPresents (s.slotLo s.inp.c) 1 = true
  sound : slotReserved (s.slotLo s.inp.c) = false
  plan : s.plan s.inp.c (slotNode (s.slotLo s.inp.c)) (slotTidx (s.slotLo s.inp.c)) = some pl
  judged : s.judge pl (slotSeq (s.slotLo s.inp.c)) = .apply

theorem exec_dispatchBind {pl : Plan} {t : State} (hflag : s.inp.flag = false) (h : Applies s pl)
    (hread : contextsRead s pl (fun u => u.bindRecord pl (slotSeq (s.slotLo s.inp.c))) t) : exec .dispatchBind s = .next t := by
  have hfind : (s.owns.find? fun o => o.cores.contains s.inp.c) = none :=
    List.find?_eq_none.mpr fun o ho => by rw [h.unowned o ho]; exact Bool.false_ne_true
  show execDispatchBind s = _
  rw [execDispatchBind, hflag, if_neg Bool.false_ne_true, State.dispatch, hfind]
  dsimp only
  rw [State.dispatchRecord]
  simp only [h.presents, h.sound, h.plan, h.judged, Bool.and_false, Bool.false_eq_true, Bool.not_true, if_false]
  exact congrArg _ (withContext_read hread)

theorem exec_dispatchBind_rotate (hflag : s.inp.flag = true) (hdown : s.fw.schDown = true) :
    exec .dispatchBind s = .next (s.rotateHead (s.partOf (s.inp.j.toNat % 8))) := by
  show execDispatchBind s = _
  rw [execDispatchBind, if_pos hflag, if_pos hdown]

theorem exec_displace {i : BitVec 8} {b : Binding} (hp : slotPresents (s.slotLo s.inp.c) 2 = true) (hr : slotReserved (s.slotLo s.inp.c) = false)
    (ht : s.taskAt s.inp.c = some (i, b)) (hb : b.preempt = false) :
    exec .displace s = .next (if s.displaceable b then s.markPreempt b else s.refuseBind s.inp.c 2) := by
  show execDisplace s = _
  rw [execDisplace]
  simp only [hp, hr, ht, hb, Bool.not_true, Bool.false_eq_true, if_false]

/-! ## Ages, slices and pre-emption -/

theorem exec_ageAlarm {w : Wave} {r : Region} {i : Nat} {a : AgeHead} (hhead : s.head (s.partOf (s.inp.j.toNat % 8)) = some (w, r, i))
    (hage : (s.age.find? fun a => decide (a.part = s.partOf (s.inp.j.toNat % 8)) && decide (a.node = w.req.node) && decide (a.tidx = i)) = some a)
    (hcap : a.since + r.agecap * 1000 ≤ s.ns) : exec .ageAlarm s = .next
      (({ (s.post (.ageAlarm w.req.node i)).alarm with age := s.age.filter fun a => decide (a.part ≠ s.partOf (s.inp.j.toNat % 8)) } : State).rotate w r i) := by
  show execAgeAlarm s = _
  rw [execAgeAlarm]
  simp only [hhead, hage, Nat.not_lt.mpr hcap, if_false]

theorem exec_sliceExpiry {i : BitVec 8} {b : Binding} (ht : s.taskAt s.inp.c = some (i, b)) (hp : b.pcls = 2) (hs : b.boundAt + b.slice * 1000 ≤ s.ns) :
    exec .sliceExpiry s = .next (s.updCores b.cores fun k => { k with task := k.task.map fun x => { x with sliceOver := true } }) := by
  show execSliceExpiry s = _
  rw [execSliceExpiry, ht]
  exact congrArg _ (if_pos ⟨hp, hs⟩)

theorem exec_preemption (h : (s.core s.inp.c).mayPreempt = true) : exec .preemption s = .next (s.setCore s.inp.c (s.core s.inp.c).eclipsed) := by
  show execPreemption s = _
  rw [execPreemption, State.updCore, if_pos h]

/-! ## Leaving the cores -/

theorem exec_contextSaveComplete {b : Binding} {rs : List Run} {t : State} (hrest : s.atRest s.inp.c = some (b, rs))
    (hall : (rs.all fun r => decide (r = .draining) || decide (r = .halted) || r.isParked) = true) (hdrain : rs.contains .draining = true)
    (hsaved : contextsSaved s b false t) : exec .contextSaveComplete s = .next t := by
  show execContextSaveComplete s = _
  rw [execContextSaveComplete]
  simp only [hrest, hall, hdrain, Bool.and_self, if_true]
  exact congrArg _ (leave_saved hsaved)

theorem exec_taskParked {b : Binding} {rs : List Run} {t : State} (hrest : s.atRest s.inp.c = some (b, rs))
    (hland : ∀ d ∈ b.cores, (s.core d).land = []) (hall : (rs.all fun r => decide (r = .halted) || r.isParked) = true) (hany : rs.any Run.isParked = true)
    (hsaved : contextsSaved s b true t) : exec .taskParked s = .next t := by
  have hlanded : (b.cores.all fun c => (s.core c).land.isEmpty) = true := List.all_eq_true.mpr fun d hd => by rw [hland d hd]; rfl
  show execTaskParked s = _
  rw [execTaskParked]
  simp only [hrest, hlanded, hall, hany, Bool.and_self, if_true]
  exact congrArg _ (leave_saved hsaved)

/-! ## Parked tasks -/

/-- A parked task is judged by what its walks say. -/
theorem taskRec_alive {p tidx : Nat} {node : BitVec 64} {t : TaskRec} (h : s.taskRec p node tidx = some t) : t.dying = none := by
  have hlive := List.find?_some h
  simp only [Bool.and_eq_true, Option.isNone_iff_eq_none] at hlive
  exact hlive.2

/-- The task is marked ready, and enters its pool. -/
def readied (s : State) (p : Nat) (w : Wave) (t : TaskRec) : State :=
  let u : State := { s with tasks := s.tasks.map fun x => if x = t then { x with ready := true } else x }
  match u.region p w.rasid w.rcb with
  | some r => u.addEntry p r.prio.toNat (.task t.node t.tidx)
  | none => u

theorem judgeParked_ready {p : Nat} {w : Wave} {t : TaskRec} (hready : t.ready = false) (halive : t.dying = none)
    (hread : ∀ x ∈ t.conds, s.condRead p w.asid x.2 ≠ some .held ∧ ∀ pa, s.condRead p w.asid x.2 ≠ some (.table pa))
    (hmet : (t.conds.all fun x => s.condMet p w.asid (forMember t.progs x.1 []) x.2) = true) : s.judgeParked p w t = readied s p w t := by
  have hheld : (t.conds.any fun x => decide (s.condRead p w.asid x.2 = some .held)) = false :=
    List.any_eq_false.mpr fun x hx => by rw [decide_eq_true_eq]; exact (hread x hx).1
  have htable : s.condTable p w.asid t = none := by
    refine List.findSome?_eq_none_iff.mpr fun x hx => ?_
    split
    · next pa hpa => exact absurd hpa ((hread x hx).2 pa)
    · rfl
  unfold State.judgeParked
  rw [if_neg (by rw [hready, halive]; decide), if_neg (by rw [hheld]; exact Bool.false_ne_true), htable]
  dsimp only
  rw [if_neg (by rw [hmet]; decide)]
  rfl

theorem exec_parkBeaconMet {w : Wave} {t : TaskRec} (htask : s.taskRec (s.partOf (s.inp.j.toNat % 8)) s.inp.node s.inp.tidx.toNat = some t)
    (hwave : s.wave (s.partOf (s.inp.j.toNat % 8)) s.inp.node = some w) (hready : t.ready = false)
    (hread : ∀ x ∈ t.conds, s.condRead (s.partOf (s.inp.j.toNat % 8)) w.asid x.2 ≠ some .held
      ∧ ∀ pa, s.condRead (s.partOf (s.inp.j.toNat % 8)) w.asid x.2 ≠ some (.table pa))
    (hmet : (t.conds.all fun x => s.condMet (s.partOf (s.inp.j.toNat % 8)) w.asid (forMember t.progs x.1 []) x.2) = true) :
    exec .parkBeaconMet s = .next (readied s (s.partOf (s.inp.j.toNat % 8)) w t) := by
  show execParkBeaconMet s = _
  rw [execParkBeaconMet]
  simp only [htask, hwave, judgeParked_ready hready (taskRec_alive htask) hread hmet]

/-! ## Retirement -/

theorem exec_taskRetire {b : Binding} (hflag : s.inp.flag = false) (htask : (s.core s.inp.c).task = some b)
    (hall : ((b.cores.map s.core).all Core.retired) = true) : exec .taskRetire s = .next (s.endRetired b (s.tidxAt s.inp.c)) := by
  show execTaskRetire s = _
  rw [execTaskRetire]
  simp only [hflag, htask, hall, Bool.false_eq_true, if_false, if_true]

theorem exec_taskRetire_killed {b : Binding} {code : BitVec 16} (hflag : s.inp.flag = false) (htask : (s.core s.inp.c).task = some b)
    (hall : ((b.cores.map s.core).all Core.retired) = false) (hcode : (s.core s.inp.c).run.killCode = some code)
    (hend : ((b.cores.map s.core).all Core.killEnded) = true) (hfirst : s.killedBefore b = false) :
    exec .taskRetire s = .next (s.endKilled b (s.tidxAt s.inp.c) code) := by
  show execTaskRetire s = _
  rw [execTaskRetire]
  simp only [hflag, htask, hall, hcode, hend, hfirst, Bool.false_eq_true, Bool.not_false, Bool.and_self, if_false, if_true]

end

/-- Settles O39: each event's function on the branch that its conditions name. -/
theorem dispatchEvents : Obligations.DispatchEvents := by
  unfold Obligations.DispatchEvents
  intro s
  refine ⟨exec_slotRecordWrite, fun pl hflag howns hpresents hsound hplan hjudged t => exec_dispatchBind hflag ⟨howns, hpresents, hsound, hplan, hjudged⟩,
    exec_dispatchBind_rotate, fun i b => exec_displace, fun w r i a => exec_ageAlarm, fun i b => exec_sliceExpiry, fun h => ?_,
    fun b rs hrest => ⟨fun hall hdrain t => exec_contextSaveComplete hrest hall hdrain, fun hland hall hany t => exec_taskParked hrest hland hall hany⟩,
    fun t w htask hwave hready hread hmet => exec_parkBeaconMet htask hwave hready hread hmet,
    fun b hflag htask => ⟨exec_taskRetire hflag htask, fun code => exec_taskRetire_killed hflag htask⟩⟩
  refine ⟨_, exec_preemption h, rfl, ?_, ?_, ?_, ?_, fun d hd => core_setCore_other _ _ hd⟩
  all_goals rw [core_setCore_same]
  all_goals rfl

end Sys2Proof.Proofs

/-! SUPPORT. A load from a fabric device, whose response the device's link holds (01 R29, 11 R256). -/

namespace Sys2Proof.Proofs

open Sys2Proof Sys2Proof.Machine Sys2Proof.Laws Sys2Proof.Claims

/-- A load of 8 bytes of a fabric page, sent and read whole. -/
def fabricLoad : MemReq :=
  { id := 0, po := 0, kind := .load 0, cls := 0, piece := { target := .fabric 0 0, off := 0, n := 8 }, data := 0, scope := 4, merges := false, entry := 0
    acq := false, rel := false, sent := true, left := 0, readyAt := 0, psn := false }

/-- Core 0 waits for its data, and link bulkhead 24, through which the responses come, has stopped channel 1. -/
def heldResponse : State :=
  { State.reset.setCore 0 { Init.core with mq := [fabricLoad] } with vcstop := mapSet false State.reset.vcstop (4 * 24 + 1) true }

/-- Requests in core 0's port once an instruction has acted. -/
def requestsAfter (s : State) (i : Instr) : Nat := match exec i s with
  | .next t => (t.core 0).mq.length
  | _ => 0

/-- The data stays where it is. -/
theorem heldResponse_stays : requestsAfter heldResponse .landingArrival = 1 := by decide +kernel

/-- Refutes O40: the data of a load is said to reach the landing buffer when neither its core's bulkhead nor its stack stops responses; but a load from
a fabric device has no stack, and the link through which its response comes holds it all the same. -/
theorem not_coreEvents : ¬ Obligations.CoreEvents := by
  unfold Obligations.CoreEvents
  intro hevents
  obtain ⟨-, harrives, -⟩ := hevents heldResponse
  have hexec : exec .landingArrival heldResponse = .next (heldResponse.setCore 0 ((heldResponse.core 0).land_ fabricLoad 0)) :=
    harrives fabricLoad 0 (by decide +kernel) rfl rfl rfl (Nat.zero_le _) (by decide +kernel) fun pa hpa => nomatch hpa
  have hstays := heldResponse_stays
  rw [requestsAfter, hexec] at hstays
  exact absurd hstays (by decide +kernel)

end Sys2Proof.Proofs

/-! SUPPORT. The segments of protected pairs: comparison, commit, rewind and rerun (19 R362-R370). -/

namespace Sys2Proof.Proofs

open Sys2Proof Sys2Proof.Machine Sys2Proof.Laws Sys2Proof.Claims

/-! ## Comparison -/

/-- The first compared bundle in which two cores differ is what comparison finds. -/
theorem pairDiff_first {k h : Core} {i : Nat} (hi : i < k.comparedTo) (hne : k.seg.sigs[i]? ≠ h.seg.sigs[i]?)
    (before : ∀ j < i, k.seg.sigs[j]? = h.seg.sigs[j]?) : pairDiff k h = some i := by
  unfold pairDiff
  rw [List.find?_range_eq_some]
  exact ⟨by simpa using hne, List.mem_range.mpr hi, fun j hj => by simpa using before j hj⟩

/-- A pair whose trailing core has met nothing compares the signatures alone. -/
theorem pairFinds_diff {k h : Core} {i : Nat} {free : BitVec 16} (hbad : h.seg.bad = 0) (hi : pairDiff k h = some i) :
    ∃ x, pairFinds k h free = some (1, i, x) := by
  unfold pairFinds
  rw [if_neg (by simp [hbad]), hi]
  exact ⟨_, rfl⟩

/-- A pair that differs has its mismatch at the first bundle that differs. -/
theorem comparePair_differs {s : State} {c : BitVec 8} {h : Core} {i : Nat} (htwin : s.twin c = some h) (hk : (s.core c).killed = false)
    (hh : h.killed = false) (hopen : (s.core c).seg.openSeg = true) (hrest : (s.core c).seg.restoring = false) (hbad : (s.core c).seg.bad = 0)
    (hbad' : h.seg.bad = 0) (hi : pairDiff (s.core c) h = some i) :
    ((s.comparePair c).core c).seg.bad = 1 ∧ ((s.comparePair c).core c).seg.badAt = i := by
  obtain ⟨x, hx⟩ := pairFinds_diff (free := Config.sigXor s.nfree) hbad' hi
  unfold State.comparePair
  simp only [htwin, hk, hh, hopen, hrest, hbad, hx, Bool.not_true, Bool.false_eq_true, if_false, ne_eq, not_true_eq_false, or_self]
  constructor <;> rw [core_setCore_same]

/-- A signature that is what the input names, or is not compared yet, is no mismatch. -/
theorem compare_same {k : Core} {i : Input} {x : BitVec 64} (hx : k.seg.sigs[i.p]? = some x) (h : x = i.v ∨ k.comparedTo ≤ i.p) : k.compare i = k := by
  unfold Core.compare
  rw [hx]
  exact if_pos (.inr h)

/-- One that differs and is compared is one. -/
theorem compare_differs {k : Core} {i : Input} {x : BitVec 64} (hx : k.seg.sigs[i.p]? = some x) (hbad : k.seg.bad = 0) (hne : x ≠ i.v)
    (hi : i.p < k.comparedTo) : (k.compare i).seg.bad = 1 ∧ (k.compare i).seg.badAt = i.p := by
  have e : k.compare i = { k with seg := { k.seg with bad := 1, badAt := i.p, sigx := (x ^^^ i.v).truncate 16 } } := by
    unfold Core.compare
    rw [hx]
    exact if_neg (by simp [hbad, hne, hi])
  rw [e]
  exact ⟨rfl, rfl⟩

/-- What a comparison leaves of the core. -/
theorem compare_keeps (k : Core) (i : Input) : (k.compare i).ops = k.ops ∧ (k.compare i).seg.first = k.seg.first
    ∧ (k.compare i).seg.rerun = k.seg.rerun ∧ (k.compare i).seg.ck = k.seg.ck := by
  unfold Core.compare
  split
  · split <;> exact ⟨rfl, rfl, rfl, rfl⟩
  · exact ⟨rfl, rfl, rfl, rfl⟩

/-! ## The checkpoint restored -/

/-- A refilled core differs in its scoreboard and its numbers alone. -/
structure Refills (k h : Core) : Prop where
  ctx : h.ctx = k.ctx
  pipe : h.pipe = k.pipe
  land : h.land = k.land
  seg : h.seg = k.seg

theorem refill_refills (k : Core) : Refills k k.refill := by
  unfold Core.refill
  suffices H : ∀ (l : List (Nat × TagEntry)) (h : Core), Refills k h → Refills k (l.foldl (fun c x =>
      if x.2.st = (1 : BitVec 2) ∧ (c.sb.any fun b => decide (b.slot = some x.1)) = false then
        let off := slotOffset c.ctx.pw (x.1 % 64) (x.1 / 64)
        { c with nid := c.nid + 1, sb := c.sb ++ [{ op := c.nid, slot := some x.1, lo := off, hi := off + 4095, dest := true, home := none }] }
      else c) h) from H _ k ⟨rfl, rfl, rfl, rfl⟩
  intro l
  induction l with
  | nil => exact fun _ h => h
  | cons x xs ih =>
    intro h hh
    refine ih _ ?_
    beta_reduce
    split
    · exact ⟨hh.ctx, hh.pipe, hh.land, hh.seg⟩
    · exact hh

/-- The context that a core goes back to is its checkpoint's. -/
theorem rollback_ctx {k : Core} {x : Ctx} {tags : FMap TagEntry} {plru : FMap (BitVec 8)} (h : k.seg.ck = some (x, tags, plru)) : k.rollback.thaw.ctx = x := by
  unfold Core.rollback
  rw [h]
  rfl

/-- A restored core has nothing in flight and its checkpoint's context, with a segment before it. -/
theorem restore_leaves (k : Core) : k.restore.pipe = [] ∧ k.restore.land = [] ∧ k.restore.seg.restoring = true
    ∧ ∀ x tags plru, k.seg.ck = some (x, tags, plru) → k.restore.ctx = { x with segLeft := 4096 } := by
  unfold Core.restore
  refine ⟨?_, ?_, ?_, fun x tags plru hck => ?_⟩
  · rw [(refill_refills _).pipe]
  · rw [(refill_refills _).land]
  · rw [(refill_refills _).seg]
  · rw [(refill_refills _).ctx, rollback_ctx hck]

@[simp] theorem dropWork_mem (s : State) (c : BitVec 8) (n : Nat) : (s.dropWork c n).mem = s.mem := rfl

@[simp] theorem dropWork_core (s : State) (c : BitVec 8) (n : Nat) (d : BitVec 8) : (s.dropWork c n).core d = s.core d := rfl

/-- A core whose mismatch has its syndrome. -/
def noted (m : Core) : Core := { m with seg := { m.seg with synd := segSynd m.seg } }

theorem noted_ck (m : Core) : (noted m).seg.ck = m.seg.ck := by
  simp only [noted]

/-- The state in which a pair's cores have gone back to their checkpoint. -/
def rewound (s : State) (c : BitVec 8) (m : Core) : State := ((s.setCore c m).setCore c (noted m).restore).dropWork c m.seg.first

theorem rewound_core (s : State) (c : BitVec 8) (m : Core) : (rewound s c m).core c = (noted m).restore :=
  (dropWork_core ..).trans (core_setCore_same ..)

theorem rewound_other (s : State) {c d : BitVec 8} (m : Core) (h : d ≠ c) : (rewound s c m).core d = s.core d :=
  (dropWork_core ..).trans ((core_setCore_other _ _ h).trans (core_setCore_other _ _ h))

theorem rewound_mem (s : State) (c : BitVec 8) (m : Core) : (rewound s c m).mem = s.mem := by
  unfold rewound
  rw [dropWork_mem, setCore_mem, setCore_mem]

/-! ## O42 -/

/-- Settles O42: comparison finds the first bundle that differs, the commit and the rewind act as their events' conditions say, and a restored core holds
its checkpoint. -/
theorem segmentEvents : Obligations.SegmentEvents := by
  unfold Obligations.SegmentEvents
  intro s c k
  refine ⟨fun h i htwin hk hh hopen hrest hbad hbad' hi hne before =>
      comparePair_differs htwin hk hh hopen hrest hbad hbad' (pairDiff_first hi hne before),
    fun hprot hopen hend hbad hrest hdone hsame hpsn => ?_, fun hbad x hx => ⟨compare_same hx, compare_differs hx hbad⟩,
    fun hprot hopen hrest hbad hops => ?_, fun hrest => ?_⟩
  · have htwin : ((s.twin c).any fun h => decide (h.seg.done ≠ k.seg.done)) = false := by
      cases ht : s.twin c with
      | none => rfl
      | some h => simp [hsame h ht]
    constructor
    all_goals
      intro hre
      show execSegmentCommit s = _
      rw [execSegmentCommit, if_neg (by simp [c, k] at *; simp [hprot, hopen, hend, hbad, hrest, hdone]), if_neg (by simpa [c, k] using htwin),
        if_neg (by simpa [c, k] using hpsn)]
      simp [c, k] at hre ⊢
      simp [hre]
  · obtain ⟨ops, first, rerun, ck⟩ := compare_keeps k s.inp
    have hend : ¬ ((k.compare s.inp).seg.bad = 0 ∨ ((k.compare s.inp).ops.any fun o => o.blocks && decide ((k.compare s.inp).seg.first ≤ o.id)) = true) := by
      rw [ops, first]
      simp only [not_or, List.any_eq_true, Bool.and_eq_true, decide_eq_true_eq, not_exists, not_and]
      exact ⟨hbad, fun o ho hb => Nat.not_le.mpr (hops o ho hb)⟩
    have e : execRewind s = .next (if (k.compare s.inp).seg.rerun then
        ((s.setCore c (k.compare s.inp)).pairRecord c 3 (if (k.compare s.inp).seg.bad = 3 then 0x0805 else 0x0802) (segSynd (k.compare s.inp).seg)).killCore c
          (BitVec.ofNat 16 (if (k.compare s.inp).seg.bad = 3 then 0x0805 else 0x0802))
      else rewound s c (k.compare s.inp)) := by
      rw [execRewind, if_neg (by simp only [c, k] at hprot hopen hrest; simp [hprot, hopen, hrest])]
      exact congrArg _ (if_neg hend)
    constructor
    · intro hre
      obtain ⟨hpipe, hland, hrestoring, hctx⟩ := restore_leaves (noted (k.compare s.inp))
      have home := rewound_core s c (k.compare s.inp)
      have becomes : Becomes s .rewind (rewound s c (k.compare s.inp)) := by
        show execRewind s = _
        rw [e, if_neg (by rw [rerun, hre]; exact Bool.false_ne_true)]
      refine ⟨rewound s c (k.compare s.inp), becomes, ?_, ?_, ?_, ?_, ?_, ?_, ?_⟩
      · exact rewound_mem ..
      · exact home
      · exact fun d hd => rewound_other s _ hd
      all_goals rw [home]
      · exact hpipe
      · exact hland
      · exact hrestoring
      · exact fun x tags plru hck => hctx x tags plru ((noted_ck _).trans (ck.trans hck))
    · intro hre
      show execRewind s = _
      rw [e, if_pos (rerun.trans hre)]
  · show execRerunStart s = _
    rw [execRerunStart, State.updCore, if_pos hrest]

end Sys2Proof.Proofs

/-! SUPPORT. The routers' rounds: what a router combines, the root's write, and a round whose timer has run out (10 R243-R245, 22 R406). -/

namespace Sys2Proof.Proofs

open Sys2Proof Sys2Proof.Machine Sys2Proof.Laws Sys2Proof.Claims

/-! ## The values of children -/

/-- Values that all are there are all that there are. -/
theorem filterMap_of_map_some {α β : Type} {f : α → Option β} : ∀ {l : List α} {vs : List β}, l.map f = vs.map some → l.filterMap f = vs
  | [], [], _ => rfl
  | x :: xs, v :: vs, h => by
    rw [List.map_cons, List.map_cons, List.cons.injEq] at h
    rw [List.filterMap_cons_some h.1, filterMap_of_map_some h.2]

theorem length_of_map_some {α β : Type} {f : α → Option β} {l : List α} {vs : List β} (h : l.map f = vs.map some) : vs.length = l.length := by
  simpa using (congrArg List.length h).symm

theorem any_false_of_find {α : Type} {f : α → Bool} {l : List α} (h : l.find? f = none) : l.any f = false := by
  simpa using h

theorem any_of_find {α : Type} {f : α → Bool} {l : List α} {x : α} (h : l.find? f = some x) : l.any f = true :=
  List.any_eq_true.mpr ⟨x, List.mem_of_find?_eq_some h, List.find?_some h⟩

/-! ## Combination -/

/-- No poison comes up from the children. -/
theorem combinePoison_clean {s : State} {b j : Nat} {r : Round} {kids : List Nat} (h : ∀ p ∈ r.sent, p.psn = true → p.core.toNat ∉ kids) :
    s.combinePoison b j r kids = s := by
  unfold State.combinePoison
  refine if_neg fun hany => ?_
  simp only [List.any_eq_true, Bool.and_eq_true, decide_eq_true_eq] at hany
  obtain ⟨i, hi, p, hp, hpsn, rfl⟩ := hany
  exact h p hp hpsn hi

/-- A router that is no root has done its part when it has combined. -/
theorem tryRoot_other {s : State} {b t m j : Nat} (h : j ≠ treeRoot (s.tree b t)) : s.tryRoot b t m j = s := by
  unfold State.tryRoot
  split
  · rfl
  · split
    · rfl
    · exact if_neg fun e => h e.1

@[simp] theorem updRound_tree (s : State) (b t m : Nat) (f : Round → Round) (b' t' : Nat) : (s.updRound b t m f).tree b' t' = s.tree b' t' := rfl

/-- A router that has its packet and has combined nothing yet, in a round that goes on. -/
structure Combines (s : State) (b t m j : Nat) (r : Round) (own : Packet) : Prop where
  round : s.round b t m = some r
  open_ : r.ended = 0
  early : s.roundLate r = false
  own : (r.sent.find? fun p => decide (p.core.toNat = j)) = some own

/-- Before it has combined, an exact round's router merges its children's windows into its own. -/
theorem combine_exact {s : State} {b t m j : Nat} {r : Round} {own : Packet} (h : Combines s b t m j r own)
    (hclean : ∀ p ∈ r.sent, p.psn = true → p.core.toNat ∉ childrenOf (s.tree b t) j)
    (hx : r.exact.find? (fun x => decide (x.1.toNat = j)) = none) (hr : r.rounded.find? (fun x => decide (x.1.toNat = j)) = none)
    (hmode : own.exactMode = true) {vals : List (List Window)}
    (hvals : (childrenOf (s.tree b t) j).map (fun i => (r.exact.find? fun x => decide (x.1.toNat = i)).map (·.2)) = vals.map some) :
    s.combine b t m j = (s.updRound b t m fun r => { r with exact := r.exact ++ [(BitVec.ofNat 4 j,
      vals.foldl (fun acc v => List.zipWith Window.merge acc v) (own.elems.map (leafWindow (treeAnchor (s.tree b t)))))] }).tryRoot b t m j := by
  obtain ⟨hround, hopen, hearly, hown⟩ := h
  unfold State.combine
  simp only [hround, hown, hopen, hearly, any_false_of_find hx, any_false_of_find hr, hmode, filterMap_of_map_some hvals, length_of_map_some hvals,
    combinePoison_clean hclean, ne_eq, not_true_eq_false, if_false, if_true, Bool.false_eq_true, Bool.or_self]

/-- A rounded round's adds their elements to its own, in order. -/
theorem combine_rounded {s : State} {b t m j : Nat} {r : Round} {own : Packet} (h : Combines s b t m j r own)
    (hclean : ∀ p ∈ r.sent, p.psn = true → p.core.toNat ∉ childrenOf (s.tree b t) j)
    (hx : r.exact.find? (fun x => decide (x.1.toNat = j)) = none) (hr : r.rounded.find? (fun x => decide (x.1.toNat = j)) = none)
    (hmode : own.exactMode = false) {vals : List (List (BitVec 32))}
    (hvals : (childrenOf (s.tree b t) j).map (fun i => (r.rounded.find? fun x => decide (x.1.toNat = i)).map (·.2)) = vals.map some)
    {sum : List (BitVec 32) × FFlags} (hsum : sum = vals.foldl
      (fun (acc : List (BitVec 32) × FFlags) v =>
        ((List.zipWith addFp32 acc.1 v).map (·.1), (List.zipWith addFp32 acc.1 v).foldl (fun f y => f ||| y.2) acc.2)) (own.elems, r.flags)) :
    s.combine b t m j = (s.updRound b t m fun r => { r with rounded := r.rounded ++ [(BitVec.ofNat 4 j, sum.1)], flags := sum.2 }).tryRoot b t m j := by
  obtain ⟨hround, hopen, hearly, hown⟩ := h
  unfold State.combine
  simp only [hround, hown, hopen, hearly, any_false_of_find hx, any_false_of_find hr, hmode, filterMap_of_map_some hvals, length_of_map_some hvals,
    combinePoison_clean hclean, hsum, ne_eq, not_true_eq_false, if_false, Bool.false_eq_true, Bool.or_self]

/-- The root that has combined its windows writes their readouts. -/
theorem combine_root {s u : State} {b t m : Nat} {j : BitVec 4} {r : Round} {own : Packet} (h : Combines s b t m j.toNat r own)
    (hroot : j.toNat = treeRoot (s.tree b t)) (hmode : own.exactMode = true) {ws : List Window}
    (hx : r.exact.find? (fun x => decide (x.1.toNat = j.toNat)) = some (j, ws)) (hj : own.core = j)
    (hgoes : workGoesOn s (BitVec.ofNat 8 (16 * b + j.toNat)) own.op 0 [] (s.rangePlaces (BitVec.ofNat 8 (16 * b + j.toNat)) .write own.destVa.toNat 128)
      (fun u => u.rootWrite b t r own ((ws.map fun w => w.readout (treeAnchor (s.tree b t)) Fmt.fp32 .rne).map fun y => BitVec.ofNat 32 y.1)
        ((ws.map fun w => w.readout (treeAnchor (s.tree b t)) Fmt.fp32 .rne).foldl (fun f y => f ||| y.2) 0)) u) :
    s.combine b t m j.toNat = u := by
  obtain ⟨hround, hopen, hearly, hown⟩ := h
  have hx' : r.exact.find? (fun x => decide (x.1 = own.core)) = some (j, ws) := by
    rw [hj, ← hx]
    exact congrArg (fun f => r.exact.find? f) (funext fun x => decide_eq_decide.mpr BitVec.toNat_inj.symm)
  have e : s.combine b t m j.toNat = s.finishRoot b t r own := by
    unfold State.combine
    simp only [hround, hown, hopen, hearly, any_of_find hx, State.tryRoot, hroot.symm, ne_eq, not_true_eq_false, if_false, if_true, Bool.false_eq_true,
      Bool.true_or, and_self]
  rw [e]
  unfold State.finishRoot
  simp only [hmode, if_true, hx', Option.map_some, Option.getD_some]
  rw [hj]
  exact withAccess_goesOn 0 hgoes

/-! ## A round whose timer has run out -/

/-- The round that is found is the one asked for. -/
theorem round_is {s : State} {b t m : Nat} {r : Round} (h : s.round b t m = some r) : r.b.toNat = b ∧ r.tree.toNat = t ∧ r.m = m := by
  have hr := List.find?_some h
  simpa [and_assoc] using hr

theorem abandonDue_due {s : State} {b t m : Nat} {r : Round} (h : s.round b t m = some r) (hopen : r.ended = 0) (hsent : r.sent ≠ [])
    (hdue : r.at_ + roundTimer ≤ (mapGet Init.island s.islands b).milli s.ns) :
    s.abandonDue b t m = (s.finishPackets b r.sent (some (0x1807, roundTval (treeMemb (s.tree b t) - (treeMemb (s.tree b t) &&& r.sentMask)) t m))).updRound b t m
      fun x => { x with ended := 0x1807, tval := roundTval (treeMemb (s.tree b t) - (treeMemb (s.tree b t) &&& r.sentMask)) t m } := by
  obtain ⟨rfl, rfl, rfl⟩ := round_is h
  have hrd : s.roundDue r = true := by simp [State.roundDue, hopen, hsent, hdue]
  have e : s.abandonDue r.b.toNat r.tree.toNat r.m = s.abandon r := by
    unfold State.abandonDue
    rw [h]
    exact if_pos hrd
  rw [e, State.abandon]

/-! ## O45 -/

/-- Settles O45: a router with its packet and its children's values combines them, the root that has combined writes, and a round past its timer is
abandoned. -/
theorem routerEvents : Obligations.RouterEvents := by
  unfold Obligations.RouterEvents
  intro s b tree m j t
  constructor
  · intro r own hround hopen hearly hown kids done
    have h : Combines s b tree m j.toNat r own := ⟨hround, hopen, hearly, hown⟩
    have combined {f : Round → Round} (e : s.combine b tree m j.toNat = (s.updRound b tree m f).tryRoot b tree m j.toNat) : done (s.updRound b tree m f) :=
      ⟨congrArg Host.Outcome.next e, fun hj => congrArg Host.Outcome.next (e.trans (tryRoot_other hj))⟩
    refine ⟨fun hclean hx hr => ⟨fun hmode vals hvals => combined ?_, fun hmode vals hvals => combined ?_⟩,
      fun u ws hroot hmode hx hj hgoes => ?_⟩
    · rw [combine_exact h hclean hx hr hmode hvals, BitVec.ofNat_toNat, BitVec.setWidth_eq]
    · rw [combine_rounded h hclean hx hr hmode hvals rfl, BitVec.ofNat_toNat, BitVec.setWidth_eq]
    · show execRpkRoundCombine s = _
      rw [execRpkRoundCombine]
      exact congrArg Host.Outcome.next (combine_root h hroot hmode hx hj hgoes)
  · intro r hround hopen hsent hdue missing tv
    show execRoundTimeout s = _
    rw [execRoundTimeout]
    exact congrArg Host.Outcome.next (abandonDue_due hround hopen hsent hdue)

end Sys2Proof.Proofs

/-! SUPPORT. Bank launches and programs: what the events of a pseudo-channel leave of its programs, and its banks as a start and a WAITS release leave
them (13 R285-R294). -/

namespace Sys2Proof.Proofs

open Sys2Proof Sys2Proof.Machine Sys2Proof.Laws Sys2Proof.Claims

/-! ## Channels -/

theorem chan_setChan_ite (s : State) (k pc : Nat) (x : PChan) (k' pc' : Nat) :
    (s.setChan k pc x).chan k' pc' = if k' = k ∧ pc' = pc then x else s.chan k' pc' := by
  unfold State.chan State.setChan
  rw [stack_updStack]
  by_cases hk : k' = k
  · subst hk
    rw [if_pos rfl]
    by_cases hpc : pc' = pc
    · subst hpc
      rw [if_pos ⟨rfl, rfl⟩, mapGet_set_same]
    · rw [if_neg fun e => hpc e.2, mapGet_set_other _ hpc]
  · rw [if_neg hk, if_neg fun e => hk e.1]

/-- No channel has started a program from `s` to `t`. -/
structure SameProgs (s t : State) : Prop where
  eq : ∀ k pc, (t.chan k pc).progs = (s.chan k pc).progs

theorem SameProgs.refl (s : State) : SameProgs s s := ⟨fun _ _ => rfl⟩

theorem SameProgs.trans {s t u : State} (h : SameProgs s t) (h' : SameProgs t u) : SameProgs s u :=
  ⟨fun k pc => (h'.eq k pc).trans (h.eq k pc)⟩

theorem sameProgs_foldl {β : Type} {f : State → β → State} (hf : ∀ s b, SameProgs s (f s b)) (l : List β) (s : State) : SameProgs s (l.foldl f s) := by
  induction l generalizing s with
  | nil => exact .refl s
  | cons b l ih => exact (hf s b).trans (ih (f s b))

theorem sameProgs_ite {s t u : State} {c : Prop} [Decidable c] (ht : SameProgs s t) (hu : SameProgs s u) : SameProgs s (if c then t else u) := by
  split
  · exact ht
  · exact hu

theorem sameProgs_of_stk {s t : State} (h : t.stk = s.stk) : SameProgs s t := ⟨fun k pc => by
  unfold State.chan State.stack
  rw [h]⟩

theorem sameProgs_setChan {s : State} {k pc : Nat} {x : PChan} (h : x.progs = (s.chan k pc).progs) : SameProgs s (s.setChan k pc x) := by
  refine ⟨fun k' pc' => ?_⟩
  rw [chan_setChan_ite]
  split
  · next e => rw [e.1, e.2, h]
  · rfl

theorem sameProgs_updStack {s : State} {k : Nat} {f : Stack → Stack} (h : (f (s.stack k)).chans = (s.stack k).chans) : SameProgs s (s.updStack k f) := by
  refine ⟨fun k' pc' => ?_⟩
  unfold State.chan
  rw [stack_updStack]
  split
  · next e => rw [e, h]
  · rfl

/-! ## Writes of the spine -/

theorem sameProgs_awaitsCols (s : State) (key : Nat) (a : PAddr) (n : Nat) : SameProgs s (s.awaitsCols key a n) := by
  unfold State.awaitsCols State.awaitsAll State.awaits
  exact sameProgs_ite (sameProgs_of_stk rfl) (sameProgs_ite (sameProgs_of_stk rfl) (.refl s))

theorem sameProgs_unstage (s : State) (a : Nat) : SameProgs s (s.unstage a) := by
  unfold State.unstage State.updChan
  exact sameProgs_ite (.refl s) (sameProgs_setChan rfl)

theorem sameProgs_markDirty (s : State) (pa n : Nat) : SameProgs s (s.markDirty pa n) := by
  unfold State.markDirty
  dsimp only
  split
  · exact sameProgs_ite (sameProgs_updStack rfl) (.refl s)
  · exact .refl s

theorem sameProgs_dropAsids (s : State) (pa n : Nat) : SameProgs s (s.dropAsids pa n) := by
  unfold State.dropAsids
  exact sameProgs_ite (sameProgs_of_stk rfl) (.refl s)

theorem sameProgs_physWrite (s : State) (pa n x : Nat) (psn : Bool) : SameProgs s (s.physWrite pa n x psn) := by
  unfold State.physWrite
  refine sameProgs_ite (.refl s) ((sameProgs_foldl (fun s i => sameProgs_unstage s (32 * i)) (s.columnsAt pa n) s).trans ?_)
  generalize (s.columnsAt pa n).foldl (fun s i => s.unstage (32 * i)) s = u
  have hbytes : SameProgs u { u with mem := writeBytes u.mem (u.redirect pa) n x, poison := markPoison u.poison (u.redirect pa) n psn } :=
    sameProgs_of_stk rfl
  exact hbytes.trans ((sameProgs_markDirty _ pa n).trans (sameProgs_dropAsids _ pa n))

theorem sameProgs_put (s : State) (key : Nat) (a : PAddr) (n x : Nat) (psn : Bool) : SameProgs s (s.put key a n x psn).1 := by
  unfold State.put
  split
  · exact .refl s
  · refine (sameProgs_awaitsCols s key a n).trans ?_
    unfold State.writeAt
    cases a with
    | stack pa =>
      dsimp only
      split
      · exact .refl _
      · exact sameProgs_physWrite ..
    | fabric => exact .refl _

theorem Reports.sameProgs {s t : State} (h : Reports s t) : SameProgs s t := by
  refine ⟨fun k pc => ?_⟩
  obtain ⟨move, e⟩ := h.stack k
  unfold State.chan
  rw [e]

theorem sameProgs_cpWrite (s : State) (p : Nat) (asid : BitVec 14) (va n x : Nat) : SameProgs s (s.cpWrite p asid va n x).1 := by
  unfold State.cpWrite
  split
  · exact sameProgs_put ..
  · exact (reports_logError ..).sameProgs
  · exact sameProgs_of_stk rfl
  · exact .refl s
  · exact .refl s

theorem sameProgs_changeRegion (s : State) (part : Nat) (rasid : BitVec 14) (va : BitVec 64) (f : Region → Region) :
    SameProgs s (s.changeRegion part rasid va f).1 := by
  unfold State.changeRegion
  split
  · exact .refl s
  · next r _ =>
    have hcp : SameProgs s { s with cp := { s.cp with regions := s.cp.regions.map fun x => if x = r then f r else x } } := sameProgs_of_stk rfl
    exact hcp.trans ((sameProgs_cpWrite ..).trans (sameProgs_cpWrite ..))

theorem sameProgs_updUp (part : Nat) (f : Region → Region) : ∀ (n : Nat) (s : State) (rasid : BitVec 14) (va : BitVec 64),
    SameProgs s (s.updUp part rasid f n va)
  | 0, s, _, _ => .refl s
  | n + 1, s, rasid, va => by
    unfold State.updUp
    split
    · exact .refl s
    · next r _ =>
      have hr := sameProgs_changeRegion s part rasid va f
      exact sameProgs_ite hr (hr.trans (sameProgs_updUp part f n _ r.pasid r.parent))

/-! ## The start of a program -/

theorem sameProgs_precharge (s : State) (k pc bank row : Nat) : SameProgs s (s.precharge k pc bank row) := by
  have saturates (p : PChan) (a b c d : Nat) : (p.saturate a b c d).progs = p.progs := rfl
  unfold State.precharge
  dsimp only
  generalize hx : (if 4095 ≤ _ then PChan.saturate _ _ _ _ _ else _) = x
  have hs : SameProgs s (s.setChan k pc x) := sameProgs_setChan (by rw [← hx, apply_ite PChan.progs, saturates, ite_self])
  exact sameProgs_ite (hs.trans (reports_logError ..).sameProgs) hs

theorem sameProgs_closeRow (s : State) (k pc bank : Nat) : SameProgs s (s.closeRow k pc bank) := by
  unfold State.closeRow
  split
  · exact .refl s
  · exact (sameProgs_precharge ..).trans (sameProgs_setChan rfl)

theorem bank_setBank_same (p : PChan) (b : Nat) (x : Bank) : (p.setBank b x).bank b = x := mapGet_set_same ..

theorem bank_setBank_other (p : PChan) {b c : Nat} (x : Bank) (h : c ≠ b) : (p.setBank b x).bank c = p.bank c := mapGet_set_other _ h

/-- Banks set one after another, each from what stands in it and in the channel outside its banks. -/
theorem bank_foldl_range {f : PChan → Nat → PChan} (hother : ∀ p b c, c ≠ b → (f p b).bank c = p.bank c) (n : Nat) (p : PChan) {c : Nat} :
    (c < n → ∃ q, q.bank c = p.bank c ∧ ((List.range n).foldl f p).bank c = (f q c).bank c) ∧ (n ≤ c → ((List.range n).foldl f p).bank c = p.bank c) := by
  induction n with
  | zero => exact ⟨fun h => absurd h (Nat.not_lt_zero c), fun _ => rfl⟩
  | succ n ih =>
    rw [List.range_succ, List.foldl_append, List.foldl_cons, List.foldl_nil]
    refine ⟨fun hc => ?_, fun hc => ?_⟩
    · rcases Nat.lt_succ_iff_lt_or_eq.mp hc with hlt | rfl
      · rw [hother _ _ _ (Nat.ne_of_lt hlt)]
        exact ih.1 hlt
      · exact ⟨_, ih.2 (Nat.le_refl c), rfl⟩
    · rw [hother _ _ _ (by omega)]
      exact ih.2 (by omega)

/-- A channel one of whose banks starts a program. -/
def freshened (l : BankLaunch) (p : PChan) (b : Nat) : PChan := p.setBank b (freshBank l (!(p.requestsOf b).isEmpty))

theorem progs_freshened (l : BankLaunch) (bs : List Nat) (p : PChan) : (bs.foldl (freshened l) p).progs = p.progs := by
  induction bs generalizing p with
  | nil => rfl
  | cons b bs ih => exact (ih _).trans rfl

theorem bank_freshened (l : BankLaunch) (p : PChan) {b : Nat} (hb : b < 32) : ∃ w, ((List.range 32).foldl (freshened l) p).bank b = freshBank l w := by
  obtain ⟨q, -, hq⟩ := (bank_foldl_range (f := freshened l) (fun p b c h => bank_setBank_other p _ h) 32 p (c := b)).1 hb
  exact ⟨!(q.requestsOf b).isEmpty, hq.trans (bank_setBank_same q b _)⟩

/-- What a program's start leaves of its channel. -/
theorem startProgram_leaves (s : State) (k pc : Nat) (l : BankLaunch) :
    (∃ g, ((s.startProgram k pc l).chan k pc).prog = some g ∧ g.launch = l ∧ g.stopping = false)
      ∧ ((s.startProgram k pc l).chan k pc).progs = (s.chan k pc).progs + 1 ∧ ∀ b < 32, ∃ w, ((s.startProgram k pc l).chan k pc).bank b = freshBank l w := by
  unfold State.startProgram State.updChan
  rw [chan_setChan]
  have hup := sameProgs_updUp l.part (fun r => { r with bankact := r.bankact + 1 }) 16 s l.rasid l.rcb
  dsimp only
  generalize s.updUp l.part l.rasid (fun r => { r with bankact := r.bankact + 1 }) 16 l.rcb = u at hup ⊢
  have hp := (hup.trans (sameProgs_foldl (fun s b => sameProgs_closeRow s k pc b) (List.range 32) u)).eq k pc
  generalize ((List.range 32).foldl (fun s b => State.closeRow s k pc b) u).chan k pc = p at hp ⊢
  have hbanks (b : Nat) (hb : b < 32) := bank_freshened l p hb
  have hprogs := (progs_freshened l (List.range 32) p).trans hp
  have hfun : (fun (p : PChan) (b : Nat) => p.setBank b (freshBank l (!(p.requestsOf b).isEmpty))) = freshened l := rfl
  rw [hfun]
  generalize (List.range 32).foldl (freshened l) p = q at hbanks hprogs ⊢
  exact ⟨⟨_, rfl, rfl, rfl⟩, congrArg (· + 1) hprogs, hbanks⟩

/-! ## WAITS -/

/-- A channel one of whose banks goes on from its WAITS. -/
def released (p : PChan) (b : Nat) : PChan := if (p.bank b).ended then p else p.updBank b fun b => ({ b with atWaits := false } : Bank).advance

theorem released_other (p : PChan) (b c : Nat) (h : c ≠ b) : (released p b).bank c = p.bank c := by
  unfold released
  split
  · rfl
  · exact bank_setBank_other p _ h

/-- The banks of a channel whose WAITS is released. -/
theorem bank_released (p : PChan) {b : Nat} (hb : b < 32) : ((List.range 32).foldl released p).bank b
    = if (p.bank b).ended then p.bank b else { p.bank b with atWaits := false, mpc := (p.bank b).mpc + 1 } := by
  obtain ⟨q, hq, h⟩ := (bank_foldl_range released_other 32 p (c := b)).1 hb
  rw [h, released, ← hq]
  split
  · rfl
  · exact bank_setBank_same q b _

/-! ## Sending -/

/-- A BANKGO that nothing holds leaves for its channel. -/
theorem bankgo_leaves {s : State} {o : EngineOp} (ho : (s.core s.inp.c).op s.inp.id = some o) (hsent : o.sent = false)
    (hstart : (s.core s.inp.c).mayStart o = true) (hturn : (s.core s.inp.c).bankTurn o = true) (hname : o.name = .bankgo) (hdone : o.done = false)
    (hstores : s.storesDone s.inp.c o = true) (hstop : s.stopped (16 + o.bankPlace.1) 0 = false)
    (hbeq : s.beqRoom (s.launchOf s.inp.c o 0).part (s.launchOf s.inp.c o 0).rasid (s.launchOf s.inp.c o 0).rcb = true) :
    Becomes s .bankgoBeqRelease ((s.updCore s.inp.c fun x => x.updOp o.id fun o => { o with sent := true }).arrive o.bankPlace.1 o.bankPlace.2
      o.snap.s3.toNat (s.launchOf s.inp.c o 0)) := by
  show execBankgoBeqRelease s = _
  rw [execBankgoBeqRelease]
  simp only [ho]
  rw [if_neg (by simp [hsent, hstart, hturn, hname, hdone, hstores, hstop, hbeq])]

/-- A BANKLD leaves with the image it reads. -/
theorem bankld_leaves {s : State} {o : EngineOp} (ho : (s.core s.inp.c).op s.inp.id = some o) (hsent : o.sent = false)
    (hstart : (s.core s.inp.c).mayStart o = true) (hturn : (s.core s.inp.c).bankTurn o = true) (hname : o.name = .bankld) (hflag : s.inp.flag = false)
    {image : Blk} (himage : image = spBlk ((s.core s.inp.c).source o).1 ((s.core s.inp.c).source o).2 o.snap.s2.toNat 96) (hpsn : image.psn = 0)
    (hbad : o.badBytes 0 96 = 0) (hstop : s.stopped (16 + o.bankPlace.1) 0 = false) :
    Becomes s .bankldApply
      (let sent := s.updCore s.inp.c fun x => x.updOp o.id fun o => { o with sent := true }
       let t := sent.arrive o.bankPlace.1 o.bankPlace.2 o.snap.s3.toNat (s.launchOf s.inp.c o image.x)
       if (sent.chan o.bankPlace.1 o.bankPlace.2).waiting.isEmpty then t.applyHead o.bankPlace.1 o.bankPlace.2 else t) := by
  show execBankldApply s = _
  rw [execBankldApply]
  simp only [hflag, ho, Bool.false_eq_true, if_false]
  rw [if_neg (by simp [hsent, hstart, hturn, hname, hstop])]
  simp only [← himage, hpsn, hbad, ne_eq, not_true_eq_false, or_self, if_false]

/-! ## O44 -/

/-- Settles O44: each event acts as its own conditions say; a program's start leaves every bank fresh, and a WAITS release every bank that runs past
it. -/
theorem bankProgramEvents : Obligations.BankProgramEvents := by
  unfold Obligations.BankProgramEvents
  intro s c k pc bank p
  refine ⟨fun o ho hsent hstart hturn => ⟨bankgo_leaves ho hsent hstart hturn, fun hname hflag hpsn hbad hstop =>
      bankld_leaves ho hsent hstart hturn hname hflag rfl hpsn hbad hstop⟩, fun hflag => ?_, fun l rest hwait hgo hfree hlost hstart hrows => ?_,
    fun g hg hruns hact => ⟨fun hb => ?_, fun hb hfirst hrows => ?_⟩,
    fun hruns => ⟨fun hwin hdue => ⟨fun hrow => ?_, fun hrow href hras => ?_⟩, fun hwin hall => ?_⟩, fun hprog htake hall => ?_, rfl,
    fun t0 ht0 hns hover => ?_, fun va n hfence => ?_⟩
  · show execBankldApply s = _
    rw [execBankldApply, if_pos hflag]
  · obtain ⟨⟨g, hg, hl, hstop⟩, hprogs, hbanks⟩ := startProgram_leaves (s.dropHead k pc) k pc l
    refine ⟨(s.dropHead k pc).startProgram k pc l, ?_, g, hg, hl, hstop, ?_, hbanks⟩
    · show execBankProgramStart s = _
      rw [execBankProgramStart]
      simp only [show (s.chan s.inp.k.toNat s.inp.pc.toNat).waiting = l :: rest from hwait]
      rw [if_neg (by simp [hgo, show s.channelFree s.inp.k.toNat s.inp.pc.toNat = true from hfree]),
        if_neg (by rw [show (s.chan s.inp.k.toNat s.inp.pc.toNat).lost = false from hlost]; exact Bool.false_ne_true),
        if_neg (by rw [show s.startRefused s.inp.k.toNat s.inp.pc.toNat l = false from hstart]; exact Bool.false_ne_true),
        if_neg (by rw [show s.rowsMayClose s.inp.k.toNat s.inp.pc.toNat = true from hrows]; decide)]
    · rw [hprogs, State.dropHead, State.updChan, chan_setChan]
  · show execActAdmit s = _
    rw [execActAdmit]
    simp only [show (s.chan s.inp.k.toNat s.inp.pc.toNat).prog = some g from hg]
    rw [if_neg (by simpa [not_or] using ⟨hruns, hact⟩), if_pos hb]
  · show execActAdmit s = _
    rw [execActAdmit]
    simp only [show (s.chan s.inp.k.toNat s.inp.pc.toNat).prog = some g from hg]
    rw [if_neg (by simpa [not_or] using ⟨hruns, hact⟩), if_neg (not_not.mpr hb), if_pos ⟨hfirst, hrows⟩]
  · show execArbitrationWindow s = _
    rw [execArbitrationWindow, if_neg (by simpa using hruns), if_neg (not_not.mpr hwin), if_neg (by simpa using hdue),
      if_neg (by rintro ⟨hr, hd⟩; exact hrow.elim hr hd)]
  · show execArbitrationWindow s = _
    rw [execArbitrationWindow, if_neg (by simpa using hruns), if_neg (not_not.mpr hwin), if_neg (by simpa using hdue), if_pos ⟨hrow, href⟩, if_pos hras]
  · show execArbitrationWindow s = _
    rw [execArbitrationWindow, if_neg (by simpa using hruns), if_pos hwin, if_pos hall]
  · refine ⟨s.updChan k pc fun p => (List.range 32).foldl released p, ?_, updChan_mem .., fun b hb => ?_⟩
    · show execWaitsRelease s = _
      rw [execWaitsRelease, if_pos]
      · rfl
      · exact ⟨Option.isSome_iff_ne_none.mpr hprog, htake, by simpa using hall⟩
    · rw [State.updChan, chan_setChan]
      exact bank_released p hb
  · show execBankHoldTimeout s = _
    rw [execBankHoldTimeout]
    simp only [show (s.stack s.inp.k.toNat).takeover = some t0 from ht0]
    rw [if_neg]
    simpa [not_or] using ⟨hns, hover⟩
  · refine ⟨(s.placeMarkers c (({ s with peek := true } : State).fenceRanges c (n / 2 ^ 14 + 2) va n)).updCore c fun k =>
      { k with fence := some (va, n, true) }, ?_, ?_⟩
    · show execBfenceMarker s = _
      rw [execBfenceMarker]
      simp only [show (s.core s.inp.c).fence = some (va, n, false) from hfence]
      rfl
    · rw [State.updCore, core_setCore_same]

end Sys2Proof.Proofs

/-! SUPPORT. A core whose memory port holds two requests of one number (10 R226, 13 R281). -/

namespace Sys2Proof.Proofs

open Sys2Proof Sys2Proof.Machine Sys2Proof.Laws Sys2Proof.Claims

/-- A store of `n` bytes at address 0x1000 of stack 0, still to be sent. -/
def storeOf (n : Nat) : MemReq :=
  { id := 0, po := 0, kind := .store, cls := 0, piece := { target := .stack 0x1000, off := 0, n := n }, data := 0, scope := 4, merges := false, entry := 0
    acq := false, rel := false, sent := false, left := 0, readyAt := 0, psn := false }

/-- Core 0 has two stores of one number to send: one of 8 bytes, and one of a whole line. -/
def storesTwice : State := { State.reset.setCore 0 { Init.core with mq := [storeOf 8, storeOf 64] } with powered := true }

/-- Columns that each request of core 0's port waits for. -/
def columnsLeft (s : State) : List Nat := (s.core 0).mq.map (·.left)

/-- What the obligation says of the first store's leaving. -/
def leavesByClaim : State :=
  ((storesTwice.updCore 0 fun x => x.updReq 0 fun r => { r with sent := true, left := (columnsOf 0x1000 r.piece.n).length }).newAsk (.port 0 0) 0
    ((columnsOf 0x1000 8).map fun a => (a, true)))

/-- Columns that the requests wait for once the first store has left. -/
def columnsAfter : List Nat := match exec .ordinaryRequest storesTwice with
  | .next t => columnsLeft t
  | _ => []

/-- Both wait for the columns of the first store. -/
theorem columnsAfter_is : columnsAfter = [1, 1] := by decide +kernel

/-- By the claim each waits for its own. -/
theorem columnsLeft_claim : columnsLeft leavesByClaim = [1, 2] := by decide +kernel

/-- Refutes O43: a request that leaves is said to wait for the columns of the bytes of every request that has its number, each its own; the event counts
the columns of the request it sends. In a state in which two requests of one core have one number, of 8 and of 64 bytes, the two differ. -/
theorem not_channelEvents : ¬ Obligations.ChannelEvents := by
  unfold Obligations.ChannelEvents
  intro hevents
  obtain ⟨hrequests, -⟩ := hevents storesTwice
  obtain ⟨-, hleaves⟩ := hrequests (storeOf 8) (by decide +kernel)
  have hexec : exec .ordinaryRequest storesTwice = .next leavesByClaim :=
    hleaves 0x1000 (by decide +kernel) rfl (by decide +kernel) (by decide +kernel) rfl
  have hafter := columnsAfter_is
  rw [columnsAfter, hexec] at hafter
  exact absurd (columnsLeft_claim.symm.trans hafter) (by decide)

end Sys2Proof.Proofs

/-! SUPPORT. What a turn has drawn as its input stays as it is, whatever the turn does: through memory, records, regions, the command processor and the end
of tasks (log 2). -/

namespace Sys2Proof.Proofs

open Sys2Proof Sys2Proof.Machine Sys2Proof.Laws Sys2Proof.Claims

@[simp] theorem ite_inp {c : Prop} [Decidable c] (s t : State) : (if c then s else t).inp = if c then s.inp else t.inp := apply_ite ..

@[simp] theorem ite_fst_inp {α : Type} {c : Prop} [Decidable c] (p q : State × α) : (if c then p else q).1.inp = if c then p.1.inp else q.1.inp :=
  apply_ite (fun p : State × α => p.1.inp) ..

@[simp] theorem foldl_inp {β : Type} {f : State → β → State} (hf : ∀ t x, (f t x).inp = t.inp) (l : List β) (s : State) : (l.foldl f s).inp = s.inp := by
  induction l generalizing s with
  | nil => rfl
  | cons x l ih => rw [List.foldl_cons, ih, hf]

@[simp] theorem foldl_fst_inp {α β : Type} {f : State × α → β → State × α} (hf : ∀ t x, (f t x).1.inp = t.1.inp) (l : List β) (p : State × α) :
    (l.foldl f p).1.inp = p.1.inp := by
  induction l generalizing p with
  | nil => rfl
  | cons x l ih => rw [List.foldl_cons, ih, hf]

/-- The input stays from `s` to `t`; sealed, so that a proof does not compute with the states. -/
structure SameInput (s t : State) : Prop where
  eq : t.inp = s.inp

theorem SameInput.refl (s : State) : SameInput s s := ⟨rfl⟩

theorem SameInput.trans {s t u : State} (h : SameInput s t) (h' : SameInput t u) : SameInput s u := ⟨h'.eq.trans h.eq⟩

theorem sameInput_ite {c : Prop} [Decidable c] {s t u : State} (ht : SameInput s t) (hu : SameInput s u) : SameInput s (if c then t else u) := by
  split
  · exact ht
  · exact hu

theorem sameInput_ite_fst {α : Type} {c : Prop} [Decidable c] {s : State} {p q : State × α} (hp : SameInput s p.1) (hq : SameInput s q.1) :
    SameInput s (if c then p else q).1 := by
  split
  · exact hp
  · exact hq

@[simp] theorem setChan_inp (s : State) (a b : Nat) (c : PChan) : (s.setChan a b c).inp = s.inp := rfl

@[simp] theorem updCores_inp (s : State) (a : List (BitVec 8)) (b : Core → Core) : (s.updCores a b).inp = s.inp := by
  unfold State.updCores
  exact foldl_inp (fun t c => updCore_inp t c b) a s

@[simp] theorem unstage_inp (s : State) (a : Nat) : (s.unstage a).inp = s.inp := by
  unfold State.unstage
  simp

@[simp] theorem dropAsids_inp (s : State) (a b : Nat) : (s.dropAsids a b).inp = s.inp := by
  unfold State.dropAsids
  simp

@[simp] theorem markDirty_inp (s : State) (a b : Nat) : (s.markDirty a b).inp = s.inp := by
  unfold State.markDirty
  dsimp only
  split <;> simp

@[simp] theorem physWrite_inp (s : State) (a b c : Nat) (d : Bool) : (s.physWrite a b c d).inp = s.inp := by
  unfold State.physWrite
  simp

@[simp] theorem addAt_inp (s : State) (a : PAddr) (b : Nat) : (s.addAt a b).1.inp = s.inp := by
  unfold State.addAt
  split <;> simp

@[simp] theorem waits_inp (s : State) : s.waits.inp = s.inp := rfl

@[simp] theorem awaits_inp (s : State) (a : BitVec 8 → Nat → Bool) (b : PAddr) (c : Nat) : (s.awaits a b c).inp = s.inp := by
  unfold State.awaits
  simp

@[simp] theorem awaitsAll_inp (s : State) (a : PAddr) (b : Nat) : (s.awaitsAll a b).inp = s.inp := by
  unfold State.awaitsAll
  simp

@[simp] theorem awaitsCols_inp (s : State) (a : Nat) (b : PAddr) (c : Nat) : (s.awaitsCols a b c).inp = s.inp := by
  unfold State.awaitsCols
  simp

@[simp] theorem mirrorRecord_inp (s : State) (a b : Nat) (c : BitVec 256) : (s.mirrorRecord a b c).inp = s.inp := by
  unfold State.mirrorRecord
  simp

@[simp] theorem setRecord_inp (s : State) (a b : Nat) (c : BitVec 256) : (s.setRecord a b c).inp = s.inp := by
  unfold State.setRecord
  simp

@[simp] theorem logError_inp (s : State) (a b : Nat) (c : ErrInfo) : (s.logError a b c).inp = s.inp := by
  unfold State.logError
  simp

@[simp] theorem coreError_inp (s : State) (a : BitVec 8) (b : Nat) (c : ErrInfo) : (s.coreError a b c).inp = s.inp := by
  unfold State.coreError
  simp

@[simp] theorem takeFree_inp (s : State) : s.takeFree.inp = s.inp := rfl

@[simp] theorem unitConsumes_inp (s : State) (a b c : Nat) : (s.unitConsumes a b c).inp = s.inp := by
  unfold State.unitConsumes
  simp

@[simp] theorem unitAddAt_inp (s : State) (a b c : Nat) (d : PAddr) (e : Nat) : (s.unitAddAt a b c d e).1.inp = s.inp := by
  unfold State.unitAddAt
  split
  · simp
  · split <;> simp

@[simp] theorem spineWalkPoison_inp (s : State) (a : Nat) : (s.spineWalkPoison a).inp = s.inp := by
  unfold State.spineWalkPoison
  simp

@[simp] theorem cpAdd_inp (s : State) (a : Nat) (b : BitVec 14) (c d : Nat) : (s.cpAdd a b c d).1.inp = s.inp := by
  unfold State.cpAdd
  split
  · simp
  · split <;> simp

@[simp] theorem writeAt_inp (s : State) (a : PAddr) (b c : Nat) (d : Bool) : (s.writeAt a b c d).1.inp = s.inp := by
  unfold State.writeAt
  split <;> simp

@[simp] theorem put_inp (s : State) (a : Nat) (b : PAddr) (c d : Nat) (e : Bool) : (s.put a b c d e).1.inp = s.inp := by
  unfold State.put
  simp

@[simp] theorem cpWrite_inp (s : State) (a : Nat) (b : BitVec 14) (c d e : Nat) : (s.cpWrite a b c d e).1.inp = s.inp := by
  unfold State.cpWrite
  split <;> simp

@[simp] theorem fenceRan_inp (s : State) (a : BankLaunch → Bool) : (s.fenceRan a).inp = s.inp := rfl

@[simp] theorem gateStops_inp (s : State) (a : Nat) : (s.gateStops a).inp = s.inp := by
  unfold State.gateStops
  simp

@[simp] theorem sawArray_inp (s : State) (a b : Nat) : (s.sawArray a b).inp = s.inp := by
  unfold State.sawArray
  simp

@[simp] theorem spineConsumes_inp (s : State) (a : Nat) : (s.spineConsumes a).inp = s.inp := by
  unfold State.spineConsumes
  simp

@[simp] theorem request_inp (s : State) (a : Request) (b : Option (BitVec 8)) : (s.request a b).inp = s.inp := rfl

@[simp] theorem requestSucc_inp (s : State) (a : Request) (b : Nat) : (s.requestSucc a b).inp = s.inp := by
  unfold State.requestSucc
  simp

@[simp] theorem putRegion_inp (s : State) (a : Region) (b : Bool) : (s.putRegion a b).1.inp = s.inp := by
  unfold State.putRegion
  simp

@[simp] theorem storeRegion_inp (s : State) (a : Region) (b : Bool) : (s.storeRegion a b).inp = s.inp := by
  unfold State.storeRegion
  simp

@[simp] theorem changeRegion_inp (s : State) (a : Nat) (b : BitVec 14) (c : BitVec 64) (d : Region → Region) : (s.changeRegion a b c d).1.inp = s.inp := by
  unfold State.changeRegion
  split <;> simp

@[simp] theorem updRegion_inp (s : State) (a : Nat) (b : BitVec 14) (c : BitVec 64) (d : Region → Region) : (s.updRegion a b c d).inp = s.inp := by
  unfold State.updRegion
  simp

@[simp] theorem tryClose_inp (s : State) (a : Nat) (b : BitVec 14) (c : Nat) (d : BitVec 64) : (s.tryClose a b c d).inp = s.inp := by
  induction c generalizing s b d with
  | zero => rfl
  | succ n ih =>
    unfold State.tryClose
    split
    · rfl
    · simp [ih]

@[simp] theorem cpBlock_inp (s : State) (a : Nat) (b : BitVec 14) (c d : Nat) : (s.cpBlock a b c d).1.inp = s.inp := by
  unfold State.cpBlock
  refine foldl_fst_inp (fun t x => ?_) _ _
  split
  · rfl
  · split <;> simp

@[simp] theorem putNodeState_inp (s : State) (a : Request) (b : BitVec 14) (c d : Nat) : (s.putNodeState a b c d).1.inp = s.inp := by
  unfold State.putNodeState
  dsimp only
  split <;> simp

@[simp] theorem updSub_inp (s : State) (a : BitVec 6) (b : Nat) (c : Submission → Submission) : (s.updSub a b c).inp = s.inp := rfl

@[simp] theorem refuseNode_inp (s : State) (a : Request) (b : Nat) : (s.refuseNode a b).inp = s.inp := rfl

@[simp] theorem closeNode_inp (s : State) (a : Request) (b : BitVec 14) (c d : Nat) : (s.closeNode a b c d).inp = s.inp := by
  unfold State.closeNode
  simp

@[simp] theorem settleNode_inp (s : State) (a : Request) (b : BitVec 14) (c : BitVec 64) : (s.settleNode a b c).inp = s.inp := by
  unfold State.settleNode
  split <;> simp

@[simp] theorem completeNode_inp (s : State) (a : Active) (b : List Nat) : (s.completeNode a b).inp = s.inp := by
  unfold State.completeNode
  simp

@[simp] theorem refuseActive_inp (s : State) (a : Active) (b : Nat) : (s.refuseActive a b).inp = s.inp := by
  unfold State.refuseActive
  simp

@[simp] theorem treesOk_inp (s : State) (a : Nat) (b : BitVec 14) (c : ImageInfo) : (s.treesOk a b c).1.inp = s.inp := by
  unfold State.treesOk
  simp

@[simp] theorem imageTrees_inp (s : State) (a : Nat) (b : BitVec 14) (c : Option ImageInfo) : (s.imageTrees a b c).1.inp = s.inp := by
  unfold State.imageTrees
  split <;> simp

@[simp] theorem readImage_inp (s : State) (a : Nat) (b : BitVec 14) (c d : Nat) : (s.readImage a b c d).1.inp = s.inp := by
  have e : s.readImage a b c d = (s.cpBlock a b (headerOf c) 64).1.imageTrees a b ((s.cpBlock a b (headerOf c) 64).2.bind fun x => imageInfo x d) := rfl
  rw [e, imageTrees_inp, cpBlock_inp]

@[simp] theorem addEntry_inp (s : State) (a b : Nat) (c : PoolEntry) : (s.addEntry a b c).inp = s.inp := rfl

@[simp] theorem actKernel_inp (s : State) (a : Active) (b : Submission) (c : Region) (d : Bool) : (s.actKernel a b c d).inp = s.inp := by
  suffices h : SameInput s (s.actKernel a b c d) from h.eq
  unfold State.actKernel
  refine sameInput_ite ⟨refuseActive_inp ..⟩ (sameInput_ite ⟨refuseActive_inp ..⟩ ?_)
  have h := readImage_inp s a.req.part b.asid (nodeWord a.w 4) (fieldOf (nodeWord a.w 5) 31 0)
  generalize s.readImage a.req.part b.asid (nodeWord a.w 4) (fieldOf (nodeWord a.w 5) 31 0) = r at h ⊢
  obtain ⟨t, x⟩ := r
  have ht : SameInput s t := ⟨h⟩
  cases x with
  | none => exact ht.trans ⟨refuseActive_inp ..⟩
  | some x =>
    refine sameInput_ite (ht.trans ⟨refuseActive_inp ..⟩) (sameInput_ite (ht.trans ⟨completeNode_inp ..⟩) (sameInput_ite (ht.trans ⟨rfl⟩)
      (sameInput_ite (ht.trans ⟨?_⟩) (sameInput_ite (ht.trans ⟨?_⟩) (ht.trans ⟨?_⟩)))))
    · rw [refuseActive_inp, updRegion_inp, changeRegion_inp]
    · rw [refuseActive_inp, updRegion_inp, putNodeState_inp, changeRegion_inp]
    · rw [addEntry_inp]
      dsimp only
      rw [putNodeState_inp, changeRegion_inp]

@[simp] theorem joinRegion_inp (s : State) (a : Region) (b : Nat) (c : Option Region) : (s.joinRegion a b c).1.inp = s.inp := by
  unfold State.joinRegion
  split
  · simp
  · split <;> simp

@[simp] theorem openRegion_inp (s : State) (a : Nat) (b : BitVec 14) (c : Nat) (d : BitVec 64) : (s.openRegion a b c d).1.inp = s.inp := by
  suffices h : SameInput s (s.openRegion a b c d).1 from h.eq
  induction c generalizing s d with
  | zero => exact .refl s
  | succ n ih =>
    unfold State.openRegion
    split
    · exact .refl s
    · refine sameInput_ite_fst (.refl s) ?_
      have h := cpBlock_inp s a b d.toNat 96
      generalize s.cpBlock a b d.toNat 96 = r at h ⊢
      obtain ⟨t, x⟩ := r
      have ht : SameInput s t := ⟨h⟩
      dsimp only
      split
      · split
        · exact ht
        · next x _ _ _ _ =>
          refine sameInput_ite_fst ht ?_
          have hpar : SameInput s (if BitVec.ofNat 64 (Machine.wordOf x 1) = 0 then (t, none) else t.openRegion a b n (BitVec.ofNat 64 (Machine.wordOf x 1))).1 :=
            sameInput_ite_fst ht (ht.trans (ih ..))
          generalize (if BitVec.ofNat 64 (Machine.wordOf x 1) = 0 then (t, none) else t.openRegion a b n (BitVec.ofNat 64 (Machine.wordOf x 1))) = r at hpar ⊢
          obtain ⟨u, par⟩ := r
          refine sameInput_ite_fst (hpar.trans ?_) ?_
          · cases par with
            | none => exact .refl u
            | some p => exact ⟨tryClose_inp ..⟩
          · exact sameInput_ite_fst (hpar.trans ⟨joinRegion_inp ..⟩) (hpar.trans ⟨(tryClose_inp ..).trans (joinRegion_inp ..)⟩)
      · exact ht.trans ⟨rfl⟩
      · exact ht

@[simp] theorem setActive_inp (s : State) (a b : Active) : (s.setActive a b).inp = s.inp := rfl

@[simp] theorem nodeAct_inp (s : State) (a : Active) (b : Submission) (c : Bool) : (s.nodeAct a b c).inp = s.inp := by
  suffices h : SameInput s (s.nodeAct a b c) from h.eq
  unfold State.nodeAct
  dsimp only
  have h := openRegion_inp s a.req.part a.rasid 16 a.rcb
  generalize s.openRegion a.req.part a.rasid 16 a.rcb = r at h ⊢
  obtain ⟨t, reg⟩ := r
  have ht : SameInput s t := ⟨h⟩
  cases reg with
  | none => exact ht.trans ⟨refuseActive_inp ..⟩
  | some reg =>
    dsimp only
    have hset : SameInput s (t.setActive a { a with rcb := reg.va, rasid := reg.rasid }) := ht.trans ⟨setActive_inp ..⟩
    generalize t.setActive a { a with rcb := reg.va, rasid := reg.rasid } = u at hset ⊢
    refine sameInput_ite (hset.trans ⟨actKernel_inp ..⟩) (sameInput_ite ?_ (sameInput_ite ?_ (sameInput_ite ?_
      (sameInput_ite (hset.trans ⟨completeNode_inp ..⟩) (sameInput_ite ?_ ?_)))))
    all_goals refine hset.trans ?_
    · split
      · exact ⟨(refuseActive_inp ..).trans (cpBlock_inp ..)⟩
      · exact ⟨(completeNode_inp ..).trans (cpBlock_inp ..)⟩
    · generalize hr : (if fieldOf (nodeWord a.w 5) 31 0 = 0 then _ else _ : State × Option Nat) = r
      have hread : SameInput u r.1 := by
        rw [← hr]
        exact sameInput_ite_fst ⟨cpBlock_inp ..⟩ (.refl u)
      cases r.2 with
      | none => exact hread.trans ⟨refuseActive_inp ..⟩
      | some lim => exact sameInput_ite (hread.trans ⟨(completeNode_inp ..).trans (cpWrite_inp ..)⟩) (hread.trans ⟨(refuseActive_inp ..).trans (cpWrite_inp ..)⟩)
    · refine sameInput_ite ⟨?_⟩ ⟨?_⟩
      all_goals simp
    · refine sameInput_ite (sameInput_ite ⟨?_⟩ ⟨?_⟩) ⟨?_⟩
      all_goals simp
    · refine sameInput_ite ⟨?_⟩ ⟨?_⟩
      all_goals simp

@[simp] theorem admitHeld_inp (s : State) (a b : Nat) : (s.admitHeld a b).inp = s.inp := by
  induction b generalizing s with
  | zero => rfl
  | succ n ih =>
    unfold State.admitHeld
    split
    · rfl
    · dsimp only
      split
      · rfl
      · rw [ih]
        split <;> simp

@[simp] theorem admitFull_inp (s : State) (a : Nat) : (s.admitFull a).inp = s.inp := by
  unfold State.admitFull
  simp

@[simp] theorem dropRounds_inp (s : State) : s.dropRounds.inp = s.inp := rfl

@[simp] theorem updWave_inp (s : State) (a : Nat) (b : BitVec 64) (c : Wave → Wave) : (s.updWave a b c).inp = s.inp := rfl

@[simp] theorem tasksGone_inp (s : State) (a : Nat) (b : BitVec 64) (c : Nat) : (s.tasksGone a b c).inp = s.inp := by
  unfold State.tasksGone
  dsimp only
  repeat' split
  all_goals simp

@[simp] theorem updUp_inp (s : State) (a : Nat) (b : BitVec 14) (c : Region → Region) (d : Nat) (e : BitVec 64) : (s.updUp a b c d e).inp = s.inp := by
  induction d generalizing s b e with
  | zero => rfl
  | succ n ih =>
    unfold State.updUp
    split
    · rfl
    · simp [ih]

@[simp] theorem stopTask_inp (s : State) (a : Binding) (b : BitVec 16) : (s.stopTask a b).inp = s.inp := by
  unfold State.stopTask
  simp

@[simp] theorem failWave_inp (s : State) (a : Nat) (b : BitVec 64) (c : Bool) : (s.failWave a b c).inp = s.inp := by
  unfold State.failWave
  split <;> rfl

@[simp] theorem endRec_inp (s : State) (a : TaskRec) (b : BitVec 16) : (s.endRec a b).inp = s.inp := by
  unfold State.endRec
  simp

@[simp] theorem killRecs_inp (s : State) (a : List TaskRec) (b : BitVec 16) : (s.killRecs a b).1.inp = s.inp := by
  unfold State.killRecs
  simp

@[simp] theorem killUnbound_inp (s : State) (a : Wave) (b : BitVec 16) : (s.killUnbound a b).inp = s.inp := by
  unfold State.killUnbound
  dsimp only
  rw [ite_inp, tasksGone_inp, updWave_inp, foldl_inp (fun t i => post_inp ..), killRecs_inp, ite_self]

@[simp] theorem killTask_inp (s : State) (a : Binding) (b : BitVec 16) : (s.killTask a b).inp = s.inp := by
  unfold State.killTask
  dsimp only
  rw [ite_inp, failWave_inp, stopTask_inp, admitFull_inp, foldl_inp, foldl_inp, foldl_inp, failWave_inp, foldl_inp, stopTask_inp, ite_self]
  · intro t x
    simp
  · intro t x
    simp
  · intro t x
    split <;> simp
  · intro t x
    split <;> simp

@[simp] theorem killCore_inp (s : State) (a : BitVec 8) (b : BitVec 16) : (s.killCore a b).inp = s.inp := by
  unfold State.killCore
  split <;> simp

@[simp] theorem engineLost_inp (s : State) (a : BitVec 8) (b : Nat) (c : PAddr) : (s.engineLost a b c).inp = s.inp := by
  unfold State.engineLost
  split
  · split <;> simp
  · rfl

@[simp] theorem placeBlk_inp (s : State) (a : Nat) (b : PAddr) (c : Nat) : (s.placeBlk a b c).1.inp = s.inp := by
  unfold State.placeBlk
  split
  · dsimp only
    split
    · rfl
    · split <;> simp
  · rfl

end Sys2Proof.Proofs

/-! SUPPORT. The engines' events: what each does once its accesses are served and nothing holds it (10 R215-R225, 09 R192-R204, 03 R75). -/

namespace Sys2Proof.Proofs

open Sys2Proof Sys2Proof.Machine Sys2Proof.Laws Sys2Proof.Claims

section
variable {s t : State}

/-! ## Operations -/

/-- The operation that an event names has the number it names. -/
theorem op_id {k : Core} {id : Nat} {o : EngineOp} (h : k.op id = some o) : o.id = id := by
  unfold Core.op at h
  simpa using List.find?_some h

theorem op_of_event {o : EngineOp} (h : s.eventOp = some o) : (s.core s.inp.c).op o.id = some o := by
  unfold State.eventOp at h
  rw [op_id h, h]

/-- An operation whose places are served does its work and completes. -/
theorem finishOp_goesOn {c : BitVec 8} {o : EngineOp} (vc : Nat) {places : List Spot × List Spot} {work : State → State × EngFault}
    (h : workGoesOn s c o.id 0 places.1 (places.2 ++ s.beaconPlaces c o) (fun u => (work u).1.completeOp c o (work u).2) t) :
    s.finishOp c o vc places work = t := withAccess_goesOn vc h

theorem exec_complete_copy {o : EngineOp} (ho : s.eventOp = some o) (hstart : (s.core s.inp.c).mayStart o = true)
    (hname : o.name = .cpy ∨ o.name = .cpym ∨ o.name = .fill ∨ o.name = .bulk) : exec .engineComplete s = .next (s.copyDone s.inp.c o) := by
  show execEngineComplete s = _
  rw [execEngineComplete]
  simp only [ho, hstart, Bool.not_true, Bool.false_eq_true, if_false]
  rcases hname with h | h | h | h <;> rw [h]

theorem list_known {o : EngineOp} (h : o.list.isSome = true) : o.list.isNone = false := by
  rw [← Option.not_isSome, h]
  rfl

theorem exec_complete_scat {o : EngineOp} (ho : s.eventOp = some o) (hstart : (s.core s.inp.c).mayStart o = true) (hname : o.name = .scat)
    (hlist : o.list.isSome = true) :
    exec .engineComplete s = .next (s.finishOp s.inp.c o 0 ([], s.scatPlaces s.inp.c o) fun u => u.runScat s.inp.c o) := by
  show execEngineComplete s = _
  rw [execEngineComplete]
  simp only [ho, hstart, Bool.not_true, Bool.false_eq_true, if_false, hname, State.scatDone, list_known hlist, op_of_event ho]

theorem exec_complete_over {o : EngineOp} (ho : s.eventOp = some o) (hstart : (s.core s.inp.c).mayStart o = true)
    (hname : (o.name = .gath ∧ o.settled = true) ∨ ((o.name = .rpkX ∨ o.name = .rpkF ∨ o.name = .bankld ∨ o.name = .bankgo) ∧ o.done = true)) :
    exec .engineComplete s = .next (s.overOp s.inp.c o) := by
  show execEngineComplete s = _
  rw [execEngineComplete]
  simp only [ho, hstart, Bool.not_true, Bool.false_eq_true, if_false]
  rcases hname with ⟨h, hs⟩ | ⟨h | h | h | h, hd⟩ <;> rw [h] <;> dsimp only
  · rw [if_pos hs]
  all_goals rw [State.doneOp, if_pos hd]

theorem exec_gatherRow {o : EngineOp} (ho : s.eventOp = some o) (hstart : (s.core s.inp.c).mayStart o = true) (hname : o.name = .gath)
    (hent : s.inp.p < (gatherDesc o.snap.d).nent) (hrow : o.rows.contains s.inp.p = false) (hlist : o.list.isSome = true)
    (h : workGoesOn s s.inp.c o.id (s.inp.p + 1) (s.gatherPlaces s.inp.c o s.inp.p) [] (fun u => u.gatherRow s.inp.c o s.inp.p) t) :
    exec .gatherRowLand s = .next t := by
  show execGatherRowLand s = _
  rw [execGatherRowLand]
  simp only [ho]
  rw [if_pos ⟨hname, hstart, hent, hrow⟩, State.settleRow]
  simp only [list_known hlist, Bool.false_eq_true, if_false, op_of_event ho]
  rw [withAccess_goesOn 0 h]

/-! ## The M unit -/

/-- An M operation that may begin, with neither poison nor a bad residue among what it reads. -/
theorem startBag_clean {c : BitVec 8} {o : EngineOp} (hport : o.port = 3) (hdone : o.done = false) (hdue : (s.core c).bagDue o = true)
    (hbag : o.isBag = true → (s.core c).bagComplete o = true) (hpsn : s.opPoison c o = none)
    (hres : ((readRows o).any fun w => (s.core c).residueBad w) = false) :
    s.startBag c o = (s.bagWork c o).updCore c fun x => ({ x with pool := { x.pool with bad := badAfter o x.pool.bad } } : Core).updOp o.id fun q =>
      { q with done := true, occ := (s.core c).holdsFor q, wait := max q.wait ((s.core c).tokenCycle q + 1) } := by
  unfold State.startBag
  dsimp only
  rw [if_neg (by simp [hdone, hport, hdue]; exact hbag), hres, hpsn]
  rfl

theorem exec_mOperation {o : EngineOp} (ho : s.eventOp = some o) : exec .mOperationComplete s = .next (s.startBag s.inp.c o) := by
  show execMOperationComplete s = _
  rw [execMOperationComplete, ho]

/-- One whose token's cycle has come completes. -/
theorem bagTick_ends {c : BitVec 8} {id : Nat} {o : EngineOp} (ho : (s.core c).op id = some o) (hport : o.port = 3) (hdone : o.done = true)
    (hheld : o.held = false) (hwait : o.wait ≤ 1) (h : workGoesOn s c o.id 0 [] (s.beaconPlaces c o)
      (fun u => if (checkedRows o).any fun w => (u.core c).residueBad w then (u.completeOp c o none).residueFault c else u.completeOp c o none) t) :
    s.bagTick c id = t.updCore c fun x => x.updOp id fun o => { o with wait := 0 } := by
  have hend : o.ending = true := by simp [EngineOp.ending, hport, hdone, hheld, hwait]
  unfold State.bagTick
  rw [ho]
  dsimp only
  rw [if_pos hend, State.endBag, withAccess_goesOn 0 h]

theorem exec_streams {o : EngineOp} (ho : s.eventOp = some o) (hrow : (s.core s.inp.c).rowDue o s.inp.p = true)
    (hpsn : ((s.core s.inp.c).pool.bad.any fun b => itemIn b [(4, bagFirst o + s.inp.p, bagFirst o + s.inp.p), activeGranules]) = false) :
    exec .bagRowStream s = .next (s.setCore s.inp.c ((s.core s.inp.c).streamBag o s.inp.p)) := by
  show execBagRowStream s = _
  rw [execBagRowStream]
  simp only [ho]
  rw [if_pos hrow, State.streamRow]
  rw [hpsn, Bool.and_false, if_neg Bool.false_ne_true, State.updCore]

/-! ## The scoreboard -/

theorem fillBlock_input (u : State) (c : BitVec 8) (home : PAddr) : (u.fillBlock c home).1.inp = u.inp := by
  have hread : (u.fillRead c home).1.inp = u.inp := by
    unfold State.fillRead
    split
    · exact logError_inp ..
    · exact placeBlk_inp ..
  unfold State.fillBlock
  generalize u.fillRead c home = r at hread ⊢
  obtain ⟨v, x⟩ := r
  cases x with
  | none => exact (coreError_inp ..).trans ((engineLost_inp ..).trans hread)
  | some b => exact hread

/-- A fill whose window stands gives the block that is read. -/
theorem fillBlock_read {u v : State} {c : BitVec 8} {home : PAddr} {b : Blk} (hgate : u.fillRefused c home = none)
    (hread : u.placeBlk (u.partOfCore c) home 4096 = (v, some b)) : u.fillBlock c home = (v, b) := by
  unfold State.fillBlock State.fillRead
  rw [hgate]
  dsimp only
  rw [hread]

/-- What acts in states of the turn's own position may be said of those alone. -/
theorem columnsServed_position {who : Requester} {p : Nat} {reads writes : List (PAddr × Nat)} {f g : State → State}
    (h : ∀ u : State, u.inp.p = s.inp.p → g u = f u) (hf : columnsServed s who p reads writes f t) : columnsServed s who p reads writes g t := by
  rcases hf with ⟨a, hask, hserved, hheld, hnext, rfl⟩ | ⟨hask, hcols, hreads, hwrites, rfl⟩
  · refine .inl ⟨a, hask, hserved, hheld, hnext, ?_⟩
    unfold State.underAsk State.underWindows
    dsimp only
    rw [h _ (by show ((s.farHeard a).dropAsk who).inp.p = _; rw [dropAsk_inp, farHeard_inp])]
  · exact .inr ⟨hask, hcols, hreads, hwrites, (h s rfl).symm⟩

/-- A core whose fill at position `i` of its scoreboard has brought block `b` for the way `key`. -/
def filledWay (e : SbEntry) (w : TagEntry) (key i : Nat) (k : Core) (b : Blk) : Core :=
  let x := (k.spPut e.lo 4096 (if w.inv then b else { b with x := k.overlay e.op 0 w.home 4096 b.x })).dropEntry i
  let way : TagEntry := if w.drop then Init.tagEntry else { w with st := 2, dirty := false }
  { x with pool := { x.pool with tagt := mapSet Init.tagEntry x.pool.tagt key way } }

theorem exec_fills {e : SbEntry} {key : Nat} (he : (s.core s.inp.c).sb[s.inp.p]? = some e) (hslot : e.slot = some key) (hhome : e.home = none)
    {w : TagEntry} (hw : w = mapGet Init.tagEntry (s.core s.inp.c).pool.tagt key) (hready : (s.core s.inp.c).fillReady e.op w.inv w.home = true)
    (h : workGoesOn s s.inp.c e.op 0 [(some w.home, 4096)] [] (fun u => (u.fillBlock s.inp.c w.home).1.updCore s.inp.c fun k =>
      filledWay e w key s.inp.p k (u.fillBlock s.inp.c w.home).2) t) : exec .cacheFillComplete s = .next t := by
  obtain ⟨hknown, hfree, hdirs, hserved⟩ := h
  have hfills (u : State) : (u.fillBlock s.inp.c w.home).1.inp = u.inp := fillBlock_input ..
  show execCacheFillComplete s = _
  rw [execCacheFillComplete]
  simp only [he, hslot, hhome, ← hw, hready, Bool.not_true, Bool.false_eq_true, if_false]
  refine congrArg _ (withAccess_goesOn 0 ⟨hknown, hfree, hdirs, columnsServed_position (fun u hu => ?_) hserved⟩)
  rw [hfills, hu]
  rfl

theorem exec_retires_back {e : SbEntry} {key : Nat} {home : PAddr} (he : (s.core s.inp.c).sb[s.inp.p]? = some e) (hslot : e.slot = some key)
    (hhome : e.home = some home) :
    exec .scoreboardEntryRetire s = .next (s.setCore s.inp.c ((s.core s.inp.c).sendWriteBack s.inp.p key home e.lo e.op)) := by
  show execScoreboardEntryRetire s = _
  rw [execScoreboardEntryRetire]
  simp only [he, hslot, hhome, State.updCore]

theorem exec_retires_op {e : SbEntry} {o : EngineOp} (he : (s.core s.inp.c).sb[s.inp.p]? = some e) (hslot : e.slot = none)
    (ho : (s.core s.inp.c).op e.op = some o) : exec .scoreboardEntryRetire s = .next (s.retireEntry s.inp.c o s.inp.p e) := by
  show execScoreboardEntryRetire s = _
  rw [execScoreboardEntryRetire]
  simp only [he, hslot, ho]

end

/-! ## O41 -/

/-- Settles O41: an engine's event acts once its accesses are served; what a fill's block passes through leaves the turn's input, so the entry that is
dropped is the one the event names. -/
theorem engineEvents : Obligations.EngineEvents := by
  unfold Obligations.EngineEvents
  intro s c k
  refine ⟨fun o ho hstart => ⟨fun hname t h => ?_, fun hname hlist t h => ?_, fun hname => ⟨fun hfault => ?_, fun hfault t h => ?_⟩,
      fun hname hent hrow hlist t h => exec_gatherRow ho hstart hname hent hrow hlist h⟩,
    fun o ho hport => ⟨fun hdone hdue hbag hpsn hres => ?_, fun hop hdone hheld hwait t h => bagTick_ends hop hport hdone hheld hwait h⟩,
    fun o ho hrow hpsn => exec_streams ho hrow hpsn,
    fun e key he hslot hhome hready => ⟨fun w h => exec_fills he hslot hhome rfl hready h, fun u v b hgate hread => fillBlock_read hgate hread⟩,
    fun e he => ⟨fun key home hslot hhome => exec_retires_back he hslot hhome, fun o hslot ho => exec_retires_op he hslot ho⟩⟩
  · unfold Becomes
    rw [exec_complete_copy ho hstart hname, State.copyDone, finishOp_goesOn 3 h]
  · unfold Becomes
    rw [exec_complete_scat ho hstart hname hlist, finishOp_goesOn 0 h]
  · unfold Becomes
    rw [exec_complete_over ho hstart hname, State.overOp, if_pos hfault]
  · unfold Becomes
    rw [exec_complete_over ho hstart hname, State.overOp, if_neg (by rw [hfault]; exact Bool.false_ne_true), finishOp_goesOn 0 h]
  · unfold Becomes
    rw [exec_mOperation ho, startBag_clean hport hdone hdue hbag hpsn hres]

end Sys2Proof.Proofs

/-! SUPPORT. What a turn has drawn as its input stays as it is through accesses, the engines' work and the reset of a bulkhead (log 2, 17 R336). -/

namespace Sys2Proof.Proofs

open Sys2Proof Sys2Proof.Machine Sys2Proof.Laws Sys2Proof.Claims

theorem foldl_view_inp {α β : Type} (g : α → State) {f : α → β → α} (hf : ∀ a x, (g (f a x)).inp = (g a).inp) (l : List β) (a : α) :
    (g (l.foldl f a)).inp = (g a).inp := by
  induction l generalizing a with
  | nil => rfl
  | cons x l ih => rw [List.foldl_cons, ih, hf]

theorem sameInput_foldl {β : Type} {f : State → β → State} (hf : ∀ t x, SameInput t (f t x)) (l : List β) (s : State) : SameInput s (l.foldl f s) :=
  ⟨foldl_inp (fun t x => (hf t x).eq) l s⟩

theorem inp_ite {c : Prop} [Decidable c] {s t u : State} (ht : t.inp = s.inp) (hu : u.inp = s.inp) : (if c then t else u).inp = s.inp := by
  split
  · exact ht
  · exact hu

@[simp] theorem consume_inp (s : State) (a : BitVec 8) (b c d : Nat) : (s.consume a b c d).inp = s.inp := by
  unfold State.consume
  simp

@[simp] theorem killAway_inp (s : State) (a : Nat) (b : BitVec 64) (c : Nat) (d : BitVec 16) : (s.killAway a b c d).inp = s.inp := by
  unfold State.killAway
  split
  · simp
  · split <;> simp

@[simp] theorem walkPoison_inp (s : State) (a : BitVec 8) (b : Nat) : (s.walkPoison a b).inp = s.inp := by
  unfold State.walkPoison
  simp

@[simp] theorem corePut_inp (s : State) (a : BitVec 8) (b c d : Nat) : (s.corePut a b c d).inp = s.inp := by
  suffices h : SameInput s (s.corePut a b c d) from h.eq
  unfold State.corePut
  refine sameInput_foldl (fun t p => ?_) _ _
  cases hx : t.xlateCore a .readWrite p.1 with
  | ok place =>
    cases place with
    | stack pa => exact sameInput_ite (.refl t) ⟨put_inp ..⟩
    | fabric _ _ => exact .refl t
  | held => exact ⟨waits_inp ..⟩
  | stopped pa => exact ⟨gateStops_inp ..⟩
  | fault n => exact .refl t
  | poison pa => exact .refl t

@[simp] theorem reportTrap_inp (s : State) (a : BitVec 8) (b : Trap) (c : BitVec 64) : (s.reportTrap a b c).inp = s.inp := by
  unfold State.reportTrap
  dsimp only
  split <;> simp

@[simp] theorem trapKill_inp (s : State) (a : BitVec 8) (b : Trap) (c : BitVec 64) : (s.trapKill a b c).inp = s.inp := by
  unfold State.trapKill
  split <;> simp

@[simp] theorem deferFault_inp (s : State) (a : BitVec 8) (b : Deferred) : (s.deferFault a b).inp = s.inp := by
  unfold State.deferFault
  simp

@[simp] theorem updLaunchOps_inp (s : State) (a : BankLaunch) (b : List EngineOp → List EngineOp) : (s.updLaunchOps a b).inp = s.inp := by
  unfold State.updLaunchOps
  split <;> simp

@[simp] theorem killLaunch_inp (s : State) (a : BankLaunch) (b : BitVec 16) : (s.killLaunch a b).inp = s.inp := by
  unfold State.killLaunch
  split <;> simp

@[simp] theorem sendOn_inp (s : State) (a b c : Nat) : (s.sendOn a b c).inp = s.inp := by
  unfold State.sendOn
  simp

@[simp] theorem answerFlit_inp (s : State) (a : Nat) (b : Option (Nat × Bool)) (c : Nat) : (s.answerFlit a b c).inp = s.inp := by
  unfold State.answerFlit
  exact foldl_inp (fun t i => sendOn_inp ..) _ _

@[simp] theorem enter_inp (s : State) (a : Requester) (b : Nat × Bool) : (s.enter a b).inp = s.inp := by
  unfold State.enter
  simp

@[simp] theorem enterAll_inp (s : State) (a : Requester) (b : Nat) (c : List (Nat × Bool)) : (s.enterAll a b c).1.inp = s.inp := by
  induction c generalizing s with
  | nil => rfl
  | cons x rest ih =>
    unfold State.enterAll
    split
    · rw [ih, enter_inp]
    · rfl

@[simp] theorem setOwn_inp (s : State) (a : BitVec 64) : (s.setOwn a).inp = s.inp := by
  unfold State.setOwn
  simp

@[simp] theorem gain_inp (s : State) (a : Nat) (b : GotCol) : (s.gain a b).inp = s.inp := by
  unfold State.gain
  simp

@[simp] theorem hearFar_inp (s : State) (a : Ask) : (s.hearFar a).inp = s.inp := by
  unfold State.hearFar
  split
  · rfl
  · exact farHeard_inp ..

@[simp] theorem retryAsk_inp (s : State) (a : Ask) : (s.retryAsk a).inp = s.inp := by
  unfold State.retryAsk
  simp

@[simp] theorem sendFar_inp (s : State) (a : Requester) (b c : List FarReq) : (s.sendFar a b c).inp = s.inp := by
  unfold State.sendFar
  refine foldl_inp (fun t f => ?_) _ _
  split
  · exact sendOn_inp ..
  · rfl

@[simp] theorem newAsk_inp (s : State) (a : Requester) (b : Nat) (c : List (Nat × Bool)) (d e : List FarReq) : (s.newAsk a b c d e).inp = s.inp := by
  unfold State.newAsk
  simp

@[simp] theorem sendNext_inp (s : State) (a : Ask) : (s.sendNext a).inp = s.inp := by
  unfold State.sendNext
  simp

@[simp] theorem underAsk_inp (s : State) (a : Ask) (f : State → State) : (s.underAsk a f).inp = s.inp := rfl

@[simp] theorem withColumns_inp {f : State → State} (hf : ∀ t, (f t).inp = t.inp) (s : State) (who : Requester) (vc p : Nat) (reads writes : List (PAddr × Nat)) :
    (s.withColumns who vc p reads writes f).inp = s.inp := by
  unfold State.withColumns
  split
  · refine inp_ite ((retryAsk_inp ..).trans (hearFar_inp ..)) (inp_ite (sendNext_inp ..) ?_)
    rw [underAsk_inp, dropAsk_inp, farHeard_inp]
  · exact inp_ite (hf s) (newAsk_inp ..)

@[simp] theorem withAccess_inp {f : State → State} (hf : ∀ t, (f t).inp = t.inp) (s : State) (c : BitVec 8) (id part vc : Nat) (reads writes : List Spot) :
    (s.withAccess c id part vc reads writes f).inp = s.inp := by
  unfold State.withAccess
  simp [hf]

@[simp] theorem arrivals_inp (s : State) (a : BitVec 8) (b : EngineOp) : (s.arrivals a b).inp = s.inp := by
  unfold State.arrivals
  dsimp only
  split
  · rfl
  · split
    · exact updCore_inp ..
    · split
      · exact (foldl_inp (fun t p => updCore_inp ..) _ _).trans (updCore_inp ..)
      · exact updCore_inp ..

@[simp] theorem beaconAdd_inp (s : State) (a : BitVec 8) (b : EngineOp) (c : PAddr) (d : Nat) : (s.beaconAdd a b c d).1.inp = s.inp := by
  unfold State.beaconAdd
  simp

@[simp] theorem beacon_inp (s : State) (a : BitVec 8) (b : EngineOp) : (s.beacon a b).1.inp = s.inp := by
  suffices h : SameInput s (s.beacon a b).1 from h.eq
  unfold State.beacon
  refine sameInput_ite_fst (.refl s) (sameInput_ite_fst ?_ ?_)
  · exact sameInput_ite ⟨(consume_inp ..).trans (setCore_inp ..)⟩ ⟨setCore_inp ..⟩
  · split
    · exact .refl s
    · exact ⟨gateStops_inp ..⟩
    · exact ⟨waits_inp ..⟩
    · exact ⟨walkPoison_inp ..⟩
    · exact sameInput_ite_fst ⟨updCore_inp ..⟩ ⟨beaconAdd_inp ..⟩

@[simp] theorem leaveOp_inp (s : State) (a : BitVec 8) (b : EngineOp) (c : EngFault) : (s.leaveOp a b c).inp = s.inp := by
  unfold State.leaveOp
  dsimp only
  split <;> simp

@[simp] theorem completeOp_inp (s : State) (a : BitVec 8) (b : EngineOp) (c : EngFault) : (s.completeOp a b c).inp = s.inp := by
  unfold State.completeOp
  split <;> simp

@[simp] theorem globalBlk_inp (s : State) (a : BitVec 8) (b c d : Nat) : (s.globalBlk a b c d).1.inp = s.inp := by
  unfold State.globalBlk
  refine foldl_fst_inp (fun t p => ?_) _ _
  dsimp only
  split
  · next place _ =>
    have h := placeBlk_inp t.1 (t.1.partOfCore a) place p.2
    generalize t.1.placeBlk (t.1.partOfCore a) place p.2 = r at h ⊢
    obtain ⟨u, x⟩ := r
    cases x with
    | none => exact (engineLost_inp ..).trans h
    | some q => exact h
  · rfl
  · exact gateStops_inp ..
  · rfl
  · exact walkPoison_inp ..

@[simp] theorem putFlit_inp (s : State) (a b c d : Nat) (e : Bool) : (s.putFlit a b c d e).inp = s.inp := by
  unfold State.putFlit
  simp

@[simp] theorem putPlace_inp (s : State) (a : Nat) (b : PAddr) (c : Nat) (d : Blk) : (s.putPlace a b c d).1.inp = s.inp := by
  unfold State.putPlace
  split <;> simp

@[simp] theorem globalPut_inp (s : State) (a : BitVec 8) (b c d : Nat) (e : Blk) : (s.globalPut a b c d e).1.inp = s.inp := by
  unfold State.globalPut
  refine foldl_fst_inp (fun t p => ?_) _ _
  dsimp only
  split
  · rfl
  · split
    · dsimp only
      split
      · exact putPlace_inp ..
      · exact (engineLost_inp ..).trans (putPlace_inp ..)
    · rfl
    · exact gateStops_inp ..
    · rfl
    · exact walkPoison_inp ..

@[simp] theorem globalRowPut_inp (s : State) (a : BitVec 8) (b c : Nat) (d : Blk) : (s.globalRowPut a b c d).1.inp = s.inp := by
  unfold State.globalRowPut
  split <;> simp

@[simp] theorem spaceBlk_inp (s : State) (a : BitVec 8) (b : EngineOp) (c d e f : Nat) : (s.spaceBlk a b c d e f).1.inp = s.inp := by
  unfold State.spaceBlk
  simp

@[simp] theorem spacePut_inp (s : State) (a : BitVec 8) (b c d e : Nat) (f : Blk) : (s.spacePut a b c d e f).1.inp = s.inp := by
  unfold State.spacePut
  simp

@[simp] theorem putRow_inp (s : State) (a : BitVec 8) (b : EngineOp) (c d e : Nat) (f : Blk) (g : List (Nat × Nat)) (h : EngFault) : (s.putRow a b c d e f g h).1.inp = s.inp := by
  unfold State.putRow
  simp

@[simp] theorem moveRows_inp (s : State) (a : BitVec 8) (b : EngineOp) (c : CopyDesc) (d e : Nat) (f : List (Nat × Nat)) : (s.moveRows a b c d e f).1.inp = s.inp := by
  unfold State.moveRows
  refine foldl_view_inp (fun a : (State × EngFault) × EngineOp => a.1.1) (fun t i => ?_) _ _
  exact (putRow_inp ..).trans (spaceBlk_inp ..)

@[simp] theorem runCopy_inp (s : State) (a : BitVec 8) (b : EngineOp) : (s.runCopy a b).1.inp = s.inp := by
  unfold State.runCopy
  split <;> simp

@[simp] theorem readEntry_inp (s : State) (a : BitVec 8) (b : EngineOp) (c : Nat) : (s.readEntry a b c).1.inp = s.inp := by
  unfold State.readEntry
  dsimp only
  split <;> simp

@[simp] theorem listEntry_inp (s : State) (a : BitVec 8) (b : EngineOp) (c : Nat) : (s.listEntry a b c).1.inp = s.inp := by
  unfold State.listEntry
  split <;> simp

@[simp] theorem gatherWalk_inp (s : State) (a : BitVec 8) (b : EngineOp) (c : Nat) : (s.gatherWalk a b c).1.inp = s.inp := by
  unfold State.gatherWalk
  dsimp only
  split <;> simp

@[simp] theorem walkList_inp (s : State) (a : BitVec 8) (b : EngineOp) : (s.walkList a b).inp = s.inp := by
  unfold State.walkList
  dsimp only
  split
  · rfl
  · refine foldl_inp (fun t e => ?_) _ _
    split
    · rfl
    · split
      · rfl
      · exact foldl_inp (fun t p => gatherWalk_inp ..) _ _

@[simp] theorem readList_inp (s : State) (a : BitVec 8) (b : EngineOp) : (s.readList a b).inp = s.inp := by
  unfold State.readList
  dsimp only
  split <;> simp

@[simp] theorem runScat_inp (s : State) (a : BitVec 8) (b : EngineOp) : (s.runScat a b).1.inp = s.inp := by
  unfold State.runScat
  refine foldl_view_inp (fun a : (State × EngFault) × EngineOp => a.1.1) (fun t i => ?_) _ _
  dsimp only
  have h := listEntry_inp t.1.1 a t.2 i
  generalize t.1.1.listEntry a t.2 i = r at h ⊢
  obtain ⟨u, x⟩ := r
  dsimp only at h ⊢
  split
  · exact h
  · exact h
  · split
    · exact h
    · split
      · exact h
      · dsimp only
        split
        · exact (globalRowPut_inp ..).trans h
        · exact (spacePut_inp ..).trans h

@[simp] theorem updRound_inp (s : State) (a b c : Nat) (d : Round → Round) : (s.updRound a b c d).inp = s.inp := by
  unfold State.updRound
  simp

@[simp] theorem finishPackets_inp (s : State) (a : Nat) (b : List Packet) (c : EngFault) : (s.finishPackets a b c).inp = s.inp := by
  unfold State.finishPackets
  refine foldl_inp (fun t j => foldl_inp (fun u p => ?_) _ _) _ _
  dsimp only
  split
  · exact (completeOp_inp ..).trans (updCore_inp ..)
  · exact updCore_inp ..

@[simp] theorem dropRound_inp (s : State) (a b c d : Nat) : (s.dropRound a b c d).inp = s.inp := by
  unfold State.dropRound
  simp

@[simp] theorem rootWrite_inp (s : State) (a b : Nat) (c : Round) (d : Packet) (e : List (BitVec 32)) (f : FFlags) : (s.rootWrite a b c d e f).inp = s.inp := by
  unfold State.rootWrite
  dsimp only
  repeat' split
  all_goals simp

@[simp] theorem finishRoot_inp (s : State) (a b : Nat) (c : Round) (d : Packet) : (s.finishRoot a b c d).inp = s.inp := by
  unfold State.finishRoot
  simp

@[simp] theorem tryRoot_inp (s : State) (a b c d : Nat) : (s.tryRoot a b c d).inp = s.inp := by
  unfold State.tryRoot
  split
  · simp
  · split <;> simp

@[simp] theorem residueFault_inp (s : State) (a : BitVec 8) : (s.residueFault a).inp = s.inp := by
  unfold State.residueFault
  simp

@[simp] theorem endBag_inp (s : State) (a : BitVec 8) (b : EngineOp) : (s.endBag a b).inp = s.inp := by
  unfold State.endBag
  simp

@[simp] theorem finishOp_inp {work : State → State × EngFault} (hf : ∀ t, (work t).1.inp = t.inp) (s : State) (c : BitVec 8) (o : EngineOp) (vc : Nat)
    (places : List Spot × List Spot) : (s.finishOp c o vc places work).inp = s.inp := by
  unfold State.finishOp
  simp [hf]

@[simp] theorem copyDone_inp (s : State) (a : BitVec 8) (b : EngineOp) : (s.copyDone a b).inp = s.inp := by
  unfold State.copyDone
  simp

@[simp] theorem overOp_inp (s : State) (a : BitVec 8) (b : EngineOp) : (s.overOp a b).inp = s.inp := by
  unfold State.overOp
  simp

@[simp] theorem doneOp_inp (s : State) (a : BitVec 8) (b : EngineOp) : (s.doneOp a b).inp = s.inp := by
  unfold State.doneOp
  simp

@[simp] theorem scatDone_inp (s : State) (a : BitVec 8) (b : EngineOp) : (s.scatDone a b).inp = s.inp := by
  unfold State.scatDone
  dsimp only
  split
  · split <;> simp
  · simp

@[simp] theorem applyAtomic_inp (s : State) (a : BitVec 8) (b : MemReq) : (s.applyAtomic a b).inp = s.inp := by
  unfold State.applyAtomic
  split <;> simp

@[simp] theorem resetAbort_inp (s : State) (a : BitVec 8) (b : MemReq) : (s.resetAbort a b).inp = s.inp := by
  unfold State.resetAbort
  simp

@[simp] theorem loseLaunch_inp (s : State) (a : BankLaunch) : (s.loseLaunch a).inp = s.inp := by
  unfold State.loseLaunch
  simp

@[simp] theorem answer_inp (s : State) (a : BitVec 8) (b : Nat) : (s.answer a b).inp = s.inp := by
  unfold State.answer
  simp

@[simp] theorem refuseBind_inp (s : State) (a : BitVec 8) (b : Nat) : (s.refuseBind a b).inp = s.inp := by
  unfold State.refuseBind
  simp

@[simp] theorem answerDisplace_inp (s : State) (a : Binding) (b : Nat) : (s.answerDisplace a b).inp = s.inp := by
  unfold State.answerDisplace
  simp

@[simp] theorem unbind_inp (s : State) (a : Binding) : (s.unbind a).inp = s.inp := by
  unfold State.unbind
  exact (dropRounds_inp ..).trans ((foldl_inp (fun t c => updCore_inp ..) _ _).trans (updUp_inp ..))

@[simp] theorem freeTask_inp (s : State) (a : Binding) : (s.freeTask a).inp = s.inp := by
  unfold State.freeTask
  simp

@[simp] theorem fenceTask_inp (s : State) (a : Binding) (b : Nat) : (s.fenceTask a b).inp = s.inp := by
  unfold State.fenceTask
  simp

@[simp] theorem endKilled_inp (s : State) (a : Binding) (b : Nat) (c : BitVec 16) : (s.endKilled a b c).inp = s.inp := by
  unfold State.endKilled
  simp

@[simp] theorem endRetired_inp (s : State) (a : Binding) (b : Nat) : (s.endRetired a b).inp = s.inp := by
  unfold State.endRetired
  simp

@[simp] theorem sendAway_inp (s : State) (a : BitVec 8) (b : Nat × BitVec 64 × Nat × Nat) : (s.sendAway a b).inp = s.inp := by
  unfold State.sendAway
  simp

@[simp] theorem leaveDying_inp (s : State) (a : Binding) (b : Nat) (c : BitVec 16) : (s.leaveDying a b c).inp = s.inp := by
  unfold State.leaveDying
  simp

@[simp] theorem dropCaches_inp (s : State) (a : List Nat) : (s.dropCaches a).inp = s.inp := by
  unfold State.dropCaches
  simp

@[simp] theorem endReset_inp (s : State) (a : Binding) : (s.endReset a).inp = s.inp := by
  unfold State.endReset
  dsimp only
  split <;> simp

@[simp] theorem requeue_inp (s : State) (a : ColReq → Option Requester) : (s.requeue a).inp = s.inp := by
  unfold State.requeue
  simp

@[simp] theorem passOn_inp (s : State) (a : BitVec 8) (b : MemReq) : (s.passOn a b).inp = s.inp := by
  unfold State.passOn
  simp

@[simp] theorem passWork_inp {run : State → State} (hf : ∀ t, (run t).inp = t.inp) (s : State) (a : Ask) : (s.passWork a run).inp = s.inp := by
  unfold State.passWork
  simp [hf]

@[simp] theorem workTurn_inp (s : State) (a : BitVec 8) (b : Nat) : (s.workTurn a b).inp = s.inp := by
  unfold State.workTurn
  split
  · rfl
  · refine inp_ite (endBag_inp ..) (inp_ite (tryRoot_inp ..) ?_)
    split <;> rfl

@[simp] theorem finishSent_inp (s : State) (a : BitVec 8) : (s.finishSent a).inp = s.inp := by
  suffices h : SameInput s (s.finishSent a) from h.eq
  unfold State.finishSent
  have hend (u : State) (g : Core → Core) (l : List Ask) : SameInput u { u.updCore a g with asks := l } := ⟨rfl⟩
  refine SameInput.trans ?_ (hend _ _ _)
  refine SameInput.trans ?_ ⟨requeue_inp ..⟩
  refine SameInput.trans ?_ (sameInput_foldl (fun t o => ?_) _ _)
  · exact (sameInput_foldl (fun t r => ⟨passOn_inp ..⟩) _ _).trans (sameInput_foldl (fun t r => ⟨applyAtomic_inp ..⟩) _ _)
  · split
    · exact ⟨passWork_inp (fun u => workTurn_inp ..) _ _⟩
    · exact .refl t

@[simp] theorem loseAsk_inp (s : State) (a b : Nat) (c : Ask) : (s.loseAsk a b c).inp = s.inp := by
  unfold State.loseAsk
  dsimp only
  repeat' split
  all_goals simp

@[simp] theorem resetCompute_inp (s : State) (a : Nat) : (s.resetCompute a).inp = s.inp := by
  unfold State.resetCompute
  simp

@[simp] theorem resetMemory_inp (s : State) (a : Nat) : (s.resetMemory a).inp = s.inp := by
  unfold State.resetMemory
  simp

@[simp] theorem resetLink_inp (s : State) (a : Nat) : (s.resetLink a).inp = s.inp := by
  unfold State.resetLink
  refine (foldl_inp (fun t q => ?_) _ _).trans (foldl_inp (fun t x => loseAsk_inp ..) _ _)
  split
  · exact resetAbort_inp ..
  · rfl

@[simp] theorem resetBulkhead_inp (s : State) (a : Nat) : (s.resetBulkhead a).inp = s.inp := by
  unfold State.resetBulkhead
  simp

@[simp] theorem smcReset_inp (s : State) (a : Nat) : (s.smcReset a).inp = s.inp := by
  unfold State.smcReset
  simp

end Sys2Proof.Proofs

/-! SUPPORT. The arbiter's epochs and the sensors: watts of a package of one partition, islands set one after another, and readings that leave the turn's
input (01 R26-R28, 17 R340). -/

namespace Sys2Proof.Proofs

open Sys2Proof Sys2Proof.Machine Sys2Proof.Laws Sys2Proof.Claims

/-! ## A package of one partition -/

section
variable {s : State}

/-- With one START bit every octant is the first one's. -/
theorem partOf_one (h : s.start = 1) {k : Nat} (hk : k < 8) : s.partOf k = 0 := by
  unfold State.partOf
  rw [h]
  interval_cases k <;> decide

theorem octants_one (h : s.start = 1) : s.octants 0 = List.range 8 := by
  unfold State.octants
  exact List.filter_eq_self.mpr fun k hk => by simpa using partOf_one h (List.mem_range.mp hk)

theorem parts_one (h : s.start = 1) : s.parts = [0] := by
  unfold State.parts
  have e : (List.range 8).filter (fun k => decide (s.partOf k = k)) = (List.range 8).filter fun k => decide (0 = k) :=
    List.filter_congr fun k hk => by rw [partOf_one h (List.mem_range.mp hk)]
  rw [e]
  decide

/-- Its islands, octant by octant. -/
def packageIslands : List Nat := (List.range 8).flatMap fun k => [2 * k, 2 * k + 1, 16 + k, 24 + k]

theorem islandsOf_one (h : s.start = 1) : s.islandsOf 0 = packageIslands := by
  unfold State.islandsOf packageIslands
  rw [octants_one h]

theorem packageIslands_perm : packageIslands.Perm (List.range 32) := by decide

/-- A partition alone has what it needs, up to the whole ceiling less what is reserved. -/
theorem partWatts_one (h : s.start = 1) (demand : List Nat) : s.partWatts demand =
    [(0, min ((List.range 32).map fun i => demand.getD i 0).sum (s.ctl.pceil.toNat - reservedWatts))] := by
  have hneed : (packageIslands.map fun i => demand.getD i 0).sum = ((List.range 32).map fun i => demand.getD i 0).sum :=
    (packageIslands_perm.map _).sum_eq
  unfold State.partWatts
  simp only [parts_one h, islandsOf_one h, hneed, List.map_cons, List.map_nil, List.sum_cons, List.sum_nil, Nat.add_zero, List.length_cons, List.length_nil]
  have hshare (rest w : Nat) : divideBy rest w w (0 + 1) = rest := by
    unfold divideBy
    split
    · simp
    · next hw => rw [Nat.mul_div_cancel _ (Nat.pos_of_ne_zero hw)]
  rw [hshare]
  simp

end

/-! ## Islands -/

/-- Island `i` takes `w` watts for the next epoch, and a memory island's stack its byte budget. -/
def setIsland (w : Nat → Nat) (s : State) (i : Nat) : State :=
  let t := { s with islands := mapUpd Init.island s.islands i fun x => x.epoch i (w i) s.ns (Config.domainFreeze s.nfree i) }
  if 16 ≤ i ∧ i < 24 then t.updStack (i - 16) fun x => { x with budget := min 46080000 (Config.budgetOf (w i)) } else t

/-- What settings of islands leave. -/
structure IslandsSet (s t : State) : Prop where
  mem : t.mem = s.mem
  cores : t.cores = s.cores
  ns : t.ns = s.ns
  nfree : t.nfree = s.nfree

theorem setIsland_keeps (w : Nat → Nat) (s : State) (i : Nat) : IslandsSet s (setIsland w s i) := by
  unfold setIsland
  dsimp only
  split <;> exact ⟨rfl, rfl, rfl, rfl⟩

theorem setIsland_islands (w : Nat → Nat) (s : State) (i j : Nat) : mapGet Init.island (setIsland w s i).islands j =
    if j = i then (mapGet Init.island s.islands i).epoch i (w i) s.ns (Config.domainFreeze s.nfree i) else mapGet Init.island s.islands j := by
  have e : (setIsland w s i).islands = mapUpd Init.island s.islands i fun x => x.epoch i (w i) s.ns (Config.domainFreeze s.nfree i) := by
    unfold setIsland
    dsimp only
    split <;> rfl
  rw [e, mapUpd]
  split
  · next h => rw [h, mapGet_set_same]
  · next h => exact mapGet_set_other _ h

/-- Islands set one after another, each once. -/
theorem setIslands (w : Nat → Nat) {l : List Nat} (hl : l.Nodup) (s : State) : IslandsSet s (l.foldl (setIsland w) s) ∧
    ∀ i, mapGet Init.island (l.foldl (setIsland w) s).islands i =
      if i ∈ l then (mapGet Init.island s.islands i).epoch i (w i) s.ns (Config.domainFreeze s.nfree i) else mapGet Init.island s.islands i := by
  induction l generalizing s with
  | nil => exact ⟨⟨rfl, rfl, rfl, rfl⟩, fun i => rfl⟩
  | cons x l ih =>
    obtain ⟨hx, hl⟩ := List.nodup_cons.mp hl
    obtain ⟨mem, cores, ns, nfree⟩ := setIsland_keeps w s x
    obtain ⟨keeps, islands⟩ := ih hl (setIsland w s x)
    refine ⟨⟨keeps.mem.trans mem, keeps.cores.trans cores, keeps.ns.trans ns, keeps.nfree.trans nfree⟩, fun i => ?_⟩
    rw [List.foldl_cons, islands, ns, nfree, setIsland_islands]
    by_cases hi : i = x
    · subst hi
      rw [if_neg hx, if_pos rfl, if_pos (List.mem_cons_self ..)]
    · simp [hi]

/-- An island of the spine leaves its trip once it has cooled. -/
def coolSpine (s : State) (i : Nat) : State :=
  { s with islands := mapUpd Init.island s.islands i fun x => { x with tripped := x.tripped && !x.cooled s.ns } }

/-- The spine's two islands. -/
def coolSpines (s : State) : State := coolSpine (coolSpine s 32) 33

theorem coolSpines_start (s : State) : (coolSpines s).start = s.start := rfl

theorem coolSpines_pceil (s : State) : (coolSpines s).ctl.pceil = s.ctl.pceil := rfl

theorem coolSpines_keeps (s : State) : IslandsSet s (coolSpines s) := ⟨rfl, rfl, rfl, rfl⟩

theorem coolSpines_inp (s : State) : (coolSpines s).inp = s.inp := rfl

theorem coolSpines_islands (s : State) {i : Nat} (hi : i < 32) : mapGet Init.island (coolSpines s).islands i = mapGet Init.island s.islands i :=
  (mapGet_set_other _ (by omega)).trans (mapGet_set_other _ (by omega))

/-- The islands of a partition take their parts of its watts. -/
def givePart (demand : List Nat) (s : State) (pw : Nat × Nat) : State :=
  (s.islandsOf pw.1).foldl (setIsland fun i => islandFloor i + divideBy pw.2 (demand.getD i 0) ((s.islandsOf pw.1).map fun i => demand.getD i 0).sum
    (s.islandsOf pw.1).length) s

/-- The regions at an address keep the watts attributed to them. -/
def creditRegions (s : State) (x : Nat × Nat) : State :=
  (s.cp.regions.filter fun r => decide (r.va.toNat = x.1)).foldl (fun s r => s.updRegion r.part r.rasid r.va fun r => { r with epochw := x.2 }) s

/-- The end of the epoch's event. -/
def epochBegun (s t : State) : State := { t with ctl := { t.ctl with epochAt := s.ns + 1 } }

theorem epochBegun_keeps (s t : State) : (epochBegun s t.takeFree).mem = t.mem ∧ (epochBegun s t.takeFree).cores = t.cores
    ∧ (epochBegun s t.takeFree).islands = t.islands := ⟨rfl, rfl, rfl⟩

theorem execEpoch_eq (s : State) : execEpochBoundary s = .next (if s.stage < 3 ∨ (s.ctl.epochAt ≠ 0 ∧ s.ns + 1 < s.ctl.epochAt + 1000000) then s
    else epochBegun (coolSpines s) ((coolSpines s).inp.watts.foldl creditRegions
      (((coolSpines s).partWatts s.inp.temps).foldl (givePart s.inp.temps) (coolSpines s)).takeFree)) := rfl

/-- The epoch of a package of one partition, with no region to credit: the spine's islands may leave their trips, and the others take their watts. -/
theorem exec_epoch {s : State} (hstage : 3 ≤ s.stage) (hdue : s.ctl.epochAt = 0 ∨ s.ctl.epochAt + 1000000 ≤ s.ns + 1) (hstart : s.start = 1)
    (hwatts : s.inp.watts = []) {need rest : Nat} (hneed : need = ((List.range 32).map fun i => s.inp.temps.getD i 0).sum)
    (hrest : rest = s.ctl.pceil.toNat - reservedWatts) :
    ∃ t, exec .epochBoundary s = .next t ∧ t.mem = s.mem ∧ t.cores = s.cores ∧ ∀ i < 32, mapGet Init.island t.islands i =
      (mapGet Init.island s.islands i).epoch i (islandFloor i + divideBy (min need rest) (s.inp.temps.getD i 0) need 32) s.ns
        (Config.domainFreeze s.nfree i) := by
  have hall : (packageIslands.map fun i => s.inp.temps.getD i 0).sum = need := by
    rw [hneed]
    exact (packageIslands_perm.map _).sum_eq
  have hnodup : packageIslands.Nodup := packageIslands_perm.nodup_iff.mpr List.nodup_range
  have hstart' : (coolSpines s).start = 1 := (coolSpines_start s).trans hstart
  have hparts : (coolSpines s).partWatts s.inp.temps = [(0, min need rest)] := by
    rw [partWatts_one hstart', coolSpines_pceil, hneed, hrest]
  have hislands := islandsOf_one hstart'
  obtain ⟨hmem, hcores, hns, hfree⟩ := coolSpines_keeps s
  obtain ⟨⟨mem, cores, -, -⟩, islands⟩ := setIslands (fun i => islandFloor i + divideBy (min need rest) (s.inp.temps.getD i 0) need 32) hnodup
    (coolSpines s)
  obtain ⟨bmem, bcores, bislands⟩ := epochBegun_keeps (coolSpines s)
    (packageIslands.foldl (setIsland fun i => islandFloor i + divideBy (min need rest) (s.inp.temps.getD i 0) need 32) (coolSpines s))
  refine ⟨_, ?_, bmem.trans (mem.trans hmem), bcores.trans (cores.trans hcores), fun i hi => ?_⟩
  · show execEpochBoundary s = _
    rw [execEpoch_eq, if_neg (by omega), hparts, coolSpines_inp, hwatts, List.foldl_nil, List.foldl_cons, List.foldl_nil, givePart, hislands, hall]
    rfl
  · rw [bislands, islands i, if_pos (packageIslands_perm.mem_iff.mpr (List.mem_range.mpr hi)), coolSpines_islands s hi, hns, hfree]

/-! ## Budgets -/

/-- Memory, the cores, budgets and counts stay from `s` to `t`. -/
structure CountsStay (s t : State) : Prop where
  mem : t.mem = s.mem
  cores : t.cores = s.cores
  counts : ∀ k, (t.stack k).budget = (s.stack k).budget ∧ (t.stack k).count = (s.stack k).count

theorem countsStay_updChan (s : State) (k pc : Nat) (f : PChan → PChan) : CountsStay s (s.updChan k pc f) := by
  refine ⟨rfl, rfl, fun j => ?_⟩
  rw [State.updChan, State.setChan, stack_updStack]
  split
  · next h => rw [h]; exact ⟨rfl, rfl⟩
  · exact ⟨rfl, rfl⟩

theorem countsStay_foldl {f : State → Nat → State} (hf : ∀ s b, CountsStay s (f s b)) (l : List Nat) (s : State) : CountsStay s (l.foldl f s) := by
  induction l generalizing s with
  | nil => exact ⟨rfl, rfl, fun _ => ⟨rfl, rfl⟩⟩
  | cons b l ih =>
    obtain ⟨mem, cores, counts⟩ := hf s b
    obtain ⟨mem', cores', counts'⟩ := ih (f s b)
    exact ⟨mem'.trans mem, cores'.trans cores, fun k => ⟨(counts' k).1.trans (counts k).1, (counts' k).2.trans (counts k).2⟩⟩

theorem countsStay_resumeBanks (s : State) (k : Nat) : CountsStay s (s.resumeBanks k) := by
  unfold State.resumeBanks
  dsimp only
  split
  · exact ⟨rfl, rfl, fun _ => ⟨rfl, rfl⟩⟩
  · exact countsStay_foldl (fun s pc => countsStay_updChan ..) _ s

/-- A stack's count is topped up by its budget, and its banks resume. -/
def topUp (s : State) (k : Nat) : State := (s.updStack k fun t => { t with count := min (t.count + t.budget) t.budget }).resumeBanks k

/-- Every stack's count after the first `n` of an interval. -/
theorem budgets (n : Nat) (s : State) : ((List.range n).foldl topUp s).mem = s.mem ∧ ((List.range n).foldl topUp s).cores = s.cores
    ∧ ∀ k, (((List.range n).foldl topUp s).stack k).budget = (s.stack k).budget ∧ (((List.range n).foldl topUp s).stack k).count =
      if k < n then min ((s.stack k).count + (s.stack k).budget) (s.stack k).budget else (s.stack k).count := by
  induction n with
  | zero => exact ⟨rfl, rfl, fun k => ⟨rfl, rfl⟩⟩
  | succ n ih =>
    obtain ⟨mem, cores, counts⟩ := ih
    rw [List.range_succ, List.foldl_append, List.foldl_cons, List.foldl_nil]
    generalize (List.range n).foldl topUp s = t at mem cores counts ⊢
    obtain ⟨mem', cores', counts'⟩ := countsStay_resumeBanks (t.updStack n fun t => { t with count := min (t.count + t.budget) t.budget }) n
    refine ⟨mem'.trans mem, cores'.trans cores, fun k => ?_⟩
    obtain ⟨hbudget, hcount⟩ := counts k
    unfold topUp
    rw [(counts' k).1, (counts' k).2, stack_updStack]
    by_cases hk : k = n
    · subst hk
      rw [if_pos rfl, if_pos (Nat.lt_succ_self k)]
      rw [if_neg (Nat.lt_irrefl k)] at hcount
      rw [hbudget, hcount]
      exact ⟨rfl, rfl⟩
    · rw [if_neg hk, hbudget, hcount]
      exact ⟨rfl, if_congr (by omega) rfl rfl⟩

/-! ## Sensors -/

theorem shutDown_input (s : State) (i : Nat) : (s.shutDown i).inp = s.inp := by
  unfold State.shutDown
  dsimp only
  split
  · exact (smcReset_inp ..).trans (logError_inp ..)
  · exact logError_inp ..

theorem readSensor_input (s : State) (i t : Nat) : (s.readSensor i t).inp = s.inp := by
  unfold State.readSensor
  exact inp_ite (shutDown_input ..) rfl

theorem trip_input (s : State) (i t : Nat) : (s.trip i t).inp = s.inp := by
  unfold State.trip
  exact inp_ite (logError_inp ..) rfl

/-- A fold whose steps read the input reads the first state's. -/
theorem foldl_reads {f : State → Nat → Nat → State} (hf : ∀ s i t, (f s i t).inp = s.inp) (g : Input → Nat → Nat) (l : List Nat) (s : State) {x : Input}
    (hx : s.inp = x) : l.foldl (fun s i => f s i (g s.inp i)) s = l.foldl (fun s i => f s i (g x i)) s := by
  induction l generalizing s with
  | nil => rfl
  | cons i l ih =>
    rw [List.foldl_cons, List.foldl_cons, hx]
    exact ih _ ((hf ..).trans hx)

theorem exec_sensors {s : State} (hdue : s.ctl.sensedAt = 0 ∨ s.ctl.sensedAt + 10000 ≤ s.ns + 1) : exec .sensorRead s = .next
    ((List.range (min 34 s.inp.temps.length)).foldl (fun u i => u.trip i (s.inp.temps.getD i 0))
      ((List.range (min 34 s.inp.temps.length)).foldl (fun u i => u.readSensor i (s.inp.temps.getD i 0)) { s with ctl := { s.ctl with sensedAt := s.ns + 1 } })) := by
  show execSensorRead s = _
  rw [execSensorRead, if_neg (by omega)]
  dsimp only
  rw [foldl_reads readSensor_input (fun x i => x.temps.getD i 0) _ _ rfl,
    foldl_reads trip_input (fun x i => x.temps.getD i 0) _ _ (x := s.inp)]
  exact foldl_inp (fun t i => readSensor_input ..) _ _

/-! ## O36 -/

/-- Settles O36: the epoch of one partition gives every island its floor and its part of the watts, the byte counts are topped up, and no reading changes
what the readings after it are. -/
theorem powerAndFirmwareEvents : Obligations.PowerAndFirmwareEvents := by
  unfold Obligations.PowerAndFirmwareEvents
  intro s demand need rest
  refine ⟨fun hstage hdue hstart hwatts => exec_epoch hstage hdue hstart hwatts rfl rfl, ?_, fun hdue => exec_sensors hdue, rfl,
    fun hb => ⟨?_, ?_, ?_⟩, fun hup => ?_, fun hup hready => ?_, fun hbad => ?_, fun hgood => ?_⟩
  · obtain ⟨hmem, hcores, hcounts⟩ := budgets 8 s
    refine ⟨(List.range 8).foldl topUp s, rfl, hmem, hcores, fun k hk => ?_⟩
    rw [(hcounts k).2, if_pos hk]
  · show execRailOutOfRange s = _
    rw [execRailOutOfRange, if_pos hb]
  · show execBulkheadReset s = _
    rw [execBulkheadReset, if_pos hb]
  · show execVcStopGo s = _
    rw [execVcStopGo, if_pos hb]
  · show execCpWatchdog s = _
    rw [execCpWatchdog, if_neg (by rw [hup]; exact Bool.false_ne_true)]
  · show execSchWatchdog s = _
    rw [execSchWatchdog, if_neg (by rw [hup, hready]; decide)]
  · show execFirmwareRestartDone s = _
    rw [execFirmwareRestartDone, if_pos hbad]
  · show execFirmwareRestartDone s = _
    rw [execFirmwareRestartDone, if_neg (by rw [hgood]; exact Bool.false_ne_true)]
    split <;> rfl

end Sys2Proof.Proofs

/-! SUPPORT. What makes a ready slot take a trap for its operands: of the faults of its body the one with the lowest code, where the body freezes on
nothing and its banks clash with none of the bundle's (18 R346, R348). -/

namespace Sys2Proof.Proofs

open Sys2Proof Sys2Proof.Machine Sys2Proof.Laws Sys2Proof.Claims

/-! ## The lowest of several faults -/

/-- No fault of the list but `f` itself has a code as low as that of `f`. -/
def Over (f : BitVec 16 × BitVec 64) (l : List (BitVec 16 × BitVec 64)) : Prop := ∀ g ∈ l, g = f ∨ f.1.toNat < g.1.toNat

section
variable {f g : BitVec 16 × BitVec 64} {l r : List (BitVec 16 × BitVec 64)}

@[simp] theorem over_nil : Over f [] := fun _ h => nomatch h

@[simp] theorem over_cons : Over f (g :: l) ↔ (g = f ∨ f.1.toNat < g.1.toNat) ∧ Over f l := List.forall_mem_cons

@[simp] theorem over_append : Over f (l ++ r) ↔ Over f l ∧ Over f r := List.forall_mem_append

theorem over_ite {p : Prop} [Decidable p] (hl : p → Over f l) (hr : ¬ p → Over f r) : Over f (if p then l else r) := by
  split
  · next h => exact hl h
  · next h => exact hr h

theorem foldl_over (h : Over f l) (b : Option (BitVec 16 × BitVec 64)) (hb : ∀ g, b = some g → g = f ∨ f.1.toNat < g.1.toNat) (hmem : b = some f ∨ f ∈ l) :
    l.foldl (fun b f => match b with
      | none => some f
      | some g => if f.1.toNat < g.1.toNat then some f else some g) b = some f := by
  induction l generalizing b with
  | nil => simpa using hmem
  | cons g l ih =>
    obtain ⟨hg, hl⟩ := over_cons.mp h
    rw [List.foldl_cons]
    refine ih hl _ ?_ ?_
    · intro x hx
      cases b with
      | none => simp only [Option.some.injEq] at hx; exact hx ▸ hg
      | some y =>
        dsimp only at hx
        split at hx <;> (simp only [Option.some.injEq] at hx; subst hx)
        · exact hg
        · exact hb y rfl
    · cases b with
      | none =>
        rcases hmem with hmem | hmem
        · cases hmem
        · rcases List.mem_cons.mp hmem with rfl | hmem
          · exact .inl rfl
          · exact .inr hmem
      | some y =>
        by_cases hf : f ∈ l
        · exact .inr hf
        · left
          dsimp only
          rcases hmem with hmem | hmem
          · simp only [Option.some.injEq] at hmem
            subst hmem
            rcases hg with rfl | hg
            · exact ite_self _
            · exact if_neg (by omega)
          · obtain rfl : f = g := (List.mem_cons.mp hmem).resolve_right hf
            rcases hb y rfl with rfl | hy
            · exact ite_self _
            · exact if_pos hy

/-- `f` is the fault of the list with the lowest code. -/
structure Lowest (f : BitVec 16 × BitVec 64) (l : List (BitVec 16 × BitVec 64)) : Prop where
  mem : f ∈ l
  least : Over f l

theorem lowestFault_of_lowest (h : Lowest f l) : lowestFault l = some f := foldl_over h.least none (fun _ h => nomatch h) (.inr h.mem)

@[simp] theorem lowest_singleton : Lowest f [f] := ⟨List.mem_singleton_self f, by simp⟩

theorem Lowest.left (h : Lowest f l) (hr : Over f r) : Lowest f (l ++ r) := ⟨List.mem_append_left _ h.mem, over_append.mpr ⟨h.least, hr⟩⟩

theorem Lowest.right (hl : Over f l) (h : Lowest f r) : Lowest f (l ++ r) := ⟨List.mem_append_right _ h.mem, over_append.mpr ⟨hl, h.least⟩⟩

end

/-! ## A slot that faults -/

section
variable {s : State} {i : Instr} {body : State → Core → SlotOut} {bnd : Bool} {more : List Use} {es : List Effect} {f : BitVec 16 × BitVec 64}

/-- What an operand's fault leaves of the bundle: the fault, of the last rank, and nothing that freezes or stops. -/
structure Faulted (t : Trap) (x : Issue) : Prop where
  last : x.rest = 0
  unfrozen : x.freezes = []
  working : x.duty = false
  passed : gateStopsOf x.effects = []
  fault : x.fault = some (6, t)

theorem contribute_fault (h : s.Ready i bnd more es) (hreads : (body s (here s)).reads = more) (hfault : lowestFault (body s (here s)).faults = some f)
    (hfree : (body s (here s)).freezes = []) (hbanks : ∀ b ∈ (body s (here s)).banks, b ∉ (here s).iss.banks)
    (hgate : gateStopsOf (body s (here s)).effects = []) :
    ∃ x, contribute i body s = s.setCore s.cur (withIss x (here s))
      ∧ Faulted { code := f.1, port := slotPort i (here s).iss.port, tval := f.2 } x := by
  have hguard : (!isSelector i && !(rd 2 (here s).iss.guard).exempt && (here s).pending 2 ((here s).ctx.physP (here s).iss.guard.toNat)) = false := by
    cases hs : isSelector i
    · rcases h.guardFree hs with hx | hx <;> simp [hx]
    · rfl
  have htrue : (!isSelector i && !(here s).ctx.getP (here s).iss.guard.toNat) = false := by
    cases hs : isSelector i
    · simp [h.guard hs]
    · rfl
  have hsound (us : List Use) :
      (us.any fun u => !u.write && (here s).ctx.isBad ((here s).ctx.physUse u).1 ((here s).ctx.physUse u).2) = false := by
    unfold Ctx.isBad
    rw [h.quiet.healthy]
    simp
  have hpassed : gateStopsOf ((here s).iss.effects ++ (body s (here s)).effects) = [] := by
    unfold gateStopsOf at hgate ⊢
    rw [List.filterMap_append, hgate, show List.filterMap _ (here s).iss.effects = [] from h.quiet.passed]
    rfl
  have hclash : ((body s (here s)).banks.any fun b => (here s).iss.banks.contains b) = false :=
    List.any_eq_false.mpr fun b hb => by simpa using hbanks b hb
  have hacquire : acquireFreeze (here s) = [] := if_neg (by rw [h.quiet.acquired]; decide)
  unfold contribute
  simp only [hsound, ite_self, List.append_nil, h.legal, hguard, htrue, if_true, Bool.false_eq_true, if_false, h.quiet.faultless, h.quiet.unfrozen,
    hacquire, hclash, hfree, hreads, deferredFault_none h.quiet.deferred, scheduleFault_free h.free, tokenFreezes_free h.tokens, firstFault, hfault,
    Option.map, Bool.false_and]
  exact ⟨_, rfl, h.quiet.last, rfl, h.quiet.working, hpassed, rfl⟩

theorem bundleFreezes_unprotected {x : Issue} (hland : ∀ l ∈ (here s).land, l.due = false) (hprot : (here s).prot = false) (hduty : x.duty = false) :
    (s.setCore s.cur (withIss x (here s))).bundleFreezes (withIss x (here s)) = [] := by
  have hfind : ((withIss x (here s)).land.find? fun l => l.due) = none := List.find?_eq_none.mpr fun l hl => by simp [hland l hl]
  have hunprotected : (withIss x (here s)).prot = false := hprot
  have hends : (withIss x (here s)).segmentEnds = false := by
    unfold Core.segmentEnds
    rw [hunprotected]
    rfl
  have hworking : (withIss x (here s)).iss.duty = false := hduty
  unfold State.bundleFreezes
  rw [hfind, hends, hworking, hunprotected]
  cases (withIss x (here s)).task <;> simp

/-- A bundle with such a fault traps. -/
theorem finishIssue_faulted {x : Issue} {t : Trap} (hx : Faulted t x) (hland : ∀ l ∈ (here s).land, l.due = false) (hprot : (here s).prot = false) :
    finishIssue (s.setCore s.cur (withIss x (here s))) =
      (s.setCore s.cur (withIss x (here s))).withPeers s.cur fun u => u.takeTrap s.cur t (here s).ctx.pc := by
  have hcore : here (s.setCore s.cur (withIss x (here s))) = withIss x (here s) := core_setCore_same _ _ _
  have hiss : (withIss x (here s)).iss = x := rfl
  unfold finishIssue
  simp only [hcore]
  rw [bundleFreezes_unprotected hland hprot hx.working, hiss, hx.fault, hx.unfrozen, hx.passed]
  simp only [ne_eq, List.append_nil, not_true_eq_false, if_false, List.foldl_nil]
  rw [if_neg (by decide), setCore_cur, setCore_setCore,
    raiseTrap_unprotected _ _ _ (show ((s.setCore s.cur (withIss x (here s))).core s.cur).prot = false by rw [core_setCore_same]; exact hprot),
    core_setCore_same]
  rfl

/-- Its trap is delivered to the handler. -/
theorem trapsTo_faulted {x : Issue} (h : Handled (here s)) (t : Trap) (tpc : BitVec 64) :
    TrapsTo s ((s.setCore s.cur (withIss x (here s))).withPeers s.cur fun u => u.takeTrap s.cur t tpc) t.code t.port t.tval tpc := by
  have hhandled : Handled ((s.setCore s.cur (withIss x (here s))).core s.cur) := by
    rw [core_setCore_same]
    exact ⟨h.tvec, h.outside, h.arrived⟩
  have hkilled : ((drained (withIss x (here s))).enterHandler t tpc).killed = (withIss x (here s)).killed := rfl
  unfold State.withPeers
  simp only [takeTrap_handled hhandled, core_setCore_same, hkilled, Bool.and_not_self, Bool.false_eq_true, if_false]
  rw [setCore_setCore]
  refine ⟨by rw [core_setCore_same], ?_⟩
  rw [core_setCore_same]
  exact handles_enterHandler (drained (withIss x (here s))) t tpc

/-- A slot traps with the fault of its body that has the lowest code. -/
theorem traps_of_banks {code : BitVec 16} {tval : BitVec 64} (hexec : exec i s = issueSlot i body s) (hreads : (body s (here s)).reads = more)
    (hlowest : Lowest (code, tval) (body s (here s)).faults) (hfree : (body s (here s)).freezes = [])
    (hbanks : ∀ b ∈ (body s (here s)).banks, b ∉ (here s).iss.banks) (hgate : gateStopsOf (body s (here s)).effects = []) : Traps s i code tval more := by
  intro hready hprot hhandled
  obtain ⟨x, hcontribute, hx⟩ := contribute_fault hready hreads (lowestFault_of_lowest hlowest) hfree hbanks hgate
  have hcore : here (s.setCore s.cur (withIss x (here s))) = withIss x (here s) := core_setCore_same _ _ _
  refine ⟨_, hexec.trans ?_, trapsTo_faulted (x := x) hhandled { code := code, port := slotPort i (here s).iss.port, tval := tval } (here s).ctx.pc⟩
  unfold issueSlot
  rw [hcontribute]
  simp only [hcore]
  rw [if_pos (show (withIss x (here s)).iss.rest = 0 from hx.last), finishIssue_faulted hx (fun l hl => (hready.quiet.landings l hl).1) hprot]

/-- And one that touches no bank. -/
theorem traps_of {code : BitVec 16} {tval : BitVec 64} (hexec : exec i s = issueSlot i body s) (hreads : (body s (here s)).reads = more)
    (hlowest : Lowest (code, tval) (body s (here s)).faults) (hfree : (body s (here s)).freezes = [])
    (hbanks : (body s (here s)).banks = []) (hgate : gateStopsOf (body s (here s)).effects = []) : Traps s i code tval more :=
  traps_of_banks hexec hreads hlowest hfree (by rw [hbanks]; exact fun _ h => nomatch h) hgate

/-- What a body comes to that faults: its faults, its registers read, and nothing that freezes, clashes or stops. -/
structure Meets (out : SlotOut) (fs : List (BitVec 16 × BitVec 64)) (more : List Use := []) : Prop where
  faults : out.faults = fs
  freezes : out.freezes = []
  banks : out.banks = []
  reads : out.reads = more
  passed : gateStopsOf out.effects = []

/-- Such a slot traps with the lowest of its faults. -/
theorem traps_meets {code : BitVec 16} {tval : BitVec 64} {fs : List (BitVec 16 × BitVec 64)} (hexec : exec i s = issueSlot i body s)
    (hmeets : Meets (body s (here s)) fs more) (hlowest : Lowest (code, tval) fs) : Traps s i code tval more :=
  traps_of hexec hmeets.reads (hmeets.faults.symm ▸ hlowest) hmeets.freezes hmeets.banks hmeets.passed

end

end Sys2Proof.Proofs

/-! SUPPORT. What the scratchpad forms trap on: a misaligned address, a byte outside the offset space, of the lane forms at the first lane at fault, and
an index register of another tag (18 R347, R355). -/

namespace Sys2Proof.Proofs

open Sys2Proof Sys2Proof.Machine Sys2Proof.Laws Sys2Proof.Claims

section
variable {s : State} {i : Instr} {body : State → Core → SlotOut} {more : List Use} {es : List Effect} {align ea n pw : Nat}

/-! ## One access -/

theorem over_spFaults {f : BitVec 16 × BitVec 64} (h : f.1.toNat < 0x1201) : Over f (spFaults pw align ea n) := by
  unfold spFaults
  refine over_append.mpr ⟨over_ite (fun _ => over_nil) fun _ => ?_, ?_⟩
  · exact over_cons.mpr ⟨.inr h, over_nil⟩
  · split
    · exact over_cons.mpr ⟨.inr (by simp; omega), over_nil⟩
    · exact over_nil

theorem spFaults_misaligned (h : ea % align ≠ 0) : Lowest (0x1201, BitVec.ofNat 64 ea) (spFaults pw align ea n) := by
  unfold spFaults
  rw [if_neg h]
  refine lowest_singleton.left ?_
  split
  · exact over_cons.mpr ⟨.inr (show (0x1201 : BitVec 16).toNat < (0x1202 : BitVec 16).toNat by decide), over_nil⟩
  · exact over_nil

theorem spFaults_outside (h : ea % align = 0) (hout : spSize pw < ea + n) : spFaults pw align ea n = [(0x1202, BitVec.ofNat 64 (max ea (spSize pw)))] := by
  unfold spFaults spOutside
  rw [if_pos h, if_neg (by omega)]
  rfl

theorem spFaults_sound (h : ea % align = 0) (hin : ea + n ≤ spSize pw) : spFaults pw align ea n = [] := by
  unfold spFaults spOutside
  rw [if_pos h, if_pos hin]
  rfl

theorem sbOverlap_apart (h : apart s ea n) : (here s).sbOverlap ea n = [] := by
  rw [Core.sbOverlap, List.filter_eq_nil_iff.mpr fun e he => by simp [h e he]]
  rfl

/-- An access that faults freezes on nothing and touches no bank. -/
theorem spAccess_faulted (hapart : apart s ea n) (h : spFaults (here s).ctx.pw align ea n ≠ []) :
    spAccess (here s) align ea n = { faults := spFaults (here s).ctx.pw align ea n } := by
  unfold spAccess
  simp only [sbOverlap_apart hapart, List.isEmpty_nil, if_true, List.isEmpty_iff, if_neg h]

/-- A slot whose only faults are those of one access traps on them. -/
theorem traps_spAccess (hexec : exec i s = issueSlot i body s)
    (hbody : spFaults (here s).ctx.pw align ea n ≠ [] → Meets (body s (here s)) (spFaults (here s).ctx.pw align ea n) more) :
    (ea % align ≠ 0 → Traps s i 0x1201 (BitVec.ofNat 64 ea) more)
    ∧ (ea % align = 0 → spEnd s < ea + n → Traps s i 0x1202 (BitVec.ofNat 64 (max ea (spEnd s))) more) := by
  have htraps {code : BitVec 16} {tval : BitVec 64} (h : Lowest (code, tval) (spFaults (here s).ctx.pw align ea n)) : Traps s i code tval more :=
    traps_meets hexec (hbody (List.ne_nil_of_mem h.mem)) h
  exact ⟨fun h => htraps (spFaults_misaligned h), fun h hout => htraps (by rw [spFaults_outside h hout]; exact lowest_singleton)⟩

end

/-! ## The forms of one access -/

section
variable {s : State}

theorem isEmpty_faults {l : List (BitVec 16 × BitVec 64)} (h : l ≠ []) : (!l.isEmpty) = true := by simpa using h

theorem traps_lds {d a i : BitVec 6} (hapart : apart s (spAddr s a i) 8) :
    (spAddr s a i % 8 ≠ 0 → Traps s (.lds d a i) 0x1201 (BitVec.ofNat 64 (spAddr s a i)))
    ∧ (spAddr s a i % 8 = 0 → spEnd s < spAddr s a i + 8 → Traps s (.lds d a i) 0x1202 (BitVec.ofNat 64 (max (spAddr s a i) (spEnd s)))) := by
  refine traps_spAccess rfl fun h => ?_
  dsimp only
  rw [show offsetAddr (here s) a i 8 = spAddr s a i from rfl, spAccess_faulted hapart h, if_pos (isEmpty_faults h)]
  exact ⟨rfl, rfl, rfl, rfl, rfl⟩

theorem traps_sts {d a i : BitVec 6} (hapart : apart s (spAddr s a i) 8) :
    (spAddr s a i % 8 ≠ 0 → Traps s (.sts d a i) 0x1201 (BitVec.ofNat 64 (spAddr s a i)))
    ∧ (spAddr s a i % 8 = 0 → spEnd s < spAddr s a i + 8 → Traps s (.sts d a i) 0x1202 (BitVec.ofNat 64 (max (spAddr s a i) (spEnd s)))) := by
  refine traps_spAccess rfl fun h => ?_
  dsimp only
  rw [show offsetAddr (here s) a i 8 = spAddr s a i from rfl, spAccess_faulted hapart h]
  exact ⟨rfl, rfl, rfl, rfl, rfl⟩

theorem exec_vldForms (d : BitVec 6) (a : BitVec 4) (i8 : BitVec 8) : ∀ p ∈ vldForms d a i8, exec p.1 s = issueSlot p.1 (vld d a i8 p.2) s := by
  simp only [vldForms, List.forall_mem_cons, List.not_mem_nil, false_imp_iff, implies_true, and_true]
  exact ⟨rfl, rfl, rfl, rfl, rfl, rfl, rfl, rfl, rfl, rfl, rfl, rfl⟩

section
variable {d : BitVec 6} {a : BitVec 4} {i8 : BitVec 8} {ea : Nat} (hea : ea = ((areg s a).toNat + i8.toNat * 512) % 2 ^ 48) (hapart : apart s ea 512)
include hea hapart

theorem traps_vst :
    (ea % 64 ≠ 0 → Traps s (.vst d a i8) 0x1201 (BitVec.ofNat 64 ea))
    ∧ (ea % 64 = 0 → spEnd s < ea + 512 → Traps s (.vst d a i8) 0x1202 (BitVec.ofNat 64 (max ea (spEnd s)))) := by
  refine traps_spAccess rfl fun h => ?_
  dsimp only
  rw [vwide_eq, ← hea, spAccess_faulted hapart h]
  exact ⟨rfl, rfl, rfl, rfl, rfl⟩

theorem traps_vld {j : Instr} {tag : Tag} (hexec : exec j s = issueSlot j (vld d a i8 tag) s) :
    (ea % 64 ≠ 0 → Traps s j 0x1201 (BitVec.ofNat 64 ea))
    ∧ (ea % 64 = 0 → spEnd s < ea + 512 → Traps s j 0x1202 (BitVec.ofNat 64 (max ea (spEnd s)))) := by
  refine traps_spAccess hexec fun h => ?_
  unfold vld
  dsimp only
  rw [vwide_eq, ← hea, spAccess_faulted hapart h, if_pos (isEmpty_faults h)]
  exact ⟨rfl, rfl, rfl, rfl, rfl⟩

theorem traps_wide : ∀ j ∈ Instr.vst d a i8 :: (vldForms d a i8).map (·.1),
    (ea % 64 ≠ 0 → Traps s j 0x1201 (BitVec.ofNat 64 ea))
    ∧ (ea % 64 = 0 → spEnd s < ea + 512 → Traps s j 0x1202 (BitVec.ofNat 64 (max ea (spEnd s)))) := by
  intro j hj
  rcases List.mem_cons.mp hj with rfl | hj
  · exact traps_vst hea hapart
  · obtain ⟨p, hp, rfl⟩ := List.mem_map.mp hj
    exact traps_vld hea hapart (exec_vldForms d a i8 p hp)

end

/-! ## EDLD, whose address has no modulus -/

theorem rangeFault_below {pw : Nat} {lo hi : Int} (h : lo < 0) : rangeFault pw lo hi = [(0x1202, BitVec.ofInt 64 lo)] := by
  unfold rangeFault
  rw [if_neg (by omega), if_pos h]

theorem rangeFault_above {pw : Nat} {lo hi : Int} (h : 0 ≤ lo) (hhi : (spSize pw : Int) ≤ hi) :
    rangeFault pw lo hi = [(0x1202, BitVec.ofInt 64 (max lo (spSize pw)))] := by
  unfold rangeFault
  rw [if_neg (by omega), if_neg (by omega)]

theorem over_rangeFault {pw : Nat} {lo hi : Int} {f : BitVec 16 × BitVec 64} (h : f.1.toNat < 0x1202) : Over f (rangeFault pw lo hi) := by
  have hone {v : BitVec 64} : Over f [(0x1202, v)] := over_cons.mpr ⟨.inr h, over_nil⟩
  exact over_ite (fun _ => over_nil) fun _ => over_ite (fun _ => hone) fun _ => hone

section
variable {d a i : BitVec 6} {ea : Int} (hea : ea = edldAddr s a i) (hapart : apart s (max ea 0).toNat ((ea + 32).toNat - (max ea 0).toNat))
include hea hapart

theorem traps_edld_of {code : BitVec 16} {tval : BitVec 64}
    (h : Lowest (code, tval) ((if ea % 32 = 0 then [] else [((0x1201 : BitVec 16), BitVec.ofInt 64 ea)]) ++ rangeFault (here s).ctx.pw ea (ea + 31))) :
    Traps s (.edld d a i) code tval := by
  have hea' : descEa (here s) a i = ea := hea.symm
  have hne := isEmpty_faults (List.ne_nil_of_mem h.mem)
  refine traps_of rfl ?_ ?_ ?_ ?_ ?_ <;> dsimp only <;> rw [hea', if_pos hne]
  · rfl
  · exact h
  · unfold spAccess
    simp only [sbOverlap_apart hapart, List.isEmpty_nil, if_true]
  · rfl

theorem traps_edld :
    (ea % 32 ≠ 0 → Traps s (.edld d a i) 0x1201 (BitVec.ofInt 64 ea))
    ∧ (ea % 32 = 0 → ea < 0 → Traps s (.edld d a i) 0x1202 (BitVec.ofInt 64 ea))
    ∧ (ea % 32 = 0 → spEnd s < ea + 32 → Traps s (.edld d a i) 0x1202 (BitVec.ofInt 64 (max ea (spEnd s)))) := by
  refine ⟨fun h => ?_, fun h hneg => ?_, fun h hout => ?_⟩ <;> refine traps_edld_of hea hapart ?_
  · rw [if_neg h]
    exact lowest_singleton.left (over_rangeFault (show (0x1201 : BitVec 16).toNat < 0x1202 by decide))
  · rw [if_pos h, rangeFault_below hneg]
    exact lowest_singleton
  · change (spSize (here s).ctx.pw : Int) < ea + 32 at hout
    rw [if_pos h, rangeFault_above (by omega) (by omega)]
    exact lowest_singleton

end

end

end Sys2Proof.Proofs

/-! SUPPORT. The lane-granular forms trap at the first lane at fault, and the indexed ones on the tag of their index register (18 R347, R355). -/

namespace Sys2Proof.Proofs

open Sys2Proof Sys2Proof.Machine Sys2Proof.Laws Sys2Proof.Claims

/-! ## The faults of the lanes -/

/-- The faults of a lane-granular access: of its first misaligned lane, and of its first lane that leaves the offset space. -/
def laneFaults (pw : Nat) (addrs : List Nat) : List (BitVec 16 × BitVec 64) :=
  (match addrs.find? fun a => decide (a % 4 ≠ 0) with
    | some a => [((0x1201 : BitVec 16), BitVec.ofNat 64 a)]
    | none => []) ++
  (match addrs.find? fun a => decide (spSize pw < a + 4) with
    | some a => [((0x1202 : BitVec 16), BitVec.ofNat 64 (max a (spSize pw)))]
    | none => [])

section
variable {pw b : Nat} {addrs : List Nat}

theorem spOutside_isSome (a n : Nat) : (spOutside pw a n).isSome = decide (spSize pw < a + n) := by
  unfold spOutside
  split
  · next h => exact (decide_eq_false (by omega)).symm
  · next h => exact (decide_eq_true (by omega)).symm

theorem spOutside_some {a n : Nat} (h : spSize pw < a + n) : spOutside pw a n = some (max a (spSize pw)) := if_neg (by omega)

theorem laneFaults_misaligned (h : (addrs.find? fun a => decide (a % 4 ≠ 0)) = some b) : Lowest (0x1201, BitVec.ofNat 64 b) (laneFaults pw addrs) := by
  unfold laneFaults
  rw [h]
  refine lowest_singleton.left ?_
  split
  · exact over_cons.mpr ⟨.inr (show (0x1201 : BitVec 16).toNat < (0x1202 : BitVec 16).toNat by decide), over_nil⟩
  · exact over_nil

theorem laneFaults_outside (halign : ∀ a ∈ addrs, a % 4 = 0) (h : (addrs.find? fun a => decide (spSize pw < a + 4)) = some b) :
    Lowest (0x1202, BitVec.ofNat 64 (max b (spSize pw))) (laneFaults pw addrs) := by
  have hnone : (addrs.find? fun a => decide (a % 4 ≠ 0)) = none := List.find?_eq_none.mpr fun a ha => by simp [halign a ha]
  unfold laneFaults
  rw [h, hnone]
  exact lowest_singleton

end

section
variable {s : State} {addrs : List Nat}

theorem vlaneAccess_faults : (vlaneAccess (here s) addrs).faults = laneFaults (here s).ctx.pw addrs := by
  unfold vlaneAccess laneFaults
  simp only [List.head?_filter, spOutside_isSome]
  congr 1
  cases h : addrs.find? fun a => decide (spSize (here s).ctx.pw < a + 4) with
  | none => rfl
  | some a =>
    have hout : spSize (here s).ctx.pw < a + 4 := by simpa using List.find?_some h
    simp only [spOutside_some hout, Option.getD_some]

/-- An access that faults freezes on nothing and touches no bank. -/
theorem vlaneAccess_faulted (hapart : ∀ b ∈ addrs, apart s b 4) (h : laneFaults (here s).ctx.pw addrs ≠ []) :
    (vlaneAccess (here s) addrs).freezes = [] ∧ (vlaneAccess (here s) addrs).banks = [] ∧ (vlaneAccess (here s) addrs).reads = []
    ∧ (vlaneAccess (here s) addrs).effects = [] := by
  have hsb : addrs.flatMap (fun a => (here s).sbOverlap a 4) = [] := List.flatMap_eq_nil_iff.mpr fun a ha => sbOverlap_apart (hapart a ha)
  refine ⟨?_, ?_, rfl, rfl⟩
  · unfold vlaneAccess
    simp only [hsb, List.isEmpty_nil, if_true]
  · unfold vlaneAccess
    dsimp only
    refine if_neg fun hnone => h ?_
    obtain ⟨hbad, hout⟩ := Bool.and_eq_true_iff.mp hnone
    have hbad : addrs.find? (fun a => decide (a % 4 ≠ 0)) = none := by
      rw [← List.head?_filter, List.isEmpty_iff.mp hbad]
      rfl
    have hout : addrs.find? (fun a => decide (spSize (here s).ctx.pw < a + 4)) = none := by
      simp only [spOutside_isSome] at hout
      rw [← List.head?_filter, List.isEmpty_iff.mp hout]
      rfl
    unfold laneFaults
    rw [hbad, hout]
    rfl

/-- Slots whose only faults are those of their lanes trap on them. -/
theorem laneTraps_of {js : List Instr}
    (h : (∀ b ∈ addrs, apart s b 4) → ∀ j ∈ js, ∃ body : State → Core → SlotOut, exec j s = issueSlot j body s ∧
      (laneFaults (here s).ctx.pw addrs ≠ [] → Meets (body s (here s)) (laneFaults (here s).ctx.pw addrs))) : LaneTraps s js addrs := by
  intro hapart j hj
  obtain ⟨body, hexec, hbody⟩ := h hapart j hj
  have htraps {code : BitVec 16} {tval : BitVec 64} (h : Lowest (code, tval) (laneFaults (here s).ctx.pw addrs)) : Traps s j code tval :=
    traps_meets hexec (hbody (List.ne_nil_of_mem h.mem)) h
  exact ⟨fun b hb => htraps (laneFaults_misaligned hb), fun halign b hb => htraps (laneFaults_outside halign hb)⟩

/-! ## Loads and stores -/

theorem vlaneLoad_faulted {lat : Nat} {d : BitVec 6} {tag : Tag} (h : laneFaults (here s).ctx.pw addrs ≠ []) :
    vlaneLoad (here s) lat d tag addrs = vlaneAccess (here s) addrs := by
  unfold vlaneLoad
  dsimp only
  rw [vlaneAccess_faults, if_pos (isEmpty_faults h)]

theorem gateStopsOf_none {es : List Effect} (h : ∀ e ∈ es, ∀ pa, e ≠ .gateStop pa) : gateStopsOf es = [] :=
  List.filterMap_eq_nil_iff.mpr fun e he => by
    cases e with
    | gateStop pa => exact absurd rfl (h _ he pa)
    | _ => rfl

section
variable (c : Core) (d : BitVec 6) (l : List Nat)

theorem vlaneStore_faults : (vlaneStore c d l).faults = (vlaneAccess c l).faults := rfl
theorem vlaneStore_freezes : (vlaneStore c d l).freezes = (vlaneAccess c l).freezes := rfl
theorem vlaneStore_banks : (vlaneStore c d l).banks = (vlaneAccess c l).banks := rfl
theorem vlaneStore_reads : (vlaneStore c d l).reads = (vlaneAccess c l).reads := rfl

end

theorem gateStopsOf_vlaneStore {d : BitVec 6} : gateStopsOf (vlaneStore (here s) d addrs).effects = [] :=
  gateStopsOf_none fun e he pa => by
    obtain ⟨j, hj, rfl⟩ := List.mem_mapIdx.mp he
    exact Effect.noConfusion

theorem gateStopsOf_spPoison {es : List Effect} {n : Nat} (h : ∀ e ∈ es, ∀ pa, e ≠ .gateStop pa) :
    gateStopsOf (es ++ (addrs.flatMap fun a => spPoison (here s) a 4).take n) = [] :=
  gateStopsOf_none fun e he pa => by
    rcases List.mem_append.mp he with he | he
    · exact h e he pa
    · obtain ⟨a, -, hea⟩ := List.mem_flatMap.mp (List.mem_of_mem_take he)
      unfold spPoison at hea
      split at hea
      · rw [List.mem_singleton.mp hea]
        exact Effect.noConfusion
      · cases hea

section
variable {d : BitVec 6} {a x f : BitVec 4}

theorem laneTraps_strided : LaneTraps s [.vlds d a x f, .vsts d a x] (stridedAt s a x) := by
  refine laneTraps_of fun hapart => ?_
  simp only [List.forall_mem_cons, List.not_mem_nil, false_imp_iff, implies_true, and_true]
  refine ⟨⟨_, rfl, fun h => ?_⟩, ⟨_, rfl, fun h => ?_⟩⟩ <;> rw [strided_eq]
  · obtain ⟨hfree, hbanks, hreads, heffects⟩ := vlaneAccess_faulted hapart h
    rw [vlaneLoad_faulted h]
    exact ⟨vlaneAccess_faults, hfree, hbanks, hreads, congrArg gateStopsOf heffects⟩
  · obtain ⟨hfree, hbanks, hreads, -⟩ := vlaneAccess_faulted hapart h
    exact ⟨(vlaneStore_faults ..).trans vlaneAccess_faults, (vlaneStore_freezes ..).trans hfree, (vlaneStore_banks ..).trans hbanks,
      (vlaneStore_reads ..).trans hreads, gateStopsOf_vlaneStore⟩

theorem laneTraps_indexed {addrs : List Nat} (haddrs : indexed (here s) a x = addrs) (htag : (here s).ctx.getVTag x.toNat = 0 ∨ (here s).ctx.getVTag x.toNat = 1) :
    LaneTraps s [.vldx d a x f, .vstx d a x] addrs := by
  have htag := indexFault_none.mpr htag
  refine laneTraps_of fun hapart => ?_
  simp only [List.forall_mem_cons, List.not_mem_nil, false_imp_iff, implies_true, and_true]
  refine ⟨⟨_, rfl, fun h => ?_⟩, ⟨_, rfl, fun h => ?_⟩⟩ <;> dsimp only <;> rw [haddrs, htag, List.append_nil]
  · obtain ⟨hfree, hbanks, hreads, heffects⟩ := vlaneAccess_faulted hapart h
    rw [vlaneLoad_faulted h]
    exact ⟨vlaneAccess_faults, hfree, hbanks, hreads, congrArg gateStopsOf heffects⟩
  · obtain ⟨hfree, hbanks, hreads, -⟩ := vlaneAccess_faulted hapart h
    exact ⟨(vlaneStore_faults ..).trans vlaneAccess_faults, (vlaneStore_freezes ..).trans hfree, (vlaneStore_banks ..).trans hbanks,
      (vlaneStore_reads ..).trans hreads, gateStopsOf_vlaneStore⟩

theorem laneTraps_vldb : LaneTraps s [.vldb d a x f] [(((areg s a).toNat + ((here s).ctx.getS x.toNat).toInt) % 2 ^ 48).toNat] := by
  refine laneTraps_of fun hapart => ?_
  simp only [List.forall_mem_cons, List.not_mem_nil, false_imp_iff, implies_true, and_true]
  refine ⟨_, rfl, fun h => ?_⟩
  obtain ⟨hfree, hbanks, hreads, heffects⟩ := vlaneAccess_faulted hapart h
  dsimp only
  rw [vaddr_eq, if_pos (isEmpty_faults (by rw [vlaneAccess_faults]; exact h))]
  exact ⟨vlaneAccess_faults, hfree, hbanks, hreads, congrArg gateStopsOf heffects⟩

/-! ## The index register's tag -/

theorem indexed_as : ∃ sg, indexed (here s) a x = indexedAs s a x sg := ⟨indexSigned ((here s).ctx.getVTag x.toNat), by
  unfold indexed indexedAs
  refine List.map_congr_left fun j _ => ?_
  have hsigned := signedOf_toNat_self (w := 32) (by omega) (BitVec.ofNat 32 (elem 32 ((here s).ctx.getV x.toNat) j))
  rw [toNat_ofNat_elem] at hsigned
  rw [vaddr_eq]
  dsimp only
  rw [toNat_ofNat_elem, hsigned]⟩

theorem regIdentity_v (n : BitVec 6) : regIdentity (rd 1 n) = vId n := by
  unfold regIdentity rd vId
  bv_omega

theorem regIdentity_index (x : BitVec 4) : regIdentity (rd 1 x) = vId (x.zeroExtend 6) := by
  unfold regIdentity rd vId
  bv_omega

section
variable (h0 : (here s).ctx.getVTag x.toNat ≠ 0) (h1 : (here s).ctx.getVTag x.toNat ≠ 1)
include h0 h1

theorem indexFault_other : indexFault (here s) x = [(0x1203, vId (x.zeroExtend 6))] := by
  unfold indexFault
  rw [if_neg (not_or.mpr ⟨h0, h1⟩), regIdentity_index]

theorem traps_indexTag (hfree : ∀ sg, lanesFree s (indexedAs s a x sg)) :
    ∀ j ∈ [Instr.vldx d a x f, .vstx d a x], Traps s j 0x1203 (vId (x.zeroExtend 6)) := by
  obtain ⟨sg, hindexed⟩ := indexed_as (s := s) (a := a) (x := x)
  have haccess := vlaneAccess_free (hfree sg)
  have htag := indexFault_other h0 h1
  have hload : vlaneLoad (here s) 8 d f (indexedAs s a x sg) = { vlaneAccess (here s) (indexedAs s a x sg) with
      effects := (resultV (here s) 8 d (ofLanes ((indexedAs s a x sg).map fun a => (here s).spRead a 4)) f 0).effects
        ++ ((indexedAs s a x sg).flatMap fun a => spPoison (here s) a 4).take 1 } := by
    unfold vlaneLoad
    rw [haccess]
    rfl
  simp only [List.forall_mem_cons, List.not_mem_nil, false_imp_iff, implies_true, and_true]
  refine ⟨traps_of_banks rfl ?_ ?_ ?_ ?_ ?_, traps_of_banks rfl ?_ ?_ ?_ ?_ ?_⟩ <;> dsimp only <;> rw [hindexed]
  · rw [hload, haccess]
  · rw [hload, haccess, htag]
    exact lowest_singleton
  · rw [hload, haccess]
  · rw [hload, haccess]
    exact laneBanks_free (hfree sg)
  · rw [hload]
    exact gateStopsOf_spPoison fun e he pa => by rw [List.mem_singleton.mp he]; exact Effect.noConfusion
  · rw [vlaneStore_reads, haccess]
  · rw [vlaneStore_faults, haccess, htag]
    exact lowest_singleton
  · rw [vlaneStore_freezes, haccess]
  · rw [vlaneStore_banks, haccess]
    exact laneBanks_free (hfree sg)
  · exact gateStopsOf_vlaneStore

end

end

end

end Sys2Proof.Proofs

/-! SUPPORT. What the accesses to global memory trap on: a misaligned address, a line that no leaf or permission passes, bank scope, and the register
that ACAS names (18 R347-R349, R355, R358). -/

namespace Sys2Proof.Proofs

open Sys2Proof Sys2Proof.Machine Sys2Proof.Laws Sys2Proof.Claims

/-! ## What an access meets -/

/-- The fault of a walk. -/
abbrev walkFault (f va : Nat) : BitVec 16 × BitVec 64 := (BitVec.ofNat 16 (0x1400 + f), BitVec.ofNat 64 va)

section
variable {s : State} {want : Want} {align ea va n f : Nat}

theorem translated_fault (h : s.xlateCore s.cur want va = .fault f) : translated s s.cur want va = (none, { faults := [walkFault f va] }) := by
  unfold translated
  rw [h]

/-- Lines that translation passes, and one that it does not. -/
theorem translatePieces_fault (base : Nat) (h : s.xlateCore s.cur want va = .fault f) (rest : List (Nat × Nat)) : ∀ {ps : List Piece},
    (∀ p ∈ ps, s.xlateCore s.cur want (base + p.off) = .ok p.target) →
    translatePieces s want base (ps.map (fun p => (base + p.off, p.n)) ++ (va, n) :: rest) = (ps, { faults := [walkFault f va] })
  | [], _ => by
    simp only [List.map_nil, List.nil_append, translatePieces]
    rw [translated_fault h]
  | p :: ps, hall => by
    have hrest := translatePieces_fault base h rest (ps := ps) fun q hq => hall q (List.mem_cons_of_mem _ hq)
    simp only [List.map_cons, List.cons_append, translatePieces]
    rw [translated, hall p (List.mem_cons_self ..)]
    dsimp only
    rw [hrest, Nat.add_sub_cancel_left]

theorem gaccess_misaligned (h : ea % align ≠ 0) : gaccess s want align ea va n = ([], { faults := [(0x1201, BitVec.ofNat 64 ea)] }) := if_pos h

theorem pieces_first (hn : n ≠ 0) (fuel : Nat) : ∃ l rest, pieces 64 (fuel + 1) va n = (va, l) :: rest := ⟨_, _, if_neg hn⟩

/-- An access whose first line faults. -/
theorem gaccess_first (halign : ea % align = 0) (hn : n ≠ 0) (h : s.xlateCore s.cur want va = .fault f) :
    gaccess s want align ea va n = ([], { faults := [walkFault f va] }) := by
  obtain ⟨l, rest, hpieces⟩ := pieces_first (va := va) hn (n / 64 + 1)
  unfold gaccess
  rw [if_neg (not_not.mpr halign), hpieces]
  exact translatePieces_fault (ps := []) va h rest fun _ h => nomatch h

/-- The lines of an access that begins at one. -/
theorem pieces_lines : ∀ (c fuel : Nat) {va n : Nat}, va % 64 = 0 → 64 * c < n → c < fuel →
    ∃ l rest, pieces 64 fuel va n = (List.range c).map (fun b => (va + 64 * b, 64)) ++ (va + 64 * c, l) :: rest
  | 0, fuel + 1, va, n, _, hn, _ => ⟨_, _, if_neg (by omega)⟩
  | c + 1, fuel + 1, va, n, halign, hn, hfuel => by
    obtain ⟨l, rest, hrest⟩ := pieces_lines c fuel (va := va + 64) (n := n - 64) (by omega) (by omega) (by omega)
    refine ⟨l, rest, ?_⟩
    have hline : min n (64 - va % 64) = 64 := by omega
    rw [pieces, if_neg (by omega)]
    dsimp only
    rw [hline, hrest, List.range_succ_eq_map, List.map_cons, List.map_map]
    simp only [Nat.mul_zero, Nat.add_zero, List.cons_append]
    congr 1
    congr 1
    · exact List.map_congr_left fun b _ => by simp only [Function.comp]; congr 1; omega
    · congr 2
      omega

/-- The pieces of lines that translation passes. -/
theorem passed_lines {q : PAddr → Prop} : ∀ {c : Nat}, (∀ b < c, ∃ p, s.xlateCore s.cur want (va + 64 * b) = .ok p ∧ q p) →
    ∃ ps : List Piece, ps.map (fun p => (va + p.off, p.n)) = (List.range c).map (fun b => (va + 64 * b, 64)) ∧ ps.length = c
      ∧ ∀ p ∈ ps, s.xlateCore s.cur want (va + p.off) = .ok p.target ∧ q p.target
  | 0, _ => ⟨[], rfl, rfl, fun _ h => nomatch h⟩
  | c + 1, h => by
    obtain ⟨ps, hps, hlen, hall⟩ := passed_lines fun b hb => h b (Nat.lt_succ_of_lt hb)
    obtain ⟨p, hp, hq⟩ := h c (Nat.lt_succ_self c)
    refine ⟨ps ++ [{ target := p, off := 64 * c, n := 64 }], ?_, by rw [List.length_append, hlen]; rfl, fun r hr => ?_⟩
    · rw [List.map_append, hps, List.range_succ, List.map_append]
      rfl
    · rcases List.mem_append.mp hr with hr | hr
      · exact hall r hr
      · rw [List.mem_singleton.mp hr]
        exact ⟨hp, hq⟩

/-- A row access that faults at its line `c`, those before it being passed. -/
theorem gaccess_line {c : Nat} {q : PAddr → Prop} (hea : ea % 64 = 0) (halign : va % 64 = 0) (hc : 64 * c < n)
    (hbefore : ∀ b < c, ∃ p, s.xlateCore s.cur want (va + 64 * b) = .ok p ∧ q p) (h : s.xlateCore s.cur want (va + 64 * c) = .fault f) :
    ∃ ps, gaccess s want 64 ea va n = (ps, { faults := [walkFault f (va + 64 * c)] }) ∧ ps.length = c ∧ ∀ p ∈ ps, q p.target := by
  obtain ⟨l, rest, hpieces⟩ := pieces_lines c (n / 64 + 2) halign hc (by omega)
  obtain ⟨ps, hps, hlen, hall⟩ := passed_lines hbefore
  refine ⟨ps, ?_, hlen, fun p hp => (hall p hp).2⟩
  unfold gaccess
  rw [if_neg (not_not.mpr hea), hpieces, ← hps]
  exact translatePieces_fault va h rest fun p hp => (hall p hp).1

end

/-! ## Loads -/

section
variable {s : State} {d : BitVec 6} {a : BitVec 4} {ps : List Piece} {fs : List (BitVec 16 × BitVec 64)} {align n : Nat}

theorem gload_meets (hland : landingFree s) (hfree : loadFree s ps) (h : gaccess s .read align (addr s a) (addr s a) n = (ps, { faults := fs }))
    (cls file dest dist : Nat) (sz scope : BitVec 3) :
    gload a align n cls file dest dist sz scope s (here s) = { effects := [.load ps cls file dest dist sz scope], faults := fs } := by
  have hheld : (ps.any fun p => s.loadHeld (s.partOfCore s.cur) p.target) = false :=
    List.any_eq_false.mpr fun p hp => Bool.eq_false_iff.mp (hfree p hp)
  unfold gload
  rw [show gaddr (here s) a = addr s a from rfl]
  dsimp only
  rw [h]
  dsimp only
  rw [hheld, landFreeze_free hland]
  rfl

theorem loadFree_nil : loadFree s [] := fun _ h => nomatch h

theorem traps_gload {i : Instr} {cls file dist : Nat} {dest : Core → Nat} {sz scope : BitVec 3} {code : BitVec 16} {tval : BitVec 64} (hland : landingFree s) (hfree : loadFree s ps)
    (hexec : exec i s = issueSlot i (fun s c => gload a align n cls file (dest c) dist sz scope s c) s)
    (h : gaccess s .read align (addr s a) (addr s a) n = (ps, { faults := [(code, tval)] })) : Traps s i code tval := by
  refine traps_of hexec ?_ ?_ ?_ ?_ ?_ <;> rw [gload_meets hland hfree h]
  · exact lowest_singleton
  · rfl

/-- A word load traps on its alignment and on the walk of its address. -/
theorem traps_wordLoad {i : Instr} {cls file dist sz : Nat} {dest : Core → Nat} {z scope : BitVec 3} (hland : landingFree s) (hsz : sz ≠ 0)
    (hexec : exec i s = issueSlot i (fun s c => gload a sz sz cls file (dest c) dist z scope s c) s) :
    (addr s a % sz ≠ 0 → Traps s i 0x1201 (BitVec.ofNat 64 (addr s a))) ∧ (addr s a % sz = 0 → WalkTraps s i .read (addr s a)) :=
  ⟨fun h => traps_gload hland loadFree_nil hexec (gaccess_misaligned h), fun h _ _ _ hf => traps_gload hland loadFree_nil hexec (gaccess_first h hsz hf)⟩

theorem over_scopeFault {f : BitVec 16 × BitVec 64} (i : Instr) (c : Core) (k : BitVec 3) (h : f.1.toNat < 0x1206) : Over f (scopeFault i c k) :=
  over_ite (fun _ => over_cons.mpr ⟨.inr h, over_nil⟩) fun _ => over_nil

theorem misaligned_lt_scope : (0x1201 : BitVec 16).toNat < 0x1206 := by decide

theorem scopeFault_bank (i : Instr) (c : Core) : scopeFault i c 5 = [(0x1206, slotWord i c.iss)] := if_pos rfl

theorem traps_lda_of {z : BitVec 3} {code : BitVec 16} {tval : BitVec 64} (hland : landingFree s) (hfree : loadFree s ps)
    (h : gaccess s .read 8 (addr s a) (addr s a) 8 = (ps, { faults := fs })) (hlowest : Lowest (code, tval) (fs ++ scopeFault (.lda d a z) (here s) z)) :
    Traps s (.lda d a z) code tval := by
  refine traps_of rfl ?_ ?_ ?_ ?_ ?_ <;> dsimp only <;> rw [gload_meets hland hfree h]
  · exact hlowest
  · rfl

theorem traps_lda (z : BitVec 3) (hland : landingFree s) :
    (addr s a % 8 ≠ 0 → Traps s (.lda d a z) 0x1201 (BitVec.ofNat 64 (addr s a)))
    ∧ (z ≠ 5 → addr s a % 8 = 0 → WalkTraps s (.lda d a z) .read (addr s a)) := by
  refine ⟨fun h => ?_, fun hz h f _ _ hf => ?_⟩
  · exact traps_lda_of hland loadFree_nil (gaccess_misaligned h) (lowest_singleton.left (over_scopeFault _ _ _ misaligned_lt_scope))
  · refine traps_lda_of hland loadFree_nil (gaccess_first h (by decide) hf) ?_
    rw [scopeFault_none _ _ hz, List.append_nil]
    exact lowest_singleton

theorem traps_lda_bank (hland : landingFree s) (hfree : loadFree s ps) (h : placed s .read 8 (addr s a) (addr s a) 8 ps) :
    Traps s (.lda d a 5) 0x1206 (slotWord (.lda d a 5) (here s).iss) := by
  refine traps_lda_of hland hfree (gaccess_placed h) ?_
  rw [scopeFault_bank]
  exact lowest_singleton

theorem traps_ldgv {o : BitVec 5} {z : BitVec 3} (hland : landingFree s) :
    (addr s a % 64 ≠ 0 → Traps s (.ldgv d a o z) 0x1201 (BitVec.ofNat 64 (addr s a)))
    ∧ (addr s a % 64 = 0 → ∀ c, 64 * c < 512 / 2 ^ z.toNat →
        (∀ b < c, ∃ p, s.xlateCore s.cur .read (addr s a + 64 * b) = .ok p ∧ s.loadHeld (s.partOfCore s.cur) p = false) →
        WalkTraps s (.ldgv d a o z) .read (addr s a + 64 * c)) := by
  refine ⟨fun h => traps_gload hland loadFree_nil rfl (gaccess_misaligned h), fun h c hc hbefore f _ _ hf => ?_⟩
  rw [← rowBytes_eq] at hc
  obtain ⟨ps, haccess, -, hfree⟩ := gaccess_line h h hc hbefore hf
  exact traps_gload hland hfree rfl haccess

end

end Sys2Proof.Proofs

/-! SUPPORT. The stores, the atomics and the software cache's slots trap on their address, on bank scope and on the register that ACAS names (18 R347-R349,
R355, R358). -/

namespace Sys2Proof.Proofs

open Sys2Proof Sys2Proof.Machine Sys2Proof.Laws Sys2Proof.Claims

/-! ## Stores -/

section
variable {s : State} {d : BitVec 6} {a : BitVec 4} {ps : List Piece} {fs : List (BitVec 16 × BitVec 64)} {off unit align n : Nat}

theorem gstore_meets (hfree : queueFree s ps.length) (h : gaccess s .write align (addr s a) (addr s a + off * unit) n = (ps, { faults := fs }))
    (cls data psn : Nat) (scope : BitVec 3) :
    gstore a off unit align n cls data psn scope s (here s) = { effects := [.store ps cls data psn scope], faults := fs } := by
  unfold gstore
  rw [show gaddr (here s) a = addr s a from rfl]
  dsimp only
  rw [h]
  dsimp only
  rw [queueFreeze_free hfree (Nat.le_refl _)]
  rfl

theorem queueFree_mono {m n : Nat} (h : queueFree s m) (hn : n ≤ m) : queueFree s n := by
  unfold queueFree at h ⊢
  omega

theorem queueFree_nil {m : Nat} (h : queueFree s m) : queueFree s ([] : List Piece).length := queueFree_mono h (Nat.zero_le m)

theorem traps_gstore {i : Instr} {cls : Nat} {data psn : Core → Nat} {scope : BitVec 3} {code : BitVec 16} {tval : BitVec 64} (hfree : queueFree s ps.length)
    (hexec : exec i s = issueSlot i (fun s c => gstore a off unit align n cls (data c) (psn c) scope s c) s)
    (h : gaccess s .write align (addr s a) (addr s a + off * unit) n = (ps, { faults := [(code, tval)] })) : Traps s i code tval := by
  refine traps_of hexec ?_ ?_ ?_ ?_ ?_ <;> rw [gstore_meets hfree h]
  · exact lowest_singleton
  · rfl

theorem traps_stg {l : BitVec 2} {o : BitVec 5} {z : BitVec 3} (hfree : queueFree s 1) :
    (addr s a % 2 ^ z.toNat ≠ 0 → Traps s (.stg l d a o z) 0x1201 (BitVec.ofNat 64 (addr s a)))
    ∧ (addr s a % 2 ^ z.toNat = 0 → WalkTraps s (.stg l d a o z) .write (addr s a + o.toNat * 2 ^ z.toNat)) := by
  refine ⟨fun h => traps_gstore (queueFree_nil hfree) rfl (gaccess_misaligned h), fun h f _ _ hf => ?_⟩
  exact traps_gstore (queueFree_nil hfree) rfl (gaccess_first h (Nat.pos_iff_ne_zero.mp (Nat.two_pow_pos _)) hf)

theorem traps_stl_of {o : BitVec 5} {z : BitVec 3} {code : BitVec 16} {tval : BitVec 64} (hfree : queueFree s ps.length)
    (h : gaccess s .write 8 (addr s a) (addr s a + o.toNat * 8) 8 = (ps, { faults := fs }))
    (hlowest : Lowest (code, tval) (fs ++ scopeFault (.stl d a o z) (here s) z)) : Traps s (.stl d a o z) code tval := by
  refine traps_of rfl ?_ ?_ ?_ ?_ ?_ <;> dsimp only <;> rw [gstore_meets hfree h]
  · exact hlowest
  · rfl

theorem traps_stl {o : BitVec 5} {z : BitVec 3} (hfree : queueFree s 1) :
    (addr s a % 8 ≠ 0 → Traps s (.stl d a o z) 0x1201 (BitVec.ofNat 64 (addr s a)))
    ∧ (z ≠ 5 → addr s a % 8 = 0 → WalkTraps s (.stl d a o z) .write (addr s a + o.toNat * 8)) := by
  refine ⟨fun h => ?_, fun hz h f _ _ hf => ?_⟩
  · exact traps_stl_of (queueFree_nil hfree) (gaccess_misaligned h) (lowest_singleton.left (over_scopeFault _ _ _ misaligned_lt_scope))
  · refine traps_stl_of (queueFree_nil hfree) (gaccess_first h (by decide) hf) ?_
    rw [scopeFault_none _ _ hz, List.append_nil]
    exact lowest_singleton

theorem traps_stl_bank {o : BitVec 5} (hfree : queueFree s 1) (hlen : ps.length = 1) (h : placed s .write 8 (addr s a) (addr s a + o.toNat * 8) 8 ps) :
    Traps s (.stl d a o 5) 0x1206 (slotWord (.stl d a o 5) (here s).iss) := by
  refine traps_stl_of (hlen ▸ hfree) (gaccess_placed h) ?_
  rw [scopeFault_bank]
  exact lowest_singleton

theorem traps_stgv_misaligned {o : BitVec 5} {z : BitVec 3} (hfree : queueFree s 1) (h : addr s a % 64 ≠ 0) :
    Traps s (.stgv d a o z) 0x1201 (BitVec.ofNat 64 (addr s a)) := traps_gstore (queueFree_nil hfree) rfl (gaccess_misaligned h)

/-- A row fills lines, or lies in one. -/
theorem row_fills_or_fits : ∀ z : BitVec 3, 512 / 2 ^ z.toNat % 64 = 0 ∨ 512 / 2 ^ z.toNat < 64 := by decide

theorem traps_stgv_line {o : BitVec 5} {z : BitVec 3} {c : Nat} (halign : addr s a % 64 = 0) (hc : 64 * c < 512 / 2 ^ z.toNat) (hfree : queueFree s c)
    (hbefore : ∀ b < c, ∃ p, s.xlateCore s.cur .write (addr s a + o.toNat * (512 / 2 ^ z.toNat) + 64 * b) = .ok p) :
    WalkTraps s (.stgv d a o z) .write (addr s a + o.toNat * (512 / 2 ^ z.toNat) + 64 * c) := by
  intro f _ _ hf
  rw [← rowBytes_eq] at hc hbefore hf ⊢
  rcases row_fills_or_fits z with hrow | hrow <;> rw [← rowBytes_eq] at hrow
  · have hva : (addr s a + o.toNat * rowBytes z) % 64 = 0 := by
      rw [Nat.add_mod, halign, Nat.mul_mod, hrow, Nat.mul_zero]
    obtain ⟨ps, haccess, hlen, -⟩ := gaccess_line (q := fun _ => True) halign hva hc (fun b hb => (hbefore b hb).imp fun _ h => ⟨h, trivial⟩) hf
    exact traps_gstore (hlen.symm ▸ hfree) rfl haccess
  · obtain rfl : c = 0 := by omega
    exact traps_gstore (queueFree_nil hfree) rfl (gaccess_first halign (by omega) hf)

end

/-! ## Atomics -/

section
variable {s : State} {d : BitVec 6} {a : BitVec 4} {ps : List Piece} {fs : List (BitVec 16 × BitVec 64)} {w : BitVec 2} {k z : BitVec 3} {i : Instr}

theorem atomBytes_ne_zero (z : BitVec 3) : atomBytes z ≠ 0 := by
  unfold atomBytes
  split
  · decide
  · split <;> decide

theorem gatomic_meets (hfree : queueFree s 1) (h : gaccess s .write (atomBytes z) (addr s a) (addr s a) (atomBytes z) = (ps, { faults := fs })) (i : Instr) (op : AtomOp)
    (ord : BitVec 2) (k : BitVec 3) (x : Nat) (x2 : BitVec 64) {dest : Option Nat} (hland : dest.isSome = true → landingFree s) :
    Meets (gatomic i op a ord k z x x2 dest s (here s)) (fs ++ scopeFault i (here s) k) := by
  have hroom : (if dest.isSome = true then landFreeze (here s) (addr s a) else []) = [] := by
    split
    · next hdest => exact landFreeze_free (hland hdest) _
    · rfl
  have hbody : gatomic i op a ord k z x x2 dest s (here s) =
      { effects := ps.map fun p => .atomic op z p x x2 dest k ord, faults := fs ++ scopeFault i (here s) k, boundary := ordersSegment ord dest.isSome } := by
    unfold gatomic
    rw [show gaddr (here s) a = addr s a from rfl]
    dsimp only
    rw [h]
    dsimp only
    rw [queueFreeze_free hfree (atomicEntries_le ..), hroom]
    rfl
  rw [hbody]
  exact ⟨rfl, rfl, rfl, rfl, gateStopsOf_none fun e he pa => by
    obtain ⟨p, -, rfl⟩ := List.mem_map.mp he
    exact Effect.noConfusion⟩

/-- An atomic traps on its alignment, and, but at bank scope, on the walk of its address. -/
theorem traps_gatomic {op : AtomOp} {x : Core → Nat} {x2 : Core → BitVec 64} {dest : Core → Option Nat} (hfree : queueFree s 1)
    (hland : (dest (here s)).isSome = true → landingFree s)
    (hexec : exec i s = issueSlot i (fun s c => gatomic i op a w k z (x c) (x2 c) (dest c) s c) s) :
    (addr s a % atomBytes z ≠ 0 → Traps s i 0x1201 (BitVec.ofNat 64 (addr s a)))
    ∧ (k ≠ 5 → addr s a % atomBytes z = 0 → WalkTraps s i .write (addr s a)) := by
  refine ⟨fun h => ?_, fun hk h f _ _ hf => ?_⟩
  · exact traps_meets hexec (gatomic_meets hfree (gaccess_misaligned h) i op w k _ _ hland) (lowest_singleton.left (over_scopeFault _ _ _ misaligned_lt_scope))
  · refine traps_meets hexec (gatomic_meets hfree (gaccess_first h (atomBytes_ne_zero z) hf) i op w k _ _ hland) ?_
    rw [scopeFault_none _ _ hk, List.append_nil]
    exact lowest_singleton

theorem traps_gatomic_bank {op : AtomOp} {x : Core → Nat} {p : Piece} (hfree : queueFree s 1)
    (hexec : exec i s = issueSlot i (fun s c => gatomic i op a w 5 z (x c) 0 none s c) s)
    (h : placed s .write (atomBytes z) (addr s a) (addr s a) (atomBytes z) [p]) : Traps s i 0x1206 (slotWord i (here s).iss) := by
  refine traps_meets hexec (gatomic_meets hfree (gaccess_placed h) i op w 5 _ _ fun h => nomatch h) ?_
  rw [scopeFault_bank]
  exact lowest_singleton

theorem exec_atomicForms : ∀ p ∈ atomicForms d a w k z,
    exec p.1 s = issueSlot p.1 (fun s c => gatomic p.1 p.2 a w k z (c.ctx.getS d.toNat).toNat 0 none s c) s := by
  simp only [atomicForms, List.forall_mem_cons, List.not_mem_nil, false_imp_iff, implies_true, and_true]
  exact ⟨rfl, rfl, rfl, rfl, rfl, rfl, rfl⟩

theorem traps_atomicForms (hfree : queueFree s 1) : ∀ j ∈ (atomicForms d a w k z).map (·.1),
    (addr s a % atomBytes z ≠ 0 → Traps s j 0x1201 (BitVec.ofNat 64 (addr s a)))
    ∧ (k ≠ 5 → addr s a % atomBytes z = 0 → WalkTraps s j .write (addr s a)) := by
  intro j hj
  obtain ⟨p, hp, rfl⟩ := List.mem_map.mp hj
  exact traps_gatomic (x := fun c => (c.ctx.getS d.toNat).toNat) (x2 := fun _ => 0) (dest := fun _ => none) hfree (fun h => nomatch h) (exec_atomicForms p hp)

theorem traps_atomicForms_bank (hfree : queueFree s 1) : ∀ j ∈ (atomicForms d a w 5 z).map (·.1), ∀ p,
    placed s .write (atomBytes z) (addr s a) (addr s a) (atomBytes z) [p] → Traps s j 0x1206 (slotWord j (here s).iss) := by
  intro j hj p hplaced
  obtain ⟨q, hq, rfl⟩ := List.mem_map.mp hj
  exact traps_gatomic_bank (x := fun c => (c.ctx.getS d.toNat).toNat) hfree (exec_atomicForms q hq) hplaced

/-! ### The exchanging forms -/

theorem traps_axch (hfree : queueFree s 1) (hland : landingFree s) :
    (addr s a % atomBytes z ≠ 0 → Traps s (.axch d a w k z) 0x1201 (BitVec.ofNat 64 (addr s a)))
    ∧ (k ≠ 5 → addr s a % atomBytes z = 0 → WalkTraps s (.axch d a w k z) .write (addr s a)) :=
  traps_gatomic (x := fun c => (c.ctx.getS d.toNat).toNat) (x2 := fun _ => 0) (dest := fun c => some (c.ctx.physS d.toNat)) hfree (fun _ => hland) rfl

/-- The 0x1204 fault of ACAS. -/
def casFault (s : State) (d : BitVec 6) (a : BitVec 4) (w : BitVec 2) (k z : BitVec 3) : List (BitVec 16 × BitVec 64) :=
  if d.toNat % 2 = 1 ∨ d = 0 then [(0x1204, slotWord (.acas d a w k z) (here s).iss)] else []

theorem traps_acas_of {code : BitVec 16} {tval : BitVec 64} (hfree : queueFree s 1) (hland : landingFree s)
    (h : gaccess s .write (atomBytes z) (addr s a) (addr s a) (atomBytes z) = (ps, { faults := fs }))
    (hlowest : Lowest (code, tval) (fs ++ scopeFault (.acas d a w k z) (here s) k ++ casFault s d a w k z)) : Traps s (.acas d a w k z) code tval := by
  have hmeets := gatomic_meets hfree h (.acas d a w k z) .cas w k ((here s).ctx.getS d.toNat).toNat ((here s).ctx.getS (d.toNat + 1))
    (dest := some ((here s).ctx.physS d.toNat)) fun _ => hland
  refine traps_meets rfl ?_ hlowest
  dsimp only
  unfold casFault
  split
  · exact ⟨by rw [← hmeets.faults], hmeets.freezes, hmeets.banks, hmeets.reads, hmeets.passed⟩
  · rw [List.append_nil]
    exact hmeets

theorem traps_acas (hfree : queueFree s 1) (hland : landingFree s) :
    (addr s a % atomBytes z ≠ 0 → Traps s (.acas d a w k z) 0x1201 (BitVec.ofNat 64 (addr s a)))
    ∧ (k ≠ 5 → addr s a % atomBytes z = 0 → d.toNat % 2 = 0 → d ≠ 0 → WalkTraps s (.acas d a w k z) .write (addr s a)) := by
  refine ⟨fun h => ?_, fun hk h heven hd f _ _ hf => ?_⟩
  · refine traps_acas_of hfree hland (gaccess_misaligned h) ((lowest_singleton.left (over_scopeFault _ _ _ misaligned_lt_scope)).left ?_)
    exact over_ite (fun _ => over_cons.mpr ⟨.inr (show (0x1201 : BitVec 16).toNat < (0x1204 : BitVec 16).toNat by decide), over_nil⟩) fun _ => over_nil
  · refine traps_acas_of hfree hland (gaccess_first h (atomBytes_ne_zero z) hf) ?_
    rw [scopeFault_none _ _ hk, casFault, if_neg (not_or.mpr ⟨by omega, hd⟩)]
    exact lowest_singleton

theorem traps_acas_register {p : Piece} (hfree : queueFree s 1) (hland : landingFree s) (hd : d.toNat % 2 = 1 ∨ d = 0)
    (h : placed s .write (atomBytes z) (addr s a) (addr s a) (atomBytes z) [p]) :
    Traps s (.acas d a w k z) 0x1204 (slotWord (.acas d a w k z) (here s).iss) := by
  refine traps_acas_of hfree hland (gaccess_placed h) ?_
  rw [casFault, if_pos hd, List.nil_append]
  exact Lowest.right (over_scopeFault _ _ _ (show (0x1204 : BitVec 16).toNat < 0x1206 by decide)) lowest_singleton

/-! ### The quantising forms -/

theorem traps_gquant {f : FFmt} {q : BitVec 3} (hfree : queueFree s 1) (hexec : exec i s = issueSlot i (gquant i f d a w k q) s) (h : addr s a % 8 ≠ 0) :
    Traps s i 0x1201 (BitVec.ofNat 64 (addr s a)) (scaleReads q.toNat) := by
  have hmeets (x : Nat) := gatomic_meets (z := 3) hfree (gaccess_misaligned h) i .add w k x 0 (dest := none) fun h => nomatch h
  refine traps_of hexec rfl ?_ ?_ ?_ ?_ <;> unfold gquant <;> dsimp only
  · rw [(hmeets _).faults]
    exact lowest_singleton.left (over_scopeFault _ _ _ misaligned_lt_scope)
  · exact (hmeets _).freezes
  · exact (hmeets _).banks
  · rw [gateStopsOf, List.filterMap_append, show List.filterMap _ _ = [] from (hmeets _).passed]
    rfl

theorem exec_quantForms {q : BitVec 3} : ∀ p ∈ quantForms d a w k q, exec p.1 s = issueSlot p.1 (gquant p.1 p.2 d a w k q) s := by
  simp only [quantForms, List.forall_mem_cons, List.not_mem_nil, false_imp_iff, implies_true, and_true]
  exact ⟨rfl, rfl, rfl⟩

theorem traps_quantForms {q : BitVec 3} (hfree : queueFree s 1) : ∀ j ∈ (quantForms d a w k q).map (·.1), addr s a % 8 ≠ 0 →
    Traps s j 0x1201 (BitVec.ofNat 64 (addr s a)) (scaleReads q.toNat) := by
  intro j hj h
  obtain ⟨p, hp, rfl⟩ := List.mem_map.mp hj
  exact traps_gquant hfree (exec_quantForms p hp) h

end

/-! ## The software cache -/

section
variable {s : State} {d : BitVec 6} {a : BitVec 4} {f : Nat}

theorem meets_probe {r : BitVec 3} {inv : Bool} (hroom : (here s).sbUsed < 32) (h : s.xlateCore s.cur .read (block s a) = .fault f) :
    Meets (probe r d a inv s (here s)) [walkFault f (block s a)] := by
  have hwalk := translated_fault h
  unfold probe
  rw [show blockAddr (here s) a = block s a from rfl]
  dsimp only
  rw [hwalk]
  dsimp only
  split
  · exact ⟨rfl, rfl, rfl, rfl, rfl⟩
  · split
    · exact ⟨rfl, rfl, rfl, rfl, rfl⟩
    · exact ⟨rfl, if_neg (Nat.not_le.mpr hroom), rfl, rfl, rfl⟩

theorem meets_blockOp {e : Nat → Nat → Effect} (he : ∀ x y, gateStopsOf [e x y] = []) (h : s.xlateCore s.cur .read (block s a) = .fault f) :
    Meets (blockOp a e s (here s)) [walkFault f (block s a)] := by
  have hwalk := translated_fault h
  unfold blockOp
  rw [show blockAddr (here s) a = block s a from rfl]
  dsimp only
  rw [hwalk]
  dsimp only
  split
  · exact ⟨rfl, rfl, rfl, rfl, he _ _⟩
  · exact ⟨rfl, rfl, rfl, rfl, rfl⟩

theorem traps_cacheSlots {r : BitVec 3} {n : BitVec 1} (hroom : (here s).sbUsed < 32) :
    ∀ j ∈ [Instr.probe r d a, .probei r d a, .pinv a, .ppin a n], WalkTraps s j .read (block s a) := by
  simp only [List.forall_mem_cons, List.not_mem_nil, false_imp_iff, implies_true, and_true]
  exact ⟨fun f _ _ h => traps_meets rfl (meets_probe hroom h) lowest_singleton, fun f _ _ h => traps_meets rfl (meets_probe hroom h) lowest_singleton,
    fun f _ _ h => traps_meets rfl (meets_blockOp (fun _ _ => rfl) h) lowest_singleton,
    fun f _ _ h => traps_meets rfl (meets_blockOp (fun _ _ => rfl) h) lowest_singleton⟩

end

end Sys2Proof.Proofs

/-! SUPPORT. What transfers, launches, parks, loops, beacons, fences and phases trap on (18 R347, R355, R360, 03 R78). -/

namespace Sys2Proof.Proofs

open Sys2Proof Sys2Proof.Machine Sys2Proof.Laws Sys2Proof.Claims

section
variable {s : State} {a b : BitVec 6}

/-! ## Transfers, launches and parks -/

theorem targetFault_misaligned {t : BitVec 64} (h : t.toNat % 16 ≠ 0) : targetFault t = [(0x1201, t)] := if_neg h

theorem traps_bri (h : (sreg s a).toNat % 16 ≠ 0) : Traps s (.bri a) 0x1201 (sreg s a) :=
  traps_meets rfl ⟨targetFault_misaligned h, rfl, rfl, rfl, rfl⟩ lowest_singleton

theorem traps_ret (h : (sreg s 31).toNat % 16 ≠ 0) : Traps s .ret 0x1201 (sreg s 31) :=
  traps_meets rfl ⟨targetFault_misaligned h, rfl, rfl, rfl, rfl⟩ lowest_singleton

theorem traps_launch (h : (sreg s a).toNat % 64 ≠ 0) : Traps s (.launch a) 0x1201 (sreg s a) :=
  traps_meets rfl ⟨if_neg h, rfl, rfl, rfl, rfl⟩ lowest_singleton

theorem traps_park (h : (sreg s a).toNat % 8 ≠ 0) : Traps s (.park a b) 0x1201 (sreg s a) := by
  have hne : (here s).ctx.getS a.toNat ≠ 0 := fun hzero => h (by rw [show sreg s a = 0 from hzero]; rfl)
  refine traps_meets (fs := [(0x1201, sreg s a)]) rfl ?_ lowest_singleton
  dsimp only
  rw [if_neg hne, if_pos h]
  exact ⟨rfl, rfl, rfl, rfl, rfl⟩

theorem walkTraps_park (h : (sreg s a).toNat % 8 = 0) (hne : sreg s a ≠ 0) : WalkTraps s (.park a b) .read (sreg s a).toNat := by
  intro f _ _ hf
  refine traps_meets (fs := [walkFault f (sreg s a).toNat]) rfl ?_ lowest_singleton
  dsimp only
  rw [if_neg hne, if_neg (not_not.mpr h), translated_fault hf]
  exact ⟨rfl, rfl, rfl, rfl, rfl⟩

/-! ## Beacons -/

section
variable {ar : BitVec 4} {k : BitVec 3}

theorem over_spBeacon_range {f : BitVec 16 × BitVec 64} {pw off : Nat} (h : f.1.toNat < 0x1202) : Over f (spFaults pw 1 off 8) := by
  unfold spFaults
  rw [if_pos (Nat.mod_one _), List.nil_append]
  split
  · exact over_cons.mpr ⟨.inr h, over_nil⟩
  · exact over_nil

theorem spBeaconFaults_misaligned (h : addr s ar % 8 ≠ 0) : Lowest (0x1201, BitVec.ofNat 64 (addr s ar)) (spBeaconFaults (here s) ar) := by
  unfold spBeaconFaults
  rw [show gaddr (here s) ar = addr s ar from rfl, if_neg h]
  exact lowest_singleton.left (over_spBeacon_range (show (0x1201 : BitVec 16).toNat < 0x1202 by decide))

theorem spBeaconFaults_outside (h : addr s ar % 8 = 0) (hout : spEnd s < addr s ar % 2 ^ 23 + 8) :
    Lowest (0x1202, BitVec.ofNat 64 (max (addr s ar % 2 ^ 23) (spEnd s))) (spBeaconFaults (here s) ar) := by
  unfold spBeaconFaults
  rw [show gaddr (here s) ar = addr s ar from rfl, if_pos h, List.nil_append, spFaults_outside (Nat.mod_one _) hout]
  exact lowest_singleton

/-- The scratchpad forms trap on their beacon. -/
theorem traps_spBeacon {code : BitVec 16} {tval : BitVec 64} (h : Lowest (code, tval) (spBeaconFaults (here s) ar)) :
    ∀ j ∈ [Instr.bwait ar 1 b, .badd k ar 1 b], Traps s j code tval := by
  have hne := List.ne_nil_of_mem h.mem
  simp only [List.forall_mem_cons, List.not_mem_nil, false_imp_iff, implies_true, and_true]
  refine ⟨traps_meets rfl (fs := spBeaconFaults (here s) ar) ?_ h, fun hready => traps_meets rfl (fs := spBeaconFaults (here s) ar) ?_ h hready⟩ <;> dsimp only <;> rw [if_pos rfl]
  · rw [if_pos (isEmpty_faults hne)]
    exact ⟨rfl, rfl, rfl, rfl, rfl⟩
  · rw [if_neg (by simpa using hne), acquireFreeze, hready.quiet.acquired]
    exact ⟨rfl, rfl, rfl, rfl, rfl⟩

theorem traps_bwait_of {code : BitVec 16} {tval : BitVec 64} (h : gaccess s .read 8 (addr s ar) (addr s ar) 8 = ([], { faults := [(code, tval)] })) :
    Traps s (.bwait ar 0 b) code tval := by
  refine traps_meets rfl (fs := [(code, tval)]) ?_ lowest_singleton
  dsimp only
  rw [if_neg (by decide), show gaccess s .read 8 (gaddr (here s) ar) (gaddr (here s) ar) 8 = _ from h]
  exact ⟨rfl, rfl, rfl, rfl, rfl⟩

theorem traps_badd_of {code : BitVec 16} {tval : BitVec 64} (hfree : queueFree s 1)
    (h : gaccess s .write 8 (addr s ar) (addr s ar) 8 = ([], { faults := [(code, tval)] })) : Traps s (.badd k ar 0 b) code tval := by
  refine traps_meets rfl (fs := [(code, tval)]) ?_ lowest_singleton
  dsimp only
  rw [if_neg (by decide), show gaccess s .write 8 (gaddr (here s) ar) (gaddr (here s) ar) 8 = _ from h]
  exact ⟨rfl, queueFreeze_free hfree (atomicEntries_le ..) _ _, rfl, rfl, rfl⟩

theorem traps_beacon_misaligned (h : addr s ar % 8 ≠ 0) :
    ∀ j ∈ [Instr.bwait ar 0 b, .bwait ar 1 b, .badd k ar 1 b], Traps s j 0x1201 (BitVec.ofNat 64 (addr s ar)) :=
  List.forall_mem_cons.mpr ⟨traps_bwait_of (gaccess_misaligned h), traps_spBeacon (spBeaconFaults_misaligned h)⟩

theorem walkTraps_bwait (h : addr s ar % 8 = 0) : WalkTraps s (.bwait ar 0 b) .read (addr s ar) :=
  fun _ _ _ hf => traps_bwait_of (gaccess_first h (by decide) hf)

theorem traps_badd (hfree : queueFree s 1) :
    (addr s ar % 8 ≠ 0 → Traps s (.badd k ar 0 b) 0x1201 (BitVec.ofNat 64 (addr s ar)))
    ∧ (addr s ar % 8 = 0 → WalkTraps s (.badd k ar 0 b) .write (addr s ar)) :=
  ⟨fun h => traps_badd_of hfree (gaccess_misaligned h), fun h _ _ _ hf => traps_badd_of hfree (gaccess_first h (by decide) hf)⟩

/-! ## Fences -/

theorem traps_bfence_of {f : BitVec 16 × BitVec 64} (h : ∀ fuel n, n ≠ 0 → fenceWalk s (fuel + 1) (addr s ar) n = some { faults := [f] }) (hb : sreg s b ≠ 0) :
    Traps s (.bfence ar b) f.1 f.2 := by
  have hn : ((here s).ctx.getS b.toNat).toNat ≠ 0 := fun hzero => hb (BitVec.eq_of_toNat_eq hzero)
  refine traps_meets rfl (fs := [f]) ?_ lowest_singleton
  dsimp only
  rw [show fenceWalk s (((here s).ctx.getS b.toNat).toNat / 2 ^ 14 + 2) (gaddr (here s) ar) ((here s).ctx.getS b.toNat).toNat = _ from h _ _ hn]
  exact ⟨rfl, rfl, rfl, rfl, rfl⟩

theorem walkTraps_bfence (hb : sreg s b ≠ 0) : WalkTraps s (.bfence ar b) .read (addr s ar) := fun f _ _ hf =>
  traps_bfence_of (f := walkFault f (addr s ar)) (fun fuel n hn => by rw [fenceWalk, if_neg hn, translated_fault hf]) hb

theorem traps_bfence_fabric (hb : sreg s b ≠ 0) {fid ra} (h : s.xlateCore s.cur .read (addr s ar) = .ok (.fabric fid ra)) :
    Traps s (.bfence ar b) 0x1405 (BitVec.ofNat 64 (addr s ar)) :=
  traps_bfence_of (f := (0x1405, BitVec.ofNat 64 (addr s ar))) (fun fuel n hn => by rw [fenceWalk, if_neg hn, translated, h]) hb

end

/-! ## Phases -/

theorem traps_phase_access (hapart : apart s (sreg s a).toNat 32) :
    ((sreg s a).toNat % 32 ≠ 0 → Traps s (.phase a) 0x1201 (BitVec.ofNat 64 (sreg s a).toNat))
    ∧ ((sreg s a).toNat % 32 = 0 → spEnd s < (sreg s a).toNat + 32 → Traps s (.phase a) 0x1202 (BitVec.ofNat 64 (max (sreg s a).toNat (spEnd s)))) := by
  refine traps_spAccess rfl fun h => ?_
  dsimp only
  rw [show spAccess (here s) 32 ((here s).ctx.getS a.toNat).toNat 32 = _ from spAccess_faulted hapart h, if_pos (isEmpty_faults h)]
  exact ⟨rfl, rfl, rfl, rfl, rfl⟩

theorem traps_phase_header {code : BitVec 16} {tval : BitVec 64} (hfree : spFree s 32 (sreg s a).toNat 32)
    (h : Lowest (code, tval) (headerFaults (readBytes (here s).pool.sp (sreg s a).toNat 32) (sreg s a).toNat s.cur)) : Traps s (.phase a) code tval := by
  have haccess : spAccess (here s) 32 ((here s).ctx.getS a.toNat).toNat 32 = _ := spAccess_free hfree
  refine traps_of_banks rfl ?_ ?_ ?_ ?_ ?_ <;> dsimp only <;> rw [haccess]
  · rfl
  · exact h
  · rfl
  · exact banks_free hfree
  · exact gateStopsOf_none fun e he pa => by
      rcases List.mem_cons.mp he with rfl | he
      · exact Effect.noConfusion
      · unfold spPoison at he
        split at he
        · rw [List.mem_singleton.mp he]
          exact Effect.noConfusion
        · cases he

/-- What makes a header's codes and reserved bits sound. -/
def soundHeader (h : BitVec 256) : Prop := 2 ≤ (h.extractLsb' 0 2).toNat ∧ h.extractLsb' 2 14 = 0 ∧ h.extractLsb' 32 32 = 0 ∧ h.extractLsb' 192 64 = 0

section
variable {n off : Nat} (hn : n < 2 ^ 256)
include hn

theorem soundHeader_iff : soundHeader (BitVec.ofNat 256 n) ↔ ¬ (n % 4 < 2 ∨ fieldOf n 15 2 ≠ 0 ∨ fieldOf n 63 32 ≠ 0 ∨ fieldOf n 255 192 ≠ 0) := by
  have hcode : n % 4 = ((BitVec.ofNat 256 n).extractLsb' 0 2).toNat := by
    rw [← fieldOf_header hn 0 1]
    rfl
  have hlow : fieldOf n 15 2 = ((BitVec.ofNat 256 n).extractLsb' 2 14).toNat := fieldOf_header hn 2 13
  have hmid : fieldOf n 63 32 = ((BitVec.ofNat 256 n).extractLsb' 32 32).toNat := fieldOf_header hn 32 31
  have hhigh : fieldOf n 255 192 = ((BitVec.ofNat 256 n).extractLsb' 192 64).toNat := fieldOf_header hn 192 63
  have hzero {w : Nat} (x : BitVec w) : x = 0 ↔ x.toNat = 0 := BitVec.toNat_eq
  unfold soundHeader
  rw [hcode, hlow, hmid, hhigh, hzero, hzero, hzero]
  omega

theorem headerFaults_unsound (h : ¬ soundHeader (BitVec.ofNat 256 n)) (core : BitVec 8) : Lowest (0x1303, BitVec.ofNat 64 off) (headerFaults n off core) := by
  unfold headerFaults
  rw [if_pos (not_not.mp (mt (soundHeader_iff hn).mpr h))]
  exact lowest_singleton.left (over_ite (fun _ => over_nil) fun _ =>
    over_cons.mpr ⟨.inr (show (0x1303 : BitVec 16).toNat < (0x1307 : BitVec 16).toNat by decide), over_nil⟩)

theorem headerFaults_outsider (h : soundHeader (BitVec.ofNat 256 n)) {core : BitVec 8} (hgroup : (BitVec.ofNat 256 n).getLsbD (16 + core.toNat % 16) = false) :
    Lowest (0x1307, BitVec.ofNat 64 off) (headerFaults n off core) := by
  have houtside : (fieldOf n 31 16).testBit (localOf core) = false := by
    rw [BitVec.getLsbD_ofNat] at hgroup
    unfold fieldOf localOf
    rw [Nat.testBit_mod_two_pow, Nat.testBit_shiftRight]
    simp only [Bool.and_eq_false_iff, decide_eq_false_iff_not] at hgroup ⊢
    rcases hgroup with hgroup | hgroup
    · omega
    · exact .inr hgroup
  unfold headerFaults
  rw [if_neg ((soundHeader_iff hn).mp h), houtside]
  exact lowest_singleton

end

/-! ## The loop nest -/

theorem nestOk_false {x : Ctx} {lvl : Nat} {first last : BitVec 64}
    (h : ∃ j < 6, (x.getLevel j).active = true ∧ (j ≤ lvl ∨ first.toNat < (x.getLevel j).first.toNat ∨ (x.getLevel j).last.toNat < last.toNat)) :
    x.nestOk lvl first last = false := by
  obtain ⟨j, hj, hactive, hbad⟩ := h
  refine List.all_eq_false.mpr ⟨j, List.mem_range.mpr hj, ?_⟩
  simp only [hactive, Bool.not_true, Bool.false_or, Bool.and_eq_true, decide_eq_true_eq]
  omega

theorem traps_loop {lvl n : BitVec 3} {i : BitVec 6}
    (h : let first := (here s).ctx.pc + BitVec.ofNat 64 (here s).iss.size
      let last := (({ s with peek := true } : State).bundlesOn s.cur ((if i = 0 then 64 else i.toNat) - 1) first).1
      ∃ j < 6, ((here s).ctx.getLevel j).active = true ∧
        (j ≤ lvl.toNat ∨ first.toNat < ((here s).ctx.getLevel j).first.toNat ∨ ((here s).ctx.getLevel j).last.toNat < last.toNat)) :
    Traps s (.loop lvl a i n) 0x1205 (slotWord (.loop lvl a i n) (here s).iss) :=
  traps_meets rfl ⟨if_neg (Bool.eq_false_iff.mp (nestOk_false h)), rfl, rfl, rfl, rfl⟩ lowest_singleton

end

end Sys2Proof.Proofs

/-! SUPPORT. The vector forms trap on the first source whose tag is not accepted, or is not that of the first source (18 R347, 08 R167, R174). -/

namespace Sys2Proof.Proofs

open Sys2Proof Sys2Proof.Machine Sys2Proof.Laws Sys2Proof.Claims

/-! ## The first source at fault -/

section
variable {c : Core} {ok : Tag → Bool} {a b d : BitVec 6} {l : List (BitVec 6)}

theorem tagFaults_first (h : ok (c.ctx.getVTag a.toNat) = false) : tagFaults c ok (a :: l) = [(0x1203, vId a)] := by
  simp [tagFaults, h, regIdentity_v]

theorem tagFaults_second (hok : ok (c.ctx.getVTag a.toNat) = true) (h : c.ctx.getVTag b.toNat ≠ c.ctx.getVTag a.toNat) :
    tagFaults c ok (a :: b :: l) = [(0x1203, vId b)] := by
  simp [tagFaults, hok, h, regIdentity_v]

theorem tagFaults_third (hok : ok (c.ctx.getVTag a.toNat) = true) (hb : c.ctx.getVTag b.toNat = c.ctx.getVTag a.toNat)
    (h : c.ctx.getVTag d.toNat ≠ c.ctx.getVTag a.toNat) : tagFaults c ok [a, b, d] = [(0x1203, vId d)] := by
  simp [tagFaults, hok, hb, h, regIdentity_v]

end

/-! ## The forms that check their sources -/

/-- All that an instruction faults on is a tag of its sources. -/
def ChecksTags (s : State) (ok : Tag → Bool) (srcs : List (BitVec 6)) (j : Instr) : Prop :=
  ∃ body : State → Core → SlotOut, exec j s = issueSlot j body s ∧ Meets (body s (here s)) (tagFaults (here s) ok srcs)

theorem ChecksTags.traps {s : State} {ok : Tag → Bool} {srcs : List (BitVec 6)} {j : Instr} {n : BitVec 6} (hj : ChecksTags s ok srcs j)
    (h : tagFaults (here s) ok srcs = [(0x1203, vId n)]) : Traps s j 0x1203 (vId n) := by
  obtain ⟨body, hexec, hmeets⟩ := hj
  exact traps_meets hexec hmeets (by rw [h]; exact lowest_singleton)

section
variable (s : State) (d a b : BitVec 6) (m cc : BitVec 3)

theorem checksTags_fpPairs : ∀ j ∈ fpPairs d a b m cc, ChecksTags s fpTag [a, b] j := by
  have hvf2 (lat : Nat) (f : FFmt → Mode → Nat → Nat → Flagged Nat) : Meets (vf2 lat d a b f s (here s)) (tagFaults (here s) fpTag [a, b]) :=
    ⟨rfl, rfl, rfl, rfl, rfl⟩
  simp only [fpPairs, List.forall_mem_cons, List.not_mem_nil, false_imp_iff, implies_true, and_true]
  exact ⟨⟨_, rfl, hvf2 ..⟩, ⟨_, rfl, hvf2 ..⟩, ⟨_, rfl, hvf2 ..⟩, ⟨_, rfl, hvf2 ..⟩, ⟨_, rfl, hvf2 ..⟩, ⟨_, rfl, hvf2 ..⟩, ⟨_, rfl, hvf2 ..⟩, ⟨_, rfl, hvf2 ..⟩,
    ⟨_, rfl, hvf2 ..⟩, ⟨_, rfl, hvf2 ..⟩, ⟨_, rfl, hvf2 ..⟩, ⟨_, rfl, hvf2 ..⟩, ⟨vfcmp m cc a b, rfl, rfl, rfl, rfl, rfl, rfl⟩,
    ⟨vfcmp m cc a b, rfl, rfl, rfl, rfl, rfl, rfl⟩⟩

theorem checksTags_fpTriples : ∀ j ∈ fpTriples d a b, ChecksTags s fpTag [a, b, d] j := by
  have hvf3 (lat : Nat) (f : FFmt → Mode → Nat → Nat → Nat → Flagged Nat) : Meets (vf3 lat d a b f s (here s)) (tagFaults (here s) fpTag [a, b, d]) :=
    ⟨rfl, rfl, rfl, rfl, rfl⟩
  simp only [fpTriples, List.forall_mem_cons, List.not_mem_nil, false_imp_iff, implies_true, and_true]
  exact ⟨⟨_, rfl, hvf3 ..⟩, ⟨_, rfl, hvf3 ..⟩, ⟨_, rfl, hvf3 ..⟩, ⟨_, rfl, hvf3 ..⟩⟩

theorem checksTags_fpSingles : ∀ j ∈ fpSingles d a, ChecksTags s fpTag [a] j := by
  have hvf1 (lat : Nat) (f : FFmt → Mode → Nat → Flagged Nat) : Meets (vf1 lat d a f s (here s)) (tagFaults (here s) fpTag [a]) :=
    ⟨rfl, rfl, rfl, rfl, rfl⟩
  simp only [fpSingles, List.forall_mem_cons, List.not_mem_nil, false_imp_iff, implies_true, and_true]
  exact ⟨⟨_, rfl, hvf1 ..⟩, ⟨_, rfl, hvf1 ..⟩, ⟨_, rfl, hvf1 ..⟩, ⟨_, rfl, hvf1 ..⟩, ⟨_, rfl, hvf1 ..⟩, ⟨_, rfl, hvf1 ..⟩, ⟨_, rfl, hvf1 ..⟩, ⟨_, rfl, hvf1 ..⟩,
    ⟨_, rfl, hvf1 ..⟩, ⟨_, rfl, hvf1 ..⟩⟩

theorem checksTags_intPairs : ∀ j ∈ intPairs d a b m cc, ChecksTags s Fmt.isInt [a, b] j := by
  have hvi2 (lat : Nat) (f : Tag → Nat → Nat → Nat) : Meets (vi2 lat d a b f s (here s)) (tagFaults (here s) Fmt.isInt [a, b]) :=
    ⟨rfl, rfl, rfl, rfl, rfl⟩
  simp only [intPairs, List.forall_mem_cons, List.not_mem_nil, false_imp_iff, implies_true, and_true]
  exact ⟨⟨_, rfl, hvi2 ..⟩, ⟨_, rfl, hvi2 ..⟩, ⟨_, rfl, hvi2 ..⟩, ⟨_, rfl, hvi2 ..⟩, ⟨_, rfl, hvi2 ..⟩, ⟨_, rfl, hvi2 ..⟩, ⟨_, rfl, hvi2 ..⟩, ⟨_, rfl, hvi2 ..⟩,
    ⟨_, rfl, hvi2 ..⟩, ⟨_, rfl, hvi2 ..⟩, ⟨_, rfl, hvi2 ..⟩, ⟨_, rfl, hvi2 ..⟩, ⟨_, rfl, hvi2 ..⟩, ⟨_, rfl, hvi2 ..⟩, ⟨_, rfl, hvi2 ..⟩, ⟨_, rfl, hvi2 ..⟩,
    ⟨vicmp m cc a b, rfl, rfl, rfl, rfl, rfl, rfl⟩, ⟨vicmp m cc a b, rfl, rfl, rfl, rfl, rfl, rfl⟩⟩

theorem checksTags_iabs : ∀ j ∈ [Instr.iabsV0 d a, .iabsV1 d a], ChecksTags s Fmt.isInt [a] j := by
  simp only [List.forall_mem_cons, List.not_mem_nil, false_imp_iff, implies_true, and_true]
  exact ⟨⟨viabs d a, rfl, rfl, rfl, rfl, rfl, rfl⟩, ⟨viabs d a, rfl, rfl, rfl, rfl, rfl, rfl⟩⟩

theorem checksTags_scans (x e : BitVec 1) (o : BitVec 2) :
    ∀ j ∈ [Instr.vscanV0 d a x e o, .vscanV1 d a x e o, .vredV0 d a e o, .vredV1 d a e o], ChecksTags s scanTag [a] j := by
  simp only [List.forall_mem_cons, List.not_mem_nil, false_imp_iff, implies_true, and_true]
  exact ⟨⟨vscan d a x e o, rfl, rfl, rfl, rfl, rfl, rfl⟩, ⟨vscan d a x e o, rfl, rfl, rfl, rfl, rfl, rfl⟩, ⟨vred d a e o, rfl, rfl, rfl, rfl, rfl, rfl⟩,
    ⟨vred d a e o, rfl, rfl, rfl, rfl, rfl, rfl⟩⟩

theorem checksTags_repacks :
    ∀ j ∈ [Instr.unpklV0 d a b, .unpklV1 d a b, .unpkhV0 d a b, .unpkhV1 d a b, .packV0 d a b, .packV1 d a b], ChecksTags s repackTag [a, b] j := by
  have hvpick (wide narrow : List Nat) : Meets (vpick d a b wide narrow s (here s)) (tagFaults (here s) repackTag [a, b]) := ⟨rfl, rfl, rfl, rfl, rfl⟩
  simp only [List.forall_mem_cons, List.not_mem_nil, false_imp_iff, implies_true, and_true]
  exact ⟨⟨_, rfl, hvpick ..⟩, ⟨_, rfl, hvpick ..⟩, ⟨_, rfl, hvpick ..⟩, ⟨_, rfl, hvpick ..⟩, ⟨_, rfl, hvpick ..⟩, ⟨_, rfl, hvpick ..⟩⟩

end

/-! ## Their traps -/

section
variable {s : State} {d a b : BitVec 6} {m cc : BitVec 3}

theorem traps_fp_first (h : fpTag (vtag s a) = false) : ∀ j ∈ fpSingles d a ++ fpPairs d a b m cc ++ fpTriples d a b, Traps s j 0x1203 (vId a) := by
  intro j hj
  rcases List.mem_append.mp hj with hj | hj
  · rcases List.mem_append.mp hj with hj | hj
    · exact (checksTags_fpSingles s d a j hj).traps (tagFaults_first h)
    · exact (checksTags_fpPairs s d a b m cc j hj).traps (tagFaults_first h)
  · exact (checksTags_fpTriples s d a b j hj).traps (tagFaults_first h)

theorem traps_fp_second (hok : fpTag (vtag s a) = true) (h : vtag s b ≠ vtag s a) : ∀ j ∈ fpPairs d a b m cc ++ fpTriples d a b, Traps s j 0x1203 (vId b) := by
  intro j hj
  rcases List.mem_append.mp hj with hj | hj
  · exact (checksTags_fpPairs s d a b m cc j hj).traps (tagFaults_second hok h)
  · exact (checksTags_fpTriples s d a b j hj).traps (tagFaults_second hok h)

theorem traps_fp_third (hok : fpTag (vtag s a) = true) (hb : vtag s b = vtag s a) (h : vtag s d ≠ vtag s a) :
    ∀ j ∈ fpTriples d a b, Traps s j 0x1203 (vId d) := fun j hj => (checksTags_fpTriples s d a b j hj).traps (tagFaults_third hok hb h)

theorem traps_int_first (h : Fmt.isInt (vtag s a) = false) : ∀ j ∈ .iabsV0 d a :: .iabsV1 d a :: intPairs d a b m cc, Traps s j 0x1203 (vId a) := by
  intro j hj
  rcases List.mem_append.mp (show j ∈ [Instr.iabsV0 d a, .iabsV1 d a] ++ intPairs d a b m cc from hj) with hj | hj
  · exact (checksTags_iabs s d a j hj).traps (tagFaults_first h)
  · exact (checksTags_intPairs s d a b m cc j hj).traps (tagFaults_first h)

theorem traps_int_second (hok : Fmt.isInt (vtag s a) = true) (h : vtag s b ≠ vtag s a) : ∀ j ∈ intPairs d a b m cc, Traps s j 0x1203 (vId b) :=
  fun j hj => (checksTags_intPairs s d a b m cc j hj).traps (tagFaults_second hok h)

theorem traps_scans {x e : BitVec 1} {o : BitVec 2} (hint : Fmt.isInt (vtag s a) = false) (hfp : fpTag (vtag s a) = false) :
    ∀ j ∈ [Instr.vscanV0 d a x e o, .vscanV1 d a x e o, .vredV0 d a e o, .vredV1 d a e o], Traps s j 0x1203 (vId a) := by
  have htag : scanTag ((here s).ctx.getVTag a.toNat) = false := by
    unfold scanTag
    rw [hint, hfp]
    rfl
  exact fun j hj => (checksTags_scans s d a x e o j hj).traps (tagFaults_first htag)

theorem traps_repacks (h : 16 < width (vtag s a)) :
    ∀ j ∈ [Instr.unpklV0 d a b, .unpklV1 d a b, .unpkhV0 d a b, .unpkhV1 d a b, .packV0 d a b, .packV1 d a b], Traps s j 0x1203 (vId a) :=
  fun j hj => (checksTags_repacks s d a b j hj).traps (tagFaults_first (decide_eq_false (Nat.not_le.mpr h)))

end

end Sys2Proof.Proofs

/-! SUPPORT. What the copy unit's slots trap on: their descriptor's KIND, the fields that must be 0, reserved codes, rows that leave the offset space, and
quad positions that hold no member (18 R359, 10 R217-R222). -/

namespace Sys2Proof.Proofs

open Sys2Proof Sys2Proof.Machine Sys2Proof.Laws Sys2Proof.Claims

/-! ## Faults with the descriptor's number -/

section
variable {code code' : BitVec 16} {tval tval' : BitVec 64} {e : BitVec 6} {p : Bool}

theorem over_one (h : code.toNat < code'.toNat) : Over (code, tval) [(code', tval')] := over_cons.mpr ⟨.inr h, over_nil⟩

theorem over_same : Over (code, tval) [(code, tval)] := over_cons.mpr ⟨.inl rfl, over_nil⟩

theorem over_eFault (h : code.toNat < code'.toNat) : Over (code, tval) (eFault code' e p) := over_ite (fun _ => over_one h) fun _ => over_nil

theorem over_eFault_same : Over (code, e.zeroExtend 64) (eFault code e p) := over_ite (fun _ => over_same) fun _ => over_nil

theorem eFault_true (h : p = true) : eFault code e p = [(code, e.zeroExtend 64)] := if_pos h

theorem over_peerFault {s : State} {pos : Nat} (h : code.toNat < (0x1307 : BitVec 16).toNat) : Over (code, tval) (peerFault s pos e) :=
  over_ite (fun _ => over_nil) fun _ => over_one h

end

/-! ## Engine slots -/

/-- What an engine slot faults on beside word 0 of its descriptor. -/
def partFaults (kind : Nat) (e : BitVec 6) (d : Desc) (fs : List (BitVec 16 × BitVec 64)) : List (BitVec 16 × BitVec 64) :=
  (if kindReserved kind d then [((0x1302 : BitVec 16), e.zeroExtend 64)] else []) ++ fs

section
variable {s : State} {i : Instr} {name : OpName} {kind : Nat} {e : BitVec 6} {k : BitVec 3} {full : Core → BitVec 3 → Bool}
  {part : State → Core → Desc → EngPart} {reads : List Use} {code : BitVec 16} {tval : BitVec 64} {fs : List (BitVec 16 × BitVec 64)}

/-- A descriptor of another KIND. -/
theorem meets_otherKind (hkind : descField (ereg s e) 0 3 0 ≠ kind) (hword : word0Faults (here s) (ereg s e) e = [])
    (hroom : full (here s) (slotPort i (here s).iss.port) = false) :
    Meets (engineSlot i name kind e k full part s (here s)) [(0x1301, e.zeroExtend 64)] (beaconReads (ereg s e)) := by
  unfold engineSlot
  dsimp only
  rw [if_pos hkind, hword, hroom]
  exact ⟨rfl, rfl, rfl, rfl, rfl⟩

/-- What a part adds beside its faults: nothing that keeps the slot from trapping on them. -/
structure Issuable (p : EngPart) (reads : List Use) : Prop where
  ranges : p.ranges.length ≤ 4 := by exact Nat.zero_le 4
  waits : p.waits = [] := by rfl
  banks : p.banks = [] := by rfl
  reads : p.reads = reads := by rfl
  passed : gateStopsOf p.effects = [] := by rfl

theorem engineTraps_of (hexec : exec i s = issueSlot i (engineSlot i name kind e k full part) s)
    (hroom : full (here s) (slotPort i (here s).iss.port) = false) (hissuable : Issuable (part s (here s) (ereg s e)) reads)
    (hfaults : (part s (here s) (ereg s e)).faults = fs) (hlowest : Lowest (code, tval) (partFaults kind e (ereg s e) fs)) :
    EngineTraps s i kind e reads code tval := by
  intro hkind hword hsb
  refine traps_meets hexec (fs := partFaults kind e (ereg s e) fs) ?_ hlowest
  obtain ⟨hranges, hwaits, hbanks, hreads, hpassed⟩ := hissuable
  unfold engineSlot
  dsimp only
  rw [if_neg (not_not.mpr hkind), hword, hroom, if_neg (show ¬ 32 < (here s).sbUsed + (part s (here s) (ereg s e)).ranges.length by omega), hwaits, hreads,
    hbanks, hfaults]
  exact ⟨rfl, rfl, rfl, rfl, hpassed⟩

/-- Where the fields of its KIND are in order, a slot traps on what its part says. -/
theorem partFaults_sound (h : kindReserved kind (ereg s e) = false) : partFaults kind e (ereg s e) fs = fs := by
  unfold partFaults
  rw [h]
  rfl

theorem over_reserved {d : Desc} (h : code.toNat < (0x1302 : BitVec 16).toNat) :
    Over (code, tval) (if kindReserved kind d then [((0x1302 : BitVec 16), e.zeroExtend 64)] else []) := over_ite (fun _ => over_one h) fun _ => over_nil

/-- A fault lower than those of reserved fields stands whatever they hold. -/
theorem lowest_part {d : Desc} (h : Lowest (code, tval) fs) (hcode : code.toNat < (0x1302 : BitVec 16).toNat) :
    Lowest (code, tval) (partFaults kind e d fs) := Lowest.right (over_reserved hcode) h

/-- And that of other fields that must be 0 has the same code and value. -/
theorem lowest_mustBeZero {d : Desc} : Lowest (0x1302, e.zeroExtend 64) (partFaults kind e d [(0x1302, e.zeroExtend 64)]) := by
  unfold partFaults
  exact Lowest.right (over_ite (fun _ => over_same) fun _ => over_nil) lowest_singleton

end

/-! ## The KIND that each form accepts -/

section
variable {s : State} {k x y z : BitVec 3} {e : BitVec 6}

/-- Each engine form is an engine slot of its KIND, whose unit has room below its limit. -/
theorem exec_engineKinds : ∀ j ∈ engineKinds k x y z e, ∃ (name : OpName) (full : Core → BitVec 3 → Bool) (part : State → Core → Desc → EngPart),
    exec j.1 s = issueSlot j.1 (engineSlot j.1 name j.2.1 e k full part) s
    ∧ (roomFor s j.1 j.2.2 → full (here s) (slotPort j.1 (here s).iss.port) = false) := by
  simp only [engineKinds, List.forall_mem_cons, List.not_mem_nil, false_imp_iff, implies_true, and_true]
  exact ⟨⟨_, _, _, rfl, room_copy⟩, ⟨_, _, _, rfl, room_copy⟩, ⟨_, _, _, rfl, room_copy⟩, ⟨_, _, _, rfl, room_copy⟩, ⟨_, _, _, rfl, room_copy⟩,
    ⟨_, _, _, rfl, room_copy⟩, ⟨_, _, _, rfl, fun _ => rfl⟩, ⟨_, _, _, rfl, fun _ => rfl⟩, ⟨_, _, _, rfl, fun _ => rfl⟩, ⟨_, _, _, rfl, fun _ => rfl⟩,
    ⟨_, _, _, rfl, room_bag⟩, ⟨_, _, _, rfl, room_bag⟩, ⟨_, _, _, rfl, room_bag⟩, ⟨_, _, _, rfl, room_bag⟩, ⟨_, _, _, rfl, room_bag⟩,
    ⟨_, _, _, rfl, room_bag⟩, ⟨_, _, _, rfl, room_bag⟩, ⟨_, _, _, rfl, room_bag⟩, ⟨_, _, _, rfl, room_bag⟩, ⟨_, _, _, rfl, room_bag⟩,
    ⟨_, _, _, rfl, room_bag⟩, ⟨_, _, _, rfl, room_bag⟩, ⟨_, _, _, rfl, room_bag⟩, ⟨_, _, _, rfl, room_bag⟩, ⟨_, _, _, rfl, room_bag⟩⟩

theorem traps_otherKind : ∀ j ∈ engineKinds k x y z e, descField (ereg s e) 0 3 0 ≠ j.2.1 → word0Faults (here s) (ereg s e) e = [] → roomFor s j.1 j.2.2 →
    Traps s j.1 0x1301 (e.zeroExtend 64) (if descField (ereg s e) 0 13 8 = 0 then [] else [rdD 0 (descField (ereg s e) 0 13 8)]) := by
  intro j hj hkind hword hroom
  obtain ⟨name, full, part, hexec, hfull⟩ := exec_engineKinds (s := s) j hj
  exact traps_meets hexec (meets_otherKind hkind hword (hfull hroom)) lowest_singleton

end

/-! ## Blocks of rows -/

section
variable {pw a n w i : Nat} {pitch : Int}

/-- Row `i` of a block leaves the offset space. -/
def rowOut (pw a : Nat) (pitch : Int) (w i : Nat) : Prop := (a : Int) + i * pitch < 0 ∨ (spSize pw : Int) < (a : Int) + i * pitch + w

/-- Each row lies between the first and the last. -/
theorem blockRange_row (hi : i < n) : (blockRange a pitch n w).1 ≤ (a : Int) + i * pitch ∧ (a : Int) + i * pitch + w - 1 ≤ (blockRange a pitch n w).2 := by
  have hi' : (i : Int) ≤ n - 1 := by omega
  have h0 : (0 : Int) ≤ i := Int.natCast_nonneg i
  unfold blockRange
  dsimp only
  rcases le_total 0 pitch with hp | hp
  · have hlow : 0 ≤ (i : Int) * pitch := Int.mul_nonneg h0 hp
    have hhigh : (i : Int) * pitch ≤ (n - 1) * pitch := Int.mul_le_mul_of_nonneg_right hi' hp
    omega
  · have hhigh : (i : Int) * pitch ≤ 0 := mul_nonpos_of_nonneg_of_nonpos h0 hp
    have hlow : ((n : Int) - 1) * pitch ≤ i * pitch := mul_le_mul_of_nonpos_right hi' hp
    omega

/-- The first row that leaves the offset space gives a block's fault. -/
theorem blockFault_row (hi : i < n) (hout : rowOut pw a pitch w i) (hfirst : ∀ j < i, ¬ rowOut pw a pitch w j) :
    blockFault pw a pitch n w = [(0x1202, BitVec.ofInt 64 (if (a : Int) + i * pitch < 0 then (a : Int) + i * pitch else max ((a : Int) + i * pitch) (spSize pw)))] := by
  obtain ⟨hlo, hhi⟩ := blockRange_row (a := a) (pitch := pitch) (w := w) hi
  have hfind : ((List.range n).find? fun (j : Nat) => !(decide (0 ≤ (a : Int) + (j : Int) * pitch) && decide ((a : Int) + (j : Int) * pitch + w ≤ spSize pw))) = some i := by
    rw [List.find?_range_eq_some]
    refine ⟨?_, List.mem_range.mpr hi, fun j hj => ?_⟩
    · unfold rowOut at hout
      simp only [Bool.not_eq_true', Bool.and_eq_false_iff, decide_eq_false_iff_not]
      omega
    · have hin := hfirst j hj
      unfold rowOut at hin
      simp only [Bool.not_not, Bool.and_eq_true, decide_eq_true_eq]
      omega
  unfold blockFault
  generalize hr : blockRange a pitch n w = r at hlo hhi
  obtain ⟨lo, hi'⟩ := r
  dsimp only
  unfold rowOut at hout
  rw [if_neg (by dsimp only at hlo hhi; omega), hfind]
  dsimp only
  split
  · next hneg => exact rangeFault_below hneg
  · next hneg => exact rangeFault_above (by omega) (by omega)

end

end Sys2Proof.Proofs

/-! SUPPORT. The copies, fills, bulk moves and gathers, each with what it traps on (18 R359, 10 R217-R222). -/

namespace Sys2Proof.Proofs

open Sys2Proof Sys2Proof.Machine Sys2Proof.Laws Sys2Proof.Claims

/-! ## A side of a copy -/

section
variable {s : State} {c : Core} {e : BitVec 6} {x : CopyDesc} {sp a : Nat} {pitch : Int} {dest : Bool}

theorem copySide_global : copySide s c e x 1 a pitch dest = ([], []) := rfl

theorem copySide_own : copySide s c e x 0 a pitch dest = (blockFault c.ctx.pw a pitch x.rows x.width, [sbRange (blockRange a pitch x.rows x.width) dest]) := rfl

theorem copySide_reserved (h : 3 ≤ sp) : copySide s c e x sp a pitch dest = ([(0x1303, e.zeroExtend 64)], []) := if_pos h

end

section
variable {s : State} {k x y z : BitVec 3} {e : BitVec 6}

/-! ## Fills -/

section
variable (hroom : roomFor s (.fill k x y z e) 8)
include hroom

theorem traps_fill_source (hsp : descField (ereg s e) 1 19 16 = 1) (hsource : descField (ereg s e) 1 14 0 ≠ 0) :
    EngineTraps s (.fill k x y z e) 1 e (toUses (ereg s e)) 0x1302 (e.zeroExtend 64) := by
  have hpart : fillPart e s (here s) (ereg s e) =
      { faults := [(0x1302, e.zeroExtend 64)], ranges := [], reads := toUses (ereg s e), s2 := copyTo (here s) (ereg s e) } := by
    unfold fillPart
    dsimp only
    rw [show (copyDesc (ereg s e)).toSp = 1 from hsp, copySide_global, if_pos hsource]
    rfl
  refine engineTraps_of rfl (room_copy hroom) ?_ (congrArg EngPart.faults hpart) lowest_mustBeZero
  rw [hpart]
  exact {}

theorem traps_fill_row (hsp : descField (ereg s e) 1 19 16 = 0) {i : Nat} (hi : i < (copyDesc (ereg s e)).rows)
    (hout : rowOut (here s).ctx.pw (inSpace 0 (copyTo (here s) (ereg s e))) (copyDesc (ereg s e)).toPitch (copyDesc (ereg s e)).width i)
    (hfirst : ∀ j < i, ¬ rowOut (here s).ctx.pw (inSpace 0 (copyTo (here s) (ereg s e))) (copyDesc (ereg s e)).toPitch (copyDesc (ereg s e)).width j) :
    let at_ : Int := (inSpace 0 (copyTo (here s) (ereg s e)) : Int) + i * (copyDesc (ereg s e)).toPitch
    EngineTraps s (.fill k x y z e) 1 e (toUses (ereg s e)) 0x1202 (BitVec.ofInt 64 (if at_ < 0 then at_ else max at_ (spEnd s))) := by
  intro at_
  have hpart : fillPart e s (here s) (ereg s e) =
      { faults := [(0x1202, BitVec.ofInt 64 (if at_ < 0 then at_ else max at_ (spEnd s)))] ++
          (if descField (ereg s e) 1 14 0 ≠ 0 then [((0x1302 : BitVec 16), e.zeroExtend 64)] else [])
        ranges := [sbRange (blockRange (inSpace 0 (copyTo (here s) (ereg s e))) (copyDesc (ereg s e)).toPitch (copyDesc (ereg s e)).rows (copyDesc (ereg s e)).width) true]
        reads := toUses (ereg s e), s2 := copyTo (here s) (ereg s e) } := by
    unfold fillPart
    dsimp only
    rw [show (copyDesc (ereg s e)).toSp = 0 from hsp, copySide_own, blockFault_row hi hout hfirst]
  refine engineTraps_of rfl (room_copy hroom) ?_ (congrArg EngPart.faults hpart) (lowest_part ?_ (by decide))
  · rw [hpart]
    exact { ranges := by simp }
  · exact lowest_singleton.left (over_ite (fun _ => over_one (by decide)) fun _ => over_nil)

end

/-! ## Copies -/

/-- What the instruction itself asks of a copy's descriptor. -/
def copyOwn (multi : Bool) (e : BitVec 6) (s : State) (x : CopyDesc) : List (BitVec 16 × BitVec 64) :=
  if multi then
    (if x.toSp ≠ 0 then [((0x1303 : BitVec 16), e.zeroExtend 64)] else [])
      ++ ((List.range 4).filter fun p => x.mcast.testBit p && decide (p ≠ posOf s.cur)).flatMap fun p => peerFault s p e
  else if x.mcast ≠ 0 then [(0x1302, e.zeroExtend 64)] else []

/-- The faults of a copy's two sides. -/
def copySides (s : State) (c : Core) (e : BitVec 6) (d : Desc) : List (BitVec 16 × BitVec 64) × List (Nat × Nat × Bool) :=
  let x := copyDesc d
  let from_ := copySide s c e x x.fromSp (inSpace x.fromSp (copyFrom c d)) x.fromPitch false
  let to_ := copySide s c e x x.toSp (inSpace x.toSp (copyTo c d)) x.toPitch true
  (from_.1 ++ to_.1, from_.2 ++ to_.2)

section
variable {multi : Bool} {i : Instr} {name : OpName} {code : BitVec 16} {tval : BitVec 64} {fs : List (BitVec 16 × BitVec 64)} {rs : List (Nat × Nat × Bool)}

theorem copyPart_faults : (copyPart multi e s (here s) (ereg s e)).faults = (copySides s (here s) e (ereg s e)).1 ++ copyOwn multi e s (copyDesc (ereg s e)) := rfl

theorem copyPart_ranges : (copyPart multi e s (here s) (ereg s e)).ranges = (copySides s (here s) e (ereg s e)).2 := rfl

/-- A copy traps on the lowest of the faults of its sides and its own. -/
theorem traps_copy (hexec : exec i s = issueSlot i (engineSlot i name 1 e k copyFull (copyPart multi e)) s) (hroom : roomFor s i 8)
    (hsides : copySides s (here s) e (ereg s e) = (fs, rs)) (hrs : rs.length ≤ 4)
    (hlowest : Lowest (code, tval) (partFaults 1 e (ereg s e) (fs ++ copyOwn multi e s (copyDesc (ereg s e))))) :
    EngineTraps s i 1 e (fromUses (ereg s e) ++ toUses (ereg s e)) code tval := by
  refine engineTraps_of hexec (room_copy hroom) { ranges := ?_ } ?_ hlowest
  · rw [copyPart_ranges, hsides]
    exact hrs
  · rw [copyPart_faults, hsides]

end

section
variable (hfrom : descField (ereg s e) 1 3 0 = 1) (hto : descField (ereg s e) 1 19 16 = 1)
include hfrom hto

theorem copySides_global : copySides s (here s) e (ereg s e) = ([], []) := by
  unfold copySides
  dsimp only
  rw [show (copyDesc (ereg s e)).fromSp = 1 from hfrom, show (copyDesc (ereg s e)).toSp = 1 from hto]
  rfl

theorem traps_cpy_mcast (hroom : roomFor s (.cpy k x y z e) 8) (hmcast : descField (ereg s e) 1 37 34 ≠ 0) :
    EngineTraps s (.cpy k x y z e) 1 e (fromUses (ereg s e) ++ toUses (ereg s e)) 0x1302 (e.zeroExtend 64) := by
  have hown : copyOwn false e s (copyDesc (ereg s e)) = [(0x1302, e.zeroExtend 64)] := if_pos hmcast
  refine traps_copy rfl hroom (copySides_global hfrom hto) (by decide) ?_
  rw [hown]
  exact lowest_mustBeZero

theorem traps_cpym_global (hroom : roomFor s (.cpym k x y z e) 8) (hok : kindReserved 1 (ereg s e) = false) :
    EngineTraps s (.cpym k x y z e) 1 e (fromUses (ereg s e) ++ toUses (ereg s e)) 0x1303 (e.zeroExtend 64) := by
  refine traps_copy rfl hroom (copySides_global hfrom hto) (by decide) ?_
  rw [partFaults_sound hok]
  unfold copyOwn
  rw [if_pos rfl, if_pos (show (copyDesc (ereg s e)).toSp ≠ 0 by rw [show (copyDesc (ereg s e)).toSp = 1 from hto]; decide)]
  refine lowest_singleton.left fun g hg => ?_
  obtain ⟨p, -, hp⟩ := List.mem_flatMap.mp hg
  exact over_peerFault (by decide) g hp

end

theorem traps_cpy_space (hroom : roomFor s (.cpy k x y z e) 8) (hfrom : 3 ≤ descField (ereg s e) 1 3 0) (hto : descField (ereg s e) 1 19 16 = 1)
    (hmcast : descField (ereg s e) 1 37 34 = 0) (hok : kindReserved 1 (ereg s e) = false) :
    EngineTraps s (.cpy k x y z e) 1 e (fromUses (ereg s e) ++ toUses (ereg s e)) 0x1303 (e.zeroExtend 64) := by
  have hsides : copySides s (here s) e (ereg s e) = ([(0x1303, e.zeroExtend 64)], []) := by
    unfold copySides
    dsimp only
    rw [show (copyDesc (ereg s e)).toSp = 1 from hto, copySide_reserved (show 3 ≤ (copyDesc (ereg s e)).fromSp from hfrom)]
    rfl
  have hown : copyOwn false e s (copyDesc (ereg s e)) = [] := if_neg (not_not.mpr hmcast)
  refine traps_copy rfl hroom hsides (by decide) ?_
  rw [partFaults_sound hok, hown]
  exact lowest_singleton

theorem traps_cpym_peer (hroom : roomFor s (.cpym k x y z e) 8) (hfrom : descField (ereg s e) 1 3 0 = 1) (hto : descField (ereg s e) 1 19 16 = 0)
    (hok : kindReserved 1 (ereg s e) = false)
    (hblock : blockFault (here s).ctx.pw (inSpace 0 (copyTo (here s) (ereg s e))) (copyDesc (ereg s e)).toPitch (copyDesc (ereg s e)).rows
      (copyDesc (ereg s e)).width = [])
    (hpeer : ∃ p < 4, (descField (ereg s e) 1 37 34).testBit p = true ∧ p ≠ s.cur.toNat % 4 ∧ s.peerMember s.cur p = false) :
    EngineTraps s (.cpym k x y z e) 1 e (fromUses (ereg s e) ++ toUses (ereg s e)) 0x1307 (e.zeroExtend 64) := by
  have hsides : copySides s (here s) e (ereg s e) = ([], [sbRange (blockRange (inSpace 0 (copyTo (here s) (ereg s e))) (copyDesc (ereg s e)).toPitch
      (copyDesc (ereg s e)).rows (copyDesc (ereg s e)).width) true]) := by
    unfold copySides
    dsimp only
    rw [show (copyDesc (ereg s e)).fromSp = 1 from hfrom, show (copyDesc (ereg s e)).toSp = 0 from hto, copySide_global, copySide_own, hblock]
    rfl
  refine traps_copy rfl hroom hsides (by simp) ?_
  rw [partFaults_sound hok]
  unfold copyOwn
  rw [if_pos rfl, if_neg (show ¬ (copyDesc (ereg s e)).toSp ≠ 0 from not_not.mpr hto)]
  obtain ⟨p, hp, hmcast, hother, hnone⟩ := hpeer
  refine Lowest.right over_nil ⟨List.mem_flatMap.mpr ⟨p, List.mem_filter.mpr ⟨List.mem_range.mpr hp, ?_⟩, ?_⟩, fun g hg => ?_⟩
  · rw [show (copyDesc (ereg s e)).mcast.testBit p = true from hmcast, decide_eq_true (show p ≠ posOf s.cur from hother)]
    rfl
  · rw [peerFault, hnone]
    exact List.mem_singleton_self _
  · obtain ⟨q, -, hq⟩ := List.mem_flatMap.mp hg
    exact over_ite (fun _ => over_nil) (fun _ => over_same) g hq

/-! ## Bulk moves -/

theorem traps_bulk (hroom : roomFor s (.bulk k x y z e) 8) (hspaces : ¬ (descField (ereg s e) 1 3 0 = 1 ∧ descField (ereg s e) 1 19 16 = 1))
    (hok : kindReserved 3 (ereg s e) = false) : EngineTraps s (.bulk k x y z e) 3 e (fromUses (ereg s e) ++ toUses (ereg s e)) 0x1303 (e.zeroExtend 64) := by
  refine engineTraps_of rfl (room_copy hroom) {} (if_neg hspaces) ?_
  rw [partFaults_sound hok]
  exact lowest_singleton

/-! ## Gathers -/

section
variable (hroom : roomFor s (.gath k x y z e) 8) (hlist : (gatherDesc (ereg s e)).lstSp = 1) (hok : kindReserved 2 (ereg s e) = false)
  (hplace : descField (ereg s e) 2 63 48 = 0)
include hroom hlist hok hplace

theorem traps_gather_of {code : BitVec 16} {tval : BitVec 64}
    (h : Lowest (code, tval) ((if 2 ≤ (gatherDesc (ereg s e)).tblSp ∨ (gatherDesc (ereg s e)).policy = 3 then [((0x1303 : BitVec 16), e.zeroExtend 64)] else [])
      ++ (if landRows (here s).ctx.pw < (gatherDesc (ereg s e)).row0 + (gatherDesc (ereg s e)).nent then [((0x1304 : BitVec 16), e.zeroExtend 64)] else []))) :
    EngineTraps s (.gath k x y z e) 2 e (fromUses (ereg s e) ++ toUses (ereg s e)) code tval := by
  refine engineTraps_of rfl (room_copy hroom) { ranges := ?_ } rfl ?_
  · unfold gatherPart
    dsimp only
    rw [hlist, if_neg (by decide)]
    split <;> simp
  · rw [partFaults_sound hok]
    unfold gatherPart
    dsimp only
    rw [hlist, hplace]
    simpa using h

theorem traps_gather_code (h : 2 ≤ (gatherDesc (ereg s e)).tblSp ∨ (gatherDesc (ereg s e)).policy = 3) :
    EngineTraps s (.gath k x y z e) 2 e (fromUses (ereg s e) ++ toUses (ereg s e)) 0x1303 (e.zeroExtend 64) := by
  refine traps_gather_of hroom hlist hok hplace ?_
  rw [if_pos h]
  exact lowest_singleton.left (over_ite (fun _ => over_one (by decide)) fun _ => over_nil)

theorem traps_gather_rows (htable : (gatherDesc (ereg s e)).tblSp < 2) (hpolicy : (gatherDesc (ereg s e)).policy ≠ 3)
    (h : landRows (here s).ctx.pw < (gatherDesc (ereg s e)).row0 + (gatherDesc (ereg s e)).nent) :
    EngineTraps s (.gath k x y z e) 2 e (fromUses (ereg s e) ++ toUses (ereg s e)) 0x1304 (e.zeroExtend 64) := by
  refine traps_gather_of hroom hlist hok hplace ?_
  rw [if_neg (not_or.mpr ⟨Nat.not_le.mpr htable, hpolicy⟩), if_pos h]
  exact lowest_singleton

end

end

end Sys2Proof.Proofs

/-! SUPPORT. The packets, bank launches and bag instructions, each with what it traps on (18 R347, R358, R360, 09 R190-R213, 10 R245-R247). -/

namespace Sys2Proof.Proofs

open Sys2Proof Sys2Proof.Machine Sys2Proof.Laws Sys2Proof.Claims

section
variable {s : State} {k x y z : BitVec 3} {e : BitVec 6}

/-! ## Packets -/

/-- The faults of a packet: of its 128 bytes, and of a member that its tree does not have. -/
def packetFaults (s : State) (c : Core) (e : BitVec 6) (d : Desc) : List (BitVec 16 × BitVec 64) :=
  spFaults c.ctx.pw 128 (descS c d 1 5 0).toNat 128
    ++ (if (treeMemb (s.tree (cbOf s.cur) (packetTree d))).testBit (localOf s.cur) then [] else [((0x1309 : BitVec 16), e.zeroExtend 64)])

theorem traps_packet_of {j : Instr} {code : BitVec 16} {tval : BitVec 64} (hj : j ∈ [Instr.rpkX k x y z e, .rpkF k x y z e])
    (h : Lowest (code, tval) (partFaults 6 e (ereg s e) (packetFaults s (here s) e (ereg s e)))) :
    EngineTraps s j 6 e [rdD 0 (descField (ereg s e) 1 5 0), rdD 0 (descField (ereg s e) 1 15 10)] code tval := by
  have hissuable : Issuable (packetPart e s (here s) (ereg s e)) [rdD 0 (descField (ereg s e) 1 5 0), rdD 0 (descField (ereg s e) 1 15 10)] :=
    { ranges := show 1 ≤ 4 by decide }
  simp only [List.mem_cons, List.not_mem_nil, or_false] at hj
  rcases hj with rfl | rfl <;> exact engineTraps_of rfl rfl hissuable rfl h

theorem packetFaults_inside (hin : spFaults (here s).ctx.pw 128 (descS (here s) (ereg s e) 1 5 0).toNat 128 = [])
    (hout : (treeMemb (s.tree (s.cur.toNat / 16) (packetTree (ereg s e)))).testBit (s.cur.toNat % 16) = false) :
    packetFaults s (here s) e (ereg s e) = [(0x1309, e.zeroExtend 64)] := by
  unfold packetFaults
  rw [hin, show (treeMemb (s.tree (cbOf s.cur) (packetTree (ereg s e)))).testBit (localOf s.cur) = false from hout]
  rfl

theorem packetFaults_access {code : BitVec 16} {tval : BitVec 64} (h : Lowest (code, tval) (spFaults (here s).ctx.pw 128 (descS (here s) (ereg s e) 1 5 0).toNat 128))
    (hcode : code.toNat < (0x1302 : BitVec 16).toNat) : Lowest (code, tval) (partFaults 6 e (ereg s e) (packetFaults s (here s) e (ereg s e))) :=
  lowest_part (h.left (over_ite (fun _ => over_nil) fun _ => over_one (Nat.lt_trans hcode (by decide)))) hcode

section
variable {j : Instr} (hj : j ∈ [Instr.rpkX k x y z e, .rpkF k x y z e])
include hj

theorem traps_packet_misaligned (h : (descS (here s) (ereg s e) 1 5 0).toNat % 128 ≠ 0) :
    EngineTraps s j 6 e [rdD 0 (descField (ereg s e) 1 5 0), rdD 0 (descField (ereg s e) 1 15 10)] 0x1201
      (BitVec.ofNat 64 (descS (here s) (ereg s e) 1 5 0).toNat) := traps_packet_of hj (packetFaults_access (spFaults_misaligned h) (by decide))

theorem traps_packet_outside (h : (descS (here s) (ereg s e) 1 5 0).toNat % 128 = 0) (hout : spEnd s < (descS (here s) (ereg s e) 1 5 0).toNat + 128) :
    EngineTraps s j 6 e [rdD 0 (descField (ereg s e) 1 5 0), rdD 0 (descField (ereg s e) 1 15 10)] 0x1202
      (BitVec.ofNat 64 (max (descS (here s) (ereg s e) 1 5 0).toNat (spEnd s))) := by
  refine traps_packet_of hj (packetFaults_access ?_ (by decide))
  rw [spFaults_outside h hout]
  exact lowest_singleton

theorem traps_packet_outsider (h : (descS (here s) (ereg s e) 1 5 0).toNat % 128 = 0) (hin : (descS (here s) (ereg s e) 1 5 0).toNat + 128 ≤ spEnd s)
    (hok : kindReserved 6 (ereg s e) = false)
    (hout : (treeMemb (s.tree (s.cur.toNat / 16) (packetTree (ereg s e)))).testBit (s.cur.toNat % 16) = false) :
    EngineTraps s j 6 e [rdD 0 (descField (ereg s e) 1 5 0), rdD 0 (descField (ereg s e) 1 15 10)] 0x1309 (e.zeroExtend 64) := by
  refine traps_packet_of hj ?_
  rw [partFaults_sound hok, packetFaults_inside (spFaults_sound h hin) hout]
  exact lowest_singleton

end

/-! ## Bank launches -/

section
variable {pa : PAddr} (hleaf : (s.bankLeaf s.cur (descS (here s) (ereg s e) 1 5 0).toNat).2 = .ok pa)
include hleaf

theorem bankPart_found :
    (bankPart e s (here s) (ereg s e)).faults = (if (s.bankLeaf s.cur (descS (here s) (ereg s e) 1 5 0).toNat).1.isSome then [] else [(0x1309, e.zeroExtend 64)])
    ∧ (bankPart e s (here s) (ereg s e)).waits = [] := by
  unfold bankPart
  dsimp only
  rw [hleaf]
  exact ⟨rfl, rfl⟩

theorem traps_bankgo_of {code : BitVec 16} {tval : BitVec 64} (hok : kindReserved 7 (ereg s e) = false)
    (h : Lowest (code, tval) ((bankPart e s (here s) (ereg s e)).faults ++
      if 10923 < descField (ereg s e) 2 15 0 + count16 (descField (ereg s e) 2 31 16) then [((0x1304 : BitVec 16), e.zeroExtend 64)] else [])) :
    EngineTraps s (.bankgo k x y z e) 7 e [rdD 0 (descField (ereg s e) 1 5 0)] code tval := by
  refine engineTraps_of rfl rfl { waits := (bankPart_found hleaf).2, passed := ?_ } rfl ?_
  · exact congrArg gateStopsOf (bankPart_effects (e := e) hleaf)
  · rw [partFaults_sound hok]
    exact h

theorem traps_bankgo_leaf (hnone : (s.bankLeaf s.cur (descS (here s) (ereg s e) 1 5 0).toNat).1 = none) (hok : kindReserved 7 (ereg s e) = false)
    (hrows : descField (ereg s e) 2 15 0 + count16 (descField (ereg s e) 2 31 16) ≤ 10923) :
    EngineTraps s (.bankgo k x y z e) 7 e [rdD 0 (descField (ereg s e) 1 5 0)] 0x1309 (e.zeroExtend 64) := by
  refine traps_bankgo_of hleaf hok ?_
  rw [(bankPart_found hleaf).1, hnone, if_neg (Nat.not_lt.mpr hrows)]
  exact lowest_singleton

theorem over_bankPart {code : BitVec 16} {tval : BitVec 64} (h : code.toNat < (0x1309 : BitVec 16).toNat) :
    Over (code, tval) (bankPart e s (here s) (ereg s e)).faults := by
  rw [(bankPart_found hleaf).1]
  exact over_ite (fun _ => over_nil) fun _ => over_one h

theorem traps_bankgo_rows (hrows : 10923 < descField (ereg s e) 2 15 0 + count16 (descField (ereg s e) 2 31 16)) (hok : kindReserved 7 (ereg s e) = false) :
    EngineTraps s (.bankgo k x y z e) 7 e [rdD 0 (descField (ereg s e) 1 5 0)] 0x1304 (e.zeroExtend 64) := by
  refine traps_bankgo_of hleaf hok ?_
  rw [if_pos hrows]
  exact Lowest.right (over_bankPart hleaf (by decide)) lowest_singleton

theorem traps_bankld (h : (descS (here s) (ereg s e) 1 11 6).toNat % 64 ≠ 0) :
    EngineTraps s (.bankld k x y z e) 7 e [rdD 0 (descField (ereg s e) 1 5 0), rdD 0 (descField (ereg s e) 1 11 6)] 0x1201
      (BitVec.ofNat 64 (descS (here s) (ereg s e) 1 11 6).toNat) := by
  refine engineTraps_of rfl rfl { ranges := show 1 ≤ 4 by decide, waits := (bankPart_found hleaf).2, passed := ?_ } rfl ?_
  · exact congrArg gateStopsOf (bankPart_effects (e := e) hleaf)
  · exact lowest_part (Lowest.right (over_bankPart hleaf (by decide)) (spFaults_misaligned h)) (by decide)

end

/-! ## Instructions of the bag array -/

section
variable {i : Instr} {name : OpName} {kind : Nat} {part : State → Core → Desc → EngPart} {reads : List Use} {code : BitVec 16} {tval : BitVec 64}
  {fs : List (BitVec 16 × BitVec 64)}

/-- An M slot traps on the lowest of its faults and that of an arrival named. -/
theorem traps_bag (hexec : exec i s = issueSlot i (bagSlot i name kind e k part) s) (hroom : roomFor s i 16)
    (hissuable : Issuable (part s (here s) (ereg s e)) reads) (hfaults : (part s (here s) (ereg s e)).faults = fs)
    (hlowest : Lowest (code, tval) (partFaults kind e (ereg s e) (phcFault (ereg s e) e ++ fs))) : EngineTraps s i kind e reads code tval := by
  subst hfaults
  exact engineTraps_of hexec (room_bag hroom) ⟨hissuable.ranges, hissuable.waits, hissuable.banks, hissuable.reads, hissuable.passed⟩ rfl hlowest

theorem over_phcFault (h : code.toNat < (0x1308 : BitVec 16).toNat) : Over (code, tval) (phcFault (ereg s e) e) := over_eFault h

end

theorem rowsLimit_outside (h : ¬ (matDesc (ereg s e)).arow + (matDesc (ereg s e)).nrow ≤ windowRows (here s).ctx.pw) :
    rowsLimit (here s) (ereg s e) e = [(0x1304, e.zeroExtend 64)] := eFault_true (decide_eq_true (Nat.not_le.mp h))

theorem over_rowsLimit {code : BitVec 16} {tval : BitVec 64} (h : code.toNat < (0x1304 : BitVec 16).toNat) :
    Over (code, tval) (rowsLimit (here s) (ereg s e) e) := over_eFault h

section
variable (hroom : roomFor s (.manch k x y z e) 16) (hok : kindReserved 4 (ereg s e) = false)
include hroom hok

theorem traps_manch_of {code : BitVec 16} {tval : BitVec 64} (h : Lowest (code, tval) (phcFault (ereg s e) e ++ rowsLimit (here s) (ereg s e) e)) :
    EngineTraps s (.manch k x y z e) 4 e [] code tval := by
  refine traps_bag rfl hroom (fs := rowsLimit (here s) (ereg s e) e) {} ?_ ?_
  · dsimp only
    rw [show (matDesc (ereg s e)).anch = signedOf 11 (descField (ereg s e) 2 47 37) from rfl, anchorOk_signedOf]
    exact List.append_nil _
  · rw [partFaults_sound hok]
    exact h

theorem traps_manch_rows (h : ¬ (matDesc (ereg s e)).arow + (matDesc (ereg s e)).nrow ≤ windowRows (here s).ctx.pw) :
    EngineTraps s (.manch k x y z e) 4 e [] 0x1304 (e.zeroExtend 64) := by
  refine traps_manch_of hroom hok ?_
  rw [rowsLimit_outside h]
  exact Lowest.right (over_phcFault (by decide)) lowest_singleton

theorem traps_manch_arrival (h : (matDesc (ereg s e)).arow + (matDesc (ereg s e)).nrow ≤ windowRows (here s).ctx.pw) (hphc : descField (ereg s e) 0 36 35 ≠ 0) :
    EngineTraps s (.manch k x y z e) 4 e [] 0x1308 (e.zeroExtend 64) := by
  refine traps_manch_of hroom hok ?_
  rw [rowsLimit_free h, List.append_nil, phcFault, eFault_true (decide_eq_true hphc)]
  exact lowest_singleton

end

section
variable (hroom : roomFor s (.mzero k x y z e) 16) (hok : kindReserved 4 (ereg s e) = false)
  (hin : (matDesc (ereg s e)).arow + (matDesc (ereg s e)).nrow ≤ windowRows (here s).ctx.pw)

/-- Whether MZERO names no anchor, or one out of range. -/
def badAnchor (s : State) (e : BitVec 6) : Bool :=
  let m := matDesc (ereg s e)
  (decide (adef m.afmt m.wfmt = .named) && !m.qsv) || (decide (adef m.afmt m.wfmt ≠ .reserved) && !anchorOk (zeroAnchor m ((here s).ctx.getQs m.qs)))

theorem badAnchor_named (hnamed : adef (matDesc (ereg s e)).afmt (matDesc (ereg s e)).wfmt = .named) (hqsv : (matDesc (ereg s e)).qsv = false) : badAnchor s e = true := by
  unfold badAnchor
  dsimp only
  rw [hnamed, hqsv]
  rfl

theorem badAnchor_range (hfmt : adef (matDesc (ereg s e)).afmt (matDesc (ereg s e)).wfmt ≠ .reserved)
    (hrange : anchorOk (zeroAnchor (matDesc (ereg s e)) ((here s).ctx.getQs (matDesc (ereg s e)).qs)) = false) : badAnchor s e = true := by
  unfold badAnchor
  dsimp only
  rw [decide_eq_true hfmt, hrange]
  exact Bool.or_true _

include hroom hok hin

theorem traps_mzero_of {code : BitVec 16} {tval : BitVec 64}
    (h : Lowest (code, tval) (phcFault (ereg s e) e ++ (eFault 0x1305 e (decide (adef (matDesc (ereg s e)).afmt (matDesc (ereg s e)).wfmt = .reserved))
      ++ eFault 0x1306 e (badAnchor s e)))) :
    EngineTraps s (.mzero k x y z e) 4 e (if (matDesc (ereg s e)).qsv then [rdD 8 (matDesc (ereg s e)).qs] else []) code tval := by
  refine traps_bag rfl hroom (fs := eFault 0x1305 e (decide (adef (matDesc (ereg s e)).afmt (matDesc (ereg s e)).wfmt = .reserved))
    ++ eFault 0x1306 e (badAnchor s e)) {} ?_ ?_
  · dsimp only
    rw [rowsLimit_free hin]
    rfl
  · rw [partFaults_sound hok]
    exact h

theorem traps_mzero_format (h : adef (matDesc (ereg s e)).afmt (matDesc (ereg s e)).wfmt = .reserved) :
    EngineTraps s (.mzero k x y z e) 4 e (if (matDesc (ereg s e)).qsv then [rdD 8 (matDesc (ereg s e)).qs] else []) 0x1305 (e.zeroExtend 64) := by
  refine traps_mzero_of hroom hok hin ?_
  rw [eFault_true (decide_eq_true h)]
  exact Lowest.right (over_phcFault (by decide)) (lowest_singleton.left (over_eFault (by decide)))

theorem traps_mzero_anchor (hfmt : adef (matDesc (ereg s e)).afmt (matDesc (ereg s e)).wfmt ≠ .reserved) (h : badAnchor s e = true) :
    EngineTraps s (.mzero k x y z e) 4 e (if (matDesc (ereg s e)).qsv then [rdD 8 (matDesc (ereg s e)).qs] else []) 0x1306 (e.zeroExtend 64) := by
  refine traps_mzero_of hroom hok hin ?_
  rw [eFault_of_not hfmt, eFault_true h]
  exact Lowest.right (over_phcFault (by decide)) lowest_singleton

end

theorem traps_maddv (hroom : roomFor s (.maddv k x y z e) 16) (hfp : (here s).ctx.getVTag (matDesc (ereg s e)).vb ≠ 2)
    (hint : (here s).ctx.getVTag (matDesc (ereg s e)).vb ≠ 0) :
    EngineTraps s (.maddv k x y z e) 4 e [rdD 1 (matDesc (ereg s e)).vb] 0x1203 (BitVec.ofNat 64 (64 + (matDesc (ereg s e)).vb)) := by
  have hid : regIdentity (rdD 1 (matDesc (ereg s e)).vb) = BitVec.ofNat 64 (64 + (matDesc (ereg s e)).vb) := by
    unfold regIdentity rdD
    rw [Nat.one_mul]
  refine traps_bag rfl hroom (fs := rowsLimit (here s) (ereg s e) e ++ [(0x1203, BitVec.ofNat 64 (64 + (matDesc (ereg s e)).vb))]) {} ?_ ?_
  · dsimp only
    rw [if_neg (show ¬ ((here s).ctx.getVTag (matDesc (ereg s e)).vb = Fmt.fp32 ∨ (here s).ctx.getVTag (matDesc (ereg s e)).vb = Fmt.int32) from
      not_or.mpr ⟨hfp, hint⟩), hid]
  · exact lowest_part (Lowest.right (over_phcFault (by decide)) (Lowest.right (over_rowsLimit (by decide)) lowest_singleton)) (by decide)

theorem traps_mrd (hroom : roomFor s (.mrd k x y z e) 16) (h32 : is32 (matDesc (ereg s e)).ofmt = true) (hodd : (matDesc (ereg s e)).otreg % 2 = 1) :
    EngineTraps s (.mrd k x y z e) 4 e [] 0x1204 (slotWord (.mrd k x y z e) (here s).iss) := by
  refine traps_bag rfl hroom (fs := rowsLimit (here s) (ereg s e) e ++ eFault 0x1304 e (decide (128 < (matDesc (ereg s e)).nrow))
    ++ eFault 0x1305 e (!readFmt (matDesc (ereg s e)).ofmt) ++ [(0x1204, slotWord (.mrd k x y z e) (here s).iss)]) { passed := ?_ } ?_ ?_
  · dsimp only
    rw [if_pos h32]
    rfl
  · dsimp only
    rw [if_pos ⟨h32, hodd⟩]
  · refine lowest_part (Lowest.right (over_phcFault (by decide)) (Lowest.right ?_ lowest_singleton)) (by decide)
    exact over_append.mpr ⟨over_append.mpr ⟨over_rowsLimit (by decide), over_eFault (by decide)⟩, over_eFault (by decide)⟩

theorem fieldOf_low (n : Nat) : fieldOf n 31 0 = n % 2 ^ 32 := by
  unfold fieldOf
  rw [Nat.shiftRight_zero]

theorem over_rowsFault {pw : Nat} {rows : List (Nat × Nat)} {code : BitVec 16} {tval : BitVec 64} (h : code.toNat < (0x1202 : BitVec 16).toNat) :
    Over (code, tval) (rowsFault pw rows) := by
  unfold rowsFault
  split
  · exact over_one h
  · exact over_nil

/-- The faults of a code table of 1,024 bytes. -/
def tableFaults (pw off : Nat) : List (BitVec 16 × BitVec 64) :=
  rowsFault pw [(off, 1024)] ++ (if off % 1024 = 0 then [] else [((0x1201 : BitVec 16), BitVec.ofNat 64 off)])

theorem tableFaults_misaligned {pw off : Nat} (h : off % 1024 ≠ 0) : Lowest (0x1201, BitVec.ofNat 64 off) (tableFaults pw off) := by
  unfold tableFaults
  rw [if_neg h]
  exact Lowest.right (over_rowsFault (by decide)) lowest_singleton

theorem traps_mcode (hroom : roomFor s (.mcode k x y z e) 16) {off : Nat} (hoff : (ops1 (here s) (ereg s e)).toNat % 2 ^ 32 = off) (h : off % 1024 ≠ 0) :
    EngineTraps s (.mcode k x y z e) 5 e [rdD 0 (descField (ereg s e) 1 9 4)] 0x1201 (BitVec.ofNat 64 off) := by
  refine traps_bag rfl hroom (fs := tableFaults (here s).ctx.pw (fieldOf (ops1 (here s) (ereg s e)).toNat 31 0)) { ranges := show 1 ≤ 4 by decide } rfl ?_
  rw [fieldOf_low, hoff]
  exact lowest_part (Lowest.right (over_phcFault (by decide)) (tableFaults_misaligned h)) (by decide)

end

end Sys2Proof.Proofs

/-! SUPPORT. The statement on what operands trap on, group by group. -/

namespace Sys2Proof.Proofs

open Sys2Proof Sys2Proof.Machine Sys2Proof.Laws Sys2Proof.Claims

theorem word_ne_zero (z : BitVec 3) : 2 ^ z.toNat ≠ 0 := Nat.pos_iff_ne_zero.mp (Nat.two_pow_pos _)

/-- Settles O49: of the faults of a ready slot's operands the one with the lowest code is delivered. -/
theorem operandFaults : Obligations.OperandFaults := by
  unfold Obligations.OperandFaults
  refine ⟨?scratchpad, ?control, ?memory, ?tags, ?engines⟩
  case scratchpad =>
    intro s d a i ar x f i8
    refine ⟨fun hapart => ?_, traps_edld rfl, traps_wide rfl, laneTraps_strided, fun htag => laneTraps_indexed (indexed_eq htag) htag, traps_indexTag,
      laneTraps_vldb⟩
    exact List.forall_mem_cons.mpr ⟨traps_lds hapart, List.forall_mem_singleton.mpr (traps_sts hapart)⟩
  case control =>
    intro s a b i ar k lvl n
    refine ⟨traps_bri, traps_ret, traps_launch, traps_park, walkTraps_park, ?beacons, ?phases, fun _ => traps_loop⟩
    case beacons =>
      exact ⟨fun j hj h => traps_beacon_misaligned h j hj, fun j hj h hout => traps_spBeacon (spBeaconFaults_outside h hout) j hj, traps_badd, walkTraps_bwait,
        fun hb => ⟨walkTraps_bfence hb, fun _ _ => traps_bfence_fabric hb⟩⟩
    case phases =>
      have hheader := readBytes_lt (here s).pool.sp (sreg s a).toNat 32
      exact ⟨fun hapart => (traps_phase_access hapart).1, fun hapart => (traps_phase_access hapart).2, fun hfree =>
        ⟨fun h => traps_phase_header hfree (headerFaults_unsound hheader h _), fun h hgroup => traps_phase_header hfree (headerFaults_outsider hheader h hgroup)⟩⟩
  case memory =>
    intro s d ar l w o z k q r n
    refine ⟨fun hland => ⟨?loads, ?_, ?_, (traps_ldgv hland).1, (traps_ldgv hland).2⟩, fun hland ps => traps_lda_bank hland, fun hfree => ?stores,
      fun h c hc hfree hbefore => traps_stgv_line h hc hfree hbefore, fun hfree => ?atomics, traps_cacheSlots⟩
    case loads =>
      exact List.forall_mem_cons.mpr ⟨traps_wordLoad hland (word_ne_zero z) rfl, List.forall_mem_singleton.mpr (traps_wordLoad hland (word_ne_zero z) rfl)⟩
    · exact (traps_lda z hland).1
    · exact (traps_lda z hland).2
    case stores =>
      exact ⟨(traps_stg hfree).1, (traps_stg hfree).2, (traps_stl hfree).1, (traps_stl hfree).2, fun ps => traps_stl_bank hfree, traps_stgv_misaligned hfree⟩
    case atomics =>
      refine ⟨traps_atomicForms hfree, traps_atomicForms_bank hfree, fun hland => ?_, fun hland hd p => traps_acas_register hfree hland hd, traps_quantForms hfree⟩
      obtain ⟨hxch, hxchWalk⟩ := traps_axch (d := d) (w := w) (k := k) (z := z) hfree hland
      obtain ⟨hcas, hcasWalk⟩ := traps_acas (d := d) (w := w) (k := k) (z := z) hfree hland
      refine List.forall_mem_cons.mpr ⟨⟨hxch, fun hk h _ => hxchWalk hk h⟩, List.forall_mem_singleton.mpr ⟨hcas, fun hk h hd => ?_⟩⟩
      rcases hd with ⟨heven, hne⟩ | hd
      · exact hcasWalk hk h heven hne
      · cases hd
  case tags =>
    intro s d a b m cc e x o
    exact ⟨traps_fp_first, traps_fp_second, traps_fp_third, traps_int_first, traps_int_second, traps_scans, traps_repacks⟩
  case engines =>
    intro s k x y z e
    refine ⟨traps_otherKind, fun hroom => ⟨traps_fill_source hroom, fun hsp i hi hout hfirst => traps_fill_row hroom hsp hi hout hfirst⟩,
      fun hroom => ⟨fun hfrom hto => traps_cpy_mcast hfrom hto hroom, traps_cpy_space hroom⟩, fun hroom hfrom hto => traps_cpym_global hfrom hto hroom,
      traps_cpym_peer, traps_bulk, fun hroom hlist hok hplace => ⟨traps_gather_code hroom hlist hok hplace, traps_gather_rows hroom hlist hok hplace⟩,
      fun j hj => ⟨traps_packet_misaligned hj, traps_packet_outside hj, traps_packet_outsider hj⟩, fun pa hleaf => ⟨traps_bankgo_leaf hleaf, traps_bankgo_rows hleaf, traps_bankld hleaf⟩,
      fun hroom hok => ⟨traps_manch_rows hroom hok, traps_manch_arrival hroom hok⟩, fun hroom hok hin => ⟨traps_mzero_format hroom hok hin, ?_, ?_⟩, traps_maddv,
      traps_mrd, fun hroom => traps_mcode hroom rfl⟩
    · exact fun hnamed hqsv => traps_mzero_anchor hroom hok hin (by rw [hnamed]; exact Adef.noConfusion) (badAnchor_named hnamed hqsv)
    · exact fun hfmt hrange => traps_mzero_anchor hroom hok hin hfmt (badAnchor_range hfmt hrange)

end Sys2Proof.Proofs

/-! SUPPORT. The statements on vector access to the scratchpad, and what a bundle's stores leave (08 R184, R185). -/

namespace Sys2Proof.Proofs

open Sys2Proof Sys2Proof.Machine Sys2Proof.Laws Sys2Proof.Claims

/-! ## A bundle of stores -/

/-- What stores leave of a core whose scratchpad becomes `sp`: everything else but marks. -/
def StoresLeave (c d : Core) (sp : FMap Byte) : Prop := ∃ psn t, d = { c with pool := { c.pool with sp := sp, psn := psn, tagt := t } }

/-- The scratchpad after the stores, one after another. -/
def storedSp (l : List (Nat × Nat × Nat)) (sp : FMap Byte) : FMap Byte := l.foldl (fun m q => writeBytes m q.1 q.2.1 q.2.2) sp

theorem foldl_stores (l : List (Nat × Nat × Nat)) {c : Core} (hprot : c.prot = false) :
    StoresLeave c ((stores l).foldl Core.apply c) (storedSp l c.pool.sp) := by
  induction l generalizing c with
  | nil => exact ⟨c.pool.psn, c.pool.tagt, rfl⟩
  | cons q l ih =>
    obtain ⟨tags, hwrite⟩ := spWrite_keeps hprot q.1 q.2.1 q.2.2 false
    have hstep : c.apply (.spStore q.1 q.2.1 q.2.2 0) = c.spWrite q.1 q.2.1 q.2.2 false := rfl
    obtain ⟨psn, t, hrest⟩ := ih (c := c.apply (.spStore q.1 q.2.1 q.2.2 0)) (by rw [hstep, hwrite]; exact hprot)
    refine ⟨psn, t, ?_⟩
    show (stores l).foldl Core.apply (c.apply (.spStore q.1 q.2.1 q.2.2 0)) = _
    rw [hrest, hstep, hwrite]
    rfl

theorem get_storedSp (l : List (Nat × Nat × Nat)) (sp : FMap Byte) (b : Nat) : mapGet 0 (storedSp l sp) b = storedByte l b (mapGet 0 sp b) := by
  induction l using List.reverseRecOn with
  | nil => rfl
  | append_singleton l q ih =>
    rw [storedByte_append, ← ih, storedSp, List.foldl_append, List.foldl_cons, List.foldl_nil, get_writeBytes]
    rfl

theorem mem_stores {l : List (Nat × Nat × Nat)} {e : Effect} (h : e ∈ stores l) : ∃ off n x, e = .spStore off n x 0 := by
  obtain ⟨q, -, rfl⟩ := List.mem_map.mp h
  exact ⟨_, _, _, rfl⟩

/-- Stores leave the bundle after theirs to follow. -/
theorem straight_stores (l : List (Nat × Nat × Nat)) : Straight (stores l) := by
  have hnone {α : Type} {f : Effect → Option α} (hf : ∀ off n x, f (.spStore off n x 0) = none) : (stores l).findSome? f = none :=
    List.findSome?_eq_none_iff.mpr fun e he => by
      obtain ⟨off, n, x, rfl⟩ := mem_stores he
      exact hf off n x
  have hany {f : Effect → Bool} (hf : ∀ off n x, f (.spStore off n x 0) = false) : (stores l).any f = false :=
    List.any_eq_false.mpr fun e he => by
      obtain ⟨off, n, x, rfl⟩ := mem_stores he
      simp [hf off n x]
  exact ⟨hany fun _ _ _ => rfl, hany fun _ _ _ => rfl, hnone fun _ _ _ => rfl, hnone fun _ _ _ => rfl⟩

theorem sp_after_stores {s : State} (h : Plain s) (i : Instr) (l : List (Nat × Nat × Nat)) (b : Nat) :
    mapGet 0 (after s i (stores l)).pool.sp b = storedByte l b (mapGet 0 (here s).pool.sp b) := by
  have horder : inOrder (stores l) = stores l := inOrder_plain fun e he => by
    obtain ⟨off, n, x, rfl⟩ := mem_stores he
    rfl
  obtain ⟨psn, t, hfold⟩ := foldl_stores l h.unprotected
  rw [← horder] at hfold
  have hend := after_straight (i := i) h hfold (straight_stores l) h.pipe h.land h.unprotected rfl rfl
  rw [hend.pool, get_storedSp]

/-- Settles O19: 512 aligned bytes that are free raise no fault and no freeze, whatever the format. -/
theorem vectorWholeAccess : Obligations.VectorWholeAccess := by
  unfold Obligations.VectorWholeAccess
  intro s d a i ea hfree
  exact ⟨fun hsound p hp => does_vld (exec_vldForms d a i p hp) hfree hsound, does_vst hfree⟩

/-- Settles O20: lanes that are free raise no fault and no freeze, and of a bundle's stores to one byte the last stands. -/
theorem vectorLaneAccess : Obligations.VectorLaneAccess := by
  unfold Obligations.VectorLaneAccess
  intro s d a x f
  exact ⟨fun hfree => ⟨does_vlds hfree, does_vsts hfree⟩, fun hfree htag => ⟨does_vldx htag hfree, does_vstx htag hfree⟩, fun hfree hsound => does_vldb rfl hfree hsound,
    fun j l hplain b => sp_after_stores hplain j l b⟩

end Sys2Proof.Proofs
